-- ==== Sys2Proof/Word.lean ====
section
/-! DEFINITION. The word types of the MR-470 and their plainest arithmetic: what the manual treats as bits
(register contents of a teller, positions, bytes of a memory) is a bit vector, everything else is a number. -/

namespace Sys2Proof

/-- A 32-bit word: a teller's general register, an instruction word (R5, R60, R64). -/
abbrev Word := BitVec 32

/-- A 64-bit position in WPOS format: 48 whole-line bits over 16 fraction bits (R8, R60). -/
abbrev Pos := BitVec 64

/-- A byte of a memory. -/
abbrev Byte := BitVec 8

/-- Saturating increment of a counter `width` bits wide. -/
def satInc (width v : Nat) : Nat := if v + 1 < 2 ^ width then v + 1 else 2 ^ width - 1

/-- Saturating addition to a counter `width` bits wide. -/
def satAdd (width v n : Nat) : Nat := if v + n < 2 ^ width then v + n else 2 ^ width - 1

/-- Two's complement of an integer in `width` bits, as a number. -/
def toTwos (width : Nat) (x : Int) : Nat := (x % (2 ^ width : Int)).toNat

/-- The signed reading of a `width`-bit number. -/
def ofTwos (width v : Nat) : Int := if v < 2 ^ (width - 1) then (v : Int) else (v : Int) - 2 ^ width

/-- A signed number clamped to `width` bits. -/
def clampS (width : Nat) (x : Int) : Int :=
  if x < -(2 ^ (width - 1) : Int) then -(2 ^ (width - 1) : Int)
  else if x > (2 ^ (width - 1) : Int) - 1 then (2 ^ (width - 1) : Int) - 1 else x

/-- A number clamped to a range. -/
def clampN (lo hi v : Nat) : Nat := if v < lo then lo else if v > hi then hi else v

/-- Division truncated toward zero. -/
def tdiv (a b : Int) : Int := Int.tdiv a b

/-- The bytes of a number, least significant first. -/
def leBytes : Nat → Nat → List Byte
  | 0, _ => []
  | n + 1, v => BitVec.ofNat 8 v :: leBytes n (v / 256)

/-- The number some bytes spell, least significant first. -/
def ofLe : List Byte → Nat
  | [] => 0
  | b :: bs => b.toNat + 256 * ofLe bs

/-- Bits `hi` down to `lo` of a number. -/
def bits (v hi lo : Nat) : Nat := v / 2 ^ lo % 2 ^ (hi + 1 - lo)

end Sys2Proof
end

