-- ==== Sys2Proof/Payload.lean ====
section
/-! DEFINITION. The records and frames that commands carry and the node keeps: event records (R11), frame descriptors
(R125), ring frames (R354 to R362), mirror records (R320), orders (R110), locks (R118), messages (R361). Each is the
manual's layout with its fields by name. -/

namespace Sys2Proof

/-- The event record of R11 (32 bytes in host memory). -/
structure EventRec where
  type : Nat
  account : Nat
  seq : Nat
  wpos : Nat
  wall : Nat
  detail : Nat
  incident : Nat
  sub : Nat
  stby : Bool
  phase : Nat
deriving DecidableEq, Repr

/-- The 32 bytes of an event record (R11). -/
def EventRec.bytes (r : EventRec) : List Byte :=
  leBytes 2 r.type ++ leBytes 2 r.account ++ leBytes 4 r.seq ++ leBytes 8 r.wpos ++ leBytes 8 r.wall
    ++ leBytes 4 r.detail ++ leBytes 2 r.incident ++ leBytes 1 (r.sub + (if r.stby then 16 else 0)) ++ leBytes 1 r.phase

/-- The frame descriptor of R125 without its CRC. -/
structure Desc where
  frame : Nat
  length : Nat
  flags : Nat
  gap : Nat
  job : Nat
  tables : List Nat
deriving DecidableEq, Repr

/-- Three bytes per station, from byte 12 on (R125). -/
def tablesOf : Nat → List Byte → List Nat
  | 0, _ => []
  | n + 1, bs => ofLe (bs.take 3) :: tablesOf n (bs.drop 3)

/-- The descriptor some 64 bytes hold (R125). -/
def Desc.ofBytes (bs : List Byte) : Desc :=
  { frame := ofLe (bs.take 4), length := ofLe ((bs.drop 4).take 3), flags := ofLe ((bs.drop 7).take 1),
    gap := ofLe ((bs.drop 8).take 2), job := ofLe ((bs.drop 10).take 2), tables := tablesOf 16 (bs.drop 12) }

/-- The store address bits 47:24 of station `n`'s table, 0 for a station that images nothing (R125). -/
def Desc.table (d : Desc) (n : Nat) : Nat := d.tables.getD n 0

/-- POLICY of R126: 0 the press default, 1 VOID, 2 REPEAT. -/
def Desc.policy (d : Desc) : Nat := d.flags % 4

/-- REPEATABLE of R126. -/
def Desc.repeatable (d : Desc) : Bool := d.flags / 4 % 2 = 1

/-- The frame number that means "no frame" (R125). -/
def noFrame : Nat := 0xFFFFFFFF

/-- The geometry of a void slot: no frame, tables 0 (R124, R360). -/
def Desc.void (length gap : Nat) : Desc :=
  { frame := noFrame, length := length, flags := 0, gap := gap, job := 0, tables := List.replicate 16 0 }

/-- The geometry fixed when a run opens (R123): its stations, the lead station, and the lags of stations 0 to 15. -/
structure Geo where
  stns : Nat
  lead : Nat
  lags : List Nat
deriving DecidableEq, Repr

/-- No geometry: no station. -/
def Geo.none : Geo := ⟨0, 0, []⟩

/-- The lag of a station (R123). -/
def Geo.lag (g : Geo) (n : Nat) : Nat := g.lags.getD n 0

/-- The largest lag of the stations that take part. -/
def Geo.maxLag (g : Geo) : Nat := (List.range 16).foldl (fun m n => if g.stns.testBit n then max m (g.lag n) else m) 0

/-- The close record of R134, R360. KIND: 1 FRAME, 2 REPEAT, 3 VOID. -/
structure CloseRec where
  slot : Nat
  kind : Nat
  reason : Nat
  ec : Nat
  x : Nat
  desc : Desc
deriving DecidableEq, Repr

/-- The void record and void report of R136, R360. -/
structure VoidRec where
  slot : Nat
  reason : Nat
  station : Nat
  incident : Nat
  frame : Nat
deriving DecidableEq, Repr

/-- The payload of a beacon (R40, R359); TERM stands in the frame header. -/
structure Beacon where
  seq : Nat
  wpos : Nat
  vel : Nat
  resid : Nat
  inhibit : Bool
deriving DecidableEq, Repr

/-- An order as the ledger holds it (R110, R111). -/
structure Order where
  acct : Nat
  book : Nat
  bseq : Nat
  pred : Option Nat
  body : List Byte
  taker : Option Nat
  aband : Bool
  bad : Bool
deriving DecidableEq, Repr

/-- A lock (R118, R120). `holder = none`: free; a teller holder carries the account it had when it acquired the lock;
`aband` is the ABANDONED mark, `fresh` says that the present holder acquired the lock with the mark still to clear. -/
inductive Holder
  | teller (t acct : Nat)
  | host (acct : Nat)
deriving DecidableEq, Repr

/-- The state of one lock. -/
structure Lock where
  holder : Option Holder
  aband : Bool
deriving DecidableEq, Repr

/-- A message body with its source endpoint, and the submission words that go to a ledger (R361). `acct`: the account
the message is sent under, for a teller its TLR_ACCTn (R110). DESIGN CHOICE (log entry 18). -/
structure Msg where
  src : Nat
  body : List Byte
  word : Nat
  pred : Nat
  acct : Nat
deriving DecidableEq, Repr

/-- The run of a snapshot: whether it is open and asked to stop, the next x and EC, the slot before, the slot closed last,
the end of the last slot, and the geometry (R132, R138). -/
structure RunSnap where
  runOpen : Bool
  stopReq : Bool
  x : Nat
  ec : Nat
  prev : Option (Nat × Desc)
  lastClosed : Option (Nat × Nat)
  lastEnd : Option Nat
  geo : Option Geo
deriving DecidableEq, Repr

/-- One piece of ledger, escrow or lock state of a SNAPSHOT record (R320); the manual leaves its form open. A damaged
frame is sent with the incident of its damage. -/
inductive SnapPiece
  | order (h : Nat) (o : Order)
  | book (index next head last : Nat)
  | frame (d : Desc) (bad : Option Nat)
  | slot (c : CloseRec) (g : Geo)
  | run (r : RunSnap)
  | lock (l : Nat) (k : Lock)
  | last
deriving DecidableEq, Repr, Inhabited

/-- The data of a mirror record by KIND (R320). -/
inductive MirData
  /-- 1 TELLER_OP: what the instruction wrote to data memory. -/
  | tellerOp (data : List Byte)
  /-- 2 HOST_OP: the mailbox words and the reply word. -/
  | hostOp (words : List Nat) (reply : Nat)
  | close (c : CloseRec)
  | void (v : VoidRec)
  | event (r : EventRec)
  | snapshot (p : SnapPiece)
  | swapmark (mseq : Nat)
  /-- A reserved KIND. -/
  | reserved (kind : Nat)
deriving DecidableEq, Repr

/-- The mirror record of R320. -/
structure MirRec where
  mseq : Nat
  term : Nat
  teller : Nat
  status : Nat
  inst : Nat
  aux : Nat
  data : MirData
deriving DecidableEq, Repr

/-- The mirror record is the EVENT of an event record. -/
def MirRec.isEvent (q : MirRec) (r : EventRec) : Bool :=
  match q.data with
  | .event e => e.account = r.account && e.seq = r.seq
  | _ => false

/-- What a ring frame carries, one constructor per TYPE of R355. -/
inductive RingMsg
  | beacon (b : Beacon)
  | close (c : CloseRec)
  | endrun (slot ec : Nat)
  | void (v : VoidRec)
  | voidrep (v : VoidRec)
  | mirror (m : MirRec)
  | watermark (sent settled event : Nat)
  | mirack (mseq : Nat)
  | mirreq (first last : Nat)
  | probe (seq : Nat)
  | probeans (seq : Nat)
  | relinquish
  | swapreq (seq : Nat)
  | swapack (seq : Nat) (agreed : Bool)
  | msg (m : Msg)
  | msgstat (status dst : Nat)
  | stopreq (reason : Nat)
  | stopnow (incident reason : Nat)
  | hello (serial strap role portmap dlyA dlyB : Nat)
  | assign (serial node role pathA pathB : Nat)
  | config (pairs : List (Nat × Nat))
  | dlyprobe (time : Nat)
  | dlyecho (time : Nat)
  | linkctl (lseq : Nat) (nak : Bool)
deriving DecidableEq, Repr

/-- What the checks of R355 and R357 find in a received ring frame beside its numbers: a wrong CRC; a reserved field or a
TYPE the manual does not list. DEDUCED (log entry 75). -/
inductive FrameErr
  | none
  | crc
  | form
deriving DecidableEq, Repr

/-- The header of a received ring frame (R354): the direction it came on (0 A, 1 B), DST (none: BCAST), the sender's TERM,
the source node, the hop sequence number, HOPS, WRAPPED, and what its checks find. -/
structure Hdr where
  dir : Nat
  dst : Option Nat
  term : Nat
  src : Nat
  lseq : Nat
  hops : Nat
  wrapped : Bool
  err : FrameErr
deriving DecidableEq, Repr

/-- A ring frame that leaves a node (R354). -/
structure RingFrame where
  dst : Option Nat
  src : Nat
  term : Nat
  hops : Nat
  wrapped : Bool
  lseq : Nat
  m : RingMsg
deriving DecidableEq, Repr

/-- The straps of R382: ROLE[1:0], TEST_EN and the two I²C address bits. -/
structure Straps where
  role : Nat
  testEn : Bool
  i2cAddr : Nat
deriving DecidableEq, Repr

/-- What happens at an encoder input (R36, R37): a legal step up or down, an illegal quadrature step, a sin/cos
amplitude leaving its range, and its return at a phase of 0 to 4,095 steps. -/
inductive EncEvent
  | step (up : Bool)
  | illegal
  | ampFault (held : Nat)
  | ampReturn (phase : Nat)
deriving DecidableEq, Repr

/-- An active namespace of a drive as Identify shows it (R197): its NSID, its size in bytes, the LBA and metadata
sizes. -/
structure Namespace where
  nsid : Nat
  bytes : Nat
  lba : Nat
  meta_ : Nat
deriving DecidableEq, Repr

/-- What a drive answers to Identify and Set Features (R196 to R198): an identity, the queue pairs it grants, its maximum
data transfer size in bytes (0: no limit) and its active namespaces. -/
structure DriveId where
  ident : Nat
  queues : Nat
  maxData : Nat
  spaces : List Namespace
deriving DecidableEq, Repr

/-- A violation of a drive (R211, R215): a completion that names no command or carries a wrong phase, an access outside
the memory assigned to it, or a malformed or poisoned TLP. -/
inductive DriveViol
  | completion
  | access
  | badTlp
deriving DecidableEq, Repr

/-- The store label (R196). -/
structure Label where
  ndrv : Nat
  mirror : Bool
  idents : List Nat
deriving DecidableEq, Repr

/-- What the test of an audit measured (R297): nothing beside the slots and sweeps counted for LANE and EMIT; for COMP the
crossing decisions of the bank and of the spare bank; for DMACH the pattern and the copy; for SCAN how far from its place
in ps the test pulse was seen and after how many µs the pixel PLL had locked; for DRIVE what the drive answered to Identify
and the label read from it; for ADC how many LSB zero and the two reference levels were off. -/
inductive AudResult
  | counted
  | decisions (bank spare : List Bool)
  | copy (pattern result : List Byte)
  | scan (pulse : Option Int) (lock : Option Nat)
  | levels (zero low high : Int)
  | drive (id : Option DriveId) (label : Option Label)
deriving DecidableEq, Repr

/-- The driver faults of R242. -/
inductive DrvFault
  | desatHs (c : Nat)
  | desatLs (c : Nat)
  | bootUv (c : Nat)
  | vgdUv
deriving DecidableEq, Repr

/-- What the drive die measured in a die run (R290): the zero-reference sums of 64 conversions per converter, and the delay
of each SOS and EOS line against the test pulse, in ps. -/
structure CalMeas where
  zeros : List Int
  delays : List Int
deriving DecidableEq, Repr

/-- The branch conditions of R66: always, on a predicate, on its complement. -/
inductive Cond
  | always
  | q (n : Nat)
  | nq (n : Nat)
deriving DecidableEq, Repr

end Sys2Proof
end

