-- ==== Sys2Proof/Syntax.lean ====
section
/-! DEFINITION. The commands of the MR-470: one constructor per row of spec/opcode_table.json, with the row's operands.
A teller instruction carries the number of the teller that executes it. -/

namespace Sys2Proof

/-- A command or event of the table. -/
inductive Instr
  /-- POWER_ON_RESET (R382): Release of the power-on reset once every logic-die rail has been in range for 2 ms resets both dies and samples the straps. -/
  | powerOnReset (x : Straps) (edgesA edgesB : Bool)
  /-- SUPPLY_DROP (R382): A logic-die rail falling 5 % below its minimum for 1 µs asserts the power-on reset again. -/
  | supplyDrop
  /-- RESET_N (R382): RESET_N held low for at least 1 µs gives a chip reset with GLB_RSTCAUSE.CAUSE = 1. -/
  | resetN (x : Straps)
  /-- BOOT_VERIFY (R365): When the flash read of a firmware image completes, the vault boot code verifies it, starts the management cores or falls back to firmware B, or fails. -/
  | bootVerify (sfdp flash : List Byte)
  /-- CHIPRST (R28): A GLB_RESET write with the correct key and CHIPRST set resets both dies and resamples the straps. -/
  | chiprst (key : Nat) (x : Straps)
  /-- LOGICRST (R28): A GLB_RESET write with LOGICRST set resets the logic die except the always-on island. -/
  | logicrst (key : Nat)
  /-- DRIVERST (R394): A GLB_RESET write with DRIVERST set resets the drive die, releases its outputs and clears the brake-chopper ARM latches. -/
  | driverst (key : Nat)
  /-- REGISTER_WRITE (R5): A write to a register with no behaviour of its own sets its fields, or is discarded and counted under the rules of its register map. -/
  | registerWrite (bar a v be : Nat)
  /-- PORTMAP_WRITE (R22): A GLB_PORTMAP write binds ports to stations, or is discarded whole with MAPERR on a duplicate, while imaging, or on Manager or Standby. -/
  | portmapWrite (v : Nat)
  /-- OUTEN_WRITE (R28): A GLB_DRVEN.OUTEN write enables the drive die's outputs, or releases them on 0, or is discarded with ENERR. -/
  | outenWrite (on : Bool)
  /-- DRIVE_LINK_FRAME (R394): A drive-link frame arriving at the drive die applies the forwarded drive-die settings it carries and restarts the heartbeat. -/
  | driveLinkFrame (vsw : List Nat)
  /-- HEARTBEAT_LOSS (R15): After 2 µs without a valid drive-link frame the drive die releases every output to high impedance and sets its heartbeat-loss flag. -/
  | heartbeatLoss
  /-- ROLE_CONFIRM (R17): After 10 ms of HELLO during discovery a node strapped Manager or Standby confirms its role, or stays Unconfirmed with CONFLICT. -/
  | roleConfirm
  /-- ENCODER_EDGE (R37): An edge or interpolated step of an encoder input updates its count and, for the master input, the raw position and WPOS. -/
  | encoderEdge (n : Nat) (e : EncEvent) (vel : Int)
  /-- BEACON_SEND (R40): Every 1 µs the Manager's beacon generator sends a beacon with WPOS, velocity, INHIBIT and TERM on both ring directions. -/
  | beaconSend
  /-- BEACON (R41): A received beacon is discarded if stale, adopts a new TERM, and corrects or resynchronises the estimator. -/
  | beacon (h : Hdr) (b : Beacon)
  /-- DEAD_RECKONING (R44): Three missing beacons switch the node to dead-reckoning with frozen velocity and set BCNLOSS. -/
  | deadReckoning
  /-- POSITION_LOST (R44): No beacon for TIM_DRLIMIT sets POSLOST. -/
  | positionLost
  /-- LINE_MASTER_EDGE (R47): A rising edge on the line-master input is counted into the line-master position and rate. -/
  | lineMasterEdge (interval : Nat)
  /-- LINE_MASTER_TIMEOUT (R47): No line-master edge for TIMEOUT µs sets LMLOST and makes TIM_LMRATE read 0. -/
  | lineMasterTimeout
  /-- TIM_WPOSLO_READ (R56): A read of TIM_WPOSLO captures TIM_WPOSHI. -/
  | timWposloRead
  /-- TIM_HWMLO_READ (R56): A read of TIM_HWMLO captures TIM_HWMHI. -/
  | timHwmloRead
  /-- CLD_DATE_READ (R56): A read of CLD_DATE captures date, time and nanoseconds at one instant. -/
  | cldDateRead
  /-- CLD_WTLO_READ (R56): A read of CLD_WTLO captures CLD_WTHI. -/
  | cldWtloRead
  /-- CLD_COMMIT (R54): A write of CLD_COMMIT.GO checks the staged date and time whole and loads them, or refuses with BADDATE or PTPOWN. -/
  | cldCommit
  /-- SECOND_ROLLOVER (R53): The calendar advances by one second at each second rollover of wall time. -/
  | secondRollover
  /-- CLD_TIMER_ARM (R51): A 1 in CLD_TMRCTL.ARM arms a wall-time timer with its deadline, firing at once if it has passed. -/
  | cldTimerArm (n : Nat)
  /-- CLD_TIMER_DISARM (R51): A 1 in CLD_TMRCTL.DISARM disarms a wall-time timer without firing. -/
  | cldTimerDisarm (n : Nat)
  /-- WALL_TIMER_FIRE (R51): A wall-time timer reaching its deadline fires once, sets FIRED, disarms and may set TEV.CLD in its routed teller. -/
  | wallTimerFire (n : Nat)
  /-- PTP_SYNC (R353): A PTP Sync interval updates the offset, starts tracking after eight good intervals, and slews or steps wall time. -/
  | ptpSync (offset : Int) (mpd : Nat)
  /-- PTP_SYNC_LOSS (R353): Three Sync intervals without a Sync end tracking, set GMLOST and let wall time run free. -/
  | ptpSyncLoss
  /-- ADD (R68): ADD writes gs + gt to gd. -/
  | add (t rd rs rt : Nat)
  /-- SUB (R68): SUB writes gs − gt to gd. -/
  | sub (t rd rs rt : Nat)
  /-- AND (R68): AND writes the bitwise AND to gd. -/
  | and (t rd rs rt : Nat)
  /-- OR (R68): OR writes the bitwise OR to gd. -/
  | or (t rd rs rt : Nat)
  /-- XOR (R68): XOR writes the bitwise XOR to gd. -/
  | xor (t rd rs rt : Nat)
  /-- SLL (R68): SLL shifts gs left by gt bits 4:0. -/
  | sll (t rd rs rt : Nat)
  /-- SRL (R68): SRL shifts gs right logically. -/
  | srl (t rd rs rt : Nat)
  /-- SRA (R68): SRA shifts gs right arithmetically. -/
  | sra (t rd rs rt : Nat)
  /-- MUL (R68): MUL writes the low 32 bits of the product. -/
  | mul (t rd rs rt : Nat)
  /-- MULH (R68): MULH writes the high 32 bits of the signed product. -/
  | mulh (t rd rs rt : Nat)
  /-- MULHU (R68): MULHU writes the high 32 bits of the unsigned product. -/
  | mulhu (t rd rs rt : Nat)
  /-- DIVU (R68): DIVU writes the unsigned quotient, or 0 and counts in TLR_DIVZn on a zero divisor. -/
  | divu (t rd rs rt : Nat)
  /-- REMU (R68): REMU writes the unsigned remainder, or 0 and counts on a zero divisor. -/
  | remu (t rd rs rt : Nat)
  /-- DIV (R68): DIV writes the signed quotient with saturation and zero-divisor handling. -/
  | div (t rd rs rt : Nat)
  /-- REM (R68): REM writes the signed remainder with the sign of gs. -/
  | rem (t rd rs rt : Nat)
  /-- MIN (R68): MIN writes the signed minimum. -/
  | min (t rd rs rt : Nat)
  /-- MAX (R68): MAX writes the signed maximum. -/
  | max (t rd rs rt : Nat)
  /-- MINU (R68): MINU writes the unsigned minimum. -/
  | minu (t rd rs rt : Nat)
  /-- MAXU (R68): MAXU writes the unsigned maximum. -/
  | maxu (t rd rs rt : Nat)
  /-- ADDS (R68): ADDS writes the saturated signed sum. -/
  | adds (t rd rs rt : Nat)
  /-- SUBS (R68): SUBS writes the saturated signed difference. -/
  | subs (t rd rs rt : Nat)
  /-- SEL (R68): SEL.qn writes gs if qn is 1, else gt. -/
  | sel (t n rd rs rt : Nat)
  /-- CLZ (R68): CLZ writes the number of leading zeros of gs. -/
  | clz (t rd rs : Nat)
  /-- POPC (R68): POPC writes the number of 1 bits of gs. -/
  | popc (t rd rs : Nat)
  /-- XADD (R68): XADD atomically reads a data-memory word into gd and adds gt to it. -/
  | xadd (t rd rs rt : Nat)
  /-- XSWAP (R68): XSWAP atomically reads a data-memory word into gd and replaces it with gt. -/
  | xswap (t rd rs rt : Nat)
  /-- CMPEQ (R69): CMPEQ sets qd to gs = gt. -/
  | cmpeq (t rd rs rt : Nat)
  /-- CMPNE (R69): CMPNE sets qd to gs ≠ gt. -/
  | cmpne (t rd rs rt : Nat)
  /-- CMPLT (R69): CMPLT sets qd to signed gs < gt. -/
  | cmplt (t rd rs rt : Nat)
  /-- CMPGE (R69): CMPGE sets qd to signed gs ≥ gt. -/
  | cmpge (t rd rs rt : Nat)
  /-- CMPLTU (R69): CMPLTU sets qd to unsigned gs < gt. -/
  | cmpltu (t rd rs rt : Nat)
  /-- CMPGEU (R69): CMPGEU sets qd to unsigned gs ≥ gt. -/
  | cmpgeu (t rd rs rt : Nat)
  /-- QAND (R69): QAND sets qd to qs AND qt. -/
  | qand (t rd rs rt : Nat)
  /-- QOR (R69): QOR sets qd to qs OR qt. -/
  | qor (t rd rs rt : Nat)
  /-- QXOR (R69): QXOR sets qd to qs XOR qt. -/
  | qxor (t rd rs rt : Nat)
  /-- QNOT (R69): QNOT sets qd to NOT qs. -/
  | qnot (t rd rs : Nat)
  /-- PCMPEQ (R69): PCMPEQ sets qd to ps = pt. -/
  | pcmpeq (t rd rs rt : Nat)
  /-- PCMPLT (R69): PCMPLT sets qd to unsigned ps < pt. -/
  | pcmplt (t rd rs rt : Nat)
  /-- PCMPGE (R69): PCMPGE sets qd to unsigned ps ≥ pt. -/
  | pcmpge (t rd rs rt : Nat)
  /-- PADD (R70): PADD writes ps + pt to pd. -/
  | padd (t rd rs rt : Nat)
  /-- PSUB (R70): PSUB writes ps − pt to pd. -/
  | psub (t rd rs rt : Nat)
  /-- PMOV (R70): PMOV copies ps to pd. -/
  | pmov (t rd rs : Nat)
  /-- PMAX (R70): PMAX writes the unsigned larger of ps and pt to pd. -/
  | pmax (t rd rs rt : Nat)
  /-- MVGP (R70): MVGP forms pd from gt (high) and gs (low). -/
  | mvgp (t rd rs rt : Nat)
  /-- MVPGL (R70): MVPGL writes ps bits 31:0 to gd. -/
  | mvpgl (t rd rs : Nat)
  /-- MVPGH (R70): MVPGH writes ps bits 63:32 to gd. -/
  | mvpgh (t rd rs : Nat)
  /-- PADDI (R71): PADDI adds a signed whole-line delta to ps. -/
  | paddi (t pd ps : Nat) (imm : BitVec 16)
  /-- PADDFI (R71): PADDFI adds a signed fraction delta to ps. -/
  | paddfi (t pd ps : Nat) (imm : BitVec 16)
  /-- RDPOS (R71): RDPOS writes the published WPOS to pd. -/
  | rdpos (t pd : Nat)
  /-- PSTN (R71): PSTN turns a station position into WPOS by adding the station offset. -/
  | pstn (t pd ps station : Nat)
  /-- PWRT (R71): PWRT turns a write position into WPOS by adding offset minus drum arc. -/
  | pwrt (t pd ps station : Nat)
  /-- WAITPOS (R72): WAITPOS completes if WPOS ≥ ps, otherwise puts the teller in the waiting state. -/
  | waitpos (t ps : Nat)
  /-- WAITPOS_RESUME (R72): A waiting WAITPOS completes 2 cycles after WPOS first reaches ps. -/
  | waitposResume (t : Nat)
  /-- ARM (R73): ARM records a target on an own comparator, marks it armed and draws a new arming sequence value. -/
  | arm (t ps n : Nat)
  /-- DISARM (R73): DISARM disarms an own comparator, winning over a crossing in the same cycle. -/
  | disarm (t n : Nat)
  /-- RDHWM (R71): RDHWM writes TIM_HWM to pd, or 0 on a Worker. -/
  | rdhwm (t pd : Nat)
  /-- ADDI (R74): ADDI adds a sign-extended immediate. -/
  | addi (t rd rs : Nat) (imm : BitVec 16)
  /-- ANDI (R74): ANDI ANDs with a zero-extended immediate. -/
  | andi (t rd rs : Nat) (imm : BitVec 16)
  /-- ORI (R74): ORI ORs with a zero-extended immediate. -/
  | ori (t rd rs : Nat) (imm : BitVec 16)
  /-- XORI (R74): XORI XORs with a zero-extended immediate. -/
  | xori (t rd rs : Nat) (imm : BitVec 16)
  /-- LDHI (R74): LDHI places the immediate in the high half of gd. -/
  | ldhi (t rd : Nat) (imm : BitVec 16)
  /-- SLLI (R74): SLLI shifts left by an immediate. -/
  | slli (t rd rs sh : Nat)
  /-- SRLI (R74): SRLI shifts right logically by an immediate. -/
  | srli (t rd rs sh : Nat)
  /-- SRAI (R74): SRAI shifts right arithmetically by an immediate. -/
  | srai (t rd rs sh : Nat)
  /-- LW (R74): LW loads a word from data memory. -/
  | lw (t rd rs : Nat) (imm : BitVec 16)
  /-- LH (R74): LH loads a sign-extended half-word. -/
  | lh (t rd rs : Nat) (imm : BitVec 16)
  /-- LHU (R74): LHU loads a zero-extended half-word. -/
  | lhu (t rd rs : Nat) (imm : BitVec 16)
  /-- LB (R74): LB loads a sign-extended byte. -/
  | lb (t rd rs : Nat) (imm : BitVec 16)
  /-- LBU (R74): LBU loads a zero-extended byte. -/
  | lbu (t rd rs : Nat) (imm : BitVec 16)
  /-- SW (R74): SW stores a word with fresh check bits. -/
  | sw (t rt rs : Nat) (imm : BitVec 16)
  /-- SH (R74): SH stores a half-word, reading the word first. -/
  | sh (t rt rs : Nat) (imm : BitVec 16)
  /-- SB (R74): SB stores a byte, reading the word first. -/
  | sb (t rt rs : Nat) (imm : BitVec 16)
  /-- RDR (R74): RDR reads a BAR0 register after every earlier WRR of the teller has taken effect. -/
  | rdr (t rd rs : Nat) (imm : BitVec 16)
  /-- WRR (R84): WRR enters a register write into the teller's in-order queue, stalling if it is full. -/
  | wrr (t rt rs : Nat) (imm : BitVec 16)
  /-- WRR_TAKES_EFFECT (R84): A queued WRR write reaches its register and takes effect in program order. -/
  | wrrTakesEffect (t : Nat)
  /-- FABRIC_TIMEOUT (R84): A WRR or RDR unanswered within 2 µs raises BUSERR and discards the writes behind it. -/
  | fabricTimeout (t : Nat) (rdr : Option Nat)
  /-- PLD (R74): PLD loads 8 bytes into pd. -/
  | pld (t pd rs : Nat) (imm : BitVec 16)
  /-- PST (R74): PST stores pt to 8 bytes. -/
  | pst (t rt rs : Nat) (imm : BitVec 16)
  /-- CMPEQI (R74): CMPEQI sets qd to gs = sext(imm). -/
  | cmpeqi (t rd rs : Nat) (imm : BitVec 16)
  /-- CMPLTI (R74): CMPLTI sets qd to signed gs < sext(imm). -/
  | cmplti (t rd rs : Nat) (imm : BitVec 16)
  /-- CMPLTUI (R74): CMPLTUI sets qd to unsigned gs < imm. -/
  | cmpltui (t rd rs : Nat) (imm : BitVec 16)
  /-- JMPR (R74): JMPR writes the return address and jumps to gs + sext(imm). -/
  | jmpr (t rd rs : Nat) (imm : BitVec 16)
  /-- B (R75): B.cond branches when its condition holds. -/
  | b (t : Nat) (cond : Cond) (off : BitVec 22)
  /-- BL (R75): BL.cond branches and writes the link register when taken. -/
  | bl (t : Nat) (cond : Cond) (off : BitVec 22)
  /-- FENCE (R77): FENCE waits until every earlier WRR has taken effect. -/
  | fence (t : Nat)
  /-- HALT (R77): HALT halts the teller with PC at the next instruction. -/
  | halt (t : Nat)
  /-- TRAP (R77): TRAP raises trap TRAP with TLR_TVALn := k. -/
  | trap (t k : Nat)
  /-- ERET (R77): ERET returns to TLR_EPCn and clears TM, or is illegal when TM = 0. -/
  | eret (t : Nat)
  /-- BRK (R77): BRK raises trap BRK. -/
  | brk (t : Nat)
  /-- RDCYC (R77): RDCYC writes CYC to gd. -/
  | rdcyc (t rd : Nat)
  /-- TELLER_WATCHDOG (R82): A wait outlasting the teller's watchdog period raises WDOG at that instruction. -/
  | tellerWatchdog (t : Nat)
  /-- WAITEV (R81): WAITEV captures and clears pending TEV bits in the mask, or starts waiting. -/
  | waitev (t rd rs : Nat)
  /-- WAITEV_RESUME (R81): A waiting WAITEV captures and clears the bits 2 cycles after a masked TEV bit is set. -/
  | waitevResume (t : Nat)
  /-- TSIG (R77): TSIG sets an event bit of another teller. -/
  | tsig (t rd rs b : Nat)
  /-- EVCLR (R77): EVCLR clears TEV bits named in gs. -/
  | evclr (t rs : Nat)
  /-- CLAIM (R77): CLAIM claims a customer endpoint for the teller. -/
  | claim (t rd rs : Nat)
  /-- RECV (R77): RECV moves the oldest message for the teller's endpoints into data memory. -/
  | recv (t rd rt : Nat)
  /-- COMMIT (R129): COMMIT checks a frame descriptor and presents it to the escrow commit port. -/
  | commit (t rd rs : Nat)
  /-- TAKE (R113): TAKE takes the oldest takeable order of a book into data memory. -/
  | take (t rd rs rt : Nat)
  /-- SETTLE (R114): SETTLE settles the oldest unsettled order of its book, frees its slot and posts ORDER_SETTLED. -/
  | settle (t rd rs rt : Nat)
  /-- LACQ (R118): LACQ tries a lock without waiting, deciding BADARG, RANK, BUSY, ABANDONED or OK. -/
  | lacq (t rd rs : Nat)
  /-- LREL (R119): LREL releases a held lock and sets TEV.LCK in a teller last refused it. -/
  | lrel (t rd rs : Nat)
  /-- MBPOST (R77): MBPOST sends a 64-byte body to an endpoint, or submits an order to the own ledger. -/
  | mbpost (t rd rs rt : Nat)
  /-- EVPOST (R77): EVPOST posts a customer event record to the teller's own account. -/
  | evpost (t rd rs rt : Nat)
  /-- DMAKICK (R223): DMAKICK adds a software trigger to a DMA channel. -/
  | dmakick (t rd rs : Nat)
  /-- AUDIT (R298): AUDIT requests an audit code, running it at once, deferring it, or refusing it. -/
  | audit (t rd rs pn : Nat)
  /-- TLR_GO (R90): A TLR_GO write starts each named halted or trap-halted teller at its PC. -/
  | tlrGo (mask : Nat)
  /-- TLR_STOP (R90): A TLR_STOP write halts each named teller at the next instruction boundary. -/
  | tlrStop (mask : Nat)
  /-- TLR_RST (R90): A TLR_RST write with key resets each named teller, releasing locks, returning orders and disarming comparators. -/
  | tlrRst (key mask : Nat)
  /-- COMPARATOR_CROSSING (R96): An armed comparator crossed by WPOS fires, fires late, drops, skips or is held. -/
  | comparatorCrossing
  /-- ACTION_FABRIC_ACK (R101): A timed-action write to a fabric-reached register takes effect on acknowledgement, releasing the stream behind it. -/
  | actionFabricAck
  /-- ACTION_WRITE_TIMEOUT (R100): A timed-action fabric write unacknowledged in 2 µs fails and counts BUSERR. -/
  | actionWriteTimeout
  /-- HELD_COMPARATOR_FIRE (R105): Held comparators fire in the first evaluation that sees INHIBIT clear. -/
  | heldComparatorFire
  /-- ACTION_ENTRY_WRITE (R99): A write to an action-table entry is accepted, or discarded with ENTERR when outside the bank or armed. -/
  | actionEntryWrite (who : Option Nat) (n word v : Nat)
  /-- P0CLR (R109): A TAU_P0CLR write with key releases every output of the named groups to PWM control. -/
  | p0clr (v : Nat)
  /-- ORDER_ECC_ERROR (R117): An uncorrectable error in a stored order sets ORDECC and marks the order damaged. -/
  | orderEccError (h : Nat)
  /-- RUN (R132): A write of ESC_CTL.RUN opens a run at ESC_ORIGIN, or is refused with CFGERR. -/
  | run
  /-- STOP (R138): A write of ESC_CTL.STOP requests the end of the run at the next close. -/
  | stop
  /-- COMMIT_ACCEPT (R130): The escrow commit port takes one commit per cycle, checks it against escrow and returns OK, LATE or a refusal. -/
  | commitAccept
  /-- ESCROW_CLOSE (R132): At EC(k) the Manager fills slot k with a frame, repeat or void, or ends the run, and sends the close record. -/
  | escrowClose
  /-- CLOSE (R134): A CLOSE ring record gives a Worker slot k's kind, descriptor and positions, or is discarded as a duplicate. -/
  | close (h : Hdr) (c : CloseRec)
  /-- SLOT_RELEASE (R134): At R(k, n) or later record arrival a Worker releases slot k to a station, reading its table and starting prefetch. -/
  | slotRelease (slot stn : Nat)
  /-- NOCLOSE (R134): No close record by x(k) + Δn images the slot blank and reports void NOCLOSE. -/
  | noclose (stn : Nat)
  /-- ENDRUN (R134): An end-of-run record ends the Worker's expectation of further slots. -/
  | endrun (h : Hdr) (slot ec : Nat)
  /-- SLOT_WINDOW_START (R124): A slot's imaging window begins at a station at x(k) + Δn. -/
  | slotWindowStart (slot stn : Nat)
  /-- SLOT_COMPLETE (R135): A slot that is not void leaves its last station and FRAME_DONE is posted. -/
  | slotComplete (slot : Nat)
  /-- VOIDREP (R136): A Worker's void report reaches the Manager, which records it and sends a void record to every node. -/
  | voidrep (h : Hdr) (v : VoidRec)
  /-- VOID (R136): A void record makes each station blank the slot according to where its window stands. -/
  | void (h : Hdr) (v : VoidRec)
  /-- ESC_VOIDREQ (R140): A write of ESC_VOIDREQ voids a slot with reason REQUEST, or forwards it to the Manager. -/
  | escVoidreq (slot : Nat)
  /-- DESCRIPTOR_ECC_ERROR (R139): An uncorrectable error in a stored descriptor sets DESCECC and voids its frame or slot. -/
  | descriptorEccError (waiting : Bool) (i : Nat)
  /-- SOS_EDGE (R147): An accepted SOS pulse is time-stamped, its WPOS recorded, and the phase error computed and delivered. -/
  | sosEdge (n rise width phase pp : Nat)
  /-- EOS_EDGE (R147): An accepted EOS pulse records the SOS-to-EOS duration. -/
  | eosEdge (n time pp width : Nat)
  /-- SOS_PREDICT (R148): An SOS missing at the end of its window is replaced by a prediction, or the SOS is declared lost beyond budget. -/
  | sosPredict (n phase : Nat)
  /-- SWEEP_BOUNDARY (R33): At the close of the strobe window staged parameters apply, f and H are recomputed and TEV.SWEEP may be set. -/
  | sweepBoundary (n late : Nat)
  /-- PLOCK_ENABLE (R151): A write of SCN_CTLn.PLOCKEN starts acquisition, or on 0 ends it at the next sweep boundary. -/
  | plockEnable (n : Nat) (on : Bool)
  /-- BAND_CHANGE (R154): In an idle period or frame gap the port changes band, relocks its PLL and retrains its head link. -/
  | bandChange (n : Nat)
  /-- PLL_LOSS_OF_LOCK (R159): 16 cycles of excess phase error or tuning voltage set LOL and void any window from the next sweep. -/
  | pllLossOfLock (n : Nat)
  /-- PROFILE_COMMIT (R156): PLL_PROFCTLn.COMMIT checks the staged profiles and applies them whole at a sweep boundary, or sets PROFERR. -/
  | profileCommit (n : Nat)
  /-- REFERENCE_WINDOW (R163): At the end of each 10 ms window each reference is graded, and an out-of-tolerance selected reference starts holdover. -/
  | referenceWindow (a b : Int)
  /-- REFERENCE_DEAD (R164): A reference with no edge for 40 ns is dead, setting DEAD and starting holdover if selected. -/
  | referenceDead (r : Nat)
  /-- REFERENCE_SWITCH (R166): At the first allowed instant the supervisor switches to the other healthy armed reference and posts REF_SWITCH. -/
  | referenceSwitch
  /-- SWREQ (R166): A write of PLL_REFCTL.SWREQ requests a switch under the rule of R166. -/
  | swreq
  /-- NOREF_TIMEOUT (R167): 60 s without a usable reference or switch instant sets NOREF, requests a stop and posts REF_NONE. -/
  | norefTimeout
  /-- LINK_TRAINING_START (R179): A write of HLK_CTLn.EN starts head-link training with training slots. -/
  | linkTrainingStart (n : Nat)
  /-- STATUS_FRAME (R178): A head status frame brings NAK, MISS, HSTAT and monitor readings, and advances link-up or link-loss counting. -/
  | statusFrame (n frame : Nat)
  /-- RETRY_START (R181): A retry block begins in the SPARE fields of its lane in slot m + 4 to m + 6. -/
  | retryStart (n : Nat)
  /-- MISS_REPORT_TIMEOUT (R182): An expected MISS not reported within 4 slots increments HLK_VIOL. -/
  | missReportTimeout (n : Nat)
  /-- TRAINING_TIMEOUT (R179): A link not up within HLK_TRAINTOn sets LINK and restarts training. -/
  | trainingTimeout (n : Nat)
  /-- OVERSCAN_REPORT_TIMEOUT (R190): An overscan current report not arriving within 64 slots marks the emitter dead. -/
  | overscanReportTimeout (n e : Nat)
  /-- LANE_RETURN (R184): After its audit passes and the quiet period ends, a spared lane returns at the next frame gap. -/
  | laneReturn (n : Nat)
  /-- FRAME_GAP_APPLY (R186): At a port's frame gap staged exposure-table, takeover settings and dead-mark clears apply. -/
  | frameGapApply (n : Nat)
  /-- DEADCLR_ALL (R190): A write of EXP_DEADCLRn.ALL clears every dead mark at the next frame gap. -/
  | deadclrAll (n : Nat)
  /-- DEADCLR_ONE (R190): A write of EXP_DEADCLRn.ONE clears one emitter's mark at the next frame gap. -/
  | deadclrOne (n e : Nat)
  /-- STORE_ENABLE (R196): A write of STO_CTL.EN reads the store label and brings the store on line or sets LABELERR. -/
  | storeEnable (drives : List DriveId) (label : Option Label)
  /-- STO_FORMAT (R196): A keyed STO_FORMAT write writes a new label and frees every unit. -/
  | stoFormat (key : Nat)
  /-- RESERVE (R199): The RESERVE command reserves a run of free units as a new extent. -/
  | reserve (a : Nat)
  /-- RELEASE (R199): The RELEASE command moves an extent to RELEASING and deallocates its units. -/
  | release (a : Nat)
  /-- RELEASE_COMPLETE (R199): When deallocation completes the extent's units and identifier are freed. -/
  | releaseComplete (ext : Nat)
  /-- INGEST (R200): The INGEST command opens an ingest into a RESERVED extent, which becomes FILLING. -/
  | ingest (a : Nat)
  /-- CANCEL (R339): The CANCEL command fails an open ingest with reason CANCEL. -/
  | cancel (a : Nat)
  /-- INGEST_DATAGRAM (R351): An ingest datagram in order is taken into the tile rows, or fails the ingest with GAP. -/
  | ingestDatagram (p : Nat) (bytes : List Byte)
  /-- INGEST_COMPLETE (R201): After the last tile the table is written, the drives flushed, the extent sealed and INGEST_DONE posted. -/
  | ingestComplete (ext : Nat)
  /-- INGEST_TIMEOUT (R201): No stream data for STO_INGTO ms fails the ingest with TIMEOUT. -/
  | ingestTimeout (ext : Nat)
  /-- PREFETCH_ISSUE (R208): When command slots and buffer space allow, the prefetcher issues reads in deadline order. -/
  | prefetchIssue
  /-- NVME_COMPLETION (R209): An NVMe completion delivers data, or on error starts a retry and may set DRIVEn. -/
  | nvmeCompletion (drive cid status : Nat) (data : List Byte)
  /-- NVME_TIMEOUT (R209): A command without completion for STO_CMDTO µs is retried and its buffer quarantined. -/
  | nvmeTimeout (cid : Nat)
  /-- READ_DEADLINE (R209): A read reaching its deadline without good data is lost, setting LOST and voiding with STORE. -/
  | readDeadline (slot stn row : Nat)
  /-- TILE_DECODE (R206): The front end decodes and checks a fetched tile, voiding the slot with CHECK on failure. -/
  | tileDecode (slot stn row col : Nat)
  /-- DRIVE_VIOLATION (R211): A drive's protocol violation is discarded or answered UR, counted and reported. -/
  | driveViolation (drive : Nat) (kind : DriveViol)
  /-- DMA_ARM (R226): A write of 1 to DMA_CTLn.ARM arms the channel unless it closes a trigger cycle. -/
  | dmaArm (n : Nat)
  /-- DMA_ABORT (R228): A write of 0 to ARM aborts the grain, drains, rewinds and disarms the channel. -/
  | dmaAbort (n : Nat)
  /-- DMA_PAUSE (R227): Setting DMA_CTLn.PAUSE stops new issue and drains the channel to PAUSED, and clearing it resumes. -/
  | dmaPause (n : Nat) (on : Bool)
  /-- GO (R222): A write of DMA_CTLn.GO adds a software trigger. -/
  | go (n : Nat)
  /-- CLRERR (R230): DMA_CTLn.CLRERR clears a halted channel's error and makes it idle. -/
  | clrerr (n : Nat)
  /-- CONT (R230): DMA_CTLn.CONT resumes a halted channel from its registers. -/
  | cont (n : Nat)
  /-- DMA_TIMER_EXPIRY (R222): A pacing timer expiring triggers the channels that name it. -/
  | dmaTimerExpiry (k : Nat)
  /-- DMA_TRIGGER (R223): A trigger arriving at a channel adds to PEND or is lost and counted. -/
  | dmaTrigger (n : Nat)
  /-- DMA_GRAIN_START (R224): An idle channel with a pending trigger takes it and starts one grain. -/
  | dmaGrainStart (n : Nat)
  /-- DESCRIPTOR_FETCH (R219): A fetched descriptor is checked and run, or halts the channel with BADDESC, RANGE or CHAIN_LIMIT. -/
  | descriptorFetch (n : Nat) (ok : Bool) (data : List Byte)
  /-- DMA_READ_COMPLETE (R220): A source beat's data enters the holding register and destination beats are written when enough bytes are held. -/
  | dmaReadComplete (n : Nat) (ok : Bool) (data : List Byte)
  /-- DMA_WRITE_COMPLETE (R225): A destination beat completes, completing the descriptor when it is the last and delivering its completions. -/
  | dmaWriteComplete (n : Nat)
  /-- DMA_TIMEOUT (R229): An unanswered descriptor read, data read or acknowledged write halts the channel with its error. -/
  | dmaTimeout (n what : Nat)
  /-- START (R251): MOT_CMD START begins sensing on a three-phase axis, or energises a stepper. -/
  | start (i : Nat)
  /-- SENSING_END (R251): After SENSEMS the induced voltage is classified and the axis catches, brakes, coasts or aligns. -/
  | sensingEnd (i amp freq : Nat) (fwd : Bool) (ang : Nat) (vsw : List Nat)
  /-- ALIGN_END (R251): After ALIGNMS the axis ramps in open loop toward handover. -/
  | alignEnd (i : Nat)
  /-- STOP_CMD (R253): MOT_CMD STOP abandons the target and decelerates within the limits. -/
  | stopCmd (i : Nat)
  /-- COAST (R257): MOT_CMD COAST turns both gates of the axis's channels off. -/
  | coast (i : Nat)
  /-- MOVE (R253): MOT_CMD MOVE starts a move to TARGET in POSITION mode. -/
  | move (i : Nat)
  /-- PWM_PERIOD (R238): At each axis valley currents are sampled, the observer and profile advance and the loops run. -/
  | pwmPeriod (i : Nat) (adc : List (Option Int))
  /-- ARC_HOLD_END (R272): After ARCOFF ms the HV set-point ramps up again from 0. -/
  | arcHoldEnd (h : Nat)
  /-- HV_REG_TIMEOUT (R272): An error beyond REGTOL for REGMS ms sets REG. -/
  | hvRegTimeout (h : Nat)
  /-- SWITCH_TRANSITION (R240): A timed switch-node transition adapts the strength step of the credited gate. -/
  | switchTransition (c : Nat) (hs : Bool) (start ns : Nat)
  /-- DRIVER_FAULT (R242): DESAT, BOOTUV or VGDUV detected on the drive die sets its sticky bit. -/
  | driverFault (f : DrvFault) (mv since : Nat)
  /-- BRAKE_COMPARATOR (R243): The supply sense crossing ON or OFF switches the brake chopper, and TRIP sets OVA or OVB. -/
  | brakeComparator (a mv : Nat)
  /-- BRAKE_ARM_WRITE (R243): A write of 1 to GDR_BRKCFGa.ARM sets the drive-die latch; a write of 0 while set is discarded. -/
  | brakeArmWrite (a : Nat) (v : Bool)
  /-- COEFFICIENT_COMMIT (R267): CTL_COMMITi.COMMIT checks the staged coefficients and applies them at the next execution, or sets COEFERR. -/
  | coefficientCommit (l : Nat)
  /-- RC_CLR (R268): A write of CLR zeroes a repetitive controller's memory at its next execution. -/
  | rcClr (r : Nat)
  /-- HV_ENABLE (R270): A write of HVS_CHCTLh.EN starts a channel, or ramps it to 0 and turns it off. -/
  | hvEnable (h : Nat) (on : Bool)
  /-- ACEN (R271): A write of ACEN ramps the developer AC amplitude up or down, reversing a running ramp. -/
  | acen (h : Nat) (on : Bool)
  /-- ZERO_CROSSING (R274): A mains zero crossing measures the half-cycle and fires the burst zones due. -/
  | zeroCrossing (half : Nat)
  /-- ZERO_CROSS_TIMEOUT (R274): No crossing for ZCTO ms turns every burst zone off and sets ZCLOST. -/
  | zeroCrossTimeout
  /-- ZONE_TEMP_UPDATE (R273): At 1 kHz each zone temperature is linearised and checked for over-temperature and sensor faults. -/
  | zoneTempUpdate (z : Nat) (adc : List (Option Int))
  /-- THERMAL_MODEL_UPDATE (R277): Each model updates its two nodes, corrects to its sensor and checks its thresholds. -/
  | thermalModelUpdate (m p : Nat) (die : Option Int) (adc : List (Option Int))
  /-- LIMIT_FACTOR_STEP (R279): Every THPER ms LIMFAC steps down while at THR or up while below THR − HYST. -/
  | limitFactorStep (m : Nat)
  /-- THERMAL_HARD_ACTION (R280): After the last window ends, with no run open, or at ABS, the model takes its hard action. -/
  | thermalHardAction (m : Nat)
  /-- REQ (R286): A CLB_CTL.REQ bit requests a head calibration run of a port. -/
  | req (n : Nat)
  /-- REQD (R286): CLB_CTL.REQD requests a die calibration run. -/
  | reqd
  /-- CALIBRATION_START (R287): A triggered run starts at the next sweep boundary, sets BUSY and the stale bit. -/
  | calibrationStart (n : Nat)
  /-- CALIBRATION_END (R287): After CLB_NMEAS sweeps the run writes every target and clears BUSY and stale. -/
  | calibrationEnd (n : Nat) (m : CalMeas)
  /-- CALIBRATION_ABANDON (R287): A run losing its link or exceeding CLB_MAXMS is abandoned and sets CALFAIL. -/
  | calibrationAbandon (n : Nat)
  /-- MARK_EDGE (R293): A mark-sensor edge is time-stamped against WPOS as a bar of a registration chevron. -/
  | markEdge (n : Nat)
  /-- REGISTRATION_CORRECTION (R294): Once a slot's last mark passes, relative errors are formed and corrections sent to the Workers. -/
  | registrationCorrection (slot : Nat)
  /-- MISSED_MARK (R295): A bar not seen within ±MWIN lines increments CLB_MISSMK. -/
  | missedMark (slot stn : Nat)
  /-- AUDIT_REQUEST (R298): A write of AUD_REQ requests an audit from the host. -/
  | auditRequest (code : Nat)
  /-- AUDIT_START (R299): A deferred audit starts at the first line of its gap. -/
  | auditStart (i : Nat)
  /-- AUDIT_SUSPEND (R299): An unfinished deferred audit releases its target before the next window. -/
  | auditSuspend (i : Nat)
  /-- AUDIT_COMPLETE (R301): A completed audit records its result, sets TEV.AUD and posts AUDIT_DONE. -/
  | auditComplete (i : Nat) (r : AudResult)
  /-- FAULT_SOURCE_EVENT (R307): A source event sets its sticky bit and opens or merges into the block's incident. -/
  | faultSourceEvent (b src : Nat) (given : Option Nat)
  /-- GRACE_EXPIRY (R309): At grace expiry the block takes the fixed escalation of each set source and enters AUDIT. -/
  | graceExpiry (b : Nat)
  /-- QUIET_PERIOD_END (R311): The end of the quiet period lifts escalations, closes the incident and posts FAULT_CLEARED. -/
  | quietPeriodEnd (b : Nat)
  /-- FLT_BLKRST (R312): A keyed FLT_BLKRST write reruns a LASTING block's audits and returns it to NORMAL if all pass. -/
  | fltBlkrst (key b : Nat)
  /-- PIN_READBACK_ERROR (R318): A fault-pair readback disagreeing for 10 µs sets PINERR. -/
  | pinReadbackError (p n : Bool)
  /-- LSI_OPEN (R319): An interlock channel opening drives every HLn_LEN low and voids imaging windows. -/
  | lsiOpen (aOpen bOpen : Bool)
  /-- LSI_SETTLED (R319): Both channels closed for SETTLEMS sets WAITREARM. -/
  | lsiSettled
  /-- LSI_DISCREPANCY (R319): Channels disagreeing beyond DISCMS set LSIDISC and latch the discrepancy. -/
  | lsiDiscrepancy (aOpen : Bool)
  /-- REARM (R319): A write of FLT_CTL.REARM after settling lets HLn_LEN go high again. -/
  | rearm
  /-- FLT_RUN (R383): A write of FLT_CTL.RUN = 1 makes the node engine-ready and lets the fault pair show healthy. -/
  | fltRun
  /-- MIRROR (R320): A mirror record is applied by the Standby in MSEQ order, and a gap requests a resend. -/
  | mirror (h : Hdr) (r : MirRec)
  /-- WATERMARK (R321): A watermark frame updates MSEQSENT, LASTSETTLED and LASTEVENT and draws ACKSEQ. -/
  | watermark (h : Hdr) (sent settled event : Nat)
  /-- MIRACK (R321): An ACKSEQ from the Standby releases host-bound effects up to that MSEQ. -/
  | mirack (h : Hdr) (mseq : Nat)
  /-- MIRREQ (R320): A request for missing mirror records is answered from the Manager's last 4,096. -/
  | mirreq (h : Hdr) (first last : Nat)
  /-- BEACON_MISSING (R324): An armed Standby missing beacons on both directions for 3 µs sends a loss probe. -/
  | beaconMissing
  /-- PROBE (R324): A loss probe is answered with the last Manager beacon SEQ seen. -/
  | probe (h : Hdr) (seq : Nat)
  /-- PROBEANS (R324): A probe answer is collected by the Standby toward confirmation. -/
  | probeans (h : Hdr) (seq : Nat)
  /-- PROBE_TIMEOUT (R324): At the end of the 4 µs wait the Standby confirms the loss and takes over, or aborts. -/
  | probeTimeout
  /-- ENABLE_SWAP_END (R326): At the end of the enable swap shadow copies become live, paired outputs are enabled and pending work aligned. -/
  | enableSwapEnd
  /-- RELINQUISH (R324): A RELINQUISH frame lets the armed Standby take over without detection. -/
  | relinquish (h : Hdr)
  /-- RELINQ (R324): A write of FLT_CTL.RELINQ on the Manager sends RELINQUISH and retires it. -/
  | relinq
  /-- OWN_BEACON_LOSS (R325): No own beacon returning for 3 µs, or a stopped generator, retires the Manager and releases its paired outputs. -/
  | ownBeaconLoss
  /-- SWAP (R329): A write of FLT_CTL.SWAP sends SWAPREQ, or is discarded with SWAPERR. -/
  | swap
  /-- SWAPREQ (R329): A received swap request is acknowledged, refused or merged with a crossing request. -/
  | swapreq (h : Hdr) (seq : Nat)
  /-- SWAPACK (R329): A swap acknowledgement agrees the swap and fixes the boundary. -/
  | swapack (h : Hdr) (seq : Nat) (agreed : Bool)
  /-- SWAP_BOUNDARY (R329): At beacon s + 8 the Manager becomes Standby and the former Standby beacons and enables its outputs. -/
  | swapBoundary
  /-- NODELOST (R328): A node missing for 10 µs makes the Manager void its stations' slots, end the run and post NODE_LOST. -/
  | nodelost (n : Nat)
  /-- ACC_RST (R335): A keyed ACC_RST write resets an account's locks, mailbox, held body and event queue. -/
  | accRst (key a : Nat) (vault : Bool)
  /-- BODY (R339): The BODY command replaces the account's held body. -/
  | body (a : Nat)
  /-- SUBMIT (R339): The SUBMIT command submits the held body as an order to the Manager's ledger. -/
  | submit (a : Nat)
  /-- SEND (R339): The SEND command sends the held body as a ring message. -/
  | send (a : Nat)
  /-- MB_COMMIT (R339): The mailbox COMMIT command commits a frame descriptor to escrow. -/
  | mbCommit (a : Nat)
  /-- MB_LACQ (R339): The mailbox LACQ command tries a lock with the account as holder. -/
  | mbLacq (a : Nat)
  /-- MB_LREL (R339): The mailbox LREL command releases a lock held by the account. -/
  | mbLrel (a : Nat)
  /-- LOAD (R368): The LOAD command fetches and verifies an envelope and hands its image to the loader. -/
  | load (a : Nat) (bytes : List Byte)
  /-- KEYPROV (R367): The KEYPROV command writes a public-key hash into an empty fuse slot. -/
  | keyprov (a : Nat)
  /-- KEYREVOKE (R367): The KEYREVOKE command burns a key slot's revoke fuse. -/
  | keyrevoke (a : Nat)
  /-- MAILBOX_TIMEOUT (R338): No reply ACC_CFGa.TMO ms after GO sets TIMEOUT and clears GO. -/
  | mailboxTimeout (a : Nat)
  /-- EVQ_HEAD_WRITE (R342): A HEAD write reports consumption and lets held records be written. -/
  | evqHeadWrite (a h : Nat)
  /-- EVQ_ENABLE (R342): Setting EVQ_CFGa.EN enables the queue with HEAD := TAIL. -/
  | evqEnable (a : Nat)
  /-- EVQ_DISABLE (R370): Clearing EVQ_CFGa.EN disables the queue and drops its held records. -/
  | evqDisable (a : Nat)
  /-- MSIX_MODERATION_EXPIRY (R346): At the end of a moderation interval one MSI-X message covers its records. -/
  | msixModerationExpiry (a : Nat)
  /-- FUNCTION_LEVEL_RESET (R348): A Function Level Reset resets every non-vault account and disables their vectors. -/
  | functionLevelReset
  /-- HOST_PERST_N (R384): HOST_PERST_N low resets the host port and acts as a Function Level Reset. -/
  | hostPerstN
  /-- ETHERNET_FRAME (R349): A received Ethernet frame is answered, passed to ingest or discarded and counted. -/
  | ethernetFrame (p : Nat) (bytes : List Byte) (full : Bool)
  /-- LINKCTL (R357): A link ACK or NAK releases or resends frames of the hop. -/
  | linkctl (h : Hdr) (lseq : Nat) (nak : Bool)
  /-- LINK_RETRANSMIT_TIMEOUT (R357): 400 ns without an ACK resends, and a third failure or 1 µs declares the link down. -/
  | linkRetransmitTimeout (d : Nat) (long : Bool)
  /-- MSG (R361): A ring message is queued for a claimed endpoint or submitted to the ledger, or refused with MSGSTAT. -/
  | msg (h : Hdr) (m : Msg)
  /-- MSGSTAT (R361): A refusal of a sent message posts MSG_FAIL at the source. -/
  | msgstat (h : Hdr) (status dst : Nat)
  /-- MSG_TIMEOUT (R361): A message neither accepted nor refused in 100 µs is reported as NOENDPOINT. -/
  | msgTimeout (ep dst : Nat)
  /-- STOPREQ (R364): A Worker's stop request asks the Manager to end the run. -/
  | stopreq (h : Hdr) (reason : Nat)
  /-- STOPNOW (R364): STOPNOW applies the stop forces, blanks every port and posts PRESS_STOP. -/
  | stopnow (h : Hdr) (incident reason : Nat)
  /-- NOW (R364): A write of RNG_STOP.NOW on the Manager sends STOPNOW and acts at once. -/
  | now
  /-- AUX_STOP_EDGE (R364): A rising edge on RNG_STOPCFG.AUXIN sends STOPNOW. -/
  | auxStopEdge (n : Nat)
  /-- HELLO (R362): A HELLO frame announces a node's serial, strap, role and port map during discovery. -/
  | hello (h : Hdr) (serial strap role portmap dlyA dlyB : Nat)
  /-- ASSIGN (R362): An ASSIGN frame gives a node its number, role and path delays. -/
  | assign (h : Hdr) (serial node role pathA pathB : Nat)
  /-- CONFIG (R362): A CONFIG frame writes the distributed offsets, drum arcs, seam and escrow parameters. -/
  | config (h : Hdr) (pairs : List (Nat × Nat))
  /-- DLYPROBE (R363): A delay probe is echoed by the neighbour. -/
  | dlyprobe (h : Hdr) (time : Nat)
  /-- DLYECHO (R363): A delay echo completes a round-trip measurement of the link. -/
  | dlyecho (h : Hdr) (time trip : Nat)
  /-- COMMITRB (R367): A write of VLT_CTL.COMMITRB raises VLT_ROLLBACK to the running firmware's value. -/
  | commitrb
  /-- VLT_ALIASDATA_WRITE (R373): A write of VLT_ALIASDATA performs the BAR0 write at VLT_ALIASADDR with vault authority. -/
  | vltAliasdataWrite (v : Nat)
  /-- VLT_MEMBERS_WRITE (R334): A write of the vault membership bits changes vault accounts, or is discarded for an enabled account. -/
  | vltMembersWrite (h v : Nat)
  /-- DORMANT_ENTRY (R390): DORMANT_N low stops mailbox acceptance and requests the end of any run. -/
  | dormantEntry
  /-- DORMANT_SLEEP (R390): Once entry conditions hold the node clears RUN, stops the drive link and sleeps. -/
  | dormantSleep
  /-- WAKE (R392): DORMANT_N high wakes the node to engine-ready within 15 ms. -/
  | wake (rtc : Nat)
  /-- I2C_WRITE (R388): An I²C write reaches GLB_RESET only, and is otherwise discarded and counted. -/
  | i2cWrite (dev a v : Nat)
  /-- I2C_READ (R388): An I²C read returns a BAR0 register below 0x0100_0000. -/
  | i2cRead (dev a : Nat)
  /-- JTAG_INSTRUCTION (R389): A test access port instruction selects bypass, identification or boundary-scan operation. -/
  | jtagInstruction (i : Nat)
  /-- HEAD_LINK_SLOT (R173): Each pixel period the port sends a slot word per lane and a command frame, forms and strobes the width codes, and fires overscan check pulses. -/
  | headLinkSlot (n : Nat)
  /-- REFERENCE_SWITCH_COMPLETE (R166): Within 250 µs of starting a switch the PLLs have pulled to the new reference, STATE returns to normal and REF_SWITCH is posted. -/
  | referenceSwitchComplete
  /-- PLL_LOCK_ACQUIRED (R159): A pixel PLL regains lock, PLL_CTLn.LOCK becomes 1 and a band change's relock completes. -/
  | pllLockAcquired (n : Nat)
  /-- REFERENCE_EDGE_RETURN (R164): Edges reappear on a dead reference, clearing its DEAD state, and at power-on release the management cores from reset once a reference has edges. -/
  | referenceEdgeReturn (r : Nat)
  /-- DRIVE_DIE_SUPPLY_CHANGE (R381): VDD_DRV crossing 1.5 V engages or releases the self-biased clamps that hold every drive-die output and HLn_LEN low, and puts the drive die into or out of power-up. -/
  | driveDieSupplyChange (low : Bool)
  /-- THERMAL_SHUTDOWN_RELEASE (R280): A node held in thermal shutdown leaves reset once its die sensors read below SHUT − HYST. -/
  | thermalShutdownRelease (temps : List Int)
  /-- ILLEGAL_WORD_FETCH (R65): A teller fetching an illegal word, or running sequentially past 0x003F_FFFC, raises ILLEGAL or PADDR with no other effect. -/
  | illegalWordFetch (t : Nat)
  /-- TELLER_IMAGE_LOAD (R365): When the flash read of a teller image of the boot directory completes, the firmware hands it to the loader as a vault-path image. -/
  | tellerImageLoad
  /-- DRIVE_FATAL_STATUS (R210): An NVMe controller reporting a fatal status sets DRIVEn for that drive. -/
  | driveFatalStatus (drive : Nat)
  /-- HOST_LINK_DOWN (R369): The host PCIe link going down sets PCH LINKDN and event records are held by R345. -/
  | hostLinkDown
  /-- POISONED_TLP (R369): A poisoned or malformed TLP received on the host port is discarded, counted and raises the PCH POISON source. -/
  | poisonedTlp
  /-- ETHERNET_LINK_DOWN (R369): An Ethernet port losing its link while an ingest is open raises LINK0 or LINK1. -/
  | ethernetLinkDown (p : Nat)
  /-- UNCORRECTABLE_CODEWORD (R369): An RS-FEC uncorrectable codeword is counted, and more than NET_FECLIM in 1 s raises FEC0 or FEC1. -/
  | uncorrectableCodeword (p : Nat)
  /-- RING_LINK_UP (R358): A ring link finishes training or retraining by itself and carries frames again, sets UPA or UPB, and starts counting toward lifting its wrap. -/
  | ringLinkUp (d : Nat)
  /-- AC_EXCITATION_CYCLE (R271): At each cycle of the developer AC drive the amplitude ramp advances by one step and the drive stops at the end of the cycle in which it reaches 0. -/
  | acExcitationCycle (h : Nat)
deriving DecidableEq, Repr

end Sys2Proof
end

