-- ==== Sys2Proof/Decode.lean ====
section
/-! DEFINITION. The two decoders of the model. `decodeTableWord` reads the words of spec/opcode_table.json: no row of
that table gives bits, so it answers none. `decodeWord` and `encodeWord` are the Uaruter encoding a teller fetches
(R64 to R67 and the tables of R68 to R77): an unassigned major, func or sub value, a must-be-zero field that is not 0
and a reserved condition are illegal (R65). -/

namespace Sys2Proof

/-- The command a table word spells. No row of the table has bits. DESIGN CHOICE (log entry 4). -/
def decodeTableWord (_nbits _w : Nat) : Option Instr := none

/-! Fields of an instruction word (R64). -/

def fMajor (w : Nat) : Nat := bits w 31 26
def fRd (w : Nat) : Nat := bits w 25 21
def fRs (w : Nat) : Nat := bits w 20 16
def fRt (w : Nat) : Nat := bits w 15 11
def fFunc (w : Nat) : Nat := bits w 10 0
def fImm (w : Nat) : BitVec 16 := BitVec.ofNat 16 (bits w 15 0)
def fPd (w : Nat) : Nat := bits w 25 23
def fPs (w : Nat) : Nat := bits w 22 20
def fPsub (w : Nat) : Nat := bits w 19 16
def fCond (w : Nat) : Nat := bits w 25 22
def fOff (w : Nat) : BitVec 22 := BitVec.ofNat 22 (bits w 21 0)
def fImm5 (w : Nat) : Nat := bits w 10 6
def fSub (w : Nat) : Nat := bits w 5 0

/-- A result only under a condition on must-be-zero fields. -/
def only (c : Bool) (i : Instr) : Option Instr := if c then some i else none

/-- Major 0x00: integer operations (R68). -/
def decode00 (t w : Nat) : Option Instr :=
  let rd := fRd w; let rs := fRs w; let rt := fRt w
  match fFunc w with
  | 0x00 => some (.add t rd rs rt)
  | 0x01 => some (.sub t rd rs rt)
  | 0x02 => some (.and t rd rs rt)
  | 0x03 => some (.or t rd rs rt)
  | 0x04 => some (.xor t rd rs rt)
  | 0x08 => some (.sll t rd rs rt)
  | 0x09 => some (.srl t rd rs rt)
  | 0x0A => some (.sra t rd rs rt)
  | 0x10 => some (.mul t rd rs rt)
  | 0x11 => some (.mulh t rd rs rt)
  | 0x12 => some (.mulhu t rd rs rt)
  | 0x18 => some (.divu t rd rs rt)
  | 0x19 => some (.remu t rd rs rt)
  | 0x1A => some (.div t rd rs rt)
  | 0x1B => some (.rem t rd rs rt)
  | 0x20 => some (.min t rd rs rt)
  | 0x21 => some (.max t rd rs rt)
  | 0x22 => some (.minu t rd rs rt)
  | 0x23 => some (.maxu t rd rs rt)
  | 0x28 => some (.adds t rd rs rt)
  | 0x29 => some (.subs t rd rs rt)
  | 0x40 => some (.xadd t rd rs rt)
  | 0x41 => some (.xswap t rd rs rt)
  | 0x30 => some (.sel t 0 rd rs rt)
  | 0x31 => some (.sel t 1 rd rs rt)
  | 0x32 => some (.sel t 2 rd rs rt)
  | 0x33 => some (.sel t 3 rd rs rt)
  | 0x38 => only (rt = 0) (.clz t rd rs)
  | 0x39 => only (rt = 0) (.popc t rd rs)
  | _ => none

/-- Major 0x01: compare and predicate operations; predicate fields use two bits, p fields three (R69). -/
def decode01 (t w : Nat) : Option Instr :=
  let rd := fRd w; let rs := fRs w; let rt := fRt w
  match fFunc w with
  | 0x00 => only (rd < 4) (.cmpeq t rd rs rt)
  | 0x01 => only (rd < 4) (.cmpne t rd rs rt)
  | 0x02 => only (rd < 4) (.cmplt t rd rs rt)
  | 0x03 => only (rd < 4) (.cmpge t rd rs rt)
  | 0x04 => only (rd < 4) (.cmpltu t rd rs rt)
  | 0x05 => only (rd < 4) (.cmpgeu t rd rs rt)
  | 0x08 => only (rd < 4 && rs < 4 && rt < 4) (.qand t rd rs rt)
  | 0x09 => only (rd < 4 && rs < 4 && rt < 4) (.qor t rd rs rt)
  | 0x0A => only (rd < 4 && rs < 4 && rt < 4) (.qxor t rd rs rt)
  | 0x0B => only (rd < 4 && rs < 4 && rt = 0) (.qnot t rd rs)
  | 0x10 => only (rd < 4 && rs < 8 && rt < 8) (.pcmpeq t rd rs rt)
  | 0x11 => only (rd < 4 && rs < 8 && rt < 8) (.pcmplt t rd rs rt)
  | 0x12 => only (rd < 4 && rs < 8 && rt < 8) (.pcmpge t rd rs rt)
  | _ => none

/-- Major 0x02: position-register operations (R70). -/
def decode02 (t w : Nat) : Option Instr :=
  let rd := fRd w; let rs := fRs w; let rt := fRt w
  match fFunc w with
  | 0x00 => only (rd < 8 && rs < 8 && rt < 8) (.padd t rd rs rt)
  | 0x01 => only (rd < 8 && rs < 8 && rt < 8) (.psub t rd rs rt)
  | 0x10 => only (rd < 8 && rs < 8 && rt < 8) (.pmax t rd rs rt)
  | 0x02 => only (rd < 8 && rs < 8 && rt = 0) (.pmov t rd rs)
  | 0x08 => only (rd < 8) (.mvgp t rd rs rt)
  | 0x09 => only (rs < 8 && rt = 0) (.mvpgl t rd rs)
  | 0x0A => only (rs < 8 && rt = 0) (.mvpgh t rd rs)
  | _ => none

/-- Major 0x28: position operations, ARM, DISARM, WAITPOS (R71, R73). -/
def decode28 (t w : Nat) : Option Instr :=
  let pd := fPd w; let ps := fPs w; let imm := fImm w; let n := imm.toNat
  match fPsub w with
  | 0x0 => some (.paddi t pd ps imm)
  | 0x1 => some (.paddfi t pd ps imm)
  | 0x2 => only (ps = 0 && n = 0) (.rdpos t pd)
  | 0x3 => only (n < 16) (.pstn t pd ps n)
  | 0x4 => only (n < 16) (.pwrt t pd ps n)
  | 0x5 => only (pd = 0 && n = 0) (.waitpos t ps)
  | 0x6 => only (pd = 0 && n < 4096) (.arm t ps n)
  | 0x7 => only (pd = 0 && ps = 0 && n < 4096) (.disarm t n)
  | 0x8 => only (ps = 0 && n = 0) (.rdhwm t pd)
  | _ => none

/-- The condition of format B (R66). -/
def decodeCond (c : Nat) : Option Cond :=
  match c with
  | 0x0 => some .always
  | 0x1 => some (.q 0) | 0x2 => some (.q 1) | 0x3 => some (.q 2) | 0x4 => some (.q 3)
  | 0x9 => some (.nq 0) | 0xA => some (.nq 1) | 0xB => some (.nq 2) | 0xC => some (.nq 3)
  | _ => none

/-- Major 0x38: system operations; every field an operation does not use is 0 (R77). -/
def decode38 (t w : Nat) : Option Instr :=
  let rd := fRd w; let rs := fRs w; let rt := fRt w; let i := fImm5 w
  match fSub w with
  | 0x00 => only (rd = 0 && rs = 0 && rt = 0 && i = 0) (.fence t)
  | 0x01 => only (rd = 0 && rs = 0 && rt = 0 && i = 0) (.halt t)
  | 0x02 => only (rd = 0 && rs = 0 && rt = 0) (.trap t i)
  | 0x03 => only (rd = 0 && rs = 0 && rt = 0 && i = 0) (.eret t)
  | 0x04 => only (rd = 0 && rs = 0 && rt = 0 && i = 0) (.brk t)
  | 0x05 => only (rs = 0 && rt = 0 && i = 0) (.rdcyc t rd)
  | 0x08 => only (rt = 0 && i = 0) (.waitev t rd rs)
  | 0x09 => only (rt = 0) (.tsig t rd rs i)
  | 0x0A => only (rd = 0 && rt = 0 && i = 0) (.evclr t rs)
  | 0x0B => only (rt = 0 && i = 0) (.claim t rd rs)
  | 0x0C => only (rs = 0 && i = 0) (.recv t rd rt)
  | 0x10 => only (rt = 0 && i = 0) (.commit t rd rs)
  | 0x11 => only (i = 0) (.take t rd rs rt)
  | 0x12 => only (i = 0) (.settle t rd rs rt)
  | 0x18 => only (rt = 0 && i = 0) (.lacq t rd rs)
  | 0x19 => only (rt = 0 && i = 0) (.lrel t rd rs)
  | 0x20 => only (i = 0) (.mbpost t rd rs rt)
  | 0x21 => only (i = 0) (.evpost t rd rs rt)
  | 0x28 => only (rt = 0 && i = 0) (.dmakick t rd rs)
  | 0x30 => only (rt = 0 && i < 8) (.audit t rd rs i)
  | _ => none

/-- The instruction a fetched word holds for teller `t`, or none for an illegal word (R65, R67).
DESIGN CHOICE (log entry 4). -/
def decodeWord (t : Nat) (word : Word) : Option Instr :=
  let w := word.toNat
  let rd := fRd w; let rs := fRs w; let imm := fImm w
  match fMajor w with
  | 0x00 => decode00 t w
  | 0x01 => decode01 t w
  | 0x02 => decode02 t w
  | 0x08 => some (.addi t rd rs imm)
  | 0x09 => some (.andi t rd rs imm)
  | 0x0A => some (.ori t rd rs imm)
  | 0x0B => some (.xori t rd rs imm)
  | 0x10 => some (.lw t rd rs imm)
  | 0x11 => some (.lh t rd rs imm)
  | 0x12 => some (.lhu t rd rs imm)
  | 0x13 => some (.lb t rd rs imm)
  | 0x14 => some (.lbu t rd rs imm)
  | 0x1C => some (.rdr t rd rs imm)
  | 0x24 => some (.jmpr t rd rs imm)
  | 0x18 => some (.sw t rd rs imm)
  | 0x19 => some (.sh t rd rs imm)
  | 0x1A => some (.sb t rd rs imm)
  | 0x1D => some (.wrr t rd rs imm)
  | 0x0C => only (rs = 0) (.ldhi t rd imm)
  | 0x0D => only (imm.toNat < 32) (.slli t rd rs imm.toNat)
  | 0x0E => only (imm.toNat < 32) (.srli t rd rs imm.toNat)
  | 0x0F => only (imm.toNat < 32) (.srai t rd rs imm.toNat)
  | 0x1E => only (rd < 8) (.pld t rd rs imm)
  | 0x1F => only (rd < 8) (.pst t rd rs imm)
  | 0x20 => only (rd < 4) (.cmpeqi t rd rs imm)
  | 0x21 => only (rd < 4) (.cmplti t rd rs imm)
  | 0x22 => only (rd < 4) (.cmpltui t rd rs imm)
  | 0x28 => decode28 t w
  | 0x30 => (decodeCond (fCond w)).map fun c => .b t c (fOff w)
  | 0x31 => (decodeCond (fCond w)).map fun c => .bl t c (fOff w)
  | 0x38 => decode38 t w
  | _ => none

/-! The encoder: the word of a well-formed teller instruction. -/

def encA (major rd rs rt func : Nat) : Word :=
  BitVec.ofNat 32 (major * 2 ^ 26 + rd * 2 ^ 21 + rs * 2 ^ 16 + rt * 2 ^ 11 + func)
def encI (major rd rs : Nat) (imm : BitVec 16) : Word :=
  BitVec.ofNat 32 (major * 2 ^ 26 + rd * 2 ^ 21 + rs * 2 ^ 16 + imm.toNat)
def encP (pd ps sub : Nat) (imm : Nat) : Word :=
  BitVec.ofNat 32 (0x28 * 2 ^ 26 + pd * 2 ^ 23 + ps * 2 ^ 20 + sub * 2 ^ 16 + imm)
def encS (rd rs rt imm5 sub : Nat) : Word :=
  BitVec.ofNat 32 (0x38 * 2 ^ 26 + rd * 2 ^ 21 + rs * 2 ^ 16 + rt * 2 ^ 11 + imm5 * 2 ^ 6 + sub)

/-- The code of a condition (R66). -/
def encodeCond : Cond → Nat
  | .always => 0
  | .q n => n + 1
  | .nq n => n + 9

def encB (major : Nat) (c : Cond) (off : BitVec 22) : Word :=
  BitVec.ofNat 32 (major * 2 ^ 26 + encodeCond c * 2 ^ 22 + off.toNat)

/-- The word of a teller instruction; none for a command that is no instruction. -/
def encodeWord : Instr → Option Word
  | .add _ rd rs rt => some (encA 0x00 rd rs rt 0x00)
  | .sub _ rd rs rt => some (encA 0x00 rd rs rt 0x01)
  | .and _ rd rs rt => some (encA 0x00 rd rs rt 0x02)
  | .or _ rd rs rt => some (encA 0x00 rd rs rt 0x03)
  | .xor _ rd rs rt => some (encA 0x00 rd rs rt 0x04)
  | .sll _ rd rs rt => some (encA 0x00 rd rs rt 0x08)
  | .srl _ rd rs rt => some (encA 0x00 rd rs rt 0x09)
  | .sra _ rd rs rt => some (encA 0x00 rd rs rt 0x0A)
  | .mul _ rd rs rt => some (encA 0x00 rd rs rt 0x10)
  | .mulh _ rd rs rt => some (encA 0x00 rd rs rt 0x11)
  | .mulhu _ rd rs rt => some (encA 0x00 rd rs rt 0x12)
  | .divu _ rd rs rt => some (encA 0x00 rd rs rt 0x18)
  | .remu _ rd rs rt => some (encA 0x00 rd rs rt 0x19)
  | .div _ rd rs rt => some (encA 0x00 rd rs rt 0x1A)
  | .rem _ rd rs rt => some (encA 0x00 rd rs rt 0x1B)
  | .min _ rd rs rt => some (encA 0x00 rd rs rt 0x20)
  | .max _ rd rs rt => some (encA 0x00 rd rs rt 0x21)
  | .minu _ rd rs rt => some (encA 0x00 rd rs rt 0x22)
  | .maxu _ rd rs rt => some (encA 0x00 rd rs rt 0x23)
  | .adds _ rd rs rt => some (encA 0x00 rd rs rt 0x28)
  | .subs _ rd rs rt => some (encA 0x00 rd rs rt 0x29)
  | .xadd _ rd rs rt => some (encA 0x00 rd rs rt 0x40)
  | .xswap _ rd rs rt => some (encA 0x00 rd rs rt 0x41)
  | .sel _ n rd rs rt => some (encA 0x00 rd rs rt (0x30 + n))
  | .clz _ rd rs => some (encA 0x00 rd rs 0 0x38)
  | .popc _ rd rs => some (encA 0x00 rd rs 0 0x39)
  | .cmpeq _ rd rs rt => some (encA 0x01 rd rs rt 0x00)
  | .cmpne _ rd rs rt => some (encA 0x01 rd rs rt 0x01)
  | .cmplt _ rd rs rt => some (encA 0x01 rd rs rt 0x02)
  | .cmpge _ rd rs rt => some (encA 0x01 rd rs rt 0x03)
  | .cmpltu _ rd rs rt => some (encA 0x01 rd rs rt 0x04)
  | .cmpgeu _ rd rs rt => some (encA 0x01 rd rs rt 0x05)
  | .qand _ rd rs rt => some (encA 0x01 rd rs rt 0x08)
  | .qor _ rd rs rt => some (encA 0x01 rd rs rt 0x09)
  | .qxor _ rd rs rt => some (encA 0x01 rd rs rt 0x0A)
  | .pcmpeq _ rd rs rt => some (encA 0x01 rd rs rt 0x10)
  | .pcmplt _ rd rs rt => some (encA 0x01 rd rs rt 0x11)
  | .pcmpge _ rd rs rt => some (encA 0x01 rd rs rt 0x12)
  | .qnot _ rd rs => some (encA 0x01 rd rs 0 0x0B)
  | .padd _ rd rs rt => some (encA 0x02 rd rs rt 0x00)
  | .psub _ rd rs rt => some (encA 0x02 rd rs rt 0x01)
  | .pmax _ rd rs rt => some (encA 0x02 rd rs rt 0x10)
  | .pmov _ rd rs => some (encA 0x02 rd rs 0 0x02)
  | .mvgp _ rd rs rt => some (encA 0x02 rd rs rt 0x08)
  | .mvpgl _ rd rs => some (encA 0x02 rd rs 0 0x09)
  | .mvpgh _ rd rs => some (encA 0x02 rd rs 0 0x0A)
  | .paddi _ pd ps imm => some (encP pd ps 0x0 imm.toNat)
  | .paddfi _ pd ps imm => some (encP pd ps 0x1 imm.toNat)
  | .rdpos _ pd => some (encP pd 0 0x2 0)
  | .pstn _ pd ps n => some (encP pd ps 0x3 n)
  | .pwrt _ pd ps n => some (encP pd ps 0x4 n)
  | .waitpos _ ps => some (encP 0 ps 0x5 0)
  | .arm _ ps n => some (encP 0 ps 0x6 n)
  | .disarm _ n => some (encP 0 0 0x7 n)
  | .rdhwm _ pd => some (encP pd 0 0x8 0)
  | .addi _ rd rs imm => some (encI 0x08 rd rs imm)
  | .andi _ rd rs imm => some (encI 0x09 rd rs imm)
  | .ori _ rd rs imm => some (encI 0x0A rd rs imm)
  | .xori _ rd rs imm => some (encI 0x0B rd rs imm)
  | .lw _ rd rs imm => some (encI 0x10 rd rs imm)
  | .lh _ rd rs imm => some (encI 0x11 rd rs imm)
  | .lhu _ rd rs imm => some (encI 0x12 rd rs imm)
  | .lb _ rd rs imm => some (encI 0x13 rd rs imm)
  | .lbu _ rd rs imm => some (encI 0x14 rd rs imm)
  | .rdr _ rd rs imm => some (encI 0x1C rd rs imm)
  | .jmpr _ rd rs imm => some (encI 0x24 rd rs imm)
  | .sw _ rd rs imm => some (encI 0x18 rd rs imm)
  | .sh _ rd rs imm => some (encI 0x19 rd rs imm)
  | .sb _ rd rs imm => some (encI 0x1A rd rs imm)
  | .wrr _ rd rs imm => some (encI 0x1D rd rs imm)
  | .cmpeqi _ rd rs imm => some (encI 0x20 rd rs imm)
  | .cmplti _ rd rs imm => some (encI 0x21 rd rs imm)
  | .cmpltui _ rd rs imm => some (encI 0x22 rd rs imm)
  | .pld _ rd rs imm => some (encI 0x1E rd rs imm)
  | .pst _ rd rs imm => some (encI 0x1F rd rs imm)
  | .ldhi _ rd imm => some (encI 0x0C rd 0 imm)
  | .slli _ rd rs sh => some (encI 0x0D rd rs (BitVec.ofNat 16 sh))
  | .srli _ rd rs sh => some (encI 0x0E rd rs (BitVec.ofNat 16 sh))
  | .srai _ rd rs sh => some (encI 0x0F rd rs (BitVec.ofNat 16 sh))
  | .b _ c off => some (encB 0x30 c off)
  | .bl _ c off => some (encB 0x31 c off)
  | .fence _ => some (encS 0 0 0 0 0x00)
  | .halt _ => some (encS 0 0 0 0 0x01)
  | .trap _ k => some (encS 0 0 0 k 0x02)
  | .eret _ => some (encS 0 0 0 0 0x03)
  | .brk _ => some (encS 0 0 0 0 0x04)
  | .rdcyc _ rd => some (encS rd 0 0 0 0x05)
  | .waitev _ rd rs => some (encS rd rs 0 0 0x08)
  | .tsig _ rd rs b => some (encS rd rs 0 b 0x09)
  | .evclr _ rs => some (encS 0 rs 0 0 0x0A)
  | .claim _ rd rs => some (encS rd rs 0 0 0x0B)
  | .recv _ rd rt => some (encS rd 0 rt 0 0x0C)
  | .commit _ rd rs => some (encS rd rs 0 0 0x10)
  | .take _ rd rs rt => some (encS rd rs rt 0 0x11)
  | .settle _ rd rs rt => some (encS rd rs rt 0 0x12)
  | .lacq _ rd rs => some (encS rd rs 0 0 0x18)
  | .lrel _ rd rs => some (encS rd rs 0 0 0x19)
  | .mbpost _ rd rs rt => some (encS rd rs rt 0 0x20)
  | .evpost _ rd rs rt => some (encS rd rs rt 0 0x21)
  | .dmakick _ rd rs => some (encS rd rs 0 0 0x28)
  | .audit _ rd rs pn => some (encS rd rs 0 pn 0x30)
  | _ => none

end Sys2Proof
end

