-- ==== Sys2Proof/Config.lean ====
section
/-! DEFINITION. What one implementation fixes and the values the manual leaves open. A free value has no body: nothing
can be proved about it. A step that needs one applies it to the state's counter of free values and advances the
counter. -/

namespace Sys2Proof.Config

/-- A free value: the n-th open value of a run, as a number of any size. Readers take it modulo what they need.
DESIGN CHOICE (log entry 5). -/
opaque freeValue : Nat → Nat

/-- The die's 64-bit serial number (RNG_SERLO, RNG_SERHI: reset value "die", R371). PRESUMED (log entry 6). -/
opaque serial : Nat

/-- The data set of the node's own PTP clock, as a number that is smaller for a better clock: IEEE 1588's priorities,
class, accuracy, variance and identity, which the manual does not give (R352). PRESUMED (log entry 67). -/
opaque ptpDataset : Nat

/-- The SHA-256 hash in key slot 0, Karafy's (R366); the manual does not give it. PRESUMED (log entry 6). -/
opaque karafyKey : Nat

/-- What an axis's back-EMF observer works from in one period (R248): the axis, what it kept, the currents in mA and the
applied voltages in mV along the stationary axes, the motor's settings, and the measured electrical angle in 1/65,536
revolution and speed in 2⁻¹⁶ rev/s that seed it (R251). -/
structure ObsIn where
  axis : Nat
  mem : Nat
  ia : Int
  ib : Int
  va : Int
  vb : Int
  res : Nat
  ind : Nat
  ke : Nat
  poles : Nat
  seed : Option (Nat × Int)
deriving DecidableEq, Repr

/-- What the observer gives (R248): the electrical angle in 1/65,536 revolution, the speed in 2⁻¹⁶ rev/s, |E| in mV, and
what it keeps. -/
structure ObsOut where
  ang : Nat
  speed : Int
  emf : Nat
  mem : Nat
deriving DecidableEq, Repr, Inhabited

/-- The observer, for which the manual gives no formula. DESIGN CHOICE (log entry 42). -/
opaque observer : ObsIn → ObsOut

/-- The deviation in ppm that the reference monitor's own oscillator adds at a drive-die temperature in 1/16 °C, which the
compensation takes away (R163, R281); the manual gives no curve. DESIGN CHOICE (log entry 77). -/
opaque oscPpm : Int → Int

/-- The current in mA that sample `v` of ADC channel `n` stands for: the scale of the in-line sensors, which stand outside
the chip (R246). DESIGN CHOICE (log entry 42). -/
opaque sensorMa (n : Nat) (v : Int) : Int

/-- The motor supply in mV (0 VMA, 1 VMB) behind `mv` at its sense ball: the external divider (R243).
DESIGN CHOICE (log entry 42). -/
opaque supplyMv (m mv : Nat) : Nat

/-- The temperature in 1/16 °C of a zone's sensor by its kind (FUS_ZCFG.SENS), its ADC sample and that of the cold junction:
the standards' tables and the front end's scale stand outside the manual; none for an open thermocouple and for an RTD or a
cold junction out of range (R273, R275). DESIGN CHOICE (log entry 73). -/
opaque zoneTemp (sens : Nat) (v cj : Int) : Option Int

/-- The temperature in 1/16 °C of a winding sensor's ADC sample (R276). DESIGN CHOICE (log entry 73). -/
opaque windingTemp (v : Int) : Int

/-- The resistance of braking resistor `a` in mΩ (RBRK of R276), for which the manual has no register.
DESIGN CHOICE (log entry 73). -/
opaque brakeMohm (a : Nat) : Nat

/-- The 8-bit code of the test access port's instruction `i` (R389), for which the manual has no table: 1 IDCODE,
2 SAMPLE/PRELOAD, 3 EXTEST, 4 EXTEST_PULSE, 5 EXTEST_TRAIN. PRESUMED (log entry 76). -/
opaque tapCode (i : Nat) : Nat

/-- The bytes of a SNAPSHOT piece and the piece that bytes spell (R320), whose form the manual leaves open.
DESIGN CHOICE (log entry 77). -/
opaque snapBytes : SnapPiece → List Byte
opaque snapPiece : List Byte → SnapPiece

end Sys2Proof.Config
end

