-- ==== Sys2Proof/Machine/Table.lean ====
section
/-! DEFINITION. The sparse table of which every register file, memory and slot table of the model is made: a list of
(key, value) pairs with keys strictly rising and no entry equal to what an unlisted key reads as. Equal tables are
equal lists. -/

namespace Sys2Proof.Machine

/-- A sparse table. An unlisted key reads as the table's default. -/
abbrev Tab (α : Type) := List (Nat × α)

/-- The entry at key `k`, or `d`. -/
def tabGet {α : Type} (d : α) : Tab α → Nat → α
  | [], _ => d
  | (k', v) :: m, k => if k = k' then v else if k < k' then d else tabGet d m k

/-- The table without its leading entries at or below `k`. -/
def tabDrop {α : Type} (k : Nat) : Tab α → Tab α
  | [] => []
  | (k', v) :: m => if k' ≤ k then tabDrop k m else (k', v) :: m

/-- The entry at key `k` becomes `v`; a value equal to the default is not listed. -/
def tabSet {α : Type} [DecidableEq α] (d : α) : Tab α → Nat → α → Tab α
  | [], k, v => if v = d then [] else [(k, v)]
  | (k', v') :: m, k, v =>
    if k' < k then (k', v') :: tabSet d m k v
    else if v = d then tabDrop k ((k', v') :: m) else (k, v) :: tabDrop k ((k', v') :: m)

/-- Every key of the table lies above `k`. -/
def tabAbove {α : Type} (k : Nat) : Tab α → Bool
  | [] => true
  | (k', _) :: _ => k < k'

/-- The canonical form: keys strictly rising, no entry equal to the default. -/
def tabWf {α : Type} [DecidableEq α] (d : α) : Tab α → Bool
  | [] => true
  | (k, v) :: m => decide (v ≠ d) && tabAbove k m && tabWf d m

/-- The keys listed whose entry satisfies `p`, in rising order. -/
def tabKeys {α : Type} (p : Nat → α → Bool) : Tab α → List Nat
  | [] => []
  | (k, v) :: m => if p k v then k :: tabKeys p m else tabKeys p m

/-- The bytes of a memory are a table too; an unlisted byte reads 0 (R62: both teller memories are cleared to 0). -/
abbrev Memory := List (Nat × BitVec 8)

/-- The canonical form of a memory. -/
def Memory.wf (m : Memory) : Bool := tabWf 0 m

/-- One byte. DESIGN CHOICE (log entry 7). -/
def memByte (m : Memory) (a : Nat) : Byte := tabGet 0 m a

/-- One byte written. -/
def memSet (m : Memory) (a : Nat) (b : Byte) : Memory := tabSet 0 m a b

/-- `n` bytes from `a`, in address order. -/
def memBytes (m : Memory) (a : Nat) : Nat → List Byte
  | 0 => []
  | n + 1 => memByte m a :: memBytes m (a + 1) n

/-- Bytes written from `a` upward. -/
def memPut (m : Memory) (a : Nat) : List Byte → Memory
  | [] => m
  | b :: bs => memPut (memSet m a b) (a + 1) bs

/-- The little-endian number in `n` bytes at `a` (R74: loads are little-endian). -/
def memLoad (m : Memory) (a n : Nat) : Nat := ofLe (memBytes m a n)

/-- The number `v` stored little-endian in `n` bytes at `a`. -/
def memStore (m : Memory) (a n v : Nat) : Memory := memPut m a (leBytes n v)

/-- Insertion into a list of distinct numbers kept in rising order. -/
def insertNat (k : Nat) : List Nat → List Nat
  | [] => [k]
  | x :: xs => if k < x then k :: x :: xs else if k = x then x :: xs else x :: insertNat k xs

/-- The element at an index, or the default. -/
def nth {α : Type} (d : α) : List α → Nat → α
  | [], _ => d
  | x :: _, 0 => x
  | _ :: xs, n + 1 => nth d xs n

end Sys2Proof.Machine
end

