-- ==== Sys2Proof/Machine/Plant.lean ====
section
/-! DEFINITION. What stands behind the register windows of motion, gate drive, the control engine, high voltage, the
fuser, the thermal models, calibration and audits: one structure per unit, plain data. -/

namespace Sys2Proof.Machine

/-- An axis (R246 to R258). `pos`, `vel` and `acc` are the profile's set-points in units of 2⁻²⁴ revolution /
244,140,625, of 2⁻¹⁶ rev/s / 1,562,500 and of 2⁻⁸ rev/s² / 10,000: with them one period adds acceleration to velocity
and velocity to position exactly. `p0`, `w0`, `ofs` are those of R254 and `slip` the total of GEARSLIP, `p0` and `slip` in the
unit of `pos`, `ofs` in 2⁻²⁴ revolution, `w0` in WPOS format;
`limA` and `limJ` the limits a braking move keeps (R253); `atN`, `badN`, `okN`, `stallN` count consecutive periods at
speed, implausible, plausible and beyond STALLANG; `reps` counts sensing runs, `left` the open-loop periods left;
`predN` consecutive predictions; `id` and `iq` the last currents in mA; `lost`: synchronism is lost and the current
set-points are 0; `ang` the last estimate of the electrical angle, `est` the estimated position in 2⁻²⁴ revolution with
`estRem`, `adv` the advance; `duties` the duties in force in counts of 5 ns, `next` those of the next period; `obs` what
the observer keeps and `seed` what it starts from; `base` where the open-loop ramp began; `ed` and `eq` the last back-EMF
in mV. -/
structure Axis where
  pos : Int
  vel : Int
  acc : Int
  p0 : Int
  w0 : Nat
  ofs : Int
  slip : Int
  limA : Nat
  limJ : Nat
  atN : Nat
  badN : Nat
  okN : Nat
  stallN : Nat
  reps : Nat
  left : Nat
  predN : Nat
  id : Int
  iq : Int
  lost : Bool
  ang : Nat
  est : Int
  adv : Nat
  duties : List Nat
  next : List Nat
  obs : Nat
  seed : Option (Nat × Int)
  estRem : Int
  base : Int
  ed : Int
  eq : Int
  capPos : Nat
deriving DecidableEq, Repr

/-- An axis after reset. -/
def Axis.init : Axis :=
  { pos := 0, vel := 0, acc := 0, p0 := 0, w0 := 0, ofs := 0, slip := 0, limA := 0, limJ := 0, atN := 0, badN := 0,
    okN := 0, stallN := 0, reps := 0, left := 0, predN := 0, id := 0, iq := 0, lost := false, ang := 0, est := 0,
    adv := 0, duties := [], next := [], obs := 0, seed := none, estRem := 0, base := 0, ed := 0, eq := 0, capPos := 0 }

/-- A brake chopper (R243) on the drive die: comparator on, cycles since it turned on, cycles of on time below a µs, µs of
on time and a voltage above TRIP that the link has yet to bring, whether the voltage stands above TRIP, the present sense
voltage in mV, and µs of on time since the last update of the resistor's thermal model. On the logic die: an
ARM that waits for a drive-link frame, and the Standby's shadow of ARM. -/
structure Brake where
  on : Bool
  since : Nat
  cyc : Nat
  us : Nat
  tripped : Bool
  above : Bool
  sense : Nat
  heat : Nat
  armReq : Bool
  shadow : Bool
deriving DecidableEq, Repr

/-- A chopper after reset. -/
def Brake.init : Brake := ⟨false, 0, 0, 0, false, false, 0, 0, false, false⟩

/-- A loop of the control engine (R264 to R267): the histories e[n−1] to e[n−3] and u[n−1] to u[n−3] as mantissas over
the shared exponent `x` (0 in FIX), the output in its unit and as it stood at the start of the base period, a value
delivered and not yet taken, and a coefficient set that waits for the next execution. -/
structure LoopSt where
  e : List Int
  u : List Int
  x : Int
  out : Int
  start : Int
  given : Option Int
  commit : Option (List Nat)
deriving DecidableEq, Repr

/-- A loop after reset. -/
def LoopSt.init : LoopSt :=
  { e := [0, 0, 0], u := [0, 0, 0], x := 0, out := 0, start := 0, given := none, commit := none }

/-- A number m × 2^x of the BFP format (R265). -/
structure Dy where
  m : Int
  x : Int
deriving DecidableEq, Repr

/-- A repetitive controller (R268): its memory, and a CLR that waits for the next execution. -/
structure Rc where
  mem : Tab Dy
  clr : Bool
deriving DecidableEq, Repr

/-- A controller after reset. -/
def Rc.init : Rc := ⟨[], false⟩

/-- An HV channel (R270 to R272): the regulated set-point in 1/40 V or µA, whether it turns off at 0, escalated,
base-period numbers of its arcs within 1 s, the last error beyond REGTOL, and the AC part: 0 stopped, 1 rising, 2 on,
3 falling; its ramp in 1/`den` V and 1/`den` V a clock cycle, the point of the present AC cycle to which `level` belongs,
and the clock cycle in which that AC cycle began. -/
structure Hv where
  set : Int
  off : Bool
  arcs : List Nat
  err : Bool
  ac : Nat
  level : Nat
  slope : Nat
  den : Nat
  pos : Nat
  start : Nat
deriving DecidableEq, Repr

/-- A channel after reset. -/
def Hv.init : Hv := ⟨0, false, [], false, 0, 0, 0, 0, 0, 0⟩

/-- A fuser zone (R273 to R275): its carried rounding error, whether its duty is forced to 0, whether it went off by
escalation, whether its burst output is on, the on half-cycles of its present window, and whether its last temperature is
valid. -/
structure Zone where
  err : Nat
  n : Nat
  forced : Bool
  off : Bool
  on : Bool
  seen : Bool
deriving DecidableEq, Repr

/-- A zone after reset. -/
def Zone.init : Zone := ⟨0, 0, false, false, false, false⟩

/-- A thermal model (R277 to R280): its temperatures in 2⁻³² of 1/16 °C, whether it has started, tenths of a
millisecond beyond MISTOL, whether it stands at WARN, THR, SHUT, and whether its escalation treats it as at THR. -/
structure Therm where
  t1 : Int
  t2 : Int
  started : Bool
  mis : Nat
  warn : Bool
  thr : Bool
  shut : Bool
  forced : Bool
deriving DecidableEq, Repr

/-- A model after reset. -/
def Therm.init : Therm := ⟨0, 0, false, 0, false, false, false, false⟩

/-- A calibration (ports 0 to 3, 4 the die; R286 to R292): 0 none, 1 triggered, 2 running; a kept request, whether it
came from the host; the temperature at the last start (the die's TLAST); CLB_NMEAS of the run; the sweeps measured, the
sums of the temperature and of the SOS-to-EOS duration over them; the sum and the count of the overscan currents of each
emitter, for the die of the SOS pulse widths of each port and, from place 4, of their EOS pulse widths; sweeps, temperature
and duration of the last completed run; whether the head link left the up state in the run and the cycle it began; and
whether its trigger was accepted before any EMIT audit of the port. -/
structure Cal where
  st : Nat
  pend : Bool
  host : Bool
  last : Int
  nmeas : Nat
  n : Nat
  tSum : Int
  eSum : Nat
  seen : List (Nat × Nat)
  meas : Option (Nat × Int × Nat)
  lost : Bool
  began : Nat
  first : Bool
deriving DecidableEq, Repr

/-- A calibration after reset. DESIGN CHOICE (log entry 65). -/
def Cal.init : Cal := ⟨0, false, false, 0, 16, 0, 0, 0, [], none, false, 0, false⟩

/-- An audit entry behind AUD (R297 to R301): the order in which it completed, the whole deferred position and whether it is that of a known gap,
the slots or sweeps tested, whether its test has failed, and the channel that a DMACH audit exercises. -/
structure AudEnt where
  done : Nat
  pos : Nat
  known : Bool
  n : Nat
  bad : Bool
  chan : Nat
deriving DecidableEq, Repr

/-- An entry after reset. -/
def AudEnt.init : AudEnt := ⟨0, 0, false, 0, false, 0⟩

/-- The laser-safety interlock on the drive die (R319): which channels are open, and its latches: HLn_LEN may be high, a
discrepancy, a re-arm awaited. FLT_LSISTAT shows what the sense lines and the drive link have brought of it.
DEDUCED (log entry 52). -/
structure Lsi where
  aOpen : Bool
  bOpen : Bool
  ok : Bool
  disc : Bool
  wait : Bool
deriving DecidableEq, Repr

/-- The interlock as every drive-die reset leaves it, both channels closed. DESIGN CHOICE (log entry 65). -/
def Lsi.init : Lsi := ⟨false, false, false, false, false⟩

/-- Registration of a slot (R293 to R295): its x, the stations whose marks are expected, per station the process
and lateral error, the first and the difference of the edges in 1/256 line, and the stations whose first and whose second
bar was missed. -/
structure Marks where
  x : Nat
  mask : Nat
  first : Tab (Option Int)
  second : Tab (Option Int)
  miss1 : Nat
  miss2 : Nat
deriving DecidableEq, Repr

/-- No marks expected. -/
def Marks.init : Marks := ⟨0, 0, [], [], 0, 0⟩

/-- Motion, gate drive, control engine, high voltage, fuser, heat, calibration and audits. `chOff` and `lsOff` are
masks of channels and low-side outputs an escalation holds off (R245); `stale` the forwarded settings that the drive die
holds otherwise than the registers, until a drive-link frame carries them over (R394), by field key; `vgd` and `vgdUv` the
gate supply in mV and its under-voltage as the drive die has them (R242); `ilk` the channels whose gate commands clash,
with the cycles since the last event (R239); `dcap` the sense-line delays (targets and
applied, 1/78.125 ps) and ADC offsets (targets and applied) of R290 and R291; `hist` the last relative process errors
of each station; `headHot` the ports a head model holds blanked; `densOpen` the ports whose sweep under way images the slot of `densSlot`
(R296); `dieWait` a die run ended at the last sweep boundary, so its slew waits for the next (R287); `lsi` the laser-safety interlock; `lmRate` and `lmPos`
the line-master values last valid (R263); `oscTemp` and `adcTemp` the die temperatures for which the reference monitor and
the converters' references were last corrected (R281). -/
structure Plant where
  axes : Tab Axis
  brakes : Tab Brake
  stale : Tab (Option Nat)
  vgd : Nat
  vgdUv : Bool
  ilk : Tab (Option Nat)
  micro : Tab Nat
  chOff : Nat
  lsOff : Nat
  loops : Tab LoopSt
  rcs : Tab Rc
  hv : Tab Hv
  zones : Tab Zone
  halfCycle : Nat
  therm : Tab Therm
  dieTemp : Int
  cals : Tab Cal
  adcTgt : Tab Int
  adcApp : Tab Int
  dlyTgt : Tab Int
  dlyApp : Tab Int
  marks : Tab Marks
  regHist : Tab (List Int)
  auds : Tab AudEnt
  audSeq : Nat
  capAudPos : Nat
  lastMs : Nat
  densSlot : Tab Nat
  densOpen : Nat
  dieWait : Bool
  headHot : Nat
  lsi : Lsi
  lmRate : Nat
  lmPos : Int
  oscTemp : Int
  adcTemp : Int
deriving DecidableEq, Repr

/-- The plant after reset. DESIGN CHOICE (log entry 65). -/
def Plant.init : Plant :=
  { axes := [], brakes := [], stale := [], vgd := 0, vgdUv := false, ilk := [], micro := [], chOff := 0, lsOff := 0, loops := [], rcs := [], hv := [], zones := [],
    halfCycle := 0, therm := [], dieTemp := 0, cals := [], adcTgt := [], adcApp := [], dlyTgt := [], dlyApp := [],
    marks := [], regHist := [], auds := [], audSeq := 0, capAudPos := 0, lastMs := 0, densSlot := [], densOpen := 0,
    dieWait := false, headHot := 0,
    lsi := Lsi.init, lmRate := 0, lmPos := 0, oscTemp := 0, adcTemp := 0 }

end Sys2Proof.Machine
end

