-- ==== Sys2Proof/Machine/Field.lean ====
section
/-! DEFINITION. What a register is made of: a field has a place, an access type (R7), a reset value and a rule for
values its meaning does not allow. A register is a base offset, a stride and a count (for a register repeated per
port, teller, account, ...) with its fields; what is not in a field is reserved and reads 0 (R6). -/

namespace Sys2Proof.Machine

/-- The access types of R7. -/
inductive Acc
  | ro | rw | w1c | w1s | wo | rc
deriving DecidableEq, Repr

/-- What a written value outside a field's legal range does, as the field's Meaning states. -/
inductive Check
  /-- Every value is legal. -/
  | any
  /-- The value is clamped to the range (`0 is stored as 1` is such a clamp). -/
  | clamp (lo hi : Nat)
  /-- The field keeps its old value. -/
  | keep (lo hi : Nat)
  /-- The whole write is discarded and the block's CFGERR is set. -/
  | discard (lo hi : Nat)
deriving DecidableEq, Repr

/-- A field of a register: the register's offset (BAR2 offsets stand 0x1000_0000 up, BAR4 offsets 0x2000_0000 up),
its lowest bit, its width, its access type, its reset value and its range rule. -/
structure Field where
  addr : Nat
  lo : Nat
  width : Nat
  acc : Acc
  reset : Nat
  chk : Check := .any
deriving DecidableEq, Repr

/-- The table key of a field: one cell per bit position of each register offset. DESIGN CHOICE (log entry 9). -/
def Field.key (f : Field) : Nat := f.addr * 32 + f.lo

/-- The same field of the register `d` bytes further up. -/
def Field.up (f : Field) (d : Nat) : Field :=
  { addr := f.addr + d, lo := f.lo, width := f.width, acc := f.acc, reset := f.reset, chk := f.chk }

/-- What a register's writes obey beside its fields' own rules. -/
inductive RegKind
  /-- Nothing more. -/
  | plain
  /-- Field 9:0 names an account: a BAR0 write that names a vault account is discarded (R334). -/
  | acct
  /-- Writes while bit 0 (EN) is 1 are discarded except to EN. -/
  | enLock
  /-- The register's write has a behaviour of its own, given by its block. -/
  | special
deriving DecidableEq, Repr

/-- A register, or a family of equal registers. -/
structure Reg where
  base : Nat
  stride : Nat
  count : Nat
  kind : RegKind
  fields : List Field
deriving DecidableEq, Repr

/-- The index of the register of the family at offset `a`, if `a` is one of them. -/
def Reg.indexOf (r : Reg) (a : Nat) : Option Nat :=
  if a < r.base then none
  else if r.stride = 0 then (if a = r.base then some 0 else none)
  else if (a - r.base) % r.stride = 0 ∧ (a - r.base) / r.stride < r.count then some ((a - r.base) / r.stride)
  else none

/-- The register of a map at offset `a`, with its fields moved to that offset. -/
def regAt : List Reg → Nat → Option (RegKind × List Field)
  | [], _ => none
  | r :: rs, a =>
    match r.indexOf a with
    | some i => some (r.kind, r.fields.map (fun f => f.up (i * r.stride)))
    | none => regAt rs a

end Sys2Proof.Machine
end

