-- ==== Sys2Proof/Machine/RegMap.lean ====
section
/-! DEFINITION. The register maps of the manual, window by window (R25): every register with its fields, access types,
reset values and range rules. One definition per field, named BLOCK_REG_FIELD; a repeated register's field takes its
index. -/

namespace Sys2Proof.Machine

/-! GLB: R28 of 01_architecture.md. -/

def GLB_ID_DEVICE : Field := ⟨0x0, 16, 16, .ro, 0x470, .any⟩
def GLB_ID_STEPLET : Field := ⟨0x0, 8, 8, .ro, 0x42, .any⟩
def GLB_ID_STEPNUM : Field := ⟨0x0, 0, 8, .ro, 1, .any⟩

def GLB_OPT_TGRADE : Field := ⟨0x4, 8, 8, .ro, 0x42, .any⟩
def GLB_OPT_MEMGIB : Field := ⟨0x4, 0, 8, .ro, 0x20, .any⟩

def GLB_ROLE_BADSTRAP : Field := ⟨0x8, 17, 1, .ro, 0, .any⟩
def GLB_ROLE_CONFLICT : Field := ⟨0x8, 16, 1, .ro, 0, .any⟩
def GLB_ROLE_NODE : Field := ⟨0x8, 8, 5, .ro, 0, .any⟩
def GLB_ROLE_ROLE : Field := ⟨0x8, 4, 3, .ro, 0, .any⟩
def GLB_ROLE_STRAP : Field := ⟨0x8, 0, 2, .ro, 0, .any⟩

def GLB_TERM_TERM : Field := ⟨0xC, 0, 32, .ro, 0, .any⟩

def GLB_STATUS_ENERR : Field := ⟨0x10, 3, 1, .w1c, 0, .any⟩
def GLB_STATUS_DDHB : Field := ⟨0x10, 2, 1, .w1c, 0, .any⟩
def GLB_STATUS_KEYERR : Field := ⟨0x10, 1, 1, .w1c, 0, .any⟩
def GLB_STATUS_MAPERR : Field := ⟨0x10, 0, 1, .w1c, 0, .any⟩

def GLB_BADACC_COUNT : Field := ⟨0x14, 0, 32, .rc, 0, .any⟩

def GLB_DRVEN_OUTEN : Field := ⟨0x18, 0, 1, .rw, 0, .any⟩

def GLB_PORTMAP_MAP : Field := ⟨0x20, 0, 32, .rw, 0, .any⟩

def GLB_RESET_KEY : Field := ⟨0x30, 16, 16, .wo, 0, .any⟩
def GLB_RESET_DRIVERST : Field := ⟨0x30, 2, 1, .wo, 0, .any⟩
def GLB_RESET_LOGICRST : Field := ⟨0x30, 1, 1, .wo, 0, .any⟩
def GLB_RESET_CHIPRST : Field := ⟨0x30, 0, 1, .wo, 0, .any⟩

def GLB_RSTCAUSE_CAUSE : Field := ⟨0x34, 0, 3, .ro, 0, .any⟩

/-! FLT: R332 of 13_faults_recovery_redundancy.md. -/

def FLT_STATUS_SWAPERR : Field := ⟨0xC00000, 2, 1, .w1c, 0, .any⟩
def FLT_STATUS_KEYERR : Field := ⟨0xC00000, 1, 1, .w1c, 0, .any⟩
def FLT_STATUS_CFGERR : Field := ⟨0xC00000, 0, 1, .w1c, 0, .any⟩

def FLT_CTL_RELINQ : Field := ⟨0xC00004, 3, 1, .w1s, 0, .any⟩
def FLT_CTL_SWAP : Field := ⟨0xC00004, 2, 1, .w1s, 0, .any⟩
def FLT_CTL_REARM : Field := ⟨0xC00004, 1, 1, .w1s, 0, .any⟩
def FLT_CTL_RUN : Field := ⟨0xC00004, 0, 1, .rw, 0, .any⟩

def FLT_PIN_CAUSE : Field := ⟨0xC00008, 8, 6, .ro, 0x23, .any⟩
def FLT_PIN_RBN : Field := ⟨0xC00008, 2, 1, .ro, 1, .any⟩
def FLT_PIN_RBP : Field := ⟨0xC00008, 1, 1, .ro, 0, .any⟩
def FLT_PIN_HEALTHY : Field := ⟨0xC00008, 0, 1, .ro, 0, .any⟩

def FLT_PINMASK_BLK : Field := ⟨0xC0000C, 0, 24, .rw, 0xffffff, .any⟩

def FLT_ESCPIN_BLK : Field := ⟨0xC00010, 0, 24, .rw, 0, .any⟩

def FLT_CLEAR_MS : Field := ⟨0xC00014, 0, 16, .rw, 0x64, (.clamp 1 0xFFFF)⟩

def FLT_INCNEXT_VALUE : Field := ⟨0xC00018, 0, 16, .ro, 1, .any⟩

def FLT_FSTAT_SRC : Field := ⟨0xC00020, 0, 3, .w1c, 0, .any⟩

def FLT_FMASK_SRC : Field := ⟨0xC00024, 0, 3, .rw, 0, .any⟩

def FLT_GRACE_US : Field := ⟨0xC00028, 0, 16, .rw, 0x3e8, (.clamp 1 0xFFFF)⟩

def FLT_LSISTAT_WAITREARM : Field := ⟨0xC00030, 4, 1, .ro, 0, .any⟩
def FLT_LSISTAT_DISC : Field := ⟨0xC00030, 3, 1, .ro, 0, .any⟩
def FLT_LSISTAT_LENOK : Field := ⟨0xC00030, 2, 1, .ro, 0, .any⟩
def FLT_LSISTAT_BCLOSED : Field := ⟨0xC00030, 1, 1, .ro, 0, .any⟩
def FLT_LSISTAT_ACLOSED : Field := ⟨0xC00030, 0, 1, .ro, 0, .any⟩

def FLT_LSICFG_DISCMS : Field := ⟨0xC00034, 16, 16, .rw, 0x32, (.clamp 10 0x3E8)⟩
def FLT_LSICFG_SETTLEMS : Field := ⟨0xC00034, 0, 16, .rw, 0x14, (.clamp 10 0x3E8)⟩

def FLT_LSICNT_COUNT : Field := ⟨0xC00038, 0, 32, .rc, 0, .any⟩

def FLT_MIRSTAT_SNAPPING : Field := ⟨0xC00040, 2, 1, .ro, 0, .any⟩
def FLT_MIRSTAT_ISOLATED : Field := ⟨0xC00040, 1, 1, .w1c, 0, .any⟩
def FLT_MIRSTAT_TKARMED : Field := ⟨0xC00040, 0, 1, .ro, 0, .any⟩

def FLT_MSEQ_MSEQ : Field := ⟨0xC00044, 0, 32, .ro, 0, .any⟩

def FLT_ACKSEQ_MSEQ : Field := ⟨0xC00048, 0, 32, .ro, 0, .any⟩

def FLT_LASTSETTLED_MSEQ : Field := ⟨0xC0004C, 0, 32, .ro, 0, .any⟩

def FLT_LASTEVENT_MSEQ : Field := ⟨0xC00050, 0, 32, .ro, 0, .any⟩

def FLT_STBYACCT_EN : Field := ⟨0xC00054, 31, 1, .rw, 0, .any⟩
def FLT_STBYACCT_ACCT : Field := ⟨0xC00054, 0, 10, .rw, 0, .any⟩

def FLT_STBYDROP_COUNT : Field := ⟨0xC00058, 0, 32, .rc, 0, .any⟩

def FLT_BLKRST_KEY : Field := ⟨0xC00060, 16, 16, .wo, 0, .any⟩
def FLT_BLKRST_BLK : Field := ⟨0xC00060, 0, 5, .wo, 0, .any⟩

def FLT_BLKSTAT_DEFER (b : Nat) : Field := ⟨(0xC00100 + 0x10 * b), 4, 1, .ro, 0, .any⟩
def FLT_BLKSTAT_ESC (b : Nat) : Field := ⟨(0xC00100 + 0x10 * b), 3, 1, .ro, 0, .any⟩
def FLT_BLKSTAT_STATE (b : Nat) : Field := ⟨(0xC00100 + 0x10 * b), 0, 3, .ro, 0, .any⟩

def FLT_BLKINC_INCIDENT (b : Nat) : Field := ⟨(0xC00104 + 0x10 * b), 0, 16, .ro, 0, .any⟩

def FLT_BLKCNT_RECOV (b : Nat) : Field := ⟨(0xC00108 + 0x10 * b), 16, 16, .rc, 0, .any⟩
def FLT_BLKCNT_LASTCNT (b : Nat) : Field := ⟨(0xC00108 + 0x10 * b), 0, 16, .rc, 0, .any⟩

def FLT_ROUTE_TELLERS (b : Nat) : Field := ⟨(0xC0010C + 0x10 * b), 16, 16, .rw, 0, .any⟩
def FLT_ROUTE_EN (b : Nat) : Field := ⟨(0xC0010C + 0x10 * b), 15, 1, .rw, 0, .any⟩
def FLT_ROUTE_ACCT (b : Nat) : Field := ⟨(0xC0010C + 0x10 * b), 0, 10, .rw, 0, .any⟩

/-! ACC: R370 of 14_host_accounts_network.md. -/

def ACC_STATUS_KEYERR : Field := ⟨0xD00000, 1, 1, .w1c, 0, .any⟩
def ACC_STATUS_CFGERR : Field := ⟨0xD00000, 0, 1, .w1c, 0, .any⟩

def ACC_BOOT_FWVER : Field := ⟨0xD00004, 16, 16, .ro, 0, .any⟩
def ACC_BOOT_STAT : Field := ⟨0xD00004, 0, 3, .ro, 0, .any⟩

def ACC_RST_KEY : Field := ⟨0xD00008, 16, 16, .wo, 0, .any⟩
def ACC_RST_ACCT : Field := ⟨0xD00008, 0, 10, .wo, 0, .any⟩

def ACC_CFG_EN (a : Nat) : Field := ⟨(0xD01000 + 0x4 * a), 31, 1, .rw, 0, .any⟩
def ACC_CFG_MBIRQ (a : Nat) : Field := ⟨(0xD01000 + 0x4 * a), 30, 1, .rw, 0, .any⟩
def ACC_CFG_MBVEC (a : Nat) : Field := ⟨(0xD01000 + 0x4 * a), 16, 11, .rw, 0, .any⟩
def ACC_CFG_TMO (a : Nat) : Field := ⟨(0xD01000 + 0x4 * a), 0, 16, .rw, 0x64, (.clamp 1 0xFFFF)⟩

def MBX_VIOL_COUNT : Field := ⟨0xD40000, 0, 32, .rc, 0, .any⟩

def MBX_LASTBAD_ACCT : Field := ⟨0xD40004, 16, 10, .ro, 0, .any⟩
def MBX_LASTBAD_CAUSE : Field := ⟨0xD40004, 0, 8, .ro, 0, .any⟩

def MBX_FSTAT_SRC : Field := ⟨0xD40010, 0, 1, .w1c, 0, .any⟩

def MBX_FMASK_SRC : Field := ⟨0xD40014, 0, 1, .rw, 0, .any⟩

def MBX_GRACE_US : Field := ⟨0xD40018, 0, 16, .rw, 0x3e8, (.clamp 1 0xFFFF)⟩

def EVQ_BASELO_BASE (a : Nat) : Field := ⟨(0xD80000 + 0x20 * a), 0, 32, .rw, 0, .any⟩

def EVQ_BASEHI_BASE (a : Nat) : Field := ⟨(0xD80004 + 0x20 * a), 0, 32, .rw, 0, .any⟩

def EVQ_CFG_EN (a : Nat) : Field := ⟨(0xD80008 + 0x20 * a), 31, 1, .rw, 0, .any⟩
def EVQ_CFG_LOG2N (a : Nat) : Field := ⟨(0xD80008 + 0x20 * a), 16, 5, .rw, 6, .any⟩
def EVQ_CFG_VEC (a : Nat) : Field := ⟨(0xD80008 + 0x20 * a), 0, 11, .rw, 0, .any⟩

def EVQ_MOD_MOD (a : Nat) : Field := ⟨(0xD8000C + 0x20 * a), 0, 16, .rw, 0, .any⟩

def EVQ_TAIL_TAIL (a : Nat) : Field := ⟨(0xD80010 + 0x20 * a), 0, 32, .ro, 0, .any⟩

def EVQ_HEAD_HEAD (a : Nat) : Field := ⟨(0xD80014 + 0x20 * a), 0, 32, .rw, 0, .any⟩

def EVQ_PEND_LOSTPEND (a : Nat) : Field := ⟨(0xD80018 + 0x20 * a), 16, 16, .ro, 0, .any⟩
def EVQ_PEND_HELD (a : Nat) : Field := ⟨(0xD80018 + 0x20 * a), 0, 9, .ro, 0, .any⟩

def EVQ_DROP_DROP (a : Nat) : Field := ⟨(0xD8001C + 0x20 * a), 0, 32, .rc, 0, .any⟩

def MBW_DATA (a : Nat) : Field := ⟨(0x1000000 + 0x1000 * a), 0, 32, .rw, 0, .any⟩

def MBCTL_GO (a : Nat) : Field := ⟨(0x1000040 + 0x1000 * a), 31, 1, .w1s, 0, .any⟩
def MBCTL_DONE (a : Nat) : Field := ⟨(0x1000040 + 0x1000 * a), 30, 1, .ro, 0, .any⟩
def MBCTL_TIMEOUT (a : Nat) : Field := ⟨(0x1000040 + 0x1000 * a), 29, 1, .ro, 0, .any⟩
def MBCTL_TAKEN (a : Nat) : Field := ⟨(0x1000040 + 0x1000 * a), 28, 1, .ro, 0, .any⟩
def MBCTL_CMD (a : Nat) : Field := ⟨(0x1000040 + 0x1000 * a), 16, 8, .rw, 0, .any⟩

/-! NET,PTP,RNG: R371 of 14_host_accounts_network.md. -/

def NET_FSTAT_SRC : Field := ⟨0xE00000, 0, 4, .w1c, 0, .any⟩

def NET_FMASK_SRC : Field := ⟨0xE00004, 0, 4, .rw, 0, .any⟩

def NET_GRACE_US : Field := ⟨0xE00008, 0, 16, .rw, 0x3e8, (.clamp 1 0xFFFF)⟩

def NET_STRMERR_COUNT : Field := ⟨0xE0000C, 0, 32, .rc, 0, .any⟩

def NET_FECLIM_N : Field := ⟨0xE00010, 0, 16, .rw, 0x10, .any⟩

def NET_CTL_MODE (p : Nat) : Field := ⟨(0xE00100 + 0x40 * p), 1, 1, .rw, 0, .any⟩
def NET_CTL_EN (p : Nat) : Field := ⟨(0xE00100 + 0x40 * p), 0, 1, .rw, 0, .any⟩

def NET_STAT_FECLOCK (p : Nat) : Field := ⟨(0xE00104 + 0x40 * p), 1, 1, .ro, 0, .any⟩
def NET_STAT_LINK (p : Nat) : Field := ⟨(0xE00104 + 0x40 * p), 0, 1, .ro, 0, .any⟩

def NET_MACLO_MAC (p : Nat) : Field := ⟨(0xE00108 + 0x40 * p), 0, 32, .rw, 0, .any⟩

def NET_MACHI_MAC (p : Nat) : Field := ⟨(0xE0010C + 0x40 * p), 0, 16, .rw, 0, .any⟩

def NET_IPV4_IPV4 (p : Nat) : Field := ⟨(0xE00110 + 0x40 * p), 0, 32, .rw, 0, .any⟩

def NET_UDPPORT_UDPPORT (p : Nat) : Field := ⟨(0xE00114 + 0x40 * p), 0, 16, .rw, 0xc2ce, .any⟩

def NET_RXFRAMES_COUNT (p : Nat) : Field := ⟨(0xE00118 + 0x40 * p), 0, 32, .rc, 0, .any⟩

def NET_RXDROP_COUNT (p : Nat) : Field := ⟨(0xE0011C + 0x40 * p), 0, 32, .rc, 0, .any⟩

def PTP_CFG_DOMAIN : Field := ⟨0xE40000, 8, 8, .rw, 0, .any⟩
def PTP_CFG_MASTEROK : Field := ⟨0xE40000, 4, 1, .rw, 0, .any⟩
def PTP_CFG_MECH : Field := ⟨0xE40000, 3, 1, .rw, 0, .any⟩
def PTP_CFG_TRANSPORT : Field := ⟨0xE40000, 2, 1, .rw, 1, .any⟩
def PTP_CFG_PORT : Field := ⟨0xE40000, 1, 1, .rw, 0, .any⟩
def PTP_CFG_EN : Field := ⟨0xE40000, 0, 1, .rw, 0, .any⟩

def PTP_STAT_STATE : Field := ⟨0xE40004, 0, 3, .ro, 0, .any⟩

def PTP_OFFSET_NS : Field := ⟨0xE40008, 0, 32, .ro, 0, .any⟩

def PTP_MPD_NS : Field := ⟨0xE4000C, 0, 32, .ro, 0, .any⟩

def PTP_GMIDLO_ID : Field := ⟨0xE40010, 0, 32, .ro, 0, .any⟩

def PTP_GMIDHI_ID : Field := ⟨0xE40014, 0, 32, .ro, 0, .any⟩

def PTP_FSTAT_SRC : Field := ⟨0xE40020, 0, 1, .w1c, 0, .any⟩

def PTP_FMASK_SRC : Field := ⟨0xE40024, 0, 1, .rw, 0, .any⟩

def PTP_GRACE_US : Field := ⟨0xE40028, 0, 16, .rw, 0x3e8, (.clamp 1 0xFFFF)⟩

def RNG_CTL_EN : Field := ⟨0xE80000, 0, 1, .rw, 1, .any⟩

def RNG_STATUS_NODES : Field := ⟨0xE80004, 8, 5, .ro, 0, .any⟩
def RNG_STATUS_WRAPB : Field := ⟨0xE80004, 4, 1, .ro, 0, .any⟩
def RNG_STATUS_WRAPA : Field := ⟨0xE80004, 3, 1, .ro, 0, .any⟩
def RNG_STATUS_UPB : Field := ⟨0xE80004, 2, 1, .ro, 0, .any⟩
def RNG_STATUS_UPA : Field := ⟨0xE80004, 1, 1, .ro, 0, .any⟩
def RNG_STATUS_CFGERR : Field := ⟨0xE80004, 0, 1, .w1c, 0, .any⟩

def RNG_PATHDLY_PS (d : Nat) : Field := ⟨(0xE80008 + 0x4 * d), 0, 32, .ro, 0, .any⟩

def RNG_SERLO_SERIAL : Field := ⟨0xE80010, 0, 32, .ro, 0, .any⟩

def RNG_SERHI_SERIAL : Field := ⟨0xE80014, 0, 32, .ro, 0, .any⟩

def RNG_VIOL_COUNT : Field := ⟨0xE80018, 0, 32, .rc, 0, .any⟩

def RNG_NOEP_COUNT : Field := ⟨0xE8001C, 0, 32, .rc, 0, .any⟩

def RNG_RETX_COUNT : Field := ⟨0xE80020, 0, 32, .rc, 0, .any⟩

def RNG_STOP_NOW : Field := ⟨0xE80024, 0, 1, .w1s, 0, .any⟩

def RNG_STOPCFG_EN : Field := ⟨0xE80028, 31, 1, .rw, 0, .any⟩
def RNG_STOPCFG_AUXIN : Field := ⟨0xE80028, 0, 4, .rw, 0, .any⟩

def RNG_EVACCT_EN : Field := ⟨0xE8002C, 31, 1, .rw, 0, .any⟩
def RNG_EVACCT_ACCT : Field := ⟨0xE8002C, 0, 10, .rw, 0, .any⟩

def RNG_STOPMASK_BITS (k : Nat) : Field := ⟨(0xE80040 + 0x4 * k), 0, 32, .rw, 0, .any⟩

def RNG_STOPLVL_BITS (k : Nat) : Field := ⟨(0xE80060 + 0x4 * k), 0, 32, .rw, 0, .any⟩

def RNG_FSTAT_SRC : Field := ⟨0xE80080, 0, 3, .w1c, 0, .any⟩

def RNG_FMASK_SRC : Field := ⟨0xE80084, 0, 3, .rw, 0, .any⟩

def RNG_GRACE_US : Field := ⟨0xE80088, 0, 16, .rw, 0x3e8, (.clamp 1 0xFFFF)⟩

def RNG_ASSIGNLO_SERLO (i : Nat) : Field := ⟨(0xE80100 + 0x8 * i), 0, 32, .rw, 0, .any⟩

def RNG_ASSIGNHI_EN (i : Nat) : Field := ⟨(0xE80104 + 0x8 * i), 31, 1, .rw, 0, .any⟩
def RNG_ASSIGNHI_NODE (i : Nat) : Field := ⟨(0xE80104 + 0x8 * i), 0, 5, .rw, 0, .any⟩

/-! PCH: R372 of 14_host_accounts_network.md. -/

def PCH_ID_DEVICE : Field := ⟨0xF00000, 16, 16, .ro, 0x470, .any⟩
def PCH_ID_VENDOR : Field := ⟨0xF00000, 0, 16, .ro, 0x1e6b, .any⟩

def PCH_LINK_WIDTH : Field := ⟨0xF00004, 4, 4, .ro, 0, .any⟩
def PCH_LINK_SPEED : Field := ⟨0xF00004, 1, 3, .ro, 0, .any⟩
def PCH_LINK_UP : Field := ⟨0xF00004, 0, 1, .ro, 0, .any⟩

def PCH_CTO_US : Field := ⟨0xF00008, 0, 16, .rw, 0x2710, (.clamp 50 0xC350)⟩

def PCH_ERRCNT_CTO : Field := ⟨0xF0000C, 16, 16, .rc, 0, .any⟩
def PCH_ERRCNT_BADTLP : Field := ⟨0xF0000C, 0, 16, .rc, 0, .any⟩

def PCH_FSTAT_SRC : Field := ⟨0xF00010, 0, 3, .w1c, 0, .any⟩

def PCH_FMASK_SRC : Field := ⟨0xF00014, 0, 3, .rw, 0, .any⟩

def PCH_GRACE_US : Field := ⟨0xF00018, 0, 16, .rw, 0x3e8, (.clamp 1 0xFFFF)⟩

/-! VLT: R373 of 14_host_accounts_network.md. -/

def VLT_STATUS_CFGERR : Field := ⟨0x10040000, 0, 1, .w1c, 0, .any⟩

def VLT_MEMBERS_ACCTS (h : Nat) : Field := ⟨(0x10040004 + 0x4 * h), 0, 32, .rw, 0, .any⟩

def VLT_ALIASADDR_ADDR : Field := ⟨0x10040010, 0, 32, .rw, 0, .any⟩

def VLT_ALIASDATA_DATA : Field := ⟨0x10040014, 0, 32, .rw, 0, .any⟩

def VLT_KEYSTAT_REVOKED : Field := ⟨0x10040020, 4, 4, .ro, 0, .any⟩
def VLT_KEYSTAT_WRITTEN : Field := ⟨0x10040020, 0, 4, .ro, 0, .any⟩

def VLT_ROLLBACK_COUNT : Field := ⟨0x10040024, 0, 32, .ro, 0, .any⟩

def VLT_CTL_COMMITRB : Field := ⟨0x10040028, 0, 1, .w1s, 0, .any⟩

/-! TIM: R58 of 02_web_position_and_time.md. -/

def TIM_WPOSLO_WPOS : Field := ⟨0x100000, 0, 32, .ro, 0, .any⟩

def TIM_WPOSHI_WPOS : Field := ⟨0x100004, 0, 32, .ro, 0, .any⟩

def TIM_VEL_VEL : Field := ⟨0x100008, 0, 32, .ro, 0, .any⟩

def TIM_RAWVEL_VEL : Field := ⟨0x10000C, 0, 32, .ro, 0, .any⟩

def TIM_STATUS_CFGERR : Field := ⟨0x100010, 7, 1, .w1c, 0, .any⟩
def TIM_STATUS_POSLOST : Field := ⟨0x100010, 6, 1, .ro, 0, .any⟩
def TIM_STATUS_REVERSE : Field := ⟨0x100010, 5, 1, .ro, 0, .any⟩
def TIM_STATUS_INHIBIT : Field := ⟨0x100010, 4, 1, .ro, 0, .any⟩
def TIM_STATUS_SRC : Field := ⟨0x100010, 0, 2, .ro, 0, .any⟩

def TIM_CFG_MASTER : Field := ⟨0x100014, 0, 2, .rw, 0, .any⟩

def TIM_ENCCFG_INV (n : Nat) : Field := ⟨(0x100020 + 0x4 * n), 2, 1, .rw, 0, .any⟩
def TIM_ENCCFG_TYPE (n : Nat) : Field := ⟨(0x100020 + 0x4 * n), 1, 1, .rw, 0, .any⟩
def TIM_ENCCFG_EN (n : Nat) : Field := ⟨(0x100020 + 0x4 * n), 0, 1, .rw, 0, .any⟩

def TIM_ENCSCALE_SCALE : Field := ⟨0x100030, 0, 32, .rw, 0x1000000, .any⟩

def TIM_ENCCNT_COUNT (n : Nat) : Field := ⟨(0x100040 + 0x4 * n), 0, 32, .ro, 0, .any⟩

def TIM_HWMLO_HWM : Field := ⟨0x100050, 0, 32, .ro, 0, .any⟩

def TIM_HWMHI_HWM : Field := ⟨0x100054, 0, 32, .ro, 0, .any⟩

def TIM_REVEXC_EXC : Field := ⟨0x100058, 0, 32, .rc, 0, .any⟩

def TIM_REREG_LINES : Field := ⟨0x10005C, 0, 16, .rw, 0x100, (.clamp 16 0xFFFF)⟩

def TIM_REVDB_DB : Field := ⟨0x100060, 0, 16, .rw, 0x1000, (.clamp 256 0xFFFF)⟩

def TIM_DRLIMIT_US : Field := ⟨0x100064, 0, 14, .rw, 0x64, (.clamp 10 0x2710)⟩

def TIM_STBYTOL_TOL : Field := ⟨0x100068, 0, 16, .rw, 0x1000, (.clamp 1 0xFFFF)⟩

def TIM_ESTERR_ERR : Field := ⟨0x10006C, 0, 32, .ro, 0, .any⟩

def TIM_LMCFG_EN : Field := ⟨0x100070, 16, 1, .rw, 0, .any⟩
def TIM_LMCFG_TIMEOUT : Field := ⟨0x100070, 0, 16, .rw, 0x3e8, (.clamp 1 0xFFFF)⟩

def TIM_LMSCALE_VALUE : Field := ⟨0x100074, 0, 32, .rw, 0x1000000, (.discard 1 0xFFFFFFFF)⟩

def TIM_LMCNT_VALUE : Field := ⟨0x100078, 0, 32, .ro, 0, .any⟩

def TIM_LMRATE_VALUE : Field := ⟨0x10007C, 0, 32, .ro, 0, .any⟩

def TIM_SPA_CLIP (n : Nat) : Field := ⟨(0x100080 + 0x4 * n), 31, 1, .rc, 0, .any⟩
def TIM_SPA_VALUE (n : Nat) : Field := ⟨(0x100080 + 0x4 * n), 0, 16, .ro, 0, .any⟩

def TIM_FSTAT_SRC : Field := ⟨0x100090, 0, 8, .w1c, 0, .any⟩

def TIM_FMASK_SRC : Field := ⟨0x100094, 0, 8, .rw, 0, .any⟩

def TIM_GRACE_US : Field := ⟨0x100098, 0, 16, .rw, 0x3e8, (.clamp 1 0xFFFF)⟩

def TIM_VIOL_COUNT : Field := ⟨0x10009C, 0, 32, .rc, 0, .any⟩

def TIM_STOFF_LINES (n : Nat) : Field := ⟨(0x100100 + 0x4 * n), 0, 24, .rw, 0, .any⟩

def TIM_DRUMARC_LINES (n : Nat) : Field := ⟨(0x100140 + 0x4 * n), 0, 24, .rw, 0, .any⟩

/-! CLD: R59 of 02_web_position_and_time.md. -/

def CLD_DATE_YEAR : Field := ⟨0x108000, 16, 12, .ro, 0x7d0, .any⟩
def CLD_DATE_MONTH : Field := ⟨0x108000, 8, 4, .ro, 1, .any⟩
def CLD_DATE_DOW : Field := ⟨0x108000, 5, 3, .ro, 6, .any⟩
def CLD_DATE_DAY : Field := ⟨0x108000, 0, 5, .ro, 1, .any⟩

def CLD_TIME_HOUR : Field := ⟨0x108004, 24, 5, .ro, 0, .any⟩
def CLD_TIME_MIN : Field := ⟨0x108004, 16, 6, .ro, 0, .any⟩
def CLD_TIME_SEC : Field := ⟨0x108004, 8, 6, .ro, 0, .any⟩

def CLD_NS_NS : Field := ⟨0x108008, 0, 30, .ro, 0, .any⟩

def CLD_SDATE_YEAR : Field := ⟨0x108010, 16, 12, .rw, 0x7d0, .any⟩
def CLD_SDATE_MONTH : Field := ⟨0x108010, 8, 4, .rw, 1, .any⟩
def CLD_SDATE_DOW : Field := ⟨0x108010, 5, 3, .rw, 6, .any⟩
def CLD_SDATE_DAY : Field := ⟨0x108010, 0, 5, .rw, 1, .any⟩

def CLD_STIME_HOUR : Field := ⟨0x108014, 24, 5, .rw, 0, .any⟩
def CLD_STIME_MIN : Field := ⟨0x108014, 16, 6, .rw, 0, .any⟩
def CLD_STIME_SEC : Field := ⟨0x108014, 8, 6, .rw, 0, .any⟩

def CLD_SNS_NS : Field := ⟨0x108018, 0, 30, .rw, 0, .any⟩

def CLD_COMMIT_GO : Field := ⟨0x10801C, 0, 1, .wo, 0, .any⟩

def CLD_STATUS_PTPRUN : Field := ⟨0x108020, 6, 1, .ro, 0, .any⟩
def CLD_STATUS_SRC : Field := ⟨0x108020, 4, 2, .ro, 0, .any⟩
def CLD_STATUS_STEPPED : Field := ⟨0x108020, 3, 1, .w1c, 0, .any⟩
def CLD_STATUS_PTPOWN : Field := ⟨0x108020, 2, 1, .w1c, 0, .any⟩
def CLD_STATUS_WRAP : Field := ⟨0x108020, 1, 1, .w1c, 0, .any⟩
def CLD_STATUS_BADDATE : Field := ⟨0x108020, 0, 1, .w1c, 0, .any⟩

def CLD_UTCOFF_SEC : Field := ⟨0x108024, 0, 32, .rw, 0, .any⟩

def CLD_WTLO_WT : Field := ⟨0x108028, 0, 32, .ro, 0, .any⟩

def CLD_WTHI_WT : Field := ⟨0x10802C, 0, 32, .ro, 0, .any⟩

def CLD_TMRLO_DL (n : Nat) : Field := ⟨(0x108040 + 0x8 * n), 0, 32, .rw, 0, .any⟩

def CLD_TMRHI_DL (n : Nat) : Field := ⟨(0x108044 + 0x8 * n), 0, 32, .rw, 0, .any⟩

def CLD_TMRCTL_WERR : Field := ⟨0x108080, 24, 1, .w1c, 0, .any⟩
def CLD_TMRCTL_DISARM : Field := ⟨0x108080, 16, 8, .wo, 0, .any⟩
def CLD_TMRCTL_FIRED : Field := ⟨0x108080, 8, 8, .w1c, 0, .any⟩
def CLD_TMRCTL_ARM : Field := ⟨0x108080, 0, 8, .w1s, 0, .any⟩

def CLD_TMRROUTE_T : Field := ⟨0x108084, 0, 32, .rw, 0, .any⟩

def CLD_TMREVEN_EN : Field := ⟨0x108088, 0, 8, .rw, 0, .any⟩

/-! TLR: R95 of 03_teller_instruction_set.md. -/

def TLR_STATE_ST : Field := ⟨0x200000, 0, 32, .ro, 0, .any⟩

def TLR_GO_T : Field := ⟨0x200004, 0, 16, .w1s, 0, .any⟩

def TLR_STOP_T : Field := ⟨0x200008, 0, 16, .w1s, 0, .any⟩

def TLR_RST_KEY : Field := ⟨0x20000C, 16, 16, .wo, 0, .any⟩
def TLR_RST_T : Field := ⟨0x20000C, 0, 16, .wo, 0, .any⟩

def TLR_STATUS_VAULTERR : Field := ⟨0x200010, 2, 1, .w1c, 0, .any⟩
def TLR_STATUS_CFGERR : Field := ⟨0x200010, 1, 1, .w1c, 0, .any⟩
def TLR_STATUS_PMERR : Field := ⟨0x200010, 0, 1, .w1c, 0, .any⟩

def TLR_PMPAGE_PAGE : Field := ⟨0x200014, 0, 6, .rw, 0, .any⟩

def TLR_DMPAGE_PAGE : Field := ⟨0x200018, 0, 4, .rw, 0, .any⟩

def TLR_PMWP_WP (k : Nat) : Field := ⟨(0x200020 + 0x4 * k), 0, 32, .rw, 0, .any⟩

def TLR_ECCCNT_PROG : Field := ⟨0x200028, 16, 16, .rc, 0, .any⟩
def TLR_ECCCNT_DATA : Field := ⟨0x200028, 0, 16, .rc, 0, .any⟩

def TLR_FSTAT_SRC : Field := ⟨0x200040, 0, 18, .w1c, 0, .any⟩

def TLR_FMASK_SRC : Field := ⟨0x200044, 0, 18, .rw, 0, .any⟩

def TLR_GRACE_US : Field := ⟨0x200048, 0, 16, .rw, 0x3e8, (.clamp 1 0xFFFF)⟩

def TLR_PC_ADDR (t : Nat) : Field := ⟨(0x201000 + 0x100 * t), 0, 32, .rw, 0, .any⟩

def TLR_BOOT_ADDR (t : Nat) : Field := ⟨(0x201004 + 0x100 * t), 0, 32, .rw, 0, .any⟩

def TLR_ACCT_ACCT (t : Nat) : Field := ⟨(0x201008 + 0x100 * t), 0, 10, .rw, 0, .any⟩

def TLR_WDOG_US (t : Nat) : Field := ⟨(0x20100C + 0x100 * t), 0, 16, .rw, 0, .any⟩

def TLR_TVEC_ADDR (t : Nat) : Field := ⟨(0x201010 + 0x100 * t), 2, 20, .rw, 0, .any⟩
def TLR_TVEC_EN (t : Nat) : Field := ⟨(0x201010 + 0x100 * t), 0, 1, .rw, 0, .any⟩

def TLR_EPC_VALUE (t : Nat) : Field := ⟨(0x201014 + 0x100 * t), 0, 32, .rw, 0, .any⟩

def TLR_CAUSE_VALUE (t : Nat) : Field := ⟨(0x201018 + 0x100 * t), 0, 32, .ro, 0, .any⟩

def TLR_TVAL_VALUE (t : Nat) : Field := ⟨(0x20101C + 0x100 * t), 0, 32, .ro, 0, .any⟩

def TLR_TEV_EV (t : Nat) : Field := ⟨(0x201020 + 0x100 * t), 0, 25, .w1c, 0, .any⟩

def TLR_TEVSET_EV (t : Nat) : Field := ⟨(0x201024 + 0x100 * t), 0, 16, .w1s, 0, .any⟩

def TLR_AMASK_WIN (t : Nat) : Field := ⟨(0x201028 + 0x100 * t), 0, 13, .rw, 0x1fff, .any⟩

def TLR_CYC_CYC (t : Nat) : Field := ⟨(0x20102C + 0x100 * t), 0, 32, .ro, 0, .any⟩

def TLR_FLAGS_TM (t : Nat) : Field := ⟨(0x201030 + 0x100 * t), 8, 1, .rw, 0, .any⟩
def TLR_FLAGS_Q (t : Nat) : Field := ⟨(0x201030 + 0x100 * t), 0, 4, .rw, 0, .any⟩

def TLR_DIVZ_COUNT (t : Nat) : Field := ⟨(0x201034 + 0x100 * t), 0, 32, .rc, 0, .any⟩

/-! TAU: R109 of 04_scheduling_ledger_locks.md. -/

def TAU_STATUS_P0ACT : Field := ⟨0x280000, 2, 1, .ro, 0, .any⟩
def TAU_STATUS_ENTERR : Field := ⟨0x280000, 1, 1, .w1c, 0, .any⟩
def TAU_STATUS_HOLDPEND : Field := ⟨0x280000, 0, 1, .ro, 0, .any⟩

def TAU_ARMSEQ_VALUE : Field := ⟨0x280004, 0, 32, .ro, 0, .any⟩

def TAU_ARMED_VALUE : Field := ⟨0x280008, 0, 13, .ro, 0, .any⟩

def TAU_LATECNT_COUNT : Field := ⟨0x28000C, 0, 32, .rc, 0, .any⟩

def TAU_SKIPCNT_COUNT : Field := ⟨0x280010, 0, 32, .rc, 0, .any⟩

def TAU_DROPCNT_COUNT : Field := ⟨0x280014, 0, 32, .rc, 0, .any⟩

def TAU_FAILCNT_BADENT : Field := ⟨0x280018, 20, 10, .rc, 0, .any⟩
def TAU_FAILCNT_ACCESS : Field := ⟨0x280018, 10, 10, .rc, 0, .any⟩
def TAU_FAILCNT_BUSERR : Field := ⟨0x280018, 0, 10, .rc, 0, .any⟩

def TAU_FSTAT_SRC : Field := ⟨0x280020, 0, 16, .w1c, 0, .any⟩

def TAU_FMASK_SRC : Field := ⟨0x280024, 0, 16, .rw, 0, .any⟩

def TAU_GRACE_US : Field := ⟨0x280028, 0, 16, .rw, 0x3e8, (.clamp 1 0xFFFF)⟩

def TAU_P0EN_BITS (k : Nat) : Field := ⟨(0x280060 + 0x4 * k), 0, 32, .ro, 0, .any⟩

def TAU_P0LVL_BITS (k : Nat) : Field := ⟨(0x280080 + 0x4 * k), 0, 32, .ro, 0, .any⟩

def TAU_P0CLR_KEY : Field := ⟨0x2800A0, 16, 16, .wo, 0, .any⟩
def TAU_P0CLR_GRP : Field := ⟨0x2800A0, 0, 5, .wo, 0, .any⟩

def TAU_ENTCTL_CTL (n : Nat) : Field := ⟨(0x290000 + 0x10 * n), 0, 32, .rw, 0, .any⟩

def TAU_ENTADDR_ADDR (n : Nat) : Field := ⟨(0x290004 + 0x10 * n), 0, 32, .rw, 0, .any⟩

def TAU_ENTVAL_VALUE (n : Nat) : Field := ⟨(0x290008 + 0x10 * n), 0, 32, .rw, 0, .any⟩

def TAU_ENTLVL_LEVEL (n : Nat) : Field := ⟨(0x29000C + 0x10 * n), 0, 32, .rw, 0, .any⟩

/-! LDG: R121 of 04_scheduling_ledger_locks.md. -/

def LDG_STATUS_VAULTERR : Field := ⟨0x300000, 1, 1, .w1c, 0, .any⟩
def LDG_STATUS_CFGERR : Field := ⟨0x300000, 0, 1, .w1c, 0, .any⟩

def LDG_COUNT_ORDERS : Field := ⟨0x300004, 0, 13, .ro, 0, .any⟩

def LDG_FSTAT_SRC : Field := ⟨0x300010, 0, 1, .w1c, 0, .any⟩

def LDG_FMASK_SRC : Field := ⟨0x300014, 0, 1, .rw, 0, .any⟩

def LDG_GRACE_US : Field := ⟨0x300018, 0, 16, .rw, 0x3e8, (.clamp 1 0xFFFF)⟩

def LDG_BIND_EN (t : Nat) : Field := ⟨(0x300100 + 0x4 * t), 31, 1, .rw, 0, .any⟩
def LDG_BIND_ACCT (t : Nat) : Field := ⟨(0x300100 + 0x4 * t), 16, 10, .rw, 0, .any⟩
def LDG_BIND_BOOKS (t : Nat) : Field := ⟨(0x300100 + 0x4 * t), 0, 16, .rw, 0, .any⟩

def LDG_QUOTA_COUNT (a : Nat) : Field := ⟨(0x301000 + 0x4 * a), 16, 11, .ro, 0, .any⟩
def LDG_QUOTA_QUOTA (a : Nat) : Field := ⟨(0x301000 + 0x4 * a), 0, 11, .rw, 0x40, .any⟩

/-! LCK: R122 of 04_scheduling_ledger_locks.md. -/

def LCK_ABANDCNT_COUNT : Field := ⟨0x380000, 0, 32, .rc, 0, .any⟩

/-! ESC: R140 of 05_frames_and_escrow.md. -/

def ESC_CTL_DEFPOL : Field := ⟨0x400000, 4, 1, .rw, 0, .any⟩
def ESC_CTL_STOP : Field := ⟨0x400000, 1, 1, .w1s, 0, .any⟩
def ESC_CTL_RUN : Field := ⟨0x400000, 0, 1, .w1s, 0, .any⟩

def ESC_STATUS_INFLIGHT : Field := ⟨0x400004, 16, 7, .ro, 0, .any⟩
def ESC_STATUS_AHEAD : Field := ⟨0x400004, 8, 4, .ro, 0, .any⟩
def ESC_STATUS_ENDING : Field := ⟨0x400004, 2, 1, .ro, 0, .any⟩
def ESC_STATUS_LATESEEN : Field := ⟨0x400004, 1, 1, .w1c, 0, .any⟩
def ESC_STATUS_CFGERR : Field := ⟨0x400004, 0, 1, .w1c, 0, .any⟩

def ESC_LEAD_LINES : Field := ⟨0x400008, 0, 16, .rw, 0x1000, (.clamp 512 0xFFFF)⟩

def ESC_ORIGINLO_LINE : Field := ⟨0x40000C, 0, 32, .rw, 0, .any⟩

def ESC_ORIGINHI_LINE : Field := ⟨0x400010, 0, 16, .rw, 0, .any⟩

def ESC_DEFLEN_LINES : Field := ⟨0x400014, 0, 24, .rw, 0x1000, .any⟩

def ESC_DEFGAP_LINES : Field := ⟨0x400018, 0, 16, .rw, 0x10, (.clamp 16 0xFFFF)⟩

def ESC_STMAP_LEAD : Field := ⟨0x40001C, 16, 4, .ro, 0, .any⟩
def ESC_STMAP_STN : Field := ⟨0x40001C, 0, 16, .rw, 0, .any⟩

def ESC_MINPITCH_LINES : Field := ⟨0x400020, 0, 24, .ro, 0, .any⟩

def ESC_NEXTECLO_VALUE : Field := ⟨0x400024, 0, 32, .ro, 0, .any⟩

def ESC_NEXTECHI_VALUE : Field := ⟨0x400028, 0, 32, .ro, 0, .any⟩

def ESC_NEXTSLOT_VALUE : Field := ⟨0x40002C, 0, 32, .ro, 0, .any⟩

def ESC_LASTFRAME_VALUE : Field := ⟨0x400030, 0, 32, .ro, 0xffffffff, .any⟩

def ESC_LASTACCLO_VALUE : Field := ⟨0x400034, 0, 32, .ro, 0, .any⟩

def ESC_LASTACCHI_VALUE : Field := ⟨0x400038, 0, 32, .ro, 0, .any⟩

def ESC_DONECNT_COUNT : Field := ⟨0x400040, 0, 32, .ro, 0, .any⟩

def ESC_VOIDCNT_COUNT : Field := ⟨0x400044, 0, 32, .ro, 0, .any⟩

def ESC_REPCNT_COUNT : Field := ⟨0x400048, 0, 32, .ro, 0, .any⟩

def ESC_LATECNT_COUNT : Field := ⟨0x40004C, 0, 32, .ro, 0, .any⟩

def ESC_EVACCT_EN : Field := ⟨0x400050, 31, 1, .rw, 0, .any⟩
def ESC_EVACCT_ACCT : Field := ⟨0x400050, 0, 10, .rw, 0, .any⟩

def ESC_TEVMASK_T : Field := ⟨0x400054, 0, 16, .rw, 0, .any⟩

def ESC_VOIDREQ_SLOT : Field := ⟨0x400058, 0, 32, .wo, 0, .any⟩

def ESC_ENDPOSLO_LINE : Field := ⟨0x40005C, 0, 32, .ro, 0, .any⟩

def ESC_ENDPOSHI_LINE : Field := ⟨0x400060, 0, 32, .ro, 0, .any⟩

def ESC_FSTAT_SRC : Field := ⟨0x400070, 0, 3, .w1c, 0, .any⟩

def ESC_FMASK_SRC : Field := ⟨0x400074, 0, 3, .rw, 0, .any⟩

def ESC_GRACE_US : Field := ⟨0x400078, 0, 16, .rw, 0x3e8, (.clamp 1 0xFFFF)⟩

def ESC_LOGSLOT_SLOT (i : Nat) : Field := ⟨(0x401000 + 0x8 * i), 0, 32, .ro, 0xffffffff, .any⟩

def ESC_LOG_REASON (i : Nat) : Field := ⟨(0x401004 + 0x8 * i), 28, 4, .ro, 0, .any⟩
def ESC_LOG_STATION (i : Nat) : Field := ⟨(0x401004 + 0x8 * i), 24, 4, .ro, 0, .any⟩
def ESC_LOG_MORE (i : Nat) : Field := ⟨(0x401004 + 0x8 * i), 16, 8, .ro, 0, .any⟩
def ESC_LOG_INCIDENT (i : Nat) : Field := ⟨(0x401004 + 0x8 * i), 0, 16, .ro, 0, .any⟩

/-! FRM: R141 of 05_frames_and_escrow.md. -/

def FRM_PHASE_KIND (n : Nat) : Field := ⟨(0x408000 + 0x40 * n), 6, 2, .ro, 0, .any⟩
def FRM_PHASE_PHASE (n : Nat) : Field := ⟨(0x408000 + 0x40 * n), 0, 3, .ro, 0, .any⟩

def FRM_SLOT_SLOT (n : Nat) : Field := ⟨(0x408004 + 0x40 * n), 0, 32, .ro, 0xffffffff, .any⟩

def FRM_FRAME_FRAME (n : Nat) : Field := ⟨(0x408008 + 0x40 * n), 0, 32, .ro, 0xffffffff, .any⟩

def FRM_LINE_LINE (n : Nat) : Field := ⟨(0x40800C + 0x40 * n), 0, 24, .ro, 0, .any⟩

def FRM_TABLELO_TABLE (n : Nat) : Field := ⟨(0x408010 + 0x40 * n), 0, 32, .ro, 0, .any⟩

def FRM_TABLEHI_TABLE (n : Nat) : Field := ⟨(0x408014 + 0x40 * n), 0, 32, .ro, 0, .any⟩

def FRM_DONE_DONE (n : Nat) : Field := ⟨(0x408018 + 0x40 * n), 0, 32, .ro, 0, .any⟩

def FRM_VOID_VOID (n : Nat) : Field := ⟨(0x40801C + 0x40 * n), 0, 32, .ro, 0, .any⟩

def FRM_CAUSE_CAUSE (n : Nat) : Field := ⟨(0x408020 + 0x40 * n), 0, 4, .ro, 0, .any⟩

/-! SCN: R170 of 06_scan_timing.md. -/

def SCN_STATUS_OFFCLAMP : Field := ⟨0x500000, 1, 1, .w1c, 0, .any⟩
def SCN_STATUS_CFGERR : Field := ⟨0x500000, 0, 1, .w1c, 0, .any⟩

def SCN_SEAM_SEAMMUL : Field := ⟨0x500004, 18, 8, .rw, 0x9d, .any⟩
def SCN_SEAM_SEAMSPAN : Field := ⟨0x500004, 9, 9, .rw, 0x100, .any⟩
def SCN_SEAM_SEAMLO : Field := ⟨0x500004, 0, 9, .rw, 0x20, .any⟩

def SCN_FSTAT_SRC : Field := ⟨0x500010, 0, 16, .w1c, 0, .any⟩

def SCN_FMASK_SRC : Field := ⟨0x500014, 0, 16, .rw, 0, .any⟩

def SCN_GRACE_US : Field := ⟨0x500018, 0, 16, .rw, 0x3e8, (.clamp 1 0xFFFF)⟩

def SCN_VIOL_COUNT : Field := ⟨0x50001C, 0, 32, .rc, 0, .any⟩

def SCN_CTL_SWPEN (n : Nat) : Field := ⟨(0x500100 + 0x80 * n), 8, 1, .rw, 0, .any⟩
def SCN_CTL_SWPT (n : Nat) : Field := ⟨(0x500100 + 0x80 * n), 4, 4, .rw, 0, .any⟩
def SCN_CTL_PLOCKEN (n : Nat) : Field := ⟨(0x500100 + 0x80 * n), 0, 1, .rw, 0, .any⟩

def SCN_CFG_SOSBUD (n : Nat) : Field := ⟨(0x500104 + 0x80 * n), 12, 3, .rw, 2, (.clamp 1 0x4)⟩
def SCN_CFG_FACETSRC (n : Nat) : Field := ⟨(0x500104 + 0x80 * n), 11, 1, .rw, 0, .any⟩
def SCN_CFG_EOSEN (n : Nat) : Field := ⟨(0x500104 + 0x80 * n), 10, 1, .rw, 0, .any⟩
def SCN_CFG_EDGE (n : Nat) : Field := ⟨(0x500104 + 0x80 * n), 8, 2, .rw, 0, (.discard 0 0x2)⟩
def SCN_CFG_LOOP (n : Nat) : Field := ⟨(0x500104 + 0x80 * n), 0, 7, .rw, 0, .any⟩

def SCN_STAT_HELD (n : Nat) : Field := ⟨(0x500108 + 0x80 * n), 12, 1, .ro, 0, .any⟩
def SCN_STAT_PRED (n : Nat) : Field := ⟨(0x500108 + 0x80 * n), 9, 3, .ro, 0, .any⟩
def SCN_STAT_BAND (n : Nat) : Field := ⟨(0x500108 + 0x80 * n), 6, 3, .ro, 7, .any⟩
def SCN_STAT_FACET (n : Nat) : Field := ⟨(0x500108 + 0x80 * n), 3, 3, .ro, 0, .any⟩
def SCN_STAT_FACETOK (n : Nat) : Field := ⟨(0x500108 + 0x80 * n), 2, 1, .ro, 0, .any⟩
def SCN_STAT_ACQ (n : Nat) : Field := ⟨(0x500108 + 0x80 * n), 1, 1, .ro, 0, .any⟩
def SCN_STAT_LOCKED (n : Nat) : Field := ⟨(0x500108 + 0x80 * n), 0, 1, .ro, 0, .any⟩

def SCN_SOSDLY_VALUE (n : Nat) : Field := ⟨(0x50010C + 0x80 * n), 0, 12, .rw, 0x200, .any⟩

def SCN_PHOFF_VALUE (n : Nat) : Field := ⟨(0x500110 + 0x80 * n), 0, 16, .rw, 0, .any⟩

def SCN_THR_EOSAPP (n : Nat) : Field := ⟨(0x500114 + 0x80 * n), 24, 6, .ro, 0x10, .any⟩
def SCN_THR_SOSAPP (n : Nat) : Field := ⟨(0x500114 + 0x80 * n), 16, 6, .ro, 0x10, .any⟩
def SCN_THR_EOSTGT (n : Nat) : Field := ⟨(0x500114 + 0x80 * n), 8, 6, .rw, 0x10, .any⟩
def SCN_THR_SOSTGT (n : Nat) : Field := ⟨(0x500114 + 0x80 * n), 0, 6, .rw, 0x10, .any⟩

def SCN_WIN_EOSEXP (n : Nat) : Field := ⟨(0x500118 + 0x80 * n), 16, 16, .rw, 0x3980, .any⟩
def SCN_WIN_SOSWIN (n : Nat) : Field := ⟨(0x500118 + 0x80 * n), 0, 11, .rw, 0x40, .any⟩

def SCN_SKEW_VALUE (n : Nat) : Field := ⟨(0x50011C + 0x80 * n), 0, 16, .rw, 0, .any⟩

def SCN_SOSPOSLO_WPOS (n : Nat) : Field := ⟨(0x500120 + 0x80 * n), 0, 32, .ro, 0, .any⟩

def SCN_SOSPOSHI_WPOS (n : Nat) : Field := ⟨(0x500124 + 0x80 * n), 0, 32, .ro, 0, .any⟩

def SCN_SOSTIME_VALUE (n : Nat) : Field := ⟨(0x500128 + 0x80 * n), 0, 32, .ro, 0, .any⟩

def SCN_SOSINT_VALUE (n : Nat) : Field := ⟨(0x50012C + 0x80 * n), 0, 32, .ro, 0, .any⟩

def SCN_SOSWID_VALUE (n : Nat) : Field := ⟨(0x500130 + 0x80 * n), 0, 32, .ro, 0, .any⟩

def SCN_EOSDUR_VALUE (n : Nat) : Field := ⟨(0x500134 + 0x80 * n), 0, 32, .ro, 0, .any⟩

def SCN_PHERR_VALUE (n : Nat) : Field := ⟨(0x500138 + 0x80 * n), 0, 32, .ro, 0, .any⟩

def SCN_SWEEPLO_VALUE (n : Nat) : Field := ⟨(0x50013C + 0x80 * n), 0, 32, .ro, 0, .any⟩

def SCN_SWEEPHI_VALUE (n : Nat) : Field := ⟨(0x500140 + 0x80 * n), 0, 32, .ro, 0, .any⟩

def SCN_PREDCNT_COUNT (n : Nat) : Field := ⟨(0x500144 + 0x80 * n), 0, 32, .rc, 0, .any⟩

def SCN_IDLERPM_RPM (n : Nat) : Field := ⟨(0x500148 + 0x80 * n), 0, 16, .rw, 0x3e8, .any⟩

def SCN_DLY0_APPLIED (e : Nat) : Field := ⟨(0x501000 + 0x4 * e), 16, 15, .ro, 0, .any⟩
def SCN_DLY0_TARGET (e : Nat) : Field := ⟨(0x501000 + 0x4 * e), 0, 15, .rw, 0, .any⟩

def SCN_DLY1_APPLIED (e : Nat) : Field := ⟨(0x501400 + 0x4 * e), 16, 15, .ro, 0, .any⟩
def SCN_DLY1_TARGET (e : Nat) : Field := ⟨(0x501400 + 0x4 * e), 0, 15, .rw, 0, .any⟩

def SCN_DLY2_APPLIED (e : Nat) : Field := ⟨(0x501800 + 0x4 * e), 16, 15, .ro, 0, .any⟩
def SCN_DLY2_TARGET (e : Nat) : Field := ⟨(0x501800 + 0x4 * e), 0, 15, .rw, 0, .any⟩

def SCN_DLY3_APPLIED (e : Nat) : Field := ⟨(0x501C00 + 0x4 * e), 16, 15, .ro, 0, .any⟩
def SCN_DLY3_TARGET (e : Nat) : Field := ⟨(0x501C00 + 0x4 * e), 0, 15, .rw, 0, .any⟩

def SCN_BOW0_APPLIED (q : Nat) : Field := ⟨(0x502000 + 0x4 * q), 16, 16, .ro, 0, .any⟩
def SCN_BOW0_TARGET (q : Nat) : Field := ⟨(0x502000 + 0x4 * q), 0, 16, .rw, 0, .any⟩

def SCN_BOW1_APPLIED (q : Nat) : Field := ⟨(0x502200 + 0x4 * q), 16, 16, .ro, 0, .any⟩
def SCN_BOW1_TARGET (q : Nat) : Field := ⟨(0x502200 + 0x4 * q), 0, 16, .rw, 0, .any⟩

def SCN_BOW2_APPLIED (q : Nat) : Field := ⟨(0x502400 + 0x4 * q), 16, 16, .ro, 0, .any⟩
def SCN_BOW2_TARGET (q : Nat) : Field := ⟨(0x502400 + 0x4 * q), 0, 16, .rw, 0, .any⟩

def SCN_BOW3_APPLIED (q : Nat) : Field := ⟨(0x502600 + 0x4 * q), 16, 16, .ro, 0, .any⟩
def SCN_BOW3_TARGET (q : Nat) : Field := ⟨(0x502600 + 0x4 * q), 0, 16, .rw, 0, .any⟩

def SCN_SIG_INT (i : Nat) : Field := ⟨(0x502800 + 0x4 * i), 0, 32, .ro, 0, .any⟩

/-! PLL: R171 of 06_scan_timing.md. -/

def PLL_REFCTL_SWREQ : Field := ⟨0x508000, 4, 1, .w1s, 0, .any⟩
def PLL_REFCTL_PREF : Field := ⟨0x508000, 2, 1, .rw, 0, .any⟩
def PLL_REFCTL_ARMB : Field := ⟨0x508000, 1, 1, .rw, 1, .any⟩
def PLL_REFCTL_ARMA : Field := ⟨0x508000, 0, 1, .rw, 1, .any⟩

def PLL_REFSTAT_HOLDSEC : Field := ⟨0x508004, 16, 16, .ro, 0, .any⟩
def PLL_REFSTAT_DEADB : Field := ⟨0x508004, 9, 1, .ro, 0, .any⟩
def PLL_REFSTAT_DEADA : Field := ⟨0x508004, 8, 1, .ro, 0, .any⟩
def PLL_REFSTAT_WARNB : Field := ⟨0x508004, 7, 1, .ro, 0, .any⟩
def PLL_REFSTAT_WARNA : Field := ⟨0x508004, 6, 1, .ro, 0, .any⟩
def PLL_REFSTAT_HEALTHYB : Field := ⟨0x508004, 5, 1, .ro, 0, .any⟩
def PLL_REFSTAT_HEALTHYA : Field := ⟨0x508004, 4, 1, .ro, 0, .any⟩
def PLL_REFSTAT_STATE : Field := ⟨0x508004, 1, 3, .ro, 0, .any⟩
def PLL_REFSTAT_SEL : Field := ⟨0x508004, 0, 1, .ro, 0, .any⟩

def PLL_REFPPM_PPM (r : Nat) : Field := ⟨(0x508008 + 0x4 * r), 0, 32, .ro, 0, .any⟩

def PLL_FSTAT_SRC : Field := ⟨0x508010, 0, 9, .w1c, 0, .any⟩

def PLL_FMASK_SRC : Field := ⟨0x508014, 0, 9, .rw, 0, .any⟩

def PLL_GRACE_US : Field := ⟨0x508018, 0, 16, .rw, 0x3e8, (.clamp 1 0xFFFF)⟩

def PLL_EVACCT_EN : Field := ⟨0x50801C, 31, 1, .rw, 0, .any⟩
def PLL_EVACCT_ACCT : Field := ⟨0x50801C, 0, 10, .rw, 0, .any⟩

def PLL_SWCNT_COUNT : Field := ⟨0x508020, 0, 32, .rc, 0, .any⟩

def PLL_CTL_CP (n : Nat) : Field := ⟨(0x508100 + 0x40 * n), 12, 4, .rw, 4, (.clamp 1 0xF)⟩
def PLL_CTL_LOCK (n : Nat) : Field := ⟨(0x508100 + 0x40 * n), 11, 1, .ro, 0, .any⟩
def PLL_CTL_BAND (n : Nat) : Field := ⟨(0x508100 + 0x40 * n), 8, 3, .ro, 7, .any⟩
def PLL_CTL_OUTEN (n : Nat) : Field := ⟨(0x508100 + 0x40 * n), 4, 4, .rw, 0, .any⟩
def PLL_CTL_EN (n : Nat) : Field := ⟨(0x508100 + 0x40 * n), 0, 1, .rw, 0, .any⟩

def PLL_PPS_VALUE (n : Nat) : Field := ⟨(0x508104 + 0x40 * n), 0, 32, .rw, 0x45555555, .any⟩

def PLL_FREQ_HZ (n : Nat) : Field := ⟨(0x508108 + 0x40 * n), 0, 32, .ro, 0, .any⟩

def PLL_DLY_VP (n : Nat) : Field := ⟨(0x50810C + 0x40 * n), 0, 32, .rw, 0, .any⟩

def PLL_PROFCTL_PEND (n : Nat) : Field := ⟨(0x508110 + 0x40 * n), 3, 1, .ro, 0, .any⟩
def PLL_PROFCTL_PROFERR (n : Nat) : Field := ⟨(0x508110 + 0x40 * n), 2, 1, .w1c, 0, .any⟩
def PLL_PROFCTL_COMMIT (n : Nat) : Field := ⟨(0x508110 + 0x40 * n), 1, 1, .w1s, 0, .any⟩
def PLL_PROFCTL_PERFACET (n : Nat) : Field := ⟨(0x508110 + 0x40 * n), 0, 1, .rw, 0, .any⟩

def PLL_LOLCNT_COUNT (n : Nat) : Field := ⟨(0x508114 + 0x40 * n), 0, 32, .rc, 0, .any⟩

def PLL_PROF0_B (i : Nat) : Field := ⟨(0x50A000 + 0x4 * i), 0, 16, .rw, 0, .any⟩

def PLL_PROF1_B (i : Nat) : Field := ⟨(0x50A800 + 0x4 * i), 0, 16, .rw, 0, .any⟩

def PLL_PROF2_B (i : Nat) : Field := ⟨(0x50B000 + 0x4 * i), 0, 16, .rw, 0, .any⟩

def PLL_PROF3_B (i : Nat) : Field := ⟨(0x50B800 + 0x4 * i), 0, 16, .rw, 0, .any⟩

/-! HLK: R194 of 07_head_link_and_exposure.md. -/

def HLK_STATUS_CFGERR : Field := ⟨0x600000, 0, 1, .w1c, 0, .any⟩

def HLK_FSTAT_SRC : Field := ⟨0x600010, 0, 16, .w1c, 0, .any⟩

def HLK_FMASK_SRC : Field := ⟨0x600014, 0, 16, .rw, 0, .any⟩

def HLK_GRACE_US : Field := ⟨0x600018, 0, 16, .rw, 0x3e8, (.clamp 1 0xFFFF)⟩

def HLK_VIOL_COUNT : Field := ⟨0x60001C, 0, 32, .rc, 0, .any⟩

def HLK_EVACCT_EN : Field := ⟨0x600020, 31, 1, .rw, 0, .any⟩
def HLK_EVACCT_ACCT : Field := ⟨0x600020, 0, 10, .rw, 0, .any⟩

def HLK_CTL_SPAREEN (n : Nat) : Field := ⟨(0x600100 + 0x80 * n), 2, 1, .rw, 1, .any⟩
def HLK_CTL_LEN (n : Nat) : Field := ⟨(0x600100 + 0x80 * n), 1, 1, .rw, 0, .any⟩
def HLK_CTL_EN (n : Nat) : Field := ⟨(0x600100 + 0x80 * n), 0, 1, .rw, 0, .any⟩

def HLK_STAT_HSTAT (n : Nat) : Field := ⟨(0x600104 + 0x80 * n), 16, 8, .ro, 0, .any⟩
def HLK_STAT_SPBAD (n : Nat) : Field := ⟨(0x600104 + 0x80 * n), 8, 1, .ro, 0, .any⟩
def HLK_STAT_SPLANE (n : Nat) : Field := ⟨(0x600104 + 0x80 * n), 4, 4, .ro, 0xf, .any⟩
def HLK_STAT_STATE (n : Nat) : Field := ⟨(0x600104 + 0x80 * n), 0, 2, .ro, 0, .any⟩

def HLK_WDOG_WIN (n : Nat) : Field := ⟨(0x600108 + 0x80 * n), 16, 16, .rw, 0x40, (.clamp 1 0xFFFF)⟩
def HLK_WDOG_MAXMISS (n : Nat) : Field := ⟨(0x600108 + 0x80 * n), 0, 16, .rw, 0x10, .any⟩

def HLK_SPCFG_WIN (n : Nat) : Field := ⟨(0x60010C + 0x80 * n), 16, 16, .rw, 0x1000, (.clamp 1 0xFFFF)⟩
def HLK_SPCFG_ERRS (n : Nat) : Field := ⟨(0x60010C + 0x80 * n), 0, 8, .rw, 4, (.clamp 2 0xFF)⟩

def HLK_NAKCNT_COUNT (n : Nat) : Field := ⟨(0x600110 + 0x80 * n), 0, 32, .rc, 0, .any⟩

def HLK_RETRYCNT_COUNT (n : Nat) : Field := ⟨(0x600114 + 0x80 * n), 0, 32, .rc, 0, .any⟩

def HLK_MISSCNT_COUNT (n : Nat) : Field := ⟨(0x600118 + 0x80 * n), 0, 32, .rc, 0, .any⟩

def HLK_TEMP_TEMP (n : Nat) : Field := ⟨(0x60011C + 0x80 * n), 0, 16, .ro, 0, .any⟩

def HLK_SUPPLY_MV (n : Nat) : Field := ⟨(0x600120 + 0x80 * n), 0, 16, .ro, 0, .any⟩

def HLK_MISSSWEEP_SWEEP (n : Nat) : Field := ⟨(0x600124 + 0x80 * n), 0, 32, .ro, 0, .any⟩

def HLK_MISSPOS_STROBE (n : Nat) : Field := ⟨(0x600128 + 0x80 * n), 16, 16, .ro, 0, .any⟩
def HLK_MISSPOS_LANE (n : Nat) : Field := ⟨(0x600128 + 0x80 * n), 0, 4, .ro, 0, .any⟩

def HLK_TRAINTO_US (n : Nat) : Field := ⟨(0x60012C + 0x80 * n), 0, 16, .rw, 0x64, (.clamp 20 0x3E8)⟩

def HLK_LANEERR0_COUNT (l : Nat) : Field := ⟨(0x600140 + 0x4 * l), 0, 16, .rc, 0, .any⟩

def HLK_LANEERR1_COUNT (l : Nat) : Field := ⟨(0x6001C0 + 0x4 * l), 0, 16, .rc, 0, .any⟩

def HLK_LANEERR2_COUNT (l : Nat) : Field := ⟨(0x600240 + 0x4 * l), 0, 16, .rc, 0, .any⟩

def HLK_LANEERR3_COUNT (l : Nat) : Field := ⟨(0x6002C0 + 0x4 * l), 0, 16, .rc, 0, .any⟩

/-! EXP: R195 of 07_head_link_and_exposure.md. -/

def EXP_STATUS_HCLAMP : Field := ⟨0x608000, 8, 4, .w1c, 0, .any⟩
def EXP_STATUS_STALE : Field := ⟨0x608000, 4, 4, .ro, 0, .any⟩
def EXP_STATUS_CFGERR : Field := ⟨0x608000, 0, 1, .w1c, 0, .any⟩

def EXP_FSTAT_SRC : Field := ⟨0x608010, 0, 8, .w1c, 0, .any⟩

def EXP_FMASK_SRC : Field := ⟨0x608014, 0, 8, .rw, 0, .any⟩

def EXP_GRACE_US : Field := ⟨0x608018, 0, 16, .rw, 0x3e8, (.clamp 1 0xFFFF)⟩

def EXP_CFG_TKGAIN (n : Nat) : Field := ⟨(0x608100 + 0x80 * n), 16, 16, .rw, 0x100, (.discard 0 0x400)⟩
def EXP_CFG_SPREAD (n : Nat) : Field := ⟨(0x608100 + 0x80 * n), 8, 8, .rw, 0x80, .any⟩
def EXP_CFG_TKEN (n : Nat) : Field := ⟨(0x608100 + 0x80 * n), 0, 1, .rw, 1, .any⟩

def EXP_KCOEF_KV (n : Nat) : Field := ⟨(0x608104 + 0x80 * n), 16, 16, .rw, 0, .any⟩
def EXP_KCOEF_KT (n : Nat) : Field := ⟨(0x608104 + 0x80 * n), 0, 16, .rw, 0, .any⟩

def EXP_REF_TREF (n : Nat) : Field := ⟨(0x608108 + 0x80 * n), 16, 16, .rw, 0x280, .any⟩
def EXP_REF_VREF (n : Nat) : Field := ⟨(0x608108 + 0x80 * n), 0, 16, .rw, 0xce4, .any⟩

def EXP_H_H (n : Nat) : Field := ⟨(0x60810C + 0x80 * n), 0, 16, .ro, 0x4000, .any⟩

def EXP_DEADTHR_HI (n : Nat) : Field := ⟨(0x608110 + 0x80 * n), 16, 16, .rw, 0x7530, .any⟩
def EXP_DEADTHR_LO (n : Nat) : Field := ⟨(0x608110 + 0x80 * n), 0, 16, .rw, 0x7d0, .any⟩

def EXP_OSCHK_OSEN (n : Nat) : Field := ⟨(0x608114 + 0x80 * n), 8, 1, .rw, 1, .any⟩
def EXP_OSCHK_OSW (n : Nat) : Field := ⟨(0x608114 + 0x80 * n), 0, 6, .rw, 0x3f, (.clamp 1 0x3F)⟩

def EXP_DEADCNT_COUNT (n : Nat) : Field := ⟨(0x608118 + 0x80 * n), 0, 9, .ro, 0, .any⟩

def EXP_SATCNT_COUNT (n : Nat) : Field := ⟨(0x60811C + 0x80 * n), 0, 32, .rc, 0, .any⟩

def EXP_DENSERR_ERR (n : Nat) : Field := ⟨(0x608120 + 0x80 * n), 0, 16, .ro, 0, .any⟩

def EXP_DEADCLR_ALL (n : Nat) : Field := ⟨(0x608124 + 0x80 * n), 31, 1, .wo, 0, .any⟩
def EXP_DEADCLR_ONE (n : Nat) : Field := ⟨(0x608124 + 0x80 * n), 8, 1, .wo, 0, .any⟩
def EXP_DEADCLR_EIDX (n : Nat) : Field := ⟨(0x608124 + 0x80 * n), 0, 8, .wo, 0, .any⟩

def EXP_TABLE0_W3 (k : Nat) : Field := ⟨(0x608130 + 0x4 * k), 24, 6, .rw, 0, .any⟩
def EXP_TABLE0_W2 (k : Nat) : Field := ⟨(0x608130 + 0x4 * k), 16, 6, .rw, 0, .any⟩
def EXP_TABLE0_W1 (k : Nat) : Field := ⟨(0x608130 + 0x4 * k), 8, 6, .rw, 0, .any⟩
def EXP_TABLE0_W0 (k : Nat) : Field := ⟨(0x608130 + 0x4 * k), 0, 6, .rw, 0, .any⟩

def EXP_TABLE1_W3 (k : Nat) : Field := ⟨(0x6081B0 + 0x4 * k), 24, 6, .rw, 0, .any⟩
def EXP_TABLE1_W2 (k : Nat) : Field := ⟨(0x6081B0 + 0x4 * k), 16, 6, .rw, 0, .any⟩
def EXP_TABLE1_W1 (k : Nat) : Field := ⟨(0x6081B0 + 0x4 * k), 8, 6, .rw, 0, .any⟩
def EXP_TABLE1_W0 (k : Nat) : Field := ⟨(0x6081B0 + 0x4 * k), 0, 6, .rw, 0, .any⟩

def EXP_TABLE2_W3 (k : Nat) : Field := ⟨(0x608230 + 0x4 * k), 24, 6, .rw, 0, .any⟩
def EXP_TABLE2_W2 (k : Nat) : Field := ⟨(0x608230 + 0x4 * k), 16, 6, .rw, 0, .any⟩
def EXP_TABLE2_W1 (k : Nat) : Field := ⟨(0x608230 + 0x4 * k), 8, 6, .rw, 0, .any⟩
def EXP_TABLE2_W0 (k : Nat) : Field := ⟨(0x608230 + 0x4 * k), 0, 6, .rw, 0, .any⟩

def EXP_TABLE3_W3 (k : Nat) : Field := ⟨(0x6082B0 + 0x4 * k), 24, 6, .rw, 0, .any⟩
def EXP_TABLE3_W2 (k : Nat) : Field := ⟨(0x6082B0 + 0x4 * k), 16, 6, .rw, 0, .any⟩
def EXP_TABLE3_W1 (k : Nat) : Field := ⟨(0x6082B0 + 0x4 * k), 8, 6, .rw, 0, .any⟩
def EXP_TABLE3_W0 (k : Nat) : Field := ⟨(0x6082B0 + 0x4 * k), 0, 6, .rw, 0, .any⟩

def EXP_GAIN_APPLIED (i : Nat) : Field := ⟨(0x609000 + 0x4 * i), 16, 16, .ro, 0x4000, .any⟩
def EXP_GAIN_TARGET (i : Nat) : Field := ⟨(0x609000 + 0x4 * i), 0, 16, .rw, 0x4000, (.discard 8192 0x7FFF)⟩

def EXP_ESTATE_DEAD (i : Nat) : Field := ⟨(0x60A000 + 0x4 * i), 31, 1, .ro, 0, .any⟩
def EXP_ESTATE_UNCOV (i : Nat) : Field := ⟨(0x60A000 + 0x4 * i), 30, 1, .ro, 0, .any⟩
def EXP_ESTATE_CURRENT (i : Nat) : Field := ⟨(0x60A000 + 0x4 * i), 0, 16, .ro, 0, .any⟩

/-! STO: R213 of 08_raster_store_and_mint.md. -/

def STO_CTL_NDRV : Field := ⟨0x700000, 4, 5, .rw, 1, .any⟩
def STO_CTL_MIRROR : Field := ⟨0x700000, 1, 1, .rw, 0, .any⟩
def STO_CTL_EN : Field := ⟨0x700000, 0, 1, .rw, 0, .any⟩

def STO_FORMAT_KEY : Field := ⟨0x700004, 16, 16, .wo, 0, .any⟩

def STO_STATUS_LABELERR : Field := ⟨0x700008, 2, 1, .ro, 0, .any⟩
def STO_STATUS_READY : Field := ⟨0x700008, 1, 1, .ro, 0, .any⟩
def STO_STATUS_CFGERR : Field := ⟨0x700008, 0, 1, .w1c, 0, .any⟩

def STO_CAPUNITS_UNITS : Field := ⟨0x70000C, 0, 25, .ro, 0, .any⟩

def STO_FREEUNITS_UNITS : Field := ⟨0x700010, 0, 25, .ro, 0, .any⟩

def STO_PFBASE_GIB : Field := ⟨0x700014, 0, 5, .rw, 8, .any⟩

def STO_PFSIZE_GIB : Field := ⟨0x700018, 0, 5, .rw, 0x10, .any⟩

def STO_PFGUARD_VALUE : Field := ⟨0x70001C, 0, 32, .rw, 0x400, (.clamp 768 0x7FFF)⟩

def STO_CMDTO_VALUE : Field := ⟨0x700020, 0, 32, .rw, 0x1388, (.clamp 100 0xF4240)⟩

def STO_RETRY_VALUE : Field := ⟨0x700024, 0, 4, .rw, 3, .any⟩

def STO_WRSHARE_VALUE : Field := ⟨0x700028, 0, 32, .rw, 0x100, (.clamp 16 0x400)⟩

def STO_INGTO_VALUE : Field := ⟨0x70002C, 0, 32, .rw, 0x3e8, (.clamp 1 0xFFFF)⟩

def STO_DRVFAIL_VALUE : Field := ⟨0x700030, 0, 32, .rw, 4, (.clamp 1 0xFF)⟩

def STO_OUTSTAND_PENDING : Field := ⟨0x700034, 12, 20, .ro, 0, .any⟩
def STO_OUTSTAND_CMDS : Field := ⟨0x700034, 0, 11, .ro, 0, .any⟩

def STO_FSTAT_SRC : Field := ⟨0x700040, 0, 17, .w1c, 0, .any⟩

def STO_FMASK_SRC : Field := ⟨0x700044, 0, 17, .rw, 0, .any⟩

def STO_GRACE_US : Field := ⟨0x700048, 0, 16, .rw, 0x3e8, (.clamp 1 0xFFFF)⟩

def STO_EVACCT_EN : Field := ⟨0x70004C, 31, 1, .rw, 0, .any⟩
def STO_EVACCT_ACCT : Field := ⟨0x70004C, 0, 10, .rw, 0, .any⟩

def STO_VIOL_COUNT : Field := ⟨0x700050, 0, 32, .rc, 0, .any⟩

def STO_LATECPL_COUNT : Field := ⟨0x700054, 0, 32, .rc, 0, .any⟩

def STO_RETRYCNT_COUNT : Field := ⟨0x700058, 0, 32, .rc, 0, .any⟩

def STO_LOSTCNT_COUNT : Field := ⟨0x70005C, 0, 32, .rc, 0, .any⟩

def STO_EXTPAGE_PAGE : Field := ⟨0x700060, 0, 4, .rw, 0, .any⟩

def STO_DRV_QUEUES (n : Nat) : Field := ⟨(0x700100 + 0x20 * n), 16, 5, .ro, 0, .any⟩
def STO_DRV_LBA4K (n : Nat) : Field := ⟨(0x700100 + 0x20 * n), 12, 1, .ro, 0, .any⟩
def STO_DRV_STATE (n : Nat) : Field := ⟨(0x700100 + 0x20 * n), 0, 3, .ro, 0, .any⟩

def STO_NSID_NSID (n : Nat) : Field := ⟨(0x700104 + 0x20 * n), 0, 32, .rw, 0, .any⟩

def STO_DRVUNITS_UNITS (n : Nat) : Field := ⟨(0x700108 + 0x20 * n), 0, 32, .ro, 0, .any⟩

def STO_DRVERR_COUNT (n : Nat) : Field := ⟨(0x70010C + 0x20 * n), 0, 32, .rc, 0, .any⟩

/-! MNT: R214 of 08_raster_store_and_mint.md. -/

def MNT_FSTAT_SRC : Field := ⟨0x780000, 0, 4, .w1c, 0, .any⟩

def MNT_FMASK_SRC : Field := ⟨0x780004, 0, 4, .rw, 0, .any⟩

def MNT_GRACE_US : Field := ⟨0x780008, 0, 16, .rw, 0x3e8, (.clamp 1 0xFFFF)⟩

def MNT_CHKCNT_COUNT (n : Nat) : Field := ⟨(0x780010 + 0x4 * n), 0, 32, .rc, 0, .any⟩

def MNT_TILES_COUNT : Field := ⟨0x780020, 0, 32, .rc, 0, .any⟩

def MNT_RAWTILES_COUNT : Field := ⟨0x780024, 0, 32, .rc, 0, .any⟩

def MNT_INMB_MB : Field := ⟨0x780028, 0, 32, .rc, 0, .any⟩

def MNT_OUTMB_MB : Field := ⟨0x78002C, 0, 32, .rc, 0, .any⟩

/-! PCS: R215 of 08_raster_store_and_mint.md. -/

def PCS_CTL_MAXSPD : Field := ⟨0xF80000, 4, 3, .rw, 5, (.discard 1 0x5)⟩
def PCS_CTL_ASPML1 : Field := ⟨0xF80000, 1, 1, .rw, 0, .any⟩
def PCS_CTL_EN : Field := ⟨0xF80000, 0, 1, .rw, 0, .any⟩

def PCS_LINK_WIDTH : Field := ⟨0xF80004, 4, 4, .ro, 0, .any⟩
def PCS_LINK_SPEED : Field := ⟨0xF80004, 1, 3, .ro, 0, .any⟩
def PCS_LINK_UP : Field := ⟨0xF80004, 0, 1, .ro, 0, .any⟩

def PCS_CTO_US : Field := ⟨0xF80008, 0, 16, .rw, 0x2710, (.clamp 50 0xC350)⟩

def PCS_ERRCNT_UR : Field := ⟨0xF8000C, 16, 16, .rc, 0, .any⟩
def PCS_ERRCNT_BADTLP : Field := ⟨0xF8000C, 0, 16, .rc, 0, .any⟩

/-! DMA: R232 of 09_dma.md. -/

def DMA_STATUS_ARMCYCCH : Field := ⟨0x800000, 8, 6, .ro, 0, .any⟩
def DMA_STATUS_TRIGLOST : Field := ⟨0x800000, 2, 1, .w1c, 0, .any⟩
def DMA_STATUS_ARMCYC : Field := ⟨0x800000, 1, 1, .w1c, 0, .any⟩
def DMA_STATUS_CFGERR : Field := ⟨0x800000, 0, 1, .w1c, 0, .any⟩

def DMA_FSTAT_SRC (k : Nat) : Field := ⟨(0x800010 + 0x4 * k), 0, 32, .w1c, 0, .any⟩

def DMA_FMASK_SRC (k : Nat) : Field := ⟨(0x800018 + 0x4 * k), 0, 32, .rw, 0, .any⟩

def DMA_GRACE_US : Field := ⟨0x800020, 0, 16, .rw, 0x3e8, (.clamp 1 0xFFFF)⟩

def DMA_TMR_PERIOD (k : Nat) : Field := ⟨(0x800040 + 0x4 * k), 0, 32, .rw, 0, .any⟩

def DMA_CTL_CONT (n : Nat) : Field := ⟨(0x801000 + 0x40 * n), 4, 1, .w1s, 0, .any⟩
def DMA_CTL_CLRERR (n : Nat) : Field := ⟨(0x801000 + 0x40 * n), 3, 1, .w1s, 0, .any⟩
def DMA_CTL_GO (n : Nat) : Field := ⟨(0x801000 + 0x40 * n), 2, 1, .w1s, 0, .any⟩
def DMA_CTL_PAUSE (n : Nat) : Field := ⟨(0x801000 + 0x40 * n), 1, 1, .rw, 0, .any⟩
def DMA_CTL_ARM (n : Nat) : Field := ⟨(0x801000 + 0x40 * n), 0, 1, .rw, 0, .any⟩

def DMA_CFG_TEVT (n : Nat) : Field := ⟨(0x801004 + 0x40 * n), 28, 4, .rw, 0, .any⟩
def DMA_CFG_HSP (n : Nat) : Field := ⟨(0x801004 + 0x40 * n), 26, 2, .rw, 0, (.discard 0 0x2)⟩
def DMA_CFG_PRI (n : Nat) : Field := ⟨(0x801004 + 0x40 * n), 20, 2, .rw, 0, .any⟩
def DMA_CFG_GRAIN (n : Nat) : Field := ⟨(0x801004 + 0x40 * n), 16, 2, .rw, 0, (.discard 0 0x2)⟩
def DMA_CFG_SRC (n : Nat) : Field := ⟨(0x801004 + 0x40 * n), 8, 6, .rw, 0, .any⟩
def DMA_CFG_KIND (n : Nat) : Field := ⟨(0x801004 + 0x40 * n), 0, 3, .rw, 0, (.discard 0 0x4)⟩

def DMA_HOPLIM_HOPLIM (n : Nat) : Field := ⟨(0x801008 + 0x40 * n), 0, 16, .rw, 0x1000, (.clamp 1 0xFFFF)⟩

def DMA_BURST_BURST (n : Nat) : Field := ⟨(0x80100C + 0x40 * n), 0, 16, .rw, 1, (.clamp 1 0xFFFF)⟩

def DMA_HEADLO_HEAD (n : Nat) : Field := ⟨(0x801010 + 0x40 * n), 0, 32, .rw, 0, .any⟩

def DMA_HEADHI_HEAD (n : Nat) : Field := ⟨(0x801014 + 0x40 * n), 0, 32, .rw, 0, .any⟩

def DMA_CHSTAT_HOPS (n : Nat) : Field := ⟨(0x801018 + 0x40 * n), 16, 16, .ro, 0, .any⟩
def DMA_CHSTAT_PEND (n : Nat) : Field := ⟨(0x801018 + 0x40 * n), 8, 8, .ro, 0, .any⟩
def DMA_CHSTAT_ERR (n : Nat) : Field := ⟨(0x801018 + 0x40 * n), 4, 3, .ro, 0, .any⟩
def DMA_CHSTAT_STATE (n : Nat) : Field := ⟨(0x801018 + 0x40 * n), 0, 3, .ro, 0, .any⟩

def DMA_REMAIN_HOLD (n : Nat) : Field := ⟨(0x80101C + 0x40 * n), 25, 7, .ro, 0, .any⟩
def DMA_REMAIN_REMAIN (n : Nat) : Field := ⟨(0x80101C + 0x40 * n), 0, 24, .ro, 0, .any⟩

def DMA_CURSRCLO_ADDR (n : Nat) : Field := ⟨(0x801020 + 0x40 * n), 0, 32, .ro, 0, .any⟩

def DMA_CURSRCHI_ADDR (n : Nat) : Field := ⟨(0x801024 + 0x40 * n), 0, 32, .ro, 0, .any⟩

def DMA_CURDSTLO_ADDR (n : Nat) : Field := ⟨(0x801028 + 0x40 * n), 0, 32, .ro, 0, .any⟩

def DMA_CURDSTHI_ADDR (n : Nat) : Field := ⟨(0x80102C + 0x40 * n), 0, 32, .ro, 0, .any⟩

def DMA_CURDESCLO_ADDR (n : Nat) : Field := ⟨(0x801030 + 0x40 * n), 0, 32, .ro, 0, .any⟩

def DMA_CURDESCHI_ADDR (n : Nat) : Field := ⟨(0x801034 + 0x40 * n), 0, 32, .ro, 0, .any⟩

def DMA_CURDCTL_DCTL (n : Nat) : Field := ⟨(0x801038 + 0x40 * n), 0, 32, .ro, 0, .any⟩

def DMA_TRIGLOST_COUNT (n : Nat) : Field := ⟨(0x80103C + 0x40 * n), 0, 32, .rc, 0, .any⟩

/-! MOT: R259 of 10_motors_and_gate_drive.md. -/

def MOT_STATUS_CFGERR : Field := ⟨0x900000, 0, 1, .w1c, 0, .any⟩

def MOT_FSTAT_SRC : Field := ⟨0x900010, 0, 28, .w1c, 0, .any⟩

def MOT_FMASK_SRC : Field := ⟨0x900014, 0, 28, .rw, 0, .any⟩

def MOT_GRACE_US : Field := ⟨0x900018, 0, 16, .rw, 0x3e8, (.clamp 1 0xFFFF)⟩

def MOT_CFG_SCNPORT (i : Nat) : Field := ⟨(0x901000 + 0x100 * i), 16, 3, .rw, 0, (.discard 0 0x4)⟩
def MOT_CFG_POLES (i : Nat) : Field := ⟨(0x901000 + 0x100 * i), 8, 7, .rw, 1, (.clamp 1 0x7F)⟩
def MOT_CFG_REVBRAKE (i : Nat) : Field := ⟨(0x901000 + 0x100 * i), 5, 1, .rw, 1, .any⟩
def MOT_CFG_PRIV (i : Nat) : Field := ⟨(0x901000 + 0x100 * i), 4, 1, .rw, 0, .any⟩
def MOT_CFG_MODE (i : Nat) : Field := ⟨(0x901000 + 0x100 * i), 1, 3, .rw, 0, (.discard 0 0x4)⟩
def MOT_CFG_EN (i : Nat) : Field := ⟨(0x901000 + 0x100 * i), 0, 1, .rw, 0, .any⟩

def MOT_CMD_CMD (i : Nat) : Field := ⟨(0x901004 + 0x100 * i), 0, 3, .wo, 0, .any⟩

def MOT_STAT_ENGAGED (i : Nat) : Field := ⟨(0x901008 + 0x100 * i), 11, 1, .ro, 0, .any⟩
def MOT_STAT_LIMPEND (i : Nat) : Field := ⟨(0x901008 + 0x100 * i), 10, 1, .ro, 0, .any⟩
def MOT_STAT_MOVING (i : Nat) : Field := ⟨(0x901008 + 0x100 * i), 9, 1, .ro, 0, .any⟩
def MOT_STAT_SHIFT (i : Nat) : Field := ⟨(0x901008 + 0x100 * i), 8, 1, .ro, 0, .any⟩
def MOT_STAT_PRED (i : Nat) : Field := ⟨(0x901008 + 0x100 * i), 7, 1, .ro, 0, .any⟩
def MOT_STAT_VSAT (i : Nat) : Field := ⟨(0x901008 + 0x100 * i), 6, 1, .ro, 0, .any⟩
def MOT_STAT_ATSPD (i : Nat) : Field := ⟨(0x901008 + 0x100 * i), 5, 1, .ro, 0, .any⟩
def MOT_STAT_STATE (i : Nat) : Field := ⟨(0x901008 + 0x100 * i), 0, 4, .ro, 0, .any⟩

def MOT_TGTRPM_RPM (i : Nat) : Field := ⟨(0x90100C + 0x100 * i), 0, 16, .rw, 0, .any⟩

def MOT_TARGETLO_VALUE (i : Nat) : Field := ⟨(0x901010 + 0x100 * i), 0, 32, .rw, 0, .any⟩

def MOT_TARGETHI_VALUE (i : Nat) : Field := ⟨(0x901014 + 0x100 * i), 0, 32, .rw, 0, .any⟩

def MOT_VMAX_VALUE (i : Nat) : Field := ⟨(0x901018 + 0x100 * i), 0, 32, .rw, 0, .any⟩

def MOT_AMAX_VALUE (i : Nat) : Field := ⟨(0x90101C + 0x100 * i), 0, 32, .rw, 0, .any⟩

def MOT_JMAX_VALUE (i : Nat) : Field := ⟨(0x901020 + 0x100 * i), 0, 32, .rw, 0, .any⟩

def MOT_POSLO_VALUE (i : Nat) : Field := ⟨(0x901024 + 0x100 * i), 0, 32, .ro, 0, .any⟩

def MOT_POSHI_VALUE (i : Nat) : Field := ⟨(0x901028 + 0x100 * i), 0, 32, .ro, 0, .any⟩

def MOT_VEL_VALUE (i : Nat) : Field := ⟨(0x90102C + 0x100 * i), 0, 32, .ro, 0, .any⟩

def MOT_SPEED_VALUE (i : Nat) : Field := ⟨(0x901030 + 0x100 * i), 0, 32, .ro, 0, .any⟩

def MOT_GEARNUM_VALUE (i : Nat) : Field := ⟨(0x901034 + 0x100 * i), 0, 16, .rw, 1, .any⟩

def MOT_GEARDEN_VALUE (i : Nat) : Field := ⟨(0x901038 + 0x100 * i), 0, 32, .rw, 1, (.discard 1 0xFFFFFFFF)⟩

def MOT_GEAROFS_VALUE (i : Nat) : Field := ⟨(0x90103C + 0x100 * i), 0, 32, .rw, 0, .any⟩

def MOT_OFSRATE_VALUE (i : Nat) : Field := ⟨(0x901040 + 0x100 * i), 0, 16, .rw, 0x40, (.clamp 1 0xFFFF)⟩

def MOT_GEARSLIP_VALUE (i : Nat) : Field := ⟨(0x901044 + 0x100 * i), 0, 32, .ro, 0, .any⟩

def MOT_ADC_IB (i : Nat) : Field := ⟨(0x901048 + 0x100 * i), 8, 6, .rw, 4, .any⟩
def MOT_ADC_IA (i : Nat) : Field := ⟨(0x901048 + 0x100 * i), 0, 6, .rw, 0, .any⟩

def MOT_LOOPS_PLOOP (i : Nat) : Field := ⟨(0x90104C + 0x100 * i), 16, 7, .rw, 0, .any⟩
def MOT_LOOPS_SLOOP (i : Nat) : Field := ⟨(0x90104C + 0x100 * i), 8, 7, .rw, 0, .any⟩
def MOT_LOOPS_ILOOP (i : Nat) : Field := ⟨(0x90104C + 0x100 * i), 0, 7, .rw, 0, (.discard 0 0x7E)⟩

def MOT_MOTOR_IND (i : Nat) : Field := ⟨(0x901050 + 0x100 * i), 16, 16, .rw, 0, .any⟩
def MOT_MOTOR_RES (i : Nat) : Field := ⟨(0x901050 + 0x100 * i), 0, 16, .rw, 0, .any⟩

def MOT_KE_VALUE (i : Nat) : Field := ⟨(0x901054 + 0x100 * i), 0, 16, .rw, 0, .any⟩

def MOT_CUR_IAUX (i : Nat) : Field := ⟨(0x901058 + 0x100 * i), 16, 16, .rw, 0, .any⟩
def MOT_CUR_IMAX (i : Nat) : Field := ⟨(0x901058 + 0x100 * i), 0, 16, .rw, 0, .any⟩

def MOT_STARTC_HANDOVER (i : Nat) : Field := ⟨(0x90105C + 0x100 * i), 16, 16, .rw, 0x12c, .any⟩
def MOT_STARTC_ALIGNMS (i : Nat) : Field := ⟨(0x90105C + 0x100 * i), 8, 8, .rw, 0x64, (.clamp 1 0xFF)⟩
def MOT_STARTC_SENSEMS (i : Nat) : Field := ⟨(0x90105C + 0x100 * i), 0, 8, .rw, 0x14, (.clamp 1 0xFF)⟩

def MOT_SYNCC_VSTILL (i : Nat) : Field := ⟨(0x901060 + 0x100 * i), 24, 8, .rw, 0x14, .any⟩
def MOT_SYNCC_SYNCN (i : Nat) : Field := ⟨(0x901060 + 0x100 * i), 16, 8, .rw, 0x20, (.clamp 1 0xFF)⟩
def MOT_SYNCC_SYNCHI (i : Nat) : Field := ⟨(0x901060 + 0x100 * i), 8, 8, .rw, 0x60, .any⟩
def MOT_SYNCC_SYNCLO (i : Nat) : Field := ⟨(0x901060 + 0x100 * i), 0, 8, .rw, 0x20, .any⟩

def MOT_SAMP_PREDMAX (i : Nat) : Field := ⟨(0x901064 + 0x100 * i), 16, 8, .rw, 8, (.clamp 1 0xFF)⟩
def MOT_SAMP_SETTLE (i : Nat) : Field := ⟨(0x901064 + 0x100 * i), 0, 12, .rw, 0x3e8, (.clamp 100 0xFA0)⟩

def MOT_ATSPDTOL_VALUE (i : Nat) : Field := ⟨(0x901068 + 0x100 * i), 0, 16, .rw, 0x32, .any⟩

def MOT_STALL_STMINRPM (i : Nat) : Field := ⟨(0x90106C + 0x100 * i), 16, 16, .rw, 0x1e, .any⟩
def MOT_STALL_STALLANG (i : Nat) : Field := ⟨(0x90106C + 0x100 * i), 0, 16, .rw, 0x38e3, .any⟩

def MOT_LOADANG_VALUE (i : Nat) : Field := ⟨(0x901070 + 0x100 * i), 0, 16, .ro, 0, .any⟩

def MOT_SKIPCNT_COUNT (i : Nat) : Field := ⟨(0x901074 + 0x100 * i), 0, 32, .rc, 0, .any⟩

def MOT_SHIFTCNT_COUNT (i : Nat) : Field := ⟨(0x901078 + 0x100 * i), 0, 32, .rc, 0, .any⟩

def MOT_LOSTSTEP_COUNT (i : Nat) : Field := ⟨(0x90107C + 0x100 * i), 0, 32, .rc, 0, .any⟩

def MOT_ADV0_VALUE (i : Nat) : Field := ⟨(0x901080 + 0x100 * i), 0, 16, .rw, 0, (.discard 0 0x4000)⟩

def MOT_ADV1_VALUE (i : Nat) : Field := ⟨(0x901084 + 0x100 * i), 0, 16, .rw, 0, (.discard 0 0x4000)⟩

def MOT_ADV2_VALUE (i : Nat) : Field := ⟨(0x901088 + 0x100 * i), 0, 16, .rw, 0, (.discard 0 0x4000)⟩

def MOT_ADV3_VALUE (i : Nat) : Field := ⟨(0x90108C + 0x100 * i), 0, 16, .rw, 0, (.discard 0 0x4000)⟩

def MOT_ADV4_VALUE (i : Nat) : Field := ⟨(0x901090 + 0x100 * i), 0, 16, .rw, 0, (.discard 0 0x4000)⟩

def MOT_ADV5_VALUE (i : Nat) : Field := ⟨(0x901094 + 0x100 * i), 0, 16, .rw, 0, (.discard 0 0x4000)⟩

def MOT_ADV6_VALUE (i : Nat) : Field := ⟨(0x901098 + 0x100 * i), 0, 16, .rw, 0, (.discard 0 0x4000)⟩

def MOT_ADV7_VALUE (i : Nat) : Field := ⟨(0x90109C + 0x100 * i), 0, 16, .rw, 0, (.discard 0 0x4000)⟩

def MOT_ADV8_VALUE (i : Nat) : Field := ⟨(0x9010A0 + 0x100 * i), 0, 16, .rw, 0, (.discard 0 0x4000)⟩

def MOT_ADV9_VALUE (i : Nat) : Field := ⟨(0x9010A4 + 0x100 * i), 0, 16, .rw, 0, (.discard 0 0x4000)⟩

def MOT_ADV10_VALUE (i : Nat) : Field := ⟨(0x9010A8 + 0x100 * i), 0, 16, .rw, 0, (.discard 0 0x4000)⟩

def MOT_ADV11_VALUE (i : Nat) : Field := ⟨(0x9010AC + 0x100 * i), 0, 16, .rw, 0, (.discard 0 0x4000)⟩

def MOT_ADV12_VALUE (i : Nat) : Field := ⟨(0x9010B0 + 0x100 * i), 0, 16, .rw, 0, (.discard 0 0x4000)⟩

def MOT_ADV13_VALUE (i : Nat) : Field := ⟨(0x9010B4 + 0x100 * i), 0, 16, .rw, 0, (.discard 0 0x4000)⟩

def MOT_ADV14_VALUE (i : Nat) : Field := ⟨(0x9010B8 + 0x100 * i), 0, 16, .rw, 0, (.discard 0 0x4000)⟩

def MOT_ADV15_VALUE (i : Nat) : Field := ⟨(0x9010BC + 0x100 * i), 0, 16, .rw, 0, (.discard 0 0x4000)⟩

def MOT_ADV16_VALUE (i : Nat) : Field := ⟨(0x9010C0 + 0x100 * i), 0, 16, .rw, 0, (.discard 0 0x4000)⟩

def MOT_ADVSPAN_VALUE (i : Nat) : Field := ⟨(0x9010C4 + 0x100 * i), 0, 16, .rw, 0x1770, (.clamp 1 0xFFFF)⟩

/-! GDR: R260 of 10_motors_and_gate_drive.md. -/

def GDR_STATUS_ILK : Field := ⟨0x980000, 1, 1, .w1c, 0, .any⟩
def GDR_STATUS_CFGERR : Field := ⟨0x980000, 0, 1, .w1c, 0, .any⟩

def GDR_FSTATLO_CH : Field := ⟨0x980010, 0, 32, .w1c, 0, .any⟩

def GDR_FSTATHI_CH : Field := ⟨0x980014, 0, 20, .w1c, 0, .any⟩

def GDR_FSTATX_CH : Field := ⟨0x980018, 0, 3, .w1c, 0, .any⟩

def GDR_FMASKLO_CH : Field := ⟨0x98001C, 0, 32, .rw, 0, .any⟩

def GDR_FMASKHI_CH : Field := ⟨0x980020, 0, 20, .rw, 0, .any⟩

def GDR_FMASKX_CH : Field := ⟨0x980024, 0, 3, .rw, 0, .any⟩

def GDR_GRACE_US : Field := ⟨0x980028, 0, 16, .rw, 0x3e8, (.clamp 1 0xFFFF)⟩

def GDR_VGD_VALUE : Field := ⟨0x98002C, 0, 16, .ro, 0, .any⟩

def GDR_CHCFG_DESATBLK (c : Nat) : Field := ⟨(0x981000 + 0x20 * c), 24, 4, .rw, 4, (.clamp 1 0xF)⟩
def GDR_CHCFG_DESATV (c : Nat) : Field := ⟨(0x981000 + 0x20 * c), 20, 4, .rw, 4, (.clamp 1 0xF)⟩
def GDR_CHCFG_DT (c : Nat) : Field := ⟨(0x981000 + 0x20 * c), 12, 8, .rw, 0x14, (.clamp 4 0xFF)⟩
def GDR_CHCFG_FIXSTEP (c : Nat) : Field := ⟨(0x981000 + 0x20 * c), 8, 4, .rw, 8, .any⟩
def GDR_CHCFG_VMSEL (c : Nat) : Field := ⟨(0x981000 + 0x20 * c), 5, 1, .rw, 0, .any⟩
def GDR_CHCFG_BOOST (c : Nat) : Field := ⟨(0x981000 + 0x20 * c), 4, 1, .rw, 0, .any⟩
def GDR_CHCFG_TRICKLE (c : Nat) : Field := ⟨(0x981000 + 0x20 * c), 3, 1, .rw, 1, .any⟩
def GDR_CHCFG_ADAPT (c : Nat) : Field := ⟨(0x981000 + 0x20 * c), 2, 1, .rw, 1, .any⟩
def GDR_CHCFG_MODE (c : Nat) : Field := ⟨(0x981000 + 0x20 * c), 0, 2, .rw, 0, .any⟩

def GDR_STR_LSSTEP (c : Nat) : Field := ⟨(0x981004 + 0x20 * c), 28, 4, .ro, 8, .any⟩
def GDR_STR_HSSTEP (c : Nat) : Field := ⟨(0x981004 + 0x20 * c), 24, 4, .ro, 8, .any⟩
def GDR_STR_MAXSTEP (c : Nat) : Field := ⟨(0x981004 + 0x20 * c), 20, 4, .rw, 0xf, .any⟩
def GDR_STR_MINSTEP (c : Nat) : Field := ⟨(0x981004 + 0x20 * c), 16, 4, .rw, 0, .any⟩
def GDR_STR_TOL (c : Nat) : Field := ⟨(0x981004 + 0x20 * c), 9, 5, .rw, 5, (.clamp 1 0x1F)⟩
def GDR_STR_TARGET (c : Nat) : Field := ⟨(0x981004 + 0x20 * c), 0, 9, .rw, 0x32, (.clamp 5 0x1F4)⟩

def GDR_CHST_BOOTUV (c : Nat) : Field := ⟨(0x981008 + 0x20 * c), 3, 1, .w1c, 0, .any⟩
def GDR_CHST_DESATLS (c : Nat) : Field := ⟨(0x981008 + 0x20 * c), 2, 1, .w1c, 0, .any⟩
def GDR_CHST_DESATHS (c : Nat) : Field := ⟨(0x981008 + 0x20 * c), 1, 1, .w1c, 0, .any⟩

def GDR_ILKCNT_ILKCNT (c : Nat) : Field := ⟨(0x98100C + 0x20 * c), 0, 16, .rc, 0, .any⟩

def GDR_TSW_TSWHS (c : Nat) : Field := ⟨(0x981010 + 0x20 * c), 16, 16, .ro, 0, .any⟩
def GDR_TSW_TSWLS (c : Nat) : Field := ⟨(0x981010 + 0x20 * c), 0, 16, .ro, 0, .any⟩

def GDR_PWM_PERIOD (c : Nat) : Field := ⟨(0x981014 + 0x20 * c), 16, 16, .rw, 0, .any⟩
def GDR_PWM_DUTY (c : Nat) : Field := ⟨(0x981014 + 0x20 * c), 0, 16, .rw, 0, .any⟩

def GDR_VSW_VSW (c : Nat) : Field := ⟨(0x981018 + 0x20 * c), 0, 16, .ro, 0, .any⟩

def GDR_LSMODE_MODE (k : Nat) : Field := ⟨(0x981800 + 0x8 * k), 0, 2, .rw, 0, (.discard 0 0x2)⟩

def GDR_LSPWM_PERIOD (k : Nat) : Field := ⟨(0x981804 + 0x8 * k), 16, 16, .rw, 0, .any⟩
def GDR_LSPWM_DUTY (k : Nat) : Field := ⟨(0x981804 + 0x8 * k), 0, 16, .rw, 0, .any⟩

def GDR_BRKCFG_OFF (a : Nat) : Field := ⟨(0x981900 + 0x10 * a), 16, 12, .rw, 0x960, .any⟩
def GDR_BRKCFG_ON (a : Nat) : Field := ⟨(0x981900 + 0x10 * a), 0, 12, .rw, 0x992, .any⟩

def GDR_BRKCTL_FORCE (a : Nat) : Field := ⟨(0x981904 + 0x10 * a), 31, 1, .rw, 0, .any⟩
def GDR_BRKCTL_ARM (a : Nat) : Field := ⟨(0x981904 + 0x10 * a), 30, 1, .rw, 0, .any⟩
def GDR_BRKCTL_MINON (a : Nat) : Field := ⟨(0x981904 + 0x10 * a), 16, 6, .rw, 4, (.clamp 1 0x3F)⟩
def GDR_BRKCTL_TRIP (a : Nat) : Field := ⟨(0x981904 + 0x10 * a), 0, 12, .rw, 0x9c4, .any⟩

def GDR_BRKONTIME_ONTIME (a : Nat) : Field := ⟨(0x981908 + 0x10 * a), 0, 32, .rc, 0, .any⟩

def GDR_BRKSENSE_SENSE (a : Nat) : Field := ⟨(0x98190C + 0x10 * a), 0, 12, .ro, 0, .any⟩

/-! CTL: R282 of 11_control_hv_fuser_thermal.md. -/

def CTL_STATUS_COEFERR : Field := ⟨0xA00000, 1, 1, .w1c, 0, .any⟩
def CTL_STATUS_CFGERR : Field := ⟨0xA00000, 0, 1, .w1c, 0, .any⟩

def CTL_PERIOD_VALUE : Field := ⟨0xA00004, 0, 32, .ro, 0, .any⟩

def CTL_LOAD_VALUE : Field := ⟨0xA00008, 0, 32, .rc, 0, .any⟩

def CTL_LCFG_RC (i : Nat) : Field := ⟨(0xA01000 + 0x40 * i), 24, 5, .rw, 0x1f, .any⟩
def CTL_LCFG_PHASE (i : Nat) : Field := ⟨(0xA01000 + 0x40 * i), 16, 8, .rw, 0, .any⟩
def CTL_LCFG_DIV (i : Nat) : Field := ⟨(0xA01000 + 0x40 * i), 8, 8, .rw, 0, .any⟩
def CTL_LCFG_TRIG (i : Nat) : Field := ⟨(0xA01000 + 0x40 * i), 3, 1, .rw, 0, .any⟩
def CTL_LCFG_ORDER (i : Nat) : Field := ⟨(0xA01000 + 0x40 * i), 2, 1, .rw, 0, .any⟩
def CTL_LCFG_FMT (i : Nat) : Field := ⟨(0xA01000 + 0x40 * i), 1, 1, .rw, 0, .any⟩
def CTL_LCFG_EN (i : Nat) : Field := ⟨(0xA01000 + 0x40 * i), 0, 1, .rw, 0, .any⟩

def CTL_FB_FBKIND (i : Nat) : Field := ⟨(0xA01004 + 0x40 * i), 28, 4, .rw, 0, .any⟩
def CTL_FB_FBIDX (i : Nat) : Field := ⟨(0xA01004 + 0x40 * i), 16, 12, .rw, 0, .any⟩
def CTL_FB_SPKIND (i : Nat) : Field := ⟨(0xA01004 + 0x40 * i), 12, 4, .rw, 0, .any⟩
def CTL_FB_SPIDX (i : Nat) : Field := ⟨(0xA01004 + 0x40 * i), 0, 12, .rw, 0, .any⟩

def CTL_OUT_OUTKIND (i : Nat) : Field := ⟨(0xA01008 + 0x40 * i), 28, 4, .rw, 0, .any⟩
def CTL_OUT_OUTIDX (i : Nat) : Field := ⟨(0xA01008 + 0x40 * i), 16, 12, .rw, 0, .any⟩
def CTL_OUT_FFKIND (i : Nat) : Field := ⟨(0xA01008 + 0x40 * i), 12, 4, .rw, 0, .any⟩
def CTL_OUT_FFIDX (i : Nat) : Field := ⟨(0xA01008 + 0x40 * i), 0, 12, .rw, 0, .any⟩

def CTL_FFGAIN_VALUE (i : Nat) : Field := ⟨(0xA0100C + 0x40 * i), 0, 32, .rw, 0, .any⟩

def CTL_SP_VALUE (i : Nat) : Field := ⟨(0xA01010 + 0x40 * i), 0, 32, .rw, 0, .any⟩

def CTL_UMIN_VALUE (i : Nat) : Field := ⟨(0xA01014 + 0x40 * i), 0, 32, .rw, 0x80000000, .any⟩

def CTL_UMAX_VALUE (i : Nat) : Field := ⟨(0xA01018 + 0x40 * i), 0, 32, .rw, 0x7fffffff, .any⟩

def CTL_LSTAT_OWNER (i : Nat) : Field := ⟨(0xA0101C + 0x40 * i), 28, 4, .ro, 0, .any⟩
def CTL_LSTAT_NOOUT (i : Nat) : Field := ⟨(0xA0101C + 0x40 * i), 3, 1, .ro, 0, .any⟩
def CTL_LSTAT_STALE (i : Nat) : Field := ⟨(0xA0101C + 0x40 * i), 2, 1, .ro, 0, .any⟩
def CTL_LSTAT_HELD (i : Nat) : Field := ⟨(0xA0101C + 0x40 * i), 1, 1, .ro, 0, .any⟩
def CTL_LSTAT_SAT (i : Nat) : Field := ⟨(0xA0101C + 0x40 * i), 0, 1, .ro, 0, .any⟩

def CTL_FBVAL_VALUE (i : Nat) : Field := ⟨(0xA01020 + 0x40 * i), 0, 32, .ro, 0, .any⟩

def CTL_OUTVAL_VALUE (i : Nat) : Field := ⟨(0xA01024 + 0x40 * i), 0, 32, .ro, 0, .any⟩

def CTL_COMMIT_PEND (i : Nat) : Field := ⟨(0xA01028 + 0x40 * i), 1, 1, .ro, 0, .any⟩
def CTL_COMMIT_COMMIT (i : Nat) : Field := ⟨(0xA01028 + 0x40 * i), 0, 1, .w1s, 0, .any⟩

def CTL_STAGE_VALUE (k : Nat) : Field := ⟨(0xA20000 + 0x4 * k), 0, 32, .rw, 0, .any⟩

def CTL_APPLIED_VALUE (k : Nat) : Field := ⟨(0xA21000 + 0x4 * k), 0, 32, .ro, 0, .any⟩

def CTL_RCCFG_SRC (r : Nat) : Field := ⟨(0xA22000 + 0x20 * r), 31, 1, .rw, 0, .any⟩
def CTL_RCCFG_IDX (r : Nat) : Field := ⟨(0xA22000 + 0x20 * r), 24, 4, .rw, 0, .any⟩
def CTL_RCCFG_HARM (r : Nat) : Field := ⟨(0xA22000 + 0x20 * r), 16, 8, .rw, 1, (.clamp 1 0xFF)⟩
def CTL_RCCFG_NBINS (r : Nat) : Field := ⟨(0xA22000 + 0x20 * r), 0, 11, .rw, 0x100, (.discard 8 0x400)⟩

def CTL_RCGAIN_Q (r : Nat) : Field := ⟨(0xA22004 + 0x20 * r), 16, 16, .rw, 0xffff, .any⟩
def CTL_RCGAIN_L (r : Nat) : Field := ⟨(0xA22004 + 0x20 * r), 0, 16, .rw, 0, .any⟩

def CTL_RCOUT_RCMAX (r : Nat) : Field := ⟨(0xA22008 + 0x20 * r), 16, 16, .rw, 0, .any⟩
def CTL_RCOUT_LEAD (r : Nat) : Field := ⟨(0xA22008 + 0x20 * r), 0, 10, .rw, 0, .any⟩

def CTL_RCCTL_HELD (r : Nat) : Field := ⟨(0xA2200C + 0x20 * r), 1, 1, .ro, 0, .any⟩
def CTL_RCCTL_CLR (r : Nat) : Field := ⟨(0xA2200C + 0x20 * r), 0, 1, .w1s, 0, .any⟩

/-! HVS: R283 of 11_control_hv_fuser_thermal.md. -/

def HVS_STATUS_CFGERR : Field := ⟨0xA40000, 0, 1, .w1c, 0, .any⟩

def HVS_FSTAT_SRC : Field := ⟨0xA40010, 0, 32, .w1c, 0, .any⟩

def HVS_FMASK_SRC : Field := ⟨0xA40014, 0, 32, .rw, 0, .any⟩

def HVS_GRACE_US : Field := ⟨0xA40018, 0, 16, .rw, 0x3e8, (.clamp 1 0xFFFF)⟩

def HVS_CHCFG_OUTKIND (h : Nat) : Field := ⟨(0xA40100 + 0x40 * h), 31, 1, .rw, 0, .any⟩
def HVS_CHCFG_OUTIDX (h : Nat) : Field := ⟨(0xA40100 + 0x40 * h), 24, 6, .rw, 0, .any⟩
def HVS_CHCFG_LOOP (h : Nat) : Field := ⟨(0xA40100 + 0x40 * h), 16, 7, .rw, 0, .any⟩
def HVS_CHCFG_IADC (h : Nat) : Field := ⟨(0xA40100 + 0x40 * h), 8, 6, .rw, 0, (.discard 0 0x2D)⟩
def HVS_CHCFG_MODE (h : Nat) : Field := ⟨(0xA40100 + 0x40 * h), 6, 1, .rw, 0, .any⟩
def HVS_CHCFG_VADC (h : Nat) : Field := ⟨(0xA40100 + 0x40 * h), 0, 6, .rw, 0, (.discard 0 0x2D)⟩

def HVS_CHCTL_ACEN (h : Nat) : Field := ⟨(0xA40104 + 0x40 * h), 1, 1, .rw, 0, .any⟩
def HVS_CHCTL_EN (h : Nat) : Field := ⟨(0xA40104 + 0x40 * h), 0, 1, .rw, 0, .any⟩

def HVS_SET_SET (h : Nat) : Field := ⟨(0xA40108 + 0x40 * h), 0, 16, .rw, 0, .any⟩

def HVS_RAMP_RAMP (h : Nat) : Field := ⟨(0xA4010C + 0x40 * h), 0, 16, .rw, 0, .any⟩

def HVS_MAX_VMAX (h : Nat) : Field := ⟨(0xA40110 + 0x40 * h), 16, 16, .rw, 0, .any⟩
def HVS_MAX_IMAX (h : Nat) : Field := ⟨(0xA40110 + 0x40 * h), 0, 16, .rw, 0, .any⟩

def HVS_FS_VFS (h : Nat) : Field := ⟨(0xA40114 + 0x40 * h), 16, 16, .rw, 0, .any⟩
def HVS_FS_IFS (h : Nat) : Field := ⟨(0xA40114 + 0x40 * h), 0, 16, .rw, 0, .any⟩

def HVS_ARC_ARCI (h : Nat) : Field := ⟨(0xA40118 + 0x40 * h), 16, 16, .rw, 0xffff, .any⟩
def HVS_ARC_ARCOFF (h : Nat) : Field := ⟨(0xA40118 + 0x40 * h), 8, 8, .rw, 0xa, .any⟩
def HVS_ARC_ARCN (h : Nat) : Field := ⟨(0xA40118 + 0x40 * h), 0, 8, .rw, 3, (.clamp 1 0xFF)⟩

def HVS_REG_REGTOL (h : Nat) : Field := ⟨(0xA4011C + 0x40 * h), 16, 16, .rw, 0x32, .any⟩
def HVS_REG_REGMS (h : Nat) : Field := ⟨(0xA4011C + 0x40 * h), 0, 16, .rw, 0x64, (.clamp 1 0xFFFF)⟩

def HVS_MEAS_VMEAS (h : Nat) : Field := ⟨(0xA40120 + 0x40 * h), 16, 16, .ro, 0, .any⟩
def HVS_MEAS_IMEAS (h : Nat) : Field := ⟨(0xA40120 + 0x40 * h), 0, 16, .ro, 0, .any⟩

def HVS_STATE_ARCCNT (h : Nat) : Field := ⟨(0xA40124 + 0x40 * h), 16, 16, .rc, 0, .any⟩
def HVS_STATE_STATE (h : Nat) : Field := ⟨(0xA40124 + 0x40 * h), 0, 3, .ro, 0, .any⟩

def HVS_ACCFG_ACOUT (h : Nat) : Field := ⟨(0xA40128 + 0x40 * h), 24, 6, .rw, 0, (.discard 0 0x33)⟩
def HVS_ACCFG_ACADC (h : Nat) : Field := ⟨(0xA40128 + 0x40 * h), 16, 6, .rw, 0, (.discard 0 0x2D)⟩
def HVS_ACCFG_ACRAMP (h : Nat) : Field := ⟨(0xA40128 + 0x40 * h), 0, 8, .rw, 0, .any⟩

def HVS_ACFREQ_HZ (h : Nat) : Field := ⟨(0xA4012C + 0x40 * h), 0, 16, .rw, 0x1770, (.clamp 1000 0x4E20)⟩

def HVS_AC_ACMEAS (h : Nat) : Field := ⟨(0xA40130 + 0x40 * h), 16, 16, .ro, 0, .any⟩
def HVS_AC_ACAMP (h : Nat) : Field := ⟨(0xA40130 + 0x40 * h), 0, 16, .rw, 0, .any⟩

/-! FUS: R284 of 11_control_hv_fuser_thermal.md. -/

def FUS_STATUS_ZCOK : Field := ⟨0xA80000, 1, 1, .ro, 0, .any⟩
def FUS_STATUS_CFGERR : Field := ⟨0xA80000, 0, 1, .w1c, 0, .any⟩

def FUS_MAINS_HALF : Field := ⟨0xA80004, 0, 16, .ro, 0, .any⟩

def FUS_FSTAT0_SRC : Field := ⟨0xA80010, 0, 24, .w1c, 0, .any⟩

def FUS_FSTAT1_SRC : Field := ⟨0xA80014, 0, 25, .w1c, 0, .any⟩

def FUS_FMASK0_SRC : Field := ⟨0xA80018, 0, 25, .rw, 0, .any⟩

def FUS_FMASK1_SRC : Field := ⟨0xA8001C, 0, 25, .rw, 0, .any⟩

def FUS_GRACE_US : Field := ⟨0xA80020, 0, 16, .rw, 0x3e8, (.clamp 1 0xFFFF)⟩

def FUS_BURST_ZCLEAD : Field := ⟨0xA80024, 16, 16, .rw, 0xc8, .any⟩
def FUS_BURST_MAXON : Field := ⟨0xA80024, 8, 5, .rw, 0x18, (.discard 1 0x18)⟩
def FUS_BURST_WIN : Field := ⟨0xA80024, 0, 8, .rw, 0x64, (.discard 10 0xFF)⟩

def FUS_ZCTO_MS : Field := ⟨0xA80028, 0, 8, .rw, 0x19, (.clamp 1 0xFF)⟩

def FUS_DEFER_COUNT : Field := ⟨0xA8002C, 0, 32, .rc, 0, .any⟩

def FUS_ZCFG_OUTIDX (z : Nat) : Field := ⟨(0xA80100 + 0x20 * z), 24, 5, .rw, 0, (.discard 0 0x17)⟩
def FUS_ZCFG_CJADC (z : Nat) : Field := ⟨(0xA80100 + 0x20 * z), 16, 6, .rw, 0, (.discard 0 0x2D)⟩
def FUS_ZCFG_SADC (z : Nat) : Field := ⟨(0xA80100 + 0x20 * z), 8, 6, .rw, 0, (.discard 0 0x2D)⟩
def FUS_ZCFG_SENS (z : Nat) : Field := ⟨(0xA80100 + 0x20 * z), 2, 2, .rw, 0, (.discard 0 0x2)⟩
def FUS_ZCFG_HEAT (z : Nat) : Field := ⟨(0xA80100 + 0x20 * z), 1, 1, .rw, 0, .any⟩
def FUS_ZCFG_EN (z : Nat) : Field := ⟨(0xA80100 + 0x20 * z), 0, 1, .rw, 0, .any⟩

def FUS_ZLOOP_ZPOW (z : Nat) : Field := ⟨(0xA80104 + 0x20 * z), 16, 16, .rw, 0, .any⟩
def FUS_ZLOOP_LOOP (z : Nat) : Field := ⟨(0xA80104 + 0x20 * z), 0, 7, .rw, 0, .any⟩

def FUS_ZSETR_ZMAX (z : Nat) : Field := ⟨(0xA80108 + 0x20 * z), 16, 16, .rw, 0xfa0, .any⟩
def FUS_ZSETR_ZSET (z : Nat) : Field := ⟨(0xA80108 + 0x20 * z), 0, 16, .rw, 0, .any⟩

def FUS_ZTEMP_DUTY (z : Nat) : Field := ⟨(0xA8010C + 0x20 * z), 16, 16, .ro, 0, .any⟩
def FUS_ZTEMP_TEMP (z : Nat) : Field := ⟨(0xA8010C + 0x20 * z), 0, 16, .ro, 0, .any⟩

/-! THM: R285 of 11_control_hv_fuser_thermal.md. -/

def THM_STATUS_CFGERR : Field := ⟨0xAC0000, 0, 1, .w1c, 0, .any⟩

def THM_FSTAT0_SRC : Field := ⟨0xAC0010, 0, 32, .w1c, 0, .any⟩

def THM_FSTAT1_SRC : Field := ⟨0xAC0014, 0, 16, .w1c, 0, .any⟩

def THM_FMASK0_SRC : Field := ⟨0xAC0018, 0, 32, .rw, 0, .any⟩

def THM_FMASK1_SRC : Field := ⟨0xAC001C, 0, 16, .rw, 0, .any⟩

def THM_GRACE_US : Field := ⟨0xAC0020, 0, 16, .rw, 0x3e8, (.clamp 1 0xFFFF)⟩

def THM_SHUT_PEND (k : Nat) : Field := ⟨(0xAC0024 + 0x4 * k), 0, 32, .ro, 0, .any⟩

def THM_AMB_TA : Field := ⟨0xAC002C, 0, 16, .rw, 0x190, .any⟩

def THM_EVACCT_EN : Field := ⟨0xAC0030, 31, 1, .rw, 0, .any⟩
def THM_EVACCT_ACCT : Field := ⟨0xAC0030, 0, 10, .rw, 0, .any⟩

def THM_MCFG_SEN (m : Nat) : Field := ⟨(0xAC0100 + 0x40 * m), 23, 1, .rw, 0, .any⟩
def THM_MCFG_SADC (m : Nat) : Field := ⟨(0xAC0100 + 0x40 * m), 16, 6, .rw, 0, (.discard 0 0x2D)⟩
def THM_MCFG_KC (m : Nat) : Field := ⟨(0xAC0100 + 0x40 * m), 8, 8, .rw, 0x20, .any⟩
def THM_MCFG_NODE (m : Nat) : Field := ⟨(0xAC0100 + 0x40 * m), 1, 1, .rw, 0, .any⟩
def THM_MCFG_EN (m : Nat) : Field := ⟨(0xAC0100 + 0x40 * m), 0, 1, .rw, 1, .any⟩

def THM_R1_VALUE (m : Nat) : Field := ⟨(0xAC0104 + 0x40 * m), 0, 32, .rw, 0x3e8, (.discard 1 0xFFFFFFFF)⟩

def THM_C1_VALUE (m : Nat) : Field := ⟨(0xAC0108 + 0x40 * m), 0, 32, .rw, 0x3e8, (.discard 1 0xFFFFFFFF)⟩

def THM_R2_VALUE (m : Nat) : Field := ⟨(0xAC010C + 0x40 * m), 0, 32, .rw, 0x3e8, (.discard 1 0xFFFFFFFF)⟩

def THM_C2_VALUE (m : Nat) : Field := ⟨(0xAC0110 + 0x40 * m), 0, 32, .rw, 0x3e8, (.discard 1 0xFFFFFFFF)⟩

def THMA_WT_THR (m : Nat) : Field := ⟨(0xAC0114 + 0x40 * m), 16, 16, .rw, 0x640, .any⟩
def THMA_WT_WARN (m : Nat) : Field := ⟨(0xAC0114 + 0x40 * m), 0, 16, .rw, 0x5f0, .any⟩

def THMB_WT_THR (m : Nat) : Field := ⟨(0xAC0194 + 0x40 * m), 16, 16, .rw, 0x410, .any⟩
def THMB_WT_WARN (m : Nat) : Field := ⟨(0xAC0194 + 0x40 * m), 0, 16, .rw, 0x3c0, .any⟩

def THMC_WT_THR (m : Nat) : Field := ⟨(0xAC0294 + 0x40 * m), 16, 16, .rw, 0x820, .any⟩
def THMC_WT_WARN (m : Nat) : Field := ⟨(0xAC0294 + 0x40 * m), 0, 16, .rw, 0x780, .any⟩

def THMD_WT_THR (m : Nat) : Field := ⟨(0xAC0694 + 0x40 * m), 16, 16, .rw, 0xfa0, .any⟩
def THMD_WT_WARN (m : Nat) : Field := ⟨(0xAC0694 + 0x40 * m), 0, 16, .rw, 0xf00, .any⟩

def THME_WT_THR (m : Nat) : Field := ⟨(0xAC0C94 + 0x40 * m), 16, 16, .rw, 0xaf0, .any⟩
def THME_WT_WARN (m : Nat) : Field := ⟨(0xAC0C94 + 0x40 * m), 0, 16, .rw, 0x960, .any⟩

def THMA_AS_ABS (m : Nat) : Field := ⟨(0xAC0118 + 0x40 * m), 16, 16, .rw, 0x730, .any⟩
def THMA_AS_SHUT (m : Nat) : Field := ⟨(0xAC0118 + 0x40 * m), 0, 16, .rw, 0x6c0, .any⟩

def THMB_AS_ABS (m : Nat) : Field := ⟨(0xAC0198 + 0x40 * m), 16, 16, .rw, 0x4b0, .any⟩
def THMB_AS_SHUT (m : Nat) : Field := ⟨(0xAC0198 + 0x40 * m), 0, 16, .rw, 0x460, .any⟩

def THMC_AS_ABS (m : Nat) : Field := ⟨(0xAC0298 + 0x40 * m), 16, 16, .rw, 0xa00, .any⟩
def THMC_AS_SHUT (m : Nat) : Field := ⟨(0xAC0298 + 0x40 * m), 0, 16, .rw, 0x960, .any⟩

def THMD_AS_ABS (m : Nat) : Field := ⟨(0xAC0698 + 0x40 * m), 16, 16, .rw, 0x10e0, .any⟩
def THMD_AS_SHUT (m : Nat) : Field := ⟨(0xAC0698 + 0x40 * m), 0, 16, .rw, 0x1040, .any⟩

def THME_AS_ABS (m : Nat) : Field := ⟨(0xAC0C98 + 0x40 * m), 16, 16, .rw, 0xfa0, .any⟩
def THME_AS_SHUT (m : Nat) : Field := ⟨(0xAC0C98 + 0x40 * m), 0, 16, .rw, 0xc80, .any⟩

def THM_MTHR_MINFAC (m : Nat) : Field := ⟨(0xAC011C + 0x40 * m), 24, 8, .rw, 4, (.clamp 0 0x10)⟩
def THM_MTHR_HYST (m : Nat) : Field := ⟨(0xAC011C + 0x40 * m), 16, 8, .rw, 0x20, .any⟩
def THM_MTHR_THPER (m : Nat) : Field := ⟨(0xAC011C + 0x40 * m), 0, 16, .rw, 0x64, (.clamp 1 0xFFFF)⟩

def THM_MIS_MISMS (m : Nat) : Field := ⟨(0xAC0120 + 0x40 * m), 16, 16, .rw, 0x3e8, .any⟩
def THM_MIS_MISTOL (m : Nat) : Field := ⟨(0xAC0120 + 0x40 * m), 0, 16, .rw, 0xa0, .any⟩

def THM_MT_T2 (m : Nat) : Field := ⟨(0xAC0124 + 0x40 * m), 16, 16, .ro, 0, .any⟩
def THM_MT_T1 (m : Nat) : Field := ⟨(0xAC0124 + 0x40 * m), 0, 16, .ro, 0, .any⟩

def THM_P_P (m : Nat) : Field := ⟨(0xAC0128 + 0x40 * m), 0, 32, .ro, 0, .any⟩

def THM_MSTAT_SENSOK (m : Nat) : Field := ⟨(0xAC012C + 0x40 * m), 12, 1, .ro, 0, .any⟩
def THM_MSTAT_SHUTPEND (m : Nat) : Field := ⟨(0xAC012C + 0x40 * m), 11, 1, .ro, 0, .any⟩
def THM_MSTAT_FAST (m : Nat) : Field := ⟨(0xAC012C + 0x40 * m), 10, 1, .ro, 0, .any⟩
def THM_MSTAT_THROT (m : Nat) : Field := ⟨(0xAC012C + 0x40 * m), 9, 1, .ro, 0, .any⟩
def THM_MSTAT_WARN (m : Nat) : Field := ⟨(0xAC012C + 0x40 * m), 8, 1, .ro, 0, .any⟩
def THM_MSTAT_LIMFAC (m : Nat) : Field := ⟨(0xAC012C + 0x40 * m), 0, 5, .ro, 0x10, .any⟩

/-! CLB: R304 of 12_calibration_and_audits.md. -/

def CLB_STATUS_DCLAMP : Field := ⟨0xB00000, 10, 1, .w1c, 0, .any⟩
def CLB_STATUS_DIESTALE : Field := ⟨0xB00000, 9, 1, .ro, 0, .any⟩
def CLB_STATUS_DIEBUSY : Field := ⟨0xB00000, 8, 1, .ro, 0, .any⟩
def CLB_STATUS_BUSY : Field := ⟨0xB00000, 4, 4, .ro, 0, .any⟩
def CLB_STATUS_CFGERR : Field := ⟨0xB00000, 0, 1, .w1c, 0, .any⟩

def CLB_CTL_REQD : Field := ⟨0xB00004, 12, 1, .w1s, 0, .any⟩
def CLB_CTL_REQ : Field := ⟨0xB00004, 8, 4, .w1s, 0, .any⟩
def CLB_CTL_AUTOD : Field := ⟨0xB00004, 4, 1, .rw, 1, .any⟩
def CLB_CTL_AUTO : Field := ⟨0xB00004, 0, 4, .rw, 0xf, .any⟩

def CLB_TRIG_DIETHR : Field := ⟨0xB00008, 16, 16, .rw, 0x30, (.clamp 1 0xFFFF)⟩
def CLB_TRIG_HEADTHR : Field := ⟨0xB00008, 0, 16, .rw, 0x18, (.clamp 1 0xFFFF)⟩

def CLB_NMEAS_SWEEPS : Field := ⟨0xB0000C, 0, 9, .rw, 0x10, (.clamp 4 0x100)⟩

def CLB_MAXMS_MS : Field := ⟨0xB00010, 0, 16, .rw, 0x1f4, (.clamp 10 0xFFFF)⟩

def CLB_RUNCNT_COUNT : Field := ⟨0xB00014, 0, 32, .rc, 0, .any⟩

def CLB_FSTAT_SRC : Field := ⟨0xB00020, 0, 5, .w1c, 0, .any⟩

def CLB_FMASK_SRC : Field := ⟨0xB00024, 0, 5, .rw, 0, .any⟩

def CLB_GRACE_US : Field := ⟨0xB00028, 0, 16, .rw, 0x3e8, (.clamp 1 0xFFFF)⟩

def CLB_MKCFG_EN : Field := ⟨0xB00040, 31, 1, .rw, 0, .any⟩
def CLB_MKCFG_REFST : Field := ⟨0xB00040, 16, 4, .rw, 0, .any⟩
def CLB_MKCFG_INPUT : Field := ⟨0xB00040, 0, 4, .rw, 0, .any⟩

def CLB_MSOFF_LINES : Field := ⟨0xB00044, 0, 24, .rw, 0, .any⟩

def CLB_MLINE_LINE : Field := ⟨0xB00048, 0, 24, .rw, 0, .any⟩

def CLB_MSTEP_MCHEV : Field := ⟨0xB0004C, 16, 16, .rw, 0x18, .any⟩
def CLB_MSTEP_MSTEP : Field := ⟨0xB0004C, 0, 16, .rw, 0x28, .any⟩

def CLB_REGGAIN_REGDB : Field := ⟨0xB00050, 16, 16, .rw, 8, .any⟩
def CLB_REGGAIN_MWIN : Field := ⟨0xB00050, 8, 8, .rw, 0x10, .any⟩
def CLB_REGGAIN_KREG : Field := ⟨0xB00050, 0, 8, .rw, 0x80, .any⟩

def CLB_MISSMK_COUNT : Field := ⟨0xB00054, 0, 32, .rc, 0, .any⟩

def CLB_REGERR_RL (n : Nat) : Field := ⟨(0xB00080 + 0x4 * n), 16, 16, .ro, 0, .any⟩
def CLB_REGERR_RP (n : Nat) : Field := ⟨(0xB00080 + 0x4 * n), 0, 16, .ro, 0, .any⟩

def CLB_REGRES_RES (n : Nat) : Field := ⟨(0xB000C0 + 0x4 * n), 0, 16, .ro, 0, .any⟩

def CLB_REGAX_EN (k : Nat) : Field := ⟨(0xB00100 + 0x4 * k), 31, 1, .rw, 0, .any⟩
def CLB_REGAX_STATION (k : Nat) : Field := ⟨(0xB00100 + 0x4 * k), 8, 4, .rw, 0, .any⟩
def CLB_REGAX_AXIS (k : Nat) : Field := ⟨(0xB00100 + 0x4 * k), 0, 4, .rw, 0, (.discard 0 0xB)⟩

def CLB_T_T0 (n : Nat) : Field := ⟨(0xB00200 + 0x40 * n), 16, 16, .rw, 0x280, .any⟩
def CLB_T_TLAST (n : Nat) : Field := ⟨(0xB00200 + 0x40 * n), 0, 16, .ro, 0, .any⟩

def CLB_KX_KX (n : Nat) : Field := ⟨(0xB00204 + 0x40 * n), 16, 16, .rw, 0, .any⟩
def CLB_KX_DCEN (n : Nat) : Field := ⟨(0xB00204 + 0x40 * n), 0, 15, .rw, 0x4000, .any⟩

def CLB_L0_VALUE (n : Nat) : Field := ⟨(0xB00208 + 0x40 * n), 0, 32, .rw, 0, .any⟩

def CLB_LATOFF_VALUE (n : Nat) : Field := ⟨(0xB0020C + 0x40 * n), 0, 16, .rw, 0, .any⟩

def CLB_SOSWREF_VALUE (n : Nat) : Field := ⟨(0xB00210 + 0x40 * n), 0, 32, .rw, 0, .any⟩

def CLB_RES_UNIFRES (n : Nat) : Field := ⟨(0xB00214 + 0x40 * n), 16, 16, .ro, 0, .any⟩
def CLB_RES_EPOSRES (n : Nat) : Field := ⟨(0xB00214 + 0x40 * n), 0, 16, .ro, 0, .any⟩

def CLB_DENSMAX_VALUE (n : Nat) : Field := ⟨(0xB00218 + 0x40 * n), 0, 16, .ro, 0, .any⟩

def CLB_DBASE0_DBASE (e : Nat) : Field := ⟨(0xB01000 + 0x8 * e), 0, 15, .rw, 0, .any⟩

def CLB_GI0_G0 (e : Nat) : Field := ⟨(0xB01004 + 0x8 * e), 16, 16, .rw, 0x4000, (.discard 8192 0x7FFF)⟩
def CLB_GI0_I0 (e : Nat) : Field := ⟨(0xB01004 + 0x8 * e), 0, 16, .rw, 0, .any⟩

def CLB_DBASE1_DBASE (e : Nat) : Field := ⟨(0xB01800 + 0x8 * e), 0, 15, .rw, 0, .any⟩

def CLB_GI1_G0 (e : Nat) : Field := ⟨(0xB01804 + 0x8 * e), 16, 16, .rw, 0x4000, (.discard 8192 0x7FFF)⟩
def CLB_GI1_I0 (e : Nat) : Field := ⟨(0xB01804 + 0x8 * e), 0, 16, .rw, 0, .any⟩

def CLB_DBASE2_DBASE (e : Nat) : Field := ⟨(0xB02000 + 0x8 * e), 0, 15, .rw, 0, .any⟩

def CLB_GI2_G0 (e : Nat) : Field := ⟨(0xB02004 + 0x8 * e), 16, 16, .rw, 0x4000, (.discard 8192 0x7FFF)⟩
def CLB_GI2_I0 (e : Nat) : Field := ⟨(0xB02004 + 0x8 * e), 0, 16, .rw, 0, .any⟩

def CLB_DBASE3_DBASE (e : Nat) : Field := ⟨(0xB02800 + 0x8 * e), 0, 15, .rw, 0, .any⟩

def CLB_GI3_G0 (e : Nat) : Field := ⟨(0xB02804 + 0x8 * e), 16, 16, .rw, 0x4000, (.discard 8192 0x7FFF)⟩
def CLB_GI3_I0 (e : Nat) : Field := ⟨(0xB02804 + 0x8 * e), 0, 16, .rw, 0, .any⟩

/-! AUD: R305 of 12_calibration_and_audits.md. -/

def AUD_REQ_CODE : Field := ⟨0xB80000, 0, 32, .wo, 0, .any⟩

def AUD_REQST_STATUS : Field := ⟨0xB80004, 0, 8, .ro, 0, .any⟩

def AUD_REQPOSLO_WPOS : Field := ⟨0xB80008, 0, 32, .ro, 0, .any⟩

def AUD_REQPOSHI_WPOS : Field := ⟨0xB8000C, 0, 32, .ro, 0, .any⟩

def AUD_PASSCNT_COUNT : Field := ⟨0xB80010, 0, 32, .rc, 0, .any⟩

def AUD_FAILCNT_COUNT : Field := ⟨0xB80014, 0, 32, .rc, 0, .any⟩

def AUD_EVACCT_EN : Field := ⟨0xB80018, 31, 1, .rw, 0, .any⟩
def AUD_EVACCT_ACCT : Field := ⟨0xB80018, 0, 10, .rw, 0, .any⟩

def AUD_STATUS_CFGERR : Field := ⟨0xB8001C, 0, 1, .w1c, 0, .any⟩

def AUD_CODE_CODE (i : Nat) : Field := ⟨(0xB80100 + 0x10 * i), 0, 32, .ro, 0, .any⟩

def AUD_WHO_TELLERS (i : Nat) : Field := ⟨(0xB80104 + 0x10 * i), 16, 16, .ro, 0, .any⟩
def AUD_WHO_INCIDENT (i : Nat) : Field := ⟨(0xB80104 + 0x10 * i), 0, 16, .ro, 0, .any⟩

def AUD_POS_POS (i : Nat) : Field := ⟨(0xB80108 + 0x10 * i), 0, 32, .ro, 0, .any⟩

def AUD_STATE_STATE (i : Nat) : Field := ⟨(0xB8010C + 0x10 * i), 0, 3, .ro, 0, .any⟩

/-! MSIX: R347 of 14_host_accounts_network.md. -/

def MSIX_ADDRLO_ADDR (v : Nat) : Field := ⟨(0x20000000 + 0x10 * v), 0, 32, .rw, 0, .any⟩

def MSIX_ADDRHI_ADDR (v : Nat) : Field := ⟨(0x20000004 + 0x10 * v), 0, 32, .rw, 0, .any⟩

def MSIX_DATA_DATA (v : Nat) : Field := ⟨(0x20000008 + 0x10 * v), 0, 32, .rw, 0, .any⟩

def MSIX_CTRL_MASK (v : Nat) : Field := ⟨(0x2000000C + 0x10 * v), 0, 1, .rw, 1, .any⟩

def MSIX_PBA_PENDING (k : Nat) : Field := ⟨(0x20008000 + 0x4 * k), 0, 32, .ro, 0, .any⟩

def glbMap0 : List Reg :=
  [⟨0x0, 0, 1, .plain, [GLB_ID_DEVICE, GLB_ID_STEPLET, GLB_ID_STEPNUM]⟩,
   ⟨0x4, 0, 1, .plain, [GLB_OPT_TGRADE, GLB_OPT_MEMGIB]⟩,
   ⟨0x8, 0, 1, .plain, [GLB_ROLE_BADSTRAP, GLB_ROLE_CONFLICT, GLB_ROLE_NODE, GLB_ROLE_ROLE, GLB_ROLE_STRAP]⟩,
   ⟨0xC, 0, 1, .plain, [GLB_TERM_TERM]⟩,
   ⟨0x10, 0, 1, .plain, [GLB_STATUS_ENERR, GLB_STATUS_DDHB, GLB_STATUS_KEYERR, GLB_STATUS_MAPERR]⟩,
   ⟨0x14, 0, 1, .plain, [GLB_BADACC_COUNT]⟩,
   ⟨0x18, 0, 1, .special, [GLB_DRVEN_OUTEN]⟩,
   ⟨0x20, 0, 1, .special, [GLB_PORTMAP_MAP]⟩,
   ⟨0x30, 0, 1, .special, [GLB_RESET_KEY, GLB_RESET_DRIVERST, GLB_RESET_LOGICRST, GLB_RESET_CHIPRST]⟩,
   ⟨0x34, 0, 1, .plain, [GLB_RSTCAUSE_CAUSE]⟩]

/-- The registers of window `glb`. -/
def glbMap : List Reg := glbMap0

def timMap0 : List Reg :=
  [⟨0x100000, 0, 1, .plain, [TIM_WPOSLO_WPOS]⟩,
   ⟨0x100004, 0, 1, .plain, [TIM_WPOSHI_WPOS]⟩,
   ⟨0x100008, 0, 1, .plain, [TIM_VEL_VEL]⟩,
   ⟨0x10000C, 0, 1, .plain, [TIM_RAWVEL_VEL]⟩,
   ⟨0x100010, 0, 1, .plain, [TIM_STATUS_CFGERR, TIM_STATUS_POSLOST, TIM_STATUS_REVERSE, TIM_STATUS_INHIBIT, TIM_STATUS_SRC]⟩,
   ⟨0x100014, 0, 1, .special, [TIM_CFG_MASTER]⟩,
   ⟨0x100020, 4, 4, .special, [TIM_ENCCFG_INV 0, TIM_ENCCFG_TYPE 0, TIM_ENCCFG_EN 0]⟩,
   ⟨0x100030, 0, 1, .special, [TIM_ENCSCALE_SCALE]⟩,
   ⟨0x100040, 4, 4, .plain, [TIM_ENCCNT_COUNT 0]⟩,
   ⟨0x100050, 0, 1, .plain, [TIM_HWMLO_HWM]⟩,
   ⟨0x100054, 0, 1, .plain, [TIM_HWMHI_HWM]⟩,
   ⟨0x100058, 0, 1, .plain, [TIM_REVEXC_EXC]⟩,
   ⟨0x10005C, 0, 1, .plain, [TIM_REREG_LINES]⟩,
   ⟨0x100060, 0, 1, .plain, [TIM_REVDB_DB]⟩,
   ⟨0x100064, 0, 1, .plain, [TIM_DRLIMIT_US]⟩,
   ⟨0x100068, 0, 1, .plain, [TIM_STBYTOL_TOL]⟩,
   ⟨0x10006C, 0, 1, .plain, [TIM_ESTERR_ERR]⟩,
   ⟨0x100070, 0, 1, .plain, [TIM_LMCFG_EN, TIM_LMCFG_TIMEOUT]⟩,
   ⟨0x100074, 0, 1, .plain, [TIM_LMSCALE_VALUE]⟩,
   ⟨0x100078, 0, 1, .plain, [TIM_LMCNT_VALUE]⟩]

def timMap1 : List Reg :=
  [⟨0x10007C, 0, 1, .plain, [TIM_LMRATE_VALUE]⟩,
   ⟨0x100080, 4, 2, .plain, [TIM_SPA_CLIP 0, TIM_SPA_VALUE 0]⟩,
   ⟨0x100090, 0, 1, .plain, [TIM_FSTAT_SRC]⟩,
   ⟨0x100094, 0, 1, .plain, [TIM_FMASK_SRC]⟩,
   ⟨0x100098, 0, 1, .plain, [TIM_GRACE_US]⟩,
   ⟨0x10009C, 0, 1, .plain, [TIM_VIOL_COUNT]⟩,
   ⟨0x100100, 4, 16, .special, [TIM_STOFF_LINES 0]⟩,
   ⟨0x100140, 4, 16, .special, [TIM_DRUMARC_LINES 0]⟩,
   ⟨0x108000, 0, 1, .plain, [CLD_DATE_YEAR, CLD_DATE_MONTH, CLD_DATE_DOW, CLD_DATE_DAY]⟩,
   ⟨0x108004, 0, 1, .plain, [CLD_TIME_HOUR, CLD_TIME_MIN, CLD_TIME_SEC]⟩,
   ⟨0x108008, 0, 1, .plain, [CLD_NS_NS]⟩,
   ⟨0x108010, 0, 1, .plain, [CLD_SDATE_YEAR, CLD_SDATE_MONTH, CLD_SDATE_DOW, CLD_SDATE_DAY]⟩,
   ⟨0x108014, 0, 1, .plain, [CLD_STIME_HOUR, CLD_STIME_MIN, CLD_STIME_SEC]⟩,
   ⟨0x108018, 0, 1, .plain, [CLD_SNS_NS]⟩,
   ⟨0x10801C, 0, 1, .special, [CLD_COMMIT_GO]⟩,
   ⟨0x108020, 0, 1, .plain, [CLD_STATUS_PTPRUN, CLD_STATUS_SRC, CLD_STATUS_STEPPED, CLD_STATUS_PTPOWN, CLD_STATUS_WRAP, CLD_STATUS_BADDATE]⟩,
   ⟨0x108024, 0, 1, .plain, [CLD_UTCOFF_SEC]⟩,
   ⟨0x108028, 0, 1, .plain, [CLD_WTLO_WT]⟩,
   ⟨0x10802C, 0, 1, .plain, [CLD_WTHI_WT]⟩,
   ⟨0x108040, 8, 8, .special, [CLD_TMRLO_DL 0]⟩]

def timMap2 : List Reg :=
  [⟨0x108044, 8, 8, .special, [CLD_TMRHI_DL 0]⟩,
   ⟨0x108080, 0, 1, .special, [CLD_TMRCTL_WERR, CLD_TMRCTL_DISARM, CLD_TMRCTL_FIRED, CLD_TMRCTL_ARM]⟩,
   ⟨0x108084, 0, 1, .plain, [CLD_TMRROUTE_T]⟩,
   ⟨0x108088, 0, 1, .plain, [CLD_TMREVEN_EN]⟩]

/-- The registers of window `tim`. -/
def timMap : List Reg := timMap0 ++ timMap1 ++ timMap2

def tlrMap0 : List Reg :=
  [⟨0x200000, 0, 1, .special, [TLR_STATE_ST]⟩,
   ⟨0x200004, 0, 1, .special, [TLR_GO_T]⟩,
   ⟨0x200008, 0, 1, .special, [TLR_STOP_T]⟩,
   ⟨0x20000C, 0, 1, .special, [TLR_RST_KEY, TLR_RST_T]⟩,
   ⟨0x200010, 0, 1, .plain, [TLR_STATUS_VAULTERR, TLR_STATUS_CFGERR, TLR_STATUS_PMERR]⟩,
   ⟨0x200014, 0, 1, .plain, [TLR_PMPAGE_PAGE]⟩,
   ⟨0x200018, 0, 1, .plain, [TLR_DMPAGE_PAGE]⟩,
   ⟨0x200020, 4, 2, .plain, [TLR_PMWP_WP 0]⟩,
   ⟨0x200028, 0, 1, .plain, [TLR_ECCCNT_PROG, TLR_ECCCNT_DATA]⟩,
   ⟨0x200040, 0, 1, .plain, [TLR_FSTAT_SRC]⟩,
   ⟨0x200044, 0, 1, .plain, [TLR_FMASK_SRC]⟩,
   ⟨0x200048, 0, 1, .plain, [TLR_GRACE_US]⟩,
   ⟨0x201000, 256, 16, .special, [TLR_PC_ADDR 0]⟩,
   ⟨0x201004, 256, 16, .special, [TLR_BOOT_ADDR 0]⟩,
   ⟨0x201008, 256, 16, .special, [TLR_ACCT_ACCT 0]⟩,
   ⟨0x20100C, 256, 16, .plain, [TLR_WDOG_US 0]⟩,
   ⟨0x201010, 256, 16, .special, [TLR_TVEC_ADDR 0, TLR_TVEC_EN 0]⟩,
   ⟨0x201014, 256, 16, .special, [TLR_EPC_VALUE 0]⟩,
   ⟨0x201018, 256, 16, .plain, [TLR_CAUSE_VALUE 0]⟩,
   ⟨0x20101C, 256, 16, .plain, [TLR_TVAL_VALUE 0]⟩]

def tlrMap1 : List Reg :=
  [⟨0x201020, 256, 16, .special, [TLR_TEV_EV 0]⟩,
   ⟨0x201024, 256, 16, .special, [TLR_TEVSET_EV 0]⟩,
   ⟨0x201028, 256, 16, .plain, [TLR_AMASK_WIN 0]⟩,
   ⟨0x20102C, 256, 16, .special, [TLR_CYC_CYC 0]⟩,
   ⟨0x201030, 256, 16, .special, [TLR_FLAGS_TM 0, TLR_FLAGS_Q 0]⟩,
   ⟨0x201034, 256, 16, .plain, [TLR_DIVZ_COUNT 0]⟩,
   ⟨0x280000, 0, 1, .plain, [TAU_STATUS_P0ACT, TAU_STATUS_ENTERR, TAU_STATUS_HOLDPEND]⟩,
   ⟨0x280004, 0, 1, .plain, [TAU_ARMSEQ_VALUE]⟩,
   ⟨0x280008, 0, 1, .plain, [TAU_ARMED_VALUE]⟩,
   ⟨0x28000C, 0, 1, .plain, [TAU_LATECNT_COUNT]⟩,
   ⟨0x280010, 0, 1, .plain, [TAU_SKIPCNT_COUNT]⟩,
   ⟨0x280014, 0, 1, .plain, [TAU_DROPCNT_COUNT]⟩,
   ⟨0x280018, 0, 1, .plain, [TAU_FAILCNT_BADENT, TAU_FAILCNT_ACCESS, TAU_FAILCNT_BUSERR]⟩,
   ⟨0x280020, 0, 1, .plain, [TAU_FSTAT_SRC]⟩,
   ⟨0x280024, 0, 1, .plain, [TAU_FMASK_SRC]⟩,
   ⟨0x280028, 0, 1, .plain, [TAU_GRACE_US]⟩,
   ⟨0x280060, 4, 5, .plain, [TAU_P0EN_BITS 0]⟩,
   ⟨0x280080, 4, 5, .plain, [TAU_P0LVL_BITS 0]⟩,
   ⟨0x2800A0, 0, 1, .special, [TAU_P0CLR_KEY, TAU_P0CLR_GRP]⟩,
   ⟨0x290000, 16, 4096, .special, [TAU_ENTCTL_CTL 0]⟩]

def tlrMap2 : List Reg :=
  [⟨0x290004, 16, 4096, .special, [TAU_ENTADDR_ADDR 0]⟩,
   ⟨0x290008, 16, 4096, .special, [TAU_ENTVAL_VALUE 0]⟩,
   ⟨0x29000C, 16, 4096, .special, [TAU_ENTLVL_LEVEL 0]⟩]

/-- The registers of window `tlr`. -/
def tlrMap : List Reg := tlrMap0 ++ tlrMap1 ++ tlrMap2

def ldgMap0 : List Reg :=
  [⟨0x300000, 0, 1, .plain, [LDG_STATUS_VAULTERR, LDG_STATUS_CFGERR]⟩,
   ⟨0x300004, 0, 1, .plain, [LDG_COUNT_ORDERS]⟩,
   ⟨0x300010, 0, 1, .plain, [LDG_FSTAT_SRC]⟩,
   ⟨0x300014, 0, 1, .plain, [LDG_FMASK_SRC]⟩,
   ⟨0x300018, 0, 1, .plain, [LDG_GRACE_US]⟩,
   ⟨0x300100, 4, 16, .special, [LDG_BIND_EN 0, LDG_BIND_ACCT 0, LDG_BIND_BOOKS 0]⟩,
   ⟨0x301000, 4, 1024, .special, [LDG_QUOTA_COUNT 0, LDG_QUOTA_QUOTA 0]⟩,
   ⟨0x380000, 0, 1, .special, [LCK_ABANDCNT_COUNT]⟩]

/-- The registers of window `ldg`. -/
def ldgMap : List Reg := ldgMap0

def escMap0 : List Reg :=
  [⟨0x400000, 0, 1, .special, [ESC_CTL_DEFPOL, ESC_CTL_STOP, ESC_CTL_RUN]⟩,
   ⟨0x400004, 0, 1, .plain, [ESC_STATUS_INFLIGHT, ESC_STATUS_AHEAD, ESC_STATUS_ENDING, ESC_STATUS_LATESEEN, ESC_STATUS_CFGERR]⟩,
   ⟨0x400008, 0, 1, .special, [ESC_LEAD_LINES]⟩,
   ⟨0x40000C, 0, 1, .special, [ESC_ORIGINLO_LINE]⟩,
   ⟨0x400010, 0, 1, .special, [ESC_ORIGINHI_LINE]⟩,
   ⟨0x400014, 0, 1, .special, [ESC_DEFLEN_LINES]⟩,
   ⟨0x400018, 0, 1, .special, [ESC_DEFGAP_LINES]⟩,
   ⟨0x40001C, 0, 1, .special, [ESC_STMAP_LEAD, ESC_STMAP_STN]⟩,
   ⟨0x400020, 0, 1, .plain, [ESC_MINPITCH_LINES]⟩,
   ⟨0x400024, 0, 1, .plain, [ESC_NEXTECLO_VALUE]⟩,
   ⟨0x400028, 0, 1, .plain, [ESC_NEXTECHI_VALUE]⟩,
   ⟨0x40002C, 0, 1, .plain, [ESC_NEXTSLOT_VALUE]⟩,
   ⟨0x400030, 0, 1, .plain, [ESC_LASTFRAME_VALUE]⟩,
   ⟨0x400034, 0, 1, .plain, [ESC_LASTACCLO_VALUE]⟩,
   ⟨0x400038, 0, 1, .plain, [ESC_LASTACCHI_VALUE]⟩,
   ⟨0x400040, 0, 1, .plain, [ESC_DONECNT_COUNT]⟩,
   ⟨0x400044, 0, 1, .plain, [ESC_VOIDCNT_COUNT]⟩,
   ⟨0x400048, 0, 1, .plain, [ESC_REPCNT_COUNT]⟩,
   ⟨0x40004C, 0, 1, .plain, [ESC_LATECNT_COUNT]⟩,
   ⟨0x400050, 0, 1, .special, [ESC_EVACCT_EN, ESC_EVACCT_ACCT]⟩]

def escMap1 : List Reg :=
  [⟨0x400054, 0, 1, .special, [ESC_TEVMASK_T]⟩,
   ⟨0x400058, 0, 1, .special, [ESC_VOIDREQ_SLOT]⟩,
   ⟨0x40005C, 0, 1, .plain, [ESC_ENDPOSLO_LINE]⟩,
   ⟨0x400060, 0, 1, .plain, [ESC_ENDPOSHI_LINE]⟩,
   ⟨0x400070, 0, 1, .plain, [ESC_FSTAT_SRC]⟩,
   ⟨0x400074, 0, 1, .plain, [ESC_FMASK_SRC]⟩,
   ⟨0x400078, 0, 1, .plain, [ESC_GRACE_US]⟩,
   ⟨0x401000, 8, 64, .plain, [ESC_LOGSLOT_SLOT 0]⟩,
   ⟨0x401004, 8, 64, .plain, [ESC_LOG_REASON 0, ESC_LOG_STATION 0, ESC_LOG_MORE 0, ESC_LOG_INCIDENT 0]⟩,
   ⟨0x408000, 64, 4, .plain, [FRM_PHASE_KIND 0, FRM_PHASE_PHASE 0]⟩,
   ⟨0x408004, 64, 4, .plain, [FRM_SLOT_SLOT 0]⟩,
   ⟨0x408008, 64, 4, .plain, [FRM_FRAME_FRAME 0]⟩,
   ⟨0x40800C, 64, 4, .plain, [FRM_LINE_LINE 0]⟩,
   ⟨0x408010, 64, 4, .plain, [FRM_TABLELO_TABLE 0]⟩,
   ⟨0x408014, 64, 4, .plain, [FRM_TABLEHI_TABLE 0]⟩,
   ⟨0x408018, 64, 4, .plain, [FRM_DONE_DONE 0]⟩,
   ⟨0x40801C, 64, 4, .plain, [FRM_VOID_VOID 0]⟩,
   ⟨0x408020, 64, 4, .plain, [FRM_CAUSE_CAUSE 0]⟩]

/-- The registers of window `esc`. -/
def escMap : List Reg := escMap0 ++ escMap1

def scnMap0 : List Reg :=
  [⟨0x500000, 0, 1, .plain, [SCN_STATUS_OFFCLAMP, SCN_STATUS_CFGERR]⟩,
   ⟨0x500004, 0, 1, .special, [SCN_SEAM_SEAMMUL, SCN_SEAM_SEAMSPAN, SCN_SEAM_SEAMLO]⟩,
   ⟨0x500010, 0, 1, .plain, [SCN_FSTAT_SRC]⟩,
   ⟨0x500014, 0, 1, .plain, [SCN_FMASK_SRC]⟩,
   ⟨0x500018, 0, 1, .plain, [SCN_GRACE_US]⟩,
   ⟨0x50001C, 0, 1, .plain, [SCN_VIOL_COUNT]⟩,
   ⟨0x500100, 128, 4, .special, [SCN_CTL_SWPEN 0, SCN_CTL_SWPT 0, SCN_CTL_PLOCKEN 0]⟩,
   ⟨0x500104, 128, 4, .special, [SCN_CFG_SOSBUD 0, SCN_CFG_FACETSRC 0, SCN_CFG_EOSEN 0, SCN_CFG_EDGE 0, SCN_CFG_LOOP 0]⟩,
   ⟨0x500108, 128, 4, .plain, [SCN_STAT_HELD 0, SCN_STAT_PRED 0, SCN_STAT_BAND 0, SCN_STAT_FACET 0, SCN_STAT_FACETOK 0, SCN_STAT_ACQ 0, SCN_STAT_LOCKED 0]⟩,
   ⟨0x50010C, 128, 4, .special, [SCN_SOSDLY_VALUE 0]⟩,
   ⟨0x500110, 128, 4, .plain, [SCN_PHOFF_VALUE 0]⟩,
   ⟨0x500114, 128, 4, .plain, [SCN_THR_EOSAPP 0, SCN_THR_SOSAPP 0, SCN_THR_EOSTGT 0, SCN_THR_SOSTGT 0]⟩,
   ⟨0x500118, 128, 4, .special, [SCN_WIN_EOSEXP 0, SCN_WIN_SOSWIN 0]⟩,
   ⟨0x50011C, 128, 4, .special, [SCN_SKEW_VALUE 0]⟩,
   ⟨0x500120, 128, 4, .plain, [SCN_SOSPOSLO_WPOS 0]⟩,
   ⟨0x500124, 128, 4, .plain, [SCN_SOSPOSHI_WPOS 0]⟩,
   ⟨0x500128, 128, 4, .plain, [SCN_SOSTIME_VALUE 0]⟩,
   ⟨0x50012C, 128, 4, .plain, [SCN_SOSINT_VALUE 0]⟩,
   ⟨0x500130, 128, 4, .plain, [SCN_SOSWID_VALUE 0]⟩,
   ⟨0x500134, 128, 4, .plain, [SCN_EOSDUR_VALUE 0]⟩]

def scnMap1 : List Reg :=
  [⟨0x500138, 128, 4, .plain, [SCN_PHERR_VALUE 0]⟩,
   ⟨0x50013C, 128, 4, .plain, [SCN_SWEEPLO_VALUE 0]⟩,
   ⟨0x500140, 128, 4, .plain, [SCN_SWEEPHI_VALUE 0]⟩,
   ⟨0x500144, 128, 4, .plain, [SCN_PREDCNT_COUNT 0]⟩,
   ⟨0x500148, 128, 4, .plain, [SCN_IDLERPM_RPM 0]⟩,
   ⟨0x501000, 4, 256, .special, [SCN_DLY0_APPLIED 0, SCN_DLY0_TARGET 0]⟩,
   ⟨0x501400, 4, 256, .special, [SCN_DLY1_APPLIED 0, SCN_DLY1_TARGET 0]⟩,
   ⟨0x501800, 4, 256, .special, [SCN_DLY2_APPLIED 0, SCN_DLY2_TARGET 0]⟩,
   ⟨0x501C00, 4, 256, .special, [SCN_DLY3_APPLIED 0, SCN_DLY3_TARGET 0]⟩,
   ⟨0x502000, 4, 65, .special, [SCN_BOW0_APPLIED 0, SCN_BOW0_TARGET 0]⟩,
   ⟨0x502200, 4, 65, .special, [SCN_BOW1_APPLIED 0, SCN_BOW1_TARGET 0]⟩,
   ⟨0x502400, 4, 65, .special, [SCN_BOW2_APPLIED 0, SCN_BOW2_TARGET 0]⟩,
   ⟨0x502600, 4, 65, .special, [SCN_BOW3_APPLIED 0, SCN_BOW3_TARGET 0]⟩,
   ⟨0x502800, 4, 32, .plain, [SCN_SIG_INT 0]⟩,
   ⟨0x508000, 0, 1, .special, [PLL_REFCTL_SWREQ, PLL_REFCTL_PREF, PLL_REFCTL_ARMB, PLL_REFCTL_ARMA]⟩,
   ⟨0x508004, 0, 1, .plain, [PLL_REFSTAT_HOLDSEC, PLL_REFSTAT_DEADB, PLL_REFSTAT_DEADA, PLL_REFSTAT_WARNB, PLL_REFSTAT_WARNA, PLL_REFSTAT_HEALTHYB, PLL_REFSTAT_HEALTHYA, PLL_REFSTAT_STATE, PLL_REFSTAT_SEL]⟩,
   ⟨0x508008, 4, 2, .plain, [PLL_REFPPM_PPM 0]⟩,
   ⟨0x508010, 0, 1, .plain, [PLL_FSTAT_SRC]⟩,
   ⟨0x508014, 0, 1, .plain, [PLL_FMASK_SRC]⟩,
   ⟨0x508018, 0, 1, .plain, [PLL_GRACE_US]⟩]

def scnMap2 : List Reg :=
  [⟨0x50801C, 0, 1, .acct, [PLL_EVACCT_EN, PLL_EVACCT_ACCT]⟩,
   ⟨0x508020, 0, 1, .plain, [PLL_SWCNT_COUNT]⟩,
   ⟨0x508100, 64, 4, .special, [PLL_CTL_CP 0, PLL_CTL_LOCK 0, PLL_CTL_BAND 0, PLL_CTL_OUTEN 0, PLL_CTL_EN 0]⟩,
   ⟨0x508104, 64, 4, .special, [PLL_PPS_VALUE 0]⟩,
   ⟨0x508108, 64, 4, .plain, [PLL_FREQ_HZ 0]⟩,
   ⟨0x50810C, 64, 4, .plain, [PLL_DLY_VP 0]⟩,
   ⟨0x508110, 64, 4, .special, [PLL_PROFCTL_PEND 0, PLL_PROFCTL_PROFERR 0, PLL_PROFCTL_COMMIT 0, PLL_PROFCTL_PERFACET 0]⟩,
   ⟨0x508114, 64, 4, .plain, [PLL_LOLCNT_COUNT 0]⟩,
   ⟨0x50A000, 4, 264, .plain, [PLL_PROF0_B 0]⟩,
   ⟨0x50A800, 4, 264, .plain, [PLL_PROF1_B 0]⟩,
   ⟨0x50B000, 4, 264, .plain, [PLL_PROF2_B 0]⟩,
   ⟨0x50B800, 4, 264, .plain, [PLL_PROF3_B 0]⟩]

/-- The registers of window `scn`. -/
def scnMap : List Reg := scnMap0 ++ scnMap1 ++ scnMap2

def hlkMap0 : List Reg :=
  [⟨0x600000, 0, 1, .plain, [HLK_STATUS_CFGERR]⟩,
   ⟨0x600010, 0, 1, .plain, [HLK_FSTAT_SRC]⟩,
   ⟨0x600014, 0, 1, .plain, [HLK_FMASK_SRC]⟩,
   ⟨0x600018, 0, 1, .plain, [HLK_GRACE_US]⟩,
   ⟨0x60001C, 0, 1, .plain, [HLK_VIOL_COUNT]⟩,
   ⟨0x600020, 0, 1, .acct, [HLK_EVACCT_EN, HLK_EVACCT_ACCT]⟩,
   ⟨0x600100, 128, 4, .special, [HLK_CTL_SPAREEN 0, HLK_CTL_LEN 0, HLK_CTL_EN 0]⟩,
   ⟨0x600104, 128, 4, .plain, [HLK_STAT_HSTAT 0, HLK_STAT_SPBAD 0, HLK_STAT_SPLANE 0, HLK_STAT_STATE 0]⟩,
   ⟨0x600108, 128, 4, .plain, [HLK_WDOG_WIN 0, HLK_WDOG_MAXMISS 0]⟩,
   ⟨0x60010C, 128, 4, .plain, [HLK_SPCFG_WIN 0, HLK_SPCFG_ERRS 0]⟩,
   ⟨0x600110, 128, 4, .plain, [HLK_NAKCNT_COUNT 0]⟩,
   ⟨0x600114, 128, 4, .plain, [HLK_RETRYCNT_COUNT 0]⟩,
   ⟨0x600118, 128, 4, .plain, [HLK_MISSCNT_COUNT 0]⟩,
   ⟨0x60011C, 128, 4, .plain, [HLK_TEMP_TEMP 0]⟩,
   ⟨0x600120, 128, 4, .plain, [HLK_SUPPLY_MV 0]⟩,
   ⟨0x600124, 128, 4, .plain, [HLK_MISSSWEEP_SWEEP 0]⟩,
   ⟨0x600128, 128, 4, .plain, [HLK_MISSPOS_STROBE 0, HLK_MISSPOS_LANE 0]⟩,
   ⟨0x60012C, 128, 4, .plain, [HLK_TRAINTO_US 0]⟩,
   ⟨0x600140, 4, 13, .plain, [HLK_LANEERR0_COUNT 0]⟩,
   ⟨0x6001C0, 4, 13, .plain, [HLK_LANEERR1_COUNT 0]⟩]

def hlkMap1 : List Reg :=
  [⟨0x600240, 4, 13, .plain, [HLK_LANEERR2_COUNT 0]⟩,
   ⟨0x6002C0, 4, 13, .plain, [HLK_LANEERR3_COUNT 0]⟩,
   ⟨0x608000, 0, 1, .plain, [EXP_STATUS_HCLAMP, EXP_STATUS_STALE, EXP_STATUS_CFGERR]⟩,
   ⟨0x608010, 0, 1, .plain, [EXP_FSTAT_SRC]⟩,
   ⟨0x608014, 0, 1, .plain, [EXP_FMASK_SRC]⟩,
   ⟨0x608018, 0, 1, .plain, [EXP_GRACE_US]⟩,
   ⟨0x608100, 128, 4, .plain, [EXP_CFG_TKGAIN 0, EXP_CFG_SPREAD 0, EXP_CFG_TKEN 0]⟩,
   ⟨0x608104, 128, 4, .plain, [EXP_KCOEF_KV 0, EXP_KCOEF_KT 0]⟩,
   ⟨0x608108, 128, 4, .plain, [EXP_REF_TREF 0, EXP_REF_VREF 0]⟩,
   ⟨0x60810C, 128, 4, .plain, [EXP_H_H 0]⟩,
   ⟨0x608110, 128, 4, .special, [EXP_DEADTHR_HI 0, EXP_DEADTHR_LO 0]⟩,
   ⟨0x608114, 128, 4, .plain, [EXP_OSCHK_OSEN 0, EXP_OSCHK_OSW 0]⟩,
   ⟨0x608118, 128, 4, .plain, [EXP_DEADCNT_COUNT 0]⟩,
   ⟨0x60811C, 128, 4, .plain, [EXP_SATCNT_COUNT 0]⟩,
   ⟨0x608120, 128, 4, .plain, [EXP_DENSERR_ERR 0]⟩,
   ⟨0x608124, 128, 4, .special, [EXP_DEADCLR_ALL 0, EXP_DEADCLR_ONE 0, EXP_DEADCLR_EIDX 0]⟩,
   ⟨0x608130, 4, 4, .special, [EXP_TABLE0_W3 0, EXP_TABLE0_W2 0, EXP_TABLE0_W1 0, EXP_TABLE0_W0 0]⟩,
   ⟨0x6081B0, 4, 4, .special, [EXP_TABLE1_W3 0, EXP_TABLE1_W2 0, EXP_TABLE1_W1 0, EXP_TABLE1_W0 0]⟩,
   ⟨0x608230, 4, 4, .special, [EXP_TABLE2_W3 0, EXP_TABLE2_W2 0, EXP_TABLE2_W1 0, EXP_TABLE2_W0 0]⟩,
   ⟨0x6082B0, 4, 4, .special, [EXP_TABLE3_W3 0, EXP_TABLE3_W2 0, EXP_TABLE3_W1 0, EXP_TABLE3_W0 0]⟩]

def hlkMap2 : List Reg :=
  [⟨0x609000, 4, 1024, .plain, [EXP_GAIN_APPLIED 0, EXP_GAIN_TARGET 0]⟩,
   ⟨0x60A000, 4, 1024, .plain, [EXP_ESTATE_DEAD 0, EXP_ESTATE_UNCOV 0, EXP_ESTATE_CURRENT 0]⟩]

/-- The registers of window `hlk`. -/
def hlkMap : List Reg := hlkMap0 ++ hlkMap1 ++ hlkMap2

def stoMap0 : List Reg :=
  [⟨0x700000, 0, 1, .special, [STO_CTL_NDRV, STO_CTL_MIRROR, STO_CTL_EN]⟩,
   ⟨0x700004, 0, 1, .special, [STO_FORMAT_KEY]⟩,
   ⟨0x700008, 0, 1, .plain, [STO_STATUS_LABELERR, STO_STATUS_READY, STO_STATUS_CFGERR]⟩,
   ⟨0x70000C, 0, 1, .plain, [STO_CAPUNITS_UNITS]⟩,
   ⟨0x700010, 0, 1, .plain, [STO_FREEUNITS_UNITS]⟩,
   ⟨0x700014, 0, 1, .special, [STO_PFBASE_GIB]⟩,
   ⟨0x700018, 0, 1, .special, [STO_PFSIZE_GIB]⟩,
   ⟨0x70001C, 0, 1, .plain, [STO_PFGUARD_VALUE]⟩,
   ⟨0x700020, 0, 1, .plain, [STO_CMDTO_VALUE]⟩,
   ⟨0x700024, 0, 1, .plain, [STO_RETRY_VALUE]⟩,
   ⟨0x700028, 0, 1, .plain, [STO_WRSHARE_VALUE]⟩,
   ⟨0x70002C, 0, 1, .plain, [STO_INGTO_VALUE]⟩,
   ⟨0x700030, 0, 1, .plain, [STO_DRVFAIL_VALUE]⟩,
   ⟨0x700034, 0, 1, .plain, [STO_OUTSTAND_PENDING, STO_OUTSTAND_CMDS]⟩,
   ⟨0x700040, 0, 1, .plain, [STO_FSTAT_SRC]⟩,
   ⟨0x700044, 0, 1, .plain, [STO_FMASK_SRC]⟩,
   ⟨0x700048, 0, 1, .plain, [STO_GRACE_US]⟩,
   ⟨0x70004C, 0, 1, .acct, [STO_EVACCT_EN, STO_EVACCT_ACCT]⟩,
   ⟨0x700050, 0, 1, .plain, [STO_VIOL_COUNT]⟩,
   ⟨0x700054, 0, 1, .plain, [STO_LATECPL_COUNT]⟩]

def stoMap1 : List Reg :=
  [⟨0x700058, 0, 1, .plain, [STO_RETRYCNT_COUNT]⟩,
   ⟨0x70005C, 0, 1, .plain, [STO_LOSTCNT_COUNT]⟩,
   ⟨0x700060, 0, 1, .plain, [STO_EXTPAGE_PAGE]⟩,
   ⟨0x700100, 32, 16, .plain, [STO_DRV_QUEUES 0, STO_DRV_LBA4K 0, STO_DRV_STATE 0]⟩,
   ⟨0x700104, 32, 16, .special, [STO_NSID_NSID 0]⟩,
   ⟨0x700108, 32, 16, .plain, [STO_DRVUNITS_UNITS 0]⟩,
   ⟨0x70010C, 32, 16, .plain, [STO_DRVERR_COUNT 0]⟩,
   ⟨0x780000, 0, 1, .plain, [MNT_FSTAT_SRC]⟩,
   ⟨0x780004, 0, 1, .plain, [MNT_FMASK_SRC]⟩,
   ⟨0x780008, 0, 1, .plain, [MNT_GRACE_US]⟩,
   ⟨0x780010, 4, 4, .plain, [MNT_CHKCNT_COUNT 0]⟩,
   ⟨0x780020, 0, 1, .plain, [MNT_TILES_COUNT]⟩,
   ⟨0x780024, 0, 1, .plain, [MNT_RAWTILES_COUNT]⟩,
   ⟨0x780028, 0, 1, .plain, [MNT_INMB_MB]⟩,
   ⟨0x78002C, 0, 1, .plain, [MNT_OUTMB_MB]⟩]

/-- The registers of window `sto`. -/
def stoMap : List Reg := stoMap0 ++ stoMap1

def dmaMap0 : List Reg :=
  [⟨0x800000, 0, 1, .plain, [DMA_STATUS_ARMCYCCH, DMA_STATUS_TRIGLOST, DMA_STATUS_ARMCYC, DMA_STATUS_CFGERR]⟩,
   ⟨0x800010, 4, 2, .plain, [DMA_FSTAT_SRC 0]⟩,
   ⟨0x800018, 4, 2, .plain, [DMA_FMASK_SRC 0]⟩,
   ⟨0x800020, 0, 1, .plain, [DMA_GRACE_US]⟩,
   ⟨0x800040, 4, 8, .special, [DMA_TMR_PERIOD 0]⟩,
   ⟨0x801000, 64, 64, .special, [DMA_CTL_CONT 0, DMA_CTL_CLRERR 0, DMA_CTL_GO 0, DMA_CTL_PAUSE 0, DMA_CTL_ARM 0]⟩,
   ⟨0x801004, 64, 64, .special, [DMA_CFG_TEVT 0, DMA_CFG_HSP 0, DMA_CFG_PRI 0, DMA_CFG_GRAIN 0, DMA_CFG_SRC 0, DMA_CFG_KIND 0]⟩,
   ⟨0x801008, 64, 64, .special, [DMA_HOPLIM_HOPLIM 0]⟩,
   ⟨0x80100C, 64, 64, .special, [DMA_BURST_BURST 0]⟩,
   ⟨0x801010, 64, 64, .special, [DMA_HEADLO_HEAD 0]⟩,
   ⟨0x801014, 64, 64, .special, [DMA_HEADHI_HEAD 0]⟩,
   ⟨0x801018, 64, 64, .plain, [DMA_CHSTAT_HOPS 0, DMA_CHSTAT_PEND 0, DMA_CHSTAT_ERR 0, DMA_CHSTAT_STATE 0]⟩,
   ⟨0x80101C, 64, 64, .plain, [DMA_REMAIN_HOLD 0, DMA_REMAIN_REMAIN 0]⟩,
   ⟨0x801020, 64, 64, .plain, [DMA_CURSRCLO_ADDR 0]⟩,
   ⟨0x801024, 64, 64, .plain, [DMA_CURSRCHI_ADDR 0]⟩,
   ⟨0x801028, 64, 64, .plain, [DMA_CURDSTLO_ADDR 0]⟩,
   ⟨0x80102C, 64, 64, .plain, [DMA_CURDSTHI_ADDR 0]⟩,
   ⟨0x801030, 64, 64, .plain, [DMA_CURDESCLO_ADDR 0]⟩,
   ⟨0x801034, 64, 64, .plain, [DMA_CURDESCHI_ADDR 0]⟩,
   ⟨0x801038, 64, 64, .plain, [DMA_CURDCTL_DCTL 0]⟩]

def dmaMap1 : List Reg :=
  [⟨0x80103C, 64, 64, .plain, [DMA_TRIGLOST_COUNT 0]⟩]

/-- The registers of window `dma`. -/
def dmaMap : List Reg := dmaMap0 ++ dmaMap1

def motMap0 : List Reg :=
  [⟨0x900000, 0, 1, .plain, [MOT_STATUS_CFGERR]⟩,
   ⟨0x900010, 0, 1, .plain, [MOT_FSTAT_SRC]⟩,
   ⟨0x900014, 0, 1, .plain, [MOT_FMASK_SRC]⟩,
   ⟨0x900018, 0, 1, .plain, [MOT_GRACE_US]⟩,
   ⟨0x901000, 256, 16, .special, [MOT_CFG_SCNPORT 0, MOT_CFG_POLES 0, MOT_CFG_REVBRAKE 0, MOT_CFG_PRIV 0, MOT_CFG_MODE 0, MOT_CFG_EN 0]⟩,
   ⟨0x901004, 256, 16, .special, [MOT_CMD_CMD 0]⟩,
   ⟨0x901008, 256, 16, .plain, [MOT_STAT_ENGAGED 0, MOT_STAT_LIMPEND 0, MOT_STAT_MOVING 0, MOT_STAT_SHIFT 0, MOT_STAT_PRED 0, MOT_STAT_VSAT 0, MOT_STAT_ATSPD 0, MOT_STAT_STATE 0]⟩,
   ⟨0x90100C, 256, 16, .plain, [MOT_TGTRPM_RPM 0]⟩,
   ⟨0x901010, 256, 16, .special, [MOT_TARGETLO_VALUE 0]⟩,
   ⟨0x901014, 256, 16, .special, [MOT_TARGETHI_VALUE 0]⟩,
   ⟨0x901018, 256, 16, .plain, [MOT_VMAX_VALUE 0]⟩,
   ⟨0x90101C, 256, 16, .special, [MOT_AMAX_VALUE 0]⟩,
   ⟨0x901020, 256, 16, .special, [MOT_JMAX_VALUE 0]⟩,
   ⟨0x901024, 256, 16, .plain, [MOT_POSLO_VALUE 0]⟩,
   ⟨0x901028, 256, 16, .plain, [MOT_POSHI_VALUE 0]⟩,
   ⟨0x90102C, 256, 16, .plain, [MOT_VEL_VALUE 0]⟩,
   ⟨0x901030, 256, 16, .plain, [MOT_SPEED_VALUE 0]⟩,
   ⟨0x901034, 256, 16, .special, [MOT_GEARNUM_VALUE 0]⟩,
   ⟨0x901038, 256, 16, .special, [MOT_GEARDEN_VALUE 0]⟩,
   ⟨0x90103C, 256, 16, .plain, [MOT_GEAROFS_VALUE 0]⟩]

def motMap1 : List Reg :=
  [⟨0x901040, 256, 16, .plain, [MOT_OFSRATE_VALUE 0]⟩,
   ⟨0x901044, 256, 16, .plain, [MOT_GEARSLIP_VALUE 0]⟩,
   ⟨0x901048, 256, 16, .special, [MOT_ADC_IB 0, MOT_ADC_IA 0]⟩,
   ⟨0x90104C, 256, 16, .special, [MOT_LOOPS_PLOOP 0, MOT_LOOPS_SLOOP 0, MOT_LOOPS_ILOOP 0]⟩,
   ⟨0x901050, 256, 16, .plain, [MOT_MOTOR_IND 0, MOT_MOTOR_RES 0]⟩,
   ⟨0x901054, 256, 16, .plain, [MOT_KE_VALUE 0]⟩,
   ⟨0x901058, 256, 16, .plain, [MOT_CUR_IAUX 0, MOT_CUR_IMAX 0]⟩,
   ⟨0x90105C, 256, 16, .plain, [MOT_STARTC_HANDOVER 0, MOT_STARTC_ALIGNMS 0, MOT_STARTC_SENSEMS 0]⟩,
   ⟨0x901060, 256, 16, .special, [MOT_SYNCC_VSTILL 0, MOT_SYNCC_SYNCN 0, MOT_SYNCC_SYNCHI 0, MOT_SYNCC_SYNCLO 0]⟩,
   ⟨0x901064, 256, 16, .plain, [MOT_SAMP_PREDMAX 0, MOT_SAMP_SETTLE 0]⟩,
   ⟨0x901068, 256, 16, .plain, [MOT_ATSPDTOL_VALUE 0]⟩,
   ⟨0x90106C, 256, 16, .plain, [MOT_STALL_STMINRPM 0, MOT_STALL_STALLANG 0]⟩,
   ⟨0x901070, 256, 16, .plain, [MOT_LOADANG_VALUE 0]⟩,
   ⟨0x901074, 256, 16, .plain, [MOT_SKIPCNT_COUNT 0]⟩,
   ⟨0x901078, 256, 16, .plain, [MOT_SHIFTCNT_COUNT 0]⟩,
   ⟨0x90107C, 256, 16, .plain, [MOT_LOSTSTEP_COUNT 0]⟩,
   ⟨0x901080, 256, 16, .special, [MOT_ADV0_VALUE 0]⟩,
   ⟨0x901084, 256, 16, .special, [MOT_ADV1_VALUE 0]⟩,
   ⟨0x901088, 256, 16, .special, [MOT_ADV2_VALUE 0]⟩,
   ⟨0x90108C, 256, 16, .special, [MOT_ADV3_VALUE 0]⟩]

def motMap2 : List Reg :=
  [⟨0x901090, 256, 16, .special, [MOT_ADV4_VALUE 0]⟩,
   ⟨0x901094, 256, 16, .special, [MOT_ADV5_VALUE 0]⟩,
   ⟨0x901098, 256, 16, .special, [MOT_ADV6_VALUE 0]⟩,
   ⟨0x90109C, 256, 16, .special, [MOT_ADV7_VALUE 0]⟩,
   ⟨0x9010A0, 256, 16, .special, [MOT_ADV8_VALUE 0]⟩,
   ⟨0x9010A4, 256, 16, .special, [MOT_ADV9_VALUE 0]⟩,
   ⟨0x9010A8, 256, 16, .special, [MOT_ADV10_VALUE 0]⟩,
   ⟨0x9010AC, 256, 16, .special, [MOT_ADV11_VALUE 0]⟩,
   ⟨0x9010B0, 256, 16, .special, [MOT_ADV12_VALUE 0]⟩,
   ⟨0x9010B4, 256, 16, .special, [MOT_ADV13_VALUE 0]⟩,
   ⟨0x9010B8, 256, 16, .special, [MOT_ADV14_VALUE 0]⟩,
   ⟨0x9010BC, 256, 16, .special, [MOT_ADV15_VALUE 0]⟩,
   ⟨0x9010C0, 256, 16, .special, [MOT_ADV16_VALUE 0]⟩,
   ⟨0x9010C4, 256, 16, .special, [MOT_ADVSPAN_VALUE 0]⟩,
   ⟨0x980000, 0, 1, .plain, [GDR_STATUS_ILK, GDR_STATUS_CFGERR]⟩,
   ⟨0x980010, 0, 1, .plain, [GDR_FSTATLO_CH]⟩,
   ⟨0x980014, 0, 1, .plain, [GDR_FSTATHI_CH]⟩,
   ⟨0x980018, 0, 1, .plain, [GDR_FSTATX_CH]⟩,
   ⟨0x98001C, 0, 1, .plain, [GDR_FMASKLO_CH]⟩,
   ⟨0x980020, 0, 1, .plain, [GDR_FMASKHI_CH]⟩]

def motMap3 : List Reg :=
  [⟨0x980024, 0, 1, .plain, [GDR_FMASKX_CH]⟩,
   ⟨0x980028, 0, 1, .plain, [GDR_GRACE_US]⟩,
   ⟨0x98002C, 0, 1, .plain, [GDR_VGD_VALUE]⟩,
   ⟨0x981000, 32, 52, .special, [GDR_CHCFG_DESATBLK 0, GDR_CHCFG_DESATV 0, GDR_CHCFG_DT 0, GDR_CHCFG_FIXSTEP 0, GDR_CHCFG_VMSEL 0, GDR_CHCFG_BOOST 0, GDR_CHCFG_TRICKLE 0, GDR_CHCFG_ADAPT 0, GDR_CHCFG_MODE 0]⟩,
   ⟨0x981004, 32, 52, .special, [GDR_STR_LSSTEP 0, GDR_STR_HSSTEP 0, GDR_STR_MAXSTEP 0, GDR_STR_MINSTEP 0, GDR_STR_TOL 0, GDR_STR_TARGET 0]⟩,
   ⟨0x981008, 32, 52, .plain, [GDR_CHST_BOOTUV 0, GDR_CHST_DESATLS 0, GDR_CHST_DESATHS 0]⟩,
   ⟨0x98100C, 32, 52, .plain, [GDR_ILKCNT_ILKCNT 0]⟩,
   ⟨0x981010, 32, 52, .plain, [GDR_TSW_TSWHS 0, GDR_TSW_TSWLS 0]⟩,
   ⟨0x981014, 32, 52, .special, [GDR_PWM_PERIOD 0, GDR_PWM_DUTY 0]⟩,
   ⟨0x981018, 32, 52, .plain, [GDR_VSW_VSW 0]⟩,
   ⟨0x981800, 8, 24, .special, [GDR_LSMODE_MODE 0]⟩,
   ⟨0x981804, 8, 24, .special, [GDR_LSPWM_PERIOD 0, GDR_LSPWM_DUTY 0]⟩,
   ⟨0x981900, 16, 2, .special, [GDR_BRKCFG_OFF 0, GDR_BRKCFG_ON 0]⟩,
   ⟨0x981904, 16, 2, .special, [GDR_BRKCTL_FORCE 0, GDR_BRKCTL_ARM 0, GDR_BRKCTL_MINON 0, GDR_BRKCTL_TRIP 0]⟩,
   ⟨0x981908, 16, 2, .plain, [GDR_BRKONTIME_ONTIME 0]⟩,
   ⟨0x98190C, 16, 2, .plain, [GDR_BRKSENSE_SENSE 0]⟩]

/-- The registers of window `mot`. -/
def motMap : List Reg := motMap0 ++ motMap1 ++ motMap2 ++ motMap3

def ctlMap0 : List Reg :=
  [⟨0xA00000, 0, 1, .plain, [CTL_STATUS_COEFERR, CTL_STATUS_CFGERR]⟩,
   ⟨0xA00004, 0, 1, .plain, [CTL_PERIOD_VALUE]⟩,
   ⟨0xA00008, 0, 1, .plain, [CTL_LOAD_VALUE]⟩,
   ⟨0xA01000, 64, 128, .special, [CTL_LCFG_RC 0, CTL_LCFG_PHASE 0, CTL_LCFG_DIV 0, CTL_LCFG_TRIG 0, CTL_LCFG_ORDER 0, CTL_LCFG_FMT 0, CTL_LCFG_EN 0]⟩,
   ⟨0xA01004, 64, 128, .special, [CTL_FB_FBKIND 0, CTL_FB_FBIDX 0, CTL_FB_SPKIND 0, CTL_FB_SPIDX 0]⟩,
   ⟨0xA01008, 64, 128, .special, [CTL_OUT_OUTKIND 0, CTL_OUT_OUTIDX 0, CTL_OUT_FFKIND 0, CTL_OUT_FFIDX 0]⟩,
   ⟨0xA0100C, 64, 128, .plain, [CTL_FFGAIN_VALUE 0]⟩,
   ⟨0xA01010, 64, 128, .plain, [CTL_SP_VALUE 0]⟩,
   ⟨0xA01014, 64, 128, .special, [CTL_UMIN_VALUE 0]⟩,
   ⟨0xA01018, 64, 128, .special, [CTL_UMAX_VALUE 0]⟩,
   ⟨0xA0101C, 64, 128, .plain, [CTL_LSTAT_OWNER 0, CTL_LSTAT_NOOUT 0, CTL_LSTAT_STALE 0, CTL_LSTAT_HELD 0, CTL_LSTAT_SAT 0]⟩,
   ⟨0xA01020, 64, 128, .plain, [CTL_FBVAL_VALUE 0]⟩,
   ⟨0xA01024, 64, 128, .plain, [CTL_OUTVAL_VALUE 0]⟩,
   ⟨0xA01028, 64, 128, .special, [CTL_COMMIT_PEND 0, CTL_COMMIT_COMMIT 0]⟩,
   ⟨0xA20000, 4, 1024, .plain, [CTL_STAGE_VALUE 0]⟩,
   ⟨0xA21000, 4, 1024, .plain, [CTL_APPLIED_VALUE 0]⟩,
   ⟨0xA22000, 32, 16, .special, [CTL_RCCFG_SRC 0, CTL_RCCFG_IDX 0, CTL_RCCFG_HARM 0, CTL_RCCFG_NBINS 0]⟩,
   ⟨0xA22004, 32, 16, .plain, [CTL_RCGAIN_Q 0, CTL_RCGAIN_L 0]⟩,
   ⟨0xA22008, 32, 16, .special, [CTL_RCOUT_RCMAX 0, CTL_RCOUT_LEAD 0]⟩,
   ⟨0xA2200C, 32, 16, .special, [CTL_RCCTL_HELD 0, CTL_RCCTL_CLR 0]⟩]

def ctlMap1 : List Reg :=
  [⟨0xA40000, 0, 1, .plain, [HVS_STATUS_CFGERR]⟩,
   ⟨0xA40010, 0, 1, .plain, [HVS_FSTAT_SRC]⟩,
   ⟨0xA40014, 0, 1, .plain, [HVS_FMASK_SRC]⟩,
   ⟨0xA40018, 0, 1, .plain, [HVS_GRACE_US]⟩,
   ⟨0xA40100, 64, 16, .special, [HVS_CHCFG_OUTKIND 0, HVS_CHCFG_OUTIDX 0, HVS_CHCFG_LOOP 0, HVS_CHCFG_IADC 0, HVS_CHCFG_MODE 0, HVS_CHCFG_VADC 0]⟩,
   ⟨0xA40104, 64, 16, .special, [HVS_CHCTL_ACEN 0, HVS_CHCTL_EN 0]⟩,
   ⟨0xA40108, 64, 16, .special, [HVS_SET_SET 0]⟩,
   ⟨0xA4010C, 64, 16, .plain, [HVS_RAMP_RAMP 0]⟩,
   ⟨0xA40110, 64, 16, .plain, [HVS_MAX_VMAX 0, HVS_MAX_IMAX 0]⟩,
   ⟨0xA40114, 64, 16, .special, [HVS_FS_VFS 0, HVS_FS_IFS 0]⟩,
   ⟨0xA40118, 64, 16, .plain, [HVS_ARC_ARCI 0, HVS_ARC_ARCOFF 0, HVS_ARC_ARCN 0]⟩,
   ⟨0xA4011C, 64, 16, .plain, [HVS_REG_REGTOL 0, HVS_REG_REGMS 0]⟩,
   ⟨0xA40120, 64, 16, .plain, [HVS_MEAS_VMEAS 0, HVS_MEAS_IMEAS 0]⟩,
   ⟨0xA40124, 64, 16, .plain, [HVS_STATE_ARCCNT 0, HVS_STATE_STATE 0]⟩,
   ⟨0xA40128, 64, 16, .special, [HVS_ACCFG_ACOUT 0, HVS_ACCFG_ACADC 0, HVS_ACCFG_ACRAMP 0]⟩,
   ⟨0xA4012C, 64, 16, .plain, [HVS_ACFREQ_HZ 0]⟩,
   ⟨0xA40130, 64, 16, .plain, [HVS_AC_ACMEAS 0, HVS_AC_ACAMP 0]⟩,
   ⟨0xA80000, 0, 1, .plain, [FUS_STATUS_ZCOK, FUS_STATUS_CFGERR]⟩,
   ⟨0xA80004, 0, 1, .plain, [FUS_MAINS_HALF]⟩,
   ⟨0xA80010, 0, 1, .plain, [FUS_FSTAT0_SRC]⟩]

def ctlMap2 : List Reg :=
  [⟨0xA80014, 0, 1, .plain, [FUS_FSTAT1_SRC]⟩,
   ⟨0xA80018, 0, 1, .plain, [FUS_FMASK0_SRC]⟩,
   ⟨0xA8001C, 0, 1, .plain, [FUS_FMASK1_SRC]⟩,
   ⟨0xA80020, 0, 1, .plain, [FUS_GRACE_US]⟩,
   ⟨0xA80024, 0, 1, .special, [FUS_BURST_ZCLEAD, FUS_BURST_MAXON, FUS_BURST_WIN]⟩,
   ⟨0xA80028, 0, 1, .plain, [FUS_ZCTO_MS]⟩,
   ⟨0xA8002C, 0, 1, .plain, [FUS_DEFER_COUNT]⟩,
   ⟨0xA80100, 32, 24, .special, [FUS_ZCFG_OUTIDX 0, FUS_ZCFG_CJADC 0, FUS_ZCFG_SADC 0, FUS_ZCFG_SENS 0, FUS_ZCFG_HEAT 0, FUS_ZCFG_EN 0]⟩,
   ⟨0xA80104, 32, 24, .special, [FUS_ZLOOP_ZPOW 0, FUS_ZLOOP_LOOP 0]⟩,
   ⟨0xA80108, 32, 24, .plain, [FUS_ZSETR_ZMAX 0, FUS_ZSETR_ZSET 0]⟩,
   ⟨0xA8010C, 32, 24, .plain, [FUS_ZTEMP_DUTY 0, FUS_ZTEMP_TEMP 0]⟩,
   ⟨0xAC0000, 0, 1, .plain, [THM_STATUS_CFGERR]⟩,
   ⟨0xAC0010, 0, 1, .plain, [THM_FSTAT0_SRC]⟩,
   ⟨0xAC0014, 0, 1, .plain, [THM_FSTAT1_SRC]⟩,
   ⟨0xAC0018, 0, 1, .plain, [THM_FMASK0_SRC]⟩,
   ⟨0xAC001C, 0, 1, .plain, [THM_FMASK1_SRC]⟩,
   ⟨0xAC0020, 0, 1, .plain, [THM_GRACE_US]⟩,
   ⟨0xAC0024, 4, 2, .plain, [THM_SHUT_PEND 0]⟩,
   ⟨0xAC002C, 0, 1, .plain, [THM_AMB_TA]⟩,
   ⟨0xAC0030, 0, 1, .acct, [THM_EVACCT_EN, THM_EVACCT_ACCT]⟩]

def ctlMap3 : List Reg :=
  [⟨0xAC0100, 64, 48, .plain, [THM_MCFG_SEN 0, THM_MCFG_SADC 0, THM_MCFG_KC 0, THM_MCFG_NODE 0, THM_MCFG_EN 0]⟩,
   ⟨0xAC0104, 64, 48, .plain, [THM_R1_VALUE 0]⟩,
   ⟨0xAC0108, 64, 48, .plain, [THM_C1_VALUE 0]⟩,
   ⟨0xAC010C, 64, 48, .plain, [THM_R2_VALUE 0]⟩,
   ⟨0xAC0110, 64, 48, .plain, [THM_C2_VALUE 0]⟩,
   ⟨0xAC0114, 64, 2, .special, [THMA_WT_THR 0, THMA_WT_WARN 0]⟩,
   ⟨0xAC0118, 64, 2, .special, [THMA_AS_ABS 0, THMA_AS_SHUT 0]⟩,
   ⟨0xAC011C, 64, 48, .plain, [THM_MTHR_MINFAC 0, THM_MTHR_HYST 0, THM_MTHR_THPER 0]⟩,
   ⟨0xAC0120, 64, 48, .plain, [THM_MIS_MISMS 0, THM_MIS_MISTOL 0]⟩,
   ⟨0xAC0124, 64, 48, .plain, [THM_MT_T2 0, THM_MT_T1 0]⟩,
   ⟨0xAC0128, 64, 48, .plain, [THM_P_P 0]⟩,
   ⟨0xAC012C, 64, 48, .plain, [THM_MSTAT_SENSOK 0, THM_MSTAT_SHUTPEND 0, THM_MSTAT_FAST 0, THM_MSTAT_THROT 0, THM_MSTAT_WARN 0, THM_MSTAT_LIMFAC 0]⟩,
   ⟨0xAC0194, 64, 4, .special, [THMB_WT_THR 0, THMB_WT_WARN 0]⟩,
   ⟨0xAC0198, 64, 4, .special, [THMB_AS_ABS 0, THMB_AS_SHUT 0]⟩,
   ⟨0xAC0294, 64, 16, .special, [THMC_WT_THR 0, THMC_WT_WARN 0]⟩,
   ⟨0xAC0298, 64, 16, .special, [THMC_AS_ABS 0, THMC_AS_SHUT 0]⟩,
   ⟨0xAC0694, 64, 24, .special, [THMD_WT_THR 0, THMD_WT_WARN 0]⟩,
   ⟨0xAC0698, 64, 24, .special, [THMD_AS_ABS 0, THMD_AS_SHUT 0]⟩,
   ⟨0xAC0C94, 64, 2, .special, [THME_WT_THR 0, THME_WT_WARN 0]⟩,
   ⟨0xAC0C98, 64, 2, .special, [THME_AS_ABS 0, THME_AS_SHUT 0]⟩]

/-- The registers of window `ctl`. -/
def ctlMap : List Reg := ctlMap0 ++ ctlMap1 ++ ctlMap2 ++ ctlMap3

def clbMap0 : List Reg :=
  [⟨0xB00000, 0, 1, .plain, [CLB_STATUS_DCLAMP, CLB_STATUS_DIESTALE, CLB_STATUS_DIEBUSY, CLB_STATUS_BUSY, CLB_STATUS_CFGERR]⟩,
   ⟨0xB00004, 0, 1, .special, [CLB_CTL_REQD, CLB_CTL_REQ, CLB_CTL_AUTOD, CLB_CTL_AUTO]⟩,
   ⟨0xB00008, 0, 1, .plain, [CLB_TRIG_DIETHR, CLB_TRIG_HEADTHR]⟩,
   ⟨0xB0000C, 0, 1, .plain, [CLB_NMEAS_SWEEPS]⟩,
   ⟨0xB00010, 0, 1, .plain, [CLB_MAXMS_MS]⟩,
   ⟨0xB00014, 0, 1, .plain, [CLB_RUNCNT_COUNT]⟩,
   ⟨0xB00020, 0, 1, .plain, [CLB_FSTAT_SRC]⟩,
   ⟨0xB00024, 0, 1, .plain, [CLB_FMASK_SRC]⟩,
   ⟨0xB00028, 0, 1, .plain, [CLB_GRACE_US]⟩,
   ⟨0xB00040, 0, 1, .special, [CLB_MKCFG_EN, CLB_MKCFG_REFST, CLB_MKCFG_INPUT]⟩,
   ⟨0xB00044, 0, 1, .special, [CLB_MSOFF_LINES]⟩,
   ⟨0xB00048, 0, 1, .special, [CLB_MLINE_LINE]⟩,
   ⟨0xB0004C, 0, 1, .special, [CLB_MSTEP_MCHEV, CLB_MSTEP_MSTEP]⟩,
   ⟨0xB00050, 0, 1, .special, [CLB_REGGAIN_REGDB, CLB_REGGAIN_MWIN, CLB_REGGAIN_KREG]⟩,
   ⟨0xB00054, 0, 1, .special, [CLB_MISSMK_COUNT]⟩,
   ⟨0xB00080, 4, 16, .special, [CLB_REGERR_RL 0, CLB_REGERR_RP 0]⟩,
   ⟨0xB000C0, 4, 16, .special, [CLB_REGRES_RES 0]⟩,
   ⟨0xB00100, 4, 4, .plain, [CLB_REGAX_EN 0, CLB_REGAX_STATION 0, CLB_REGAX_AXIS 0]⟩,
   ⟨0xB00200, 64, 4, .plain, [CLB_T_T0 0, CLB_T_TLAST 0]⟩,
   ⟨0xB00204, 64, 4, .plain, [CLB_KX_KX 0, CLB_KX_DCEN 0]⟩]

def clbMap1 : List Reg :=
  [⟨0xB00208, 64, 4, .plain, [CLB_L0_VALUE 0]⟩,
   ⟨0xB0020C, 64, 4, .special, [CLB_LATOFF_VALUE 0]⟩,
   ⟨0xB00210, 64, 4, .plain, [CLB_SOSWREF_VALUE 0]⟩,
   ⟨0xB00214, 64, 4, .plain, [CLB_RES_UNIFRES 0, CLB_RES_EPOSRES 0]⟩,
   ⟨0xB00218, 64, 4, .plain, [CLB_DENSMAX_VALUE 0]⟩,
   ⟨0xB01000, 8, 256, .special, [CLB_DBASE0_DBASE 0]⟩,
   ⟨0xB01004, 8, 256, .plain, [CLB_GI0_G0 0, CLB_GI0_I0 0]⟩,
   ⟨0xB01800, 8, 256, .special, [CLB_DBASE1_DBASE 0]⟩,
   ⟨0xB01804, 8, 256, .plain, [CLB_GI1_G0 0, CLB_GI1_I0 0]⟩,
   ⟨0xB02000, 8, 256, .special, [CLB_DBASE2_DBASE 0]⟩,
   ⟨0xB02004, 8, 256, .plain, [CLB_GI2_G0 0, CLB_GI2_I0 0]⟩,
   ⟨0xB02800, 8, 256, .special, [CLB_DBASE3_DBASE 0]⟩,
   ⟨0xB02804, 8, 256, .plain, [CLB_GI3_G0 0, CLB_GI3_I0 0]⟩,
   ⟨0xB80000, 0, 1, .special, [AUD_REQ_CODE]⟩,
   ⟨0xB80004, 0, 1, .plain, [AUD_REQST_STATUS]⟩,
   ⟨0xB80008, 0, 1, .plain, [AUD_REQPOSLO_WPOS]⟩,
   ⟨0xB8000C, 0, 1, .plain, [AUD_REQPOSHI_WPOS]⟩,
   ⟨0xB80010, 0, 1, .plain, [AUD_PASSCNT_COUNT]⟩,
   ⟨0xB80014, 0, 1, .plain, [AUD_FAILCNT_COUNT]⟩,
   ⟨0xB80018, 0, 1, .acct, [AUD_EVACCT_EN, AUD_EVACCT_ACCT]⟩]

def clbMap2 : List Reg :=
  [⟨0xB8001C, 0, 1, .plain, [AUD_STATUS_CFGERR]⟩,
   ⟨0xB80100, 16, 16, .special, [AUD_CODE_CODE 0]⟩,
   ⟨0xB80104, 16, 16, .special, [AUD_WHO_TELLERS 0, AUD_WHO_INCIDENT 0]⟩,
   ⟨0xB80108, 16, 16, .special, [AUD_POS_POS 0]⟩,
   ⟨0xB8010C, 16, 16, .special, [AUD_STATE_STATE 0]⟩]

/-- The registers of window `clb`. -/
def clbMap : List Reg := clbMap0 ++ clbMap1 ++ clbMap2

def fltMap0 : List Reg :=
  [⟨0xC00000, 0, 1, .plain, [FLT_STATUS_SWAPERR, FLT_STATUS_KEYERR, FLT_STATUS_CFGERR]⟩,
   ⟨0xC00004, 0, 1, .special, [FLT_CTL_RELINQ, FLT_CTL_SWAP, FLT_CTL_REARM, FLT_CTL_RUN]⟩,
   ⟨0xC00008, 0, 1, .plain, [FLT_PIN_CAUSE, FLT_PIN_RBN, FLT_PIN_RBP, FLT_PIN_HEALTHY]⟩,
   ⟨0xC0000C, 0, 1, .plain, [FLT_PINMASK_BLK]⟩,
   ⟨0xC00010, 0, 1, .plain, [FLT_ESCPIN_BLK]⟩,
   ⟨0xC00014, 0, 1, .plain, [FLT_CLEAR_MS]⟩,
   ⟨0xC00018, 0, 1, .plain, [FLT_INCNEXT_VALUE]⟩,
   ⟨0xC00020, 0, 1, .plain, [FLT_FSTAT_SRC]⟩,
   ⟨0xC00024, 0, 1, .plain, [FLT_FMASK_SRC]⟩,
   ⟨0xC00028, 0, 1, .plain, [FLT_GRACE_US]⟩,
   ⟨0xC00030, 0, 1, .plain, [FLT_LSISTAT_WAITREARM, FLT_LSISTAT_DISC, FLT_LSISTAT_LENOK, FLT_LSISTAT_BCLOSED, FLT_LSISTAT_ACLOSED]⟩,
   ⟨0xC00034, 0, 1, .plain, [FLT_LSICFG_DISCMS, FLT_LSICFG_SETTLEMS]⟩,
   ⟨0xC00038, 0, 1, .plain, [FLT_LSICNT_COUNT]⟩,
   ⟨0xC00040, 0, 1, .plain, [FLT_MIRSTAT_SNAPPING, FLT_MIRSTAT_ISOLATED, FLT_MIRSTAT_TKARMED]⟩,
   ⟨0xC00044, 0, 1, .plain, [FLT_MSEQ_MSEQ]⟩,
   ⟨0xC00048, 0, 1, .plain, [FLT_ACKSEQ_MSEQ]⟩,
   ⟨0xC0004C, 0, 1, .plain, [FLT_LASTSETTLED_MSEQ]⟩,
   ⟨0xC00050, 0, 1, .plain, [FLT_LASTEVENT_MSEQ]⟩,
   ⟨0xC00054, 0, 1, .acct, [FLT_STBYACCT_EN, FLT_STBYACCT_ACCT]⟩,
   ⟨0xC00058, 0, 1, .plain, [FLT_STBYDROP_COUNT]⟩]

def fltMap1 : List Reg :=
  [⟨0xC00060, 0, 1, .special, [FLT_BLKRST_KEY, FLT_BLKRST_BLK]⟩,
   ⟨0xC00100, 16, 24, .plain, [FLT_BLKSTAT_DEFER 0, FLT_BLKSTAT_ESC 0, FLT_BLKSTAT_STATE 0]⟩,
   ⟨0xC00104, 16, 24, .plain, [FLT_BLKINC_INCIDENT 0]⟩,
   ⟨0xC00108, 16, 24, .plain, [FLT_BLKCNT_RECOV 0, FLT_BLKCNT_LASTCNT 0]⟩,
   ⟨0xC0010C, 16, 24, .acct, [FLT_ROUTE_TELLERS 0, FLT_ROUTE_EN 0, FLT_ROUTE_ACCT 0]⟩]

/-- The registers of window `flt`. -/
def fltMap : List Reg := fltMap0 ++ fltMap1

def accMap0 : List Reg :=
  [⟨0xD00000, 0, 1, .plain, [ACC_STATUS_KEYERR, ACC_STATUS_CFGERR]⟩,
   ⟨0xD00004, 0, 1, .plain, [ACC_BOOT_FWVER, ACC_BOOT_STAT]⟩,
   ⟨0xD00008, 0, 1, .special, [ACC_RST_KEY, ACC_RST_ACCT]⟩,
   ⟨0xD01000, 4, 1024, .plain, [ACC_CFG_EN 0, ACC_CFG_MBIRQ 0, ACC_CFG_MBVEC 0, ACC_CFG_TMO 0]⟩,
   ⟨0xD40000, 0, 1, .plain, [MBX_VIOL_COUNT]⟩,
   ⟨0xD40004, 0, 1, .plain, [MBX_LASTBAD_ACCT, MBX_LASTBAD_CAUSE]⟩,
   ⟨0xD40010, 0, 1, .plain, [MBX_FSTAT_SRC]⟩,
   ⟨0xD40014, 0, 1, .plain, [MBX_FMASK_SRC]⟩,
   ⟨0xD40018, 0, 1, .plain, [MBX_GRACE_US]⟩,
   ⟨0xD80000, 32, 1024, .special, [EVQ_BASELO_BASE 0]⟩,
   ⟨0xD80004, 32, 1024, .special, [EVQ_BASEHI_BASE 0]⟩,
   ⟨0xD80008, 32, 1024, .special, [EVQ_CFG_EN 0, EVQ_CFG_LOG2N 0, EVQ_CFG_VEC 0]⟩,
   ⟨0xD8000C, 32, 1024, .plain, [EVQ_MOD_MOD 0]⟩,
   ⟨0xD80010, 32, 1024, .plain, [EVQ_TAIL_TAIL 0]⟩,
   ⟨0xD80014, 32, 1024, .special, [EVQ_HEAD_HEAD 0]⟩,
   ⟨0xD80018, 32, 1024, .plain, [EVQ_PEND_LOSTPEND 0, EVQ_PEND_HELD 0]⟩,
   ⟨0xD8001C, 32, 1024, .plain, [EVQ_DROP_DROP 0]⟩]

/-- The registers of window `acc`. -/
def accMap : List Reg := accMap0

def netMap0 : List Reg :=
  [⟨0xE00000, 0, 1, .plain, [NET_FSTAT_SRC]⟩,
   ⟨0xE00004, 0, 1, .plain, [NET_FMASK_SRC]⟩,
   ⟨0xE00008, 0, 1, .plain, [NET_GRACE_US]⟩,
   ⟨0xE0000C, 0, 1, .plain, [NET_STRMERR_COUNT]⟩,
   ⟨0xE00010, 0, 1, .plain, [NET_FECLIM_N]⟩,
   ⟨0xE00100, 64, 2, .enLock, [NET_CTL_MODE 0, NET_CTL_EN 0]⟩,
   ⟨0xE00104, 64, 2, .plain, [NET_STAT_FECLOCK 0, NET_STAT_LINK 0]⟩,
   ⟨0xE00108, 64, 2, .plain, [NET_MACLO_MAC 0]⟩,
   ⟨0xE0010C, 64, 2, .plain, [NET_MACHI_MAC 0]⟩,
   ⟨0xE00110, 64, 2, .plain, [NET_IPV4_IPV4 0]⟩,
   ⟨0xE00114, 64, 2, .plain, [NET_UDPPORT_UDPPORT 0]⟩,
   ⟨0xE00118, 64, 2, .plain, [NET_RXFRAMES_COUNT 0]⟩,
   ⟨0xE0011C, 64, 2, .plain, [NET_RXDROP_COUNT 0]⟩,
   ⟨0xE40000, 0, 1, .enLock, [PTP_CFG_DOMAIN, PTP_CFG_MASTEROK, PTP_CFG_MECH, PTP_CFG_TRANSPORT, PTP_CFG_PORT, PTP_CFG_EN]⟩,
   ⟨0xE40004, 0, 1, .plain, [PTP_STAT_STATE]⟩,
   ⟨0xE40008, 0, 1, .plain, [PTP_OFFSET_NS]⟩,
   ⟨0xE4000C, 0, 1, .plain, [PTP_MPD_NS]⟩,
   ⟨0xE40010, 0, 1, .plain, [PTP_GMIDLO_ID]⟩,
   ⟨0xE40014, 0, 1, .plain, [PTP_GMIDHI_ID]⟩,
   ⟨0xE40020, 0, 1, .plain, [PTP_FSTAT_SRC]⟩]

def netMap1 : List Reg :=
  [⟨0xE40024, 0, 1, .plain, [PTP_FMASK_SRC]⟩,
   ⟨0xE40028, 0, 1, .plain, [PTP_GRACE_US]⟩,
   ⟨0xE80000, 0, 1, .special, [RNG_CTL_EN]⟩,
   ⟨0xE80004, 0, 1, .plain, [RNG_STATUS_NODES, RNG_STATUS_WRAPB, RNG_STATUS_WRAPA, RNG_STATUS_UPB, RNG_STATUS_UPA, RNG_STATUS_CFGERR]⟩,
   ⟨0xE80008, 4, 2, .plain, [RNG_PATHDLY_PS 0]⟩,
   ⟨0xE80010, 0, 1, .plain, [RNG_SERLO_SERIAL]⟩,
   ⟨0xE80014, 0, 1, .plain, [RNG_SERHI_SERIAL]⟩,
   ⟨0xE80018, 0, 1, .plain, [RNG_VIOL_COUNT]⟩,
   ⟨0xE8001C, 0, 1, .plain, [RNG_NOEP_COUNT]⟩,
   ⟨0xE80020, 0, 1, .plain, [RNG_RETX_COUNT]⟩,
   ⟨0xE80024, 0, 1, .special, [RNG_STOP_NOW]⟩,
   ⟨0xE80028, 0, 1, .plain, [RNG_STOPCFG_EN, RNG_STOPCFG_AUXIN]⟩,
   ⟨0xE8002C, 0, 1, .acct, [RNG_EVACCT_EN, RNG_EVACCT_ACCT]⟩,
   ⟨0xE80040, 4, 5, .special, [RNG_STOPMASK_BITS 0]⟩,
   ⟨0xE80060, 4, 5, .special, [RNG_STOPLVL_BITS 0]⟩,
   ⟨0xE80080, 0, 1, .plain, [RNG_FSTAT_SRC]⟩,
   ⟨0xE80084, 0, 1, .plain, [RNG_FMASK_SRC]⟩,
   ⟨0xE80088, 0, 1, .plain, [RNG_GRACE_US]⟩,
   ⟨0xE80100, 8, 32, .plain, [RNG_ASSIGNLO_SERLO 0]⟩,
   ⟨0xE80104, 8, 32, .plain, [RNG_ASSIGNHI_EN 0, RNG_ASSIGNHI_NODE 0]⟩]

/-- The registers of window `net`. -/
def netMap : List Reg := netMap0 ++ netMap1

def pchMap0 : List Reg :=
  [⟨0xF00000, 0, 1, .plain, [PCH_ID_DEVICE, PCH_ID_VENDOR]⟩,
   ⟨0xF00004, 0, 1, .plain, [PCH_LINK_WIDTH, PCH_LINK_SPEED, PCH_LINK_UP]⟩,
   ⟨0xF00008, 0, 1, .plain, [PCH_CTO_US]⟩,
   ⟨0xF0000C, 0, 1, .plain, [PCH_ERRCNT_CTO, PCH_ERRCNT_BADTLP]⟩,
   ⟨0xF00010, 0, 1, .plain, [PCH_FSTAT_SRC]⟩,
   ⟨0xF00014, 0, 1, .plain, [PCH_FMASK_SRC]⟩,
   ⟨0xF00018, 0, 1, .plain, [PCH_GRACE_US]⟩,
   ⟨0xF80000, 0, 1, .special, [PCS_CTL_MAXSPD, PCS_CTL_ASPML1, PCS_CTL_EN]⟩,
   ⟨0xF80004, 0, 1, .plain, [PCS_LINK_WIDTH, PCS_LINK_SPEED, PCS_LINK_UP]⟩,
   ⟨0xF80008, 0, 1, .plain, [PCS_CTO_US]⟩,
   ⟨0xF8000C, 0, 1, .plain, [PCS_ERRCNT_UR, PCS_ERRCNT_BADTLP]⟩]

/-- The registers of window `pch`. -/
def pchMap : List Reg := pchMap0

def mbMap0 : List Reg :=
  [⟨0x1000000, 4096, 1024, .special, [MBW_DATA 0]⟩,
   ⟨0x1000040, 4096, 1024, .special, [MBCTL_GO 0, MBCTL_DONE 0, MBCTL_TIMEOUT 0, MBCTL_TAKEN 0, MBCTL_CMD 0]⟩]

/-- The registers of window `mb`. -/
def mbMap : List Reg := mbMap0

def vltMap0 : List Reg :=
  [⟨0x10040000, 0, 1, .plain, [VLT_STATUS_CFGERR]⟩,
   ⟨0x10040004, 4, 2, .special, [VLT_MEMBERS_ACCTS 0]⟩,
   ⟨0x10040010, 0, 1, .special, [VLT_ALIASADDR_ADDR]⟩,
   ⟨0x10040014, 0, 1, .special, [VLT_ALIASDATA_DATA]⟩,
   ⟨0x10040020, 0, 1, .plain, [VLT_KEYSTAT_REVOKED, VLT_KEYSTAT_WRITTEN]⟩,
   ⟨0x10040024, 0, 1, .plain, [VLT_ROLLBACK_COUNT]⟩,
   ⟨0x10040028, 0, 1, .special, [VLT_CTL_COMMITRB]⟩]

/-- The registers of window `vlt`. -/
def vltMap : List Reg := vltMap0

def msixMap0 : List Reg :=
  [⟨0x20000000, 16, 2048, .plain, [MSIX_ADDRLO_ADDR 0]⟩,
   ⟨0x20000004, 16, 2048, .plain, [MSIX_ADDRHI_ADDR 0]⟩,
   ⟨0x20000008, 16, 2048, .plain, [MSIX_DATA_DATA 0]⟩,
   ⟨0x2000000C, 16, 2048, .plain, [MSIX_CTRL_MASK 0]⟩,
   ⟨0x20008000, 4, 64, .plain, [MSIX_PBA_PENDING 0]⟩]

/-- The registers of window `msix`. -/
def msixMap : List Reg := msixMap0

/-- The registers of the window a register offset lies in (R25, R27, R347). -/
def windowMap (a : Nat) : List Reg :=
  if a ≥ 0x20000000 then msixMap
  else if a ≥ 0x10000000 then vltMap
  else if a ≥ 0x1000000 then mbMap
  else match a / 0x100000 with
    | 0 => glbMap
    | 1 => timMap
    | 2 => tlrMap
    | 3 => ldgMap
    | 4 => escMap
    | 5 => scnMap
    | 6 => hlkMap
    | 7 => stoMap
    | 8 => dmaMap
    | 9 => motMap
    | 10 => ctlMap
    | 11 => clbMap
    | 12 => fltMap
    | 13 => accMap
    | 14 => netMap
    | 15 => pchMap
    | _ => []

end Sys2Proof.Machine
end

