-- ==== Sys2Proof/Machine/Units.lean ====
section
/-! DEFINITION. What stands behind the register windows of the imaging, store, DMA, motion and control units: one
structure per unit, plain data. -/

namespace Sys2Proof.Machine

/-- A module port's scan timing behind SCN and PLL (R142 to R161): sweep number, WPOS of the last SOS, applied PHOFF
(1/256 line) and skew, time of the last SOS, the last eight intervals (newest first), consecutive sweeps inside and
outside the phase limits, what the facet signature has learned (sums and revolutions), whether an index pulse was
seen, a window to void from the next sweep with its incident, the profile in use, the committed profiles that wait for
their boundary, newest first, whether the line rate was found below the bands at the last boundary, the escalations of SCN and PLL that blank the port, and whether a band change is in progress. -/
structure Scan where
  sweep : Nat
  sosPos : Nat
  phoff : Nat
  skew : Int
  lastTime : Option Nat
  ivals : List Nat
  good : Nat
  bad : Nat
  learn : Tab Nat
  learnN : Nat
  learned : Bool
  matching : Nat
  index : Bool
  voidNext : Option (Nat × Nat)
  slow : Bool
  prof : Tab Nat
  perFacet : Bool
  commits : List (Tab Nat × Bool)
  blankScn : Bool
  blankPll : Bool
  bandBusy : Bool
  /-- The incident number drawn by the first of a run of predictions (R148). -/
  predInc : Option Nat
  /-- Whether an EOS came since the last SOS, and the missing ones (R148). -/
  eosSeen : Bool
  eosMissed : Nat
  /-- The applied copy of PLL_DLY (R153). -/
  dly : Nat
  /-- Writes of the port's pixel-domain parameters since the last boundary, newest first: the fields each changed, with
  their values before; an empty one is a profile commit (R33). -/
  recent : List (List (Field × Nat))
deriving DecidableEq, Repr

/-- A port's scan timing after reset: flat profile, nothing learned. -/
def Scan.init : Scan :=
  { sweep := 0, sosPos := 0, phoff := 0, skew := 0, lastTime := none, ivals := [], good := 0, bad := 0, learn := [],
    learnN := 0, learned := false, matching := 0, index := false, voidNext := none, slow := false, prof := [], perFacet := false,
    commits := [], blankScn := false, blankPll := false, bandBusy := false, predInc := none, eosSeen := false, eosMissed := 0
    dly := 0, recent := [] }

/-- The clock supervisor (R163 to R167): consecutive windows of A and B within ±100 ppm and beyond ±250 ppm, the
deviation at the end of the last good window of the selected reference, the one frozen in holdover, and the windows
the holdover has lasted, and the reference a switch in progress goes to (R166). -/
structure RefSup where
  goodA : Nat
  goodB : Nat
  badA : Nat
  badB : Nat
  lastGood : Int
  frozen : Option Int
  windows : Nat
  target : Option Nat
deriving DecidableEq, Repr

/-- The supervisor after reset. DESIGN CHOICE (log entry 65). -/
def RefSup.init : RefSup := ⟨0, 0, 0, 0, 0, none, 0, none⟩

/-! The head link (R172 to R185) and exposure (R186 to R190). -/

/-- A slot of a head link: its number, the strobe vector it carried, whether a strobe falls due for it, the strobe it is
for, counted from SOS, its sweep, its WPOS, whether it lies in an imaging window, and the SPLANE of its command frame. -/
structure HSlot where
  slot : Nat
  vec : Nat
  stb : Bool
  strobe : Nat
  sweep : Nat
  wpos : Nat
  inWin : Bool
  spl : Nat
deriving DecidableEq, Repr

/-- A failed block: its slot, its lane, the incident its NAK drew, and for a retry the line it runs on and the slot it
started in (`none`: not started). -/
structure Nak where
  slot : Nat
  lane : Nat
  incident : Nat
  line : Nat
  start : Option Nat
deriving DecidableEq, Repr

/-- A head link of a port: slots sent, pixel periods since SOS, sweep phase, scrambler states (lines 0 to 12 lanes, 13
command, 14 status), the last slots, NAKs that wait for a retry or run one, slots whose retry ended in time, MISS
expected, consecutive bad and good status frames, the fine-delay index, NAKed slots per lane, sweeps at which a MISS
fell, sweep boundaries counted, overscan strobes not yet reported, whether a temperature and a supply reading have
come, the sum over slots of the emitters' overscan currents in µA times width codes and the slots since the last update of the
head's thermal model, BLK in force, the escalations of HLK, EXP and a stop that blank the port, the lane audit's pass, the void slots known at the start of the sweep, the lanes that failed with no spare (R184), and the applied copy of EXP_OSCHKn (R33). -/
structure Head where
  slot : Nat
  pp : Int
  sph : Nat
  scr : Tab Nat
  hist : List HSlot
  naks : List Nak
  done : List Nat
  expect : List Nak
  badRun : Nat
  goodRun : Nat
  fdIdx : Nat
  laneNaks : Tab (List Nat)
  missAt : List Nat
  sweeps : Nat
  osPend : List (Nat × Nat)
  seenTemp : Bool
  seenSupply : Bool
  load : Nat
  loadN : Nat
  blk : Bool
  blankHlk : Bool
  blankExp : Bool
  stopBlk : Bool
  laneOk : Bool
  dark : List Nat
  down : List Nat
  osEn : Bool
  osW : Nat
  graceErr : Nat
deriving DecidableEq, Repr

/-- A head link after reset. -/
def Head.init : Head :=
  { slot := 0, pp := 0, sph := 0, scr := [], hist := [], naks := [], done := [], expect := [], badRun := 0,
    goodRun := 0, fdIdx := 0, laneNaks := [], missAt := [], sweeps := 0, osPend := [], seenTemp := false,
    seenSupply := false, load := 0, loadN := 0, blk := false, blankHlk := false, blankExp := false, stopBlk := false, laneOk := false, dark := [], down := [], osEn := true, osW := 0x3F, graceErr := 0 }

/-- Exposure of a port: the table, SPREAD, TKGAIN and TKEN in force, the sums of the sweep, and the dead marks a clear
waits to lift at the next frame gap (bit e). -/
structure Expo where
  table : Tab Nat
  spread : Nat
  tkgain : Nat
  tken : Bool
  lost : Nat
  want : Nat
  clr : Nat
deriving DecidableEq, Repr

/-- Exposure after reset: the reset values of EXP_CFGn and a table of zeros. -/
def Expo.init : Expo := ⟨[], 128, 0x100, true, 0, 0, 0⟩

/-! The store (R196 to R211). -/

/-- An extent (R199): STATE 0 none, 1 RESERVED, 2 FILLING, 3 SEALED, 4 RELEASING. -/
structure Extent where
  base : Nat
  units : Nat
  state : Nat
  owner : Nat
  refs : Nat
deriving DecidableEq, Repr

/-- No extent. -/
def Extent.none : Extent := ⟨0, 0, 0, 0, 0⟩

/-- Where an ingest stands (R201): taking lines, writing its table, flushing the drives. -/
inductive IngestAt
  | lines
  | table
  | flush
deriving DecidableEq, Repr

/-- An open ingest (R200, R201): its parameter block, the next DSEQ and line, the bytes of the present line and of the
present tile row received so far, the row, the next offset in the extent, the table entries formed, the bytes formed that
do not fill a block of 4,096 yet, and where it stands. -/
structure Ingest where
  stream : Nat
  frame : Nat
  length : Nat
  station : Nat
  npos : Nat
  colFirst : Nat
  colLast : Nat
  raw : Bool
  acct : Nat
  dseq : Nat
  line : Nat
  cur : List Byte
  rows : List (List Byte)
  row : Nat
  addr : Nat
  entries : Tab Nat
  block : List Byte
  at_ : IngestAt
deriving DecidableEq, Repr

/-- What the prefetcher reads for a slot at a station: its frame table (row and column 0), or one of its tiles. -/
structure TileKey where
  slot : Nat
  stn : Nat
  row : Nat
  col : Nat
  table : Bool
deriving DecidableEq, Repr

/-- A tile on its way, decoded, or failed in its check (R206: each is decoded once). -/
inductive TileSt
  | coming
  | decoded
  | failed
deriving DecidableEq, Repr

/-- A frame table or a tile of a slot at a station (R207, R208): its deadline, its store address and length, where the
parts that came lie in the prefetch buffer (offset in it, place, length), and a decoded tile's lines. -/
structure Tile where
  key : TileKey
  deadline : Nat
  addr : Nat
  len : Nat
  st : TileSt
  parts : List (Nat × Nat × Nat)
  data : List Byte
deriving DecidableEq, Repr

/-- A piece of a table or tile still to come, on one drive and within one Read (R196, R198), and whether a Read of it is
under way. -/
structure Fetch where
  key : TileKey
  off : Nat
  addr : Nat
  len : Nat
  deadline : Nat
  sent : Bool
deriving DecidableEq, Repr

/-- The I/O commands of R197. -/
inductive NvmeOp
  | read
  | write
  | flush
  | dealloc
deriving DecidableEq, Repr

/-- An NVMe I/O command (R198, R209): the bytes of the namespace it names, a read's pieces (by table or tile and offset)
and its place in the prefetch buffer, a write's extent and bytes, its retries, its incident, and whether it timed out. -/
structure Nvme where
  op : NvmeOp
  drive : Nat
  byte : Nat
  len : Nat
  pieces : List (TileKey × Nat)
  place : Nat
  ext : Nat
  data : List Byte
  retries : Nat
  incident : Nat
  late : Bool
deriving DecidableEq, Repr

/-- The store: extents, open ingests, tables and tiles, the prefetcher's list of pieces, the commands at the drives, those
that wait, and of each drive its failures in a row, identity, queue pairs granted and maximum data transfer. -/
structure Store where
  extents : Tab Extent
  ingests : Tab (Option Ingest)
  tiles : List Tile
  fetches : List Fetch
  cmds : Tab (Option Nvme)
  nextCid : Nat
  waiting : List Nvme
  drvFail : Tab Nat
  drvIdent : Tab Nat
  drvGrant : Tab Nat
  drvMax : Tab Nat
  slotRefs : Tab (List Nat)
  inBytes : Nat
  outBytes : Nat
deriving DecidableEq, Repr

/-- The store after reset. DESIGN CHOICE (log entry 65). -/
def Store.init : Store :=
  { extents := [], ingests := [], tiles := [], fetches := [], cmds := [], nextCid := 0, waiting := [], drvFail := [],
    drvIdent := [], drvGrant := [], drvMax := [], slotRefs := [], inBytes := 0, outBytes := 0 }

/-! DMA (R216 to R231). -/

/-- A descriptor as its channel holds it (R217, R218); `sw` and `dw` are beat widths in bytes. -/
structure DmaDesc where
  addr : Nat
  sp : Nat
  src : Nat
  dst : Nat
  len : Nat
  sw : Nat
  dw : Nat
  ssp : Nat
  dsp : Nat
  sfix : Bool
  dfix : Bool
  nsp : Nat
  last : Bool
  dtev : Bool
  next : Nat
  dctl : Nat
deriving DecidableEq, Repr

/-- A DMA channel behind its registers: the descriptor in hand, bytes requested, sent in destination beats and written,
the holding register, reads and writes in flight, a descriptor read in flight, where the next descriptor lies (`none`:
at DMA_HEADn), beats left in the grain, whether the channel drains toward an abort, whether its error was met at a
descriptor, whether a descriptor completed while draining with its grain unfinished, and the addresses its CUR registers show. -/
structure Dma where
  desc : Option DmaDesc
  readB : Nat
  sentB : Nat
  doneB : Nat
  hold : List Byte
  rd : List Nat
  wr : List (Nat × List Byte)
  fetching : Option (Nat × Nat)
  nextAt : Option (Nat × Nat)
  beats : Nat
  abort : Bool
  errDesc : Bool
  more : Bool
  curSrc : Nat
  curDst : Nat
  curDesc : Nat
  curSp : Nat
deriving DecidableEq, Repr

/-- A channel after reset. DESIGN CHOICE (log entry 65). -/
def Dma.init : Dma :=
  { desc := none, readB := 0, sentB := 0, doneB := 0, hold := [], rd := [], wr := [], fetching := none, nextAt := none,
    beats := 0, abort := false, errDesc := false, more := false, curSrc := 0, curDst := 0, curDesc := 0, curSp := 0 }

end Sys2Proof.Machine
end

