-- ==== Sys2Proof/Machine/State.lean ====
section
/-! DEFINITION. The state of one MR-470 node: every register (by field, in one sparse table keyed by register offset),
and beside it the state that stands behind the windows: tellers, memories, comparators, orders, locks, slots, links,
the mirror, the queue of commands that wait. All of it is plain data. -/

namespace Sys2Proof.Machine

/-- The state of a teller (TLR_STATE.STt, R95). -/
inductive Run
  | halted | running | waiting | trapHalted
deriving DecidableEq, Repr

/-- What a waiting teller waits for (R72, R78, R81). -/
inductive Wait
  | none
  /-- WAITPOS for a position. -/
  | pos (target : Nat)
  /-- WAITEV with its destination register and mask. -/
  | ev (rd : Nat) (mask : Word)
  /-- A shadowed system operation of the Standby: sub-opcode, fields and instance number. -/
  | shadow (sub rd rs rt : Nat) (inst : Nat)
  /-- COMMIT at the escrow commit port (R130): the teller still runs, its instruction is not complete. -/
  | port
deriving DecidableEq, Repr

/-- A body queued in one of a teller's four outbound entries (R77). -/
structure OutMsg where
  dst : Nat
  msg : Msg
deriving DecidableEq, Repr

/-- One teller (R60) with its WRR queue (R84) and what it remembers of locks and outbound messages. -/
structure Teller where
  g : Tab Word
  p : Tab Pos
  q : Tab Bool
  pc : Word
  tm : Bool
  tev : Word
  cyc : Word
  st : Run
  wait : Wait
  wrrq : List (Nat × Word)
  busErr : Option Nat
  outb : List OutMsg
  lckWait : Option Nat
  inst : Nat
  doneOps : List MirRec
  /-- A TLR_STOP that waits for the instruction boundary, and a reset that waits for earlier WRR writes (R90). -/
  stopReq : Bool
  rstReq : Bool
deriving DecidableEq, Repr

/-- A teller after reset (R90). -/
def Teller.init : Teller :=
  { g := [], p := [], q := [], pc := 0, tm := false, tev := 0, cyc := 0, st := .halted, wait := .none, wrrq := [],
    busErr := none, outb := [], lckWait := none, inst := 0, doneOps := [], stopReq := false, rstReq := false }

/-- A comparator (R96, R109). `fresh`: not yet evaluated since its ARM. -/
structure Cmp where
  target : Nat
  seq : Nat
  armed : Bool
  fresh : Bool
  held : Bool
  fired : Bool
  late : Bool
  skipped : Bool
  dropped : Bool
deriving DecidableEq, Repr

/-- A comparator after reset: disarmed. -/
def Cmp.init : Cmp := ⟨0, 0, false, false, false, false, false, false, false⟩

/-- An action in the ordered stream of R101: the comparator it came from, the words of its entry, and whether the fabric has
acknowledged its write. -/
structure Act where
  cmp : Nat
  ctl : Nat
  addr : Nat
  value : Nat
  acked : Bool
deriving DecidableEq, Repr

/-- A book of an account (R110, R121). -/
structure Book where
  next : Nat
  head : Nat
  last : Nat
deriving DecidableEq, Repr

/-- A slot the node knows of (R124, R134). `released`, `begun` and `ended` are masks of the stations this node serves
whose release, window start and window end have passed; `voided` holds the reason once the node knows the slot void, `raised` the stations and reasons this node has reported,
`dark` the stations that image it blank and the first frame line they cannot image (R136), `geo` the geometry of its run
(R123), `voidAt` the teller cycle in which the node learned that the slot is void. -/
structure SlotRec where
  kind : Nat
  desc : Desc
  x : Nat
  ec : Nat
  voided : Option Nat
  released : Nat
  begun : Nat
  ended : Nat
  raised : List (Nat × Nat)
  dark : List (Nat × Nat)
  geo : Geo
  voidAt : Nat
deriving DecidableEq, Repr

/-- No slot: the default of the slot table. -/
def SlotRec.none : SlotRec := ⟨0, Desc.void 0 0, 0, 0, .none, 0, 0, 0, [], [], Geo.none, 0⟩

/-- A frame accepted into escrow and not yet in a slot; `bad`: an uncorrectable error was found in it, with the
incident number (R139). -/
structure Waiting where
  desc : Desc
  bad : Option Nat
deriving DecidableEq, Repr

/-- Escrow on the Manager, and what a Worker or the Standby keeps of it (R129 to R138). -/
structure Esc where
  runOpen : Bool
  stopReq : Bool
  x : Nat
  ec : Nat
  prev : Option (Nat × Desc)
  lastClosed : Option (Nat × Nat)
  lastEnd : Option Nat
  ahead : List Waiting
  accepted : Bool
  slots : Tab SlotRec
  /-- Worker: the slot whose record is expected next, its x and the geometry of the slot before it. -/
  expect : Option (Nat × Nat × Nat × Nat)
  /-- Worker: the slot whose record that x rests on, and the slot an end-of-run record leaves unfilled (R134). -/
  basis : Option Nat
  endAt : Option Nat
  /-- The geometry as it stood when the run opened (R123). -/
  fixed : Option Geo
  /-- R137: the range of positions at which INHIBIT is set, and the incident behind it. -/
  inhRange : Option (Nat × Nat × Nat)
  /-- Module positions P of each station, as the Manager distributes them (R127). -/
  modPos : Tab Nat
  /-- Commits at the commit port, oldest first: the teller and its destination register, or none and the account of a
  mailbox; and the 64 bytes (R130). -/
  port : List (Option Nat × Nat × List Byte)
  /-- The words of the ESC registers as the Manager last distributed them, by offset (R140). -/
  shared : Tab Nat
deriving DecidableEq, Repr

/-- Escrow after reset. -/
def Esc.init : Esc :=
  { runOpen := false, stopReq := false, x := 0, ec := 0, prev := none, lastClosed := none, lastEnd := none,
    ahead := [], accepted := false, slots := [], expect := none, basis := none, endAt := none, fixed := none, inhRange := none, modPos := [], port := [], shared := [] }

/-- Position: counts, estimator and published WPOS in units of 2⁻⁴⁰ line (R37, R41, R45, R46). -/
structure Posn where
  /-- Signed counts of the encoder inputs (R37). -/
  count : Tab Int
  /-- The step an input's interpolator holds under an amplitude fault (R36). -/
  ampFault : Tab (Option Nat)
  /-- Raw position between two counts, and the teller cycles since the last count (R37 step 2). -/
  extrap : Int
  since : Nat
  /-- Offset added to the own count: 0 on the first Manager, OFS after a takeover (R45). -/
  ofs : Int
  ofsHist : List Int
  est : Int
  vel : Int
  stepRem : Int
  /-- Published WPOS. -/
  out : Nat
  /-- Last beacon taken: SEQ, pred, VEL and the teller cycle it arrived in (R42). -/
  last : Option (Nat × Int × Nat × Nat)
  /-- The beacons taken before it, the latest first: their second copies may still come (R42). -/
  earlier : List (Nat × Int × Nat × Nat)
  /-- A direction B copy that waits for the end of its cycle, since direction A's goes before it, with that cycle
  (R42). -/
  copyB : Option (Beacon × Nat)
  /-- SEQ of the node's own beacon generator (R40). -/
  bcnSeq : Nat
  /-- Deepest reverse travel already added to TIM_REVEXC. -/
  revDeep : Int
  /-- INHIBIT from reverse motion (own or from beacons) and from the TIM escalation (R46, R57). -/
  inhRev : Bool
  inhEsc : Bool
  /-- High words captured by R56: WPOS, HWM, wall time; and the captured date, time and nanoseconds. -/
  capWpos : Nat
  capHwm : Nat
  capWall : Nat
  capDate : Nat × Nat × Nat
  capAcc : Nat
deriving DecidableEq, Repr

/-- Position after reset: line 0 (R38). DESIGN CHOICE (log entry 65). -/
def Posn.init : Posn :=
  { count := [], ampFault := [], extrap := 0, since := 0, ofs := 0, ofsHist := [], est := 0, vel := 0, stepRem := 0, out := 0,
    last := none, earlier := [], copyB := none, bcnSeq := 0, revDeep := 0, inhRev := false, inhEsc := false, capWpos := 0, capHwm := 0,
    capWall := 0, capDate := (0, 0, 0), capAcc := 0 }

/-- Time: teller cycles since power-on, wall time in seconds, nanoseconds and quarter nanoseconds, the offset PTP is
slewing away, the run of good Sync intervals and the seconds the RTC counts (R49, R353); the cycles of the last
accepted commit and of the last wrap that set WRAP (R54); the data set of the best grandmaster announced, and the half of
its identity captured by a read (R352, R371); the number of the clock's next request. -/
structure Time where
  cycles : Nat
  sec : Nat
  ns : Nat
  quarter : Nat
  slew : Int
  goodSyncs : Nat
  rtcSec : Nat
  commitAt : Option Nat
  wrapAt : Option Nat
  ptpBest : Option Nat
  capGm : Nat
  ptpSeq : Nat
deriving DecidableEq, Repr

/-- Time after power-on: wall time counts from 0 (R49). DESIGN CHOICE (log entry 65). -/
def Time.init : Time := ⟨0, 0, 0, 0, 0, 0, 0, none, none, none, 0, 0⟩

/-- An effect bound for the host: it waits on the Manager for the Standby's ACKSEQ (R321). -/
inductive HostItem
  /-- An event record written at a host address. -/
  | record (acct addr : Nat) (r : EventRec)
  /-- The reply words of an account's mailbox. -/
  | reply (acct : Nat) (words : List Nat)
deriving DecidableEq, Repr

/-- What leaves the node. The list of these is the model's own record of the node's outputs.
DESIGN CHOICE (log entry 62). -/
inductive Out
  /-- A ring frame on direction `d`, 0 A or 1 B. -/
  | ring (d : Nat) (f : RingFrame)
  /-- Bytes of an event record written to host memory. -/
  | hostRecord (addr : Nat) (r : EventRec)
  /-- An MSI-X message. -/
  | msix (vec : Nat)
  /-- A beat, command or word of another interface: a tag, an address and data. -/
  | port (tag : String) (unit : Nat) (words : List Nat)
deriving DecidableEq, Repr

/-- The ring side of the node: per direction the next LSEQ and the frames not acknowledged, the next LSEQ expected and
whether the frame expected has come with a wrong CRC, failures of the oldest frame, and frames carried without a
retransmission (R357, R358). -/
structure Link where
  nextOut : Nat
  unacked : List RingFrame
  nextIn : Nat
  nakked : Bool
  failures : Nat
  good : Nat
  sent : Nat
deriving DecidableEq, Repr

/-- A ring link after reset. DESIGN CHOICE (log entry 65). -/
def Link.init : Link := ⟨0, [], 0, false, 0, 0, 0⟩

/-- A node as discovery knows it (R362): its serial, strap, role and port map, whether it is present, its links along A
from this node, and the delays of its outgoing links in ps. -/
structure Peer where
  serial : Nat
  strap : Nat
  role : Nat
  portmap : Nat
  present : Bool
  hops : Nat
  dlyA : Nat
  dlyB : Nat
deriving DecidableEq, Repr

/-- An unknown node. -/
def Peer.none : Peer := ⟨0, 0, 0, 0, false, 0, 0, 0⟩

/-- The operands of a shadowed instruction as the Standby's teller reached it: sub-opcode, gs, gt, the teller's account, and
what the instruction reads in data memory: a submission's word and predecessor, and 64 bytes. -/
structure ShadowOp where
  sub : Nat
  gs : Nat
  gt : Nat
  acct : Nat
  word : Nat
  pred : Nat
  body : List Byte
deriving DecidableEq, Repr

/-- A mirror record whose effect waits for its turn, with the operands of its instruction once the Standby's teller has
reached it. -/
structure Todo where
  r : MirRec
  op : Option ShadowOp
deriving DecidableEq, Repr

/-- A settlement of a mirrored SETTLE whose ORDER_SETTLED has not been mirrored: account, book and result. -/
structure SettleDue where
  acct : Nat
  book : Nat
  result : Nat
deriving DecidableEq, Repr

/-- The Manager–Standby pair (R320 to R329). -/
structure Mirror where
  /-- Next MSEQ to send, and the last 4,096 records sent. -/
  next : Nat
  sent : List MirRec
  /-- MSEQ of an ORDER_SETTLED's EVENT record not yet posted, and of the SETTLE behind it (R321). -/
  settles : List (Nat × Nat)
  /-- The teller cycle in which the last MIRACK came. -/
  ackAt : Nat
  /-- Standby: records in MSEQ order whose effect on ledger and escrow has not taken place; settlements without their
  ORDER_SETTLED; frames that a takeover closed before their COMMIT was known. -/
  todo : List Todo
  due : List SettleDue
  early : List Nat
  /-- Host effects that wait for ACKSEQ. -/
  held : List (Nat × HostItem)
  /-- Host effects applied from EVENT records above LASTEVENT, kept for a takeover (Standby). -/
  shadowHost : List (Nat × HostItem)
  /-- HOST_OP replies not yet confirmed posted (Standby). -/
  openReplies : List (Nat × Nat × Nat)
  /-- Standby: the snapshot has been received whole. -/
  snapshot : Bool
  /-- The next MSEQ the Standby expects, and records received ahead of it. -/
  expect : Nat
  ahead : List MirRec
  /-- Loss probe in progress: answers collected (a later beacon seen, a matching answer, the Manager answered). -/
  probing : Bool
  probeOk : Bool
  probeLater : Bool
  probeMgr : Bool
  /-- A takeover's enable swap is in progress. -/
  swapping : Bool
  /-- An agreed or requested swap: own SWAPREQ SEQ and the teller cycle it was sent in, the boundary SEQ once agreed, the
  SWAPMARK's MSEQ. -/
  swapSeq : Option Nat
  swapAt : Nat
  boundary : Option Nat
  markSeq : Option Nat
  /-- Last Manager beacon SEQ seen, and the number of the node that is Manager (N0 until a takeover or swap). -/
  lastBeacon : Nat
  mgrNode : Nat
deriving DecidableEq, Repr

/-- The pair's state after reset. DESIGN CHOICE (log entry 65). -/
def Mirror.init : Mirror :=
  { next := 0, sent := [], settles := [], ackAt := 0, todo := [], due := [], early := [], held := [], shadowHost := [], openReplies := [], snapshot := false, expect := 0,
    ahead := [], probing := false, probeOk := false, probeLater := false, probeMgr := false, swapping := false,
    swapSeq := none, swapAt := 0, boundary := none, markSeq := none, lastBeacon := 0, mgrNode := 0 }

/-- An audit an incident waits for: its source, the audit's code (0: still to be requested), and whether AUD holds it
(R302, R310). -/
structure Want where
  src : Nat
  code : Nat
  asked : Bool
deriving DecidableEq, Repr

/-- The open incident of a block (R306 to R312): its source set, the sources that took an escalation, the audits
not passed yet, and whether one of this round has failed. -/
structure Incident where
  srcs : List Nat
  escd : List Nat
  audits : List Want
  failed : Bool
deriving DecidableEq, Repr

/-- No incident. -/
def Incident.none : Incident := ⟨[], [], [], false⟩

/-- A partner interface's tally of violations (R331): the teller cycle of its last record, the count since, and the account
of its records. -/
structure Viol where
  lastAt : Option Nat
  count : Nat
  acct : Nat
  en : Bool
deriving DecidableEq, Repr

/-- An interface with no violation yet. -/
def Viol.init : Viol := ⟨none, 0, 0, false⟩

/-- Power and reset of the node beside its registers: DORMANT_N low, the two phases of Dormant (beacons stopped,
asleep), VDD_DRV below 1.5 V, the drive die in reset or power-up, the drive link up, the management cores held in reset
for want of a reference, a thermal shutdown in progress, the straps as sampled, whether the logic die is held in
reset by a supply drop, and levels of the fault pair read back that disagree with the driven ones (R315, R317, R318,
R381 to R392), whether the host link is down (R369), and the drive
die's own heartbeat-loss flag, not yet read by the logic die (R15). -/
structure Pwr where
  dormantLow : Bool
  bcnStopped : Bool
  asleep : Bool
  drvClamped : Bool
  drvReset : Bool
  linkUp : Bool
  coresHeld : Bool
  thermalShut : Bool
  straps : Straps
  held : Bool
  pin : Option (Bool × Bool)
  hostDown : Bool
  hbLost : Bool
deriving DecidableEq, Repr

/-- Power state right after power-on reset release: the drive die is in reset and its link is down (R332, FLT_PIN). -/
def Pwr.init : Pwr :=
  { dormantLow := false, bcnStopped := false, asleep := false, drvClamped := false, drvReset := true, linkUp := false,
    coresHeld := false, thermalShut := false, straps := ⟨0, false, 0⟩, held := false, pin := none,
    hostDown := false, hbLost := false }

/-- Reasons a run of the model stops. The model stops for none of them at present: every command completes. -/
inductive Fault
  /-- Raised by nobody: kept so that the type is inhabited. Safe. -/
  | never
deriving DecidableEq, Repr

/-- Why a command is refused. -/
inductive Refusal
  /-- The command has no meaning in the model yet; raised by its arm of the dispatch. Safe. -/
  | notModelled (mnemonic : String)
deriving DecidableEq, Repr

/-- The state of the node. DESIGN CHOICE (log entry 1). -/
structure State where
  /-- Every register field, keyed by `Field.key`; an unlisted field holds its reset value. -/
  regs : Tab Nat
  tellers : Tab Teller
  /-- Program memory and data memory, by byte address (R62). -/
  pm : Memory
  dm : Memory
  /-- Words of program and data memory with an error: 1 correctable, 2 uncorrectable (R62). -/
  pmErr : Tab Nat
  dmErr : Tab Nat
  cmps : Tab Cmp
  armSeq : Nat
  stream : List Act
  /-- The WRR writes that took effect in the present teller cycle: teller, offset and word (R87). -/
  wrrNow : List (Nat × Nat × Nat)
  orders : Tab (Option Order)
  books : Tab Book
  locks : Tab Lock
  esc : Esc
  pos : Posn
  time : Time
  /-- Event records held on chip, per account (R345); accounts with an open moderation interval and whether a record
  waits for its end (R346). -/
  held : Tab (List EventRec)
  modOpen : Tab Bool
  modPend : Tab Bool
  incidents : Tab Incident
  viols : Tab Viol
  links : Tab Link
  peers : Tab Peer
  mirror : Mirror
  /-- Customer endpoints claimed: local number ↦ teller + 1 (R77); messages queued for them (R361). -/
  claims : Tab Nat
  inbox : List (Nat × Msg)
  /-- Messages of this node's endpoints that have been neither refused nor reported: source and destination (R361). -/
  posted : List (Nat × Nat)
  /-- Mailbox words, replies, held bodies and the commands captured at GO (code, words), per account (R336 to R339); the
  account whose LOAD runs (R368). -/
  mbw : Tab Nat
  mbr : Tab Nat
  bodies : Tab (List Byte)
  mbCmd : Tab (List Nat)
  loading : Option Nat
  pwr : Pwr
  scan : Tab Scan
  refs : RefSup
  head : Tab Head
  expo : Tab Expo
  store : Store
  dma : Tab Dma
  /-- On-package DRAM, by byte address (R216 space 0). -/
  dram : Memory
  plant : Plant
  /-- Key-slot hashes burned in the fuses, slots 1 to 4, and the ROLLBACK of the running firmware (R365 to R367). -/
  keys : Tab Nat
  fwRollback : Nat
  /-- The nodes whose HELLOs have been seen (R362). -/
  hellos : List Peer
  /-- Delay measurement of each outgoing link: samples, and their sum in ps (R363). -/
  dly : Tab (Nat × Nat)
  /-- Uncorrectable codewords of each Ethernet port: the second they fell in, and their number (R369). -/
  fec : Tab (Nat × Nat)
  /-- The instruction of the test access port (R389): 0 BYPASS, 1 IDCODE, 2 SAMPLE/PRELOAD, 3 EXTEST, 4 EXTEST_PULSE,
  5 EXTEST_TRAIN. -/
  tap : Nat
  /-- How the boot code reads the flash: mode and SCK in MHz (R387). -/
  flash : Nat × Nat
  /-- The teller images of the boot directory that the firmware has yet to load (R365). -/
  images : List (List Byte)
  /-- The counter of free values: the model's own field, not the manual's. -/
  freeCtr : Nat
  /-- What has left the node, oldest first: the model's own record. -/
  out : List Out
  /-- The commands that wait, first in, first out. -/
  pending : List Instr
deriving DecidableEq, Repr

/-- The node right after power-on reset: every register at its reset value, both memories clear, no command waiting.
DESIGN CHOICE (log entry 7). -/
def State.reset : State :=
  { regs := [], tellers := [], pm := [], dm := [], pmErr := [], dmErr := [], cmps := [], armSeq := 0, stream := [], wrrNow := [],
    orders := [], books := [], locks := [], esc := Esc.init, pos := Posn.init, time := Time.init, held := [],
    modOpen := [], modPend := [], incidents := [], viols := [], links := [], peers := [], mirror := Mirror.init,
    claims := [], inbox := [], posted := [], mbw := [], mbr := [], bodies := [], mbCmd := [], loading := none,
    pwr := Pwr.init,
    scan := [], refs := RefSup.init,
    head := [], expo := [], store := Store.init,
    dma := [], dram := [],
    plant := Plant.init,
    keys := [], fwRollback := 0, hellos := [], dly := [], fec := [], tap := 1, flash := (0, 25), images := [],
    freeCtr := 0, out := [], pending := [] }

end Sys2Proof.Machine
end

