-- ==== Sys2Proof/Machine/Ops.lean ====
section
/-! DEFINITION. The named operations every block uses: register fields, tellers, published position and wall time,
what leaves the node, event records (R342 to R346), the mirror stream (R320, R321), the fault scheme (R306 to R316)
and traps (R88, R89). -/

namespace Sys2Proof.Machine

/-! Register fields. -/

/-- The value of a field. DESIGN CHOICE (log entry 9). -/
def State.fld (s : State) (f : Field) : Nat := tabGet f.reset s.regs f.key

/-- The field set to `v`, cut to its width. DESIGN CHOICE (log entry 9). -/
def State.setFld (s : State) (f : Field) (v : Nat) : State :=
  { s with regs := tabSet f.reset s.regs f.key (v % 2 ^ f.width) }

/-- A one-bit field as a truth value. -/
def State.flag (s : State) (f : Field) : Bool := s.fld f = 1

/-- A one-bit field set to 1. -/
def State.setOn (s : State) (f : Field) : State := s.setFld f 1

/-- A one-bit field cleared. -/
def State.setOff (s : State) (f : Field) : State := s.setFld f 0

/-- A one-bit field set from a truth value. -/
def State.setBool (s : State) (f : Field) (b : Bool) : State := s.setFld f (if b then 1 else 0)

/-- A saturating counter field incremented. -/
def State.inc (s : State) (f : Field) : State := s.setFld f (satInc f.width (s.fld f))

/-- A saturating counter field increased by `n`. -/
def State.incBy (s : State) (f : Field) (n : Nat) : State := s.setFld f (satAdd f.width (s.fld f) n)

/-- A wrapping counter field incremented. -/
def State.incWrap (s : State) (f : Field) : State := s.setFld f (s.fld f + 1)

/-- Bit `i` of a field. -/
def State.fbit (s : State) (f : Field) (i : Nat) : Bool := (s.fld f).testBit i

/-- Bit `i` of a field set. -/
def State.setFbit (s : State) (f : Field) (i : Nat) : State := s.setFld f (s.fld f ||| 2 ^ i)

/-- Bit `i` of a field cleared. -/
def State.clrFbit (s : State) (f : Field) (i : Nat) : State :=
  s.setFld f (s.fld f ^^^ (s.fld f &&& 2 ^ i))

/-! Roles (R16 to R18): GLB_ROLE.ROLE. -/

def State.role (s : State) : Nat := s.fld GLB_ROLE_ROLE
def State.isManager (s : State) : Bool := s.role = 1
def State.isStandby (s : State) : Bool := s.role = 2
def State.isWorker (s : State) : Bool := s.role = 3
/-- The node's number (GLB_ROLE.NODE). -/
def State.node (s : State) : Nat := s.fld GLB_ROLE_NODE

/-- Whether account `a` is a vault account (R334). -/
def State.isVault (s : State) (a : Nat) : Bool :=
  if a < 32 then s.fbit (VLT_MEMBERS_ACCTS 0) a else if a < 64 then s.fbit (VLT_MEMBERS_ACCTS 1) (a - 32) else false

/-- The logic die is held in reset or its clocks are stopped: power-on reset, thermal shutdown, Dormant (R280, R382,
R390). DESIGN CHOICE (log entry 3). -/
def State.isOff (s : State) : Bool := s.pwr.held || s.pwr.thermalShut || s.pwr.asleep

/-- The firmware runs: it has passed boot, and its cores are neither held nor asleep (R365, R383, R390).
DESIGN CHOICE (log entry 63). -/
def State.fwRuns (s : State) : Bool :=
  (s.fld ACC_BOOT_STAT = 1 || s.fld ACC_BOOT_STAT = 2) && ! s.pwr.coresHeld && ! s.pwr.asleep

/-- Something leaves the node. DESIGN CHOICE (log entry 62). -/
def State.emit (s : State) (o : Out) : State := { s with out := s.out ++ [o] }

/-! Accesses discarded, blocks held in reset, and outputs a role keeps from the balls (R18, R19, R26). -/

/-- An access discarded by a rule that names GLB_BADACC (R26, R28). DEDUCED (log entry 10). -/
def State.badAcc (s : State) : State := s.inc GLB_BADACC_COUNT

/-- The block of an offset is held in reset in the node's role (R19). An Unconfirmed node, for which the table has no
column, holds none. DEDUCED (log entry 54), DESIGN CHOICE (log entry 66). -/
def State.heldInReset (s : State) (a : Nat) : Bool :=
  ((s.role = 1 || s.role = 2 || s.role = 4) && ((0x508100 ≤ a && a < 0x510000) || (0x600000 ≤ a && a < 0x700000)))
    || (s.isWorker && 0xA80000 ≤ a && a < 0xAC0000)

/-- A command that writes the register at `a`: discarded and counted while its block is held in reset (R19). -/
def State.atReg (s : State) (a : Nat) (f : State → State) : State := if s.heldInReset a then s.badAcc else f s

/-- An event of the block at `a`: nothing happens in a block held in reset (R19). -/
def State.inBlock (s : State) (a : Nat) (f : State → State) : State := if s.heldInReset a then s else f s

/-- An output of a ball. On the Standby it is shadow, and a Retired node drives nothing (R18, R19).
DESIGN CHOICE (log entry 66). -/
def State.ball (s : State) (o : Out) : State := if s.isStandby || s.role = 4 then s else s.emit o

/-! Tellers. -/

def State.teller (s : State) (t : Nat) : Teller := tabGet Teller.init s.tellers t

def State.setTeller (s : State) (t : Nat) (x : Teller) : State :=
  { s with tellers := tabSet Teller.init s.tellers t x }

def State.mapTeller (s : State) (t : Nat) (f : Teller → Teller) : State := s.setTeller t (f (s.teller t))

/-- A general register; g0 reads as 0 (R60). -/
def Teller.getG (x : Teller) (r : Nat) : Word := if r = 0 then 0 else tabGet 0 x.g r

/-- A general register written; a write to g0 is discarded (R60). -/
def Teller.setG (x : Teller) (r : Nat) (v : Word) : Teller :=
  if r = 0 then x else { x with g := tabSet 0 x.g r v }

def Teller.getP (x : Teller) (r : Nat) : Pos := tabGet 0 x.p r
def Teller.setP (x : Teller) (r : Nat) (v : Pos) : Teller := { x with p := tabSet 0 x.p r v }
def Teller.getQ (x : Teller) (r : Nat) : Bool := tabGet false x.q r
def Teller.setQ (x : Teller) (r : Nat) (v : Bool) : Teller := { x with q := tabSet false x.q r v }

/-- The instruction has executed: PC at the next one, CYC advanced by its cycles. DEDUCED (log entry 11). -/
def Teller.adv (x : Teller) (cycles : Nat) : Teller :=
  { x with pc := x.pc + 4, cyc := x.cyc + BitVec.ofNat 32 cycles }

/-- A jump or taken branch: 4 cycles (R63). -/
def Teller.jump (x : Teller) (target : Word) : Teller := { x with pc := target, cyc := x.cyc + 4 }

/-- Halted or trap-halted: what the TLR registers call halted (R95). -/
def Teller.isHalted (x : Teller) : Bool := x.st = .halted ∨ x.st = .trapHalted

/-- TEV bits of R79. -/
def tevMbx : Nat := 16
def tevDma : Nat := 17
def tevEsc : Nat := 18
def tevFlt : Nat := 19
def tevLck : Nat := 20
def tevCld : Nat := 21
def tevRng : Nat := 22
def tevAud : Nat := 23
def tevSweep : Nat := 24

/-- A TEV bit set in a teller; a bit already set stays set (R80). -/
def State.setTev (s : State) (t bit : Nat) : State :=
  s.mapTeller t fun x => { x with tev := x.tev ||| BitVec.ofNat 32 (2 ^ bit) }

/-- A TEV bit set in every teller named by a mask, from teller `n - 1` down. -/
def State.setTevMask (s : State) (mask bit : Nat) : Nat → State
  | 0 => s
  | n + 1 => (if mask.testBit n then s.setTev n bit else s).setTevMask mask bit n

/-! Outputs and free values. -/

/-- The next free value below `m`, and the state with the counter advanced. DESIGN CHOICE (log entry 5). -/
def State.free (s : State) (m : Nat) : Nat × State :=
  (Config.freeValue s.freeCtr % m, { s with freeCtr := s.freeCtr + 1 })

/-! Position and time. -/

/-- One line in the internal unit of 2⁻⁴⁰ line. -/
def lineU : Nat := 2 ^ 40

/-- The published WPOS in the format of R8. -/
def State.wpos (s : State) : Nat := s.pos.out / 2 ^ 24 % 2 ^ 64

/-- The whole line of the published WPOS. -/
def State.wline (s : State) : Nat := s.wpos / 2 ^ 16

/-- Wall time in TAI nanoseconds since 2000 (R49). -/
def State.wall (s : State) : Nat := s.time.sec * 1000000000 + s.time.ns

/-- TIM_STATUS.INHIBIT. -/
def State.inhibit (s : State) : Bool := s.flag TIM_STATUS_INHIBIT

/-! MSI-X (R346, R347). A masked vector sets its pending bit instead of sending. -/

def State.msix (s : State) (vec : Nat) : State :=
  if s.flag (MSIX_CTRL_MASK vec) then s.setFbit (MSIX_PBA_PENDING (vec / 32)) (vec % 32) else s.emit (.msix vec)

/-- A record has been written to its ring: one message now, or at the end of the interval (R346). -/
def State.recordWritten (s : State) (a : Nat) : State :=
  if s.fld (EVQ_MOD_MOD a) = 0 then s.msix (s.fld (EVQ_CFG_VEC a))
  else if tabGet false s.modOpen a then { s with modPend := tabSet false s.modPend a true }
  else { s.msix (s.fld (EVQ_CFG_VEC a)) with modOpen := tabSet false s.modOpen a true }

/-- DONE and TIMEOUT of a mailbox each send a message with MBIRQ = 1 (R337). -/
def State.mbIrq (s : State) (a : Nat) : State :=
  if s.flag (ACC_CFG_MBIRQ a) then s.msix (s.fld (ACC_CFG_MBVEC a)) else s

/-- The four reply words of an account's page, DONE set and GO cleared (R337). -/
def setReply (m : Tab Nat) (a : Nat) : Nat → List Nat → Tab Nat
  | _, [] => m
  | k, w :: ws => setReply (tabSet 0 m (a * 4 + k) w) a (k + 1) ws

/-- A host-bound effect takes place. -/
def State.hostDo (s : State) : HostItem → State
  | .record a addr r => (s.emit (.hostRecord addr r)).recordWritten a
  | .reply a ws =>
    if s.flag (MBCTL_GO a) then
      ((({ s with mbr := setReply s.mbr a 0 ws }.setOn (MBCTL_DONE a)).setOff (MBCTL_GO a))).mbIrq a
    else s

/-! The ring. -/

def State.link (s : State) (d : Nat) : Link := tabGet Link.init s.links d
def State.setLink (s : State) (d : Nat) (l : Link) : State := { s with links := tabSet Link.init s.links d l }

/-- SRC of the node's own frames: 0xFF before assignment (R354). -/
def State.ringSrc (s : State) : Nat := if s.role = 0 then 0xFF else s.node

/-- The ring ports run (R365, R371). -/
def State.ringRuns (s : State) : Bool := s.flag RNG_CTL_EN && s.fld ACC_BOOT_STAT ≠ 3

/-- The direction a frame for `d` leaves on: a link declared down and not up again turns it onto the other (R358). -/
def State.ringDir (s : State) (d : Nat) : Nat :=
  let dead : Bool := if d = 0 then s.flag RNG_STATUS_WRAPA && ! s.flag RNG_STATUS_UPA
    else s.flag RNG_STATUS_WRAPB && ! s.flag RNG_STATUS_UPB
  if dead then 1 - d else d

/-- A frame leaves for direction `d` with its link's next LSEQ, kept until it is acknowledged (R357, R358). -/
def State.frameOut (s : State) (d : Nat) (f : RingFrame) : State :=
  if ¬ s.ringRuns then s
  else
    let d' := s.ringDir d
    let l := s.link d'
    let g := { f with lseq := l.nextOut, wrapped := f.wrapped || d' ≠ d }
    (s.setLink d' { l with nextOut := (l.nextOut + 1) % 0xFFFF, unacked := l.unacked ++ [g], sent := l.sent + 1 }).emit
      (.ring d' g)

/-- A frame leaves for direction `d` unnumbered, and is not retransmitted (R354, R357, R358). -/
def State.rawOut (s : State) (d : Nat) (f : RingFrame) : State :=
  if ¬ s.ringRuns then s else s.emit (.ring (s.ringDir d) { f with lseq := 0xFFFF, wrapped := f.wrapped || s.ringDir d ≠ d })

/-- A frame of the node's own. -/
def State.ownFrame (s : State) (dst : Option Nat) (m : RingMsg) : RingFrame :=
  ⟨dst, s.ringSrc, s.fld GLB_TERM_TERM, 0, false, 0, m⟩

/-- An own frame sent on one direction. -/
def State.ringSend1 (s : State) (d : Nat) (dst : Option Nat) (m : RingMsg) : State := s.frameOut d (s.ownFrame dst m)

/-- A frame sent on both ring directions. -/
def State.ringBoth (s : State) (dst : Option Nat) (m : RingMsg) : State := (s.ringSend1 0 dst m).ringSend1 1 dst m

/-- A beacon on both directions (R40, R357). -/
def State.beaconOut (s : State) (b : Beacon) : State :=
  (s.rawOut 0 (s.ownFrame none (.beacon b))).rawOut 1 (s.ownFrame none (.beacon b))

/-- LINKCTL to the neighbour on direction `d` (R355, R357). -/
def State.linkctlOut (s : State) (d lseq : Nat) (nak : Bool) : State :=
  if ¬ s.ringRuns then s else s.emit (.ring d { s.ownFrame none (.linkctl lseq nak) with lseq := 0xFFFF })

/-- The endpoint address of the Manager's node management (R2, R24): where a unicast to the Manager goes. -/
def State.mgrEp (s : State) : Nat := s.mirror.mgrNode * 0x1000 + 0x58F

/-- The number of the node that is, or would be, the Standby: N1 beside N0 (R17). -/
def State.stbyNode (s : State) : Nat := 1 - s.mirror.mgrNode

/-- The endpoint address of the Standby's node management. -/
def State.stbyEp (s : State) : Nat := s.stbyNode * 0x1000 + 0x58F

/-- The direction with fewer links to node `n` around the ring; ring order along A is N0, N1, ... (R362). -/
def State.shorterDir (s : State) (n : Nat) : Nat :=
  let nodes := s.fld RNG_STATUS_NODES + 1
  let alongA := (n + nodes - s.node % nodes) % nodes
  if alongA ≤ nodes - alongA then 0 else 1

/-- A unicast on the shorter direction to the node of its endpoint (R355). -/
def State.ringUni (s : State) (ep : Nat) (m : RingMsg) : State := s.ringSend1 (s.shorterDir (ep / 4096)) (some ep) m

/-! The mirror stream (R320, R321). -/

/-- Whether the Manager has a confirmed Standby to mirror to. -/
def State.hasStandby (s : State) : Bool := s.isManager && (tabGet Peer.none s.peers s.stbyNode).present

/-- The Manager sends one mirror record and keeps its last 4,096. -/
def State.mirrorSend (s : State) (teller status inst aux : Nat) (d : MirData) : State :=
  if s.hasStandby then
    let r : MirRec := ⟨s.mirror.next, s.fld GLB_TERM_TERM, teller, status, inst, aux, d⟩
    let kept := if s.mirror.sent.length < 4096 then s.mirror.sent else s.mirror.sent.drop 1
    (({ s with mirror := { s.mirror with next := (s.mirror.next + 1) % 2 ^ 32, sent := kept ++ [r] } }.setFld
      FLT_MSEQ_MSEQ r.mseq).ringBoth (some s.stbyEp) (.mirror r))
  else s

/-- The MSEQ a host-bound effect waits for: of an event record that of its own EVENT, of a reply the latest. An EVENT no longer
among the last 4,096 records lies just before them. -/
def State.itemSeq (s : State) : HostItem → Nat
  | .record _ _ r =>
    match s.mirror.sent.find? fun q => q.isEvent r with
    | some q => q.mseq
    | none => (s.mirror.next + 2 ^ 32 - 4097) % 2 ^ 32
  | .reply _ _ => s.fld FLT_MSEQ_MSEQ

/-- A host-bound effect: at once, or on a Manager with a Standby only once ACKSEQ has reached the MSEQ of its mirror
record (R321). -/
def State.hostOut (s : State) (i : HostItem) : State :=
  if s.hasStandby then
    { s with mirror := { s.mirror with held := s.mirror.held ++ [(s.itemSeq i, i)] } }
  else s.hostDo i

/-! Event queues (R342 to R346). -/

/-- Records that fit an account's ring: N − (TAIL − HEAD) before the held ones. -/
def State.evqSize (s : State) (a : Nat) : Nat := 2 ^ s.fld (EVQ_CFG_LOG2N a)

def State.heldOf (s : State) (a : Nat) : List EventRec := tabGet [] s.held a

/-- Records written to the ring and not yet consumed: TAIL − HEAD less the held ones. -/
def State.evqUsed (s : State) (a : Nat) : Nat :=
  (s.fld (EVQ_TAIL_TAIL a) + 2 ^ 32 - s.fld (EVQ_HEAD_HEAD a)) % 2 ^ 32 - (s.heldOf a).length

def State.evqFree (s : State) (a : Nat) : Nat := s.evqSize a - s.evqUsed a

/-- PHASE = 1 − ((SEQ >> LOG2N) mod 2) (R343). -/
def phaseOf (seq log2n : Nat) : Nat := 1 - seq / 2 ^ log2n % 2

/-- The host address of the ring place of a sequence number (R342). -/
def State.evqAddr (s : State) (a seq : Nat) : Nat :=
  s.fld (EVQ_BASEHI_BASE a) * 2 ^ 32 + s.fld (EVQ_BASELO_BASE a) + 32 * (seq % s.evqSize a)

/-- A record takes its ring place: the mirror record first, then the host write (R321, R345). -/
def State.writeRecord (s : State) (a : Nat) (r : EventRec) : State :=
  s.hostOut (.record a (s.evqAddr a r.seq) r)

def State.setHeld (s : State) (a : Nat) (l : List EventRec) : State :=
  { s with held := tabSet [] s.held a l }.setFld (EVQ_PEND_HELD a) l.length

/-- A record takes the next sequence number and is written, or held while the ring is full or the host link
down (R345, R369). -/
def State.appendRecord (s : State) (a : Nat) (mk : Nat → Nat → EventRec) : State :=
  let seq := s.fld (EVQ_TAIL_TAIL a)
  let r := mk seq (phaseOf seq (s.fld (EVQ_CFG_LOG2N a)))
  let full := s.evqFree a = 0 ∨ s.heldOf a ≠ [] ∨ s.pwr.hostDown
  let s1 := (s.setFld (EVQ_TAIL_TAIL a) (seq + 1)).mirrorSend 0xFF 0 0 a (.event r)
  if full then s1.setHeld a (s1.heldOf a ++ [r]) else s1.writeRecord a r

/-- The record a post makes (R11, R343). -/
def State.mkRecord (s : State) (a type detail sub incident wpos : Nat) (stby : Bool) (seq phase : Nat) : EventRec :=
  { type := type, account := a, seq := seq, wpos := wpos, wall := s.wall, detail := detail % 2 ^ 32,
    incident := incident, sub := sub, stby := stby, phase := phase }

/-- Places still free for records: the ring's free space beyond held records, and the 256 held places. -/
def State.evqRoom (s : State) (a : Nat) : Nat :=
  if s.heldOf a = [] ∧ ¬ s.pwr.hostDown then s.evqFree a + 256 else 256 - (s.heldOf a).length

/-- LOST of R344. -/
def evLost : Nat := 1

/-- A record posted to account `a`'s queue by hardware (R333, R345): counted in DROP while the queue is disabled, in
LOSTPEND while it does not fit, else appended behind the LOST record of a pending count. -/
def State.postAt (s : State) (a type detail sub incident wpos : Nat) (stby : Bool) : State :=
  if ¬ s.flag (EVQ_CFG_EN a) then s.inc (EVQ_DROP_DROP a)
  else
    let lost := s.fld (EVQ_PEND_LOSTPEND a)
    if s.evqRoom a < (if lost = 0 then 1 else 2) then s.inc (EVQ_PEND_LOSTPEND a)
    else
      let s1 := if lost = 0 then s
        else (s.appendRecord a (s.mkRecord a evLost lost 0 0 s.wpos stby)).setFld (EVQ_PEND_LOSTPEND a) 0
      s1.appendRecord a (s1.mkRecord a type detail sub incident wpos stby)

/-- A record of one of the node's own blocks: on the Standby it goes to FLT_STBYACCT, or is counted (R323).
DESIGN CHOICE (log entry 24). -/
def State.postW (s : State) (a type detail sub incident wpos : Nat) : State :=
  if s.isStandby then
    if s.flag FLT_STBYACCT_EN then s.postAt (s.fld FLT_STBYACCT_ACCT % 1024) type detail sub incident wpos true
    else s.inc FLT_STBYDROP_COUNT
  else s.postAt (a % 1024) type detail sub incident wpos false

/-- The same, at this node's published WPOS. -/
def State.post (s : State) (a type detail sub incident : Nat) : State :=
  s.postW a type detail sub incident s.wpos

/-- A record posted to an account register with an enable bit. -/
def State.postIf (s : State) (en acct : Field) (type detail sub incident : Nat) : State :=
  if s.flag en then s.post (s.fld acct) type detail sub incident else s

/-- A message of one of this node's endpoints leaves and has no answer yet (R361). DESIGN CHOICE (log entry 18). -/
def State.msgPosted (s : State) (src dst : Nat) : State := { s with posted := s.posted ++ [(src, dst)] }

/-- A message of an endpoint has its answer. DESIGN CHOICE (log entry 18). -/
def State.msgDone (s : State) (src dst : Nat) : State := { s with posted := s.posted.erase (src, dst) }

/-- MSG_FAIL at the source: to the account of the sending teller, or to the sending account (R361). -/
def State.msgFail (s : State) (src dst status : Nat) : State :=
  let l := src % 4096
  let d := status % 256 * 2 ^ 24 + dst % 2 ^ 17
  if l < 1024 then s.post l 7 d 0 0
  else if l < 1040 then s.post (s.fld (TLR_ACCT_ACCT (l - 1024))) 7 d 0 0
  else s

/-- Held records move to the ring while it has free space, in sequence order; `n` bounds the move. -/
def State.drainHeld (s : State) (a : Nat) : Nat → State
  | 0 => s
  | n + 1 =>
    match s.heldOf a with
    | [] => s
    | r :: rest => if s.evqFree a = 0 ∨ s.pwr.hostDown then s else ((s.setHeld a rest).writeRecord a r).drainHeld a n

/-! The fault scheme (R306 to R316). -/

/-- One block of the scheme: where its sticky bits, masks and grace period stand. Sources past 31 stand in the next
status word (DMA, GDR). DEDUCED (log entry 26). -/
def fstatOf (b src : Nat) : Field :=
  match b with
  | 0 => TIM_FSTAT_SRC | 1 => TLR_FSTAT_SRC | 2 => TAU_FSTAT_SRC | 3 => LDG_FSTAT_SRC | 4 => ESC_FSTAT_SRC
  | 5 => SCN_FSTAT_SRC | 6 => PLL_FSTAT_SRC | 7 => HLK_FSTAT_SRC | 8 => EXP_FSTAT_SRC | 9 => STO_FSTAT_SRC
  | 10 => MNT_FSTAT_SRC | 11 => DMA_FSTAT_SRC (src / 32) | 12 => MOT_FSTAT_SRC
  | 13 => if src < 32 then GDR_FSTATLO_CH else if src < 64 then GDR_FSTATHI_CH else GDR_FSTATX_CH
  | 14 => HVS_FSTAT_SRC | 15 => if src < 32 then FUS_FSTAT0_SRC else FUS_FSTAT1_SRC
  | 16 => if src < 32 then THM_FSTAT0_SRC else THM_FSTAT1_SRC | 17 => CLB_FSTAT_SRC | 18 => FLT_FSTAT_SRC
  | 19 => NET_FSTAT_SRC | 20 => PTP_FSTAT_SRC | 21 => RNG_FSTAT_SRC | 22 => PCH_FSTAT_SRC | _ => MBX_FSTAT_SRC

/-- The mask field of a source. -/
def fmaskOf (b src : Nat) : Field :=
  match b with
  | 0 => TIM_FMASK_SRC | 1 => TLR_FMASK_SRC | 2 => TAU_FMASK_SRC | 3 => LDG_FMASK_SRC | 4 => ESC_FMASK_SRC
  | 5 => SCN_FMASK_SRC | 6 => PLL_FMASK_SRC | 7 => HLK_FMASK_SRC | 8 => EXP_FMASK_SRC | 9 => STO_FMASK_SRC
  | 10 => MNT_FMASK_SRC | 11 => DMA_FMASK_SRC (src / 32) | 12 => MOT_FMASK_SRC
  | 13 => if src < 32 then GDR_FMASKLO_CH else if src < 64 then GDR_FMASKHI_CH else GDR_FMASKX_CH
  | 14 => HVS_FMASK_SRC | 15 => if src < 32 then FUS_FMASK0_SRC else FUS_FMASK1_SRC
  | 16 => if src < 32 then THM_FMASK0_SRC else THM_FMASK1_SRC | 17 => CLB_FMASK_SRC | 18 => FLT_FMASK_SRC
  | 19 => NET_FMASK_SRC | 20 => PTP_FMASK_SRC | 21 => RNG_FMASK_SRC | 22 => PCH_FMASK_SRC | _ => MBX_FMASK_SRC

/-- A source's sticky bit. -/
def State.srcSet (s : State) (b src : Nat) : Bool := s.fbit (fstatOf b src) (src % 32)

/-- Whether a source is masked. -/
def State.srcMasked (s : State) (b src : Nat) : Bool := s.fbit (fmaskOf b src) (src % 32)

/-- FLT_BLKSTATb.STATE (R306): 0 NORMAL, 1 GRACE, 2 AUDIT, 3 CLEARING, 4 LASTING. -/
def State.blk (s : State) (b : Nat) : Nat := s.fld (FLT_BLKSTAT_STATE b)

def State.setBlk (s : State) (b v : Nat) : State := s.setFld (FLT_BLKSTAT_STATE b) v

def State.incident (s : State) (b : Nat) : Incident := tabGet Incident.none s.incidents b

def State.setIncident (s : State) (b : Nat) (i : Incident) : State :=
  { s with incidents := tabSet Incident.none s.incidents b i }

/-- A new incident number: the node number over FLT_INCNEXT's count, which runs 1 to 2,047 (R313). -/
def State.newIncident (s : State) : Nat × State :=
  let n := s.fld FLT_INCNEXT_VALUE % 2048
  let n' := if n ≥ 2047 then 1 else n + 1
  (s.node * 2048 + n, s.setFld FLT_INCNEXT_VALUE (s.node * 2048 + n'))

/-- FAULT_OPEN, FAULT_LASTING and FAULT_CLEARED go to the account of FLT_ROUTEb (R307, R310, R311). -/
def State.postFault (s : State) (b type detail : Nat) : State :=
  if s.flag (FLT_ROUTE_EN b) then
    s.post (s.fld (FLT_ROUTE_ACCT b)) type detail 0 (s.fld (FLT_BLKINC_INCIDENT b))
  else s

/-- A block opens an incident: number (one handed up by a lower level if there is one, R316), source set, TEV.FLT,
FAULT_OPEN, GRACE (R307). -/
def State.openIncident (s : State) (b src : Nat) (given : Option Nat) : State :=
  let (n, s1) := match given with
    | some n => (n, s)
    | none => s.newIncident
  let s2 := ((s1.setFld (FLT_BLKINC_INCIDENT b) n).setIncident b { Incident.none with srcs := [src] }).setTevMask
    (s.fld (FLT_ROUTE_TELLERS b)) tevFlt 16
  (s2.postFault b 0x350 (b * 65536 + src)).setBlk b 1

/-- A source that raises no event while DORMANT_N is low: BCNLOSS and POSLOST of TIM, LINKA, LINKB and NODELOST of RNG
(R390). -/
def State.dormantMute (s : State) (b src : Nat) : Bool :=
  s.pwr.dormantLow && ((b = 0 && (src = 2 || src = 3)) || (b = 21 && src < 3))

/-- A source event (R307, R308). `given` is an incident number handed up by a lower level. -/
def State.raiseWith (s : State) (b src : Nat) (given : Option Nat) : State :=
  let s1 := s.setFbit (fstatOf b src) (src % 32)
  if s.dormantMute b src then s
  else if s.srcMasked b src then s1
  else
    let i := s.incident b
    if s.blk b = 0 then s1.openIncident b src given
    else if s.blk b = 1 ∨ s.blk b = 4 then s1.setIncident b { i with srcs := insertNat src i.srcs }
    else
      let w : List Want := if i.audits.contains ⟨src, 0, false⟩ then [] else [⟨src, 0, false⟩]
      (s1.setIncident b { i with srcs := insertNat src i.srcs, audits := i.audits ++ w }).setBlk b 2

/-- A source event that draws its own incident number. -/
def State.raise (s : State) (b src : Nat) : State := s.raiseWith b src none

/-- The incident number a block's event carries for what it caused: the block's open incident, or 0. -/
def State.incOf (s : State) (b : Nat) : Nat := if s.blk b = 0 then 0 else s.fld (FLT_BLKINC_INCIDENT b)

/-! Partner violations (R331): the first is reported at once when the interface's last record is at least 1 ms old;
later ones are counted and reported by the clock. -/

/-- PROTOCOL_VIOL of R344. -/
def evProtocolViol : Nat := 0x360

/-- An interface's last record is at least 1 ms old: 800,000 teller cycles. DESIGN CHOICE (log entry 25). -/
def State.violOld (s : State) (t : Nat) : Bool := t + 800000 ≤ s.time.cycles

/-- A violation of a partner (R331). DESIGN CHOICE (log entry 25). -/
def State.violation (s : State) (iface : Nat) (en : Bool) (acct : Nat) : State :=
  let v := tabGet Viol.init s.viols iface
  let old : Bool := match v.lastAt with
    | none => true
    | some t => s.violOld t
  if old ∧ v.count = 0 then
    let s1 := { s with viols := tabSet Viol.init s.viols iface ⟨some s.time.cycles, 0, acct, en⟩ }
    if en then s1.post acct evProtocolViol 1 0 0 else s1
  else { s with viols := tabSet Viol.init s.viols iface ⟨v.lastAt, satInc 16 v.count, acct, en⟩ }

/-- The violations an interface has counted are reported in one record, 1 ms after its previous record (R331).
DESIGN CHOICE (log entry 25). -/
def State.violDue (s : State) (iface : Nat) : State :=
  let v := tabGet Viol.init s.viols iface
  match v.lastAt with
  | some t =>
    if v.count ≠ 0 ∧ s.violOld t then
      let s1 := { s with viols := tabSet Viol.init s.viols iface ⟨some s.time.cycles, 0, v.acct, v.en⟩ }
      if v.en then s1.post v.acct evProtocolViol v.count 0 0 else s1
    else s
  | none => s

/-- Every interface whose counted violations are due. -/
def State.violsDue (s : State) : State := (tabKeys (fun _ v => v.count ≠ 0) s.viols).foldl State.violDue s

/-! Traps (R88, R89). -/

/-- The teller halts on a trap; its HALT source event follows (R89 step 3). -/
def State.trapHalt (s : State) (t : Nat) (epc : Word) : State :=
  (s.mapTeller t fun x => { x with st := .trapHalted, wait := .none, pc := epc }).raise 1 t

/-- Trap entry. `after`: the saved address is that of the next instruction (TRAP); cause and value as R88. -/
def State.trapWith (s : State) (t cause value : Nat) (after : Bool) : State :=
  let x := s.teller t
  let epc := if after then x.pc + 4 else x.pc
  let s1 := ((s.setFld (TLR_EPC_VALUE t) epc.toNat).setFld (TLR_CAUSE_VALUE t) cause).setFld (TLR_TVAL_VALUE t) value
  if x.tm ∨ ¬ s.flag (TLR_TVEC_EN t) then s1.trapHalt t epc
  else s1.mapTeller t fun x =>
    { x with
      tm := true, st := .running, wait := .none,
      pc := BitVec.ofNat 32 (s.fld (TLR_TVEC_ADDR t) * 4), cyc := x.cyc + 4 }

/-- Trap entry at the trapping instruction. -/
def State.trap (s : State) (t cause value : Nat) : State := s.trapWith t cause value false

end Sys2Proof.Machine
end

