-- ==== Sys2Proof/Machine/Flags.lean ====
section
/-! DEFINITION. What the integer and compare instructions compute: the results of R68, the predicates of R69 and the
branch conditions of R66. A predicate is a teller's only flag. -/

namespace Sys2Proof.Machine

/-! Integer results (R68). -/

/-- High 32 bits of the signed product. -/
def mulhS (a b : Word) : Word := BitVec.ofInt 32 (a.toInt * b.toInt / 2 ^ 32)

/-- High 32 bits of the unsigned product. -/
def mulhU (a b : Word) : Word := BitVec.ofNat 32 (a.toNat * b.toNat / 2 ^ 32)

/-- Unsigned quotient, 0 on a zero divisor. -/
def divU (a b : Word) : Word := BitVec.ofNat 32 (a.toNat / b.toNat)

/-- Unsigned remainder, 0 on a zero divisor. -/
def remU (a b : Word) : Word := if b = 0 then 0 else BitVec.ofNat 32 (a.toNat % b.toNat)

/-- Signed quotient rounded toward 0; 0 on a zero divisor; 0x8000_0000 / −1 saturates to 0x7FFF_FFFF. -/
def divS (a b : Word) : Word :=
  if b = 0 then 0 else BitVec.ofInt 32 (clampS 32 (Int.tdiv a.toInt b.toInt))

/-- Signed remainder with the sign of the dividend; 0 on a zero divisor. -/
def remS (a b : Word) : Word := if b = 0 then 0 else BitVec.ofInt 32 (Int.tmod a.toInt b.toInt)

def minS (a b : Word) : Word := if a.toInt ≤ b.toInt then a else b
def maxS (a b : Word) : Word := if a.toInt ≤ b.toInt then b else a
def minU (a b : Word) : Word := if a.toNat ≤ b.toNat then a else b
def maxU (a b : Word) : Word := if a.toNat ≤ b.toNat then b else a

/-- Signed sum and difference saturated to 0x7FFF_FFFF or 0x8000_0000. -/
def addSat (a b : Word) : Word := BitVec.ofInt 32 (clampS 32 (a.toInt + b.toInt))
def subSat (a b : Word) : Word := BitVec.ofInt 32 (clampS 32 (a.toInt - b.toInt))

/-- Leading zeros of the low `n` bits of `v`, counted from bit `n - 1` down. -/
def clzN (v : Nat) : Nat → Nat
  | 0 => 0
  | n + 1 => if v.testBit n then 0 else clzN v n + 1

/-- Leading zeros of a word, 0 to 32. -/
def clz (a : Word) : Word := BitVec.ofNat 32 (clzN a.toNat 32)

/-- 1 bits among the low `n` bits of `v`. -/
def popN (v : Nat) : Nat → Nat
  | 0 => 0
  | n + 1 => (if v.testBit n then 1 else 0) + popN v n

def popc (a : Word) : Word := BitVec.ofNat 32 (popN a.toNat 32)

/-- Shifts by the low five bits of the amount. -/
def shl (a b : Word) : Word := a <<< (b.toNat % 32)
def shr (a b : Word) : Word := a >>> (b.toNat % 32)
def sar (a b : Word) : Word := a.sshiftRight (b.toNat % 32)

/-! Predicates (R69) and conditions (R66). -/

def ltS (a b : Word) : Bool := a.toInt < b.toInt
def ltU (a b : Word) : Bool := a.toNat < b.toNat

/-- Whether a branch condition holds. -/
def condHolds (x : Teller) : Cond → Bool
  | .always => true
  | .q n => x.getQ n
  | .nq n => ! x.getQ n

end Sys2Proof.Machine
end

