-- ==== Sys2Proof/Machine/Operands.lean ====
section
/-! DEFINITION. Operand forms of the teller instructions: immediates, addresses and their traps (R64, R74, R75, R77),
data-memory accesses with their check bits (R62, R85), status codes (R76) and a teller's reach into register space
(R83). -/

namespace Sys2Proof.Machine

/-! Immediates. -/

def sext16 (i : BitVec 16) : Word := i.signExtend 32
def zext16 (i : BitVec 16) : Word := i.zeroExtend 32
def sext16P (i : BitVec 16) : Pos := i.signExtend 64
def sext22 (o : BitVec 22) : Word := o.signExtend 32

/-! Trap causes (R88). -/

def trIllegal : Nat := 1
def trPaddr : Nat := 2
def trDalign : Nat := 3
def trDrange : Nat := 4
def trAccess : Nat := 5
def trBuserr : Nat := 6
def trWdog : Nat := 7
def trMemerr : Nat := 8
def trTrap : Nat := 9
def trBrk : Nat := 10

/-! Status codes (R76, R340). -/

def stOk : Nat := 0
def stLate : Nat := 1
def stDeferred : Nat := 2
def stAbandoned : Nat := 3
def stBusy : Nat := 4
def stRank : Nat := 5
def stLedgerFull : Nat := 6
def stQuotaFull : Nat := 7
def stEscrowFull : Nat := 8
def stBadCrc : Nat := 9
def stBadArg : Nat := 10
def stNotRole : Nat := 11
def stNotHeld : Nat := 12
def stNoEndpoint : Nat := 13
def stNone : Nat := 14
def stHalted : Nat := 15
def stBadPred : Nat := 16
def stNotHead : Nat := 17
def stNoSpace : Nat := 18
def stBadSig : Nat := 19

/-! Data memory (R62, R74). -/

/-- The size of data memory and of program memory in bytes. -/
def dmSize : Nat := 0x100000
def pmSize : Nat := 0x400000

/-- The trap of a data address: DALIGN for a misaligned one, DRANGE for one whose area leaves data memory; the lowest
cause wins (R88). -/
def dataTrap (a align len : Nat) : Option (Nat × Nat) :=
  if a % align ≠ 0 then some (trDalign, a) else if a + len > dmSize then some (trDrange, a) else none

/-- The error state of the data words an access touches: 2 if any is uncorrectable, else the count of corrected ones
as 1 (R62). -/
def State.dmBad (s : State) (a : Nat) : Nat → Bool
  | 0 => false
  | n + 1 => tabGet 0 s.dmErr (a / 4) = 2 || s.dmBad (a + 4) n

/-- Corrected errors are counted in TLR_ECCCNT and change nothing else. -/
def State.dmCorrected (s : State) (a : Nat) : Nat → State
  | 0 => s
  | n + 1 => (if tabGet 0 s.dmErr (a / 4) = 1 then s.inc TLR_ECCCNT_DATA else s).dmCorrected (a + 4) n

/-- The words written carry fresh check bits (R62). -/
def State.dmFresh (s : State) (a : Nat) : Nat → State
  | 0 => s
  | n + 1 => { s with dmErr := tabSet 0 s.dmErr (a / 4) 0 }.dmFresh (a + 4) n

/-- Source numbers of TLR_FSTAT beyond the 16 HALT bits. -/
def srcPmecc : Nat := 16
def srcDmecc : Nat := 17

/-- Bytes stored to data memory, word check bits fresh. -/
def State.dmStore (s : State) (a n v : Nat) : State :=
  { s with dm := memStore s.dm a n v }.dmFresh (a / 4 * 4) ((n + 3) / 4)

/-- A list of bytes stored to data memory at a word address. -/
def State.dmPut (s : State) (a : Nat) (bs : List Byte) : State :=
  { s with dm := memPut s.dm a bs }.dmFresh a (bs.length / 4)

/-! Register space (R83). -/

/-- Offsets no teller may access at all: the memory windows of TLR. -/
def inTlrMem (a : Nat) : Bool := 0x210000 ≤ a ∧ a < 0x230000

/-- TLR_AMASKn, TLR_ACCTn, TLR_PMWP0, TLR_PMWP1, TLR_PMPAGE, TLR_DMPAGE and TLR_RST: no teller may write them. -/
def tellerNoWrite (a : Nat) : Bool :=
  a = 0x20000C ∨ a = 0x200014 ∨ a = 0x200018 ∨ a = 0x200020 ∨ a = 0x200024 ∨
  (0x201000 ≤ a ∧ a < 0x202000 ∧ (a % 0x100 = 0x08 ∨ a % 0x100 = 0x28))

/-- Whether teller `t` may access offset `a` (R83). -/
def State.tellerMay (s : State) (t a : Nat) (write : Bool) : Bool :=
  a % 4 = 0 ∧ a < 0xD00000 ∧ s.fbit (TLR_AMASK_WIN t) (a / 0x100000) ∧ ¬ inTlrMem a ∧
  ¬ (write ∧ (a < 0x100000 ∨ tellerNoWrite a))

/-! Execution of an instruction. -/

/-- A teller executes an instruction when it runs, holds no unfinished one, and its PC lies in program memory. The fetched word's check bits
come first: an uncorrectable error raises MEMERR and sets PMECC, a corrected one is counted (R62).
DESIGN CHOICE (log entry 12). -/
def State.execI (s : State) (t : Nat) (body : State → State) : State :=
  let x := s.teller t
  if t < 16 ∧ x.st = .running ∧ x.wait = .none ∧ x.pc.toNat < pmSize ∧ ¬ s.isOff then
    let e := tabGet 0 s.pmErr (x.pc.toNat / 4)
    if e = 2 then (s.raise 1 srcPmecc).trap t trMemerr x.pc.toNat
    else if e = 1 then body (s.inc TLR_ECCCNT_PROG)
    else body s
  else s

/-- An instruction that changes only its own teller. DEDUCED (log entry 13). -/
def State.execR (s : State) (t : Nat) (f : Teller → Teller) : State := s.execI t fun s => s.mapTeller t f

/-- The first trap of a list of conditions, lowest cause first as the list stands. DESIGN CHOICE (log entry 14). -/
def State.withTrap (s : State) (t : Nat) (c : Option (Nat × Nat)) (body : State → State) : State :=
  match c with
  | some (cause, value) => s.trap t cause value
  | none => body s

/-- An instruction that begins only after every earlier WRR of its teller has taken effect (R86): it stalls while the
queue holds a write; its own traps of lower cause come first; a failed write is then reported as BUSERR at it (R74).
DESIGN CHOICE (log entry 12). -/
def State.execD (s : State) (t : Nat) (c : State → Option (Nat × Nat)) (body : State → State) : State :=
  s.execI t fun s =>
    let x := s.teller t
    if x.wrrq ≠ [] then s
    else s.withTrap t (c s) fun s =>
      match x.busErr with
      | some a => (s.mapTeller t fun x => { x with busErr := none }).trap t trBuserr a
      | none => body s

/-- A data access of an instruction: address traps, then MEMERR for a word it reads with an uncorrectable error
(which sets DMECC), then the body. -/
def State.access (s : State) (t a align len : Nat) (reads : Bool) (body : State → State) : State :=
  s.withTrap t (dataTrap a align len) fun s =>
    let base := a / 4 * 4
    let words := (a % 4 + len + 3) / 4
    if reads ∧ s.dmBad base words then (s.raise 1 srcDmecc).trap t trMemerr a
    else body (if reads then s.dmCorrected base words else s)

end Sys2Proof.Machine
end

