-- ==== Sys2Proof/Machine/DmaOps.lean ====
section
/-! DEFINITION. DMA channels: triggers (R222, R223), grains (R224), descriptors (R217 to R219), the holding register
(R220), arming (R226), pause and abort (R227, R228), errors (R229, R230). Channel states: 0 disarmed, 1 idle,
2 running, 3 pausing, 4 paused, 5 halted. -/

namespace Sys2Proof.Machine

def State.dmaCh (s : State) (n : Nat) : Dma := tabGet Dma.init s.dma n
def State.setDma (s : State) (n : Nat) (d : Dma) : State := { s with dma := tabSet Dma.init s.dma n d }
def State.dmaSt (s : State) (n : Nat) : Nat := s.fld (DMA_CHSTAT_STATE n)
def State.setDmaSt (s : State) (n v : Nat) : State := s.setFld (DMA_CHSTAT_STATE n) v
def State.dmaArmed (s : State) (n : Nat) : Bool := s.flag (DMA_CTL_ARM n)

/-- DMA_REMAINn and DMA_CURDCTLn follow the channel, and so do the addresses of its CUR registers. -/
def State.dmaSync (s : State) (n : Nat) : State :=
  let c := s.dmaCh n
  let s1 := s.setFld (DMA_REMAIN_HOLD n) c.hold.length
  match c.desc with
  | none => s1
  | some d =>
    let c' := { c with
      curSrc := if d.sfix then d.src else d.src + c.readB, curDst := if d.dfix then d.dst else d.dst + c.doneB
      curDesc := d.addr, curSp := d.sp }
    ((s1.setFld (DMA_REMAIN_REMAIN n) (d.len - c.doneB)).setFld (DMA_CURDCTL_DCTL n) d.dctl).setDma n c'

/-! Triggers (R222, R223). -/

/-- A trigger arrives: counted in PEND, or lost. -/
def State.dmaTrig (s : State) (n : Nat) : State :=
  let p := s.fld (DMA_CHSTAT_PEND n)
  if s.dmaArmed n ∧ s.dmaSt n ≠ 5 ∧ p < 255 then s.setFld (DMA_CHSTAT_PEND n) (p + 1)
  else (s.inc (DMA_TRIGLOST_COUNT n)).setOn DMA_STATUS_TRIGLOST

/-- A DMATRIG action: lost at a channel whose KIND is not 2. -/
def State.dmaTrigAct (s : State) (n : Nat) : State :=
  if s.fld (DMA_CFG_KIND n) = 2 then s.dmaTrig n
  else (s.inc (DMA_TRIGLOST_COUNT n)).setOn DMA_STATUS_TRIGLOST

/-- Every channel below `m` whose KIND is one of `kinds` and whose SRC is `src` is triggered. -/
def State.dmaTrigFrom (s : State) (kinds : List Nat) (src : Nat) : Nat → State
  | 0 => s
  | m + 1 =>
    let s1 := s.dmaTrigFrom kinds src m
    if kinds.contains (s.fld (DMA_CFG_KIND m)) ∧ s.fld (DMA_CFG_SRC m) = src then s1.dmaTrig m else s1

/-- DMAKICK's status (R77, R223) and the state after it. -/
def State.dmaKick (s : State) (n : Nat) : Nat × State :=
  if n > 63 then (stBadArg, s)
  else if s.dmaSt n = 5 then (stHalted, s)
  else if ¬ s.dmaArmed n then (stBadArg, s)
  else if s.fld (DMA_CHSTAT_PEND n) = 255 then (stBusy, s)
  else (stOk, s.dmaTrig n)

/-! Descriptors. -/

/-- A descriptor's 32 bytes read from an address of a space (R217, R218). -/
def dmaDesc (addr sp : Nat) (bs : List Byte) : DmaDesc :=
  let f (k n : Nat) : Nat := ofLe ((bs.drop k).take n)
  let c := f 20 4
  { addr := addr, sp := sp, src := f 0 8, dst := f 8 8, len := f 16 4, sw := bits c 31 27 + 1, dw := bits c 26 22 + 1
    ssp := bits c 21 19, dsp := bits c 18 16, sfix := bits c 15 15 = 1, dfix := bits c 14 14 = 1, nsp := bits c 13 12
    last := bits c 11 11 = 1, dtev := bits c 10 10 = 1, next := f 24 8, dctl := c }

/-- BADDESC of R219. A LEN of 0, which R217 does not admit and R219 does not name, is bad. DESIGN CHOICE
(log entry 77). -/
def DmaDesc.bad (d : DmaDesc) : Bool :=
  d.dctl % 1024 ≠ 0 || d.len ≥ 2 ^ 24 || d.len = 0 || d.ssp > 4 || d.dsp > 4 || d.nsp = 3
    || d.len % d.sw ≠ 0 || d.len % d.dw ≠ 0
    || (d.ssp = 2 && (d.sw ≠ 4 || d.src % 4 ≠ 0)) || (d.dsp = 2 && (d.dw ≠ 4 || d.dst % 4 ≠ 0))
    || (! d.last && d.next % 32 ≠ 0)

/-- A run of register bytes in space 2 meets none of the windows R216 excludes. -/
def regsOk (a len : Nat) : Bool :=
  let clear (lo hi : Nat) : Bool := a + len ≤ lo || hi ≤ a
  a + len ≤ 0xD00000 && clear 0 0x100000 && clear 0x210000 0x230000 && clear 0x280000 0x300000
    && clear 0x800000 0x900000

/-- The bytes of one side lie in its space (R216). -/
def spaceOk (sp a len : Nat) : Bool :=
  match sp with
  | 0 => a + len ≤ 2 ^ 35
  | 1 => a + len ≤ dmSize
  | 2 => regsOk a len
  | _ => a + len ≤ 2 ^ 64

/-- RANGE of R219: a fixed side touches one beat. -/
def DmaDesc.outOfRange (d : DmaDesc) : Bool :=
  ! spaceOk d.ssp d.src (if d.sfix then d.sw else d.len) || ! spaceOk d.dsp d.dst (if d.dfix then d.dw else d.len)

/-- The space of NEXT as a space code of R216. -/
def nextSpace (nsp : Nat) : Nat := if nsp = 2 then 3 else nsp

/-! Halting and draining. -/

/-- CURSRC is rewound to the first byte not written; the held bytes are gone, and a beat sent but not complete counts as
not written, in the grain as well (R228, R229). -/
def Dma.rewind (c : Dma) : Dma :=
  { c with readB := c.doneB, sentB := c.doneB, hold := [], rd := [], wr := [], beats := c.beats + c.wr.length }

/-- The channel halts with an error (R229). -/
def State.dmaHalt (s : State) (n err : Nat) (atDesc : Bool) : State :=
  let c := s.dmaCh n
  let c' := if atDesc then { c with fetching := none, errDesc := true, desc := none, hold := [], rd := [], wr := [] }
    else { c.rewind with errDesc := false }
  (((s.setDma n { c' with abort := false }).setDmaSt n 5).setFld (DMA_CHSTAT_ERR n) err).dmaSync n |>.raise 11 n

/-- An aborted channel has drained: held bytes and pending triggers are gone, it is disarmed (R228). -/
def State.dmaDisarm (s : State) (n : Nat) : State :=
  let s1 := (s.setDma n (s.dmaCh n).rewind).dmaSync n
  let c := s1.dmaCh n
  let s2 := s1.setDma n { Dma.init with curSrc := c.curSrc, curDst := c.curDst, curDesc := c.curDesc, curSp := c.curSp }
  ((s2.setDmaSt n 0).setFld (DMA_CHSTAT_PEND n) 0).setOff (DMA_CTL_ARM n)

/-- Nothing in flight, and fewer bytes held than a destination beat takes or no beat of the grain left: a grain never
writes more beats than DMA_BURSTn, also while it drains (R224, R227). DEDUCED (log entry 41). -/
def State.dmaDrained (s : State) (n : Nat) : Bool :=
  let c := s.dmaCh n
  c.rd = [] && c.wr = [] && c.fetching.isNone && match c.desc with
    | some d => decide (c.hold.length < d.dw) || (s.fld (DMA_CFG_GRAIN n) = 2 && c.beats = 0)
    | none => true

/-- A draining channel that has nothing left is paused, or disarmed if it aborts (R227, R228). -/
def State.dmaSettle (s : State) (n : Nat) : State :=
  if s.dmaSt n = 3 ∧ s.dmaDrained n then
    if (s.dmaCh n).abort then s.dmaDisarm n else (s.setDmaSt n 4).dmaSync n
  else s.dmaSync n

/-! Fetching and completing. -/

/-- The channel reads the descriptor at an address, unless HOPS would pass its limit (R229). A HEAD or NEXT outside its
space's valid addresses (R216) is read like any other address: what stands there is not listed and reads 0. DESIGN CHOICE
(log entry 77). -/
def State.dmaFetch (s : State) (n addr sp : Nat) : State :=
  let s1 := s.setDma n { s.dmaCh n with curDesc := addr, curSp := sp, desc := none }
  if s.fld (DMA_CHSTAT_HOPS n) + 1 > s.fld (DMA_HOPLIM_HOPLIM n) then s1.dmaHalt n 1 true
  else
    let s2 := s1.setFld (DMA_CHSTAT_HOPS n) (s.fld (DMA_CHSTAT_HOPS n) + 1)
    (s2.setDma n { s2.dmaCh n with fetching := some (addr, sp), readB := 0, sentB := 0, doneB := 0 }).emit
      (.port "dmaFetch" n [sp, addr])

/-- DMA_HEADn and its space. -/
def State.dmaHead (s : State) (n : Nat) : Nat × Nat :=
  let sp := s.fld (DMA_CFG_HSP n)
  (s.fld (DMA_HEADHI_HEAD n) * 2 ^ 32 + s.fld (DMA_HEADLO_HEAD n), nextSpace sp)

/-- The grain ends: the channel is idle (R224). -/
def State.dmaGrainEnd (s : State) (n : Nat) : State := if s.dmaSt n = 2 then s.setDmaSt n 1 else s

/-- A descriptor completes: TEV.DMA, completions delivered, the next one fetched where the grain goes on (R224, R225). -/
def State.dmaComplete (s : State) (n : Nat) (d : DmaDesc) : State :=
  let s0 := s.dmaSync n
  let c := s0.dmaCh n
  let next := if d.last then none else some (d.next, nextSpace d.nsp)
  let s1 := s0.setDma n { c with desc := none, nextAt := next, hold := [], rd := [] }
  let s2 := if d.dtev then s1.setTev (s.fld (DMA_CFG_TEVT n)) tevDma else s1
  let s3 := s2.dmaTrigFrom (if d.last then [3, 4] else [3]) n 64
  let grain := s.fld (DMA_CFG_GRAIN n)
  if d.last ∨ grain = 1 ∨ (grain = 2 ∧ c.beats = 0) then s3.dmaGrainEnd n
  else if s.dmaSt n ≠ 2 then s3.setDma n { s3.dmaCh n with more := true }
  else s3.dmaFetch n d.next (nextSpace d.nsp)

/-- A destination beat is complete (R225): the bytes count as written, and the descriptor completes with its last. -/
def State.dmaBeatDone (s : State) (n : Nat) (d : DmaDesc) : State :=
  let c := s.dmaCh n
  let s1 := s.setDma n { c with doneB := c.doneB + d.dw }
  if c.doneB + d.dw ≥ d.len then s1.dmaComplete n d
  else if s.fld (DMA_CFG_GRAIN n) = 2 ∧ c.beats = 0 ∧ c.wr = [] then s1.dmaGrainEnd n
  else s1

/-! Beats (R220). -/

/-- Destination beats are sent while at least DW + 1 bytes are held, in beat grain only as many as are left; a posted
beat is complete when issued (R216). `fuel` bounds them. -/
def State.dmaWrites (s : State) (n : Nat) : Nat → State
  | 0 => s
  | fuel + 1 =>
    let c := s.dmaCh n
    match c.desc with
    | none => s
    | some d =>
      let beatGrain := s.fld (DMA_CFG_GRAIN n) = 2
      if c.hold.length < d.dw ∨ (beatGrain ∧ c.beats = 0) then s
      else
        let addr := if d.dfix then d.dst else d.dst + c.sentB
        let bs := c.hold.take d.dw
        let c' := { c with
          hold := c.hold.drop d.dw, sentB := c.sentB + d.dw, beats := if beatGrain then c.beats - 1 else c.beats }
        let s1 := s.emit (.port "dmaWrite" n (d.dsp :: addr :: bs.map fun b => b.toNat))
        if d.dsp ≥ 3 then ((s1.setDma n c').dmaBeatDone n d).dmaWrites n fuel
        else (s1.setDma n { c' with wr := c'.wr ++ [(addr, bs)] }).dmaWrites n fuel

/-- Source beats are issued while the channel runs, at most two in flight and never past the holding register. -/
def State.dmaReads (s : State) (n : Nat) : Nat → State
  | 0 => s
  | fuel + 1 =>
    let c := s.dmaCh n
    match c.desc with
    | none => s
    | some d =>
      if s.dmaSt n = 2 ∧ c.rd.length < 2 ∧ c.readB < d.len ∧ c.hold.length + (c.rd.length + 1) * d.sw ≤ 64 then
        let addr := if d.sfix then d.src else d.src + c.readB
        ((s.setDma n { c with rd := c.rd ++ [addr], readB := c.readB + d.sw }).emit
          (.port "dmaRead" n [d.ssp, addr, d.sw])).dmaReads n fuel
      else s

/-- What the channel can do now. -/
def State.dmaPump (s : State) (n : Nat) : State := (((s.dmaWrites n 64).dmaReads n 2).dmaSettle n)

/-! Arming (R226). -/

/-- Following completion triggers from channel `m` over armed channels leads back to `n`. -/
def State.dmaCycle (s : State) (n m : Nat) : Nat → Bool
  | 0 => false
  | fuel + 1 =>
    let k := s.fld (DMA_CFG_KIND m)
    if (k = 3 ∨ k = 4) ∧ (s.dmaArmed m ∨ m = n) then
      let r := s.fld (DMA_CFG_SRC m)
      if r = n then true else s.dmaCycle n r fuel
    else false

/-- A write of 1 to ARM; a channel that is armed, also one that drains toward an abort, is not armed anew, and a halted one
stays halted; DMA_CHSTATn.ERR is cleared (R226, R228, R230, R233). DEDUCED (log entry 41). -/
def State.dmaArm (s : State) (n : Nat) : State :=
  if s.dmaArmed n then s
  else if s.dmaCycle n n 65 then (s.setOn DMA_STATUS_ARMCYC).setFld DMA_STATUS_ARMCYCCH n
  else if s.dmaSt n = 5 then (s.setOn (DMA_CTL_ARM n)).setFld (DMA_CHSTAT_ERR n) 0
  else
    let c := s.dmaCh n
    let s1 := (s.setOn (DMA_CTL_ARM n)).setFld (DMA_CHSTAT_ERR n) 0
    (s1.setDma n { Dma.init with curSrc := c.curSrc, curDst := c.curDst, curDesc := c.curDesc, curSp := c.curSp }).setDmaSt
      n 1

/-- A write of 0 to ARM: the grain is aborted, and the channel is disarmed when it has drained (R228). A halted channel
leaves HALTED only by CLRERR or CONT (R230): it loses ARM and its pending triggers. DEDUCED (log entry 41). -/
def State.dmaAbort (s : State) (n : Nat) : State :=
  if ¬ s.dmaArmed n then s
  else
    let st := s.dmaSt n
    if st = 2 ∨ st = 3 ∨ st = 4 then
      ((s.setDma n { s.dmaCh n with abort := true }).setDmaSt n 3).dmaPump n
    else if st = 5 then (s.setFld (DMA_CHSTAT_PEND n) 0).setOff (DMA_CTL_ARM n)
    else s.dmaDisarm n

/-- A paused channel goes on: with its descriptor, with the next one of an unfinished grain, or idle if its grain ended
while it drained. -/
def State.dmaResume (s : State) (n : Nat) : State :=
  let c := s.dmaCh n
  let s1 := s.setDmaSt n 2
  if c.more then
    match c.nextAt with
    | some (a, sp) => (s1.setDma n { c with more := false }).dmaFetch n a sp
    | none => s1.setDmaSt n 1
  else if c.desc.isNone ∧ c.fetching.isNone then s1.setDmaSt n 1
  else if s.fld (DMA_CFG_GRAIN n) = 2 ∧ c.beats = 0 ∧ c.wr = [] ∧ c.fetching.isNone then s1.setDmaSt n 1
  else s1.dmaPump n

/-- PAUSE written (R227). -/
def State.dmaPause (s : State) (n : Nat) (on : Bool) : State :=
  let s1 := s.setBool (DMA_CTL_PAUSE n) on
  let st := s.dmaSt n
  if on then (if st = 2 then (s1.setDmaSt n 3).dmaPump n else s1)
  else if (st = 3 ∨ st = 4) ∧ ¬ (s.dmaCh n).abort then s1.dmaResume n
  else s1

/-- CLRERR: the error is cleared, the channel becomes idle (R230). -/
def State.dmaClrErr (s : State) (n : Nat) : State :=
  if s.dmaSt n = 5 then
    let s1 := ((s.setFld (DMA_CHSTAT_ERR n) 0).setDmaSt n (if s.dmaArmed n then 1 else 0)).clrFbit (fstatOf 11 n) (n % 32)
    s1.setDma n { s1.dmaCh n with desc := none, errDesc := false, more := false, beats := 0 }
  else s

/-- CONT: the channel goes on from its registers; with PAUSE set it issues nothing and is paused there (R227, R230). A
channel that was disarmed while halted has nothing to go on with and is left as by CLRERR; one whose grain of beats had
ended before a beat it read ahead failed is idle, and the next trigger resumes its descriptor (R224). DEDUCED
(log entry 41). -/
def State.dmaCont (s : State) (n : Nat) : State :=
  if s.dmaSt n ≠ 5 then s
  else if ¬ s.dmaArmed n then s.dmaClrErr n
  else
    let c := s.dmaCh n
    let paused := s.flag (DMA_CTL_PAUSE n)
    let ended : Bool := ! c.errDesc && s.fld (DMA_CFG_GRAIN n) = 2 && c.beats = 0
    let s1 := ((s.setFld (DMA_CHSTAT_ERR n) 0).setDmaSt n (if ended then 1 else if paused then 3 else 2)).clrFbit
      (fstatOf 11 n) (n % 32)
    if ended then s1
    else if c.errDesc then
      let s2 := s1.setFld (DMA_CHSTAT_HOPS n) 0
      if paused then
        (s2.setDma n { c with errDesc := false, more := true, nextAt := some (c.curDesc, c.curSp) }).dmaSettle n
      else (s2.setDma n { c with errDesc := false }).dmaFetch n c.curDesc c.curSp
    else s1.dmaPump n

/-- DMA_GRACE's escalation: the channel is disarmed and its pending triggers are discarded (R231). -/
def State.dmaEscalate (s : State) (n : Nat) : State :=
  ((s.setOff (DMA_CTL_ARM n)).setFld (DMA_CHSTAT_PEND n) 0).setDmaSt n 0

/-! Commands that need no register access. -/

/-- DMA_ARM (R226). -/
def execDmaArm (n : Nat) (s : State) : Host.Outcome State Fault Refusal := .next (if s.isOff then s else if n < 64 then s.dmaArm n else s)

/-- DMA_ABORT (R228). -/
def execDmaAbort (n : Nat) (s : State) : Host.Outcome State Fault Refusal := .next (if s.isOff then s else if n < 64 then s.dmaAbort n else s)

/-- DMA_PAUSE: PAUSE set or cleared (R227). -/
def execDmaPause (n : Nat) (on : Bool) (s : State) : Host.Outcome State Fault Refusal :=
  .next (if s.isOff then s else if n < 64 then s.dmaPause n on else s)

/-- GO: a software trigger (R222). -/
def execGo (n : Nat) (s : State) : Host.Outcome State Fault Refusal := .next (if s.isOff then s else if n < 64 then s.dmaTrig n else s)

/-- CLRERR (R230). -/
def execClrerr (n : Nat) (s : State) : Host.Outcome State Fault Refusal := .next (if s.isOff then s else if n < 64 then s.dmaClrErr n else s)

/-- CONT (R230). -/
def execCont (n : Nat) (s : State) : Host.Outcome State Fault Refusal := .next (if s.isOff then s else if n < 64 then s.dmaCont n else s)

/-- DMA_TIMER_EXPIRY: pacing timer k triggers the channels of KIND 1 that name it (R222). -/
def execDmaTimerExpiry (k : Nat) (s : State) : Host.Outcome State Fault Refusal :=
  .next (if s.isOff then s else if k < 8 ∧ s.fld (DMA_TMR_PERIOD k) ≠ 0 then s.dmaTrigFrom [1] k 64 else s)

/-- DMA_TRIGGER: a trigger arrives at channel n (R223). -/
def execDmaTrigger (n : Nat) (s : State) : Host.Outcome State Fault Refusal :=
  .next (if s.isOff then s else if n < 64 then s.dmaTrig n else s)

/-- DMA_GRAIN_START: an idle channel with a trigger pending takes it and runs one grain (R224). -/
def execDmaGrainStart (n : Nat) (s : State) : Host.Outcome State Fault Refusal :=
  .next (
    if s.isOff then s else
    let p := s.fld (DMA_CHSTAT_PEND n)
    if n < 64 ∧ s.dmaArmed n ∧ s.dmaSt n = 1 ∧ p > 0 ∧ ¬ s.flag (DMA_CTL_PAUSE n) then
      let c := s.dmaCh n
      let s1 := ((s.setFld (DMA_CHSTAT_PEND n) (p - 1)).setFld (DMA_CHSTAT_HOPS n) 0).setDmaSt n 2
      let s2 := s1.setDma n { c with beats := s.fld (DMA_BURST_BURST n) }
      let (ha, hs) := s.dmaHead n
      if s.fld (DMA_CFG_GRAIN n) = 2 ∧ c.desc.isSome then s2.dmaPump n
      else if s.fld (DMA_CFG_GRAIN n) = 0 then s2.dmaFetch n ha hs
      else match c.nextAt with
        | some (a, sp) => s2.dmaFetch n a sp
        | none => s2.dmaFetch n ha hs
    else s)

/-- The bytes a read of a space brings: DRAM and data memory are the node's own, the others come with the command. -/
def State.dmaData (s : State) (sp a n : Nat) (given : List Byte) : List Byte :=
  if sp = 0 then memBytes s.dram a n else if sp = 1 then memBytes s.dm a n else given.take n

/-- An uncorrectable error in the data-memory words of a read (R229). -/
def State.dmaMemErr (s : State) (sp a n : Nat) : Bool := sp = 1 && s.dmBad (a / 4 * 4) ((a % 4 + n + 3) / 4)

/-- DESCRIPTOR_FETCH: the descriptor read is answered: with an error, or with 32 bytes that are checked and run (R217,
R219, R229). -/
def execDescriptorFetch (n : Nat) (ok : Bool) (data : List Byte) (s : State) : Host.Outcome State Fault Refusal :=
  .next (
    if s.isOff then s else
    let c := s.dmaCh n
    match c.fetching with
    | none => s
    | some (a, sp) =>
      if ¬ ok ∨ s.dmaMemErr sp a 32 then
        (if s.dmaMemErr sp a 32 then s.raise 1 srcDmecc else s).dmaHalt n 7 true
      else
        let d := dmaDesc a sp (s.dmaData sp a 32 data)
        if d.bad then s.dmaHalt n 5 true
        else if d.outOfRange then s.dmaHalt n 6 true
        else if ¬ d.last ∧ d.next = a ∧ nextSpace d.nsp = sp then s.dmaHalt n 1 true
        else (s.setDma n { c with fetching := none, desc := some d }).dmaPump n)

end Sys2Proof.Machine
end

