-- ==== Sys2Proof/Machine/Crc.lean ====
section
/-! DEFINITION. CRC-32C with the parameters of R10. -/

namespace Sys2Proof.Machine

/-- The polynomial 0x1EDC_6F41, reflected. -/
def crcPoly : BitVec 32 := 0x82F63B78

/-- `n` bits shifted through the reflected register. -/
def crcBits (r : BitVec 32) : Nat → BitVec 32
  | 0 => r
  | n + 1 => crcBits (if r.getLsbD 0 then (r >>> 1) ^^^ crcPoly else r >>> 1) n

/-- The register after some bytes. -/
def crcStep (r : BitVec 32) : List Byte → BitVec 32
  | [] => r
  | b :: bs => crcStep (crcBits (r ^^^ b.zeroExtend 32) 8) bs

/-- CRC-32C over bytes (R10). -/
def crc32c (bs : List Byte) : Nat := ((crcStep 0xFFFFFFFF bs) ^^^ 0xFFFFFFFF).toNat

end Sys2Proof.Machine
end

