-- ==== Sys2Proof/Machine/StoreOps.lean ====
section
/-! DEFINITION. Shared operations of the raster store: units and drives (R196), extents (R199), NVMe commands (R198,
R209), the prefetch list and its buffer (R208). -/

namespace Sys2Proof.Machine

def State.setStore (s : State) (x : Store) : State := { s with store := x }

/-! Units and drives. -/

/-- A unit is 16 MiB. -/
def unitBytes : Nat := 2 ^ 24

/-- The drives a unit index counts modulo: ND, or the NP pairs of a mirrored store (R196). -/
def State.stripes (s : State) : Nat :=
  if s.flag STO_CTL_MIRROR then s.fld STO_CTL_NDRV / 2 else s.fld STO_CTL_NDRV

/-- The drive a store address lies on, the lower of a mirrored pair (R196). -/
def State.driveOf (s : State) (addr : Nat) : Nat :=
  let d := addr / unitBytes % s.stripes
  if s.flag STO_CTL_MIRROR then 2 * d else d

/-- The byte of that drive's namespace. -/
def State.driveByte (s : State) (addr : Nat) : Nat := addr / unitBytes / s.stripes * unitBytes + addr % unitBytes

/-- A drive is on line. -/
def State.driveOn (s : State) (d : Nat) : Bool := s.fld (STO_DRV_STATE d) = 1

/-- The other drive of a mirrored pair. -/
def mirrorOf (d : Nat) : Nat := if d % 2 = 0 then d + 1 else d - 1

/-- Units below `u` that lie on a drive (R196). -/
def State.unitsBelow (s : State) (u d : Nat) : Nat :=
  (u + s.stripes - 1 - (if s.flag STO_CTL_MIRROR then d / 2 else d)) / s.stripes

/-- The most bytes one command moves: 128 KiB, or a drive's maximum data transfer size if that is smaller; of a pair, the
smaller of both (R198). A limit below one block of 4,096 bytes counts as one. DESIGN CHOICE (log entry 71). -/
def State.maxXfer (s : State) (d : Nat) : Nat :=
  let one (d : Nat) : Nat :=
    let m := tabGet 0 s.store.drvMax d
    if m = 0 then 131072 else max 4096 (min 131072 m)
  if s.flag STO_CTL_MIRROR then min (one d) (one (mirrorOf d)) else one d

/-- A run of store bytes cut where a unit ends and where a command's size does, the first cut on a block of 4,096 bytes so
that no piece widened to whole LBAs exceeds it (R196, R198); `fuel` bounds the pieces. -/
def State.cuts (s : State) (addr len : Nat) : Nat → List (Nat × Nat)
  | 0 => []
  | fuel + 1 =>
    if len = 0 then []
    else
      let n := min len (min (unitBytes - addr % unitBytes) (s.maxXfer (s.driveOf addr) / 4096 * 4096 - addr % 4096))
      (addr, n) :: s.cuts (addr + n) (len - n) fuel

/-- The pieces of a run of store bytes. -/
def State.piecesOf (s : State) (addr len : Nat) : List (Nat × Nat) := s.cuts addr len (len / 4096 + 3)

/-! Free runs: of units for an extent, of bytes in the prefetch buffer. -/

/-- The end of the first of some runs (base and length) that the run of `n` from `at0` meets. -/
def runBlocked (at0 n : Nat) : List (Nat × Nat) → Option Nat
  | [] => none
  | (b, k) :: m => if at0 < b + k ∧ b < at0 + n then some (b + k) else runBlocked at0 n m

/-- The lowest free run of `n` below `cap` from `at0`; `fuel` bounds the runs it can meet. -/
def findRun (used : List (Nat × Nat)) (cap n at0 : Nat) : Nat → Option Nat
  | 0 => none
  | fuel + 1 =>
    if at0 + n > cap then none
    else match runBlocked at0 n used with
      | none => some at0
      | some next => findRun used cap n next fuel

/-! Extents. -/

def State.extent (s : State) (i : Nat) : Extent := tabGet Extent.none s.store.extents i
def State.setExtent (s : State) (i : Nat) (e : Extent) : State :=
  s.setStore { s.store with extents := tabSet Extent.none s.store.extents i e }

/-- The runs of units that extents hold. -/
def unitRuns (exts : Tab Extent) : List (Nat × Nat) := exts.map fun x => (x.2.base, x.2.units)

/-- STO_FREEUNITS: the capacity less unit 0 and the extents. -/
def State.syncFree (s : State) : State :=
  s.setFld STO_FREEUNITS_UNITS (s.fld STO_CAPUNITS_UNITS - 1 - ((unitRuns s.store.extents).map (·.2)).sum)

/-- The lowest identifier not in use. -/
def freeId (exts : Tab Extent) (i : Nat) : Nat → Nat
  | 0 => i
  | fuel + 1 => if tabGet Extent.none exts i = Extent.none then i else freeId exts (i + 1) fuel

/-- The extent that holds a whole range of store bytes, if one does. -/
def extentOf (addr len : Nat) : Tab Extent → Option (Nat × Extent)
  | [] => none
  | (i, e) :: m =>
    if e.base * unitBytes ≤ addr ∧ addr + len ≤ (e.base + e.units) * unitBytes then some (i, e) else extentOf addr len m

/-- A range of store bytes lies in a SEALED extent. -/
def State.inSealed (s : State) (addr len : Nat) : Bool :=
  match extentOf addr len s.store.extents with
  | some (_, x) => x.state = 3
  | none => false

/-- The bound drives that hold units of an extent. -/
def State.drivesOf (s : State) (e : Extent) : List Nat :=
  (List.range (s.fld STO_CTL_NDRV)).filter fun d => decide (s.unitsBelow e.base d < s.unitsBelow (e.base + e.units) d)

/-- The reference counts of a list of extents move. -/
def State.refsBy (s : State) (up : Bool) : List Nat → State
  | [] => s
  | i :: is =>
    let e := s.extent i
    (if e.state = 0 then s
     else s.setExtent i { e with refs := if up then e.refs + 1 else e.refs - 1 }).refsBy up is

/-! The prefetch list. -/

/-- The pieces of the prefetch list that wait: those in no Read yet, and those of a Read that waits to go out (again). -/
def Store.pending (x : Store) : List Fetch :=
  x.fetches.filter fun f => ! f.sent || x.waiting.any fun c => c.op = .read && c.pieces.contains (f.key, f.off)

/-- STO_OUTSTAND follows the commands and the waiting fetches. A command is outstanding until its completion arrives or its
drive's queues are deleted, also when it has timed out. DESIGN CHOICE (log entry 71). -/
def State.syncOutstand (s : State) : State :=
  (s.setFld STO_OUTSTAND_CMDS s.store.cmds.length).setFld STO_OUTSTAND_PENDING
    (min s.store.pending.length (2 ^ 20 - 1))

/-- A table or tile joins the list, cut into the pieces its Reads are made of (R196, R198, R208). -/
def State.addTile (s : State) (key : TileKey) (deadline addr len : Nat) : State :=
  let fs := (s.piecesOf addr len).map fun p : Nat × Nat => (⟨key, p.1 - addr, p.1, p.2, deadline, false⟩ : Fetch)
  s.setStore { s.store with
    tiles := s.store.tiles ++ [⟨key, deadline, addr, len, .coming, [], []⟩], fetches := s.store.fetches ++ fs }

/-- What the list holds under a key. -/
def State.tileOf (s : State) (key : TileKey) : Option Tile := s.store.tiles.find? fun t => t.key = key

/-- The tile of a slot at a station, row and column. -/
def State.tileAt (s : State) (k stn r c : Nat) : Option Tile := s.tileOf ⟨k, stn, r, c, false⟩

/-- A change of the table or tile under a key. -/
def State.mapTile (s : State) (key : TileKey) (f : Tile → Tile) : State :=
  s.setStore { s.store with tiles := s.store.tiles.map fun t => if t.key = key then f t else t }

/-- Every byte of it has come. -/
def Tile.whole (t : Tile) : Bool := (t.parts.map fun p => p.2.2).sum = t.len

/-- The first byte of the prefetch buffer in DRAM (R213). -/
def State.pfBase (s : State) : Nat := s.fld STO_PFBASE_GIB * 2 ^ 30

/-- The stored bytes of a table or tile, as its parts lie in the DRAM buffer (R208). -/
def State.tileBytes (s : State) (t : Tile) : List Byte :=
  t.parts.flatMap fun p => memBytes s.dram (s.pfBase + p.2.1) p.2.2

/-- The raster level of station pixel X of frame line j (R202): level 0 where no tile is stored. -/
def State.level (s : State) (k stn x j : Nat) : Nat :=
  match s.tileAt k stn (j / 32) (x / 4096) with
  | some t =>
    if t.st = .decoded then
      let b := (t.data.getD (j % 32 * 2048 + x % 4096 / 2) 0).toNat
      if x % 2 = 0 then b % 16 else b / 16
    else 0
  | none => 0

/-- The tile columns a module position touches (R162). -/
def colFrom (p : Nat) : Nat := (12992 * p - 160) / 4096
def colTo (p : Nat) : Nat := (12992 * p + 13151) / 4096

/-! NVMe commands. -/

def State.nvme (s : State) (cid : Nat) : Option Nvme := tabGet none s.store.cmds cid

def State.setNvme (s : State) (cid : Nat) (c : Option Nvme) : State :=
  s.setStore { s.store with cmds := tabSet none s.store.cmds cid c }

/-- Commands outstanding that a predicate picks. -/
def State.nvmeCount (s : State) (p : Nvme → Bool) : Nat :=
  (s.store.cmds.filter fun x => match x.2 with
    | some c => p c
    | none => false).length

/-- The bytes of the prefetch buffer in use: the place of every Read outstanding, a timed-out one's quarantined, and the
parts of tables and tiles that lie there (R208, R209). -/
def State.bufRuns (s : State) : List (Nat × Nat) :=
  (s.store.cmds.filterMap fun x => match x.2 with
    | some c => if c.op = .read then some (c.place, c.len) else none
    | none => none) ++ s.store.tiles.flatMap fun t => t.parts.map fun p => p.2

/-- The place a Read of `n` bytes takes in the prefetch buffer: the lowest that is free. DESIGN CHOICE (log entry 71). -/
def State.bufPlace (s : State) (n : Nat) : Option Nat :=
  findRun s.bufRuns (s.fld STO_PFSIZE_GIB * 2 ^ 30) n 0 (s.bufRuns.length + 1)

/-- A piece is still to come. -/
def State.fetchOf (s : State) (p : TileKey × Nat) : Option Fetch :=
  s.store.fetches.find? fun f => f.key = p.1 && f.off = p.2

/-- Something still waits for a command: a piece it reads, the ingest it writes for. -/
def State.wanted (s : State) (c : Nvme) : Bool :=
  match c.op with
  | .read => c.pieces.any fun p => (s.fetchOf p).isSome
  | .write | .flush => (tabGet none s.store.ingests c.ext).isSome
  | .dealloc => true

/-- A command may go to its drive now: the store is on line, the bounds of the chip and of the drive's queues and the
share of writes leave room, and a Read finds a place (R196, R198, R208). -/
def State.mayGo (s : State) (c : Nvme) : Bool :=
  s.flag STO_STATUS_READY && decide (s.nvmeCount (fun _ => true) < 1024) &&
    decide (s.nvmeCount (fun x => x.drive = c.drive) < 64 * s.fld (STO_DRV_QUEUES c.drive)) &&
    (c.op ≠ .write || s.store.pending = [] ||
      decide (s.nvmeCount (fun x => x.op = .write) < s.fld STO_WRSHARE_VALUE)) &&
    (c.op ≠ .read || (s.bufPlace c.len).isSome)

/-- The output that stands for a command at its drive. -/
def NvmeOp.tag : NvmeOp → String
  | .read => "nvmeRead"
  | .write => "nvmeWrite"
  | .flush => "nvmeFlush"
  | .dealloc => "nvmeDeallocate"

/-- A command goes to its drive, widened to whole LBAs: a Read with its place in DRAM, a Write with its bytes (R198). -/
def State.nvmeSend (s : State) (c0 : Nvme) : State :=
  let c := if c0.op = .read then { c0 with place := (s.bufPlace c0.len).getD 0 } else c0
  let cid := s.store.nextCid
  let lba := if s.flag (STO_DRV_LBA4K c.drive) then 4096 else 512
  let first := c.byte / lba
  let s1 := s.setNvme cid (some c)
  ((s1.setStore { s1.store with nextCid := cid + 1 }).emit (.port c.op.tag c.drive
    (cid :: first :: ((c.byte + c.len + lba - 1) / lba - first) ::
      (if c.op = .read then [s.pfBase + c.place] else c.data.map fun b => b.toNat)))).syncOutstand

/-- One piece comes before another: by deadline, then station, then column (R208). -/
def Fetch.before (a b : Fetch) : Bool :=
  a.deadline < b.deadline || (a.deadline = b.deadline && (a.key.stn < b.key.stn ||
    (a.key.stn = b.key.stn && a.key.col < b.key.col)))

/-- The piece of a list that comes first, the earlier in the list of two alike. -/
def firstPiece : List Fetch → Option Fetch
  | [] => none
  | f :: fs => match firstPiece fs with
    | some g => if g.before f then some g else some f
    | none => some f

/-- The pieces of a Read that are still to come. -/
def State.piecesLeft (s : State) (c : Nvme) : List Fetch := c.pieces.filterMap s.fetchOf

/-- A command is a Read with a piece that comes before another piece. -/
def State.readBefore (s : State) (c : Nvme) (f : Fetch) : Bool :=
  c.op = .read && (s.piecesLeft c).any fun g => g.before f

/-- A waiting Read goes before a Read (R208). -/
def State.readBehind (s : State) (c : Nvme) : Bool :=
  c.op = .read && (firstPiece (s.piecesLeft c)).any fun f => s.store.waiting.any fun x => s.readBefore x f

/-- A command goes out, or waits; one that nothing waits for any more is dropped (R198). Reads keep the order of their
deadlines (R208). -/
def State.offer (s : State) (c : Nvme) : State :=
  if ! s.wanted c then s
  else if s.mayGo c && ! s.readBehind c then s.nvmeSend c
  else (s.setStore { s.store with waiting := s.store.waiting ++ [c] }).syncOutstand

/-- A Read takes its place among Reads, by the first of its pieces still to come (R208).
DESIGN CHOICE (log entry 71). -/
def State.placeRead (s : State) (c : Nvme) : List Nvme → List Nvme
  | [] => [c]
  | x :: xs => match firstPiece (s.piecesLeft x) with
    | some f => if s.readBefore c f then c :: x :: xs else x :: s.placeRead c xs
    | none => x :: s.placeRead c xs

/-- Commands that wait go out as far as there is room: Reads in the order of their deadlines, then the others, the oldest
first (R198, R208). -/
def State.pump (s : State) : State :=
  let reads := (s.store.waiting.filter fun c => c.op = .read).foldl (fun l c => s.placeRead c l) []
  ((reads ++ s.store.waiting.filter fun c => c.op ≠ .read).foldl State.offer
    (s.setStore { s.store with waiting := [] })).syncOutstand

/-- The tables and tiles a predicate picks leave the list, and their pieces with them; the space they free goes to the
Reads that wait for it (R208). -/
def State.dropTiles (s : State) (p : TileKey → Bool) (decodedToo : Bool) : State :=
  (s.setStore { s.store with
    tiles := s.store.tiles.filter fun t => ! (p t.key && (decodedToo || t.st = .coming))
    fetches := s.store.fetches.filter fun f => ! p f.key }).pump

/-- A slot's references fall: its window has ended at every station, or it was voided (R199). -/
def State.dropRefs (s : State) (k : Nat) : State :=
  let held := tabGet [] s.store.slotRefs k
  (s.setStore { s.store with slotRefs := tabSet [] s.store.slotRefs k [] }).refsBy false held

/-- A voided slot's prefetch is cancelled: what is not decoded yet is dropped and its references fall (R136, R199,
R208). -/
def State.cancelSlot (s : State) (k : Nat) : State := (s.dropTiles (fun t => t.slot = k) false).dropRefs k

/-- A slot's window has ended at a station: its tiles there are freed. -/
def State.freeTiles (s : State) (k stn : Nat) : State := s.dropTiles (fun t => t.slot = k && t.stn = stn) true

/-- An extent becomes RELEASING, and its units are deallocated on every drive on line that holds them (R199). -/
def State.extRelease (s : State) (i : Nat) : State :=
  let e := s.extent i
  ((s.drivesOf e).filter s.driveOn).foldl (fun s d =>
    let u := s.unitsBelow e.base d
    s.offer ⟨.dealloc, d, u * unitBytes, (s.unitsBelow (e.base + e.units) d - u) * unitBytes, [], 0, i, [], 0, 0, false⟩)
    (s.setExtent i { e with state := 4 })

/-- A command of an extent that a predicate picks is outstanding in time, or waits. -/
def State.extBusy (s : State) (ext : Nat) (p : NvmeOp → Bool) : Bool :=
  s.store.waiting.any (fun c => c.ext = ext && p c.op) || s.store.cmds.any fun x => match x.2 with
    | some c => c.ext = ext && p c.op && ! c.late
    | none => false

/-- No Write and no Flush of an extent is outstanding or waits. -/
def State.writesDone (s : State) (ext : Nat) : Bool := ! s.extBusy ext fun o => o = .write || o = .flush

end Sys2Proof.Machine
end

