-- ==== Sys2Proof/Machine/Ledger.lean ====
section
/-! DEFINITION. The order ledger: submission, taking, settlement, return of orders (R110 to R117), and the lock unit
(R118 to R120), as operations shared by the teller instructions, the host mailbox and the ring. -/

namespace Sys2Proof.Machine

/-! Orders and books. -/

def State.order (s : State) (h : Nat) : Option Order := tabGet none s.orders h
def State.setOrder (s : State) (h : Nat) (o : Option Order) : State := { s with orders := tabSet none s.orders h o }

/-- The index of book `b` of account `a` (R121). -/
def bookIx (a b : Nat) : Nat := 16 * a + b

def State.book (s : State) (a b : Nat) : Book := tabGet ⟨0, 0, 0⟩ s.books (bookIx a b)
def State.setBook (s : State) (a b : Nat) (k : Book) : State :=
  { s with books := tabSet ⟨0, 0, 0⟩ s.books (bookIx a b) k }

/-- A BSEQ is earlier than another when the difference modulo 2³² lies in 1 to 2³¹ (R111). -/
def seqEarlier (next pred : Nat) : Bool :=
  let d := (next + 2 ^ 32 - pred % 2 ^ 32) % 2 ^ 32
  1 ≤ d ∧ d ≤ 2 ^ 31

/-- The lowest handle at or above `n` that no listed order holds (R111). -/
def lowestFree : Tab (Option Order) → Nat → Nat
  | [], n => n
  | (k, _) :: m, n => if k = n then lowestFree m (n + 1) else if k < n then lowestFree m n else n

/-- A predecessor has settled: the book's head has passed it (R113, R114). -/
def State.predDone (s : State) (o : Order) : Bool :=
  match o.pred with
  | none => true
  | some p => seqEarlier (s.book o.acct o.book).head p

/-- An order a TAKE may return (R113, R117). -/
def State.takeable (s : State) (o : Order) : Bool := o.taker.isNone && ! o.bad && s.predDone o

/-- TEV.MBX in every teller whose LDG_BINDt is enabled and names the book (R115). -/
def State.wakeBook (s : State) (a b : Nat) : Nat → State
  | 0 => s
  | t + 1 =>
    (if s.flag (LDG_BIND_EN t) ∧ s.fld (LDG_BIND_ACCT t) = a ∧ s.fbit (LDG_BIND_BOOKS t) b then s.setTev t tevMbx
     else s).wakeBook a b t

/-- LDG is in escalation: every submission is refused with LEDGER_FULL (R117). -/
def State.ledgerEscalated (s : State) : Bool := (s.incident 3).escd ≠ []

/-- The checks of R111 after the role: the status of a submission. -/
def State.submitCheck (s : State) (a word pred : Nat) : Nat :=
  let pv := bits word 31 31 = 1
  let book := bits word 3 0
  let pbook := bits word 19 16
  if bits word 30 20 ≠ 0 ∨ bits word 15 4 ≠ 0 ∨ (¬ pv ∧ pbook ≠ 0) then stBadArg
  else if pv ∧ (pbook ≠ book ∨ ¬ seqEarlier (s.book a book).next pred) then stBadPred
  else if s.fld LDG_COUNT_ORDERS ≥ 4096 ∨ s.ledgerEscalated then stLedgerFull
  else if s.fld (LDG_QUOTA_COUNT a) ≥ s.fld (LDG_QUOTA_QUOTA a) then stQuotaFull
  else stOk

/-- The handle the next accepted submission takes. -/
def State.nextHandle (s : State) : Nat := lowestFree s.orders 0

/-- An accepted submission at slot `h` with the BSEQ `n`: the book's next BSEQ, the account's count, TEV.MBX (R111,
R115). -/
def State.submitAt (s : State) (h n a word pred : Nat) (body : List Byte) : State :=
  let b := bits word 3 0
  let k := s.book a b
  let o : Order :=
    { acct := a, book := b, bseq := n, pred := if bits word 31 31 = 1 then some (pred % 2 ^ 32) else none,
      body := body, taker := none, aband := false, bad := false }
  let s1 := ((s.setOrder h (some o)).setBook a b { k with next := (n + 1) % 2 ^ 32 })
  let s2 := (s1.setFld LDG_COUNT_ORDERS (s.fld LDG_COUNT_ORDERS + 1)).setFld (LDG_QUOTA_COUNT a)
    (s.fld (LDG_QUOTA_COUNT a) + 1)
  if s2.takeable o then s2.wakeBook a b 16 else s2

/-- An accepted submission takes the lowest free slot and the next BSEQ of its book (R111). -/
def State.submitDo (s : State) (a word pred : Nat) (body : List Byte) : State :=
  s.submitAt s.nextHandle (s.book a (bits word 3 0)).next a word pred body

/-- The handles of a book's orders, with their distance from the head: the order of the book. -/
def State.inBook (s : State) (a b : Nat) : List (Nat × Order) :=
  s.orders.filterMap fun e => match e.2 with
    | some o => if o.acct = a ∧ o.book = b then some (e.1, o) else none
    | none => none

/-- How far a BSEQ lies past the head of its book. -/
def State.pastHead (s : State) (o : Order) : Nat :=
  (o.bseq + 2 ^ 32 - (s.book o.acct o.book).head) % 2 ^ 32

/-- The oldest of some orders of one book. -/
def oldestOf (s : State) : List (Nat × Order) → Option (Nat × Order)
  | [] => none
  | e :: es =>
    match oldestOf s es with
    | none => some e
    | some e' => if s.pastHead e.2 ≤ s.pastHead e'.2 then some e else some e'

/-- The oldest untaken order of a book that is not damaged (R113, R117). -/
def State.oldestUntaken (s : State) (a b : Nat) : Option (Nat × Order) :=
  oldestOf s ((s.inBook a b).filter fun e => e.2.taker.isNone && ! e.2.bad)

/-- Whether an order is the oldest unsettled one of its book. -/
def State.isHead (s : State) (o : Order) : Bool := o.bseq = (s.book o.acct o.book).head

/-- ORDER_SETTLED of book `b` (R344). -/
def evSettled (b : Nat) : Nat := 0x100 + b

/-- Settlement frees the slot, moves the book's head, records the result, and wakes tellers when an order that named
the settled one has become takeable (R114, R115). -/
def State.settleDo (s : State) (h : Nat) (o : Order) (result : Nat) : State :=
  let k := s.book o.acct o.book
  let s1 := (s.setOrder h none).setBook o.acct o.book { k with head := (o.bseq + 1) % 2 ^ 32, last := result }
  let s2 := (s1.setFld LDG_COUNT_ORDERS (s.fld LDG_COUNT_ORDERS - 1)).setFld (LDG_QUOTA_COUNT o.acct)
    (s.fld (LDG_QUOTA_COUNT o.acct) - 1)
  if (s2.inBook o.acct o.book).any fun e => e.2.pred = some o.bseq && s2.takeable e.2 then
    s2.wakeBook o.acct o.book 16
  else s2

/-- A submission the Manager accepted, at the handle and BSEQ it gave (R320, R327). An order that still stands in the
slot is one the Manager has settled before: it settles first, its book's result unchanged. DEDUCED (log entry 17). -/
def State.submitMirrored (s : State) (h n a word pred : Nat) (body : List Byte) : State :=
  let s1 := match s.order h with
    | some o => s.settleDo h o (s.book o.acct o.book).last
    | none => s
  s1.submitAt h n a word pred body

/-- Settlement with its ORDER_SETTLED record (R114). -/
def State.settle (s : State) (h : Nat) (o : Order) (result incident : Nat) : State :=
  (s.settleDo h o result).post o.acct (evSettled o.book) result 0 incident

/-- A damaged untaken order that has become the oldest unsettled one is settled by the ledger with 0xFFFF_FFFF; `n`
bounds how many follow one another (R117). Its record carries the number of the block's open incident.
DESIGN CHOICE (log entry 70). -/
def State.settleDamaged (s : State) (a b : Nat) : Nat → State
  | 0 => s
  | n + 1 =>
    match (s.inBook a b).find? fun e => s.isHead e.2 && e.2.bad && e.2.taker.isNone with
    | some (h, o) => (s.settle h o 0xFFFFFFFF (s.incOf 3)).settleDamaged a b n
    | none => s

/-- A reset taker's orders return untaken to their places with the ABANDONED mark (R116); a damaged one is then
handled as a damaged untaken order (R117). -/
def State.returnOrders (s : State) (t : Nat) : List (Nat × Option Order) → State
  | [] => s
  | (h, some o) :: es =>
    if o.taker = some t then
      let o' := { o with taker := none, aband := true }
      let s1 := s.setOrder h (some o')
      let s2 := if s1.takeable o' then s1.wakeBook o.acct o.book 16 else s1
      (s2.settleDamaged o.acct o.book 4096).returnOrders t es
    else s.returnOrders t es
  | (_, none) :: es => s.returnOrders t es

/-! Locks. -/

def State.lock (s : State) (l : Nat) : Lock := tabGet ⟨none, false⟩ s.locks l
def State.setLock (s : State) (l : Nat) (k : Lock) : State := { s with locks := tabSet ⟨none, false⟩ s.locks l k }

/-- The account a lock is held under (R118). -/
def Holder.account : Holder → Nat
  | .teller _ a => a
  | .host a => a

/-- Whether a held lock counts for the rank of a requester: held by the teller itself, or under its account. -/
def countsFor (t : Option Nat) (acct : Nat) : Holder → Bool
  | .teller t' a => t = some t' || a = acct
  | .host a => a = acct

/-- One more than the highest lock that counts for a requester, 0 for none. -/
def rankOf (t : Option Nat) (acct : Nat) : Tab Lock → Nat
  | [] => 0
  | (l, k) :: m =>
    match k.holder with
    | some h => if countsFor t acct h then max (l + 1) (rankOf t acct m) else rankOf t acct m
    | none => rankOf t acct m

/-- The decision of R118 for lock `l`: a status code. -/
def State.lacqStatus (s : State) (t : Option Nat) (acct l : Nat) : Nat :=
  if l > 255 then stBadArg
  else if l + 1 ≤ rankOf t acct s.locks then stRank
  else if (s.lock l).holder.isSome then stBusy
  else if (s.lock l).aband then stAbandoned else stOk

/-- The lock becomes held; the mark stays until this holder releases it (R118, R120). -/
def State.lacqDo (s : State) (l : Nat) (h : Holder) : State := s.setLock l { s.lock l with holder := some h }

/-- TEV.LCK in every teller last refused lock `l`; it forgets the lock (R118). -/
def State.wakeLock (s : State) (l : Nat) : Nat → State
  | 0 => s
  | t + 1 =>
    (if (s.teller t).lckWait = some l then (s.setTev t tevLck).mapTeller t fun x => { x with lckWait := none }
     else s).wakeLock l t

/-- A release by its holder: the mark clears (R119, R120). -/
def State.lrelDo (s : State) (l : Nat) : State := (s.setLock l ⟨none, false⟩).wakeLock l 16

/-- A release because the holder was reset: the lock carries the ABANDONED mark (R120). -/
def State.lockAbandon (s : State) (l : Nat) : State :=
  ((s.setLock l ⟨none, true⟩).inc LCK_ABANDCNT_COUNT).wakeLock l 16

/-- Every lock whose holder satisfies `p` is released and marked. -/
def State.abandonLocks (s : State) (p : Holder → Bool) : List (Nat × Lock) → State
  | [] => s
  | (l, k) :: m =>
    match k.holder with
    | some h => (if p h then s.lockAbandon l else s).abandonLocks p m
    | none => s.abandonLocks p m

end Sys2Proof.Machine
end

