-- ==== Sys2Proof/Machine/Gates.lean ====
section
/-! DEFINITION. The drive die's view of gate drive: its copy of the forwarded settings (R13, R394), what every gate,
low-side and brake-chopper output does (R235 to R239, R243), and the interlock (R239). An output is a function of the
state, so nothing can drive a ball that these functions hold off. -/

namespace Sys2Proof.Machine

def State.setPlant (s : State) (p : Plant) : State := { s with plant := p }

/-! The settings of the drive die. -/

/-- The value the drive die works with: a forwarded field whose last write no drive-link frame has carried over keeps its
old value there (R394). -/
def State.drvFld (s : State) (f : Field) : Nat :=
  match tabGet none s.plant.stale f.key with
  | some v => v
  | none => s.fld f

/-- Bit 0 of a forwarded field, as the drive die has it. -/
def State.drvFlag (s : State) (f : Field) : Bool := s.drvFld f = 1

/-- The drive die has its supply and has left reset: it holds settings and reports (R381, R394). -/
def State.dieUp (s : State) : Bool := ! s.pwr.drvReset && ! s.pwr.drvClamped

/-- The fields of channel `c` and of brake chopper `a` that the logic die forwards; ARM goes by its latch (R394). -/
def chanForwarded (c : Nat) : List Field :=
  [GDR_CHCFG_DESATBLK c, GDR_CHCFG_DESATV c, GDR_CHCFG_DT c, GDR_CHCFG_FIXSTEP c, GDR_CHCFG_VMSEL c, GDR_CHCFG_BOOST c,
   GDR_CHCFG_TRICKLE c, GDR_CHCFG_ADAPT c, GDR_STR_MAXSTEP c, GDR_STR_MINSTEP c, GDR_STR_TOL c, GDR_STR_TARGET c]
def brkForwarded (a : Nat) : List Field :=
  [GDR_BRKCFG_OFF a, GDR_BRKCFG_ON a, GDR_BRKCTL_MINON a, GDR_BRKCTL_TRIP a]

/-- Every forwarded field. -/
def forwarded : List Field := (List.range 52).flatMap chanForwarded ++ (List.range 2).flatMap brkForwarded

/-- A forwarded field that has changed since `was` keeps on the drive die the value it had there. -/
def State.staleField (was s : State) (f : Field) : State :=
  if was.fld f = s.fld f ∨ (tabGet none s.plant.stale f.key).isSome then s
  else s.setPlant { s.plant with stale := tabSet none s.plant.stale f.key (some (was.fld f)) }

/-- Fields of `fs` written since `was`, up to the frame that carries them; a die in reset holds no setting. -/
def State.staleFields (was s : State) (fs : List Field) : State := if s.dieUp then fs.foldl was.staleField s else s

/-! Axes and their channels. -/

/-- The channels of an axis (R235). -/
def axisChannels (i : Nat) : List Nat :=
  if i < 12 then [3 * i, 3 * i + 1, 3 * i + 2] else (List.range 4).map fun k => 36 + 4 * (i - 12) + k

/-- The axis that owns a channel, and the channel's place among its phases. -/
def chanAxis (c : Nat) : Nat := if c < 36 then c / 3 else 12 + (c - 36) / 4
def chanPhase (c : Nat) : Nat := if c < 36 then c % 3 else (c - 36) % 4

def State.axisP (s : State) (i : Nat) : Axis := tabGet Axis.init s.plant.axes i
def State.setAxis (s : State) (i : Nat) (x : Axis) : State :=
  s.setPlant { s.plant with axes := tabSet Axis.init s.plant.axes i x }
def State.mapAxis (s : State) (i : Nat) (f : Axis → Axis) : State := s.setAxis i (f (s.axisP i))

/-- MOT_STATi.STATE (R259). -/
def axOff : Nat := 0
def axSensing : Nat := 1
def axBraking : Nat := 2
def axAligning : Nat := 3
def axOpenLoop : Nat := 4
def axRunning : Nat := 5
def axStopping : Nat := 6
def axCoasting : Nat := 7
def axHolding : Nat := 8

def State.axState (s : State) (i : Nat) : Nat := s.fld (MOT_STAT_STATE i)
def State.setAxState (s : State) (i v : Nat) : State := s.setFld (MOT_STAT_STATE i) v

/-- An axis whose loops run: neither off nor coasting. -/
def State.axisLive (s : State) (i : Nat) : Bool := s.axState i ≠ axOff && s.axState i ≠ axCoasting

/-! Outputs. -/

/-- What a switching command or an output does: off, on throughout, or on for `n` of every `period` counts of 5 ns. -/
inductive Gate
  | off
  | on
  | pwm (n period : Nat)
deriving DecidableEq, Repr

/-- On for `n` counts of a period; a period of 0 stops the output (R260). -/
def Gate.ofDuty (n period : Nat) : Gate :=
  if period = 0 ∨ n = 0 then .off else if n ≥ period then .on else .pwm n period

/-- On whenever the other gate of the channel is not commanded on. -/
def Gate.rest (n period : Nat) : Gate := if period = 0 then .off else .ofDuty (period - n) period

/-- On later in each on time: a gate that follows the `other` one waits for the dead time `d`, of which the time when both
are off is a part. -/
def Gate.after (g other : Gate) (d : Nat) : Gate :=
  match g, other with
  | .pwm n p, .pwm m _ => .ofDuty (n - (d - (p - n - m) / 2)) p
  | g, _ => g

def State.hvP (s : State) (h : Nat) : Hv := tabGet Hv.init s.plant.hv h
def State.zoneP (s : State) (z : Nat) : Zone := tabGet Zone.init s.plant.zones z

/-- The developer channel whose AC synthesiser drives gate channel `c` (R271). -/
def State.acDriver (s : State) (c : Nat) : Option Nat :=
  [1, 5, 9, 13].find? fun h => (s.hvP h).ac ≠ 0 && s.fld (HVS_ACCFG_ACOUT h) = c

/-- The half-bridge of the AC stage of channel `h`: at ACFREQ, to 20 ns, each half-cycle carries a pulse whose width is the
output of LOOP + 1 in counts of 5 ns (R271). DESIGN CHOICE (log entry 73). -/
def State.acGate (s : State) (h : Nat) : Gate :=
  let f := max 1 (s.fld (HVS_ACFREQ_HZ h))
  let p := 4 * ((50000000 + f / 2) / f)
  .ofDuty (min (tabGet LoopSt.init s.plant.loops (s.fld (HVS_CHCFG_LOOP h) + 1)).out.toNat (p / 2)) p

/-- The command of a gate by its channel's mode, without a priority-0 force (R236). In AXIS mode the axis drives it unless
it is off, coasting or sensing (R251); GPWM commands the low side whenever the high side is off, and gives way to the AC
stage that drives the channel. DEDUCED (log entry 45), DESIGN CHOICE (log entry 73). -/
def State.modeGate (s : State) (c : Nat) (low : Bool) : Gate :=
  let i := chanAxis c
  match s.fld (GDR_CHCFG_MODE c) with
  | 1 =>
    if s.axisLive i ∧ s.axState i ≠ axSensing then
      match (s.axisP i).duties[chanPhase c]? with
      | some d => if low then .rest d 5000 else .ofDuty d 5000
      | none => .off
    else .off
  | 2 =>
    match s.acDriver c with
    | some h => s.acGate h
    | none =>
      let p := s.fld (GDR_PWM_PERIOD c)
      let d := s.fld (GDR_PWM_DUTY c)
      if low then .rest d p else .ofDuty d p
  | 3 => if (s.fld (GDR_PWM_DUTY c)).testBit (if low then 1 else 0) then .on else .off
  | _ => .off

/-- The command of a gate: a priority-0 force before the mode (R102, R236). -/
def State.gateCmd (s : State) (c : Nat) (low : Bool) : Gate :=
  let k := 2 * c + (if low then 1 else 0)
  if s.fbit (TAU_P0EN_BITS (k / 32)) (k % 32) then (if s.fbit (TAU_P0LVL_BITS (k / 32)) (k % 32) then .on else .off)
  else s.modeGate c low

/-- The drive die takes gate, low-side and enable commands: OUTEN, a die with its supply and configured, its link alive,
and no EXTEST (tap 3), which holds every output off (R15, R28, R381, R389). -/
def State.outputsLive (s : State) : Bool := s.flag GLB_DRVEN_OUTEN && s.dieUp && s.pwr.linkUp && s.tap ≠ 3

/-- A channel is live: its mode is not OFF, no escalation holds it off, the node's outputs are enabled (R237). -/
def State.chanLive (s : State) (c : Nat) : Bool :=
  s.fld (GDR_CHCFG_MODE c) ≠ 0 && ! s.plant.chOff.testBit c && s.outputsLive

/-- Both gate commands of a live channel are on together, at some time of a period or throughout; the two commands of one
PWM never are (R239). -/
def State.gatesClash (s : State) (c : Nat) : Bool :=
  s.chanLive c &&
    match s.gateCmd c false, s.gateCmd c true with
    | .off, _ => false
    | _, .off => false
    | .pwm _ _, .pwm _ _ => false
    | _, _ => true

/-- What a gate does (R237, R239): off on a channel that is not live; while both commands are on both gates are off, and
the gate that follows the other one turns on after the dead time. -/
def State.gateOut (s : State) (c : Nat) (low : Bool) : Gate :=
  let g := s.gateCmd c low
  let other := s.gateCmd c (! low)
  let dt := s.drvFld (GDR_CHCFG_DT c)
  if ¬ s.chanLive c then .off
  else if s.gatesClash c then
    match g, other with
    | .on, .pwm n p => (Gate.ofDuty (p - n) p).after other dt
    | _, _ => .off
  else g.after other dt

/-- A zone whose heater is fired in bursts, from low-side output `k` (R273, R274). -/
def State.burstOf (s : State) (k : Nat) : Option Nat :=
  (List.range 24).find? fun z => s.flag (FUS_ZCFG_EN z) && ! s.flag (FUS_ZCFG_HEAT z) && s.fld (FUS_ZCFG_OUTIDX z) = k

/-- The command of a low-side output and what it does (R102, R236, R237, R245, R260): a burst zone's half-cycles come
before GPWM and STATIC. DESIGN CHOICE (log entry 73). -/
def State.lsOut (s : State) (k : Nat) : Gate :=
  let d := s.fld (GDR_LSPWM_DUTY k)
  let mode := s.fld (GDR_LSMODE_MODE k)
  if mode = 0 ∨ s.plant.lsOff.testBit k ∨ ¬ s.outputsLive then .off
  else if s.fbit (TAU_P0EN_BITS 4) k then (if s.fbit (TAU_P0LVL_BITS 4) k then .on else .off)
  else match s.burstOf k with
    | some z => if (s.zoneP z).on then .on else .off
    | none =>
      if mode = 1 then .ofDuty d (s.fld (GDR_LSPWM_PERIOD k))
      else if d.testBit 0 then .on else .off

def State.brake (s : State) (a : Nat) : Brake := tabGet Brake.init s.plant.brakes a
def State.setBrake (s : State) (a : Nat) (b : Brake) : State :=
  s.setPlant { s.plant with brakes := tabSet Brake.init s.plant.brakes a b }

/-- Whether a brake-chopper output is on (R243): by its comparator while ARM is latched on the drive die, or by FORCE
through the enable line, which stands with the node's outputs. A Standby and a Retired node drive none (R18, R19), nor
does EXTEST (R389). DEDUCED (log entry 45). -/
def State.brakeOn (s : State) (a : Nat) : Bool :=
  s.dieUp && ! s.isStandby && s.role ≠ 4 && s.tap ≠ 3 &&
    ((s.flag (GDR_BRKCTL_ARM a) && (s.brake a).on) || (s.flag (GDR_BRKCTL_FORCE a) && s.outputsLive))

/-! The interlock (R239). -/

/-- An interlock event of channel `c`. -/
def State.ilkEvent (s : State) (c : Nat) : State := (s.inc (GDR_ILKCNT_ILKCNT c)).setOn GDR_STATUS_ILK

/-- `Plant.ilk` of channel `c`: none without a clash, else the cycles since its last event. -/
def State.setIlk (s : State) (c : Nat) (v : Option Nat) : State :=
  s.setPlant { s.plant with ilk := tabSet none s.plant.ilk c v }

/-- A clash of channel `c` that has begun is an event; one that has ended is forgotten. -/
def State.ilkCheck (s : State) (c : Nat) : State :=
  match s.gatesClash c, tabGet none s.plant.ilk c with
  | true, none => (s.ilkEvent c).setIlk c (some 0)
  | false, some _ => s.setIlk c none
  | _, _ => s

/-- The interlock of the channels below `n`. DEDUCED (log entry 45). -/
def State.interlock (s : State) : Nat → State
  | 0 => s
  | n + 1 => (s.ilkCheck n).interlock n

/-- The cycles of 1.25 ns in a period of the PWM that clashes with the other gate of channel `c`; 0: no PWM does. -/
def State.clashCycles (s : State) (c : Nat) : Nat :=
  match s.gateCmd c false, s.gateCmd c true with
  | .pwm _ p, _ => 4 * p
  | _, .pwm _ p => 4 * p
  | _, _ => 0

/-- One cycle of the clashes that stand: a clash with a PWM begins anew in every period. -/
def State.ilkCycle (s : State) : Tab (Option Nat) → State
  | [] => s
  | (c, n) :: l =>
    let t := n.getD 0 + 1
    (if s.clashCycles c = 0 then s
      else if t ≥ s.clashCycles c then (s.ilkEvent c).setIlk c (some 0) else s.setIlk c (some t)).ilkCycle l

/-- The interlock in one cycle. -/
def State.ilkTick (s : State) : State :=
  let s1 := if s.flag GLB_DRVEN_OUTEN ∨ s.plant.ilk ≠ [] then s.interlock 52 else s
  s1.ilkCycle s1.plant.ilk

/-! The strength steps and what the drive die reports (R240 to R243, R394). -/

/-- The steps that a channel's settings leave: 15 with BOOST, FIXSTEP without ADAPT, else the present ones within MINSTEP
to MAXSTEP. DESIGN CHOICE (log entry 72). -/
def State.fixSteps (s : State) (c : Nat) : State :=
  let put (f : State → Field → Nat) : State := (s.setFld (GDR_STR_HSSTEP c) (f s (GDR_STR_HSSTEP c))).setFld
    (GDR_STR_LSSTEP c) (f s (GDR_STR_LSSTEP c))
  if s.drvFlag (GDR_CHCFG_BOOST c) then put fun _ _ => 15
  else if s.drvFlag (GDR_CHCFG_ADAPT c) then
    put fun s f => clampN (s.drvFld (GDR_STR_MINSTEP c)) (s.drvFld (GDR_STR_MAXSTEP c)) (s.fld f)
  else put fun s _ => s.drvFld (GDR_CHCFG_FIXSTEP c)

/-- A drive-link frame carries every forwarded setting and ARM to the drive die, which leaves reset with it (R394). -/
def State.driveApply (s : State) : State :=
  let arm (s : State) (a : Nat) : State :=
    if (s.brake a).armReq then (s.setBrake a { s.brake a with armReq := false }).setOn (GDR_BRKCTL_ARM a) else s
  let s1 := if s.plant.stale = [] ∧ s.dieUp then s
    else (List.range 52).foldl State.fixSteps (s.setPlant { s.plant with stale := [] })
  arm (arm s1 0) 1

/-- The link brings the switch-node voltages the phase-voltage monitor has measured, in 10 mV, from channel `c` on
(R251). DESIGN CHOICE (log entry 42). -/
def State.showVsw (s : State) (c : Nat) : List Nat → State
  | [] => s
  | v :: vs => (if c < 52 then s.setFld (GDR_VSW_VSW c) (min v 0xFFFF) else s).showVsw (c + 1) vs

/-- The link brings the gate supply: GDR_VGD and VGDUV (R242). -/
def State.vgdReport (s : State) : State :=
  if ¬ s.pwr.linkUp then s
  else
    let s1 := s.setFld GDR_VGD_VALUE s.plant.vgd
    if s.plant.vgdUv then s1.raise 13 64 else s1

/-- The link brings what chopper `a` reports: SENSE, ONTIME, and OVA or OVB (R243). -/
def State.brakeReport (s : State) (a : Nat) : State :=
  let b := s.brake a
  if ¬ s.pwr.linkUp then s
  else
    let s1 := ((s.setFld (GDR_BRKSENSE_SENSE a) b.sense).incBy (GDR_BRKONTIME_ONTIME a) b.us).setBrake a
      { b with us := 0, tripped := false }
    if b.tripped then s1.raise 13 (65 + a) else s1

/-- The comparator of chopper `a` at its present sense voltage: it turns on above ON, and off below OFF once it has been
on for MINON half-microseconds (R243). -/
def State.brakeCompare (s : State) (a : Nat) : State :=
  let b := s.brake a
  let on : Bool := if b.on then ! (b.sense < s.drvFld (GDR_BRKCFG_OFF a) && b.since ≥ 400 * s.drvFld (GDR_BRKCTL_MINON a))
    else b.sense > s.drvFld (GDR_BRKCFG_ON a)
  s.setBrake a { b with on := on, since := if b.on then b.since else 0 }

/-- The sense voltage of chopper `a` is compared with the TRIP in effect, to which either may have moved: rising above it
counts once (R243). -/
def State.brakeTrip (s : State) (a : Nat) : State :=
  let b := s.brake a
  let above := decide (b.sense > s.drvFld (GDR_BRKCTL_TRIP a))
  s.setBrake a { b with above := above, tripped := b.tripped || above && ! b.above }

/-- One cycle of chopper `a`: its on time in µs of 800 cycles, and the comparators. -/
def State.brakeTick (s : State) (a : Nat) : State :=
  if ¬ s.dieUp then s
  else
    let b := s.brake a
    let n := if s.brakeOn a then b.cyc + 1 else b.cyc
    let s1 := ((s.setBrake a { b with
      since := if b.on then min (b.since + 1) 25200 else 0, cyc := n % 800, us := b.us + n / 800, heat := b.heat + n / 800 }).brakeCompare a).brakeTrip
      a
    if n = 800 ∨ (s1.brake a).tripped then s1.brakeReport a else s1

end Sys2Proof.Machine
end

