-- ==== Sys2Proof/Machine/TauOps.lean ====
section
/-! DEFINITION. The comparators of the timed-action unit and the priority-0 force state (R96, R97, R102, R106). -/

namespace Sys2Proof.Machine

def State.cmp (s : State) (n : Nat) : Cmp := tabGet Cmp.init s.cmps n
def State.setCmp (s : State) (n : Nat) (c : Cmp) : State := { s with cmps := tabSet Cmp.init s.cmps n c }

/-- ARM: the target, the next arming sequence value, the outcome of the latest arming cleared (R73, R97). -/
def State.armCmp (s : State) (n target : Nat) : State :=
  { s with
    cmps := tabSet Cmp.init s.cmps n ⟨target, s.armSeq, true, true, false, false, false, false, false⟩
    armSeq := s.armSeq + 1 }

/-- DISARM: no effect on a comparator that is not armed (R73). -/
def State.disarmCmp (s : State) (n : Nat) : State :=
  let c := s.cmp n
  if c.armed then s.setCmp n { c with armed := false, held := false } else s

/-- The armed comparators of teller `t`'s bank (R73). -/
def State.bankArmed (s : State) (t : Nat) : List Nat := tabKeys (fun n c => n / 256 = t && c.armed) s.cmps

/-- Every comparator of a list disarmed. -/
def State.disarmAll (s : State) : List Nat → State
  | [] => s
  | n :: ns => (s.disarmCmp n).disarmAll ns

/-- Every comparator of a list dropped: disarmed without action, DROPPED set (R108). -/
def State.dropAll (s : State) : List Nat → State
  | [] => s
  | n :: ns =>
    let c := s.cmp n
    ((s.setCmp n { c with armed := false, held := false, dropped := true }).inc TAU_DROPCNT_COUNT).dropAll ns

/-- Mask bits used by a P0 group (R102). -/
def p0Range (k : Nat) : Nat := if k < 3 then 0xFFFFFFFF else if k = 3 then 0xFF else if k = 4 then 0xFFFFFF else 0

/-- Outputs of a group forced to levels, or released (R102). -/
def State.p0Apply (s : State) (k mask level : Nat) (rel : Bool) : State :=
  let en := s.fld (TAU_P0EN_BITS k)
  let lvl := s.fld (TAU_P0LVL_BITS k)
  let keepLvl := lvl ^^^ (lvl &&& mask)
  if rel then (s.setFld (TAU_P0EN_BITS k) (en ^^^ (en &&& mask))).setFld (TAU_P0LVL_BITS k) keepLvl
  else (s.setFld (TAU_P0EN_BITS k) (en ||| mask)).setFld (TAU_P0LVL_BITS k) (keepLvl ||| (level &&& mask))

/-- TAU_P0CLR's groups released to PWM control, from group `n - 1` down. -/
def State.p0Clear (s : State) (grp : Nat) : Nat → State
  | 0 => s
  | n + 1 => (if grp.testBit n then s.p0Apply n (p0Range n) 0 true else s).p0Clear grp n

end Sys2Proof.Machine
end

