-- ==== Sys2Proof/Machine/Escrow.lean ====
section
/-! DEFINITION. Escrow: slots and the lead station (R123, R124), commits (R129 to R131), the close (R132, R133), what
a Worker does with close and void records (R134 to R136), the end of a run (R138) and its records. -/

namespace Sys2Proof.Machine

/-! Geometry (R123, R124). -/

/-- The exposure offset En = TIM_STOFFn − TIM_DRUMARCn. -/
def State.expOff (s : State) (n : Nat) : Int := (s.fld (TIM_STOFF_LINES n) : Int) - s.fld (TIM_DRUMARC_LINES n)

/-- The stations of a mask, from 0 up. -/
def stationsOf (mask : Nat) : List Nat := (List.range 16).filter fun n => mask.testBit n

/-- The stations that take part (ESC_STMAP). -/
def State.stations (s : State) : List Nat := stationsOf (s.fld ESC_STMAP_STN)

/-- The station with the smallest exposure offset, the lower-numbered of equals. -/
def leadFrom (s : State) : List Nat → Option Nat
  | [] => none
  | n :: ns =>
    match leadFrom s ns with
    | none => some n
    | some m => if s.expOff n ≤ s.expOff m then some n else some m

/-- The lead station and a lag Δn = En − E(lead) as the registers stand (R123). -/
def State.leadNow (s : State) : Nat := (leadFrom s s.stations).getD 0
def State.lagNow (s : State) (n : Nat) : Nat := (s.expOff n - s.expOff s.leadNow).toNat

/-- A run is open, or on a Worker one more slot is expected. -/
def State.inRun (s : State) : Bool := s.esc.runOpen || s.esc.expect.isSome

/-- The geometry as the registers stand. -/
def State.geoNow (s : State) : Geo := ⟨s.fld ESC_STMAP_STN, s.leadNow, (List.range 16).map s.lagNow⟩

/-- The geometry: that fixed when the run opened, while it lasts. A slot in flight keeps that of its own run (R123). -/
def State.geo (s : State) : Geo := if s.inRun then s.esc.fixed.getD s.geoNow else s.geoNow

/-- The lead station (R123). -/
def State.lead (s : State) : Nat := s.geo.lead

/-- The lag of a station (R123). -/
def State.lag (s : State) (n : Nat) : Nat := s.geo.lag n

/-- The largest lag of the stations that take part. -/
def State.maxLagNow (s : State) : Nat := s.stations.foldl (fun m n => max m (s.lagNow n)) 0

/-- ESC_MINPITCH and ESC_STMAP.LEAD follow the station map, the lead and the offsets (R140). -/
def State.escGeometry (s : State) : State :=
  if s.fld ESC_STMAP_STN = 0 then (s.setFld ESC_MINPITCH_LINES 0).setFld ESC_STMAP_LEAD 0
  else (s.setFld ESC_MINPITCH_LINES ((s.maxLagNow + s.fld ESC_LEAD_LINES + 59) / 60)).setFld ESC_STMAP_LEAD s.leadNow

/-- ESC_ORIGIN as a line. -/
def State.origin (s : State) : Nat := s.fld ESC_ORIGINHI_LINE * 2 ^ 32 + s.fld ESC_ORIGINLO_LINE

def State.setEsc (s : State) (e : Esc) : State := { s with esc := e }

/-- A run opens: its lead station and lags are fixed (R123). -/
def State.fixGeo (s : State) : State :=
  if s.inRun then s else s.setEsc { s.esc with fixed := some s.geoNow }

def State.slot (s : State) (k : Nat) : SlotRec := tabGet SlotRec.none s.esc.slots k
def State.setSlot (s : State) (k : Nat) (r : SlotRec) : State :=
  { s with esc := { s.esc with slots := tabSet SlotRec.none s.esc.slots k r } }

/-- Whether the node holds slot `k`. -/
def State.inFlight (s : State) (k : Nat) : Bool := s.slot k ≠ SlotRec.none

/-- The WPOS lines of a slot's window at station `n`: first, and one past the last. -/
def SlotRec.winFrom (r : SlotRec) (n : Nat) : Nat := r.x + r.geo.lag n
def SlotRec.winTo (r : SlotRec) (n : Nat) : Nat := r.x + r.geo.lag n + r.desc.length

/-- The line at which a slot has left its last station (R135). -/
def SlotRec.over (r : SlotRec) : Nat := r.x + r.geo.maxLag + r.desc.length

/-- Lines left before the next window of a station that images now or later; none: no window is known. -/
def State.gapLeft (s : State) (stn : Nat) : Option Nat :=
  s.esc.slots.foldl (fun best e =>
    if s.wpos < e.2.winTo stn * 2 ^ 16 then
      let d := e.2.winFrom stn - s.wline
      match best with
      | some x => some (min x d)
      | none => some d
    else best) none

/-- ESC_CTL, ESC_STATUS and ESC_NEXTEC show the run as it stands; on the Standby they show what the Manager distributes
(R140). -/
def State.escSync (s : State) : State :=
  if s.isStandby then s else
  let e := s.esc
  let s1 := ((s.setBool ESC_CTL_RUN e.runOpen).setBool ESC_CTL_STOP e.stopReq).setBool ESC_STATUS_ENDING e.stopReq
  let s2 := (s1.setFld ESC_STATUS_AHEAD e.ahead.length).setFld ESC_STATUS_INFLIGHT e.slots.length
  let ec := if e.runOpen then e.ec else 0
  (s2.setFld ESC_NEXTECLO_VALUE (ec % 2 ^ 32)).setFld ESC_NEXTECHI_VALUE (ec / 2 ^ 32)

/-- A count of slots and commits goes up; the Standby shows the Manager's (R140). -/
def State.escCount (s : State) (f : Field) : State := if s.isStandby then s else s.incWrap f

/-- TEV.ESC in the tellers of ESC_TEVMASK. -/
def State.tevEscMask (s : State) : State := s.setTevMask (s.fld ESC_TEVMASK_T) tevEsc 16

/-- A frame record: WPOS x(k), to the account of ESC_EVACCT; only the Manager posts them. -/
def State.frameRecord (s : State) (type frame sub incident x : Nat) : State :=
  if s.isManager ∧ s.flag ESC_EVACCT_EN then
    s.postW (s.fld ESC_EVACCT_ACCT) type frame sub incident (x * 2 ^ 16 % 2 ^ 64)
  else s

/-! Voids (R135, R136). -/

/-- Reason codes of R135. -/
def rsEmpty : Nat := 1
def rsTable : Nat := 2
def rsCheck : Nat := 3
def rsStore : Nat := 4
def rsUnderrun : Nat := 5
def rsHead : Nat := 6
def rsScan : Nat := 7
def rsInhibit : Nat := 8
def rsNoclose : Nat := 9
def rsRequest : Nat := 10
def rsDescecc : Nat := 11

/-- The marks a slot's registration waits for. -/
def State.setMarks (s : State) (k : Nat) (m : Marks) : State :=
  { s with plant := { s.plant with marks := tabSet Marks.init s.plant.marks k m } }

/-- The stations whose TABLE is not 0. -/
def stationMaskOf (d : Desc) : Nat := (List.range 16).foldl (fun m n => if d.table n = 0 then m else m ||| 2 ^ n) 0

/-- The Manager records a void: log entry, VOIDCNT, FRAME_VOID, TEV.ESC; the slot has reached its end (R136), and a void
slot is not repeated by the next close (R133). -/
def State.voidRecord (s : State) (k : Nat) (r : SlotRec) (reason station incident : Nat) : State :=
  let i := k % 64
  let s1 := ((s.setSlot k SlotRec.none).setMarks k Marks.init).escCount ESC_VOIDCNT_COUNT
  let s2 := (((s1.setFld (ESC_LOGSLOT_SLOT i) k).setFld (ESC_LOG_REASON i) reason).setFld (ESC_LOG_STATION i)
    station).setFld (ESC_LOG_INCIDENT i) incident
  let s2' := match s.esc.prev with
    | some (kind, d) =>
      if kind ≠ 3 ∧ s.esc.lastClosed.any (fun c : Nat × Nat => c.2 = r.x) then s2.setEsc { s2.esc with prev := some (3, d) } else s2
    | none => s2
  let s3 := s2'.setFld (ESC_LOG_MORE i) 0
  let frame := if r.kind = 3 then noFrame else r.desc.frame
  (s3.frameRecord 0x201 frame reason incident r.x).tevEscMask

/-- A slot voided on the Manager: recorded, mirrored and sent to every node; a further reason for a slot already void
is only counted (R135, R136). -/
def State.voidSlot (s : State) (k reason station incident : Nat) : State :=
  let r := s.slot k
  if s.inFlight k then
    let frame := if r.kind = 3 then noFrame else r.desc.frame
    let v : VoidRec := ⟨k, reason, station, incident, frame⟩
    (((s.mirrorSend 0xFF 0 0 0 (.void v)).ringBoth none (.void v)).voidRecord k r reason station incident).escSync
  else if s.fld (ESC_LOGSLOT_SLOT (k % 64)) = k then s.inc (ESC_LOG_MORE (k % 64))
  else s

/-- Each slot of a list voided for one reason, at the station `at` names for it. -/
def State.voidAll (s : State) (reason incident : Nat) (stn : Nat → SlotRec → Option Nat) :
    List (Nat × SlotRec) → State
  | [] => s
  | (k, r) :: es =>
    (match stn k r with
     | some n => s.voidSlot k reason n incident
     | none => s).voidAll reason incident stn es

/-- The first station at which a slot's window meets a range of positions in WPOS format (R137). -/
def SlotRec.meets (r : SlotRec) (lo hi : Nat) : Option Nat :=
  (stationsOf r.geo.stns).find? fun n => r.winFrom n * 2 ^ 16 < hi && lo < r.winTo n * 2 ^ 16

/-- R137: INHIBIT's range is known or has moved out: every slot whose window meets it is void with INHIBIT. -/
def State.inhibitVoids (s : State) : State :=
  match s.esc.inhRange with
  | some (lo, hi, inc) => if s.isManager then s.voidAll rsInhibit inc (fun _ r => r.meets lo hi) s.esc.slots else s
  | none => s

/-- The first station at which a slot's window has not ended at the published WPOS. -/
def State.notEnded (s : State) (among : List Nat) (r : SlotRec) : Option Nat :=
  among.find? fun n => s.wpos < r.winTo n * 2 ^ 16

/-! Commits (R129 to R131). -/

/-- FRAME is later than the last accepted one (R129). -/
def State.frameLater (s : State) (f : Nat) : Bool :=
  ! s.esc.accepted || seqEarlier f (s.fld ESC_LASTFRAME_VALUE)

/-- A TABLE field names a station outside ESC_STMAP. -/
def State.badTables (s : State) (d : Desc) : Bool :=
  (List.range 16).any fun n => d.table n ≠ 0 && ! s.fbit ESC_STMAP_STN n

/-- The checks of R129 on 64 bytes, in order: a status code, OK when all pass. -/
def State.commitCheck (s : State) (bs : List Byte) : Nat :=
  let d := Desc.ofBytes bs
  if ¬ s.isManager then stNotRole
  else if crc32c (bs.take 60) ≠ ofLe (bs.drop 60) then stBadCrc
  else if d.flags / 8 ≠ 0 ∨ d.policy = 3 ∨ d.length < s.fld ESC_LEAD_LINES ∨ d.gap < 16
      ∨ d.length + d.gap < s.fld ESC_MINPITCH_LINES ∨ d.frame = noFrame ∨ ¬ s.frameLater d.frame ∨ s.badTables d
      ∨ s.fld ESC_STMAP_STN = 0 then stBadArg
  else if s.esc.ahead.length ≥ 8 then stEscrowFull
  else stOk

/-- Whether a commit accepted now is LATE (R131). A slot voided for DESCECC counts as filled by a fallback.
DESIGN CHOICE (log entry 77). -/
def State.commitLate (s : State) : Bool :=
  s.esc.ahead = [] && match s.esc.lastClosed with
    | some (kind, x) => kind ≠ 1 && s.wpos < x * 2 ^ 16
    | none => false

/-- A frame stands at the tail of escrow; LASTFRAME never goes back. -/
def State.commitStands (s : State) (d : Desc) (bad : Option Nat) : State :=
  let s1 := s.setEsc { s.esc with ahead := s.esc.ahead ++ [⟨d, bad⟩], accepted := true }
  if s.frameLater d.frame then s1.setFld ESC_LASTFRAME_VALUE d.frame else s1

/-- An accepted commit enters the tail of escrow (R130, R131); on the Standby LASTACC, LATECNT and LATESEEN are the
Manager's (R140). -/
def State.commitAccept (s : State) (d : Desc) (late : Bool) : State :=
  let s1 := s.commitStands d none
  if s.isStandby then s1
  else
    let s2 := (s1.setFld ESC_LASTACCLO_VALUE (s.wpos % 2 ^ 32)).setFld ESC_LASTACCHI_VALUE (s.wpos / 2 ^ 32)
    let s3 := if late then (s2.incWrap ESC_LATECNT_COUNT).setOn ESC_STATUS_LATESEEN else s2
    s3.escSync

/-! Runs and the close (R132, R133, R138). -/

/-- ESC_CTL.RUN's refusal (R140): no station, ESC_DEFLEN < ESC_LEAD, or the first close line not above WPOS. -/
def State.runRefused (s : State) : Bool :=
  s.fld ESC_STMAP_STN = 0 || s.fld ESC_DEFLEN_LINES < s.fld ESC_LEAD_LINES ||
    s.origin ≤ s.wline + s.fld ESC_DEFGAP_LINES + s.fld ESC_LEAD_LINES

/-- A run opens at ESC_ORIGIN (R132). -/
def State.runOpenAt (s : State) : State :=
  let s1 := s.fixGeo
  (s1.setEsc { s1.esc with
    runOpen := true, stopReq := false, x := s.origin, prev := none, lastEnd := none
    ec := s.origin - s.fld ESC_DEFGAP_LINES - s.fld ESC_LEAD_LINES }).escSync

/-- A stop request (R138): on the Manager the run ends at the next close; a Worker asks the Manager. The manual lists
no reason codes for STOPREQ: its reason is a free value. -/
def State.stopRequest (s : State) : State :=
  if s.isManager then
    if s.esc.runOpen then (s.setEsc { s.esc with stopReq := true }).escSync else s
  else if s.isWorker ∨ s.isStandby then
    let (r, s1) := s.free (2 ^ 32)
    s1.ringUni s1.mgrEp (.stopreq r)
  else s

/-- The fallback POLICY of the slot after `prev`: 1 VOID, 2 REPEAT (R126, R132). -/
def State.fallback (s : State) : Nat :=
  match s.esc.prev with
  | none => 1
  | some (_, d) => if d.policy = 0 then (if s.flag ESC_CTL_DEFPOL then 2 else 1) else d.policy

/-- The geometry of a void slot (R124). -/
def State.voidGeometry (s : State) : Desc :=
  match s.esc.prev with
  | none => Desc.void (s.fld ESC_DEFLEN_LINES) (s.fld ESC_DEFGAP_LINES)
  | some (_, d) => Desc.void d.length d.gap

/-- The close record of the next slot (R132): a damaged or whole frame from escrow, a repeat, or a void. -/
def State.closeRec (s : State) : CloseRec :=
  let k := s.fld ESC_NEXTSLOT_VALUE
  let mk (kind reason : Nat) (d : Desc) : CloseRec := ⟨k, kind, reason, s.esc.ec, s.esc.x, d⟩
  match s.esc.ahead with
  | w :: _ => if w.bad.isSome then mk 3 rsDescecc s.voidGeometry else mk 1 0 w.desc
  | [] =>
    match s.esc.prev with
    | some (kind, d) =>
      if s.fallback = 2 ∧ d.repeatable ∧ kind ≠ 3 then mk 2 0 d else mk 3 rsEmpty s.voidGeometry
    | none => mk 3 rsEmpty s.voidGeometry

/-- NEXTSLOT after slot `k`; it never goes back: on the Standby the Manager's value may stand there already (R140). -/
def State.nextSlot (s : State) (k : Nat) : State :=
  if (s.fld ESC_NEXTSLOT_VALUE + 2 ^ 32 - (k + 1) % 2 ^ 32) % 2 ^ 32 < 2 ^ 31 then s else s.setFld ESC_NEXTSLOT_VALUE (k + 1)

/-- A close takes its place in the run: slot table, previous slot, next x and EC (R132). -/
def State.closeApply (s0 : State) (c : CloseRec) : State :=
  let s := s0.fixGeo
  let e := s.esc
  let r : SlotRec := ⟨c.kind, c.desc, c.x, c.ec, none, 0, 0, 0, [], [], s.geo, 0⟩
  let s1 := s.setEsc { e with
    ahead := if c.kind = 1 ∨ c.reason = rsDescecc then e.ahead.drop 1 else e.ahead
    slots := tabSet SlotRec.none e.slots c.slot r
    prev := some (c.kind, c.desc), lastClosed := some (c.kind, c.x), runOpen := true
    lastEnd := some r.over
    x := c.x + c.desc.length + c.desc.gap, ec := c.x + c.desc.length - s.fld ESC_LEAD_LINES }
  let s1' := if s.flag CLB_MKCFG_EN ∧ c.kind ≠ 3 then s1.setMarks c.slot { Marks.init with x := c.x, mask := stationMaskOf c.desc } else s1
  let s2 := s1'.nextSlot c.slot
  if c.kind = 2 then s2.escCount ESC_REPCNT_COUNT else s2

/-- The run ends at this close (R138): end-of-run record, ESC_ENDPOS. -/
def State.endRun (s : State) : State :=
  let k := s.fld ESC_NEXTSLOT_VALUE
  let endPos := s.esc.lastEnd.getD s.esc.ec
  let s1 := s.ringBoth none (.endrun k s.esc.ec)
  let s2 := (s1.setFld ESC_ENDPOSLO_LINE (endPos % 2 ^ 32)).setFld ESC_ENDPOSHI_LINE (endPos / 2 ^ 32)
  (s2.setEsc { s2.esc with runOpen := false, stopReq := false, prev := none }).escSync

/-- The escrow close (R132): in the first cycle at or past EC the Manager fills the slot and sends its record. -/
def State.escrowClose (s : State) : State :=
  if ¬ (s.isManager ∧ s.esc.runOpen ∧ s.esc.ec * 2 ^ 16 ≤ s.wpos) then s
  else if s.esc.stopReq then s.endRun
  else
    let c := s.closeRec
    let inc := match s.esc.ahead with
      | w :: _ => w.bad.getD 0
      | [] => 0
    let s1 := ((s.mirrorSend 0xFF 0 0 0 (.close c)).ringBoth none (.close c)).closeApply c
    let s2 := (if c.kind = 2 then s1.frameRecord 0x202 c.desc.frame 0 0 c.x else s1).tevEscMask
    let s3 := if c.kind = 3 then s2.voidRecord c.slot (s2.slot c.slot) c.reason s1.lead inc else s2
    s3.inhibitVoids.escSync

/-- Closes whose EC the published WPOS has reached (R132, R134); `n` bounds them. -/
def State.closesDue (s : State) : Nat → State
  | 0 => s
  | n + 1 =>
    if s.isManager ∧ s.esc.runOpen ∧ s.esc.ec * 2 ^ 16 ≤ s.wpos then s.escrowClose.closesDue n else s

/-! A Worker's side (R134, R136). -/

/-- The byte of GLB_PORTMAP for port `n`, its enable, station and position (R22, R28). -/
def State.portByte (s : State) (n : Nat) : Nat := s.fld GLB_PORTMAP_MAP / 256 ^ n % 256
def State.portEn (s : State) (n : Nat) : Bool := s.portByte n ≥ 128
def State.portStn (s : State) (n : Nat) : Nat := s.portByte n / 8 % 16
def State.portPos (s : State) (n : Nat) : Nat := s.portByte n % 8

/-- The ports bound to a station. -/
def State.portsOf (s : State) (stn : Nat) : List Nat :=
  (List.range 4).filter fun n => s.portEn n && s.portStn n = stn

/-- The stations a Worker serves, from 0 up. -/
def State.served (s : State) : List Nat := (List.range 16).filter fun n => s.portsOf n ≠ []

/-- A change made at each port of a list. -/
def eachPort (f : Nat → State → State) : List Nat → State → State
  | [], s => s
  | n :: ns, s => eachPort f ns (f n s)

/-- FRM PHASE codes (R141). -/
def phIdle : Nat := 0
def phReleased : Nat := 1
def phImaging : Nat := 2
def phBlanking : Nat := 3
def phGap : Nat := 4

/-- Slot `k` is void at a station: a port that images or holds it reads VOID. Inside the window the port blanks from a sweep
boundary on (R136 step 4). -/
def State.blankSlot (s : State) (k stn : Nat) : State :=
  eachPort (fun n s => if s.fld (FRM_SLOT_SLOT n) = k then s.setFld (FRM_PHASE_KIND n) 3 else s) (s.portsOf stn) s

/-- A void of a slot known on this node: the slot is void from now on, and every station that has not finished its
window blanks it (R136 step 4). -/
def State.voidLocal (s : State) (k reason : Nat) : State :=
  let r := s.slot k
  if s.inFlight k then
    let s1 := if r.voided.isNone then s.setSlot k { r with voided := some reason, voidAt := s.time.cycles } else s
    (s.served.foldl (fun s n => if r.ended.testBit n then s else s.blankSlot k n) s1).cancelSlot k
  else s

/-- A station has raised a void of the slot. -/
def SlotRec.raisedAt (r : SlotRec) (stn : Nat) : Bool := r.raised.any fun p => p.1 = stn

/-- The first frame line that a station which raised a void cannot image; `line` is that of one more reason. -/
def SlotRec.darken (r : SlotRec) (stn line : Nat) : List (Nat × Nat) :=
  (stn, (r.dark.filter fun p => p.1 = stn).foldl (fun m p => min m p.2) line) :: r.dark.filter fun p => p.1 ≠ stn

/-- A station images the slot blank in a sweep whose band reaches up to frame line `upto` (R136 step 1). -/
def SlotRec.darkAt (r : SlotRec) (stn : Nat) (upto : Int) : Bool := r.dark.any fun p => p.1 = stn && decide ((p.2 : Int) ≤ upto)

/-- The ports of a station that image the slot go blank. -/
def State.darkenSlot (s : State) (k stn : Nat) : State :=
  eachPort (fun n s =>
    if s.fld (FRM_SLOT_SLOT n) = k ∧ s.fld (FRM_PHASE_PHASE n) = phImaging then s.setFld (FRM_PHASE_PHASE n) phBlanking
    else s) (s.portsOf stn) s

/-- Ports of a station raise a void: the station images blank from the band with the first line it cannot image, frame
line `line`, and the Worker reports to the Manager (R136 steps 1, 2). A cause without an incident number of its own (0)
draws one. A reason the station has reported for the slot is not reported again. DEDUCED (log entry 33). -/
def State.voidRaise (s : State) (ps : List Nat) (k stn reason incident line : Nat) : State :=
  let r := s.slot k
  if s.inFlight k then
    let frame := if r.kind = 1 ∨ r.kind = 2 then r.desc.frame else noFrame
    let s1 := eachPort (fun n s => s.setFld (FRM_CAUSE_CAUSE n) reason) ps s
    if r.raised.contains (stn, reason) then s1
    else
      let s2 := s1.setSlot k { r with raised := r.raised ++ [(stn, reason)], dark := r.darken stn line }
      let s3 := if line = 0 then s2.darkenSlot k stn else s2
      let (inc, s4) := if incident = 0 then s3.newIncident else (incident, s3)
      s4.ringUni s4.mgrEp (.voidrep ⟨k, reason, stn, inc, frame⟩)
  else s

/-- A reason that concerns every port of a station. -/
def State.voidReport (s : State) (k stn reason incident line : Nat) : State :=
  s.voidRaise (s.portsOf stn) k stn reason incident line

/-- A reason without a fault event of its own (R136 step 2), for the whole window. -/
def State.voidRaiseNew (s : State) (ps : List Nat) (k stn reason : Nat) : State := s.voidRaise ps k stn reason 0 0

/-- The same for every port of a station. -/
def State.voidReportNew (s : State) (k stn reason : Nat) : State := s.voidRaiseNew (s.portsOf stn) k stn reason

/-- The slot a port images now, if it is imaging or blanking one. -/
def State.imagingSlot (s : State) (n : Nat) : Option Nat :=
  let ph := s.fld (FRM_PHASE_PHASE n)
  if ph = phImaging ∨ ph = phBlanking then some (s.fld (FRM_SLOT_SLOT n)) else none

/-- A port voids the slot it is imaging, on a Worker, with a block's incident. -/
def State.voidPort (s : State) (n reason incident : Nat) : State :=
  match s.imagingSlot n with
  | some k => s.voidRaise [n] k (s.portStn n) reason incident 0
  | none => s

/-- Every imaging window blanked and voided, reason REQUEST, with an incident (R319, R364). -/
def State.voidImaging (s : State) (reason incident : Nat) : State :=
  eachPort (fun n s => s.voidPort n reason incident) [0, 1, 2, 3] s

end Sys2Proof.Machine
end

