-- ==== Sys2Proof/Machine/ScanOps.lean ====
section
/-! DEFINITION. Shared operations of scan timing (R142 to R162): bands, the ramp, the phase error, suspension of the
phase loops, voids from the next sweep, the steps of applied copies toward their targets. -/

namespace Sys2Proof.Machine

def State.scanP (s : State) (n : Nat) : Scan := tabGet Scan.init s.scan n
def State.setScan (s : State) (n : Nat) (c : Scan) : State := { s with scan := tabSet Scan.init s.scan n c }
def State.mapScan (s : State) (n : Nat) (f : Scan → Scan) : State := s.setScan n (f (s.scanP n))

/-- A port is idle when its FRM phase is idle (R141). -/
def State.portIdle (s : State) (n : Nat) : Bool := s.fld (FRM_PHASE_PHASE n) = phIdle

/-- A port is inside an imaging window. -/
def State.portImaging (s : State) (n : Nat) : Bool :=
  s.fld (FRM_PHASE_PHASE n) = phImaging ∨ s.fld (FRM_PHASE_PHASE n) = phBlanking

/-- A frame gap or idleness: no window at the port. -/
def State.portGap (s : State) (n : Nat) : Bool := ! s.portImaging n

/-! Fields of the tables repeated per port. -/

def dlyTarget (n e : Nat) : Field := (SCN_DLY0_TARGET e).up (0x400 * n)
def dlyApplied (n e : Nat) : Field := (SCN_DLY0_APPLIED e).up (0x400 * n)
def bowTarget (n q : Nat) : Field := (SCN_BOW0_TARGET q).up (0x200 * n)
def bowApplied (n q : Nat) : Field := (SCN_BOW0_APPLIED q).up (0x200 * n)
def profB (n i : Nat) : Field := (PLL_PROF0_B i).up (0x800 * n)

/-! Line rate and bands (R153 to R155). TIM_VEL is in 2⁻²⁴ line per µs, PPS in 16.16. -/

/-- The nominal pixel frequency f = TIM_VEL × PPS / 256 in Hz, rounded down. -/
def State.pixelHz (s : State) (n : Nat) : Nat :=
  s.fld TIM_VEL_VEL * 1000000 * s.fld (PLL_PPS_VALUE n) / 2 ^ 48

/-- The nominal VCO of band code b (N = 2^b) lies in 1.875 to 3.846 GHz. -/
def bandHolds (hz b : Nat) : Bool := 1875000000 ≤ 160 * hz * 2 ^ b && 160 * hz * 2 ^ b ≤ 3846000000

/-- The smallest band that holds a pixel rate, 7 outside every band (R154). -/
def bandOf (hz : Nat) : Nat :=
  if bandHolds hz 0 then 0 else if bandHolds hz 1 then 1 else if bandHolds hz 2 then 2
  else if bandHolds hz 3 then 3 else if bandHolds hz 4 then 4 else 7

/-- The line rate lies below the lowest band (R152). -/
def State.belowBands (s : State) (n : Nat) : Bool := 160 * s.pixelHz n * 16 < 1875000000

/-- Both registers that show a band. -/
def State.setBand (s : State) (n b : Nat) : State := (s.setFld (SCN_STAT_BAND n) b).setFld (PLL_CTL_BAND n) b

/-! Suspension of the phase loop (R152). -/

/-- The loop of one port is suspended: LOCKED 0 without a fault, HELD 1. -/
def State.loopSuspend (s : State) (n : Nat) : State :=
  if s.flag (SCN_CTL_PLOCKEN n) then
    (((s.setOff (SCN_STAT_LOCKED n)).setOff (SCN_STAT_ACQ n)).setOn (SCN_STAT_HELD n)).mapScan n
      fun c => { c with good := 0, bad := 0 }
  else s

/-- INHIBIT is acted on as soon as it is set, at every port. -/
def State.loopSuspendAll (s : State) : State :=
  (((s.loopSuspend 0).loopSuspend 1).loopSuspend 2).loopSuspend 3

/-- The suspension ends where both conditions are clear: acquisition starts again with the next SOS. -/
def State.loopResume (s : State) (n : Nat) : State :=
  if s.inhibit ∨ (s.scanP n).slow then s else s.setOff (SCN_STAT_HELD n)

/-- INHIBIT clears: a port whose line rate was high enough at its last sweep boundary resumes at once. -/
def State.loopResumeAll (s : State) : State :=
  (((s.loopResume 0).loopResume 1).loopResume 2).loopResume 3

/-- The conditions of R152 as a sweep boundary finds them. -/
def State.loopCheck (s : State) (n : Nat) : State :=
  let s1 := s.mapScan n fun c => { c with slow := s.belowBands n }
  if s.inhibit ∨ s.belowBands n then s1.loopSuspend n else s1.loopResume n

/-! Voids from the next sweep. -/

/-- A window in progress at the port is voided at the next sweep boundary. -/
def State.voidFromNext (s : State) (n reason incident : Nat) : State :=
  if s.portImaging n then s.mapScan n fun c => { c with voidNext := some (reason, incident) } else s

/-- The void that waited for this boundary takes place. -/
def State.voidDue (s : State) (n : Nat) : State :=
  match (s.scanP n).voidNext with
  | some (reason, inc) => (s.mapScan n fun c => { c with voidNext := none }).voidPort n reason inc
  | none => s

/-! The phase error (R150). -/

/-- The ramp multiplier at image start is (2¹⁹ + b0) / 2¹⁹, from the profile the sweep uses (R149, R156). -/
def State.rampB0 (s : State) (n : Nat) : Int :=
  let c := s.scanP n
  let f := if c.perFacet ∧ s.flag (SCN_STAT_FACETOK n) then s.fld (SCN_STAT_FACET n) else 0
  ofTwos 16 (tabGet 0 c.prof (33 * f))

/-- Breakpoint `k` of the profile in use. -/
def State.profAt (s : State) (n k : Nat) : Int :=
  let c := s.scanP n
  let f := if c.perFacet ∧ s.flag (SCN_STAT_FACETOK n) then s.fld (SCN_STAT_FACET n) else 0
  ofTwos 16 (tabGet 0 c.prof (33 * f + k))

/-- The ramp multiplier `pp` pixel periods after SOS, in units of 2⁻¹⁹ / 416 (R156): b0 up to image start, the breakpoints
interpolated every 8 periods, b32 up to the sweep boundary, and linearly back to b0 by the next SOS.
DEDUCED (log entry 69). -/
def State.ramp (s : State) (n : Nat) (pp : Int) : Int :=
  let b (k : Nat) : Int := 2 ^ 19 + s.profAt n k
  let start : Int := s.fld (SCN_SOSDLY_VALUE n) + 256
  let back : Int := s.fld (PLL_PPS_VALUE n) / 2 ^ 16 - (start + 14080)
  let i := (pp - start) / 8 * 8
  if i < 0 then b 0 * 416
  else if i < 13312 then
    (let q := (i / 416).toNat
     b q * 416 + (b (q + 1) - b q) * (i - 416 * q))
  else if i < 14080 then b 32 * 416
  else if back ≤ i - 14080 then b 0 * 416
  else b 32 * 416 + (b 0 - b 32) * 416 * (i - 14080) / back

/-- The synthesizer's VCO and its four outputs in Hz at a multiplier, rounded down; an output that is not enabled is 0
(R153). DEDUCED (log entry 69). -/
def State.pixPll (s : State) (n : Nat) (m : Int) : List Nat :=
  let b := s.fld (SCN_STAT_BAND n)
  let vco := if s.flag (PLL_CTL_EN n) ∧ b ≤ 4 then 160 * s.fld (PLL_FREQ_HZ n) * 2 ^ b * m.toNat / (2 ^ 19 * 416) else 0
  let out (k d : Nat) : Nat := if s.fbit (PLL_CTL_OUTEN n) k then vco / (d * 2 ^ b) else 0
  [vco, out 0 1, out 1 16, out 2 160, out 3 40]

/-- k_lines = 256 × (SOSDLY + 256) / (PPS × m0), in units of 1/65,536 line, rounded down. -/
def State.kLines (s : State) (n : Nat) : Int :=
  (256 * (s.fld (SCN_SOSDLY_VALUE n) + 256) * 2 ^ 51 : Int) / ((s.fld (PLL_PPS_VALUE n) : Int) * (2 ^ 19 + s.rampB0 n))

/-- The applied PHOFF in units of 1/65,536 line. -/
def State.phoffU (s : State) (n : Nat) : Int := (s.scanP n).phoff * 256

/-- e := wpos_at_sos + k_lines − (256 × s + PHOFF). -/
def State.phaseErr (s : State) (n wposAt : Nat) : Int :=
  (wposAt : Int) + s.kLines n - (256 * (s.scanP n).sweep * 2 ^ 16 + s.phoffU n)

/-- round((WPOS + k_lines − PHOFF) / 256) (R151 step 1). -/
def State.firstSweep (s : State) (n wposAt : Nat) : Nat :=
  (((wposAt : Int) + s.kLines n - s.phoffU n + 2 ^ 23) / 2 ^ 24).toNat % 2 ^ 40

/-- SCN_SWEEP shows the sweep number; its high byte is captured by a read of the low word. -/
def State.setSweep (s : State) (n k : Nat) : State :=
  (s.mapScan n fun c => { c with sweep := k % 2 ^ 40 }).setFld (SCN_SWEEPLO_VALUE n) k

/-- Sweep numbering at an SOS: the first numbers the sweep and begins acquisition, later ones count (R151 step 1). -/
def State.numberSweep (s : State) (n wposAt : Nat) : State :=
  if s.flag (SCN_STAT_ACQ n) then s.setSweep n ((s.scanP n).sweep + 1)
  else (s.setSweep n (s.firstSweep n wposAt)).setOn (SCN_STAT_ACQ n)

/-- Lock is lost: LOCKLOST, and a window in progress is void from the next sweep (R151 step 4). `given` is the incident
number of the predictions behind it (R148). -/
def State.lockLost (s : State) (n : Nat) (given : Option Nat) : State :=
  let s1 := (((s.setOff (SCN_STAT_LOCKED n)).setOff (SCN_STAT_ACQ n)).mapScan n
    fun c => { c with good := 0, bad := 0 }).raiseWith 5 (4 + n) given
  s1.voidFromNext n rsScan (if s1.blk 5 = 0 then given.getD 0 else s1.incOf 5)

/-- Lock after 16 good sweeps, loss after 3 bad ones (R151 steps 3, 4). At each lock after the signature was learned the
intervals of the next revolution are matched (R149). -/
def State.lockStep (s : State) (n : Nat) (e : Int) : State :=
  let c := s.scanP n
  let good := if e.natAbs ≤ 4096 then c.good + 1 else 0
  let bad := if e.natAbs > 16384 then c.bad + 1 else 0
  let s1 := s.setScan n { c with good := min good 16, bad := bad }
  if s.flag (SCN_STAT_LOCKED n) then (if bad ≥ 3 then s1.lockLost n none else s1)
  else if good ≥ 16 then
    (s1.setOn (SCN_STAT_LOCKED n)).mapScan n fun c => { c with bad := 0, matching := if c.learned then 8 else 0 }
  else s1

/-- A value delivered to a loop instance (R150, R261). -/
def State.deliver (s : State) (l : Nat) (v : Int) : State :=
  let x := tabGet LoopSt.init s.plant.loops l
  { s with plant := { s.plant with loops := tabSet LoopSt.init s.plant.loops l { x with given := some v } } }

/-- At each SOS, accepted or predicted, of a port that acquires or holds lock: the sweep is numbered, its phase error
formed, shown and delivered with the facet number to the port's loop, and lock follows (R150, R151). -/
def State.sosPhase (s : State) (n wposAt : Nat) : State :=
  if (s.flag (SCN_CTL_PLOCKEN n) ∨ s.flag (SCN_STAT_ACQ n)) ∧ ¬ s.flag (SCN_STAT_HELD n) then
    let s1 := s.numberSweep n wposAt
    let e := s1.phaseErr n wposAt
    let s2 := s1.setFld (SCN_PHERR_VALUE n) (toTwos 32 (clampS 32 e))
    (s2.deliver (s2.fld (SCN_CFG_LOOP n)) (clampS 32 e)).lockStep n e
  else s

/-! Steps of applied copies (R142, R147, R160, R161). -/

/-- One unit toward a target. -/
def stepTo (target applied : Int) : Int :=
  if applied < target then applied + 1 else if target < applied then applied - 1 else applied

/-- An applied copy at a boundary: the target itself on an idle port, one unit toward it otherwise. -/
def applyStep (idle : Bool) (target applied : Int) : Int := if idle then target else stepTo target applied

/-- The delays of emitters `e − 1` down to 0 (R160). -/
def State.stepDelays (s : State) (n : Nat) (idle : Bool) : Nat → State
  | 0 => s
  | e + 1 =>
    (s.setFld (dlyApplied n e) (applyStep idle (s.fld (dlyTarget n e)) (s.fld (dlyApplied n e))).toNat).stepDelays n idle e

/-- The bow breakpoints `q − 1` down to 0 (R161). -/
def State.stepBow (s : State) (n : Nat) (idle : Bool) : Nat → State
  | 0 => s
  | q + 1 =>
    let t := ofTwos 16 (s.fld (bowTarget n q))
    let a := ofTwos 16 (s.fld (bowApplied n q))
    (s.setFld (bowApplied n q) (toTwos 16 (applyStep idle t a))).stepBow n idle q

/-- PHOFF is written: on an idle port whose sweeps do not run it applies at once (R142). The port runs no sweeps while it
neither acquires nor holds lock. DEDUCED (log entry 69). -/
def State.phoffNow (s : State) (n : Nat) : State :=
  if s.portIdle n ∧ ¬ s.flag (SCN_STAT_ACQ n) then s.mapScan n fun c => { c with phoff := s.fld (SCN_PHOFF_VALUE n) } else s

/-- PHOFF, skew, the output delays and the comparator thresholds at a boundary; a die calibration holds the thresholds
(R142, R147, R153, R161, R288). -/
def State.stepScalars (s : State) (n : Nat) (idle : Bool) : State :=
  let ph := applyStep idle (s.fld (SCN_PHOFF_VALUE n)) (s.scanP n).phoff
  let sk := applyStep idle (ofTwos 16 (s.fld (SCN_SKEW_VALUE n))) (s.scanP n).skew
  let s1 := s.mapScan n fun c => { c with phoff := ph.toNat, skew := sk, dly := s.fld (PLL_DLY_VP n) }
  if s.flag CLB_STATUS_DIESTALE then s1 else
  let s2 := s1.setFld (SCN_THR_SOSAPP n) (stepTo (s.fld (SCN_THR_SOSTGT n)) (s.fld (SCN_THR_SOSAPP n))).toNat
  s2.setFld (SCN_THR_EOSAPP n) (stepTo (s.fld (SCN_THR_EOSTGT n)) (s.fld (SCN_THR_EOSAPP n))).toNat

/-- The newest committed profile set applies (R156). -/
def State.applyProfile (s : State) (n : Nat) : State :=
  match (s.scanP n).commits with
  | (p, pf) :: _ =>
    (s.mapScan n fun c => { c with prof := p, perFacet := pf, commits := [] }).setOff (PLL_PROFCTL_PEND n)
  | [] => s

/-! Bow and skew (R161). -/

/-- B(i): the applied bow table interpolated linearly between breakpoints at pixels 208 × q, in 1/16 line, times 208. -/
def State.bow208 (s : State) (n i : Nat) : Int :=
  let q := min (i / 208) 63
  let b0 := ofTwos 16 (s.fld (bowApplied n q))
  let b1 := ofTwos 16 (s.fld (bowApplied n (q + 1)))
  b0 * 208 + (b1 - b0) * ((i : Int) - 208 * q)

/-- O(i) = round(SKEW × i / (13,312 × 256) + B(i) / 16), half up, clamped to ±32. Over the common denominator
13,312 × 256 × 1 = 3,328 × 1,024, where B(i) / 16 = bow208 × 1,024 / (3,328 × 1,024). -/
def State.lineOffset (s : State) (n i : Nat) : Int :=
  let num : Int := (s.scanP n).skew * i + s.bow208 n i * 1024
  let den : Int := 13312 * 256
  let o := (2 * num + den) / (2 * den)
  if o > 32 then 32 else if o < -32 then -32 else o

/-- The frame line emitter `e` writes at image pixel `i` of sweep `k` for a slot at `x` with lag `lag` (R142). -/
def State.frameLine (s : State) (n k e i x lag : Nat) : Int :=
  256 * k + (s.scanP n).phoff / 256 + e + s.lineOffset n i - x - lag

/-- The station pixel X = 12,992 × p − 160 + i (R142). -/
def stationPixel (p i : Nat) : Int := 12992 * p - 160 + i

/-- The seam B(j) (R162). -/
def State.seam (s : State) (j : Nat) : Nat :=
  s.fld SCN_SEAM_SEAMLO + j * s.fld SCN_SEAM_SEAMMUL % s.fld SCN_SEAM_SEAMSPAN

end Sys2Proof.Machine
end

