-- ==== Sys2Proof/Machine/LoopOps.lean ====
section
/-! DEFINITION. The arithmetic of the control engine: the two number formats (R264, R265), the clamp (R266), committed
coefficients (R267) and the repetitive controllers (R268). -/

namespace Sys2Proof.Machine

/-! Numbers m × 2^x. -/

/-- An integer shifted by a signed count; a right shift discards the lower bits. -/
def shiftI (m x : Int) : Int := if 0 ≤ x then m * 2 ^ x.toNat else m / 2 ^ (-x).toNat

/-- An integer divided by 2^n, to nearest with ties away from zero. -/
def roundShift (m : Int) (n : Nat) : Int :=
  if n = 0 then m
  else if 0 ≤ m then (m + 2 ^ (n - 1)) / 2 ^ n else -((-m + 2 ^ (n - 1)) / 2 ^ n)

def Dy.zero : Dy := ⟨0, 0⟩

/-- The exact sum. -/
def Dy.add (a b : Dy) : Dy :=
  if a.m = 0 then b else if b.m = 0 then a
  else
    let x := min a.x b.x
    ⟨a.m * 2 ^ (a.x - x).toNat + b.m * 2 ^ (b.x - x).toNat, x⟩

/-- The exact product. -/
def Dy.mul (a b : Dy) : Dy := ⟨a.m * b.m, a.x + b.x⟩

/-- The bits of a magnitude. -/
def magBits (m : Int) : Nat := if m = 0 then 0 else Nat.log2 m.natAbs + 1

/-- Rounded to 24 signed bits, to nearest with ties away from zero, and normalised: the magnitude lies in 2²² to
2²³ − 1, or the number is 0. -/
def Dy.norm (a : Dy) : Dy :=
  if a.m = 0 then Dy.zero
  else
    let k := magBits a.m
    if k ≤ 23 then ⟨a.m * 2 ^ (23 - k), a.x - (23 - k : Nat)⟩
    else
      let r := roundShift a.m (k - 23)
      if r.natAbs = 2 ^ 23 then ⟨r / 2, a.x + (k - 22 : Nat)⟩ else ⟨r, a.x + (k - 23 : Nat)⟩

/-- As `norm`, but rounded toward zero. -/
def Dy.trunc (a : Dy) : Dy :=
  let k := magBits a.m
  if k ≤ 23 then a.norm else ⟨tdiv a.m (2 ^ (k - 23)), a.x + (k - 23 : Nat)⟩

/-- An input taken in its native unit: exactly with at most 24 significant bits, else rounded to them (R265).
DEDUCED (log entry 46). -/
def sig24 (v : Int) : Int :=
  let k := magBits v
  if k ≤ 24 then v else roundShift v (k - 24) * 2 ^ (k - 24)

/-- The nearest integer, ties away from zero. -/
def Dy.toInt (a : Dy) : Int := if 0 ≤ a.x then a.m * 2 ^ a.x.toNat else roundShift a.m (-a.x).toNat

/-- The mantissa of a number over a given exponent. -/
def Dy.over (a : Dy) (x : Int) : Int :=
  if x ≤ a.x then a.m * 2 ^ (a.x - x).toNat else roundShift a.m (x - a.x).toNat

/-- The largest normalised exponent of some numbers, if one is not 0. -/
def sharedExp : List Dy → Option Int
  | [] => none
  | a :: as =>
    let r := sharedExp as
    if a.m = 0 then r
    else match r with
      | none => some a.norm.x
      | some x => some (max a.norm.x x)

/-- A number limited to ± a bound. -/
def limitI (b v : Int) : Int := if v > b then b else if v < -b then -b else v

/-- Saturation to 16 bits. -/
def sat16 (v : Int) : Int := clampS 16 v

/-! Loops. -/

def State.loopP (s : State) (l : Nat) : LoopSt := tabGet LoopSt.init s.plant.loops l
def State.setLoop (s : State) (l : Nat) (x : LoopSt) : State :=
  s.setPlant { s.plant with loops := tabSet LoopSt.init s.plant.loops l x }

def stageField (l k : Nat) : Field := CTL_STAGE_VALUE (8 * l + k)
def appliedField (l k : Nat) : Field := CTL_APPLIED_VALUE (8 * l + k)

/-- Whether a loop is in BFP format. -/
def State.isBfp (s : State) (l : Nat) : Bool := s.flag (CTL_LCFG_FMT l)

/-- The staged words of a loop. -/
def State.staged (s : State) (l : Nat) : List Nat := (List.range 8).map fun k => s.fld (stageField l k)

/-- One coefficient word is well formed: unused bits 0; in FIX bits 23:16 repeat bit 15 (R265). -/
def coefOk (bfp : Bool) (w : Nat) : Bool :=
  w < 2 ^ 24 && (bfp || w / 2 ^ 16 = (if w.testBit 15 then 0xFF else 0))

/-- A staged set satisfies R264 and R265: words, the common word 7, and b3 = a3 = 0 with ORDER = 0. -/
def coefSetOk (bfp third : Bool) (ws : List Nat) : Bool :=
  (ws.take 7).all (coefOk bfp) && (if bfp then ws.getD 7 0 < 256 else ws.getD 7 0 ≤ 4) &&
    (third || (ws.getD 3 0 = 0 && ws.getD 6 0 = 0))

/-- CTL_COMMITi.COMMIT: a set that fails is refused whole; a good one waits, replacing one that waited (R267). -/
def State.ctlCommit (s : State) (l : Nat) : State :=
  let ws := s.staged l
  if coefSetOk (s.isBfp l) (s.flag (CTL_LCFG_ORDER l)) ws then
    (s.setLoop l { s.loopP l with commit := some ws }).setOn (CTL_COMMIT_PEND l)
  else s.setOn CTL_STATUS_COEFERR

/-- Coefficient words applied, from word `k` on. -/
def State.applyWords (s : State) (l k : Nat) : List Nat → State
  | [] => s
  | w :: ws => (s.setFld (appliedField l k) w).applyWords l (k + 1) ws

/-- A waiting set takes effect at the loop's execution. -/
def State.applyCommit (s : State) (l : Nat) : State :=
  match (s.loopP l).commit with
  | some ws => ((s.applyWords l 0 ws).setLoop l { s.loopP l with commit := none }).setOff (CTL_COMMIT_PEND l)
  | none => s

/-- A clamp as a loop's format reads it: FIX uses the low 16 bits (R282). -/
def State.uLimit (s : State) (l v : Nat) : Int :=
  let w := if s.isBfp l then 32 else 16
  ofTwos w (v % 2 ^ w)

/-- CTL_UMINi and CTL_UMAXi. -/
def State.uMin (s : State) (l : Nat) : Int := s.uLimit l (s.fld (CTL_UMIN_VALUE l))
def State.uMax (s : State) (l : Nat) : Int := s.uLimit l (s.fld (CTL_UMAX_VALUE l))

/-- The clamp of R266 in FIX. DEDUCED (log entry 46). -/
def State.uClamp (s : State) (l : Nat) (u : Int) : Int :=
  if u > s.uMax l then s.uMax l else if u < s.uMin l then s.uMin l else u

/-- The clamp of R266 in BFP: the output rounded to 24 bits, within the bounds also where they have more (R265).
DEDUCED (log entry 46). -/
def State.bfpClamp (s : State) (l : Nat) (u : Dy) : Dy × Bool :=
  let r := u.norm
  let above (k : Int) (a : Dy) : Bool := decide (0 < (a.add ⟨-k, 0⟩).m)
  if above (s.uMax l) r then ((⟨s.uMax l, 0⟩ : Dy).trunc, true)
  else if decide ((r.add ⟨-s.uMin l, 0⟩).m < 0) then ((⟨s.uMin l, 0⟩ : Dy).trunc, true)
  else (r, false)

/-- Signed applied coefficient `k` as an integer: 16 bits in FIX, 24 bits in BFP. -/
def State.coef (s : State) (l k : Nat) : Int :=
  if s.isBfp l then ofTwos 24 (s.fld (appliedField l k) % 2 ^ 24) else ofTwos 16 (s.fld (appliedField l k) % 2 ^ 16)

/-- The terms of R264 in the order b0 to b3, a1 to a3. -/
def loopTerms (e : Int) (x : LoopSt) : List Int := e :: (x.e ++ x.u)

/-- Σ of coefficient `k`, `k + 1`, ... times the terms. -/
def State.sumTerms (s : State) (l k : Nat) : List Int → Int
  | [] => 0
  | t :: ts => s.coef l k * t + s.sumTerms l (k + 1) ts

/-- The FIX compensator before feed-forward: saturate16((acc × 2^SH + 2¹⁴) >> 15) with a 40-bit accumulator.
DEDUCED (log entry 46). -/
def State.fixOut (s : State) (l : Nat) (e : Int) : Int :=
  let acc := s.sumTerms l 0 (loopTerms e (s.loopP l))
  sat16 ((acc * 2 ^ s.fld (appliedField l 7) + 2 ^ 14) / 2 ^ 15)

/-- The BFP compensator before feed-forward: the exact sum rounded to 24 bits. -/
def State.bfpOut (s : State) (l : Nat) (e : Dy) : Dy :=
  let x := s.loopP l
  let ec := ofTwos 8 (s.fld (appliedField l 7) % 256)
  let he : Dy := ⟨s.sumTerms l 1 (x.e ++ x.u), x.x⟩
  ((((⟨s.coef l 0, 0⟩ : Dy).mul e).add he).mul ⟨1, ec - 23⟩).norm

/-! Repetitive controllers (R268). -/

def State.rcP (s : State) (r : Nat) : Rc := tabGet Rc.init s.plant.rcs r
def State.setRc (s : State) (r : Nat) (x : Rc) : State :=
  s.setPlant { s.plant with rcs := tabSet Rc.init s.plant.rcs r x }

/-- A controller is used by a loop when the loop names it; the lowest-numbered enabled loop that does is served.
DEDUCED (log entry 46). -/
def State.rcUsedBy (s : State) (r : Nat) : Option Nat :=
  (List.range 128).find? fun l => s.flag (CTL_LCFG_EN l) && s.fld (CTL_LCFG_RC l) = r

/-- The bins of a controller: 8 for facets. -/
def State.rcBins (s : State) (r : Nat) : Nat := if s.flag (CTL_RCCFG_SRC r) then 8 else s.fld (CTL_RCCFG_NBINS r)

/-- The bin of this execution. -/
def State.rcBin (s : State) (r : Nat) : Nat :=
  let i := s.fld (CTL_RCCFG_IDX r)
  if s.flag (CTL_RCCFG_SRC r) then s.fld (SCN_STAT_FACET (i % 4))
  else ((s.axisP i).est * s.fld (CTL_RCCFG_HARM r) % 2 ^ 24).toNat * s.rcBins r / 2 ^ 24

/-- The controller holds. -/
def State.rcHolds (s : State) (r : Nat) : Bool :=
  let i := s.fld (CTL_RCCFG_IDX r)
  s.inhibit || (if s.flag (CTL_RCCFG_SRC r) then ! s.flag (SCN_STAT_FACETOK (i % 4)) else s.axState i ≠ axRunning)

/-- What the controller adds, limited to ±RCMAX, and the state after it learned. DEDUCED (log entry 46). -/
def State.rcRun (s : State) (l : Nat) (e : Dy) : Dy × State :=
  let r := s.fld (CTL_LCFG_RC l)
  if r ≥ 16 ∨ s.rcUsedBy r ≠ some l then (Dy.zero, s)
  else
    let s1 := if (s.rcP r).clr then s.setRc r Rc.init else s
    if s1.rcHolds r then (Dy.zero, (s1.setOn (CTL_RCCTL_HELD r)).setOn (CTL_LSTAT_HELD l))
    else
      let b := s1.rcBin r
      let m := (s1.rcP r).mem
      let v := tabGet Dy.zero m ((b + s1.fld (CTL_RCOUT_LEAD r)) % s1.rcBins r)
      let lim : Int := s1.fld (CTL_RCOUT_RCMAX r)
      let out : Dy := if v.toInt > lim then ⟨lim, 0⟩ else if v.toInt < -lim then ⟨-lim, 0⟩ else v
      let old := tabGet Dy.zero m b
      let q : Int := s1.fld (CTL_RCGAIN_Q r)
      let g : Int := s1.fld (CTL_RCGAIN_L r)
      let new : Dy := if s1.isBfp l then (((old.mul ⟨q, 0⟩).add (e.mul ⟨g, 0⟩)).mul ⟨1, -16⟩).norm
        else ⟨sat16 ((q * old.m + g * e.m + 2 ^ 15) / 2 ^ 16), 0⟩
      (out, (s1.setRc r { mem := tabSet Dy.zero m b new, clr := false }).setOff (CTL_RCCTL_HELD r))

/-! One execution of a loop (R264 to R266). -/

/-- A loop that does not run clears its states and outputs 0. -/
def State.loopClear (s : State) (l : Nat) : State :=
  (s.setLoop l { s.loopP l with e := [0, 0, 0], u := [0, 0, 0], x := 0, out := 0, given := none }).setFld
    (CTL_OUTVAL_VALUE l) 0

/-- The output shown and kept, with the histories. -/
def State.loopStore (s : State) (l : Nat) (es us : List Int) (x u : Int) (sat : Bool) : State :=
  ((s.setLoop l { s.loopP l with e := es, u := us, x := x, out := u, given := none }).setFld (CTL_OUTVAL_VALUE l)
    (toTwos 32 u)).setBool (CTL_LSTAT_SAT l) sat

/-- The FIX format. -/
def State.runFix (s : State) (l : Nat) (err ff : Int) : State :=
  let e := sat16 err
  let (rc, s1) := s.rcRun l ⟨e, 0⟩
  let u0 := s1.fixOut l e + ff + rc.toInt
  let u := s1.uClamp l u0
  let x := s1.loopP l
  s1.loopStore l ((e :: x.e).take 3) ((u :: x.u).take 3) 0 u (u ≠ u0)

/-- The BFP format: the histories share the exponent that puts the largest magnitude in 2²² to 2²³ − 1. -/
def State.runBfp (s : State) (l : Nat) (err ff : Int) : State :=
  let e : Dy := (⟨err, 0⟩ : Dy).norm
  let (rc, s1) := s.rcRun l e
  let (u, sat) := s1.bfpClamp l (((s1.bfpOut l e).add ⟨ff, 0⟩).add rc)
  let x := s1.loopP l
  let es := (e :: x.e.map fun m => (⟨m, x.x⟩ : Dy)).take 3
  let us := (u :: x.u.map fun m => (⟨m, x.x⟩ : Dy)).take 3
  let sx := (sharedExp (es ++ us)).getD 0
  s1.loopStore l (es.map fun d => d.over sx) (us.map fun d => d.over sx) sx u.toInt sat

/-- An execution with an error and a feed-forward term; `fb` is the feedback shown. -/
def State.loopRun (s : State) (l : Nat) (fb err ff : Int) : State :=
  let s1 := (((s.applyCommit l).setFld (CTL_FBVAL_VALUE l) (toTwos 32 fb)).setOff (CTL_LSTAT_STALE l)).setOff
    (CTL_LSTAT_HELD l)
  if s1.isBfp l then s1.runBfp l err ff else s1.runFix l err ff

/-- An execution whose feedback sample is missing repeats the last output (R266). -/
def State.loopStale (s : State) (l : Nat) : State := (s.applyCommit l).setOn (CTL_LSTAT_STALE l)

end Sys2Proof.Machine
end

