-- ==== Sys2Proof/Machine/Engine.lean ====
section
/-! DEFINITION. One base period of the control engine (R261 to R263): who owns a loop, where its values come from and
where its output goes, with the high-voltage channels (R269 to R272) and fuser zones (R273 to R275) it regulates. -/

namespace Sys2Proof.Machine

/-! Outputs in GPWM mode. -/

/-- A duty written to a gate channel (`ls = false`) or low-side output in GPWM mode; false when it is in another mode. -/
def State.gpwmDuty (s : State) (ls : Bool) (k duty : Nat) : Bool × State :=
  if ls then
    if s.fld (GDR_LSMODE_MODE k) = 1 ∧ k < 24 then (true, s.setFld (GDR_LSPWM_DUTY k) (min duty 0xFFFF)) else (false, s)
  else if s.fld (GDR_CHCFG_MODE k) = 2 ∧ k < 52 then (true, s.setFld (GDR_PWM_DUTY k) (min duty 0xFFFF))
  else (false, s)

/-- Whether an output is in GPWM mode. -/
def State.isGpwm (s : State) (ls : Bool) (k : Nat) : Bool := (s.gpwmDuty ls k 0).1

/-! High voltage. -/

def State.setHv (s : State) (h : Nat) (x : Hv) : State := s.setPlant { s.plant with hv := tabSet Hv.init s.plant.hv h x }
def State.mapHv (s : State) (h : Nat) (f : Hv → Hv) : State := s.setHv h (f (s.hvP h))

/-- HVS STATE codes (R283). -/
def hvOff : Nat := 0
def hvRamping : Nat := 1
def hvRegulating : Nat := 2
def hvArcHold : Nat := 3
def hvEscalated : Nat := 4

def State.hvState (s : State) (h : Nat) : Nat := s.fld (HVS_STATE_STATE h)

/-- Where the regulated set-point goes, in 1/40 V or µA. -/
def State.hvTarget (s : State) (h : Nat) : Int :=
  if s.hvState h = hvEscalated ∨ (s.hvP h).off then 0 else ofTwos 16 (s.fld (HVS_SET_SET h)) * 40

/-- One base period of the ramp: RAMP per ms is RAMP in fortieths (R270). -/
def rampTo (target step now : Int) : Int :=
  if step = 0 then target
  else if now < target then min target (now + step) else if target < now then max target (now - step) else now

/-- The clock cycles of one cycle of the AC drive, and how far the present one has come (R271). -/
def State.acCycle (s : State) (h : Nat) : Nat := 800000000 / max 1 (s.fld (HVS_ACFREQ_HZ h))
def State.acAt (s : State) (h : Nat) : Nat := min (s.acCycle h) (s.time.cycles - (s.hvP h).start)

/-- The AC part at a point of the present cycle: its amplitude moves linearly, toward ACAMP or to 0 (R271).
DESIGN CHOICE (log entry 73). -/
def State.acMove (s : State) (h at_ : Nat) : Hv :=
  let x := s.hvP h
  let d := x.slope * (at_ - x.pos)
  let level := if x.ac = 1 then min (s.fld (HVS_AC_ACAMP h) * x.den) (x.level + d)
    else if x.ac = 3 then x.level - d else x.level
  { x with level := level, pos := max x.pos at_ }

/-- The unit of a ramp of ACRAMP cycles: 1/`acDen` V. -/
def State.acDen (s : State) (h : Nat) : Nat := max 1 (s.fld (HVS_ACCFG_ACRAMP h)) * s.acCycle h

/-- The AC part begins to fall, from its present amplitude at the same slope; with ACRAMP = 0 it is at 0 at once. It stops
at the end of a cycle (R271). -/
def State.hvAcOff (s : State) (h : Nat) : State :=
  let x := s.acMove h (s.acAt h)
  let amp := s.fld (HVS_AC_ACAMP h)
  if x.ac = 0 then s
  else if s.fld (HVS_ACCFG_ACRAMP h) = 0 then s.setHv h { x with ac := 3, slope := 0, level := 0 }
  else if x.ac = 2 then s.setHv h { x with ac := 3, den := s.acDen h, slope := amp, level := amp * s.acDen h }
  else s.setHv h { x with ac := 3 }

/-- The output of a channel is off: duty 0; an escalated channel still reads so. -/
def State.hvTurnOff (s : State) (h : Nat) : State :=
  let s1 := (s.gpwmDuty (s.flag (HVS_CHCFG_OUTKIND h)) (s.fld (HVS_CHCFG_OUTIDX h)) 0).2
  let s2 := (s1.setOff (HVS_CHCTL_EN h)).mapHv h fun x => { x with off := false, set := 0, err := false }
  if s.hvState h = hvEscalated then s2 else s2.setFld (HVS_STATE_STATE h) hvOff

/-- A channel is on: enabled, or ramping to 0 before it turns off. -/
def State.hvLive (s : State) (h : Nat) : Bool :=
  s.hvState h ≠ hvOff && (s.flag (HVS_CHCTL_EN h) || (s.hvP h).off)

/-- A channel's ramp in one base period. -/
def State.hvRamp (s : State) (h : Nat) : State :=
  let st := s.hvState h
  if st = hvArcHold ∨ ¬ s.hvLive h then s
  else
    let t := s.hvTarget h
    let v := rampTo t (s.fld (HVS_RAMP_RAMP h)) (s.hvP h).set
    let s1 := s.mapHv h fun x => { x with set := v }
    if v = 0 ∧ ((s.hvP h).off ∨ st = hvEscalated) then s1.hvTurnOff h
    else if st = hvEscalated then s1
    else s1.setFld (HVS_STATE_STATE h) (if v = t then hvRegulating else hvRamping)

/-- A sample in units of the full scale `fs`, rounded toward zero: full scale is 32,768. DEDUCED (log entry 48). -/
def scaleSample (fs : Nat) (v : Int) : Int := tdiv (v * fs) 32768

/-- An arc (R272): the duty is held at 0, ARCCNT counts, ARCN arcs within 1 s (40,000 base periods) set LIMIT. -/
def State.hvArc (s : State) (h : Nat) : State :=
  let now := s.fld CTL_PERIOD_VALUE
  let arcs := now :: ((s.hvP h).arcs.filter fun t => (now + 2 ^ 32 - t) % 2 ^ 32 < 40000)
  let s1 := (s.mapHv h fun x => { x with arcs := arcs, set := 0, err := false }).inc (HVS_STATE_ARCCNT h)
  let s2 := if s.hvState h = hvEscalated then s1 else s1.setFld (HVS_STATE_STATE h) hvArcHold
  if arcs.length ≥ s.fld (HVS_ARC_ARCN h) then s2.raise 14 h else s2

/-- The loop of a channel executes (R269 to R272). -/
def State.hvRun (s : State) (h l : Nat) (ff : Int) (adc : List (Option Int)) : State :=
  match adc.getD (s.fld (HVS_CHCFG_VADC h)) none, adc.getD (s.fld (HVS_CHCFG_IADC h)) none with
  | some v, some i =>
    let volts := scaleSample (s.fld (HVS_FS_VFS h)) v
    let amps := scaleSample (s.fld (HVS_FS_IFS h)) i
    let s1 := (s.setFld (HVS_MEAS_VMEAS h) (toTwos 16 (sat16 volts))).setFld (HVS_MEAS_IMEAS h) (toTwos 16 (sat16 amps))
    let cur := s.flag (HVS_CHCFG_MODE h)
    let fs : Int := if cur then s.fld (HVS_FS_IFS h) else s.fld (HVS_FS_VFS h)
    let fb := if cur then i else v
    let sp := if fs = 0 then 0 else tdiv ((s.hvP h).set * 32768) (40 * fs)
    let dev := ((s.hvP h).set - (if cur then amps else volts) * 40).natAbs
    let s2 := (s1.loopRun l fb (sp - fb) ff).mapHv h fun x => { x with err := dev > 40 * s.fld (HVS_REG_REGTOL h) }
    let put := fun (t : State) (d : Int) =>
      (t.gpwmDuty (s.flag (HVS_CHCFG_OUTKIND h)) (s.fld (HVS_CHCFG_OUTIDX h)) d.toNat).2
    let past : Bool := volts.natAbs > s.fld (HVS_MAX_VMAX h) || amps.natAbs > s.fld (HVS_MAX_IMAX h)
    let s3 := if past then (put s2 0).raise 14 h else s2
    if s.hvState h = hvArcHold then put s3 0
    else if amps.natAbs > s.fld (HVS_ARC_ARCI h) then (put s3 0).hvArc h
    else if past then s3
    else put s3 (s2.loopP l).out
  | _, _ => s.loopStale l

/-- The amplitude target of the AC part now, as a quotient in V (R271). -/
def State.acTarget (s : State) (h : Nat) : Nat × Nat :=
  if (s.hvP h).ac = 2 then (s.fld (HVS_AC_ACAMP h), 1) else ((s.acMove h (s.acAt h)).level, max 1 (s.hvP h).den)

/-- The AC loop of a developer channel: the amplitude target against the peak-to-peak sample on ACADC, its output the
width of the half-cycle's pulse (R271). -/
def State.hvAcRun (s : State) (h l : Nat) (ff : Int) (adc : List (Option Int)) : State :=
  match adc.getD (s.fld (HVS_ACCFG_ACADC h)) none with
  | some v =>
    let fs := s.fld (HVS_FS_VFS h)
    let (level, den) := s.acTarget h
    let sp := if fs = 0 then 0 else tdiv ((level : Int) * 32768) (den * fs)
    (s.setFld (HVS_AC_ACMEAS h) (scaleSample fs v).natAbs).loopRun l v (sp - v) ff
  | none => s.loopStale l

/-! The fuser. -/

def State.setZone (s : State) (z : Nat) (x : Zone) : State :=
  s.setPlant { s.plant with zones := tabSet Zone.init s.plant.zones z x }
def State.mapZone (s : State) (z : Nat) (f : Zone → Zone) : State := s.setZone z (f (s.zoneP z))

/-- LIMFAC of a thermal model. -/
def State.limFac (s : State) (m : Nat) : Nat := s.fld (THM_MSTAT_LIMFAC m)

/-- A zone's duty, in 1/65,536 of 100 %, shown and given to a GPWM heater. -/
def State.zoneDuty (s : State) (z d : Nat) : State :=
  let s1 := s.setFld (FUS_ZTEMP_DUTY z) (min d 0xFFFF)
  if s.flag (FUS_ZCFG_HEAT z) then
    let k := s.fld (FUS_ZCFG_OUTIDX z)
    (s1.gpwmDuty true k (d * s.fld (GDR_LSPWM_PERIOD k) / 65536)).2
  else s1

/-- The loop of a zone executes: its maximum duty is scaled by its heater model's LIMFAC / 16 (R273, R279). -/
def State.zoneRun (s : State) (z l : Nat) (ff : Int) : State :=
  let fb := ofTwos 16 (s.fld (FUS_ZTEMP_TEMP z))
  let s1 := s.loopRun l fb (ofTwos 16 (s.fld (FUS_ZSETR_ZSET z)) - fb) ff
  let top := 65536 * s.limFac (22 + z) / 16
  s1.zoneDuty z (if (s.zoneP z).forced ∨ (s.zoneP z).off then 0 else min (s1.loopP l).out.toNat top)

/-! Owners (R262). -/

/-- Who owns a loop. -/
inductive Owner
  | free
  | axD (i : Nat)
  | axQ (i : Nat)
  | axS (i : Nat)
  | axP (i : Nat)
  | scan (n : Nat)
  | hv (h : Nat)
  | hvAc (h : Nat)
  | zone (z : Nat)
deriving DecidableEq, Repr

/-- CTL_LSTATi.OWNER. -/
def Owner.code : Owner → Nat
  | .free => 0 | .axD _ => 1 | .axQ _ => 1 | .axS _ => 1 | .axP _ => 1 | .scan _ => 2 | .hv _ => 3 | .hvAc _ => 3
  | .zone _ => 4

/-- The loops axis `i` names, as its mode and kind use them, with the format each must have (`none`: either). -/
def State.axisLoops (s : State) (i : Nat) : List (Owner × Nat × Option Bool) :=
  let il := s.fld (MOT_LOOPS_ILOOP i)
  let m := s.fld (MOT_CFG_MODE i)
  let cur : List (Owner × Nat × Option Bool) := [(.axD i, il, some false), (.axQ i, il + 1, some false)]
  if i ≥ 12 then cur
  else
    cur ++ (if m = 0 then [] else [(.axS i, s.fld (MOT_LOOPS_SLOOP i), none)]) ++
      (if m = 1 ∨ m = 3 ∨ m = 4 then [(.axP i, s.fld (MOT_LOOPS_PLOOP i), some true)] else [])

def State.scanLoops (s : State) (n : Nat) : List (Owner × Nat × Option Bool) :=
  [(.scan n, s.fld (SCN_CFG_LOOP n), some true)]

def State.hvLoops (s : State) (h : Nat) : List (Owner × Nat × Option Bool) :=
  let l := s.fld (HVS_CHCFG_LOOP h)
  (.hv h, l, some false) :: (if h % 4 = 1 then [(.hvAc h, l + 1, some false)] else [])

def State.zoneLoops (s : State) (z : Nat) : List (Owner × Nat × Option Bool) :=
  [(.zone z, s.fld (FUS_ZLOOP_LOOP z), some true)]

/-- Every binding of the enabled owners. -/
def State.bindings (s : State) : List (Owner × Nat × Option Bool) :=
  ((List.range 16).filter fun i => s.flag (MOT_CFG_EN i)).flatMap s.axisLoops ++
  ((List.range 4).filter fun n => s.flag (SCN_CTL_PLOCKEN n)).flatMap s.scanLoops ++
  ((List.range 16).filter fun h => s.flag (HVS_CHCTL_EN h) || s.hvState h ≠ hvOff || (s.hvP h).ac ≠ 0).flatMap s.hvLoops ++
  ((List.range 24).filter fun z => s.flag (FUS_ZCFG_EN z)).flatMap s.zoneLoops

/-- The owner of a loop. -/
def State.ownerOf (s : State) (l : Nat) : Owner :=
  match s.bindings.find? fun b => b.2.1 = l with
  | some b => b.1
  | none => .free

/-- Kinds 4, 5 and 6 are no sources of a FIX loop (R263); kind 2 only if that loop is FIX. -/
def State.fixSource (s : State) (kind idx : Nat) : Bool :=
  if kind = 4 ∨ kind = 5 ∨ kind = 6 then false else if kind = 2 then ! s.isBfp idx else true

/-- The sources of a loop's own routing agree with its format. -/
def State.sourcesOk (s : State) (l : Nat) : Bool :=
  s.isBfp l || (s.fixSource (s.fld (CTL_FB_FBKIND l)) (s.fld (CTL_FB_FBIDX l)) &&
    s.fixSource (s.fld (CTL_FB_SPKIND l)) (s.fld (CTL_FB_SPIDX l)) &&
    s.fixSource (s.fld (CTL_OUT_FFKIND l)) (s.fld (CTL_OUT_FFIDX l)))

/-- An owner's bindings may be made (R262): no loop named twice, also by another owner, each of the right format, and an
EXTERNAL axis's speed loop with sources of its format. DEDUCED (log entry 47). -/
def State.bindOk (s : State) (new : List (Owner × Nat × Option Bool)) : Bool :=
  let used := (s.bindings.filter fun b => ! new.any fun c => c.1 = b.1).map fun b => b.2.1
  new.all fun b =>
    b.2.1 < 128 && ! used.contains b.2.1 && (new.filter fun c => c.2.1 = b.2.1).length = 1 &&
      (match b.2.2 with
       | some f => s.isBfp b.2.1 == f
       | none => true) &&
      (match b.1 with
       | .axS i => s.fld (MOT_CFG_MODE i) ≠ 4 || s.sourcesOk b.2.1
       | _ => true)

/-- An owner is on. -/
def State.ownerOn (s : State) : Owner → Bool
  | .free => true
  | .axD i => s.axisLive i
  | .axQ i => s.axisLive i
  | .axS i => s.axisLive i
  | .axP i => s.axisLive i
  | .scan n => s.flag (SCN_CTL_PLOCKEN n)
  | .hv h => s.hvLive h
  | .hvAc h => (s.hvP h).ac ≠ 0
  | .zone z => s.flag (FUS_ZCFG_EN z) && ! (s.zoneP z).off

/-! Sources (R263). -/

/-- Line-master position minus WPOS in 1/65,536 line: edges × LMSCALE (2⁻²⁴ line). -/
def State.lmError (s : State) : Int := (s.fld TIM_LMCNT_VALUE * s.fld TIM_LMSCALE_VALUE / 2 ^ 8 : Nat) - (s.wpos : Int)

/-- TIM_FSTAT.LMLOST. -/
def State.lmLost (s : State) : Bool := s.srcSet 0 6

/-- An input as a loop's format takes it (R265). -/
def State.input (s : State) (l : Nat) (v : Int) : Int := if s.isBfp l then sig24 v else v

/-- The value of a source; none: a sample lost with a drive-link frame. -/
def State.source (s : State) (kind idx : Nat) (adc : List (Option Int)) : Option Int :=
  match kind with
  | 1 => adc.getD idx none
  | 2 => some (s.loopP idx).start
  | 3 => some (ofTwos 16 (s.fld (TIM_SPA_VALUE idx)))
  | 4 => some (if s.lmLost then s.plant.lmRate else s.fld TIM_LMRATE_VALUE)
  | 5 => some (if s.lmLost then s.plant.lmPos else s.lmError)
  | 6 => some (s.fld TIM_VEL_VEL)
  | 7 => some (ofTwos 16 (s.fld (THM_MT_T1 idx)))
  | _ => some 0

/-- The set-point source; kind 0 is CTL_SPi. DEDUCED (log entry 43). -/
def State.setPoint (s : State) (l : Nat) (adc : List (Option Int)) : Option Int :=
  let k := s.fld (CTL_FB_SPKIND l)
  if k = 0 then
    some (if s.isBfp l then ofTwos 32 (s.fld (CTL_SP_VALUE l)) else ofTwos 16 (s.fld (CTL_SP_VALUE l) % 2 ^ 16))
  else s.source k (s.fld (CTL_FB_SPIDX l)) adc

/-- The feed-forward value times CTL_FFGAINi, rounded down. -/
def State.feedForward (s : State) (l : Nat) (adc : List (Option Int)) : Int :=
  let v := (s.source (s.fld (CTL_OUT_FFKIND l)) (s.fld (CTL_OUT_FFIDX l)) adc).getD 0
  s.input l v * ofTwos 32 (s.fld (CTL_FFGAIN_VALUE l)) / 2 ^ 16

/-- Whether a loop uses the line master, and holds it. -/
def State.holdsLm (s : State) (l : Nat) : Bool :=
  let lm := fun k => k = 4 || k = 5
  s.lmLost && (lm (s.fld (CTL_FB_FBKIND l)) || lm (s.fld (CTL_FB_SPKIND l)) || lm (s.fld (CTL_OUT_FFKIND l)))

/-- The valid line-master values are kept for a loss, whichever loop will use them. -/
def State.keepLm (s : State) : State :=
  if s.lmLost then s else s.setPlant { s.plant with lmRate := s.fld TIM_LMRATE_VALUE, lmPos := s.lmError }

/-- A loop executes with its own routing. -/
def State.routedRun (s : State) (l : Nat) (adc : List (Option Int)) : State :=
  match s.source (s.fld (CTL_FB_FBKIND l)) (s.fld (CTL_FB_FBIDX l)) adc, s.setPoint l adc with
  | some fb, some sp =>
    let bf := if s.isBfp l then sig24 fb else sat16 fb
    let bs := if s.isBfp l then sig24 sp else sat16 sp
    let s1 := s.loopRun l bf (bs - bf) (s.feedForward l adc)
    if s.holdsLm l then s1.setOn (CTL_LSTAT_HELD l) else s1
  | _, _ => s.loopStale l

/-- The output of a free loop goes to its target (R263). -/
def State.freeOut (s : State) (l : Nat) : State :=
  let k := s.fld (CTL_OUT_OUTKIND l)
  if k = 1 ∨ k = 2 then
    let (ok, s1) := s.gpwmDuty (k = 2) (s.fld (CTL_OUT_OUTIDX l)) (s.loopP l).out.toNat
    s1.setBool (CTL_LSTAT_NOOUT l) (! ok)
  else s.setOff (CTL_LSTAT_NOOUT l)

/-! The base period. -/

/-- The present velocity and speed of an axis in 2⁻¹⁶ rev/s. -/
def State.velOf (s : State) (i : Nat) : Int := ofTwos 32 (s.fld (MOT_VEL_VALUE i))
def State.speedOf (s : State) (i : Nat) : Int := ofTwos 32 (s.fld (MOT_SPEED_VALUE i))
def State.posOf (s : State) (i : Nat) : Int := (s.axisP i).pos / 244140625

/-- A speed or position loop of an axis executes (R262). -/
def State.axisSlowRun (s : State) (o : Owner) (l : Nat) (adc : List (Option Int)) : State :=
  match o with
  | .axS i =>
    let m := s.fld (MOT_CFG_MODE i)
    if m = 4 then s.routedRun l adc
    else
      let sp := if m = 2 then s.velOf i else (s.loopP (s.fld (MOT_LOOPS_PLOOP i))).start
      s.loopRun l (s.speedOf i) (s.input l sp - s.input l (s.speedOf i)) 0
  | .axP i =>
    if s.fld (MOT_CFG_MODE i) = 4 then s.loopRun l (s.speedOf i) (s.input l (s.velOf i) - s.input l (s.speedOf i)) 0
    else
      let d := s.input l (s.posOf i - (s.axisP i).est)
      s.loopRun l d d 0
  | _ => s

/-- A loop that does not run, or whose owner is off or coasting, holds no states and outputs 0, also where its output
goes (R266). -/
def State.loopIdle (s : State) (l : Nat) (o : Owner) : State :=
  let x := s.loopP l
  if x.e = [0, 0, 0] ∧ x.u = [0, 0, 0] ∧ x.out = 0 ∧ x.given.isNone ∧ s.fld (CTL_OUTVAL_VALUE l) = 0 then s
  else
    let s1 := s.loopClear l
    match o with
    | .free => s1.freeOut l
    | .hv h => (s1.gpwmDuty (s.flag (HVS_CHCFG_OUTKIND h)) (s.fld (HVS_CHCFG_OUTIDX h)) 0).2
    | .zone z => s1.zoneDuty z 0
    | _ => s1

/-- A loop's turn in this base period (R261): periodic loops when the period's number modulo DIV is PHASE, delivered
loops once for a value delivered. The current loops of an axis run with the axis. -/
def State.loopTurn (s : State) (adc : List (Option Int)) (l : Nat) : State :=
  let o := s.ownerOf l
  let s0 := s.setFld (CTL_LSTAT_OWNER l) o.code
  let due : Bool := s.fld CTL_PERIOD_VALUE % (s.fld (CTL_LCFG_DIV l) + 1) = s.fld (CTL_LCFG_PHASE l)
  let trig := s.flag (CTL_LCFG_TRIG l)
  match o with
  | .axD i => if s.axisLive i then s0 else s0.loopIdle l o
  | .axQ i => if s.axisLive i then s0 else s0.loopIdle l o
  | _ =>
    if ¬ s.flag (CTL_LCFG_EN l) ∨ ¬ s.ownerOn o then s0.loopIdle l o
    else if trig then
      match (s.loopP l).given with
      | some v =>
        let s1 := s0.loopRun l v (s0.input l v) 0
        (match o with
         | .free => s1.freeOut l
         | _ => s1)
      | none => s0
    else if ¬ due then s0
    else
      match o with
      | .free => (s0.routedRun l adc).freeOut l
      | .hv h => s0.hvRun h l 0 adc
      | .hvAc h => s0.hvAcRun h l 0 adc
      | .zone z => s0.zoneRun z l 0
      | o => s0.axisSlowRun o l adc

/-- The outputs as they stand at the start of the base period, which cascades read. -/
def snapLoops : Tab LoopSt → Tab LoopSt
  | [] => []
  | (k, x) :: m =>
    let y := { x with start := x.out }
    if y = LoopSt.init then snapLoops m else (k, y) :: snapLoops m

/-- ADC channels 46 and 47 go to TIM_SPA0 and TIM_SPA1, clamped to ±10.24 V at 312.5 µV, with CLIP beyond (R48). The filter
has no description; the operand is the filtered sample. DESIGN CHOICE (log entry 72). -/
def State.spaTake (s : State) (n : Nat) (v : Option Int) : State :=
  match v with
  | some v =>
    let s1 := s.setFld (TIM_SPA_VALUE n) (toTwos 16 (sat16 v))
    if sat16 v = v then s1 else s1.setOn (TIM_SPA_CLIP n)
  | none => s

/-- One base period: CTL_PERIOD counts, the ramps advance, the loops take their turns. CTL_LOAD shows the most cycles
used, a number the manual leaves open. -/
def State.basePeriod (s : State) (adc : List (Option Int)) : State :=
  let s1 := (s.incWrap CTL_PERIOD_VALUE).setPlant { s.plant with loops := snapLoops s.plant.loops }
  let (used, s2) := s1.free 10001
  let s3 := s2.setFld CTL_LOAD_VALUE (max used (s2.fld CTL_LOAD_VALUE))
  let s4 := (s3.spaTake 0 (adc.getD 46 none)).spaTake 1 (adc.getD 47 none)
  (List.range 128).foldl (fun s l => s.loopTurn adc l) ((List.range 16).foldl State.hvRamp s4.keepLm)

end Sys2Proof.Machine
end

