-- ==== Sys2Proof/Machine/MotionOps.lean ====
section
/-! DEFINITION. Shared operations of the motion unit (R235 to R258): channels and their liveness, starting and coasting,
the limiter of profiles, gearing, the window of current samples, plausibility of the observer, stepper tables. -/

namespace Sys2Proof.Machine

/-! Channels (R235 to R237). -/

/-- A mask without some bits. -/
def clrBits (m : Nat) (bs : List Nat) : Nat := bs.foldl (fun m b => if m.testBit b then m ^^^ 2 ^ b else m) m

/-- MOT_STATUS.CFGERR. -/
def State.motErr (s : State) : State := s.setOn MOT_STATUS_CFGERR

/-- STATE is OFF or COASTING: registers "not while running" may be written. -/
def State.axisIdle (s : State) (i : Nat) : Bool := s.axState i = axOff || s.axState i = axCoasting

/-! Units. -/

def posU : Int := 244140625
def velU : Int := 1562500
def accU : Int := 10000

/-- rpm in 2⁻¹⁶ rev/s, and in the internal unit of velocity. -/
def rpmVel (rpm : Int) : Int := rpm * 65536 / 60
def rpmFine (rpm : Int) : Int := rpm * 5120000000 / 3

/-- |speed| in 2⁻¹⁶ rev/s is at least `rpm`. -/
def atLeastRpm (speed : Int) (rpm : Nat) : Bool := speed.natAbs * 60 ≥ rpm * 65536

/-- |speed| is above `rpm`. -/
def aboveRpm (speed : Int) (rpm : Nat) : Bool := speed.natAbs * 60 > rpm * 65536

/-- The integer square root, bit by bit from bit `n - 1` down. -/
def isqrtFrom (v : Nat) : Nat → Nat → Nat
  | 0, r => r
  | n + 1, r => if (r + 2 ^ n) * (r + 2 ^ n) ≤ v then isqrtFrom v n (r + 2 ^ n) else isqrtFrom v n r

/-- The integer square root of a number below 2¹²⁸, rounded down. -/
def isqrt (v : Nat) : Nat := isqrtFrom v 64 0

/-! The limiter (R252, R253). Limits and motion are in the internal units, in which one period adds acceleration to
velocity and velocity to position. Among the motions within the limits the model takes the quickest.
DESIGN CHOICE (log entry 42). -/

/-- The next acceleration: within `j` of the present one, and within ±`a` or falling toward it. -/
def accWindow (acc a j : Int) : Int × Int := (max (acc - j) (min (-a) (acc + j)), min (acc + j) (max a (acc - j)))

/-- What an acceleration still adds to the velocity while it falls to 0 by `j` a period. -/
def fade (acc j : Int) : Int :=
  if j ≤ 0 then 0
  else
    let n := (acc.natAbs : Int) / j
    let r := n * acc.natAbs - j * n * (n + 1) / 2
    if acc < 0 then -r else r

/-- The velocity that results when the next acceleration is `acc` and then falls to 0. -/
def settle (v acc j : Int) : Int := v + acc + fade acc j

/-- The largest number from `lo` to `hi` with `p`, which holds up to some number; `lo` if it holds nowhere. -/
def seekMax (p : Int → Bool) (hi : Int) : Nat → Int → Int
  | 0, lo => lo
  | n + 1, lo => if lo + 2 ^ n ≤ hi ∧ p (lo + 2 ^ n) then seekMax p hi n (lo + 2 ^ n) else seekMax p hi n lo

/-- The next acceleration toward velocity `vt`, which is reached exactly and never passed. -/
def trackAcc (v acc vt a j : Int) : Int :=
  let (lo, hi) := accWindow acc a j
  let k := seekMax (fun x => settle v x j ≤ vt) hi 40 lo
  if k < hi ∧ k < 0 ∧ settle v k j < vt then k + 1 else k

/-- More periods than a stop takes. -/
def stopFuel (v acc a j : Int) : Nat :=
  if a ≤ 0 ∨ j ≤ 0 then 0
  else (8 + 4 * ((acc.natAbs : Int) + a) / j + (v.natAbs + acc.natAbs * (acc.natAbs / j + 1)) / a).toNat

/-- Where a motion comes to rest that brakes at once. -/
def stopFrom (a j : Int) : Nat → Int → Int → Int → Option Int
  | 0, _, _, _ => none
  | n + 1, p, v, acc =>
    if v = 0 ∧ acc = 0 then some p
    else
      let x := trackAcc v acc 0 a j
      stopFrom a j n (p + v + x) (v + x) x

/-- A motion that brakes at once rests at `t` or before it. -/
def stopsBy (p v acc t a j : Int) : Bool :=
  match stopFrom a j (stopFuel v acc a j) p v acc with
  | some q => q ≤ t
  | none => false

/-- The next acceleration toward a target above: the largest after which the motion can still stop at the target or
before it, at a velocity of at most `cap`. It accelerates within `a` and `j` and brakes within `ab` and `jb`. -/
def approachAcc (p v acc t a j ab jb cap : Int) : Int :=
  let lo := (accWindow acc ab jb).1
  let up := (accWindow acc a j).2
  let hi := if acc < 0 then max up (min 0 (acc + jb)) else up
  seekMax (fun x => settle v x jb ≤ cap && stopsBy (p + v + x) (v + x) x t ab jb) (max lo hi) 40 lo

/-- The same toward a target on either side, with the velocity between −`dn` and `cap`. -/
def moveAcc (p v acc t a j ab jb cap dn : Int) : Int :=
  if p ≤ t then approachAcc p v acc t a j ab jb cap else -approachAcc (-p) (-v) (-acc) (-t) a j ab jb dn

/-! The set-point (R252, R253). -/

/-- POS, VEL shown from the profile: VEL to nearest on an engaged gear, whose velocity follows TIM_VEL (R254), else
rounded down. DESIGN CHOICE (log entry 72). -/
def State.showProfile (s : State) (i : Nat) : State :=
  let x := s.axisP i
  let p := toTwos 64 (x.pos / posU)
  let v := if s.flag (MOT_STAT_ENGAGED i) then x.vel + velU / 2 else x.vel
  ((s.setFld (MOT_POSLO_VALUE i) (p % 2 ^ 32)).setFld (MOT_POSHI_VALUE i) (p / 2 ^ 32)).setFld (MOT_VEL_VALUE i)
    (toTwos 32 (v / velU))

/-- MOT_STAT's bits of a move end. -/
def State.moveEnd (s : State) (i : Nat) : State :=
  ((s.setOff (MOT_STAT_MOVING i)).setOff (MOT_STAT_LIMPEND i)).mapAxis i fun x => { x with limA := 0, limJ := 0 }

/-- AMAX, 64 × JMAX and VMAX in internal units. -/
def State.accMax (s : State) (i : Nat) : Int := s.fld (MOT_AMAX_VALUE i) * accU
def State.jerkMax (s : State) (i : Nat) : Int := s.fld (MOT_JMAX_VALUE i) * 64
def State.velMax (s : State) (i : Nat) : Int := (s.fld (MOT_VMAX_VALUE i) : Int) * velU

/-- The limits of a braking move: under LIMPEND the larger of the old and the new values (R253). -/
def State.brakeAcc (s : State) (i : Nat) : Int := max (s.accMax i) ((s.axisP i).limA * accU)
def State.brakeJerk (s : State) (i : Nat) : Int := max (s.jerkMax i) ((s.axisP i).limJ * 64)

/-- TARGET in the unit of positions. -/
def State.target (s : State) (i : Nat) : Int :=
  ofTwos 64 (s.fld (MOT_TARGETHI_VALUE i) * 2 ^ 32 + s.fld (MOT_TARGETLO_VALUE i)) * posU

/-- One period with an acceleration. -/
def State.moveBy (s : State) (i : Nat) (a : Int) : State :=
  s.mapAxis i fun x => { x with acc := a, vel := x.vel + a, pos := x.pos + x.vel + a }

/-- One period toward a velocity, which VMAX limits. -/
def State.limitVel (s : State) (i : Nat) (vt : Int) : State :=
  let x := s.axisP i
  s.moveBy i (trackAcc x.vel x.acc (limitI (s.velMax i) vt) (s.accMax i) (s.jerkMax i))

/-- One period of a move: it never passes its target, and ends there at rest. DESIGN CHOICE (log entry 42). -/
def State.limitMove (s : State) (i : Nat) : State :=
  let x := s.axisP i
  let t := s.target i
  if x.pos = t ∧ x.vel = 0 ∧ x.acc = 0 then s.moveEnd i
  else
    let v := s.velMax i
    s.moveBy i (moveAcc x.pos x.vel x.acc t (s.accMax i) (s.jerkMax i) (s.brakeAcc i) (s.brakeJerk i) v v)

/-! Gearing (R254). -/

/-- GEARNUM / GEARDEN × `n` × 2⁻¹⁶ line × 2²⁴, in the unit of positions, rounded down. -/
def State.geared (s : State) (i : Nat) (n : Int) : Int :=
  ofTwos 16 (s.fld (MOT_GEARNUM_VALUE i)) * n * 256 * posU / (s.fld (MOT_GEARDEN_VALUE i) : Int)

/-- The gear set-point P0 + (GEARNUM / GEARDEN) × (WPOS − W0) × 2²⁴ + OFS, formed exactly from the capture. -/
def State.gearSet (s : State) (i : Nat) : Int :=
  let x := s.axisP i
  x.p0 + s.geared i ((s.wpos : Int) - x.w0) + x.ofs * posU

/-- The gear velocity, per period of 25 µs: TIM_VEL (2⁻²⁴ line/µs) through the ratio; 0 while WPOS holds.
DESIGN CHOICE (log entry 42). -/
def State.gearVel (s : State) (i : Nat) : Int :=
  if s.inhibit then 0
  else ofTwos 16 (s.fld (MOT_GEARNUM_VALUE i)) * s.fld TIM_VEL_VEL * 25 * posU / (s.fld (MOT_GEARDEN_VALUE i) : Int)

/-- Engagement begins: P0 and W0 are captured so that g equals the present position. -/
def State.gearEngage (s : State) (i : Nat) : State :=
  (s.mapAxis i fun x => { x with p0 := x.pos - x.ofs * posU, w0 := s.wpos }).setOff (MOT_STAT_ENGAGED i)

/-- One period on an engaged gear: the limiter tracks g, which moves by `vg` in the period, as the target of a move in the
frame that moves with it; within 2⁻²⁴ revolution of g it follows the velocity. DESIGN CHOICE (log entry 42). -/
def State.gearTrack (s : State) (i : Nat) (g vg : Int) : State :=
  let x := s.axisP i
  let r := x.pos - (g - vg)
  let a := s.accMax i
  let j := s.jerkMax i
  if r.natAbs ≤ posU.natAbs then s.limitVel i vg
  else s.moveBy i (moveAcc r (x.vel - vg) x.acc 0 a j a j (s.velMax i - vg) (s.velMax i + vg))

/-- One period of the blend: the velocity goes to the gear velocity, what is lost or gained is absorbed into P0 and added
to GEARSLIP; ENGAGED at the gear velocity. -/
def State.gearBlend (s : State) (i : Nat) (g vg : Int) : State :=
  let s1 := s.limitVel i vg
  let y := s1.axisP i
  let d := y.pos - g
  ((s1.setAxis i { y with p0 := y.p0 + d, slip := y.slip + d }).setFld (MOT_GEARSLIP_VALUE i)
    (toTwos 32 (clampS 32 (tdiv (y.slip + d) posU)))).setBool (MOT_STAT_ENGAGED i) (y.vel = vg)

/-- One period of GEAR mode: the applied offset moves by at most OFSRATE, then the blend or the engaged gear. -/
def State.gearStep (s : State) (i : Nat) : State :=
  let x := s.axisP i
  let want := ofTwos 32 (s.fld (MOT_GEAROFS_VALUE i))
  let o := x.ofs + limitI (s.fld (MOT_OFSRATE_VALUE i)) (want - x.ofs)
  let s1 := s.setAxis i { x with ofs := o }
  let vg := s1.gearVel i + (o - x.ofs) * posU
  if s.flag (MOT_STAT_ENGAGED i) then s1.gearTrack i (s1.gearSet i) vg else s1.gearBlend i (s1.gearSet i) vg

/-! The polygon's set-point (R150 to R152, R252). -/

/-- The speed of an axis bound to an acquiring port: feed-forward TIM_VEL / 2,048 plus the phase loop's trim, at most
±0.5 % while the port pulls in; while the port is held, the larger of the TIM_VEL demand and SCN_IDLERPM. -/
def State.scanSpeed (s : State) (n : Nat) : Int :=
  let ff : Int := (s.fld TIM_VEL_VEL * 1000000 / 2 ^ 19 : Nat)
  if s.flag (SCN_STAT_HELD n) then max ff (rpmVel (s.fld (SCN_IDLERPM_RPM n))) * velU
  else
    let trim := (s.loopP (s.fld (SCN_CFG_LOOP n))).start
    (ff + (if s.flag (SCN_STAT_LOCKED n) then trim else limitI (ff / 200) trim)) * velU

/-- The speed set-point of VELOCITY mode. -/
def State.velocitySet (s : State) (i : Nat) : Int :=
  let p := s.fld (MOT_CFG_SCNPORT i)
  if p ≠ 0 ∧ (s.flag (SCN_STAT_ACQ (p - 1)) ∨ s.flag (SCN_STAT_HELD (p - 1))) then s.scanSpeed (p - 1)
  else rpmFine (ofTwos 16 (s.fld (MOT_TGTRPM_RPM i)))

/-- One period of the profile of an axis in closed loop, by its mode. -/
def State.profileStep (s : State) (i : Nat) : State :=
  match s.fld (MOT_CFG_MODE i) with
  | 1 => if s.flag (MOT_STAT_MOVING i) then s.limitMove i else s.limitVel i 0
  | 2 => s.limitVel i (s.velocitySet i)
  | 3 => s.gearStep i
  | 4 => s.limitVel i ((s.loopP (s.fld (MOT_LOOPS_SLOOP i))).start * velU)
  | _ => s.limitVel i 0

/-! Coasting, starting (R251, R257). -/

/-- The gates of each channel of an axis go off as it turns OFF or coasts: nothing of the last period stands in MOT_STAT,
and the set-point velocity is 0. DEDUCED (log entry 43). -/
def State.axisRelease (s : State) (i st : Nat) : State :=
  let s1 := [MOT_STAT_ENGAGED i, MOT_STAT_SHIFT i, MOT_STAT_PRED i, MOT_STAT_VSAT i, MOT_STAT_ATSPD i].foldl State.setOff
    ((s.setAxState i st).moveEnd i)
  (s1.mapAxis i fun x => { x with
    vel := 0, acc := 0, lost := false, atN := 0, badN := 0, okN := 0, stallN := 0, predN := 0, duties := [], next := [],
    seed := none, adv := 0 }).showProfile i

/-- The axis coasts. DEDUCED (log entry 43). -/
def State.coastAxis (s : State) (i : Nat) : State := s.axisRelease i axCoasting

/-- Every axis whose outputs were released coasts (R258). -/
def State.coastAll (s : State) : State :=
  (List.range 16).foldl (fun s i => if s.axState i = axOff then s else s.coastAxis i) s

/-- A fault bit of the axis or of its channels stands (R257). -/
def State.axisFaulty (s : State) (i : Nat) : Bool :=
  (if i < 12 then s.srcSet 12 i || s.srcSet 12 (16 + i) else s.srcSet 12 i) ||
    (axisChannels i).any fun c => s.srcSet 13 c

/-- START (R251, R257, R259). A channel an escalation held off becomes usable once the block has left fault handling
(R245). A stepper takes IAUX in its first period. DEDUCED (log entry 43), DEDUCED (log entry 44),
DESIGN CHOICE (log entry 72). -/
def State.axisStart (s : State) (i : Nat) : State :=
  if ¬ s.flag (MOT_CFG_EN i) ∨ ¬ s.axisIdle i ∨ s.axisFaulty i ∨ s.fld (MOT_VMAX_VALUE i) = 0 ∨
      s.fld (MOT_AMAX_VALUE i) = 0 ∨ s.fld (MOT_JMAX_VALUE i) = 0 ∨
      (s.blk 13 ≠ 0 ∧ (axisChannels i).any s.plant.chOff.testBit) then s.motErr
  else
    let s1 := (s.setPlant { s.plant with chOff := clrBits s.plant.chOff (axisChannels i) }).mapAxis i fun x => { x with reps := 0, lost := false, badN := 0, okN := 0, atN := 0, vel := 0, acc := 0 }
    if i < 12 then (s1.setAxState i axSensing).interlock 52
    else
      let s2 := (s1.setAxState i axRunning).mapAxis i fun x => { x with left := 1 }
      (if s.fld (MOT_CFG_MODE i) = 3 then s2.gearEngage i else s2).interlock 52

/-- The loops close (R251): RUNNING, the estimated position starts at the set-point, the gear engages.
DESIGN CHOICE (log entry 72). -/
def State.closeLoops (s : State) (i : Nat) : State :=
  let s1 := (s.setAxState i axRunning).mapAxis i fun x => { x with est := x.pos / posU, estRem := 0 }
  if s.fld (MOT_CFG_MODE i) = 3 then s1.gearEngage i else s1

/-- STOP (R253): the target is abandoned, the axis decelerates within the limits. -/
def State.axisStop (s : State) (i : Nat) : State :=
  let st := s.axState i
  if st = axOff ∨ st = axCoasting ∨ st = axHolding then s
  else ((s.setAxState i axStopping).setOff (MOT_STAT_ENGAGED i)).moveEnd i

/-- MOVE (R253): discarded while a move runs; it starts one in POSITION mode. -/
def State.axisMove (s : State) (i : Nat) : State :=
  if s.flag (MOT_STAT_MOVING i) then s.motErr
  else if s.fld (MOT_CFG_MODE i) = 1 ∧ (s.axState i = axRunning ∨ s.axState i = axHolding) then
    (s.setOn (MOT_STAT_MOVING i)).setAxState i axRunning
  else s

/-- Periods of the ramp from rest to HANDOVER under AMAX and JMAX. -/
def State.rampPeriods (s : State) (i : Nat) : Nat :=
  let h := (rpmFine (s.fld (MOT_STARTC_HANDOVER i))).toNat
  let a := (s.accMax i).toNat
  let j := (s.jerkMax i).toNat
  if a = 0 ∨ j = 0 then 0 else if h * j ≥ a * a then h / a + a / j else 2 * isqrt (h / j)

/-! Angles, in 1/65,536 revolution. -/

/-- round(32,767 × sin(2πk / 1,024)) for k = 0 to 256: the first quarter of the sine. -/
def sineQuarter : List Nat :=
  [0, 201, 402, 603, 804, 1005, 1206, 1407, 1608, 1809, 2009, 2210, 2410, 2611, 2811, 3012, 3212, 3412, 3612, 3811,
   4011, 4210, 4410, 4609, 4808, 5007, 5205, 5404, 5602, 5800, 5998, 6195] ++
  [6393, 6590, 6786, 6983, 7179, 7375, 7571, 7767, 7962, 8157, 8351, 8545, 8739, 8933, 9126, 9319, 9512, 9704, 9896,
   10087, 10278, 10469, 10659, 10849, 11039, 11228, 11417, 11605, 11793, 11980, 12167, 12353] ++
  [12539, 12725, 12910, 13094, 13279, 13462, 13645, 13828, 14010, 14191, 14372, 14553, 14732, 14912, 15090, 15269,
   15446, 15623, 15800, 15976, 16151, 16325, 16499, 16673, 16846, 17018, 17189, 17360, 17530, 17700, 17869, 18037] ++
  [18204, 18371, 18537, 18703, 18868, 19032, 19195, 19357, 19519, 19680, 19841, 20000, 20159, 20317, 20475, 20631,
   20787, 20942, 21096, 21250, 21403, 21554, 21705, 21856, 22005, 22154, 22301, 22448, 22594, 22739, 22884, 23027] ++
  [23170, 23311, 23452, 23592, 23731, 23870, 24007, 24143, 24279, 24413, 24547, 24680, 24811, 24942, 25072, 25201,
   25329, 25456, 25582, 25708, 25832, 25955, 26077, 26198, 26319, 26438, 26556, 26674, 26790, 26905, 27019, 27133] ++
  [27245, 27356, 27466, 27575, 27683, 27790, 27896, 28001, 28105, 28208, 28310, 28411, 28510, 28609, 28706, 28803,
   28898, 28992, 29085, 29177, 29268, 29358, 29447, 29534, 29621, 29706, 29791, 29874, 29956, 30037, 30117, 30195] ++
  [30273, 30349, 30424, 30498, 30571, 30643, 30714, 30783, 30852, 30919, 30985, 31050, 31113, 31176, 31237, 31297,
   31356, 31414, 31470, 31526, 31580, 31633, 31685, 31736, 31785, 31833, 31880, 31926, 31971, 32014, 32057, 32098] ++
  [32137, 32176, 32213, 32250, 32285, 32318, 32351, 32382, 32412, 32441, 32469, 32495, 32521, 32545, 32567, 32589,
   32609, 32628, 32646, 32663, 32678, 32692, 32705, 32717, 32728, 32737, 32745, 32752, 32757, 32761, 32765, 32766] ++
  [32767]

/-- The microstep table after chip reset. -/
def sineReset (k : Nat) : Int :=
  let q := k % 1024
  if q ≤ 256 then sineQuarter.getD q 0
  else if q ≤ 512 then sineQuarter.getD (512 - q) 0
  else if q ≤ 768 then -(sineQuarter.getD (q - 512) 0 : Int)
  else -(sineQuarter.getD (1024 - q) 0 : Int)

/-- Sine and cosine times 32,767 × 64, interpolated linearly in the reset microstep table.
DESIGN CHOICE (log entry 42). -/
def sinTurn (a : Int) : Int :=
  let n := (a % 65536).toNat
  sineReset (n / 64) * (64 - n % 64 : Nat) + sineReset (n / 64 + 1) * (n % 64 : Nat)
def cosTurn (a : Int) : Int := sinTurn (a + 16384)
def unitTurn : Int := 32767 * 64

/-- A vector of the stationary axes along d and q at an angle, and back (the Park transform of R248). -/
def park (ang : Int) (v : Int × Int) : Int × Int :=
  (tdiv (v.1 * cosTurn ang + v.2 * sinTurn ang) unitTurn, tdiv (v.2 * cosTurn ang - v.1 * sinTurn ang) unitTurn)
def unpark (ang : Int) (v : Int × Int) : Int × Int := park (-ang) v

/-- The angle of the first quadrant with tangent `y / x`, bit by bit. -/
def seekAngle (x y : Nat) : Nat → Int → Int
  | 0, a => a
  | n + 1, a =>
    let b := a + 2 ^ n
    if b ≤ 16384 ∧ sinTurn b * x ≤ cosTurn b * y then seekAngle x y n b else seekAngle x y n a

/-- The angle of a vector (x, y). -/
def angleOf (x y : Int) : Int :=
  let a := seekAngle x.natAbs y.natAbs 15 0
  (if 0 ≤ x then (if 0 ≤ y then a else -a) else if 0 ≤ y then 32768 - a else 32768 + a) % 65536

/-- The voltages that the duties in force apply, in mV along the stationary axes, or across a stepper's phases A and B,
from the axis's motor supply. DESIGN CHOICE (log entry 42). -/
def State.applied (s : State) (i : Nat) : Int × Int :=
  let m := s.drvFld (GDR_CHCFG_VMSEL ((axisChannels i).headD 0))
  let v : Int := Config.supplyMv m (s.brake m).sense
  let ds := (s.axisP i).duties
  let d (k : Nat) : Int := (ds.getD k 2500 : Nat)
  if i < 12 then (tdiv (v * (2 * d 0 - d 1 - d 2)) 15000, tdiv (v * (d 1 - d 2) * 37837) (5000 * 65536))
  else (tdiv (v * (d 0 - d 1)) 5000, tdiv (v * (d 2 - d 3)) 5000)

/-! Current samples (R247). -/

/-- The nanoseconds the low-side interval must span on each side of the valley. -/
def State.needNs (s : State) (i : Nat) : Nat := max (s.fld (MOT_SAMP_SETTLE i)) 500

/-- No edge of a phase of duty `d` falls in the window; a phase that stays on has no edge. -/
def State.phaseOk (s : State) (i d : Nat) : Bool := d ≥ 5000 || (5000 - d) * 5 ≥ 2 * s.needNs i

/-- A privileged axis can move the phase's low-side interval. -/
def State.phaseShift (s : State) (i d : Nat) : Bool := (5000 - d) * 5 ≥ s.fld (MOT_SAMP_SETTLE i) + 500

/-- The largest duty that leaves a valid window. -/
def State.dutyLimit (s : State) (i : Nat) : Nat :=
  if s.flag (MOT_CFG_PRIV i) then 5000 - (s.fld (MOT_SAMP_SETTLE i) + 500 + 4) / 5
  else 5000 - (2 * s.needNs i + 4) / 5

/-- The currents predicted on one axis: i + (Ts / L) × (v − R × i − e), in mA; with L = 0 the manual gives no value. -/
def State.predict (s : State) (i : Nat) (cur v e : Int) : Int × State :=
  let l := s.fld (MOT_MOTOR_IND i)
  if l = 0 then
    let (k, s1) := s.free (2 ^ 32)
    (ofTwos 32 k, s1)
  else (cur + tdiv (25 * (1000 * (v - e) - s.fld (MOT_MOTOR_RES i) * cur)) (1000 * l), s)

/-- The duties of the coming period: those the last one formed; after PREDMAX predictions they are clamped. -/
def State.comingDuties (s : State) (i : Nat) : List Nat :=
  let x := s.axisP i
  if x.predN ≥ s.fld (MOT_SAMP_PREDMAX i) ∧ ¬ x.next.all (s.phaseOk i) then x.next.map fun d => min d (s.dutyLimit i)
  else x.next

/-- The currents of a period: sampled along the stationary axes (a stepper's phases A and B), or carried on along d and q
(A and B), in mA. -/
inductive Amps
  | fresh (a b : Int)
  | carried (d q : Int)
deriving DecidableEq, Repr

/-- The two samples of the valley as currents: Clarke's transform of phases U and V, or phases A and B (R246, R248);
1/√3 is 37,837 / 65,536. None: lost with a drive-link frame. DESIGN CHOICE (log entry 42). -/
def State.axisAmps (s : State) (i : Nat) (adc : List (Option Int)) : Option (Int × Int) :=
  let na := s.fld (MOT_ADC_IA i)
  let nb := s.fld (MOT_ADC_IB i)
  match adc.getD na none, adc.getD nb none with
  | some a, some b =>
    let u := Config.sensorMa na a
    let v := Config.sensorMa nb b
    some (if i < 12 then (u, tdiv ((u + 2 * v) * 37837) 65536) else (u, v))
  | _, _ => none

/-- The sample of a period is taken, taken by shifting, or predicted (R247); with a sample that is lost the currents stay.
`v` is the applied voltage along d and q. -/
def State.sample (s : State) (i : Nat) (v : Int × Int) (adc : List (Option Int)) : Amps × State :=
  let x := s.axisP i
  let ds := s.comingDuties i
  let bad := ds.filter fun d => ! s.phaseOk i d
  let shift : Bool := bad ≠ [] && s.flag (MOT_CFG_PRIV i) && bad.all (s.phaseShift i)
  let s0 := s.setAxis i { x with duties := ds, predN := if bad = [] ∨ shift then 0 else x.predN + 1 }
  if bad = [] ∨ shift then
    let s1 := (s0.setOff (MOT_STAT_PRED i)).setBool (MOT_STAT_SHIFT i) shift
    (match s.axisAmps i adc with
     | some (a, b) => .fresh a b
     | none => .carried x.id x.iq, if shift then s1.inc (MOT_SHIFTCNT_COUNT i) else s1)
  else
    let (a, s1) := s0.predict i x.id v.1 x.ed
    let (b, s2) := s1.predict i x.iq v.2 x.eq
    (.carried a b, ((s2.inc (MOT_SKIPCNT_COUNT i)).setOn (MOT_STAT_PRED i)).setOff (MOT_STAT_SHIFT i))

/-! The observer (R248, R249). -/

/-- The electrical angle of the d axis: 0 while aligning, that of the ramp in open loop (R251), else the observer's. -/
def State.frameAng (s : State) (i : Nat) : Int :=
  let x := s.axisP i
  if s.axState i = axAligning then 0
  else if s.axState i = axOpenLoop then (x.pos - x.base) / posU * s.fld (MOT_CFG_POLES i) / 256
  else x.ang

/-- The observer's output is plausible. |E| / (KE × |speed|) with KE in mV per 1,000 rpm. -/
def State.plausible (s : State) (i : Nat) (o : Config.ObsOut) : Bool :=
  let ke := s.fld (MOT_KE_VALUE i) * o.speed.natAbs * 60
  let e := o.emf * 64 * 65536 * 1000
  let ratio : Bool := s.fld (MOT_SYNCC_SYNCLO i) * ke ≤ e && e ≤ s.fld (MOT_SYNCC_SYNCHI i) * ke
  (! aboveRpm o.speed (s.fld (MOT_STARTC_HANDOVER i)) || ratio) && 2 * o.speed.natAbs ≤ 3 * s.fld (MOT_VMAX_VALUE i)

/-- Synchronism is lost: current set-points 0 at once, SYNC. -/
def State.syncLost (s : State) (i : Nat) : State := (s.mapAxis i fun x => { x with lost := true }).raise 12 i

/-- The observer's period: it takes the currents and the applied voltage `v` of the stationary axes. -/
def State.observed (s : State) (i : Nat) (c : Amps) (v : Int × Int) : Config.ObsOut :=
  let x := s.axisP i
  let ab := match c with
    | .fresh a b => (a, b)
    | .carried d q => unpark (s.frameAng i) (d, q)
  Config.observer
    { axis := i, mem := x.obs, ia := ab.1, ib := ab.2, va := v.1, vb := v.2, res := s.fld (MOT_MOTOR_RES i)
      ind := s.fld (MOT_MOTOR_IND i), ke := s.fld (MOT_KE_VALUE i), poles := s.fld (MOT_CFG_POLES i), seed := x.seed }

/-- The estimate moves to a new electrical angle; the estimated position follows by the shorter way. -/
def Axis.turnTo (x : Axis) (poles : Nat) (ang : Int) : Axis :=
  let n := ofTwos 16 ((ang - x.ang) % 65536).toNat * 256 + x.estRem
  { x with ang := (ang % 65536).toNat, est := x.est + n / poles, estRem := n % poles }

/-- The axis takes the observer's output: angle, position, speed; the back-EMF lies on the q axis; the currents along d and
q; consecutive plausible and implausible periods, of which SYNCN implausible ones in closed loop lose synchronism. -/
def State.observe (s : State) (i : Nat) (c : Amps) (v : Int × Int) : State :=
  let o := s.observed i c v
  let ok := s.plausible i o
  let closed : Bool := s.axState i = axRunning ∨ s.axState i = axStopping ∨ s.axState i = axBraking
  let s1 := (s.mapAxis i fun x => { x.turnTo (s.fld (MOT_CFG_POLES i)) o.ang with
    obs := o.mem, seed := none, ed := 0, eq := if o.speed < 0 then -(o.emf : Int) else o.emf
    badN := if ok then 0 else min (x.badN + 1) 256, okN := if ok then min (x.okN + 1) 256 else 0 }).setFld
    (MOT_SPEED_VALUE i) (toTwos 32 (clampS 32 o.speed))
  let dq := match c with
    | .fresh a b => park (s1.frameAng i) (a, b)
    | .carried d q => (d, q)
  let s2 := s1.mapAxis i fun x => { x with id := dq.1, iq := dq.2 }
  let x := s2.axisP i
  if closed ∧ x.badN ≥ s.fld (MOT_SYNCC_SYNCN i) ∧ ¬ x.lost then s2.syncLost i else s2

/-- The phase advance of R250 at a speed, interpolated linearly in 1/65,536 electrical revolution, rounded down. -/
def State.advance (s : State) (i : Nat) (speed : Int) : Nat :=
  let adv := fun k => s.fld ((MOT_ADV0_VALUE i).up (4 * k))
  let span := s.fld (MOT_ADVSPAN_VALUE i) * 65536
  let q := speed.natAbs * 60 * 16
  let k := q / span
  if k ≥ 16 then adv 16
  else ((adv k : Int) + ((adv (k + 1) : Int) - adv k) * (q % span : Nat) / (span : Int)).toNat

/-! Steppers (R255, R256). -/

/-- An entry of the microstep table of stepper `st`: the written one, or the reset value (kept plus 1 when written). -/
def State.microstep (s : State) (st k : Nat) : Int :=
  match tabGet 0 s.plant.micro (st * 1024 + k % 1024) with
  | 0 => sineReset k
  | v + 1 => ofTwos 16 v

/-- The table address of the present position. -/
def State.microAddr (s : State) (i : Nat) : Nat := (s.posOf i * s.fld (MOT_CFG_POLES i) / 16384 % 1024).toNat

/-- The commanded electrical angle in 1/65,536 revolution. -/
def State.cmdAngle (s : State) (i : Nat) : Nat := (s.posOf i * s.fld (MOT_CFG_POLES i) / 256 % 65536).toNat

/-- The load angle and its checks. -/
def State.loadAngle (s : State) (i : Nat) : State :=
  let x := s.axisP i
  let d := ofTwos 16 ((s.cmdAngle i + 65536 - x.ang) % 65536)
  let old := ofTwos 16 (s.fld (MOT_LOADANG_VALUE i))
  let s1 := s.setFld (MOT_LOADANG_VALUE i) (toTwos 16 d)
  if aboveRpm (s.velOf i) (s.fld (MOT_STALL_STMINRPM i)) then
    let n := if d.natAbs > s.fld (MOT_STALL_STALLANG i) then min (x.stallN + 1) 9 else 0
    let s2 := s1.setAxis i { x with stallN := n }
    let s3 := if n = 8 then s2.raise 12 i else s2
    if (d - old).natAbs > 32768 then (s3.inc (MOT_LOSTSTEP_COUNT i)).raise 12 i else s3
  else s1.setAxis i { x with stallN := 0 }

/-- The rotor angle of a stepper that turns forward or backward, from the voltages induced in its phases. The rotor stands
at the commanded angle θ, of which the table gives phase A the sine and phase B the cosine, when nothing loads it; the
induced voltages are then as cos θ and −sin θ times the speed. DESIGN CHOICE (log entry 42). -/
def rotorAngle (fwd : Bool) (ea eb : Int) : Int := if fwd then angleOf ea (-eb) else angleOf (-ea) eb

/-- A stepper's period: the induced voltages u − R × i − L × di/dt in mV from the currents and the applied voltages, the
rotor's angle, its speed from the angle's change, and the checks. DESIGN CHOICE (log entry 42). -/
def State.stepperObserve (s : State) (i : Nat) (c : Amps) (v : Int × Int) : State :=
  let x := s.axisP i
  let (a, b) := match c with
    | .fresh a b => (a, b)
    | .carried a b => (a, b)
  let e (u now old : Int) : Int :=
    u - tdiv (s.fld (MOT_MOTOR_RES i) * now) 1000 - tdiv (s.fld (MOT_MOTOR_IND i) * (now - old)) 25
  let ea := e v.1 a x.id
  let eb := e v.2 b x.iq
  let ang := rotorAngle (0 ≤ s.velOf i) ea eb
  let poles := s.fld (MOT_CFG_POLES i)
  let turn := ofTwos 16 ((ang - x.ang) % 65536).toNat
  ((s.setAxis i { x.turnTo poles ang with id := a, iq := b, ed := ea, eq := eb }).setFld (MOT_SPEED_VALUE i)
    (toTwos 32 (turn * 40000 / poles))).loadAngle i

end Sys2Proof.Machine
end

