-- ==== Sys2Proof/Machine/Drive.lean ====
section
/-! DEFINITION. The commands of gate drive and brake choppers (R239 to R243). -/

namespace Sys2Proof.Machine

/-- A gate's strength step after a credited transition of `ns` nanoseconds that began `start` after the turn-on (R240).
The step stays within MINSTEP to MAXSTEP. -/
def adaptStep (lo hi target tol step start ns : Nat) : Nat :=
  if start + ns > 2 * target + 100 then step
  else if ns > target + tol then clampN lo hi (step + 1)
  else if ns + tol < target then clampN lo hi (step - 1)
  else clampN lo hi step

/-- SWITCH_TRANSITION: a transition of the switch node of channel `c`, from 20 % to 80 % of its motor supply in `ns`
nanoseconds, which began `start` nanoseconds after one gate was commanded off and the other, the high side if `hs`, on.
One that began within the dead time is credited to no gate (R240). DESIGN CHOICE (log entry 72). -/
def execSwitchTransition (c : Nat) (hs : Bool) (start ns : Nat) (s : State) : Host.Outcome State Fault Refusal :=
  .next (
    let dead := 5 * s.drvFld (GDR_CHCFG_DT c)
    if s.isOff ∨ ¬ s.dieUp ∨ c ≥ 52 ∨ start < dead ∨ s.gateOut c (! hs) = .off then s
    else
      let s1 := s.setFld (if hs then GDR_TSW_TSWHS c else GDR_TSW_TSWLS c) (min ns 0xFFFF)
      if s.drvFlag (GDR_CHCFG_ADAPT c) ∧ ¬ s.drvFlag (GDR_CHCFG_BOOST c) then
        let f := if hs then GDR_STR_HSSTEP c else GDR_STR_LSSTEP c
        s1.setFld f (adaptStep (s.drvFld (GDR_STR_MINSTEP c)) (s.drvFld (GDR_STR_MAXSTEP c))
          (s.drvFld (GDR_STR_TARGET c)) (s.drvFld (GDR_STR_TOL c)) (s.fld f) (start - dead) ns)
      else s1)

/-- A sticky driver fault of a channel and its source bit (R242, R245). -/
def State.chanFault (s : State) (c : Nat) (f : Field) : State := (s.setOn f).raise 13 c

/-- The blanking after the turn-on command of a gate that is on has passed (R242). -/
def State.unblanked (s : State) (c : Nat) (low : Bool) (since : Nat) : Bool :=
  c < 52 && s.gateOut c low ≠ .off && since ≥ s.drvFld (GDR_CHCFG_DESATBLK c)

/-- A desaturated switch: `mv` across it beyond DESATV half-volts, with no external booster (R241, R242). -/
def State.desat (s : State) (c : Nat) (low : Bool) (mv since : Nat) : Bool :=
  s.unblanked c low since && ! s.drvFlag (GDR_CHCFG_BOOST c) && mv > 500 * s.drvFld (GDR_CHCFG_DESATV c)

/-- DRIVER_FAULT: a comparison of the drive die: the voltage in mV across the switch, of the bootstrap or of the gate
supply, `since` quarter microseconds after the turn-on command (R242). It never switches a gate. The gate supply is too
low from below 9.0 V until it is above 9.5 V. -/
def execDriverFault (f : DrvFault) (mv since : Nat) (s : State) : Host.Outcome State Fault Refusal :=
  .next (
    if s.isOff ∨ ¬ s.dieUp then s else
    match f with
    | .desatHs c => if s.desat c false mv since then s.chanFault c (GDR_CHST_DESATHS c) else s
    | .desatLs c => if s.desat c true mv since then s.chanFault c (GDR_CHST_DESATLS c) else s
    | .bootUv c => if s.unblanked c false since ∧ mv < 7000 then s.chanFault c (GDR_CHST_BOOTUV c) else s
    | .vgdUv => (s.setPlant { s.plant with
        vgd := min mv 0xFFFF, vgdUv := decide (mv < 9000) || s.plant.vgdUv && decide (mv ≤ 9500) }).vgdReport)

/-- BRAKE_COMPARATOR: the sense voltage of a motor supply moves to `mv` millivolts (R243). The comparators act whether or
not the drive link is up (R15). -/
def execBrakeComparator (a mv : Nat) (s : State) : Host.Outcome State Fault Refusal :=
  .next (
    if a ≥ 2 ∨ ¬ s.dieUp then s
    else
      let b := s.brake a
      (((s.setBrake a { b with sense := min mv 0xFFF, above := false }).brakeCompare a).brakeTrip a).brakeReport a)

/-- What GDR_BRKCFGa.ARM reads: the latch, on the Standby also its shadow copy (R19, R243). -/
def State.armReads (s : State) (a : Nat) : Bool := s.flag (GDR_BRKCTL_ARM a) || s.isStandby && (s.brake a).shadow

/-- A write of GDR_BRKCFGa.ARM: 1 goes with the next drive-link frame to the drive-die latch, on the Standby to its
shadow copy; 0 while it is set is discarded. -/
def State.armWrite (s : State) (a : Nat) (v : Bool) : State :=
  if v then
    if s.isStandby then s.setBrake a { s.brake a with shadow := true } else s.setBrake a { s.brake a with armReq := true }
  else if s.armReads a then s.setOn GDR_STATUS_CFGERR
  else s

/-- BRAKE_ARM_WRITE (R243). -/
def execBrakeArmWrite (a : Nat) (v : Bool) (s : State) : Host.Outcome State Fault Refusal :=
  .next (if s.isOff then s else if a < 2 then s.armWrite a v else s)

end Sys2Proof.Machine
end

