-- ==== Sys2Proof/Machine/Fuser.lean ====
section
/-! DEFINITION. The commands of the fuser (R273 to R275). The block is held in reset on Workers (R19). -/

namespace Sys2Proof.Machine

/-- A zone whose burst output is under control. -/
def State.burstZone (s : State) (z : Nat) : Bool :=
  s.flag (FUS_ZCFG_EN z) && ! s.flag (FUS_ZCFG_HEAT z) && ! (s.zoneP z).off

/-- One half-cycle of a zone's window: at its start, z half-cycles after zone 0's, the on half-cycles are formed anew
from the duty; the carried error grows by them. -/
def State.zoneWindow (s : State) (z : Nat) : State :=
  if s.burstZone z then
    let win := s.fld FUS_BURST_WIN
    let x := s.zoneP z
    let start : Bool := (s.plant.halfCycle + win * 24 - z) % win = 0
    let n := if start then (2 * s.fld (FUS_ZTEMP_DUTY z) * win + 65536) / 131072 else x.n
    let n' := if x.forced then 0 else n
    s.setZone z { x with n := n', err := x.err + n' }
  else s.mapZone z fun x => { x with err := 0, n := 0, on := false }

/-- A zone is due when its carried error reaches the window. -/
def State.zoneDue (s : State) (z : Nat) : Bool :=
  s.burstZone z && (s.zoneP z).err ≥ s.fld FUS_BURST_WIN && ! (s.zoneP z).forced

/-- The zone with the largest carried error of a list, the lower-numbered of equals. -/
def State.worstZone (s : State) : List Nat → Option Nat
  | [] => none
  | z :: zs =>
    match s.worstZone zs with
    | none => some z
    | some y => if (s.zoneP z).err ≥ (s.zoneP y).err then some z else some y

/-- Up to `n` zones of those due, those with the largest error first. -/
def State.pickZones (s : State) : Nat → List Nat → List Nat
  | 0, _ => []
  | n + 1, due =>
    match s.worstZone due with
    | none => []
    | some z => z :: s.pickZones n (due.filter fun y => y ≠ z)

/-- Every zone's output in the coming half-cycle; a zone fired pays its window, one deferred keeps its error. -/
def State.fireZones (s : State) (due fired : List Nat) : List Nat → State
  | [] => s
  | z :: zs =>
    let x := s.zoneP z
    let on := fired.contains z
    let s1 := if s.burstZone z then
        s.setZone z { x with on := on, err := if on then x.err - s.fld FUS_BURST_WIN else x.err }
      else s
    (if due.contains z ∧ ¬ on then s1.inc FUS_DEFER_COUNT else s1).fireZones due fired zs

/-- ZERO_CROSSING: a mains zero crossing, with the measured half-cycle in µs (R274). -/
def execZeroCrossing (half : Nat) (s : State) : Host.Outcome State Fault Refusal :=
  .next (
    if s.isOff then s else
    if s.isWorker then s
    else
      let s1 := (s.setFld FUS_MAINS_HALF (min half 0xFFFF)).setOn FUS_STATUS_ZCOK
      let s2 := (List.range 24).foldl State.zoneWindow s1
      let due := (List.range 24).filter s2.zoneDue
      let fired := s2.pickZones (s.fld FUS_BURST_MAXON) due
      let s3 := s2.fireZones due fired (List.range 24)
      s3.setPlant { s3.plant with halfCycle := s3.plant.halfCycle + 1 })

/-- ZERO_CROSS_TIMEOUT: no crossing for ZCTO ms: every burst zone off at once, ZCLOST; GPWM zones go on (R274). -/
def execZeroCrossTimeout (s : State) : Host.Outcome State Fault Refusal :=
  .next (
    if s.isOff then s else
    if s.isWorker then s
    else
      let s1 := (List.range 24).foldl (fun s z =>
        if s.burstZone z then s.mapZone z fun x => { x with on := false } else s) s
      (s1.setOff FUS_STATUS_ZCOK).raise 15 56)

/-- A zone's duty is forced to 0 at once. -/
def State.zoneForce (s : State) (z : Nat) : State :=
  (s.mapZone z fun x => { x with forced := true, on := false }).zoneDuty z 0

/-- A zone's reading: its temperature, or none for an open thermocouple, an RTD or a cold junction out of range. It
protects the zone whether or not EN is set (R273, R275). -/
def State.zoneReading (s : State) (z : Nat) (temp : Option Int) : State :=
  let s0 := s.mapZone z fun x => { x with seen := temp.isSome }
  match temp with
  | some t =>
    let s1 := s0.setFld (FUS_ZTEMP_TEMP z) (toTwos 16 (sat16 t))
    if t > ofTwos 16 (s.fld (FUS_ZSETR_ZMAX z)) then (s1.zoneForce z).raise 15 z
    else s1.mapZone z fun x => { x with forced := false }
  | none => (s0.zoneForce z).raise 15 (32 + z)

/-- ZONE_TEMP_UPDATE: zone `z` takes the samples of its sensor's channel and, for a thermocouple, of its cold junction's, at
1 kHz; a sample lost with a drive-link frame changes nothing (R273). -/
def execZoneTempUpdate (z : Nat) (adc : List (Option Int)) (s : State) : Host.Outcome State Fault Refusal :=
  .next (
    if s.isOff then s else
    if z ≥ 24 ∨ s.isWorker then s
    else
      let sens := s.fld (FUS_ZCFG_SENS z)
      match adc.getD (s.fld (FUS_ZCFG_SADC z)) none, if sens = 0 then adc.getD (s.fld (FUS_ZCFG_CJADC z)) none else some 0 with
      | some v, some cj => s.zoneReading z (Config.zoneTemp sens v cj)
      | _, _ => s)

/-- A zone goes off until its EN is written 1 again (R275, R280). -/
def State.zoneOff (s : State) (z : Nat) : State :=
  (s.mapZone z fun x => { x with off := true, on := false }).zoneDuty z 0

end Sys2Proof.Machine
end

