-- ==== Sys2Proof/Machine/CalOps.lean ====
section
/-! DEFINITION. Shared operations of calibration and registration (R286 to R296): triggers, targets, applied copies that
move toward them, residuals. -/

namespace Sys2Proof.Machine

/-- A quotient rounded to nearest, half away from zero (R289). DEDUCED (log entry 51). -/
def roundDiv (a b : Int) : Int := if 0 ≤ a then (2 * a + b) / (2 * b) else -((2 * -a + b) / (2 * b))

/-- The square root of a / b rounded to nearest, by bits. -/
def sqrtRound (a b : Nat) : Nat :=
  let v := 4 * a / b
  let rec go : Nat → Nat → Nat
    | 0, r => r
    | n + 1, r => if (r + 2 ^ n) * (r + 2 ^ n) ≤ v then go n (r + 2 ^ n) else go n r
  (go 40 0 + 1) / 2

/-- SUB, KIND and IDX of an audit code. -/
def audSub (code : Nat) : Nat := bits code 23 16
def audKind (code : Nat) : Nat := bits code 15 8
def audIdx (code : Nat) : Nat := bits code 7 0

def State.cal (s : State) (n : Nat) : Cal := tabGet Cal.init s.plant.cals n
def State.setCal (s : State) (n : Nat) (c : Cal) : State :=
  s.setPlant { s.plant with cals := tabSet Cal.init s.plant.cals n c }

def dbaseField (n e : Nat) : Field := (CLB_DBASE0_DBASE e).up (0x800 * n)
def g0Field (n e : Nat) : Field := (CLB_GI0_G0 e).up (0x800 * n)
def i0Field (n e : Nat) : Field := (CLB_GI0_I0 e).up (0x800 * n)

/-- The watched temperature: of a port HLK_TEMP, of the die the drive-die sensor of model 1 (R286). -/
def State.calTemp (s : State) (n : Nat) : Int := if n < 4 then ofTwos 16 (s.fld (HLK_TEMP_TEMP n)) else s.plant.dieTemp

/-- The watched temperature at the start of the last run. -/
def State.calLast (s : State) (n : Nat) : Int := if n < 4 then ofTwos 16 (s.fld (CLB_T_TLAST n)) else (s.cal 4).last

/-- An automatic trigger holds (R286). -/
def State.calAuto (s : State) (n : Nat) : Bool :=
  let d := (s.calTemp n - s.calLast n).natAbs
  if n < 4 then s.fbit CLB_CTL_AUTO n && s.portEn n && s.fld CLB_TRIG_HEADTHR ≤ d
  else s.flag CLB_CTL_AUTOD && s.fld CLB_TRIG_DIETHR ≤ d

/-- An EMIT audit of port `n` runs, or waits for a head run. -/
def State.emitHeld (s : State) (n : Nat) : Bool :=
  (List.range 16).any fun i =>
    let code := s.fld (AUD_CODE_CODE i)
    s.fld (AUD_STATE_STATE i) = 2 && audKind code = 2 && audIdx code = n

/-- The watched temperature has been read: an automatic trigger is kept until its run starts (R286); during a run it is
judged anew at the boundary after it (R292). -/
def State.calWatch (s : State) (n : Nat) : State :=
  if (s.cal n).st = 0 ∧ s.calAuto n then s.setCal n { s.cal n with st := 1, first := ! s.emitHeld n } else s

/-- A trigger that does not come from the temperature: a host request or a head link that comes up. During a run of the
same calibration it is kept as one pending request (R286, R292). -/
def State.calTrigger (s : State) (n : Nat) (host : Bool) : State :=
  if n < 4 ∧ ¬ s.portEn n then s
  else
    let c := s.cal n
    let first : Bool := if c.st = 1 ∨ c.pend then c.first else ! s.emitHeld n
    if c.st = 2 then s.setCal n { c with pend := true, host := c.host || host, first := first }
    else s.setCal n { c with st := 1, host := c.host || host, first := first }

/-- BUSY and the stale bit of a run. -/
def State.calBusy (s : State) (n : Nat) (on : Bool) : State :=
  if n < 4 then
    if on then (s.setFbit CLB_STATUS_BUSY n).setFbit EXP_STATUS_STALE n
    else (s.clrFbit CLB_STATUS_BUSY n).clrFbit EXP_STATUS_STALE n
  else (s.setBool CLB_STATUS_DIEBUSY on).setBool CLB_STATUS_DIESTALE on

/-! What a run measures (R287, R289, R290). -/

/-- One more value in the sum and count at place `e`. -/
def addSeen (l : List (Nat × Nat)) (e v : Nat) : List (Nat × Nat) :=
  let (sum, k) := l.getD e (0, 0)
  (l ++ List.replicate (e + 1 - l.length) (0, 0)).set e (sum + v, k + 1)

/-- The head has reported the overscan current of emitter `e`: a head run that measures counts it; a report that does not
come counts nothing. DEDUCED (log entry 74). -/
def State.calCurrent (s : State) (n e ua : Nat) : State :=
  let c := s.cal n
  if c.st = 2 ∧ c.n < c.nmeas then s.setCal n { c with seen := addSeen c.seen e ua } else s

/-- The head link of a port leaves the up state: a head run in progress ends without targets (R287). -/
def State.calLost (s : State) (n : Nat) : State :=
  if (s.cal n).st = 2 then s.setCal n { s.cal n with lost := true } else s

/-- The lowest-numbered bound port. -/
def State.firstPort (s : State) : Option Nat := [0, 1, 2, 3].find? fun n => s.portEn n

/-- A sweep of port `n` has been measured: by its head run, and by a die run on the lowest-numbered bound port, whose
boundary also lets the slew of an ended die run begin (R287). -/
def State.calSweep (s : State) (n : Nat) : State :=
  let c := s.cal n
  let s1 := if c.st = 2 ∧ c.n < c.nmeas then
      s.setCal n { c with
        n := c.n + 1, tSum := c.tSum + s.calTemp n, eSum := c.eSum + s.fld (SCN_EOSDUR_VALUE n) }
    else s
  if s.firstPort = some n then
    let s2 := s1.setPlant { s1.plant with dieWait := false }
    let d := s2.cal 4
    if d.st = 2 then s2.setCal 4 { d with n := d.n + 1 } else s2
  else s1

/-- A pulse during a die run: the SOS of port `k`, or from 4 on the EOS of port `k − 4`. -/
def State.calWidth (s : State) (k width : Nat) : State :=
  let d := s.cal 4
  if d.st = 2 then s.setCal 4 { d with seen := addSeen d.seen k width } else s

/-- The measurement of a run is complete: CLB_NMEAS sweeps of its port with the head link up throughout; a die run needs no sweeps
where no port is bound. -/
def State.calMeasured (s : State) (n : Nat) : Bool :=
  let c := s.cal n
  c.st = 2 && (if n < 4 then c.nmeas ≤ c.n && ! c.lost && s.fld (HLK_STAT_STATE n) = 2 else s.firstPort.isNone || c.nmeas ≤ c.n)

/-- After a run: a kept host request is triggered again, as is a head run whose link was lost and has come up; a kept
temperature trigger is judged anew at the boundary (R287, R292). -/
def State.calNext (s : State) (n : Nat) : State :=
  let c := s.cal n
  s.setCal n { c with st := if c.pend && (c.host || c.lost) then 1 else 0, pend := false, host := false, lost := false }

/-! Targets of a head run (R289). -/

/-- The delay target of an emitter before its clamp from `k` sweeps with the sums `temp` and `eos`, formed exactly and
rounded once. DEDUCED (log entry 50). -/
def State.delayTarget (s : State) (n e k : Nat) (temp : Int) (eos : Nat) : Int :=
  let dcen : Int := s.fld (CLB_KX_DCEN n)
  let one : Int := 2 ^ 20 * k
  let a := one + ofTwos 16 (s.fld (CLB_KX_KX n)) * (temp - k * ofTwos 16 (s.fld (CLB_T_T0 n)))
  let l0 : Int := s.fld (CLB_L0_VALUE n)
  let d := (s.fld (dbaseField n e) : Int) - dcen
  let r := if s.flag (SCN_CFG_EOSEN n) ∧ l0 ≠ 0 then roundDiv (d * (a * l0 + 2 ^ 20 * ((eos : Int) - k * l0))) (one * l0)
    else roundDiv (d * a) one
  dcen + r + ofTwos 16 (s.fld (CLB_LATOFF_VALUE n))

/-- The delay targets of emitters `e − 1` down to 0; a clamp sets DCLAMP. DEDUCED (log entry 50). -/
def State.writeDelays (s : State) (n k : Nat) (temp : Int) (eos : Nat) : Nat → State
  | 0 => s
  | e + 1 =>
    let d := s.delayTarget n e k temp eos
    let v : Int := if d < 0 then 0 else if d > 32767 then 32767 else d
    let s1 := s.setFld (dlyTarget n e) v.toNat
    (if v = d then s1 else s1.setOn CLB_STATUS_DCLAMP).writeDelays n k temp eos e

/-- The gain targets of emitters `e − 1` down to 0 from their mean overscan currents. -/
def State.writeGains (s : State) (n : Nat) (cur : List (Nat × Nat)) : Nat → State
  | 0 => s
  | e + 1 =>
    let (i, k) := cur.getD e (0, 0)
    let i0 := s.fld (i0Field n e)
    let s1 :=
      if s.flag (EXP_ESTATE_DEAD (256 * n + e)) ∨ i = 0 ∨ i0 = 0 then s
      else s.setFld (EXP_GAIN_TARGET (256 * n + e))
        (clampN 0x2000 0x7FFF (roundDiv (s.fld (g0Field n e) * i0 * k) i).toNat)
    s1.writeGains n cur e

/-- Σ of the squares of (Ī / I0) × (G / G0) − 1 in units of 10⁻¹², and the live emitters counted. -/
def State.unifSum (s : State) (n : Nat) (cur : List (Nat × Nat)) : Nat → Nat × Nat
  | 0 => (0, 0)
  | e + 1 =>
    let (sum, k) := s.unifSum n cur e
    let (i, c) := cur.getD e (0, 0)
    let den := s.fld (i0Field n e) * s.fld (g0Field n e) * c
    if s.flag (EXP_ESTATE_DEAD (256 * n + e)) ∨ den = 0 then (sum, k)
    else
      let r : Int := (i * s.fld (EXP_GAIN_APPLIED (256 * n + e)) * 1000000 / den : Nat) - 1000000
      (sum + (r * r).toNat, k + 1)

/-- CLB_UNIFRESn in 0.01 % (R296). -/
def State.writeUnif (s : State) (n : Nat) (cur : List (Nat × Nat)) : State :=
  let (sum, k) := s.unifSum n cur 256
  s.setFld (CLB_RES_UNIFRES n) (if k = 0 then 0 else min 0xFFFF (sqrtRound sum (k * 10000)))

/-! The die run (R290). -/

/-- One comparator threshold against the mean of pulse widths: a step up or down beyond 1/16 of the reference. No width
leaves it. -/
def thrTarget (ref : Nat) (seen : Nat × Nat) (tgt : Nat) : Nat :=
  if ref = 0 ∨ seen.2 = 0 then tgt
  else if 16 * seen.1 > 17 * ref * seen.2 then min 63 (tgt + 1)
  else if 16 * seen.1 < 15 * ref * seen.2 then tgt - 1
  else tgt

/-- SOSTGT and EOSTGT of bound ports `n − 1` down to 0. -/
def State.writeThr (s : State) (seen : List (Nat × Nat)) : Nat → State
  | 0 => s
  | n + 1 =>
    let ref := s.fld (CLB_SOSWREF_VALUE n)
    let s1 := if s.portEn n then s.setFld (SCN_THR_SOSTGT n) (thrTarget ref (seen.getD n (0, 0)) (s.fld (SCN_THR_SOSTGT n))) else s
    let s2 := if s.portEn n ∧ s.flag (SCN_CFG_EOSEN n) then
        s1.setFld (SCN_THR_EOSTGT n) (thrTarget ref (seen.getD (4 + n) (0, 0)) (s.fld (SCN_THR_EOSTGT n)))
      else s1
    s2.writeThr seen n

/-- Targets of a table from a list, from key `k` on. -/
def putInts (f : Nat → Int → Int) (m : Tab Int) (k : Nat) : List Int → Tab Int
  | [] => m
  | v :: vs => putInts f (tabSet 0 m k (f k v)) (k + 1) vs

/-- The ADC offsets of a die run, and the delays, in taps of 78.125 ps, that bring each sense line from what it measured to
1.9 ns (R290, R291). DEDUCED (log entry 39). -/
def State.writeDie (s : State) (zeros delays : List Int) : State :=
  let p := s.plant
  s.setPlant { p with
    adcTgt := putInts (fun _ v => roundDiv v 64) p.adcTgt 0 (zeros.take 12)
    dlyTgt := putInts (fun k v => tabGet 0 p.dlyApp k + roundDiv ((1900 - v) * 1000) 78125) p.dlyTgt 0 (delays.take 8) }

/-- One step of applied copies `k − 1` down to 0 toward their targets (R291). -/
def stepTab (tgt app : Tab Int) : Nat → Tab Int
  | 0 => app
  | k + 1 => stepTab tgt (tabSet 0 app k (stepTo (tabGet 0 tgt k) (tabGet 0 app k))) k

/-- One millisecond of the drive die's applied copies, held while a die run is stale and, on a node with a bound port, up to
the sweep boundary after it (R287, R288, R291). -/
def State.stepDie (s : State) : State :=
  if s.flag CLB_STATUS_DIESTALE ∨ (s.plant.dieWait ∧ s.firstPort.isSome) then s
  else s.setPlant { s.plant with
    adcApp := stepTab s.plant.adcTgt s.plant.adcApp 12, dlyApp := stepTab s.plant.dlyTgt s.plant.dlyApp 8 }

/-! Residuals at a sweep boundary (R296). -/

/-- Σ (APPLIED − TARGET)² over live emitters below `e`, and their count. -/
def State.eposSum (s : State) (n : Nat) : Nat → Nat × Nat
  | 0 => (0, 0)
  | e + 1 =>
    let (sum, k) := s.eposSum n e
    if s.flag (EXP_ESTATE_DEAD (256 * n + e)) then (sum, k)
    else
      let d : Int := (s.fld (dlyApplied n e) : Int) - s.fld (dlyTarget n e)
      (sum + (d * d).toNat, k + 1)

/-- CLB_EPOSRESn: 0.3307 × √(mean + 1/12) µm in 0.01 µm, to nearest. -/
def State.eposBoundary (s : State) (n : Nat) : State :=
  let (sum, k) := s.eposSum n 256
  if k = 0 then s else s.setFld (CLB_RES_EPOSRES n) (min 0xFFFF (sqrtRound (3307 * 3307 * (12 * sum + k)) (120000 * k)))

/-- CLB_DENSMAXn: the largest EXP_DENSERRn over the sweeps of the last slot imaged. The sweep that ends belongs to the slot
it began in and to the one the port images now; a slot that has begun since starts the figure anew. -/
def State.densBoundary (s : State) (n : Nat) : State :=
  let e := s.fld (EXP_DENSERR_ERR n)
  let now : Nat := if s.portImaging n then s.fld (FRM_SLOT_SLOT n) + 1 else 0
  let last := tabGet 0 s.plant.densSlot n
  let old := if now = 0 ∨ now = last then s.fld (CLB_DENSMAX_VALUE n) else 0
  let s1 := if now ≠ 0 ∨ s.plant.densOpen.testBit n then s.setFld (CLB_DENSMAX_VALUE n) (max old e) else s
  s1.setPlant { s1.plant with
    densSlot := if now = 0 then s.plant.densSlot else tabSet 0 s.plant.densSlot n now
    densOpen := if now = 0 then s.plant.densOpen &&& (15 ^^^ 2 ^ n) else s.plant.densOpen ||| 2 ^ n }

/-! Audit codes and entries (R297, R298). -/

def State.aud (s : State) (i : Nat) : AudEnt := tabGet AudEnt.init s.plant.auds i
def State.setAud (s : State) (i : Nat) (a : AudEnt) : State :=
  s.setPlant { s.plant with auds := tabSet AudEnt.init s.plant.auds i a }
def State.mapAud (s : State) (i : Nat) (f : AudEnt → AudEnt) : State := s.setAud i (f (s.aud i))

/-- An audit of port `n`'s lanes runs that needs the spare: of lane 12, or of a lane the spare does not carry yet.
DEDUCED (log entry 74). -/
def State.spareTaken (s : State) (n : Nat) : Bool :=
  (List.range 16).any fun i =>
    let code := s.fld (AUD_CODE_CODE i)
    s.fld (AUD_STATE_STATE i) = 2 && audKind code = 1 && audIdx code = n && audSub code ≠ s.fld (HLK_STAT_SPLANE n)

/-- The first running audit of a kind on a port that a test of its SUB picks. -/
def State.runningAudit (s : State) (kind n : Nat) (p : Nat → Bool) : Option Nat :=
  (List.range 16).find? fun i =>
    let code := s.fld (AUD_CODE_CODE i)
    s.fld (AUD_STATE_STATE i) = 2 && audKind code = kind && audIdx code = n && p (audSub code)

/-- The LANE audit that tests a line of port `n` in this slot: lane 12 while the spare replaces no lane; a lane that the
spare replaces, or may for the time of the audit; any lane outside a window. One runs at a time. DEDUCED (log entry 74). -/
def State.laneAudit (s : State) (n : Nat) : Option Nat :=
  let spl := s.fld (HLK_STAT_SPLANE n)
  s.runningAudit 1 n fun l =>
    if l = 12 then spl = 15 else spl = l || (spl = 15 && ! s.flag (HLK_STAT_SPBAD n)) || s.portGap n

/-- The line a LANE audit tests. -/
def State.laneTested (s : State) (n : Nat) : Option Nat := (s.laneAudit n).map fun i => audSub (s.fld (AUD_CODE_CODE i))

/-- The lane the spare carries in this slot: a free spare takes that of a LANE audit (R298). -/
def State.spareLane (s : State) (n : Nat) : Nat :=
  let spl := s.fld (HLK_STAT_SPLANE n)
  match s.laneTested n with
  | some l => if l < 12 ∧ spl = 15 ∧ ¬ s.flag (HLK_STAT_SPBAD n) then l else spl
  | none => spl

/-- The EMIT audit that tests port `n`: it waits for a head run that runs or was accepted before it (R292).
DEDUCED (log entry 74). -/
def State.emitTest (s : State) (n : Nat) : Option Nat :=
  if (s.cal n).st = 2 ∨ ((s.cal n).st = 1 ∧ (s.cal n).first) then none else s.runningAudit 2 n fun _ => true

/-- One more slot or sweep of a test. -/
def State.audCount (s : State) (i : Option Nat) : State :=
  match i with
  | some i => s.mapAud i fun a => { a with n := a.n + 1 }
  | none => s

/-- A test has failed. -/
def State.audBad (s : State) (i : Option Nat) : State :=
  match i with
  | some i => s.mapAud i fun a => { a with bad := true }
  | none => s

/-! Registration on a Worker (R294). -/

/-- Delay targets of a port were written: the write crosses at the port's next sweep boundary as any other (R33). `s` before,
`t` after. -/
def State.noteDelays (s t : State) (n : Nat) : State :=
  let fs := ((List.range 256).map (dlyTarget n)).filter fun f => s.fld f ≠ t.fld f
  if fs.isEmpty then t else t.mapScan n fun c => { c with recent := (fs.map fun f => (f, s.fld f)) :: c.recent }

/-- The ports of a station take a lateral correction in 1/65,536 line; their delay targets follow at once. -/
def State.lateral (s : State) (corr : Int) : List Nat → State
  | [] => s
  | n :: ns =>
    let d := roundDiv corr 1024
    let s1 := s.setFld (CLB_LATOFF_VALUE n) (toTwos 16 (ofTwos 16 (s.fld (CLB_LATOFF_VALUE n)) + d))
    let s2 := match (s.cal n).meas with
      | some (k, t, eos) => s1.writeDelays n k t eos 256
      | none => (List.range 256).foldl (fun s e =>
          let v := (s.fld (dlyTarget n e) : Int) + d
          s.setFld (dlyTarget n e) (if v < 0 then 0 else if v > 32767 then 32767 else v).toNat) s1
    (s1.noteDelays s2 n).lateral corr ns

/-- The drum axes bound to a station take a process correction in 1/65,536 line. DEDUCED (log entry 39). -/
def State.process (s : State) (stn : Nat) (corr : Int) : List Nat → State
  | [] => s
  | k :: ks =>
    let s1 := if s.flag (CLB_REGAX_EN k) ∧ s.fld (CLB_REGAX_STATION k) = stn then
        let i := s.fld (CLB_REGAX_AXIS k)
        let num := ofTwos 16 (s.fld (MOT_GEARNUM_VALUE i))
        let d := roundDiv (corr * 256 * num) (s.fld (MOT_GEARDEN_VALUE i))
        s.setFld (MOT_GEAROFS_VALUE i) (toTwos 32 (ofTwos 32 (s.fld (MOT_GEAROFS_VALUE i)) + d))
      else s
    s1.process stn corr ks

/-- A correction for a station in 1/65,536 line, as two pairs of a CONFIG frame: the process correction under the address of
CLB_REGERRn, the lateral one under that of CLB_REGRESn. The manual names no frame for it: this form is the model's.
DESIGN CHOICE (log entry 77). -/
def corrPairs (stn : Nat) (proc lat : Int) : List (Nat × Nat) :=
  [((CLB_REGERR_RP stn).addr, toTwos 32 proc), ((CLB_REGRES_RES stn).addr, toTwos 32 lat)]

end Sys2Proof.Machine
end

