-- ==== Sys2Proof/Machine/HeadOps.lean ====
section
/-! DEFINITION. Shared operations of the head link and of exposure: CRC-8 and the scrambler (R175, R176), link training
and loss (R179), NAK, retry and MISS (R181 to R183), lane sparing (R184), the energy correction (R187 to R189), dead
marks (R190). -/

namespace Sys2Proof.Machine

def State.headP (s : State) (n : Nat) : Head := tabGet Head.init s.head n
def State.setHead (s : State) (n : Nat) (h : Head) : State := { s with head := tabSet Head.init s.head n h }
def State.mapHead (s : State) (n : Nat) (f : Head → Head) : State := s.setHead n (f (s.headP n))
def State.expoP (s : State) (n : Nat) : Expo := tabGet Expo.init s.expo n
def State.setExpo (s : State) (n : Nat) (x : Expo) : State := { s with expo := tabSet Expo.init s.expo n x }

def laneErr (n l : Nat) : Field := (HLK_LANEERR0_COUNT l).up (0x80 * n)
def expEntry (n k : Nat) : Field :=
  let r := k / 4
  (match k % 4 with
   | 0 => EXP_TABLE0_W0 r | 1 => EXP_TABLE0_W1 r | 2 => EXP_TABLE0_W2 r | _ => EXP_TABLE0_W3 r).up (0x80 * n)

/-! Bits on the lines. -/

/-- The `n` low bits of a number, most significant first. -/
def msbBits (v : Nat) : Nat → List Bool
  | 0 => []
  | n + 1 => v.testBit n :: msbBits v n

/-- The number some bits spell, most significant first, after `acc`. -/
def natOfBits (acc : Nat) : List Bool → Nat
  | [] => acc
  | b :: bs => natOfBits (2 * acc + (if b then 1 else 0)) bs

/-- CRC-8 with polynomial 0x07 over bits in sending order (R175). -/
def crc8 (r : Nat) : List Bool → Nat
  | [] => r
  | b :: bs =>
    let top : Bool := (r ≥ 128) != b
    let r2 := 2 * r % 256
    crc8 (if top then r2 ^^^ 7 else r2) bs

/-- The self-synchronising scrambler (R176). -/
def scramble (st : Nat) : List Bool → List Bool × Nat
  | [] => ([], st)
  | d :: ds =>
    let o := (d != st.testBit 14) != st.testBit 13
    let (os, st') := scramble ((2 * st + (if o then 1 else 0)) % 2 ^ 15) ds
    (o :: os, st')

/-- The descrambler (R176). -/
def descramble (st : Nat) : List Bool → List Bool × Nat
  | [] => ([], st)
  | c :: cs =>
    let d := (c != st.testBit 14) != st.testBit 13
    let (ds, st') := descramble ((2 * st + (if c then 1 else 0)) % 2 ^ 15) cs
    (d :: ds, st')

/-- SYNC is 0b1100. -/
def syncBits : Nat := 12

/-- A frame of `n` bits below SYNC as its line sends it, with the line's scrambler advanced.
DEDUCED (log entry 38). -/
def State.lineSend (s : State) (p line n v : Nat) : Nat × State :=
  let h := s.headP p
  let (os, st) := scramble (tabGet 0 h.scr line) (msbBits v n)
  (syncBits * 2 ^ n + natOfBits 0 os, s.setHead p { h with scr := tabSet 0 h.scr line st })

/-- A received frame of `n` bits below SYNC, descrambled. -/
def State.lineRecv (s : State) (p line n v : Nat) : Nat × State :=
  let h := s.headP p
  let (ds, st) := descramble (tabGet 0 h.scr line) (msbBits v n)
  (natOfBits 0 ds, s.setHead p { h with scr := tabSet 0 h.scr line st })

/-- The CRC of a strobe block: over SEQ and PAYLOAD (R173). -/
def blockCrc (seq payload : Nat) : Nat := crc8 0 (msbBits (seq * 2 ^ 128 + payload) 132)

/-- The CRC of a command or status frame: over bits 75:8. -/
def frameCrc (f : Nat) : Nat := crc8 0 (msbBits (f / 256 % 2 ^ 68) 68)

/-- PAYLOAD of lane `l` of a strobe vector; the spare's is that of the lane it stands for (R174). -/
def lanePayload (vec l : Nat) : Nat := vec / 2 ^ (128 * l) % 2 ^ 128

/-! Laser enable (R185). -/

/-- The ports whose HLn_LEN is high: the interlock allows it, the drive link is alive (R15), HLK_CTLn.LEN of a port that
is not held in reset asks for it (R19), and EXTEST does not hold it off (R389). -/
def State.lenPorts (s : State) : List Nat :=
  if s.plant.lsi.ok ∧ s.pwr.linkUp ∧ s.tap ≠ 3 ∧ ¬ s.heldInReset (HLK_CTL_LEN 0).addr then
    [0, 1, 2, 3].filter fun n => s.flag (HLK_CTL_LEN n)
  else []

/-- What the interlock on the drive die holds from now on. -/
def State.setLsi (s : State) (l : Lsi) : State := s.setPlant { s.plant with lsi := l }

/-- The sense lines bring the interlock's state to FLT_LSISTAT; a logic die that stands takes nothing (R14, R319, R391).
DEDUCED (log entry 52). -/
def State.lsiShow (s : State) : State :=
  let l := s.plant.lsi
  if s.isOff then s
  else ((((s.setBool FLT_LSISTAT_ACLOSED (! l.aOpen)).setBool FLT_LSISTAT_BCLOSED (! l.bOpen)).setBool FLT_LSISTAT_LENOK
    l.ok).setBool FLT_LSISTAT_DISC l.disc).setBool FLT_LSISTAT_WAITREARM l.wait

/-- The levels of HLn_LEN leave the drive die: the ports at high. -/
def State.lenOut (s : State) : State := s.emit (.port "laserEnable" 0 s.lenPorts)

/-! The link. -/

def State.linkUp (s : State) (n : Nat) : Bool := s.fld (HLK_STAT_STATE n) = 2

/-- Training begins (R179 step 1): state 1 afresh, 3 after a loss, 0 with the link off. A head run in progress has lost its
link (R287). -/
def State.trainStart (s : State) (n st : Nat) : State :=
  ((if s.linkUp n then s.calLost n else s).setFld (HLK_STAT_STATE n) st).mapHead n fun h =>
    { h with goodRun := 0, badRun := 0, naks := [], expect := [], done := [] }

/-- The link is lost: LINK, and training after loss (R179). -/
def State.linkLost (s : State) (n : Nat) : State := (s.trainStart n 3).raise 7 (8 + n)

/-- A protocol violation of a head (R191, R331). -/
def State.headViolation (s : State) (n : Nat) : State :=
  (s.inc HLK_VIOL_COUNT).violation (0x300 + n) (s.flag HLK_EVACCT_EN) (s.fld HLK_EVACCT_ACCT)

/-! MISS (R182, R183). -/

/-- MISS of the last HLK_WDOGn.WIN sweeps. -/
def State.missCount (s : State) (n : Nat) : Nat :=
  let h := s.headP n
  (h.missAt.filter fun k => h.sweeps < k + s.fld (HLK_WDOG_WIN n)).length

/-- A MISS is counted; one inside an imaging window is recorded with its sweep, strobe and lane; the watchdog follows. -/
def State.miss (s : State) (n : Nat) (x : HSlot) (lane incident : Nat) : State :=
  let h := s.headP n
  let s1 := (s.setHead n { h with missAt := h.missAt ++ [h.sweeps] }).inc (HLK_MISSCNT_COUNT n)
  let s2 := if x.inWin then
      let s2 := ((s1.setFld (HLK_MISSSWEEP_SWEEP n) x.sweep).setFld (HLK_MISSPOS_STROBE n) x.strobe).setFld
        (HLK_MISSPOS_LANE n) lane
      if s2.flag HLK_EVACCT_EN then
        s2.postW (s2.fld HLK_EVACCT_ACCT) 0x310 (x.strobe % 2 ^ 16 * 2 ^ 16 + lane) 0 incident x.wpos
      else s2
    else s1
  if s2.missCount n > s2.fld (HLK_WDOG_MAXMISS n) then
    s2.raiseWith 7 n (if incident = 0 then none else some incident)
  else s2

/-! Lane sparing (R184). -/

/-- The retries of lane `l` move to the spare's SPARE fields, started again in slot `c` if R181 still allows it; the
others become expected MISS. -/
def moveRetries (l c : Nat) : List Nak → List Nak × List Nak
  | [] => ([], [])
  | k :: ks =>
    let (keep, lost) := moveRetries l c ks
    if k.lane ≠ l then (k :: keep, lost)
    else if k.start.isNone then ({ k with line := 12 } :: keep, lost)
    else if c ≤ k.slot + 6 then ({ k with line := 12, start := some c } :: keep, lost)
    else (keep, k :: lost)

/-- Lane `l` has failed with no spare, and LANEDOWN still stands: its failures become MISS (R184). -/
def State.laneDown (s : State) (n l : Nat) : Bool := (s.headP n).down.contains l && s.srcSet 7 (4 + n)

/-- A lane is declared failed by a NAK with an incident: the spare replaces it, or LANEDOWN is set and its retries are expected
MISS. -/
def State.laneFail (s : State) (n l incident : Nat) : State :=
  if s.flag (HLK_CTL_SPAREEN n) ∧ s.fld (HLK_STAT_SPLANE n) = 15 ∧ ¬ s.flag (HLK_STAT_SPBAD n) then
    let h := s.headP n
    let (keep, lost) := moveRetries l h.slot h.naks
    (s.setFld (HLK_STAT_SPLANE n) l).setHead n
      { h with naks := keep, expect := h.expect ++ lost, laneNaks := tabSet [] h.laneNaks l [], laneOk := false }
  else
    (s.mapHead n fun h =>
      { h with
        naks := h.naks.filter fun k => k.lane ≠ l, expect := h.expect ++ h.naks.filter fun k => k.lane = l
        down := insertNat l h.down }).raiseWith 7 (4 + n) (some incident)

/-- A NAK of a lane toward its failure: two consecutive slots, or ERRS within WIN slots; a lane that the spare replaces
has been declared failed already (R184). -/
def State.laneNak (s : State) (n l m incident : Nat) : State :=
  let h := s.headP n
  let old := tabGet [] h.laneNaks l
  let recent := (m :: old).filter fun k => m < k + s.fld (HLK_SPCFG_WIN n)
  let s1 := s.setHead n { h with laneNaks := tabSet [] h.laneNaks l recent }
  let many : Bool := recent.length ≥ s.fld (HLK_SPCFG_ERRS n)
  let two : Bool := m ≥ 1 && old.contains (m - 1)
  if l = 12 then (if many then s1.setOn (HLK_STAT_SPBAD n) else s1)
  else if s1.fld (HLK_STAT_SPLANE n) = l then s1
  else if many || two then s1.laneFail n l incident
  else s1

/-! NAK (R181, R183). -/

/-- The slot sent last with a given SEQ, among those the link remembers. -/
def Head.seqSlot (h : Head) (seq : Nat) : Option HSlot := h.hist.find? fun x => x.slot % 16 = seq

/-- The slot a MISS names: the one sent last with its SEQ among those whose strobe has fallen due, 16 slots after the
slot (R182). -/
def Head.missSlot (h : Head) (seq : Nat) : Option HSlot :=
  h.hist.find? fun x => x.slot % 16 = seq && decide (x.slot + 16 < h.slot)

/-- The first slot a retry could start in: every frame names one retry only (R177, R181). DEDUCED (log entry 38). -/
def Head.retryFrom (h : Head) (m : Nat) : Nat :=
  h.naks.foldl (fun c k => max c ((k.start.getD (k.slot + 4)) + 9)) (max h.slot (m + 4))

/-- A NAK: counted, an incident drawn, a retry scheduled where R181 allows one, the lane judged. One of a line under a LANE
audit, which carries no live data, fails the audit instead. DEDUCED (log entry 74). -/
def State.nak (s : State) (n lane seq : Nat) : State :=
  match (s.headP n).seqSlot seq with
  | none => s.headViolation n
  | some x =>
    if lane > 12 then s.headViolation n
    else if s.laneTested n = some lane then
      ((s.inc (HLK_NAKCNT_COUNT n)).inc (laneErr n lane)).audBad (s.laneAudit n)
    else
      let (inc, s1) := ((s.inc (HLK_NAKCNT_COUNT n)).inc (laneErr n lane)).newIncident
      let h := s1.headP n
      let line := if s1.fld (HLK_STAT_SPLANE n) = lane then 12 else lane
      let k : Nak := ⟨x.slot, lane, inc, line, none⟩
      let h' := if ¬ s1.laneDown n lane ∧ h.retryFrom x.slot ≤ x.slot + 6 then { h with naks := h.naks ++ [k] }
        else { h with expect := h.expect ++ [k] }
      (s1.setHead n h').laneNak n lane x.slot inc

/-- A MISS report, cross-checked against the retries sent (R182): one that another lane of the slot leads to is expected, whatever
became of a retry. One with neither a NAK nor an expectation is counted, with LANE 15 and an incident of its own.
DESIGN CHOICE (log entry 77). -/
def State.missReport (s : State) (n seq : Nat) : State :=
  let h := s.headP n
  match h.missSlot seq with
  | none => s.headViolation n
  | some x =>
    match h.expect.find? (fun k => k.slot = x.slot) with
    | some k =>
      (s.setHead n { h with expect := h.expect.filter fun j => j.slot ≠ x.slot }).miss n x k.lane k.incident
    | none =>
      if h.done.contains x.slot then s.headViolation n
      else
        match h.naks.find? (fun k => k.slot = x.slot) with
        | some k => (s.setHead n { h with naks := h.naks.filter fun j => j.slot ≠ x.slot }).miss n x k.lane k.incident
        | none =>
          let (inc, s1) := s.newIncident
          s1.miss n x 15 inc

/-! Dead emitters (R190). -/

def State.dead (s : State) (n e : Nat) : Bool := s.flag (EXP_ESTATE_DEAD (256 * n + e))

/-- No live neighbour: UNCOV. -/
def State.uncovered (s : State) (n e : Nat) : Bool :=
  s.dead n e && (e = 0 || s.dead n (e - 1)) && (e ≥ 255 || s.dead n (e + 1))

/-- UNCOV of the emitters `e − 1` down to 0, and their count of dead. -/
def State.markUncov (s : State) (n : Nat) : Nat → State
  | 0 => s
  | e + 1 => (s.setBool (EXP_ESTATE_UNCOV (256 * n + e)) (s.uncovered n e)).markUncov n e

def State.deadCount (s : State) (n : Nat) : Nat → Nat
  | 0 => 0
  | e + 1 => (if s.dead n e then 1 else 0) + s.deadCount n e

/-- UNCOV and DEADCNT follow the dead marks. -/
def State.deadSync (s : State) (n : Nat) : State := (s.markUncov n 256).setFld (EXP_DEADCNT_COUNT n) (s.deadCount n 256)

/-- Emitter `e` belongs to a run of three adjacent dead ones. -/
def State.deadRun (s : State) (n e : Nat) : Bool :=
  let d (k : Nat) : Bool := k < 256 && s.dead n k
  d e && ((e ≥ 2 && d (e - 2) && d (e - 1)) || (e ≥ 1 && d (e - 1) && d (e + 1)) || (d (e + 1) && d (e + 2)))

/-- An emitter is marked dead: DEADNEW, DEADRUN for a run of three, and the failure of an EMIT audit (R297). -/
def State.markDead (s : State) (n e : Nat) : State :=
  if s.dead n e then s
  else
    let s1 := (((s.audBad (s.emitTest n)).setOn (EXP_ESTATE_DEAD (256 * n + e))).deadSync n).raise 8 n
    if s1.deadRun n e then s1.raise 8 (4 + n) else s1

/-- An overscan current report, matched to its strobe and judged against the thresholds. -/
def State.osReport (s : State) (n e ua : Nat) : State :=
  let h := s.headP n
  if h.osPend.any (fun x => x.1 = e) then
    let s1 := (s.setHead n { h with osPend := h.osPend.filter fun x => x.1 ≠ e }).setFld
      (EXP_ESTATE_CURRENT (256 * n + e)) ua |>.calCurrent n e ua
    if ua < s1.fld (EXP_DEADTHR_LO n) ∨ s1.fld (EXP_DEADTHR_HI n) < ua then s1.markDead n e else s1
  else s.headViolation n

/-- The dead marks a clear waits to lift: emitters `e − 1` down to 0. -/
def State.liftDead (s : State) (n clr : Nat) : Nat → State
  | 0 => s
  | e + 1 => (if clr.testBit e then s.setOff (EXP_ESTATE_DEAD (256 * n + e)) else s).liftDead n clr e

/-! Exposure (R186 to R189). -/

/-- The staged table's entries below `k`. -/
def State.stagedTable (s : State) (n : Nat) : Nat → Tab Nat
  | 0 => []
  | k + 1 => tabSet 0 (s.stagedTable n k) k (s.fld (expEntry n k))

/-- The staged table, SPREAD, TKGAIN and TKEN take effect (R186). -/
def State.applyExpo (s : State) (n : Nat) : State :=
  s.setExpo n { s.expoP n with
    table := s.stagedTable n 16, spread := s.fld (EXP_CFG_SPREAD n), tkgain := s.fld (EXP_CFG_TKGAIN n)
    tken := s.flag (EXP_CFG_TKEN n) }

/-- round(x / 64), half up. -/
def round64 (x : Int) : Int := (x + 32) / 64

/-- H_raw of R187 before its clamp. -/
def State.hRaw (s : State) (n : Nat) : Int :=
  let sg (f : Field) : Int := ofTwos 16 (s.fld f)
  16384 + round64 (sg (EXP_KCOEF_KT n) * (sg (HLK_TEMP_TEMP n) - sg (EXP_REF_TREF n))
    + sg (EXP_KCOEF_KV n) * ((s.fld (EXP_REF_VREF n) : Int) - s.fld (HLK_SUPPLY_MV n)))

/-- The head factor at a sweep boundary, once a temperature and a supply reading have come (R187). -/
def State.stepH (s : State) (n : Nat) : State :=
  let h := s.headP n
  if h.seenTemp ∧ h.seenSupply then
    let raw := s.hRaw n
    let t : Int := if raw < 12288 then 12288 else if raw > 20480 then 20480 else raw
    let old : Int := s.fld (EXP_H_H n)
    let new := if t > old + 64 then old + 64 else if t < old - 64 then old - 64 else t
    let s1 := s.setFld (EXP_H_H n) new.toNat
    if t ≠ raw then s1.setFbit EXP_STATUS_HCLAMP n else s1
  else s

/-- The applied gains of emitters `e − 1` down to 0 (R188). -/
def State.stepGains (s : State) (n : Nat) (idle : Bool) : Nat → State
  | 0 => s
  | e + 1 =>
    let t := s.fld (EXP_GAIN_TARGET (256 * n + e))
    let a := s.fld (EXP_GAIN_APPLIED (256 * n + e))
    let v := if idle then t else if t > a + 16 then a + 16 else if t + 16 < a then a - 16 else t
    (s.setFld (EXP_GAIN_APPLIED (256 * n + e)) v).stepGains n idle e

/-- Whether a calibration holds the port (R188). -/
def State.stale (s : State) (n : Nat) : Bool := s.fbit EXP_STATUS_STALE n

/-- The width code of the overscan pulses of port `n` in this sweep, if it gives any, by the applied copy of EXP_OSCHKn (R33, R190): an EMIT audit pulses at OSW
and at ⌈OSW / 2⌉ in turn. -/
def State.overscan (s : State) (n : Nat) : Option Nat :=
  let w := (s.headP n).osW
  match s.emitTest n with
  | some i => some (if (s.aud i).n % 2 = 0 then w else (w + 1) / 2)
  | none => if (s.headP n).osEn then some w else none

/-- A port that may not image the window that begins: the reason of its void and the incident behind it (R136, R152). -/
def State.windowBar (s : State) (n : Nat) : Option (Nat × Option Nat) :=
  let c := s.scanP n
  let h := s.headP n
  if s.pos.inhEsc then some (rsInhibit, some (s.incOf 0))
  else if c.blankScn then some (rsScan, some (s.incOf 5))
  else if c.blankPll then some (rsScan, some (s.incOf 6))
  else if s.fld (SCN_STAT_LOCKED n) = 0 ∨ c.bandBusy then some (rsScan, none)
  else if h.blankHlk then some (rsHead, some (s.incOf 7))
  else if h.blankExp then some (rsHead, some (s.incOf 8))
  else if s.plant.headHot.testBit n then some (rsHead, some (s.incOf 16))
  else none

/-- The image pixel of emitter `e` at strobe `q`, SOSDLY + 256 + D(e) + i counted from SOS (R144); none outside the
image. -/
def State.columnOf (s : State) (n e q : Nat) : Option Nat :=
  let start := s.fld (SCN_SOSDLY_VALUE n) + 256 + s.fld (dlyApplied n e) / 64
  if q < start ∨ q ≥ start + 13312 then none else some (q - start)

/-- The width code w of emitter `e` at image pixel `i`, before correction: a window not begun yet is blank where it would begin
barred (R136, R151); blank pixels take 0 (R142, R162, R186, R189);
while INHIBIT is set no node images (R46, R57). -/
def State.pixelCode (s : State) (n e i : Nat) : Nat :=
  if s.inhibit then 0
  else
    let p := s.portPos n
    let stn := s.portStn n
    let np := tabGet 0 s.esc.modPos stn
    let x := stationPixel p i
    if x < 0 ∨ x ≥ 12992 * np then 0
    else
      let line (r : SlotRec) : Int := s.frameLine n (s.scanP n).sweep e i r.x (r.geo.lag stn)
      match s.esc.slots.find? (fun kr => 0 ≤ line kr.2 && line kr.2 < kr.2.desc.length) with
      | none => 0
      | some (k, r) =>
        let j := (line r).toNat
        let u := x - (12992 * (p + 1) - 160 : Int)
        let mine : Bool := (if p + 1 < np ∧ 0 ≤ u ∧ u < 320 then decide (u < s.seam j) else true)
          && (if 0 < p ∧ i < 320 then decide (s.seam j ≤ i) else true)
        let void : Bool := r.kind = 3 || (s.headP n).dark.contains k ||
          (! r.begun.testBit stn && (r.voided.isSome || r.darkAt stn 0 || (s.windowBar n).isSome))
        if void ∨ ¬ mine ∨ r.desc.table stn = 0 then 0
        else tabGet 0 (s.expoP n).table (s.level k stn x.toNat j)

/-- What emitter `e` is given by dead neighbours of its column, whose codes are `w` (R189). -/
def takeover (w : Nat → Nat) (dead : Nat → Bool) (gain spread e : Nat) : Nat :=
  let below := if e + 1 ≤ 255 ∧ dead (e + 1) ∧ w (e + 1) > 0 then
      let give := w (e + 1) * gain
      if e + 2 ≤ 255 ∧ ¬ dead (e + 2) then give * spread / 256 else give
    else 0
  let above := if e ≥ 1 ∧ dead (e - 1) ∧ w (e - 1) > 0 then
      let give := w (e - 1) * gain
      if e ≥ 2 ∧ ¬ dead (e - 2) then give * (256 - spread) / 256 else give
    else 0
  below + above

/-- The codes of strobe `q` with `lost`, `want` and the saturations, over emitters `e − 1` down to 0: the vector grows by
6 bits an emitter. Each emitter takes the codes of its own column, which may lie at other strobes (R189). -/
def State.correct (s : State) (n q : Nat) : Nat → Nat × Nat × Nat × Nat
  | 0 => (0, 0, 0, 0)
  | e + 1 =>
    let (vec, lost, want, sat) := s.correct n q e
    let x := s.expoP n
    let dead (k : Nat) : Bool := s.dead n k
    let w (k : Nat) : Nat :=
      match s.columnOf n e q with
      | some i => s.pixelCode n k i
      | none => 0
    if dead e then
      let on : Bool := x.tken && w e > 0
      let bare : Bool := (e = 0 || dead (e - 1)) && (e ≥ 255 || dead (e + 1))
      (vec, lost + (if on && bare then w e * 256 else 0), want + (if on then w e * 256 else 0), sat)
    else
      let a := w e * 256 + (if x.tken then takeover w dead x.tkgain x.spread e else 0)
      let g := a * s.fld (EXP_GAIN_APPLIED (256 * n + e)) * s.fld (EXP_H_H n)
      let v := (g + 2 ^ 35) / 2 ^ 36
      if v > 63 then (vec + 63 * 2 ^ (6 * e), lost + (g / 2 ^ 28 - 63 * 256), want, sat + 1)
      else (vec + v * 2 ^ (6 * e), lost, want, sat)

/-- The strobe vector of strobe `q`: the corrected column, or in the trailing overscan one check pulse (R189, R190). -/
def State.strobeVector (s : State) (n q : Nat) : Nat × State :=
  let os := s.fld (SCN_SOSDLY_VALUE n) + 14080
  if os ≤ q ∧ q < os + 256 then
    match s.overscan n with
    | some w =>
      let e := q - os
      (w * 2 ^ (6 * e), s.mapHead n fun h => { h with osPend := h.osPend ++ [(e, h.slot)] })
    | none => (0, s)
  else
    let (vec, lost, want, sat) := s.correct n q 256
    let x := s.expoP n
    (vec, (s.setExpo n { x with lost := x.lost + lost, want := x.want + want }).incBy (EXP_SATCNT_COUNT n) sat)

/-- Overscan currents in µA times width codes of emitters `e − 1` down to 0, which the head's thermal model takes (R276). A
missing report counts as no current. DESIGN CHOICE (log entry 73). -/
def State.emitterLoad (s : State) (n vec : Nat) : Nat → Nat
  | 0 => 0
  | e + 1 =>
    if vec = 0 then 0
    else
      let i := s.fld (EXP_ESTATE_CURRENT (256 * n + e))
      (if i = 0xFFFF then 0 else i * (vec / 64 ^ e % 64)) + s.emitterLoad n vec e

/-- EXP_DENSERRn at the end of a sweep, in 0.01 % (R189). -/
def State.densErr (s : State) (n : Nat) : State :=
  let x := s.expoP n
  let v := if x.want = 0 then 0 else min 10000 (10000 * x.lost / x.want)
  (s.setFld (EXP_DENSERR_ERR n) v).setExpo n { x with lost := 0, want := 0 }

/-- The last frame line of a slot that the band of a port's coming sweep may hold, lines L − 32 to L + 287 (R161). -/
def State.bandTop (s : State) (n : Nat) (r : SlotRec) : Int :=
  256 * (((s.scanP n).sweep : Int) + 1) + (s.scanP n).phoff / 256 + 287 - r.x - r.geo.lag (s.portStn n)

/-- A void the node has learned takes effect inside the window with the first sweep that begins at least 2 pixel periods later
(R136 step 4). A teller cycle is 1.25 ns. -/
def State.voidSettled (s : State) (n : Nat) (r : SlotRec) : Bool :=
  let hz := s.fld (PLL_FREQ_HZ n)
  r.voided.isSome && (hz = 0 || 2 * 800000000 ≤ (s.time.cycles - r.voidAt) * hz)

/-- The sweep boundary of exposure and of the head link. -/
def State.expoBoundary (s : State) (n : Nat) (idle : Bool) : State :=
  let s1 := ((s.stepH n).densErr n)
  let s2 := if idle then s1.applyExpo n else s1
  let s3 := if s2.stale n then s2 else s2.stepGains n idle 256
  s3.mapHead n fun h =>
    { h with
      sweeps := h.sweeps + 1, blk := h.blankHlk || h.blankExp || s3.plant.headHot.testBit n
      missAt := h.missAt.filter fun k => h.sweeps < k + 65536
      dark := (s3.esc.slots.filter fun kr =>
        h.dark.contains kr.1 || s3.voidSettled n kr.2 || kr.2.darkAt (s3.portStn n) (s3.bandTop n kr.2)).map fun kr => kr.1
      osEn := s3.flag (EXP_OSCHK_OSEN n), osW := s3.fld (EXP_OSCHK_OSW n) }

end Sys2Proof.Machine
end

