-- ==== Sys2Proof/Machine/HeadLink.lean ====
section
/-! DEFINITION. The commands of the head link and of dead-emitter handling: slots (R173 to R180), status frames
(R178), retries (R181), time-outs (R179, R182, R190), lane return (R184), frame-gap application (R186, R190). -/

namespace Sys2Proof.Machine

/-! Training. -/

/-- HLK_CTLn.EN written: a 1 starts training; a 0 while the port images is discarded with CFGERR (R179, R194).
A 1 over a 1 starts nothing. DESIGN CHOICE (log entry 77). -/
def State.linkEnable (s : State) (n : Nat) (on : Bool) : State :=
  let was := s.flag (HLK_CTL_EN n)
  if on then (if was then s else (s.setOn (HLK_CTL_EN n)).trainStart n 1)
  else if s.portImaging n then s.setOn HLK_STATUS_CFGERR
  else if was then (s.setOff (HLK_CTL_EN n)).trainStart n 0
  else s

/-- LINK_TRAINING_START: a write of HLK_CTLn.EN = 1 (R179). -/
def execLinkTrainingStart (n : Nat) (s : State) : Host.Outcome State Fault Refusal :=
  .next (if s.isOff then s else if n < 4 then s.atReg (HLK_CTL_EN n).addr fun s => s.linkEnable n true else s)

/-- TRAINING_TIMEOUT: the link is not up within HLK_TRAINTOn: LINK, and training starts again (R179 step 4).
DESIGN CHOICE (log entry 35). -/
def execTrainingTimeout (n : Nat) (s : State) : Host.Outcome State Fault Refusal :=
  .next (
    if s.isOff then s else
    if n < 4 ∧ ¬ s.heldInReset 0x600000 ∧ (s.fld (HLK_STAT_STATE n) = 1 ∨ s.fld (HLK_STAT_STATE n) = 3) then
      (s.trainStart n (s.fld (HLK_STAT_STATE n))).raise 7 (8 + n)
    else s)

/-! Slots. -/

/-- The 16-bit piece of a retry block that slot `m` carries: pieces 0 to 8 of 0b1010, SEQ, PAYLOAD and the original
CRC, first bits first (R181). -/
def retryPiece (seq payload k : Nat) : Nat :=
  let b := 10 * 2 ^ 140 + seq * 2 ^ 136 + payload * 2 ^ 8 + blockCrc seq payload
  b / 2 ^ (16 * (8 - k)) % 2 ^ 16

/-- The retry that runs in a slot, if one does. -/
def Head.running (h : Head) : Option Nak :=
  h.naks.find? fun k => match k.start with
    | some st => st ≤ h.slot && h.slot < st + 9
    | none => false

/-- What the SPARE bits of line `l` carry in this slot. -/
def Head.spare (h : Head) (l : Nat) : Nat :=
  match h.running with
  | some k =>
    if k.line = l then
      match h.hist.find? (fun x => x.slot = k.slot), k.start with
      | some x, some st =>
        let lane := if k.lane = 12 then (if x.spl = 15 then x.slot % 12 else x.spl) else k.lane
        retryPiece (x.slot % 16) (lanePayload x.vec lane) (h.slot - st)
      | _, _ => 0
    else 0
  | none => 0

/-- The slot words of lines `l` and up to 12 (R173, R174); a line under audit carries all ones, but in
training slots (R179, R297). -/
def State.sendLanes (s : State) (n seq vec spl l : Nat) : Nat → List Nat × State
  | 0 => ([], s)
  | fuel + 1 =>
    let h := s.headP n
    let lane := if l = 12 then (if spl = 15 then h.slot % 12 else spl) else l
    let p := if s.linkUp n ∧ s.laneTested n = some l then 2 ^ 128 - 1 else lanePayload vec lane
    let body := seq * 2 ^ 152 + p * 2 ^ 24 + blockCrc seq p * 2 ^ 16 + h.spare l
    let (w, s1) := s.lineSend n l 156 body
    let (ws, s2) := s1.sendLanes n seq vec spl (l + 1) fuel
    (w :: ws, s2)

/-- The command frame of a slot without its SYNC (R177). -/
def State.commandFrame (s : State) (n : Nat) (stb sow trn blk : Bool) : Nat :=
  let h := s.headP n
  let one (b : Bool) (i : Nat) : Nat := if b then 2 ^ i else 0
  let retry := match h.running with
    | some k => k.line * 2 ^ 58 + k.slot % 16 * 2 ^ 54
    | none => 15 * 2 ^ 58
  let f := h.slot % 16 * 2 ^ 72 + one stb 71 + one sow 70 + one trn 69 + one blk 68
    + (if sow then h.sph * 2 ^ 62 else 0) + retry + s.spareLane n * 2 ^ 50 + 2 ^ 49
    + h.fdIdx * 2 ^ 41 + s.fld (dlyApplied n h.fdIdx) % 64 * 2 ^ 35
  f + frameCrc f

/-- NAKs that can no longer start a retry become expected MISS; a retry that has ended has landed (R181, R183).
DEDUCED (log entry 38). -/
def State.retryTurn (s : State) (n : Nat) : State :=
  let h := s.headP n
  let ended (k : Nak) : Bool := match k.start with
    | some st => st + 9 ≤ h.slot
    | none => false
  let stale (k : Nak) : Bool := k.start.isNone && h.slot > k.slot + 6
  let fin := h.naks.filter ended
  let s1 := s.setHead n { h with
    naks := h.naks.filter fun k => ! ended k && ! stale k
    expect := h.expect ++ h.naks.filter stale
    done := (fin.map fun k => k.slot) ++ h.done.filter fun m => h.slot < m + 64 }
  s1.incBy (HLK_RETRYCNT_COUNT n) fin.length

/-- The strobe of slot m falls due with slot m + 16; one of an imaging window that falls due while the link is not up is
dark, and a MISS (R179, R180). `c`: the slot that begins. -/
def State.darkStrobe (s : State) (n c : Nat) : State :=
  match (s.headP n).hist.find? fun x => x.slot + 16 = c with
  | some x => if x.stb ∧ x.inWin ∧ ¬ s.linkUp n then s.miss n x 15 (s.incOf 7) else s
  | none => s

/-- The slot words and the command frame of a slot leave. -/
def State.sendSlot (s : State) (n vec : Nat) (stb sow up : Bool) : State :=
  let h := s.headP n
  let cmd := s.commandFrame n stb sow (! up) (h.blk || h.stopBlk)
  let (ws, s1) := s.sendLanes n (h.slot % 16) vec (s.spareLane n) 0 13
  let (cw, s2) := s1.lineSend n 13 76 cmd
  let s3 := if up then s2.audCount (s2.laneAudit n) else s2
  s3.emit (.port "slot" n (cw :: ws))

/-- The multiplier of the ramp reaches the synthesizer every 8 pixel periods (R156). -/
def State.rampStep (s : State) (n : Nat) : State :=
  let pp := (s.headP n).pp
  if pp % 8 = 0 then s.emit (.port "pixpll" n (s.pixPll n (s.ramp n pp))) else s

/-- HEAD_LINK_SLOT: one pixel period of a port. While the link is enabled thirteen slot words and a command frame leave,
with the strobe vector of the strobe 16 periods ahead when it is up; the strobe of 16 periods ago falls due (R156, R173
to R180, R189, R190). -/
def execHeadLinkSlot (n : Nat) (s : State) : Host.Outcome State Fault Refusal :=
  .next (
    if s.isOff then s else
    if n ≥ 4 ∨ s.heldInReset 0x600000 then s
    else
      let on : Bool := s.flag (HLK_CTL_EN n) && s.fld (HLK_STAT_STATE n) ≠ 0
      let up := s.linkUp n
      let h := s.headP n
      let q := (h.pp + 16).toNat
      let dly := s.fld (SCN_SOSDLY_VALUE n)
      let due : Bool := (s.scanP n).lastTime.isSome && decide (dly ≤ q) && decide (q < dly + 14336)
      let (vec, s1) := if up && due then s.strobeVector n q else (0, s)
      let s2 := if on then s1.sendSlot n vec (up && due) (due && q = dly) up else s1
      let x : HSlot := ⟨h.slot, vec, due, q, (s.scanP n).sweep, s.wpos + 16 * 2 ^ 40 / s.fld (PLL_PPS_VALUE n),
        s.portImaging n, s.spareLane n⟩
      let load := s.emitterLoad n vec 256
      let s3 := (s2.mapHead n fun h =>
        { h with load := h.load + load, loadN := h.loadN + 1, slot := h.slot + 1, pp := h.pp + 1, fdIdx := (h.fdIdx + 1) % 256, hist := (x :: h.hist).take 40 }).rampStep n
      (s3.retryTurn n).darkStrobe n h.slot)

/-- RETRY_START: the scheduled retry begins in the next slot, which R181 allows (R181). -/
def execRetryStart (n : Nat) (s : State) : Host.Outcome State Fault Refusal :=
  .next (
    if s.isOff then s else
    let h := s.headP n
    match h.naks.find? (fun k => k.start.isNone) with
    | some k =>
      if n < 4 ∧ ¬ s.heldInReset 0x600000 ∧ k.slot + 4 ≤ h.slot ∧ h.slot ≤ k.slot + 6 ∧ h.running.isNone then
        s.setHead n { h with
          naks := h.naks.map fun j => if j = k then { j with start := some h.slot } else j }
      else s
    | none => s)

/-- MISS_REPORT_TIMEOUT: an expected MISS the head has not reported within 4 slots (R182). -/
def execMissReportTimeout (n : Nat) (s : State) : Host.Outcome State Fault Refusal :=
  .next (
    if s.isOff then s else
    let h := s.headP n
    match h.expect with
    | _ :: ks => (s.setHead n { h with expect := ks }).headViolation n
    | [] => s)

/-! Status frames. -/

/-- A bad status frame: a violation while the link is up, and four in a row lose it (R179, R191). -/
def State.badStatus (s : State) (n : Nat) : State :=
  let up := s.linkUp n
  let s1 := s.mapHead n fun h => { h with badRun := h.badRun + 1, goodRun := 0 }
  if up then
    let s2 := s1.headViolation n
    if (s2.headP n).badRun ≥ 4 then s2.linkLost n else s2
  else s1

/-- The monitor reading of a status frame (R178, R190). -/
def State.monitor (s : State) (n mtype midx mval : Nat) : State :=
  match mtype with
  | 0 => s.osReport n midx mval
  | 1 => ((s.setFld (HLK_TEMP_TEMP n) mval).mapHead n fun h => { h with seenTemp := true }).calWatch n
  | 2 => (s.setFld (HLK_SUPPLY_MV n) mval).mapHead n fun h => { h with seenSupply := true }
  | _ => s

/-- A good status frame while the link is up: NAK, MISS, an emitter current (R178). -/
def State.upStatus (s : State) (n f : Nat) : State :=
  let nlane := bits f 71 68
  let s1 := if nlane = 15 then s else s.nak n nlane (bits f 67 64)
  let s2 := if bits f 63 63 = 1 then s1.missReport n (bits f 62 59) else s1
  if bits f 50 49 = 0 then s2.monitor n 0 (bits f 48 41) (bits f 40 25) else s2

/-- A good status frame while the link is not up: what names nothing that was sent, or no overscan strobe, is a violation; an
emitter current is taken (R178, R191). -/
def State.downStatus (s : State) (n f : Nat) : State :=
  let nlane := bits f 71 68
  let h := s.headP n
  let stray : Bool := nlane ≠ 15 && (nlane > 12 || (h.seqSlot (bits f 67 64)).isNone)
  let s1 := if stray then s.headViolation n else s
  let s2 := if bits f 63 63 = 1 ∧ (h.missSlot (bits f 62 59)).isNone then s1.headViolation n else s1
  if bits f 50 49 = 0 then s2.monitor n 0 (bits f 48 41) (bits f 40 25) else s2

/-- HSTAT's OVERTEMP, SUPPLY and LATCH set HEADFLT (R191). -/
def State.headFault (s : State) (n hstat : Nat) : State :=
  if bits hstat 5 3 ≠ 0 then s.raise 7 (12 + n) else s

/-- A good status frame: HSTAT and the head's temperature and supply in any state, NAK and MISS while the link is up (R178,
R179 step 3, R187). -/
def State.goodStatus (s : State) (n f : Nat) : State :=
  let hstat := bits f 58 51
  let trained : Bool := bits f 58 58 = 1
  let s0 := if bits f 50 49 = 0 then s else s.monitor n (bits f 50 49) (bits f 48 41) (bits f 40 25)
  let s1 := ((s0.setFld (HLK_STAT_HSTAT n) hstat).mapHead n fun h =>
    { h with badRun := 0, goodRun := if trained then min (h.goodRun + 1) 16 else 0 }).headFault n hstat
  if s1.linkUp n then (if trained then s1.upStatus n f else s1.linkLost n)
  else if (s1.headP n).goodRun ≥ 16 then
    let s2 := (s1.downStatus n f).mapScan n fun c => { c with bandBusy := c.bandBusy && ! s1.flag (PLL_CTL_LOCK n) }
    (s2.setFld (HLK_STAT_STATE n) 2).calTrigger n false
  else s1.downStatus n f

/-- STATUS_FRAME: the 80 bits of a status frame as the line brings them (R178). -/
def execStatusFrame (n frame : Nat) (s : State) : Host.Outcome State Fault Refusal :=
  .next (
    if s.isOff then s else
    if n ≥ 4 ∨ s.heldInReset 0x600000 ∨ s.fld (HLK_STAT_STATE n) = 0 then s
    else
      let (f, s1) := s.lineRecv n 14 76 (frame % 2 ^ 76)
      if frame / 2 ^ 76 % 16 = syncBits ∧ f % 256 = frameCrc f then s1.goodStatus n f else s1.badStatus n)

/-- OVERSCAN_REPORT_TIMEOUT: the report of emitter `e` has not come within 64 slots: CURRENT reads 0xFFFF and the
emitter is marked dead (R190). -/
def execOverscanReportTimeout (n e : Nat) (s : State) : Host.Outcome State Fault Refusal :=
  .next (
    if s.isOff then s else
    let h := s.headP n
    if n < 4 ∧ h.osPend.any (fun x => x.1 = e) then
      ((s.setHead n { h with osPend := h.osPend.filter fun x => x.1 ≠ e }).setFld
        (EXP_ESTATE_CURRENT (256 * n + e)) 0xFFFF).markDead n e
    else s)

/-! Return of a lane, and what waits for a frame gap. -/

/-- LANE_RETURN: a spared lane whose audit passed returns once the block has left fault handling, at a frame gap
(R184). -/
def execLaneReturn (n : Nat) (s : State) : Host.Outcome State Fault Refusal :=
  .next (
    if s.isOff then s else
    if n < 4 ∧ s.fld (HLK_STAT_SPLANE n) ≠ 15 ∧ (s.headP n).laneOk ∧ s.blk 7 = 0 ∧ s.portGap n then
      (s.setFld (HLK_STAT_SPLANE n) 15).mapHead n fun h => { h with laneOk := false }
    else s)

/-- FRAME_GAP_APPLY: staged exposure settings take effect and the dead marks to clear are lifted (R186, R190). -/
def execFrameGapApply (n : Nat) (s : State) : Host.Outcome State Fault Refusal :=
  .next (
    if s.isOff then s else
    if n < 4 ∧ s.portGap n then
      let clr := (s.expoP n).clr
      let s1 := s.applyExpo n
      if clr = 0 then s1
      else ((s1.liftDead n clr 256).deadSync n).setExpo n { s1.expoP n with clr := 0 }
    else s)

/-- EXP_DEADCLRn: the marks to clear wait for the next frame gap (R190). -/
def State.deadClear (s : State) (n mask : Nat) : State :=
  s.setExpo n { s.expoP n with clr := (s.expoP n).clr ||| mask }

/-- DEADCLR_ALL (R190). -/
def execDeadclrAll (n : Nat) (s : State) : Host.Outcome State Fault Refusal :=
  .next (if s.isOff then s else if n < 4 then s.atReg 0x608000 fun s => s.deadClear n (2 ^ 256 - 1) else s)

/-- DEADCLR_ONE (R190). -/
def execDeadclrOne (n e : Nat) (s : State) : Host.Outcome State Fault Refusal :=
  .next (if s.isOff then s else if n < 4 then s.atReg 0x608000 fun s => s.deadClear n (2 ^ (e % 256)) else s)

/-- BAND_CHANGE: on an idle port or in a frame gap the port takes the smallest band that holds the line rate, relocks
its PLL and retrains its head link (R154). -/
def execBandChange (n : Nat) (s : State) : Host.Outcome State Fault Refusal :=
  .next (
    if s.isOff then s else
    let b := bandOf (s.pixelHz n)
    if n < 4 ∧ s.portGap n ∧ ¬ s.heldInReset 0x508100 ∧ b ≠ s.fld (SCN_STAT_BAND n) then
      let s1 := (s.setBand n b).setOff (PLL_CTL_LOCK n)
      let s2 := s1.mapScan n fun c => { c with bandBusy := b ≠ 7 }
      if s2.flag (HLK_CTL_EN n) then s2.trainStart n 1 else s2
    else s)

end Sys2Proof.Machine
end

