-- ==== Sys2Proof/Machine/Heat.lean ====
section
/-! DEFINITION. The thermal models (R276 to R279). -/

namespace Sys2Proof.Machine

def State.thermP (s : State) (m : Nat) : Therm := tabGet Therm.init s.plant.therm m
def State.setTherm (s : State) (m : Nat) (x : Therm) : State :=
  s.setPlant { s.plant with therm := tabSet Therm.init s.plant.therm m x }
def State.mapTherm (s : State) (m : Nat) (f : Therm → Therm) : State := s.setTherm m (f (s.thermP m))

/-- A field whose reset value goes by the model's kind (R276). -/
def byKind (a b c d e : Nat → Field) (m : Nat) : Field :=
  if m < 2 then a m else if m < 6 then b (m - 2) else if m < 22 then c (m - 6) else if m < 46 then d (m - 22)
  else e (m - 46)

def thmWarn : Nat → Field := byKind THMA_WT_WARN THMB_WT_WARN THMC_WT_WARN THMD_WT_WARN THME_WT_WARN
def thmThr : Nat → Field := byKind THMA_WT_THR THMB_WT_THR THMC_WT_THR THMD_WT_THR THME_WT_THR
def thmShut : Nat → Field := byKind THMA_AS_SHUT THMB_AS_SHUT THMC_AS_SHUT THMD_AS_SHUT THME_AS_SHUT
def thmAbs : Nat → Field := byKind THMA_AS_ABS THMB_AS_ABS THMC_AS_ABS THMD_AS_ABS THME_AS_ABS

/-- A threshold in 1/16 °C. -/
def State.thmLevel (s : State) (f : Nat → Field) (m : Nat) : Int := ofTwos 16 (s.fld (f m))

/-- The model applies to the node's role and bindings (R276): heads of bound ports of a Worker, zones where the fuser
is not held in reset. -/
def State.thmApplies (s : State) (m : Nat) : Bool :=
  if m < 2 then true else if m < 6 then s.isWorker && s.portEn (m - 2) else if m < 22 then true
  else if m < 46 then ! s.isWorker else true

/-- The power input in mW of an update after `tenths` × 0.1 ms (R276): the dies' as measured; a head's from its supply and
its emitters' mean currents, the width code in 1/64; a winding's from its currents; a heater's from its duty; a braking
resistor's from its on time and the motor supply. DESIGN CHOICE (log entry 73). -/
def State.thmPower (s : State) (m p tenths : Nat) : Nat :=
  if m < 2 then p
  else if m < 6 then
    let h := s.headP (m - 2)
    s.fld (HLK_SUPPLY_MV (m - 2)) * h.load / (64 * h.loadN * 1000000)
  else if m < 22 then
    let x := s.axisP (m - 6)
    let sq := (x.id * x.id + x.iq * x.iq).toNat * s.fld (MOT_MOTOR_RES (m - 6))
    if m < 18 then 3 * sq / 2000000 else sq / 1000000
  else if m < 46 then s.fld (FUS_ZTEMP_DUTY (m - 22)) * s.fld (FUS_ZLOOP_ZPOW (m - 22)) * 1000 / 65536
  else
    let b := s.brake (m - 46)
    let v := Config.supplyMv (m - 46) b.sense
    min b.heat (100 * tenths) * v * v / (100 * tenths * Config.brakeMohm (m - 46))

/-- What an update used up of the loads that heads and choppers gather. -/
def State.thmTaken (s : State) (m : Nat) : State :=
  if 2 ≤ m ∧ m < 6 then s.mapHead (m - 2) fun h => { h with load := 0, loadN := 0 }
  else if 46 ≤ m then s.setBrake (m - 46) { s.brake (m - 46) with heat := 0 }
  else s

/-- The valid reading of a model's sensor, if it has one (R276): die diodes and sensors as measured; the head's temperature
while its link is up; the winding's ADC channel; the zone's. -/
def State.thmSensor (s : State) (m : Nat) (die : Option Int) (adc : List (Option Int)) : Option Int :=
  if m < 2 then die
  else if m < 6 then
    if (s.headP (m - 2)).seenTemp ∧ s.linkUp (m - 2) then some (ofTwos 16 (s.fld (HLK_TEMP_TEMP (m - 2)))) else none
  else if m < 22 then
    if s.flag (THM_MCFG_SEN m) then (adc.getD (s.fld (THM_MCFG_SADC m)) none).map Config.windingTemp else none
  else if m < 46 then
    if (s.zoneP (m - 22)).seen then some (ofTwos 16 (s.fld (FUS_ZTEMP_TEMP (m - 22)))) else none
  else none

/-- One unit of 1/16 °C in the model's resolution. DEDUCED (log entry 49). -/
def tU : Int := 2 ^ 32

/-- The two nodes after one update of `tenths` × 0.1 ms (R277): temperatures in 2⁻³² / 16 °C, power in mW, R in mK/W,
C in mJ/K; quotients are rounded down. DEDUCED (log entry 49). -/
def State.thmNodes (s : State) (m p tenths : Nat) (t1 t2 : Int) : Int × Int :=
  let q := (t1 - t2) * 62500 / (s.fld (THM_R1_VALUE m) : Int)
  let q2 := (t2 - ofTwos 16 (s.fld THM_AMB_TA) * tU) * 62500 / (s.fld (THM_R2_VALUE m) : Int)
  (t1 + ((p : Int) * tU - q) * 2 * tenths / (1250 * (s.fld (THM_C1_VALUE m) : Int)),
   t2 + (q - q2) * 2 * tenths / (1250 * (s.fld (THM_C2_VALUE m) : Int)))

/-- The correction to the sensor and the check for a mismatch (R277). -/
def State.thmCorrect (s : State) (m tenths : Nat) (v : Option Int) : State :=
  match v with
  | none => s.setOff (THM_MSTAT_SENSOK m)
  | some r =>
    let x := s.thermP m
    let second := s.flag (THM_MCFG_NODE m)
    let t := if second then x.t2 else x.t1
    let d := r * tU - t
    let t' := t + d * s.fld (THM_MCFG_KC m) / 256
    let far : Bool := d.natAbs > (s.fld (THM_MIS_MISTOL m) : Int) * tU
    let n := if far then x.mis + tenths else 0
    let lim := 10 * s.fld (THM_MIS_MISMS m)
    let y := if second then { x with t2 := t', mis := n } else { x with t1 := t', mis := n }
    let s1 := (s.setTherm m y).setOn (THM_MSTAT_SENSOK m)
    if far ∧ n > lim ∧ x.mis ≤ lim then s1.raise 16 m else s1

/-- A THERMAL record: the model and the level 1, 2 or 3 (R278). -/
def State.thmRecord (s : State) (m level : Nat) : State :=
  s.postIf THM_EVACCT_EN THM_EVACCT_ACCT 0x330 (m + 256 * level) 0 0

/-- A level is entered at its threshold and left below it by HYST. -/
def inLevel (was : Bool) (t level hyst : Int) : Bool := if was then ! (t < level - hyst) else level ≤ t

/-- SHUTPEND in both registers. DEDUCED (log entry 53). -/
def State.setShut (s : State) (m : Nat) (on : Bool) : State :=
  let s1 := s.setBool (THM_MSTAT_SHUTPEND m) on
  if on then s1.setFbit (THM_SHUT_PEND (m / 32)) (m % 32) else s1.clrFbit (THM_SHUT_PEND (m / 32)) (m % 32)

/-- T1 as the thresholds see it: the escalation of MISMATCH treats the model as at or above THR (R277). -/
def State.thmSeen (s : State) (m : Nat) : Int :=
  let x := s.thermP m
  if x.forced then max (x.t1 / tU) (s.thmLevel thmThr m) else x.t1 / tU

/-- The thresholds act on T1 (R278, R280): flags, records, fast sampling; entering SHUT requests a stop.
DEDUCED (log entry 49). -/
def State.thmLevels (s : State) (m : Nat) : State :=
  let x := s.thermP m
  let t := s.thmSeen m
  let h : Int := s.fld (THM_MTHR_HYST m)
  let thr := s.thmLevel thmThr m
  let w := inLevel x.warn t (s.thmLevel thmWarn m) h
  let r := inLevel x.thr t thr h
  let d := inLevel x.shut t (s.thmLevel thmShut m) h
  let s1 := ((s.setTherm m { x with warn := w, thr := r, shut := d }).setBool (THM_MSTAT_WARN m) w).setBool
    (THM_MSTAT_THROT m) r
  let s2 := if w ∧ ¬ x.warn then s1.thmRecord m 1 else s1
  let s3 := if r ∧ ¬ x.thr then s2.thmRecord m 2 else s2
  let s4 := if d ∧ ¬ x.shut then ((s3.thmRecord m 3).setShut m true).stopRequest else s3
  if thr - 80 ≤ t then s4.setOn (THM_MSTAT_FAST m) else if t < thr - 96 then s4.setOff (THM_MSTAT_FAST m) else s4

/-- T1, T2 and P shown. -/
def State.thmShow (s : State) (m p : Nat) : State :=
  let x := s.thermP m
  ((s.setFld (THM_MT_T1 m) (toTwos 16 (sat16 (x.t1 / tU)))).setFld (THM_MT_T2 m) (toTwos 16 (sat16 (x.t2 / tU)))).setFld
    (THM_P_P m) p

/-- The drive die's temperature, which the compensation of the reference monitor and of the converters takes: out of range,
it stays as it was and MISMATCH of model 1 is set (R281). -/
def State.dieReading (s : State) (m : Nat) (die : Option Int) : State :=
  if m ≠ 1 then s
  else match die with
    | some r => (s.setPlant { s.plant with dieTemp := r }).calWatch 4
    | none => s.raise 16 1

/-- One update of model `m`, which starts at its sensor's reading, or at Ta (R277). -/
def State.thmUpdate (s : State) (m p : Nat) (v : Option Int) : State :=
  let x := s.thermP m
  let t0 := v.getD (ofTwos 16 (s.fld THM_AMB_TA)) * tU
  let y := if x.started then x else { x with t1 := t0, t2 := t0, started := true }
  let tenths := if s.flag (THM_MSTAT_FAST m) then 1 else 10
  let pw := s.thmPower m p tenths
  let (a, b) := s.thmNodes m pw tenths y.t1 y.t2
  ((((s.thmTaken m).setTherm m { y with t1 := a, t2 := b }).thmCorrect m tenths v).thmLevels m).thmShow m pw

/-- A model that does not apply is idle (R276); once it applies it starts anew. DEDUCED (log entry 49). -/
def State.thmIdle (s : State) (m : Nat) : State :=
  let s1 := [THM_MT_T1 m, THM_MT_T2 m, THM_P_P m, THM_MSTAT_SENSOK m, THM_MSTAT_FAST m, THM_MSTAT_THROT m,
    THM_MSTAT_WARN m].foldl State.setOff ((s.setTherm m Therm.init).setShut m false)
  s1.setFld (THM_MSTAT_LIMFAC m) 16

/-- THERMAL_MODEL_UPDATE: one update of model `m`, every 1 ms or 0.1 ms while fast, with a die's measured rail power in mW
and its sensors' reading in 1/16 °C, and the ADC samples of the windings' sensors. -/
def execThermalModelUpdate (m p : Nat) (die : Option Int) (adc : List (Option Int)) (s : State) :
    Host.Outcome State Fault Refusal :=
  .next (
    if s.isOff then s else
    let s1 := s.dieReading m die
    if m ≥ 48 then s1
    else if ¬ s.thmApplies m then s1.thmIdle m
    else if ¬ s.flag (THM_MCFG_EN m) then s1
    else s1.thmUpdate m p (s.thmSensor m die adc))

/-- LIMIT_FACTOR_STEP: every THPER ms LIMFAC falls by 1 toward MINFAC at THR, rises by 1 to 16 below THR − HYST, and
between them stays (R279). -/
def execLimitFactorStep (m : Nat) (s : State) : Host.Outcome State Fault Refusal :=
  .next (
    if s.isOff then s else
    if m ≥ 48 then s
    else
      let x := s.thermP m
      let f := s.limFac m
      if x.thr ∨ x.forced then s.setFld (THM_MSTAT_LIMFAC m) (max (min f (s.fld (THM_MTHR_MINFAC m))) (f - 1))
      else if s.thmSeen m < s.thmLevel thmThr m - (s.fld (THM_MTHR_HYST m) : Int) then
        s.setFld (THM_MSTAT_LIMFAC m) (min 16 (f + 1))
      else s)

end Sys2Proof.Machine
end

