-- ==== Sys2Proof/Machine/HighVoltage.lean ====
section
/-! DEFINITION. The commands of the control engine's registers (R267, R268) and of the high-voltage channels (R270 to
R272). -/

namespace Sys2Proof.Machine

/-- COEFFICIENT_COMMIT: CTL_COMMIT.COMMIT of loop `l` (R267). -/
def execCoefficientCommit (l : Nat) (s : State) : Host.Outcome State Fault Refusal :=
  .next (if s.isOff then s else if l < 128 then s.ctlCommit l else s)

/-- RC_CLR: the memory of controller `r` is zeroed at its next execution (R268). -/
def execRcClr (r : Nat) (s : State) : Host.Outcome State Fault Refusal :=
  .next (if s.isOff then s else if r < 16 then s.setRc r { s.rcP r with clr := true } else s)

/-- The loops a channel names may be bound to it (R262). -/
def State.hvBound (s : State) (h : Nat) : Bool := s.bindOk (s.hvLoops h)

/-- A channel may be enabled (R262, R269, R271, R283). DEDUCED (log entry 48). -/
def State.hvMayEnable (s : State) (h : Nat) : Bool :=
  s.isGpwm (s.flag (HVS_CHCFG_OUTKIND h)) (s.fld (HVS_CHCFG_OUTIDX h)) && s.hvBound h &&
    s.fld (HVS_FS_VFS h) ≠ 0 && s.fld (HVS_FS_IFS h) ≠ 0

/-- A write of HVS_CHCTL.EN (R270, R272). An escalated channel stays off until EN is written 1 after the block has
left fault handling. -/
def State.hvEnable (s : State) (h : Nat) (on : Bool) : State :=
  let st := s.hvState h
  if on then
    if st = hvEscalated ∨ s.flag (HVS_CHCTL_EN h) then s
    else if s.hvMayEnable h then
      if st ≠ hvOff then (s.mapHv h fun x => { x with off := false }).setOn (HVS_CHCTL_EN h)
      else ((s.mapHv h fun x => { x with set := 0, off := false, err := false }).setOn (HVS_CHCTL_EN h)).setFld
        (HVS_STATE_STATE h) hvRamping
    else s.setOn HVS_STATUS_CFGERR
  else if ¬ s.hvLive h then s.setOff (HVS_CHCTL_EN h)
  else if s.fld (HVS_RAMP_RAMP h) = 0 ∨ st = hvArcHold then s.hvTurnOff h
  else (s.mapHv h fun x => { x with off := true }).setOff (HVS_CHCTL_EN h)

/-- HV_ENABLE (R270). -/
def execHvEnable (h : Nat) (on : Bool) (s : State) : Host.Outcome State Fault Refusal :=
  .next (if s.isOff then s else if h < 16 then s.hvEnable h on else s)

/-- A write of ACEN (R271). DESIGN CHOICE (log entry 73). -/
def State.hvAcen (s : State) (h : Nat) (on : Bool) : State :=
  if on then
    if h % 4 ≠ 1 ∨ ¬ s.hvBound h then s.setOn HVS_STATUS_CFGERR
    else
      let s1 := s.setOn (HVS_CHCTL_ACEN h)
      let x := s.acMove h (s.acAt h)
      let up := if s.fld (HVS_ACCFG_ACRAMP h) = 0 then 2 else 1
      if x.ac = 0 then
        s1.setHv h { x with
          ac := up, level := 0, slope := s.fld (HVS_AC_ACAMP h), den := s.acDen h, pos := 0, start := s.time.cycles }
      else if x.ac = 3 then s1.setHv h { x with ac := up }
      else s1
  else (s.setOff (HVS_CHCTL_ACEN h)).hvAcOff h

/-- ACEN (R271). -/
def execAcen (h : Nat) (on : Bool) (s : State) : Host.Outcome State Fault Refusal :=
  .next (if s.isOff then s else if h < 16 then s.hvAcen h on else s)

/-- ARC_HOLD_END: after ARCOFF ms the set-point ramps up again from 0 (R272). -/
def execArcHoldEnd (h : Nat) (s : State) : Host.Outcome State Fault Refusal :=
  .next (
    if s.isOff then s else
    if h < 16 ∧ s.hvState h = hvArcHold then
      (s.mapHv h fun x => { x with set := 0 }).setFld (HVS_STATE_STATE h) hvRamping
    else s)

/-- HV_REG_TIMEOUT: an error beyond REGTOL for REGMS ms while no ramp runs (R272). -/
def execHvRegTimeout (h : Nat) (s : State) : Host.Outcome State Fault Refusal :=
  .next (if s.isOff then s else if h < 16 ∧ s.hvState h = hvRegulating ∧ (s.hvP h).err then s.raise 14 (16 + h) else s)

/-- AC_EXCITATION_CYCLE: the end of a cycle of the developer AC drive: what is left of the ramp's step in this cycle is
taken; the drive stops at the end of the cycle in which it reaches 0 (R271). -/
def execAcExcitationCycle (h : Nat) (s : State) : Host.Outcome State Fault Refusal :=
  .next (
    if s.isOff then s else
    if h ≥ 16 then s
    else
      let x := { s.acMove h (s.acCycle h) with pos := 0, start := s.time.cycles }
      if x.ac = 1 then s.setHv h { x with ac := if x.level = s.fld (HVS_AC_ACAMP h) * x.den then 2 else 1 }
      else if x.ac = 3 then
        if x.level = 0 then s.setHv h { x with ac := 0, slope := 0, den := 0, start := 0 } else s.setHv h x
      else if x.ac = 2 then s.setHv h x
      else s)

/-- The escalation of HVS: the channel ramps to 0 and turns off, its AC ramped down (R272). -/
def State.hvEscalate (s : State) (h : Nat) : State :=
  if s.hvState h = hvOff then s
  else
    let s1 := (s.setFld (HVS_STATE_STATE h) hvEscalated).hvAcOff h
    if s.fld (HVS_RAMP_RAMP h) = 0 then s1.hvTurnOff h else s1

/-- Escalated channels are off once the block has left fault handling. -/
def State.hvLift (s : State) : State :=
  (List.range 16).foldl (fun s h =>
    if s.hvState h = hvEscalated then (s.hvTurnOff h).setFld (HVS_STATE_STATE h) hvOff else s) s

end Sys2Proof.Machine
end

