-- ==== Sys2Proof/Machine/Motion.lean ====
section
/-! DEFINITION. The commands of the motion unit (R251 to R257) and the period of an axis (R238). -/

namespace Sys2Proof.Machine

/-- START: MOT_CMD.START on axis `i`. -/
def execStart (i : Nat) (s : State) : Host.Outcome State Fault Refusal :=
  .next (if s.isOff then s else if i < 16 then s.axisStart i else s)

/-- The observer starts from a measured angle and speed (R251). -/
def State.seedObserver (s : State) (i ang : Nat) (speed : Int) : State :=
  s.mapAxis i fun x => { x with seed := some (ang, speed), ang := ang % 65536, badN := 0, okN := 0 }

/-- SENSING_END: after SENSEMS, with what the drive die measured: the amplitude of the induced voltage in mV, its frequency
in 2⁻¹⁶ Hz, whether the phase sequence is forward, the electrical angle in 1/65,536 revolution and the switch-node
voltages in 10 mV (R251 steps 1 to 4). After 50 repetitions the axis gives up. DEDUCED (log entry 44). -/
def execSensingEnd (i amp freq : Nat) (fwd : Bool) (ang : Nat) (vsw : List Nat) (s : State) : Host.Outcome State Fault Refusal :=
  .next (
    if s.isOff then s else
    if i ≥ 12 ∨ s.axState i ≠ axSensing then s
    else
      let s1 := s.showVsw (3 * i) (vsw.take 3)
      let n : Int := freq / s.fld (MOT_CFG_POLES i)
      let speed := if fwd then n else -n
      if amp < s.fld (MOT_SYNCC_VSTILL i) * 10 then s1.setAxState i axAligning
      else if atLeastRpm speed (s.fld (MOT_STARTC_HANDOVER i)) then
        let s2 := s1.seedObserver i ang speed
        if fwd then (s2.mapAxis i fun x => { x with vel := speed * velU, acc := 0 }).closeLoops i
        else if s.flag (MOT_CFG_REVBRAKE i) then s2.setAxState i axBraking
        else (s1.coastAxis i).raise 12 (16 + i)
      else if (s.axisP i).reps ≥ 50 then (s1.coastAxis i).raise 12 i
      else s1.mapAxis i fun x => { x with reps := x.reps + 1 })

/-- ALIGN_END: after ALIGNMS the axis ramps in open loop; handover must come within twice the ramp time (R251). -/
def execAlignEnd (i : Nat) (s : State) : Host.Outcome State Fault Refusal :=
  .next (
    if s.isOff then s else
    if i ≥ 12 ∨ s.axState i ≠ axAligning then s
    else
      let t := 2 * s.rampPeriods i
      (s.setAxState i axOpenLoop).mapAxis i fun x => { x with left := t + 1, vel := 0, acc := 0, okN := 0, base := x.pos })

/-- STOP_CMD: MOT_CMD.STOP (R253). -/
def execStopCmd (i : Nat) (s : State) : Host.Outcome State Fault Refusal :=
  .next (if s.isOff then s else if i < 16 then s.axisStop i else s)

/-- COAST: MOT_CMD.COAST (R257). -/
def execCoast (i : Nat) (s : State) : Host.Outcome State Fault Refusal :=
  .next (if s.isOff then s else if i < 16 then s.coastAxis i else s)

/-- MOVE: MOT_CMD.MOVE (R253). -/
def execMove (i : Nat) (s : State) : Host.Outcome State Fault Refusal :=
  .next (if s.isOff then s else if i < 16 then s.axisMove i else s)

/-! The period. -/

/-- A current in Q15 of IMAX; with IMAX = 0 the manual gives no value. -/
def State.q15 (s : State) (i : Nat) (ma : Int) : Int × State :=
  let m := s.fld (MOT_CUR_IMAX i)
  if m = 0 then
    let (k, s1) := s.free (2 ^ 16)
    (ofTwos 16 k, s1)
  else (sat16 (tdiv (ma * 32768) m), s)

/-- The q current set-point the speed compensator asks for, limited to the current limit scaled by LIMFAC / 16. -/
def State.qDemand (s : State) (i : Nat) : Int :=
  let l := if s.fld (MOT_CFG_MODE i) = 4 then s.fld (MOT_LOOPS_PLOOP i) else s.fld (MOT_LOOPS_SLOOP i)
  limitI (32767 * s.limFac (6 + i) / 16 : Nat) (s.loopP l).start

/-- The set-points of the two current loops in Q15 of IMAX (R249 to R251, R255): zero after a loss of synchronism;
IAUX on the d axis while aligning and in open loop; braking current IAUX on the q axis; the table's values on a
stepper, IAUX in its first period and while it holds; else the q current, turned ahead by the phase advance in the
direction of rotation. -/
def State.currentSet (s : State) (i : Nat) : Int × Int × State :=
  let x := s.axisP i
  let st := s.axState i
  let aux := min (s.fld (MOT_CUR_IAUX i)) (s.fld (MOT_CUR_IMAX i) * s.limFac (6 + i) / 16)
  if x.lost then (0, 0, s)
  else if i ≥ 12 then
    let a := s.microAddr i
    let f := fun (t : Int) =>
      if st = axHolding ∨ x.left = 1 then tdiv (t * aux) (max 1 (s.fld (MOT_CUR_IMAX i)))
      else tdiv (t * s.limFac (6 + i)) 16
    (f (s.microstep (i - 12) a), f (s.microstep (i - 12) (a + 256)), s)
  else if st = axAligning ∨ st = axOpenLoop then
    let (d, s1) := s.q15 i aux
    (d, 0, s1)
  else if st = axBraking then
    let (q, s1) := s.q15 i aux
    (0, q, s1)
  else
    let (d, q) := unpark (if s.speedOf i < 0 then -(x.adv : Int) else x.adv) (0, s.qDemand i)
    (d, q, s)

/-- One current loop of an axis takes its turn; a lost sample makes it stale (R266). -/
def State.currentRun (s : State) (l : Nat) (fb sp : Int) (stale : Bool) : State :=
  let due : Bool := s.fld CTL_PERIOD_VALUE % (s.fld (CTL_LCFG_DIV l) + 1) = s.fld (CTL_LCFG_PHASE l)
  if ¬ s.flag (CTL_LCFG_EN l) then s.loopClear l
  else if ¬ due then s
  else if stale then s.loopStale l
  else s.loopRun l fb (sp - fb) 0

/-- The voltage vector limited to 32,767, and whether it stands at the limit (R248). -/
def limitVector (d q : Int) : Int × Int × Bool :=
  let m := (d * d + q * q).toNat
  if m < 32767 * 32767 then (d, q, false)
  else (tdiv (d * 32767) (isqrt m), tdiv (q * 32767) (isqrt m), true)

/-- A phase's duty in counts: half the period plus a share. -/
def dutyOf (x : Int) : Nat := clampN 0 5000 (2500 + x).toNat

/-- Space-vector modulation (R248): of the voltages U, V and W of a vector in Q15 of the limit, 0.95 / √3 of the supply,
the mid-point of the largest and the smallest goes to half the period. √3 is 113,512 / 65,536, and
5,000 × 0.95 / √3 counts are 2,742.41. DESIGN CHOICE (log entry 42). -/
def svm (a b : Int) : List Nat :=
  let u := 131072 * a
  let v := -65536 * a + 113512 * b
  let w := -65536 * a - 113512 * b
  let mid := (max u (max v w) + min u (min v w)) / 2
  [u, v, w].map fun x => dutyOf (tdiv ((x - mid) * 274241) (131072 * 3276700))

/-- The two half-bridges of each of a stepper's phases, at most 0.95 of the supply across a phase.
DESIGN CHOICE (log entry 42). -/
def fullBridges (a b : Int) : List Nat :=
  [a, -a, b, -b].map fun x => dutyOf (tdiv (x * 2375) 32767)

/-- The outputs of the current loops become the duties of the next period; VSAT while the vector is at its limit. -/
def State.modulate (s : State) (i : Nat) : State :=
  let l := s.fld (MOT_LOOPS_ILOOP i)
  let d := sat16 (s.loopP l).out
  let q := sat16 (s.loopP (l + 1)).out
  if i < 12 then
    let (d1, q1, sat) := limitVector d q
    let (a, b) := unpark (s.frameAng i) (d1, q1)
    (s.mapAxis i fun x => { x with next := svm a b }).setBool (MOT_STAT_VSAT i) sat
  else s.mapAxis i fun x => { x with next := fullBridges d q, left := 0 }

/-- The current loops of an axis run between its valley and the next (R261); the advance applies while VSAT is set
(R250). -/
def State.currentLoops (s : State) (i : Nat) (stale : Bool) : State :=
  let s0 := s.mapAxis i fun x => { x with adv := if s.flag (MOT_STAT_VSAT i) then s.advance i (s.speedOf i) else 0 }
  let x := s0.axisP i
  let (a, b, s1) := s0.currentSet i
  let (fa, s2) := s1.q15 i x.id
  let (fb, s3) := s2.q15 i x.iq
  let l := s.fld (MOT_LOOPS_ILOOP i)
  ((s3.currentRun l fa a stale).currentRun (l + 1) fb b stale).modulate i

/-- ATSPD: |speed − set-point| ≤ ATSPDTOL × 0.01 % of the set-point for 64 consecutive periods. -/
def State.atSpeed (s : State) (i : Nat) : State :=
  let x := s.axisP i
  let v := s.velOf i
  let ok : Bool := (s.speedOf i - v).natAbs * 10000 ≤ s.fld (MOT_ATSPDTOL_VALUE i) * v.natAbs
  let n := if ok then min (x.atN + 1) 64 else 0
  (s.setAxis i { x with atN := n }).setBool (MOT_STAT_ATSPD i) (n ≥ 64)

/-- What the period does to an axis in each state (R251 to R254). -/
def State.axisAdvance (s : State) (i : Nat) : State :=
  let st := s.axState i
  let x := s.axisP i
  if st = axRunning then s.profileStep i
  else if st = axStopping then
    let s1 := s.limitVel i 0
    let y := s1.axisP i
    if y.vel = 0 ∧ y.acc = 0 then (if i < 12 then s1.axisRelease i axOff else s1.setAxState i axHolding)
    else s1
  else if st = axOpenLoop then
    let h := rpmFine (s.fld (MOT_STARTC_HANDOVER i))
    let s1 := s.limitVel i h
    let y := s1.axisP i
    if y.vel ≥ h ∧ y.okN ≥ s.fld (MOT_SYNCC_SYNCN i) then s1.closeLoops i
    else if x.left = 1 then (s1.mapAxis i fun z => { z with left := 0 }).raise 12 i
    else s1.mapAxis i fun z => { z with left := x.left - 1 }
  else if st = axBraking ∧ ¬ atLeastRpm (s.speedOf i) (s.fld (MOT_STARTC_HANDOVER i)) then
    (s.axisRelease i axSensing).mapAxis i fun z => { z with reps := z.reps + 1 }
  else s

/-- The period of a live axis: the duties formed in the last one come into force, the currents are sampled or predicted,
the observer or the stepper's estimate runs, the profile advances, and the current loops form the next duties (R238). -/
def State.axisPeriod (s : State) (i : Nat) (adc : List (Option Int)) : State :=
  let v := s.applied i
  let (c, s1) := s.sample i (if i < 12 then park (s.frameAng i) v else v) adc
  let s2 := if i < 12 then s1.observe i c v else s1.stepperObserve i c v
  let s3 := (s2.axisAdvance i).showProfile i
  if s3.axisLive i then
    (s3.atSpeed i).currentLoops i (! s1.flag (MOT_STAT_PRED i) && (s.axisAmps i adc).isNone)
  else s3

/-- The period of an axis with its gates off: the observer or the stepper's estimate runs on with no voltage applied
(R248, R256). DESIGN CHOICE (log entry 42). -/
def State.idlePeriod (s : State) (i : Nat) (adc : List (Option Int)) : State :=
  let x := s.axisP i
  let c : Amps := match s.axisAmps i adc with
    | some (a, b) => .fresh a b
    | none => .carried x.id x.iq
  if i < 12 then s.observe i c (0, 0) else s.stepperObserve i c (0, 0)

/-- PWM_PERIOD: the valley of axis `i`. The valley of axis 0 is the start of the chip's base period, in which the
control engine's other loops run. `adc` holds the samples of the ADC channels at this valley (none: lost with a
drive-link frame). DESIGN CHOICE (log entry 42). -/
def execPwmPeriod (i : Nat) (adc : List (Option Int)) (s : State) : Host.Outcome State Fault Refusal :=
  .next (
    if s.isOff then s else
    if i ≥ 16 then s
    else
      let s1 := if i = 0 then s.basePeriod adc else s
      (if ¬ s1.axisLive i ∨ s1.axState i = axSensing then s1.idlePeriod i adc else s1.axisPeriod i adc).interlock 52)

end Sys2Proof.Machine
end

