-- ==== Sys2Proof/Machine/Reference.lean ====
section
/-! DEFINITION. The clock supervisor over REFCLK_A and REFCLK_B (R163 to R167). Reference 0 is A, 1 is B. -/

namespace Sys2Proof.Machine

def refDead (r : Nat) : Field := if r = 0 then PLL_REFSTAT_DEADA else PLL_REFSTAT_DEADB
def refWarn (r : Nat) : Field := if r = 0 then PLL_REFSTAT_WARNA else PLL_REFSTAT_WARNB
def refHealthy (r : Nat) : Field := if r = 0 then PLL_REFSTAT_HEALTHYA else PLL_REFSTAT_HEALTHYB
def refArm (r : Nat) : Field := if r = 0 then PLL_REFCTL_ARMA else PLL_REFCTL_ARMB

/-- REF_DRIFT, REF_SWITCH and REF_NONE carry the deviation in ppm (R344). -/
def State.refRecord (s : State) (type : Nat) (ppm : Nat) : State :=
  s.postIf PLL_EVACCT_EN PLL_EVACCT_ACCT type ppm 0 (s.incOf 6)

/-- A reference that may be switched to. -/
def State.refUsable (s : State) (r : Nat) : Bool := s.flag (refHealthy r) && s.flag (refArm r)

/-- The reference a switch goes to in the present state: the other one, or in holdover the selected one come back. -/
def State.refTarget (s : State) : Option Nat :=
  let sel := s.fld PLL_REFSTAT_SEL
  if s.refUsable (1 - sel) then some (1 - sel)
  else if s.fld PLL_REFSTAT_STATE ≠ 0 ∧ s.refUsable sel then some sel
  else none

/-- STATE in holdover: awaiting a switch instant, or without a healthy reference, which sets NOREF (R167). -/
def State.holdoverState (s : State) : State :=
  match s.refTarget with
  | some _ => s.setFld PLL_REFSTAT_STATE 1
  | none => if s.fld PLL_REFSTAT_STATE = 2 then s else (s.setFld PLL_REFSTAT_STATE 2).raise 6 8

/-- The control values of the reference-fed PLLs freeze at the end of the last good window (R165). -/
def State.holdover (s : State) : State :=
  if s.fld PLL_REFSTAT_STATE = 0 ∨ s.fld PLL_REFSTAT_STATE = 3 then
    let s1 := { s with refs := { s.refs with frozen := some s.refs.lastGood, windows := 0 } }
    ((s1.setFld PLL_REFSTAT_HOLDSEC 0).setFld PLL_REFSTAT_STATE 1).holdoverState
  else s

/-- Consecutive windows within ±100 ppm of a reference. -/
def RefSup.goodOf (x : RefSup) (r : Nat) : Nat := if r = 0 then x.goodA else x.goodB
def RefSup.badOf (x : RefSup) (r : Nat) : Nat := if r = 0 then x.badA else x.badB
def RefSup.setRuns (x : RefSup) (r good bad : Nat) : RefSup :=
  if r = 0 then { x with goodA := good, badA := bad } else { x with goodB := good, badB := bad }

/-- The end of one window of a reference that is not dead (R163). -/
def State.refGrade (s : State) (r : Nat) (ppm : Int) : State :=
  if s.flag (refDead r) then s
  else
    let x := s.refs
    let good := if ppm.natAbs ≤ 100 then min (x.goodOf r + 1) 3 else 0
    let bad := if ppm.natAbs > 250 then min (x.badOf r + 1) 4 else 0
    let sel : Bool := r = s.fld PLL_REFSTAT_SEL
    let x1 := x.setRuns r good bad
    let x2 := if sel ∧ ppm.natAbs ≤ 100 then { x1 with lastGood := ppm } else x1
    let s1 := ({ s with refs := x2 }.setFld (PLL_REFPPM_PPM r) (toTwos 32 ppm)).setBool (refWarn r) (ppm.natAbs > 100)
    let s2 := s1.setBool (refHealthy r) (good ≥ 3)
    if bad = 3 then
      let s3 := (s2.raise 6 (4 + r)).refRecord 0x300 (toTwos 32 ppm)
      if sel then s3.holdover else s3
    else s2

/-- Time in holdover: 100 windows of 10 ms to the second, and the state as the references stand. -/
def State.holdoverWindow (s : State) : State :=
  if s.fld PLL_REFSTAT_STATE = 1 ∨ s.fld PLL_REFSTAT_STATE = 2 then
    let w := s.refs.windows + 1
    ({ s with refs := { s.refs with windows := w } }.setFld PLL_REFSTAT_HOLDSEC (min (w / 100) 0xFFFF)).holdoverState
  else s

/-- REFERENCE_WINDOW: the end of a 10 ms window of the monitor, with the deviations of A and B in ppm as counted, which
are compensated for the drive die's temperature (R163, R281). -/
def execReferenceWindow (a b : Int) (s : State) : Host.Outcome State Fault Refusal :=
  .next (
    if s.isOff then s else
    let k := Config.oscPpm s.plant.dieTemp
    let s1 := s.setPlant { s.plant with oscTemp := s.plant.dieTemp }
    ((s1.refGrade 0 (a - k)).refGrade 1 (b - k)).holdoverWindow)

/-- REFERENCE_DEAD: no edge for 40 ns (R164). -/
def execReferenceDead (r : Nat) (s : State) : Host.Outcome State Fault Refusal :=
  .next (
    if s.isOff then s else
    if r ≥ 2 ∨ s.flag (refDead r) then s
    else
      let s1 := ((s.setOn (refDead r)).setOff (refHealthy r)).setFld (PLL_REFPPM_PPM r) 0x80000000
      let s2 := ({ s1 with refs := s1.refs.setRuns r 0 0 }).raise 6 (6 + r)
      if r = s2.fld PLL_REFSTAT_SEL ∨ s2.fld PLL_REFSTAT_STATE = 3 then s2.holdover
      else if s2.fld PLL_REFSTAT_STATE = 0 then s2 else s2.holdoverState)

/-- REFERENCE_EDGE_RETURN: edges reappear; the management cores held for want of a reference start (R164, R386).
PLL_REFPPM reads 0 until the next window ends. DESIGN CHOICE (log entry 77). -/
def execReferenceEdgeReturn (r : Nat) (s : State) : Host.Outcome State Fault Refusal :=
  .next (
    if s.isOff then s else
    if r < 2 then
      let s1 := (s.setOff (refDead r)).setFld (PLL_REFPPM_PPM r) 0
      let s2 := if s.flag (refDead r) then s1 else s
      { s2 with pwr := { s2.pwr with coresHeld := false } }
    else s)

/-- The frame gap of a station has at least 250 µs to run at the current line rate (R166). -/
def State.gapEnough (s : State) (stn : Nat) : Bool :=
  match s.gapLeft stn with
  | some d => 250 * s.fld TIM_VEL_VEL ≤ d * 2 ^ 24
  | none => true

/-- Every bound port of the node is idle, in a void window, or in a frame gap with at least 250 µs to run (R166). -/
def State.switchInstant (s : State) : Bool :=
  [0, 1, 2, 3].all fun n => ! s.portEn n || s.portIdle n
    || (if s.portImaging n then s.fld (FRM_PHASE_KIND n) = 3 else s.gapEnough (s.portStn n))

/-- REFERENCE_SWITCH: the first allowed instant, in holdover or on request: the PLLs begin to pull toward the new
reference, SWCNT counts (R166). -/
def execReferenceSwitch (s : State) : Host.Outcome State Fault Refusal :=
  .next (
    if s.isOff then s else
    match s.refTarget with
    | some r =>
      if s.switchInstant ∧ (s.fld PLL_REFSTAT_STATE = 1 ∨ s.fld PLL_REFSTAT_STATE = 2 ∨
          (s.fld PLL_REFSTAT_STATE = 0 ∧ s.flag PLL_REFCTL_SWREQ)) then
        ({ s with refs := { s.refs with target := some r } }.setFld PLL_REFSTAT_STATE 3).inc PLL_SWCNT_COUNT
      else s
    | none => s)

/-- REFERENCE_SWITCH_COMPLETE: the PLLs run on the new reference; STATE is normal, REF_SWITCH is posted (R166). -/
def execReferenceSwitchComplete (s : State) : Host.Outcome State Fault Refusal :=
  .next (
    if s.isOff then s else
    if s.fld PLL_REFSTAT_STATE = 3 then
      let r := s.refs.target.getD (s.fld PLL_REFSTAT_SEL)
      let s1 := (s.setFld PLL_REFSTAT_SEL r).setFld PLL_REFSTAT_STATE 0
      let s2 := (s1.setOff PLL_REFCTL_SWREQ).setFld PLL_REFSTAT_HOLDSEC 0
      { s2 with refs := { s2.refs with frozen := none, windows := 0, target := none } }.refRecord 0x301 (s2.fld (PLL_REFPPM_PPM r))
    else s)

/-- PLL_REFCTL.SWREQ: ignored when the other reference is not healthy and armed (R171). -/
def State.swReq (s : State) : State :=
  if s.refUsable (1 - s.fld PLL_REFSTAT_SEL) then s.setOn PLL_REFCTL_SWREQ else s

/-- SWREQ (R166). -/
def execSwreq (s : State) : Host.Outcome State Fault Refusal := .next (if s.isOff then s else s.swReq)

end Sys2Proof.Machine
end

