-- ==== Sys2Proof/Machine/RingBytes.lean ====
section
/-! DEFINITION. Ring frames as bytes (R320, R354, R355, R359 to R362): a frame that a node sends as it stands on
the link, and what the bytes of a received frame spell, with what the checks of R355 find. The operands of a ring command
are these. -/

namespace Sys2Proof.Machine

/-! Payloads. -/

/-- A descriptor of 64 bytes with its CRC (R125). -/
def descBytes (d : Desc) : List Byte :=
  let b := leBytes 4 d.frame ++ leBytes 3 d.length ++ leBytes 1 d.flags ++ leBytes 2 d.gap ++ leBytes 2 d.job
    ++ (List.range 16).flatMap fun n => leBytes 3 (d.table n)
  b ++ leBytes 4 (crc32c b)

/-- The 88 bytes of a CLOSE (R360). -/
def closeBytes (c : CloseRec) : List Byte :=
  leBytes 4 c.slot ++ leBytes 1 c.kind ++ leBytes 1 c.reason ++ leBytes 2 0 ++ leBytes 8 c.ec ++ leBytes 8 c.x
    ++ descBytes c.desc

/-- The 12 bytes of a VOID or VOIDREP (R360). -/
def voidBytes (v : VoidRec) : List Byte :=
  leBytes 4 v.slot ++ leBytes 1 v.reason ++ leBytes 1 v.station ++ leBytes 2 v.incident ++ leBytes 4 v.frame

/-- The 20 bytes of a BEACON (R359). -/
def beaconBytes (b : Beacon) : List Byte :=
  leBytes 4 b.seq ++ leBytes 8 b.wpos ++ leBytes 4 b.vel ++ leBytes 2 b.resid ++ leBytes 1 b.inhibit.toNat ++ leBytes 1 0

/-- KIND of a mirror record (R320). -/
def mirKind : MirData → Nat
  | .tellerOp _ => 1
  | .hostOp _ _ => 2
  | .close _ => 3
  | .void _ => 4
  | .event _ => 5
  | .snapshot _ => 6
  | .swapmark _ => 7
  | .reserved k => k

/-- DATA of a mirror record (R320). The manual leaves the form of a SNAPSHOT open, and gives SWAPMARK's last MSEQ no place:
here it is DATA. DESIGN CHOICE (log entry 77). -/
def mirBytes : MirData → List Byte
  | .tellerOp data => data
  | .hostOp words reply => (List.range 16).flatMap (fun k => leBytes 4 (words.getD k 0)) ++ leBytes 4 reply
  | .close c => closeBytes c
  | .void v => voidBytes v
  | .event r => r.bytes
  | .snapshot p => Config.snapBytes p
  | .swapmark m => leBytes 4 m
  | .reserved _ => []

/-- A mirror record (R320). -/
def mirrorBytes (r : MirRec) : List Byte :=
  let data := mirBytes r.data
  leBytes 4 r.mseq ++ leBytes 4 r.term ++ leBytes 1 (mirKind r.data) ++ leBytes 1 r.teller ++ leBytes 1 r.status
    ++ leBytes 1 data.length ++ leBytes 4 r.inst ++ leBytes 4 r.aux ++ data

/-- A message to `dst`: one to the ledger of a node, local number 0x58D, adds its submission words (R361). -/
def messageBytes (dst : Nat) (m : Msg) : List Byte :=
  m.body ++ leBytes 4 m.src ++ (if dst % 4096 = 0x58D then leBytes 4 m.word ++ leBytes 4 m.pred else [])

/-- Pairs of a CONFIG. -/
def pairBytes : List (Nat × Nat) → List Byte
  | [] => []
  | p :: ps => leBytes 4 p.1 ++ leBytes 4 p.2 ++ pairBytes ps

/-- TYPE of a frame (R355). -/
def msgType : RingMsg → Nat
  | .beacon _ => 0x01
  | .close _ => 0x02
  | .endrun _ _ => 0x03
  | .void _ => 0x04
  | .voidrep _ => 0x05
  | .mirror _ => 0x06
  | .watermark _ _ _ => 0x07
  | .mirack _ => 0x08
  | .mirreq _ _ => 0x09
  | .probe _ => 0x0A
  | .probeans _ => 0x0B
  | .relinquish => 0x0C
  | .swapreq _ => 0x0D
  | .swapack _ _ => 0x0E
  | .msg _ => 0x10
  | .msgstat _ _ => 0x11
  | .stopreq _ => 0x18
  | .stopnow _ _ => 0x19
  | .hello _ _ _ _ _ _ => 0x20
  | .assign _ _ _ _ _ => 0x21
  | .config _ => 0x22
  | .dlyprobe _ => 0x23
  | .dlyecho _ => 0x24
  | .linkctl _ _ => 0x3F

/-- The payload of a frame to `dst` (R355, R359 to R362). The manual gives a refused SWAPREQ no answer of its own: here it is
a SWAPACK with a second word. DESIGN CHOICE (log entry 77). -/
def msgPayload (dst : Nat) : RingMsg → List Byte
  | .beacon b => beaconBytes b
  | .close c => closeBytes c
  | .endrun slot ec => leBytes 4 slot ++ leBytes 4 0 ++ leBytes 8 ec
  | .void v => voidBytes v
  | .voidrep v => voidBytes v
  | .mirror r => mirrorBytes r
  | .watermark sent settled event => leBytes 4 sent ++ leBytes 4 settled ++ leBytes 4 event
  | .mirack mseq => leBytes 4 mseq
  | .mirreq first last => leBytes 4 first ++ leBytes 4 last
  | .probe seq => leBytes 4 seq
  | .probeans seq => leBytes 4 seq
  | .relinquish => []
  | .swapreq seq => leBytes 4 seq
  | .swapack seq agreed => leBytes 4 seq ++ (if agreed then [] else leBytes 4 0)
  | .msg m => messageBytes dst m
  | .msgstat status node => leBytes 1 status ++ leBytes 3 0 ++ leBytes 4 node
  | .stopreq reason => leBytes 4 reason
  | .stopnow incident reason => leBytes 2 incident ++ leBytes 1 reason ++ leBytes 1 0
  | .hello serial strap role portmap dlyA dlyB =>
    leBytes 8 serial ++ leBytes 1 strap ++ leBytes 1 role ++ leBytes 2 0 ++ leBytes 4 portmap ++ leBytes 4 dlyA
      ++ leBytes 4 dlyB
  | .assign serial node role pathA pathB =>
    leBytes 8 serial ++ leBytes 1 node ++ leBytes 1 role ++ leBytes 2 0 ++ leBytes 4 pathA ++ leBytes 4 pathB
  | .config pairs => pairBytes pairs
  | .dlyprobe time => leBytes 8 time
  | .dlyecho time => leBytes 8 time
  | .linkctl lseq nak => leBytes 4 (lseq + nak.toNat * 2 ^ 16)

/-- The header and the payload of a frame that leaves a node (R354). -/
def frameBody (f : RingFrame) : List Byte :=
  let p := msgPayload (f.dst.getD 0) f.m
  leBytes 1 (msgType f.m) ++ leBytes 1 (f.dst.isNone.toNat + 2 * f.wrapped.toNat) ++ leBytes 1 f.hops
    ++ leBytes 1 (p.length / 4) ++ leBytes 4 f.term ++ leBytes 3 (f.dst.getD 0) ++ leBytes 1 f.src ++ leBytes 2 f.lseq
    ++ leBytes 2 0 ++ p

/-- A frame as it stands on the link: header, payload and CRC-32C (R354). -/
def frameBytes (f : RingFrame) : List Byte := frameBody f ++ leBytes 4 (crc32c (frameBody f))

/-! Reading them back. -/

/-- The number in `n` bytes at `k`. -/
def fieldAt (bs : List Byte) (k n : Nat) : Nat := ofLe ((bs.drop k).take n)

/-- A result where a payload has its length and its reserved fields are 0. -/
def given {α : Type} (ok : Bool) (a : α) : Option α := if ok then some a else none

/-- The close record of 88 bytes; its descriptor has a valid CRC (R360). -/
def readClose (bs : List Byte) : Option CloseRec :=
  let d := bs.drop 24
  given (bs.length = 88 && fieldAt bs 6 2 = 0 && fieldAt bs 14 2 = 0 && fieldAt bs 22 2 = 0
      && crc32c (d.take 60) = fieldAt d 60 4)
    { slot := fieldAt bs 0 4, kind := fieldAt bs 4 1, reason := fieldAt bs 5 1, ec := fieldAt bs 8 8, x := fieldAt bs 16 8,
      desc := Desc.ofBytes d }

/-- The void record of 12 bytes. -/
def readVoid (bs : List Byte) : Option VoidRec :=
  given (bs.length = 12)
    { slot := fieldAt bs 0 4, reason := fieldAt bs 4 1, station := fieldAt bs 5 1, incident := fieldAt bs 6 2,
      frame := fieldAt bs 8 4 }

/-- The beacon of 20 bytes. -/
def readBeacon (bs : List Byte) : Option Beacon :=
  given (bs.length = 20 && fieldAt bs 18 1 < 2 && fieldAt bs 19 1 = 0)
    { seq := fieldAt bs 0 4, wpos := fieldAt bs 4 8, vel := fieldAt bs 12 4, resid := fieldAt bs 16 2,
      inhibit := fieldAt bs 18 1 = 1 }

/-- The event record of 32 bytes (R11). -/
def readEvent (bs : List Byte) : Option EventRec :=
  given (bs.length = 32 && fieldAt bs 30 1 < 32)
    { type := fieldAt bs 0 2, account := fieldAt bs 2 2, seq := fieldAt bs 4 4, wpos := fieldAt bs 8 8,
      wall := fieldAt bs 16 8, detail := fieldAt bs 24 4, incident := fieldAt bs 28 2, sub := fieldAt bs 30 1 % 16,
      stby := 16 ≤ fieldAt bs 30 1, phase := fieldAt bs 31 1 }

/-- DATA of a mirror record by KIND; a reserved KIND is taken as it is (R320). -/
def readMirData (kind : Nat) (bs : List Byte) : Option MirData :=
  match kind with
  | 1 => some (.tellerOp bs)
  | 2 => given (bs.length = 68) (.hostOp ((List.range 16).map fun k => fieldAt bs (4 * k) 4) (fieldAt bs 64 4))
  | 3 => (readClose bs).map .close
  | 4 => (readVoid bs).map .void
  | 5 => (readEvent bs).map .event
  | 6 => some (.snapshot (Config.snapPiece bs))
  | 7 => given (bs.length = 4) (.swapmark (fieldAt bs 0 4))
  | k => some (.reserved k)

/-- A mirror record: DLEN bytes of DATA follow its 20 bytes (R320). -/
def readMirror (bs : List Byte) : Option MirRec :=
  if bs.length = 20 + fieldAt bs 11 1 then
    (readMirData (fieldAt bs 8 1) (bs.drop 20)).map fun data =>
      { mseq := fieldAt bs 0 4, term := fieldAt bs 4 4, teller := fieldAt bs 9 1, status := fieldAt bs 10 1,
        inst := fieldAt bs 12 4, aux := fieldAt bs 16 4, data := data }
  else none

/-- A message. The account it is sent under has no place in the frame (R361). -/
def readMessage (dst : Nat) (bs : List Byte) : Option Msg :=
  given ((bs.length = if dst % 4096 = 0x58D then 76 else 68) && fieldAt bs 64 4 < 2 ^ 17)
    { src := fieldAt bs 64 4, body := bs.take 64, word := fieldAt bs 68 4, pred := fieldAt bs 72 4, acct := 0 }

/-- The `n` pairs of a CONFIG. -/
def readPairs : Nat → List Byte → List (Nat × Nat)
  | 0, _ => []
  | n + 1, bs => (fieldAt bs 0 4, fieldAt bs 4 4) :: readPairs n (bs.drop 8)

/-- What a frame of a TYPE to `dst` carries (R355): none where the TYPE is not listed, the payload has another length or a
reserved field is not 0. -/
def readMsg (type dst : Nat) (bs : List Byte) : Option RingMsg :=
  let n := bs.length
  match type with
  | 0x01 => (readBeacon bs).map .beacon
  | 0x02 => (readClose bs).map .close
  | 0x03 => given (n = 16 && fieldAt bs 4 4 = 0) (.endrun (fieldAt bs 0 4) (fieldAt bs 8 8))
  | 0x04 => (readVoid bs).map .void
  | 0x05 => (readVoid bs).map .voidrep
  | 0x06 => (readMirror bs).map .mirror
  | 0x07 => given (n = 12) (.watermark (fieldAt bs 0 4) (fieldAt bs 4 4) (fieldAt bs 8 4))
  | 0x08 => given (n = 4) (.mirack (fieldAt bs 0 4))
  | 0x09 => given (n = 8) (.mirreq (fieldAt bs 0 4) (fieldAt bs 4 4))
  | 0x0A => given (n = 4) (.probe (fieldAt bs 0 4))
  | 0x0B => given (n = 4) (.probeans (fieldAt bs 0 4))
  | 0x0C => given (n = 0) .relinquish
  | 0x0D => given (n = 4) (.swapreq (fieldAt bs 0 4))
  | 0x0E => given (n = 4 || (n = 8 && fieldAt bs 4 4 = 0)) (.swapack (fieldAt bs 0 4) (n = 4))
  | 0x10 => (readMessage dst bs).map .msg
  | 0x11 => given (n = 8 && fieldAt bs 1 3 = 0) (.msgstat (fieldAt bs 0 1) (fieldAt bs 4 4))
  | 0x18 => given (n = 4) (.stopreq (fieldAt bs 0 4))
  | 0x19 => given (n = 4 && fieldAt bs 3 1 = 0) (.stopnow (fieldAt bs 0 2) (fieldAt bs 2 1))
  | 0x20 => given (n = 24 && fieldAt bs 10 2 = 0)
      (.hello (fieldAt bs 0 8) (fieldAt bs 8 1) (fieldAt bs 9 1) (fieldAt bs 12 4) (fieldAt bs 16 4) (fieldAt bs 20 4))
  | 0x21 => given (n = 20 && fieldAt bs 10 2 = 0)
      (.assign (fieldAt bs 0 8) (fieldAt bs 8 1) (fieldAt bs 9 1) (fieldAt bs 12 4) (fieldAt bs 16 4))
  | 0x22 => given (n % 8 = 0) (.config (readPairs (n / 8) bs))
  | 0x23 => given (n = 8) (.dlyprobe (fieldAt bs 0 8))
  | 0x24 => given (n = 8) (.dlyecho (fieldAt bs 0 8))
  | 0x3F => given (n = 4 && fieldAt bs 0 4 < 2 ^ 17) (.linkctl (fieldAt bs 0 2) (2 ^ 16 ≤ fieldAt bs 0 4))
  | _ => none

/-- The header of a frame received on direction `d`, before its checks (R354). -/
def readHdr (d : Nat) (bs : List Byte) : Hdr :=
  { dir := d, dst := if (fieldAt bs 1 1).testBit 0 then none else some (fieldAt bs 8 3 % 2 ^ 17), term := fieldAt bs 4 4,
    src := fieldAt bs 11 1, lseq := fieldAt bs 12 2, hops := fieldAt bs 2 1, wrapped := (fieldAt bs 1 1).testBit 1,
    err := .none }

/-- The reserved bits of a header are 0, DST is 0 in a broadcast, and PLEN is the length of the payload, at most 32 words
(R354). -/
def hdrFits (bs : List Byte) : Bool :=
  fieldAt bs 1 1 < 4 && fieldAt bs 8 3 < 2 ^ 17 && fieldAt bs 14 2 = 0 && (! (fieldAt bs 1 1).testBit 0 || fieldAt bs 8 3 = 0)
    && fieldAt bs 3 1 ≤ 32 && bs.length = 20 + 4 * fieldAt bs 3 1

/-- The CRC-32C in the last four bytes is that of the rest (R354). -/
def frameCrcOk (bs : List Byte) : Bool :=
  20 ≤ bs.length && crc32c (bs.take (bs.length - 4)) = ofLe (bs.drop (bs.length - 4))

/-- The bytes of a frame received on direction `d`: the header with what the checks find, and what the frame carries. With
them the frame is the command of its TYPE; a frame with a wrong CRC or a wrong form carries nothing and, as whatever command
it comes, does nothing but what the checks lead to (R355, R357). -/
def readFrame (d : Nat) (bs : List Byte) : Hdr × Option RingMsg :=
  let h := readHdr d bs
  if ! frameCrcOk bs then ({ h with err := .crc }, none)
  else match if hdrFits bs then readMsg (fieldAt bs 0 1) (h.dst.getD 0) ((bs.drop 16).take (bs.length - 20)) else none with
    | some m => (h, some m)
    | none => ({ h with err := .form }, none)

end Sys2Proof.Machine
end

