-- ==== Sys2Proof/Machine/RingOps.lean ====
section
/-! DEFINITION. Receiving a ring frame (R355 to R357): hop order and acknowledgement, TERM, and a Manager's retirement
on a higher TERM (R325). -/

namespace Sys2Proof.Machine

/-- The node releases its paired outputs and becomes Retired (R18, R325): OUTEN clears, the run of its role ends. -/
def State.retire (s : State) : State :=
  ((s.setOff GLB_DRVEN_OUTEN).setFld GLB_ROLE_ROLE 4).setOff FLT_MIRSTAT_TKARMED

/-- The Manager's view of an armed Standby: one is confirmed, has been sent the whole snapshot, and answers the watermarks of
each microsecond (R321, R322): a Standby that follows no stream answers none. For want of a figure 10 µs, 8,000 teller
cycles, without a MIRACK count as silence. DESIGN CHOICE (log entry 77). -/
def State.standbyArmed (s : State) : Bool :=
  s.hasStandby && s.mirror.snapshot && s.time.cycles ≤ s.mirror.ackAt + 8000

/-- RELINQUISH: a one-sided hand-over to the armed Standby: the frame on both directions, and the Manager is Retired
(R324, R325). -/
def State.relinquish (s : State) : State := (s.ringBoth none .relinquish).retire

/-- A frame discarded as a violation of its ring peer: RNG_VIOL and the peer's record (R331, R355). -/
def State.ringViolation (s : State) (h : Hdr) : State :=
  (s.inc RNG_VIOL_COUNT).violation (0x100 + h.dir) (s.flag RNG_EVACCT_EN) (s.fld RNG_EVACCT_ACCT)

/-- The TERM of a received frame: below the node's own it is counted and discarded, unless its TYPE has no such check; a
Manager that sees a higher one retires (R325, R355). -/
def State.rxTerm (s : State) (h : Hdr) (anyTerm : Bool) : State × Bool :=
  let own := s.fld GLB_TERM_TERM
  if ¬ anyTerm ∧ h.term < own then (s.ringViolation h, false)
  else if s.isManager ∧ h.term > own then (s.retire, false)
  else (s, true)

/-- A frame with a wrong CRC: a numbered one is answered with a NAK, and is a violation when it was the retransmission; a
beacon is only missing (R355, R357). DEDUCED (log entry 75). -/
def State.rxBad (s : State) (h : Hdr) : State :=
  let l := s.link h.dir
  if h.lseq = 0xFFFF then s
  else
    let s1 := (s.setLink h.dir { l with nakked := true }).linkctlOut (1 - h.dir) l.nextIn true
    if l.nakked then s1.ringViolation h else s1

/-- A good numbered frame out of its place is discarded; one that has been accepted before is answered with an ACK again, since
the first may have been lost (R357). DEDUCED (log entry 75). -/
def State.rxAgain (s : State) (h : Hdr) : State :=
  let back := ((s.link h.dir).nextIn + 0xFFFF - h.lseq) % 0xFFFF
  if 1 ≤ back ∧ back < 0x8000 then s.linkctlOut (1 - h.dir) h.lseq false else s

/-- A received frame passes its checks, or the state after it was discarded. A numbered frame is accepted only with
the next LSEQ of its link and is answered with LINKCTL; a reserved field or 64 HOPS is a violation (R355, R357). The LSEQ
0xFFFF marks a frame that is not numbered. -/
def State.rxFrame (s : State) (h : Hdr) (anyTerm : Bool) : State × Bool :=
  let l := s.link h.dir
  let numbered : Bool := h.lseq ≠ 0xFFFF
  if s.isOff ∨ ¬ s.ringRuns then (s, false)
  else if h.err = .crc then (s.rxBad h, false)
  else if numbered ∧ h.lseq ≠ l.nextIn then (s.rxAgain h, false)
  else
    let s1 := if numbered then
        (s.setLink h.dir { l with nextIn := (l.nextIn + 1) % 0xFFFF, nakked := false }).linkctlOut (1 - h.dir) h.lseq false
      else s
    if h.err = .form ∨ 64 ≤ h.hops then (s1.ringViolation h, false) else s1.rxTerm h anyTerm

/-- The frame is the node's own, come back. -/
def State.ownReturn (s : State) (h : Hdr) : Bool := h.src = s.node && s.role ≠ 0

/-- A frame goes on in its direction with one more hop, a numbered one with the LSEQ of the link it leaves on; one that
reaches 64 HOPS is discarded and counted (R355 to R357). DEDUCED (log entry 75). -/
def State.relay (s : State) (h : Hdr) (m : RingMsg) : State :=
  let f : RingFrame := ⟨h.dst, h.src, h.term, h.hops + 1, h.wrapped, h.lseq, m⟩
  if 64 ≤ h.hops + 1 then s.ringViolation h
  else if h.lseq = 0xFFFF then s.rawOut h.dir f
  else s.frameOut h.dir f

/-- A broadcast frame goes on in its direction; the source strips its own (R356). -/
def State.forward (s : State) (h : Hdr) (m : RingMsg) : State := if s.ownReturn h then s else s.relay h m

/-- A unicast that comes back to its source undelivered: a message is answered as NOENDPOINT (R356).
DEDUCED (log entry 75). -/
def State.undelivered (s : State) (h : Hdr) : RingMsg → State
  | .msg m => ((s.inc RNG_NOEP_COUNT).msgDone m.src (h.dst.getD 0)).msgFail m.src (h.dst.getD 0) stNoEndpoint
  | _ => s

/-- The frame is for this node: a broadcast, or a unicast to one of its endpoints. -/
def State.frameHere (s : State) (h : Hdr) : Bool :=
  match h.dst with
  | none => true
  | some ep => s.role ≠ 0 && ep / 4096 = s.node

/-- What a node does with an accepted frame: a broadcast goes on around the ring and acts; a unicast acts at its
destination alone (R356). DEDUCED (log entry 75). -/
def State.onFrame (s : State) (h : Hdr) (m : RingMsg) (body : State → State) : State :=
  let (s1, ok) := s.rxFrame h false
  if ¬ ok then s1
  else if h.dst.isNone then body (s1.forward h m)
  else if s1.frameHere h then body s1
  else if s1.ownReturn h then s1.undelivered h m
  else s1.relay h m

/-- A frame to the neighbour only: it is not forwarded (R355). -/
def State.nearFrame (s : State) (h : Hdr) (body : State → State) : State :=
  let (s1, ok) := s.rxFrame h false
  if ok then body s1 else s1

end Sys2Proof.Machine
end

