-- ==== Sys2Proof/Machine/Mint.lean ====
section
/-! DEFINITION. The Mint tile codec: tile headers (R203), the coded body (R204), the greedy coder (R205) and the decoder
with its checks (R206). A line is a list of 4,096 levels; a tile's original is 65,536 bytes (R202). -/

namespace Sys2Proof.Machine

/-! Packing (R202). -/

/-- Levels packed two to a byte, the even pixel in the low nibble; an odd last one has a zero high nibble. -/
def packLevels : List Nat → List Byte
  | a :: b :: ls => BitVec.ofNat 8 (a % 16 + 16 * (b % 16)) :: packLevels ls
  | [a] => [BitVec.ofNat 8 (a % 16)]
  | [] => []

/-- The levels of packed bytes. -/
def unpackLevels : List Byte → List Nat
  | [] => []
  | b :: bs => b.toNat % 16 :: b.toNat / 16 :: unpackLevels bs

/-! The decoder. -/

/-- A run length: `t` is the token's header byte, `bs` what follows; the length and the rest. -/
def tokenLen (t : Nat) (bs : List Byte) : Option (Nat × List Byte) :=
  if t / 32 % 2 = 0 then some (t % 32 + 1, bs)
  else match bs with
    | [] => none
    | b :: bs => some (t % 32 * 256 + b.toNat + 1, bs)

/-- The levels of a LITERAL of `n` pixels and the rest; an odd run's last high nibble must be 0. -/
def literal (n : Nat) (bs : List Byte) : Option (List Nat × List Byte) :=
  let k := (n + 1) / 2
  if bs.length < k then none
  else
    let ls := unpackLevels (bs.take k)
    if n % 2 = 1 ∧ ls.getD n 0 ≠ 0 then none else some (ls.take n, bs.drop k)

/-- One token at pixel `x`: the levels it gives and the rest of the body. -/
def token (prev : List Nat) (x : Nat) : List Byte → Option (List Nat × List Byte)
  | [] => none
  | t :: bs =>
    match tokenLen t.toNat bs with
    | none => none
    | some (n, rest) =>
      if t.toNat / 64 = 3 ∨ x + n > 4096 then none
      else if t.toNat / 64 = 0 then some ((prev.drop x).take n, rest)
      else if t.toNat / 64 = 1 then
        match rest with
        | [] => none
        | v :: rest => if v.toNat > 15 then none else some (List.replicate n v.toNat, rest)
      else literal n rest

/-- The tokens of one line, which cover pixels 0 to 4,095 exactly; `fuel` bounds them. -/
def decodeLine (prev : List Nat) (x : Nat) (bs : List Byte) : Nat → Option (List Nat × List Byte)
  | 0 => if x = 4096 then some ([], bs) else none
  | fuel + 1 =>
    if x = 4096 then some ([], bs)
    else match token prev x bs with
      | none => none
      | some (ls, rest) =>
        match decodeLine prev (x + ls.length) rest fuel with
        | none => none
        | some (more, rest') => some (ls ++ more, rest')

/-- The lines of a body, which must end with the last one (R204). -/
def decodeLines (prev : List Nat) (bs : List Byte) : Nat → Option (List Byte)
  | 0 => if bs = [] then some [] else none
  | n + 1 =>
    match decodeLine prev 0 bs 4096 with
    | none => none
    | some (ls, rest) =>
      match decodeLines ls rest n with
      | none => none
      | some out => some (packLevels ls ++ out)

/-- A line at level 0. -/
def blankLine : List Nat := List.replicate 4096 0

/-- A stored tile decoded and checked against the table entry that names it (R206). -/
def decodeTile (bs : List Byte) (size frame stn row col : Nat) : Option (List Byte) :=
  let h := bs.take 64
  let f (k n : Nat) : Nat := ofLe ((h.drop k).take n)
  let body := f 4 4
  let b := (bs.drop 64).take body
  let raw : Bool := f 3 1 = 1
  if bs.length < 64 ∨ f 0 2 ≠ 0x544D ∨ f 2 1 ≠ 1 ∨ f 3 1 > 1 ∨ f 18 1 / 16 ≠ 0 ∨ f 19 1 ≠ 0 ∨ f 24 36 ≠ 0 then none
  else if crc32c (h.take 60) ≠ f 60 4 then none
  else if f 8 4 ≠ frame ∨ f 18 1 ≠ stn ∨ f 12 4 ≠ row ∨ f 16 2 ≠ col then none
  else if size ≠ (64 + body + 15) / 16 ∨ b.length ≠ body then none
  else
    let out := if raw then (if body = 65536 then some b else none)
      else if body = 0 ∨ body ≥ 65536 then none
      else decodeLines blankLine b 32
    match out with
    | none => none
    | some o => if crc32c o = f 20 4 then some o else none

/-! The coder (R205). -/

/-- The COPY run that starts here. -/
def copyRun : List Nat → List Nat → Nat
  | a :: as, b :: bs => if a = b then copyRun as bs + 1 else 0
  | _, _ => 0

/-- How many leading levels equal `v`. -/
def sameRun (v : Nat) : List Nat → Nat
  | a :: as => if a = v then sameRun v as + 1 else 0
  | [] => 0

/-- The REPEAT run that starts here. -/
def repeatRun : List Nat → Nat
  | [] => 0
  | a :: as => sameRun a as + 1

/-- Pixels up to the first at which a COPY or REPEAT run reaches 4, or to the end of the line. -/
def literalRun : List Nat → List Nat → Nat
  | a :: as, b :: bs =>
    if copyRun (a :: as) (b :: bs) ≥ 4 ∨ repeatRun (a :: as) ≥ 4 then 0 else literalRun as bs + 1
  | _, _ => 0

/-- A token's header byte and length byte. -/
def tokenHead (op n : Nat) : List Byte :=
  if n ≤ 32 then [BitVec.ofNat 8 (op * 64 + (n - 1))]
  else [BitVec.ofNat 8 (op * 64 + 32 + (n - 1) / 256), BitVec.ofNat 8 ((n - 1) % 256)]

/-- The rest of a line coded greedily against the rest of the line above; `fuel` bounds the tokens. -/
def codeLine (cur prev : List Nat) : Nat → List Byte
  | 0 => []
  | fuel + 1 =>
    if cur = [] then []
    else
      let c := copyRun cur prev
      let r := repeatRun cur
      if c ≥ 4 ∧ c ≥ r then tokenHead 0 c ++ codeLine (cur.drop c) (prev.drop c) fuel
      else if r ≥ 4 then
        tokenHead 1 r ++ BitVec.ofNat 8 (cur.headD 0) :: codeLine (cur.drop r) (prev.drop r) fuel
      else
        let l := literalRun cur prev
        tokenHead 2 l ++ packLevels (cur.take l) ++ codeLine (cur.drop l) (prev.drop l) fuel

/-- The lines of a tile coded one after another. -/
def codeLines (prev : List Nat) : List (List Nat) → List Byte
  | [] => []
  | l :: ls => codeLine l prev 4096 ++ codeLines l ls

/-- A tile's header (R203). -/
def tileHeader (raw : Bool) (body frame stn row col crc : Nat) : List Byte :=
  let h := leBytes 2 0x544D ++ leBytes 1 1 ++ leBytes 1 (if raw then 1 else 0) ++ leBytes 4 body ++ leBytes 4 frame
    ++ leBytes 4 row ++ leBytes 2 col ++ leBytes 1 stn ++ leBytes 1 0 ++ leBytes 4 crc ++ List.replicate 36 0
  h ++ leBytes 4 (crc32c h)

/-- A tile as it is stored: nothing for a blank one, else whether it is raw, and its header and body (R205). -/
def codeTile (forceRaw : Bool) (lines : List (List Nat)) (frame stn row col : Nat) : Option (Bool × List Byte) :=
  if lines.all fun l => l.all fun v => v = 0 then none
  else
    let orig := lines.flatMap packLevels
    let coded := codeLines blankLine lines
    let raw : Bool := forceRaw || decide (coded.length ≥ 65536)
    let body := if raw then orig else coded
    some (raw, tileHeader raw body.length frame stn row col (crc32c orig) ++ body)

end Sys2Proof.Machine
end

