-- ==== Sys2Proof/Machine/Store.lean ====
section
/-! DEFINITION. The raster store: label and format (R196), extents (R199), prefetch (R207, R208), completions, retries
and losses (R209), drive faults and violations (R210, R211), tile decoding (R206). -/

namespace Sys2Proof.Machine

/-! The label (R196). -/

/-- The namespace a drive is used by: that of STO_DRVn.NSID, or with 0 the lowest active one (R197). -/
def State.namespaceOf (s : State) (d : Nat) (i : DriveId) : Option Namespace :=
  let want := s.fld (STO_NSID_NSID d)
  if want ≠ 0 then i.spaces.find? fun x => x.nsid = want
  else i.spaces.foldl (fun best x => match best with
    | some y => if x.nsid < y.nsid then some x else some y
    | none => some x) none

/-- The LBA formats used: 512 or 4,096 bytes, no metadata (R197). -/
def nsOk (x : Sys2Proof.Namespace) : Bool := (x.lba = 512 || x.lba = 4096) && x.meta_ = 0

/-- What Identify and Set Features show of a drive is taken: units, LBA size, queue pairs, transfer size, identity. -/
def State.identify (s : State) (d : Nat) (i : DriveId) (x : Namespace) : State :=
  let s1 := (s.setFld (STO_DRVUNITS_UNITS d) (x.bytes / unitBytes)).setBool (STO_DRV_LBA4K d) (x.lba = 4096)
  s1.setStore { s1.store with
    drvIdent := tabSet 0 s1.store.drvIdent d i.ident, drvGrant := tabSet 0 s1.store.drvGrant d (min i.queues 16)
    drvMax := tabSet 0 s1.store.drvMax d i.maxData }

/-- A drive comes on line with the queue pairs it granted (R198). -/
def State.driveOnline (s : State) (d : Nat) : State :=
  (s.setFld (STO_DRV_STATE d) 1).setFld (STO_DRV_QUEUES d) (tabGet 0 s.store.drvGrant d)

/-- One drive as it answers: absent, unsupported, or on line (R196 to R198). A drive without the namespace named is
unsupported. DESIGN CHOICE (log entry 71). -/
def State.bindDrive (s : State) (d : Nat) (x : Option DriveId) : State :=
  match x with
  | none => (s.setFld (STO_DRV_STATE d) 0).setFld (STO_DRVUNITS_UNITS d) 0
  | some i => match s.namespaceOf d i with
    | none => (s.setFld (STO_DRV_STATE d) 3).setFld (STO_DRVUNITS_UNITS d) 0
    | some n => if nsOk n then (s.identify d i n).driveOnline d else (s.identify d i n).setFld (STO_DRV_STATE d) 3

/-- The bound drives below `d`. -/
def State.bindDrives (s : State) (ds : List DriveId) : Nat → State
  | 0 => s
  | d + 1 => (s.bindDrives ds d).bindDrive d (ds[d]?)

/-- The smallest namespace of the bound drives, in whole units. -/
def State.minUnits (s : State) : Nat → Nat
  | 0 => 2 ^ 48
  | d + 1 => min (s.minUnits d) (s.fld (STO_DRVUNITS_UNITS d))

/-- STO_CAPUNITS (R196). -/
def State.capUnits (s : State) : Nat :=
  let nd := s.fld STO_CTL_NDRV
  min (2 ^ 24) ((if s.flag STO_CTL_MIRROR then nd / 2 else nd) * s.minUnits nd)

/-- The identities of the bound drives. -/
def State.idents (s : State) : List Nat :=
  (List.range (s.fld STO_CTL_NDRV)).map fun d => tabGet 0 s.store.drvIdent d

/-- The label the bound drives should carry (R196). -/
def State.label (s : State) : Label := ⟨s.fld STO_CTL_NDRV, s.flag STO_CTL_MIRROR, s.idents⟩

/-- STO_CTL.EN set: the drives are identified, the label read and compared (R196). DEDUCED (log entry 40). -/
def State.storeEnable (s : State) (ds : List DriveId) (label : Option Label) : State :=
  let nd := s.fld STO_CTL_NDRV
  let s1 := (s.setOn STO_CTL_EN).bindDrives ds nd
  let s2 := (s1.setFld STO_CAPUNITS_UNITS s1.capUnits).syncFree
  let match_ : Bool := label = some s2.label && (List.range nd).all fun d => s2.driveOn d
  if match_ then ((s2.setOn STO_STATUS_READY).setOff STO_STATUS_LABELERR).pump
  else (s2.setOff STO_STATUS_READY).setOn STO_STATUS_LABELERR

/-- STORE_ENABLE: the drives and the label answer after a write of STO_CTL.EN = 1, or after a wake from Dormant
re-initialises the drives (R196, R392). -/
def execStoreEnable (drives : List DriveId) (label : Option Label) (s : State) : Host.Outcome State Fault Refusal :=
  .next (if s.isOff then s else if s.flag STO_CTL_EN ∧ (s.flag STO_STATUS_READY ∨ s.flag STO_STATUS_LABELERR) then s
    else s.storeEnable drives label)

/-- An extent is in use while it fills, is being released, or is referenced. -/
def Extent.inUse (e : Extent) : Bool := e.state = 2 || e.state = 4 || e.refs ≠ 0

/-- STO_FORMAT: with the key, EN = 1 and no extent in use a new label is written and every unit is free (R196, R213).
DEDUCED (log entry 40). -/
def State.storeFormat (s : State) (key : Nat) : State :=
  if key = 0xF04D ∧ s.flag STO_CTL_EN ∧ ¬ s.store.extents.any (fun e => e.2.inUse) then
    let s1 := (s.setStore { s.store with extents := [] }).syncFree
    (((s1.setOff STO_STATUS_LABELERR).setOn STO_STATUS_READY).emit
      (.port "label" 0 (s.fld STO_CTL_NDRV :: s.fld STO_CTL_MIRROR :: s.idents))).pump
  else s.setOn STO_STATUS_CFGERR

/-- STO_FORMAT (R196). -/
def execStoFormat (key : Nat) (s : State) : Host.Outcome State Fault Refusal := .next (if s.isOff then s else s.storeFormat key)

/-! Extents (R199). -/

/-- RESERVE of `n` units at `at0` (0: anywhere) for an account: status, extent and base unit. A store off line has no unit
to give and answers NOSPACE. DESIGN CHOICE (log entry 71). With no such run free and 65,536 extents in use the reply is
NOSPACE, which R199 names first. DESIGN CHOICE (log entry 77). -/
def State.reserveDo (s : State) (acct n at0 : Nat) : Nat × Nat × Nat × State :=
  let cap := s.fld STO_CAPUNITS_UNITS
  let exts := s.store.extents
  if n = 0 ∨ n ≥ 2 ^ 24 ∨ n ≥ cap ∨ (at0 ≠ 0 ∧ at0 + n > cap) then (stBadArg, 0, 0, s)
  else if ¬ s.flag STO_STATUS_READY then (stNoSpace, 0, 0, s)
  else
    let used := unitRuns exts
    let run := if at0 = 0 then findRun used cap n 1 (used.length + 1)
      else if (runBlocked at0 n used).isNone then some at0 else none
    match run with
    | none => (stNoSpace, 0, 0, s)
    | some b =>
      if exts.length ≥ 65536 then (stBusy, 0, 0, s) else
      let i := freeId exts 0 exts.length
      (stOk, i, b, (s.setExtent i ⟨b, n, 1, acct, 0⟩).syncFree)

/-- RELEASE of an extent by an account (R199). -/
def State.releaseDo (s : State) (acct i : Nat) : Nat × State :=
  let e := s.extent i
  if e.state = 0 ∨ e.owner ≠ acct then (stBadArg, s)
  else if e.state = 2 ∨ e.refs ≠ 0 then (stBusy, s)
  else if e.state = 4 then (stOk, s)
  else (stOk, s.extRelease i)

/-- RELEASE_COMPLETE: deallocation is complete, with no command of the extent under way: the units and the identifier are
free (R199). -/
def execReleaseComplete (ext : Nat) (s : State) : Host.Outcome State Fault Refusal :=
  .next (if s.isOff then s
    else if (s.extent ext).state = 4 ∧ ¬ s.extBusy ext (fun o => o ≠ .read) then (s.setExtent ext Extent.none).syncFree
    else s)

/-! The frame table at release (R127, R128, R207). -/

/-- Entry `i` of a frame table: store address and size in units of 16 bytes. -/
def tableEntry (bs : List Byte) (i : Nat) : Nat := ofLe ((bs.drop (64 + 8 * i)).take 8)
def entryAddr (e : Nat) : Nat := e % 2 ^ 48 / 16 * 16
def entrySize (e : Nat) : Nat := e / 2 ^ 48

/-- Entries `i − 1` down to 0 are blank, or well-formed and in SEALED extents. -/
def State.entriesOk (s : State) (bs : List Byte) : Nat → Bool
  | 0 => true
  | i + 1 =>
    let e := tableEntry bs i
    (e = 0 || (e % 16 = 0 && 1 ≤ entrySize e && entrySize e ≤ 4100 && s.inSealed (entryAddr e) (16 * entrySize e))) &&
      s.entriesOk bs i

/-- A frame table passes R127, R128 and R207 for a frame, length and station. -/
def State.tableOk (s : State) (bs : List Byte) (d : Desc) (stn : Nat) : Bool :=
  let f (k n : Nat) : Nat := ofLe ((bs.drop k).take n)
  let w := 12992 * tabGet 0 s.esc.modPos stn
  let cols := (w + 4095) / 4096
  let rows := (d.length + 31) / 32
  f 0 4 = 0x42415446 && f 4 4 = d.frame && f 8 3 = d.length && f 11 1 = stn && f 12 1 = cols && f 13 3 = 0 &&
    f 16 4 = rows && f 20 36 = 0 && rows * cols ≤ 262144 && bs.length = 64 + 8 * (rows * cols) &&
    f 56 4 = crc32c (bs.drop 64) && f 60 4 = crc32c (bs.take 60) && s.inSealed (d.table stn * unitBytes) bs.length &&
    s.entriesOk bs (rows * cols)

/-- The extents that hold a table or any of its tiles, entries `i − 1` down to 0, added to a list. -/
def State.tableExtents (s : State) (bs : List Byte) (acc : List Nat) : Nat → List Nat
  | 0 => acc
  | i + 1 =>
    let e := tableEntry bs i
    let acc' := match extentOf (entryAddr e) (16 * entrySize e) s.store.extents with
      | some (x, _) => if e = 0 then acc else insertNat x acc
      | none => acc
    s.tableExtents bs acc' i

/-- Row 0's deadline moves by 32 lines a row: D = x + Δn + 32r − STO_PFGUARD (R208). -/
def State.rowDeadline (s : State) (r : SlotRec) (stn row : Nat) : Nat :=
  r.x + r.geo.lag stn + 32 * row - s.fld STO_PFGUARD_VALUE

/-- The tile columns this node's ports of a station need (R162). -/
def State.needsCol (s : State) (stn c : Nat) : Bool :=
  (s.portsOf stn).any fun n => colFrom (s.portPos n) ≤ c && c ≤ colTo (s.portPos n)

/-- The tiles of a table that this node needs join the list: entries `i − 1` down to 0. -/
def State.addTiles (s : State) (bs : List Byte) (k stn cols : Nat) (r : SlotRec) : Nat → State
  | 0 => s
  | i + 1 =>
    let e := tableEntry bs i
    let s1 := s.addTiles bs k stn cols r i
    if e = 0 ∨ ¬ s.needsCol stn (i % cols) then s1
    else s1.addTile ⟨k, stn, i / cols, i % cols, false⟩ (s.rowDeadline r stn (i / cols)) (entryAddr e) (16 * entrySize e)

/-- The references a release takes on extents for its slot (R199). -/
def State.takeRefs (s : State) (k : Nat) (exts : List Nat) : State :=
  let held := tabGet [] s.store.slotRefs k
  let new := exts.filter fun i => ! held.contains i
  (s.setStore { s.store with slotRefs := tabSet [] s.store.slotRefs k (held ++ new) }).refsBy true new

/-- The bytes of a station's frame table for a slot (R127, R128). -/
def State.tableLen (s : State) (d : Desc) (stn : Nat) : Nat :=
  64 + 8 * min 262144 ((d.length + 31) / 32 * ((12992 * tabGet 0 s.esc.modPos stn + 4095) / 4096))

/-- The read of a slot's table at a station begins: its deadline is that of row 0, its extent is referenced (R199, R207,
R208). -/
def State.fetchTable (s : State) (k stn : Nat) : State :=
  let r := s.slot k
  let addr := r.desc.table stn * unitBytes
  let len := s.tableLen r.desc stn
  let own := match extentOf addr len s.store.extents with
    | some (x, _) => [x]
    | none => []
  ((s.takeRefs k own).addTile ⟨k, stn, 0, 0, true⟩ (s.rowDeadline r stn 0) addr len).syncOutstand

/-- A table has come whole: if it is valid, references are taken and the prefetch of its tiles starts, else the slot is
void with TABLE (R199, R207). -/
def State.tableCame (s : State) (t : Tile) : State :=
  let k := t.key.slot
  let stn := t.key.stn
  let bs := s.tileBytes t
  let s1 := s.dropTiles (fun x => x = t.key) true
  let r := s1.slot k
  if s1.tableOk bs r.desc stn then
    let cols := ofLe ((bs.drop 12).take 1)
    let n := ofLe ((bs.drop 16).take 4) * cols
    ((s1.takeRefs k (s1.tableExtents bs [] n)).addTiles bs k stn cols r n).syncOutstand
  else s1.voidReportNew k stn rsTable

/-! Fetches. -/

/-- Waiting pieces adjacent behind a byte of a drive's address space, up to `room` bytes (R198). -/
def State.adjacent (s : State) (d byte room : Nat) : Nat → List Fetch
  | 0 => []
  | fuel + 1 =>
    match s.store.fetches.find? (fun f => ! f.sent && s.driveOf f.addr = d && s.driveByte f.addr = byte) with
    | some f => if f.len ≤ room then f :: s.adjacent d (byte + f.len) (room - f.len) fuel else []
    | none => []

/-- An audit of a drive runs (R298). -/
def State.driveAudited (s : State) (d : Nat) : Bool :=
  (List.range 16).any fun i => s.fld (AUD_STATE_STATE i) = 2 && s.fld (AUD_CODE_CODE i) = 0x600 + d

/-- The drive a Read goes to first: of a mirrored pair, one that is on line and under no audit, and of two such a free
choice, since the manual names none (R196, R298). -/
def State.readFirst (s : State) (d : Nat) : Nat × State :=
  let ok (d : Nat) : Bool := s.driveOn d && ! s.driveAudited d
  if ¬ s.flag STO_CTL_MIRROR then (d, s)
  else if ok d && ok (d + 1) then
    let (v, s1) := s.free 2
    (d + v, s1)
  else if ok (d + 1) ∨ (s.driveOn (d + 1) ∧ ¬ s.driveOn d) then (d + 1, s)
  else (d, s)

/-! Losses (R209). -/

/-- Slots and stations a lost Read hits, each once with its lowest row. -/
def addLost (k : TileKey) : List (Nat × Nat × Nat) → List (Nat × Nat × Nat)
  | [] => [(k.slot, k.stn, k.row)]
  | (a, b, r) :: l => if a = k.slot ∧ b = k.stn then (a, b, min r k.row) :: l else (a, b, r) :: addLost k l

/-- A Read is lost: LOST, one lost command, its pieces will not come, and each slot it was for is void with STORE from the
first line of its lowest row on, with the Read's incident (R209). -/
def State.readLost (s : State) (incident : Nat) (fs : List Fetch) : State :=
  let keys := fs.map (·.key)
  let s0 := (s.setStore { s.store with fetches := s.store.fetches.filter fun f => ! fs.contains f }).syncOutstand
  let s1 := (s0.raiseWith 9 16 (if incident = 0 then none else some incident)).inc STO_LOSTCNT_COUNT
  let inc := if incident = 0 then s1.incOf 9 else incident
  (keys.foldr addLost []).foldl (fun s x => s.voidReport x.1 x.2.1 rsStore inc (32 * x.2.2)) s1

/-- An ingest fails with a reason: INGEST_FAIL, its extent is released (R201). -/
def State.ingestFail (s : State) (ext code : Nat) : State :=
  match tabGet none s.store.ingests ext with
  | none => s
  | some g =>
    let s1 := s.setStore { s.store with
      ingests := tabSet none s.store.ingests ext none
      waiting := s.store.waiting.filter fun c => ! (c.ext = ext && (c.op = .write || c.op = .flush)) }
    (s1.extRelease ext).post g.acct 0x321 code 0 0

/-- A command is lost: a Read by `readLost`; a Write, or a Flush like it, fails its ingest with WRITE; a Deallocate has no
more effect than the count. DESIGN CHOICE for the last two (log entry 71). -/
def State.lose (s : State) (c : Nvme) : State :=
  match c.op with
  | .read => s.readLost c.incident (s.piecesLeft c)
  | .write | .flush => (s.inc STO_LOSTCNT_COUNT).ingestFail c.ext 4
  | .dealloc => s.inc STO_LOSTCNT_COUNT

/-- A command for a drive: to it when it is on line; else a Read or Write fails at once and goes to the other drive of a
mirrored pair, or is lost (R209, R210). -/
def State.command (s : State) (c : Nvme) : State :=
  if s.driveOn c.drive then s.offer c
  else if s.flag STO_CTL_MIRROR ∧ s.driveOn (mirrorOf c.drive) ∧ (c.op = .read ∨ c.op = .write) then
    s.offer { c with drive := mirrorOf c.drive }
  else if s.wanted c then s.lose c
  else s

/-- Bytes are written to an extent at a store address, piece by piece to their drives, on a mirrored pair to each of the
two that is on line (R196, R201). -/
def State.storeWrite (s : State) (ext addr : Nat) (bs : List Byte) : State :=
  (s.piecesOf addr bs.length).foldl (fun s p =>
    let d := s.driveOf p.1
    let c : Nvme := ⟨.write, d, s.driveByte p.1, p.2, [], 0, ext, (bs.drop (p.1 - addr)).take p.2, 0, 0, false⟩
    if s.flag STO_CTL_MIRROR ∧ s.driveOn d ∧ s.driveOn (d + 1) then (s.offer c).offer { c with drive := d + 1 }
    else s.command c) s

/-- The pieces at the head of a list that a Read of `len` bytes can take on without leaving its run of the buffer: it
ends before the first that does not fit there (R198, R208). -/
def State.fitting (s : State) (place : Option Nat) (len : Nat) : List Fetch → List Fetch
  | [] => []
  | f :: fs => if s.bufPlace (len + f.len) = place then f :: s.fitting place (len + f.len) fs else []

/-- PREFETCH_ISSUE: while the bounds and the buffer leave room, the piece with the earliest deadline is read, merged with
the pieces adjacent to it, as far as the Read's size and the free run of the buffer allow (R198, R208). A Read that
waits to go out again and comes before it goes first. With no drive on line to read from, the Read fails at once
(R210). -/
def execPrefetchIssue (s : State) : Host.Outcome State Fault Refusal :=
  .next (
    if s.isOff then s else
    match firstPiece (s.store.fetches.filter fun f => ! f.sent) with
    | none => s
    | some t =>
      if ¬ s.flag STO_STATUS_READY then s
      else if s.store.waiting.any fun x => s.readBefore x t then s.pump
      else
      let byte := s.driveByte t.addr
      let (d, s1) := s.readFirst (s.driveOf t.addr)
      let c : Nvme := ⟨.read, d, byte, t.len, [(t.key, t.off)], 0, 0, [], 0, 0, false⟩
      let mark (s : State) (fs : List Fetch) : State := s.setStore { s.store with
        fetches := s.store.fetches.map fun f => if fs.contains f then { f with sent := true } else f }
      if ¬ s.driveOn d then (mark s1 [t]).command c
      else if ¬ s.mayGo c then s
      else
        let room := s.maxXfer (s.driveOf t.addr) - byte % 4096 - t.len
        let more := s.fitting (s.bufPlace t.len) t.len (s.adjacent (s.driveOf t.addr) (byte + t.len) room 8192)
        (mark s1 (t :: more)).offer { c with
          len := t.len + (more.map (·.len)).sum, pieces := (t :: more).map fun f => (f.key, f.off) })

/-! Completions (R209 to R211). -/

/-- A drive's violation: STO_VIOL, a STORE_VIOL record with a detail the manual does not give, and the interface's
report (R211, R331). DESIGN CHOICE (log entry 29). -/
def State.driveViol (s : State) (d : Nat) : State :=
  let (v, s1) := (s.inc STO_VIOL_COUNT).free (2 ^ 32)
  (s1.postIf STO_EVACCT_EN STO_EVACCT_ACCT 0x322 v 0 0).violation (0x400 + d) (s.flag STO_EVACCT_EN)
    (s.fld STO_EVACCT_ACCT)

/-- A command with an incident failed: counted, and STO_DRVFAIL of them in a row set DRIVEn, whose incident is that of the
command that failed last (R210, R316). -/
def State.driveFailed (s : State) (d incident : Nat) : State :=
  let n := tabGet 0 s.store.drvFail d + 1
  let s1 := (s.setStore { s.store with drvFail := tabSet 0 s.store.drvFail d n }).inc (STO_DRVERR_COUNT d)
  if n ≥ s1.fld STO_DRVFAIL_VALUE then s1.raiseWith 9 d (some incident) else s1

/-- The first failure of a command draws its incident (R209). -/
def State.withIncident (s : State) (c : Nvme) : Nvme × State :=
  if c.incident = 0 then
    let (i, s1) := s.newIncident
    ({ c with incident := i }, s1)
  else (c, s)

/-- The deadline of a Read has been reached: the earliest of its pieces (R208, R209). -/
def State.pastDeadline (s : State) (c : Nvme) : Bool :=
  (s.piecesLeft c).any fun f => decide (f.deadline * 2 ^ 16 ≤ s.wpos)

/-- A command has failed: it is retried within the budget, a Read only before its deadline, on the other drive of a
mirrored pair; else it is lost (R209). One that nothing waits for any more is neither. A Flush and a Deallocate, of
which R209 does not speak, are retried alike, so on a mirrored pair by the other drive. DESIGN CHOICE (log entry 77). -/
def State.cmdFailed (s : State) (c : Nvme) : State :=
  let (c1, s0) := s.withIncident c
  let s1 := s0.driveFailed c.drive c1.incident
  if ! s1.wanted c1 then s1
  else if c1.retries < s1.fld STO_RETRY_VALUE ∧ ¬ s1.pastDeadline c1 then
    s1.command { c1 with
      retries := c1.retries + 1, late := false, drive := if s1.flag STO_CTL_MIRROR then mirrorOf c1.drive else c1.drive }
  else s1.lose c1

/-- Parts of a tile in the order of its bytes. -/
def addPart (p : Nat × Nat × Nat) : List (Nat × Nat × Nat) → List (Nat × Nat × Nat)
  | [] => [p]
  | q :: l => if p.1 < q.1 then p :: q :: l else q :: addPart p l

/-- The pieces of a good Read lie in the DRAM buffer from its place on; the bytes outside them are discarded (R198,
R208). `data` begins at its first whole LBA. -/
def State.landPiece (s : State) (c : Nvme) (skip : Nat) (data : List Byte) (f : Fetch) : State :=
  let at0 := s.driveByte f.addr - c.byte
  let s1 : State := { s with dram := memPut s.dram (s.pfBase + c.place + at0) ((data.drop (skip + at0)).take f.len) }
  (s1.setStore { s1.store with fetches := s1.store.fetches.filter fun x => x ≠ f }).mapTile f.key fun t =>
    { t with parts := addPart (f.off, c.place + at0, f.len) t.parts }

/-- A Read has completed with good data: its pieces land, and a table that has come whole is checked. -/
def State.readCame (s : State) (c : Nvme) (data : List Byte) : State :=
  let skip := c.byte % (if s.flag (STO_DRV_LBA4K c.drive) then 4096 else 512)
  let s1 := ((s.piecesLeft c).foldl (fun s f => s.landPiece c skip data f) s).syncOutstand
  c.pieces.foldl (fun s p => match s.tileOf p.1 with
    | some t => if p.1.table ∧ t.whole then s.tableCame t else s
    | none => s) s1

/-- A finished stage of an ingest's end brings the next one once its Writes and Flushes are complete: after the table a
Flush to every drive that holds the extent, after the Flush the seal and INGEST_DONE with the number of 4,096-byte blocks
used (R201). A drive off line whose mirror partner is not fails the ingest with WRITE, as a lost Flush does.
DESIGN CHOICE (log entry 71). -/
def State.ingestNext (s : State) (ext : Nat) : State :=
  match tabGet none s.store.ingests ext with
  | none => s
  | some g =>
    if ¬ s.writesDone ext then s
    else match g.at_ with
      | .lines => s
      | .table =>
        let s1 := s.setStore { s.store with ingests := tabSet none s.store.ingests ext (some { g with at_ := .flush }) }
        (s.drivesOf (s.extent ext)).foldl (fun s d =>
          let c : Nvme := ⟨.flush, d, 0, 0, [], 0, ext, [], 0, 0, false⟩
          if ¬ s.driveOn d ∧ s.flag STO_CTL_MIRROR ∧ s.driveOn (mirrorOf d) then s else s.command c) s1
      | .flush =>
        let s1 := s.setExtent ext { s.extent ext with state := 3 }
        (s1.setStore { s1.store with ingests := tabSet none s1.store.ingests ext none }).post g.acct 0x320
          ((g.addr + 4095) / 4096) 0 0

/-- NVME_COMPLETION: a completion from a drive with its status (0 good) and, for a Read, the bytes of its LBAs (R209,
R211). -/
def execNvmeCompletion (drive cid status : Nat) (data : List Byte) (s : State) : Host.Outcome State Fault Refusal :=
  .next (
    if s.isOff then s else
    match s.nvme cid with
    | none => s.driveViol drive
    | some c =>
      if c.drive ≠ drive then s.driveViol drive
      else
        let s1 := (s.setNvme cid none).syncOutstand
        if c.late then (s1.inc STO_LATECPL_COUNT).pump
        else if status = 0 then
          let s2 := s1.setStore { s1.store with drvFail := tabSet 0 s1.store.drvFail drive 0 }
          let s3 := if c.retries > 0 then s2.inc STO_RETRYCNT_COUNT else s2
          (if c.op = .read then s3.readCame c data else s3.ingestNext c.ext).pump
        else (s1.cmdFailed c).pump)

/-- NVME_TIMEOUT: a command without completion for STO_CMDTO, or of whose traffic a request ran into PCS_CTO, which R212
counts alike: its buffer stays quarantined, the command has failed (R209). -/
def execNvmeTimeout (cid : Nat) (s : State) : Host.Outcome State Fault Refusal :=
  .next (
    if s.isOff then s else
    match s.nvme cid with
    | some c => if c.late then s else ((s.setNvme cid (some { c with late := true })).syncOutstand).cmdFailed c
    | none => s)

/-- The Reads under way, at a drive in time or waiting to be sent again, that a predicate on pieces picks. -/
def State.readsWith (s : State) (p : TileKey × Nat → Bool) : List Nvme :=
  ((s.store.cmds.filterMap (·.2)).filter (fun c => ! c.late) ++ s.store.waiting).filter fun c =>
    c.op = .read && c.pieces.any p

/-- READ_DEADLINE: the deadline of a row, or with row 0 of the table, is reached: every Read of its pieces without good
data is lost, and its pieces that still wait are lost as one Read (R208, R209). DESIGN CHOICE for the last
(log entry 71). -/
def execReadDeadline (slot stn row : Nat) (s : State) : Host.Outcome State Fault Refusal :=
  .next (
    if s.isOff then s else
    let hit (f : Fetch) : Bool := f.key.slot = slot && f.key.stn = stn && f.key.row = row &&
      decide (f.deadline * 2 ^ 16 ≤ s.wpos)
    let fs := s.store.fetches.filter hit
    let s1 := (s.readsWith fun p => fs.any fun f => f.key = p.1 && f.off = p.2).foldl State.lose s
    let left := s1.store.fetches.filter fun f => hit f && ! f.sent
    if left = [] then s1 else s1.readLost 0 left)

/-- A tile that fails its check counts for each port that needs it and raises CHECK there (R206, R214). -/
def State.checkFailed (s : State) (col : Nat) : List Nat → State
  | [] => s
  | n :: ns =>
    let p := s.portPos n
    (if colFrom p ≤ col ∧ col ≤ colTo p then (s.inc (MNT_CHKCNT_COUNT n)).raise 10 n else s).checkFailed col ns

/-- TILE_DECODE: the front end decodes and checks a tile that has come whole, once, and its place in the buffer is free
for the Reads that wait for it; failure voids the slot with CHECK (R206, R208). -/
def execTileDecode (slot stn row col : Nat) (s : State) : Host.Outcome State Fault Refusal :=
  .next (
    if s.isOff then s else
    match s.tileAt slot stn row col with
    | some t =>
      if t.st ≠ .coming ∨ ¬ t.whole then s
      else match decodeTile (s.tileBytes t) (t.len / 16) (s.slot slot).desc.frame stn row col with
        | some out => (s.mapTile t.key fun u => { u with st := .decoded, parts := [], data := out }).pump
        | none =>
          let s1 := (s.mapTile t.key fun u => { u with st := .failed, parts := [] }).pump.checkFailed col (s.portsOf stn)
          s1.voidReport slot stn rsCheck (s1.incOf 10) (32 * row)
    | none => s)

/-- DRIVE_VIOLATION: a completion that names no command or carries a wrong phase is discarded; a drive access outside
its buffers is answered UR (R211); a malformed or poisoned TLP is discarded and counted in PCS_ERRCNT.BADTLP (R215). -/
def execDriveViolation (drive : Nat) (kind : DriveViol) (s : State) : Host.Outcome State Fault Refusal :=
  .next (
    if s.isOff then s else
    match kind with
    | .completion => s.driveViol drive
    | .access => (s.driveViol drive).inc PCS_ERRCNT_UR
    | .badTlp => s.inc PCS_ERRCNT_BADTLP)

/-- DRIVE_FATAL_STATUS: the controller reports a fatal status: DRIVEn (R210). -/
def execDriveFatalStatus (drive : Nat) (s : State) : Host.Outcome State Fault Refusal :=
  .next (if s.isOff then s else if drive < 16 ∧ s.fld (STO_DRV_STATE drive) ≠ 0 then s.raise 9 drive else s)

/-! Underrun (R208). -/

/-- The lines a range of rows and columns of a station's slot needs are decoded: the table has been read and every tile
among them is decoded. A slot with a table that is not released yet has none. -/
def State.rowsReady (s : State) (k stn c0 c1 lo hi : Nat) : Bool :=
  (s.slot k).desc.table stn = 0 || ((s.slot k).released.testBit stn && ! s.store.tiles.any fun t =>
    t.key.slot = k && t.key.stn = stn && (t.key.table ||
      (c0 ≤ t.key.col && t.key.col ≤ c1 && lo ≤ t.key.row && t.key.row ≤ hi && t.st ≠ .decoded)))

/-- The band of a port's next sweep, lines L − 32 to L + 287 (R161), is not decoded where it meets a slot's frame. -/
def State.bandLate (s : State) (n k : Nat) (r : SlotRec) : Bool :=
  let stn := s.portStn n
  let p := s.portPos n
  let band : Int := 256 * ((s.scanP n).sweep + 1) + (s.scanP n).phoff / 256
  let from_ : Int := band - 32 - r.x - r.geo.lag stn
  let upto : Int := from_ + 319
  r.voided.isNone && ! r.raisedAt stn && r.kind ≠ 3 && decide (0 ≤ upto) && decide (from_ < r.desc.length) &&
    ! s.rowsReady k stn (colFrom p) (colTo p) (from_.toNat / 32) (upto.toNat / 32)

/-- Every slot whose lines the next band lacks is void with UNDERRUN. -/
def State.underrun (s : State) (n : Nat) : State :=
  s.esc.slots.foldl (fun s kr =>
    if s.bandLate n kr.1 kr.2 then s.voidRaiseNew [n] kr.1 (s.portStn n) rsUnderrun else s) s

end Sys2Proof.Machine
end

