-- ==== Sys2Proof/Machine/TellerOps.lean ====
section
/-! DEFINITION. Starting, stopping and resetting a teller (R90), the operations that TLR_GO, TLR_STOP, TLR_RST and the
escalations of TLR and TAU share. -/

namespace Sys2Proof.Machine

/-- TLR_GO of one teller: a halted or trap-halted teller runs from its PC (R90, R95). -/
def State.tellerGo (s : State) (t : Nat) : State :=
  if (s.teller t).isHalted ∧ ¬ (s.teller t).rstReq then s.mapTeller t fun x => { x with st := .running, wait := .none }
  else s

/-- TLR_STOP of one teller: it halts at the next instruction boundary, a waiting one with its PC at the wait
instruction, which has not executed (R90). -/
def State.tellerStop (s : State) (t : Nat) : State :=
  let x := s.teller t
  if x.isHalted then s
  else if x.wait = .port then s.setTeller t { x with stopReq := true }
  else s.setTeller t { x with st := .halted, wait := .none, stopReq := false }

/-- Claimed endpoints of a teller are released, and the messages that wait for them discarded and counted (R90). -/
def State.releaseClaims (s : State) (t : Nat) : State :=
  let gone := tabKeys (fun _ v => v = t + 1) s.claims
  let lost := (s.inbox.filter fun m => gone.contains m.1).length
  { s with
    claims := s.claims.filter fun c => ¬ (c.2 = t + 1)
    inbox := s.inbox.filter fun m => ! gone.contains m.1 }.incBy RNG_VIOL_COUNT lost

/-- Teller `t` is dropped from the completion list of every audit entry below `n` (R300). -/
def State.dropRequester (s : State) (t : Nat) : Nat → State
  | 0 => s
  | n + 1 => (s.clrFbit (AUD_WHO_TELLERS n) t).dropRequester t n

/-- The teller after a reset: its registers 0, PC at TLR_BOOT, halted; outbound entries are still delivered (R90). -/
def Teller.afterReset (x : Teller) (boot : Nat) : Teller :=
  { Teller.init with pc := BitVec.ofNat 32 boot, outb := x.outb }

/-- Reset of a teller, its earlier WRR writes having taken effect (R90). On the Standby its own teller's reset also
returns the mirrored orders that the Manager's teller of the same number has taken. DESIGN CHOICE (log entry 70). -/
def State.tellerResetDo (s : State) (t : Nat) : State :=
  let s1 := s.disarmAll (s.bankArmed t)
  let s2 := s1.abandonLocks (fun h => match h with
    | .teller u _ => u = t
    | .host _ => false) s1.locks
  let s3 := (s2.returnOrders t s2.orders).releaseClaims t
  ((s3.dropRequester t 16).setFld (TLR_DIVZ_COUNT t) 0).mapTeller t fun x => x.afterReset (s3.fld (TLR_BOOT_ADDR t))

/-- TLR_RST or the escalation of R91: earlier WRR writes take effect first, or the reset waits for them. -/
def State.tellerReset (s : State) (t : Nat) : State :=
  if (s.teller t).wrrq = [] then s.tellerResetDo t
  else s.mapTeller t fun x => { x with st := .halted, wait := .none, stopReq := false, rstReq := true }

/-- A reset that waited for the WRR queue takes place once it is empty. -/
def State.tellerResetDue (s : State) (t : Nat) : State :=
  if (s.teller t).rstReq ∧ (s.teller t).wrrq = [] then s.tellerResetDo t else s

/-- An operation on each teller of a mask below `n`, lowest first. -/
def State.eachTeller (f : Nat → State → State) (mask : Nat) (s : State) : Nat → State
  | 0 => s
  | n + 1 =>
    let s1 := s.eachTeller f mask n
    if mask.testBit n then f n s1 else s1

/-- TLR_GO (R90). -/
def execTlrGo (mask : Nat) (s : State) : Host.Outcome State Fault Refusal :=
  .next (if s.isOff then s else s.eachTeller (fun t s => s.tellerGo t) mask 16)

/-- TLR_STOP (R90). -/
def execTlrStop (mask : Nat) (s : State) : Host.Outcome State Fault Refusal :=
  .next (if s.isOff then s else s.eachTeller (fun t s => s.tellerStop t) mask 16)

end Sys2Proof.Machine
end

