-- ==== Sys2Proof/Machine/Position.lean ====
section
/-! DEFINITION. Position-register instructions (R70, R71), WAITPOS (R72), ARM and DISARM (R73). -/

namespace Sys2Proof.Machine

/-- An operation on two position registers: pd := f ps pt (R70). -/
def posOp (t pd ps pt : Nat) (f : Pos → Pos → Pos) (s : State) : Host.Outcome State Fault Refusal :=
  .next (s.execR t fun x => (x.setP pd (f (x.getP ps) (x.getP pt))).adv 1)

/-- PADD: modulo 2⁶⁴ (R61, R70). -/
def execPadd (t rd rs rt : Nat) (s : State) : Host.Outcome State Fault Refusal := posOp t rd rs rt (fun a b => a + b) s

/-- PSUB (R70). -/
def execPsub (t rd rs rt : Nat) (s : State) : Host.Outcome State Fault Refusal := posOp t rd rs rt (fun a b => a - b) s

/-- PMOV (R70). -/
def execPmov (t rd rs : Nat) (s : State) : Host.Outcome State Fault Refusal := posOp t rd rs rs (fun a _ => a) s

/-- PMAX: the larger, unsigned (R70). -/
def execPmax (t rd rs rt : Nat) (s : State) : Host.Outcome State Fault Refusal :=
  posOp t rd rs rt (fun a b => if a.toNat < b.toNat then b else a) s

/-- MVGP: pd := gt over gs (R70). -/
def execMvgp (t rd rs rt : Nat) (s : State) : Host.Outcome State Fault Refusal :=
  .next (s.execR t fun x => (x.setP rd (x.getG rt ++ x.getG rs)).adv 1)

/-- MVPGL: gd := ps bits 31:0 (R70). -/
def execMvpgl (t rd rs : Nat) (s : State) : Host.Outcome State Fault Refusal :=
  .next (s.execR t fun x => (x.setG rd ((x.getP rs).setWidth 32)).adv 1)

/-- MVPGH: gd := ps bits 63:32 (R70). -/
def execMvpgh (t rd rs : Nat) (s : State) : Host.Outcome State Fault Refusal :=
  .next (s.execR t fun x => (x.setG rd ((x.getP rs >>> 32).setWidth 32)).adv 1)

/-- pd := f ps (R71). -/
def posImm (t pd ps : Nat) (f : Pos → Pos) (s : State) : Host.Outcome State Fault Refusal :=
  .next (s.execR t fun x => (x.setP pd (f (x.getP ps))).adv 1)

/-- PADDI: pd := ps + sext(imm) × 2¹⁶ (R71). -/
def execPaddi (t pd ps : Nat) (imm : BitVec 16) (s : State) : Host.Outcome State Fault Refusal :=
  posImm t pd ps (fun a => a + (sext16P imm <<< 16)) s

/-- PADDFI: pd := ps + sext(imm) (R71). -/
def execPaddfi (t pd ps : Nat) (imm : BitVec 16) (s : State) : Host.Outcome State Fault Refusal :=
  posImm t pd ps (fun a => a + sext16P imm) s

/-- RDPOS: the published WPOS (R71). -/
def execRdpos (t pd : Nat) (s : State) : Host.Outcome State Fault Refusal :=
  posImm t pd 0 (fun _ => BitVec.ofNat 64 s.wpos) s

/-- PSTN: ps + offset × 2¹⁶, the offset of R39 as it stands at execution (R71). -/
def execPstn (t pd ps station : Nat) (s : State) : Host.Outcome State Fault Refusal :=
  posImm t pd ps (fun a => a + BitVec.ofNat 64 (s.fld (TIM_STOFF_LINES station) * 2 ^ 16)) s

/-- PWRT: ps + (offset − drum arc) × 2¹⁶ (R71). -/
def execPwrt (t pd ps station : Nat) (s : State) : Host.Outcome State Fault Refusal :=
  posImm t pd ps (fun a => a + BitVec.ofNat 64 (s.fld (TIM_STOFF_LINES station) * 2 ^ 16)
    - BitVec.ofNat 64 (s.fld (TIM_DRUMARC_LINES station) * 2 ^ 16)) s

/-- TIM_HWM as a position; it stays 0 on a Worker (R46). -/
def State.hwm (s : State) : Nat := s.fld TIM_HWMHI_HWM * 2 ^ 32 + s.fld TIM_HWMLO_HWM

/-- RDHWM: TIM_HWM, 0 on a Worker (R71). -/
def execRdhwm (t pd : Nat) (s : State) : Host.Outcome State Fault Refusal :=
  posImm t pd 0 (fun _ => if s.isWorker then 0 else BitVec.ofNat 64 s.hwm) s

/-- WAITPOS: completes when WPOS ≥ ps, else the teller waits (R72). -/
def execWaitpos (t ps : Nat) (s : State) : Host.Outcome State Fault Refusal :=
  .next (s.execD t (fun _ => none) fun s =>
    let target := ((s.teller t).getP ps).toNat
    if target ≤ s.wpos then s.mapTeller t fun x => x.adv 1
    else s.mapTeller t fun x => { x with st := .waiting, wait := .pos target })

/-- WAITPOS_RESUME: a waiting WAITPOS whose position WPOS has reached completes, its two cycles counted (R72). -/
def execWaitposResume (t : Nat) (s : State) : Host.Outcome State Fault Refusal :=
  .next (if s.isOff then s else match (s.teller t).wait with
    | .pos target =>
      if target ≤ s.wpos then s.mapTeller t fun x => { x with st := .running, wait := .none }.adv 2 else s
    | _ => s)

/-- ARM: comparator n of the teller's own bank records ps and is armed; another bank's raises ACCESS (R73). -/
def execArm (t ps n : Nat) (s : State) : Host.Outcome State Fault Refusal :=
  .next (s.execD t (fun _ => if n / 256 = t then none else some (trAccess, n)) fun s =>
    (s.armCmp n ((s.teller t).getP ps).toNat).mapTeller t fun x => x.adv 2)

/-- DISARM: an own comparator is disarmed; another bank's raises ACCESS (R73). -/
def execDisarm (t n : Nat) (s : State) : Host.Outcome State Fault Refusal :=
  .next (s.execD t (fun _ => if n / 256 = t then none else some (trAccess, n)) fun s =>
    (s.disarmCmp n).mapTeller t fun x => x.adv 2)

end Sys2Proof.Machine
end

