-- ==== Sys2Proof/Machine/Web.lean ====
section
/-! DEFINITION. Web position: encoder inputs (R35, R36), the raw position and WPOS (R37, R38), beacons and the
estimator (R40 to R45), reverse motion (R46), the line master (R47). Positions are in units of 2⁻⁴⁰ line. -/

namespace Sys2Proof.Machine

def State.setPos (s : State) (p : Posn) : State := { s with pos := p }

/-- The units of 2⁻⁴⁰ line in one count: TIM_ENCSCALE is 8.24. -/
def State.countU (s : State) : Int := (s.fld TIM_ENCSCALE_SCALE : Int) * 2 ^ 16

/-- The own count's position: count × scale, the part extrapolated since the last count, and the offset OFS. -/
def State.rawPos (s : State) : Int :=
  tabGet 0 s.pos.count (s.fld TIM_CFG_MASTER) * s.countU + s.pos.extrap + s.pos.ofs

/-- TIM_STATUS.INHIBIT follows its two causes; setting it suspends the phase loops (R46, R57, R152). -/
def State.syncInhibit (s : State) : State :=
  let on := s.pos.inhRev || s.pos.inhEsc
  let s1 := s.setBool TIM_STATUS_INHIBIT on
  if on ∧ ¬ s.inhibit then s1.loopSuspendAll
  else if ¬ on ∧ s.inhibit then s1.loopResumeAll
  else s1

/-- TIM_HWM takes a position. -/
def State.setHwm (s : State) (w : Nat) : State := (s.setFld TIM_HWMLO_HWM w).setFld TIM_HWMHI_HWM (w / 2 ^ 32)

/-- The release position TIM_HWM + TIM_REREG (R46). -/
def State.relPos (s : State) : Nat := s.hwm + s.fld TIM_REREG_LINES * 2 ^ 16

/-- R137 on the Manager: the range at which INHIBIT from reverse motion is set is known. -/
def State.inhibitRange (s : State) : State :=
  if s.isManager then
    (s.setEsc { s.esc with inhRange := some (s.hwm, s.relPos, 0) }).inhibitVoids
  else s

/-- A reverse excursion (R46): `raw` lies more than the deadband below the published position. The first time TIM_HWM
takes WPOS; the travel beyond the deadband not added before goes to TIM_REVEXC in units of 1/256 line. -/
def State.reverseStep (s : State) (raw : Int) : State :=
  let db : Int := (s.fld TIM_REVDB_DB : Int) * 2 ^ 24
  let deep := (s.pos.out : Int) - db - raw
  if deep > 0 then
    let started := ¬ s.flag TIM_STATUS_REVERSE
    let before : Int := if started then 0 else s.pos.revDeep
    let s1 := if started then (s.setHwm s.wpos).setOn TIM_STATUS_REVERSE else s
    let grown := max deep before
    let s2 := s1.incBy TIM_REVEXC_EXC (grown / 2 ^ 32 - before / 2 ^ 32).toNat
    let s3 := s2.setPos { s2.pos with revDeep := grown }
    if started ∧ s.isManager then (s3.setPos { s3.pos with inhRev := true }).syncInhibit.inhibitRange else s3
  else s.setOff TIM_STATUS_REVERSE

/-- TIM_REREG has been written: while INHIBIT is set from reverse motion the range of R137 moves with the release. -/
def State.reregMoved (s : State) : State := if s.pos.inhRev then s.inhibitRange else s

/-- INHIBIT from reverse motion clears on the Manager when WPOS reaches TIM_HWM + TIM_REREG (R46). -/
def State.reverseRelease (s : State) : State :=
  if s.isManager ∧ s.pos.inhRev ∧ s.relPos ≤ s.wpos then
    ((s.setPos { s.pos with inhRev := false }).setEsc { s.esc with inhRange := none }).syncInhibit
  else s

/-- While the escalation of TIM sets INHIBIT, the Manager voids every slot whose window at a station contains the
present position, with the incident of that fault (R57, R137). -/
def State.inhibitHere (s : State) : State :=
  if s.isManager ∧ s.pos.inhEsc then
    s.voidAll rsInhibit (s.fld (FLT_BLKINC_INCIDENT 0)) (fun _ r => r.meets s.wpos (s.wpos + 1)) s.esc.slots
  else s

/-- The Manager publishes the highest raw position reached (R37), and follows reverse motion (R46). -/
def State.managerPublish (s : State) : State :=
  let raw := s.rawPos
  let moving : Bool := raw ≥ s.pos.out
  let s1 := s.setPos { s.pos with out := max s.pos.out raw.toNat }
  let raw24 := ofTwos 32 (s.fld TIM_RAWVEL_VEL)
  let s2 := s1.setFld TIM_VEL_VEL (if moving ∧ raw24 > 0 then raw24.toNat else 0)
  (((s2.setFld TIM_STATUS_SRC 1).reverseStep raw).reverseRelease).inhibitHere

/-- A change of the master count on the node that counts it: the Manager publishes; the Standby forms TIM_HWM,
TIM_REVEXC and REVERSE from its own count (R46). -/
def State.masterMoved (s : State) : State :=
  if s.isManager then s.managerPublish
  else if s.isStandby then s.reverseStep s.rawPos
  else s

/-- The count of input `n` moves by `d` (R37); between counts nothing is extrapolated yet. -/
def State.addCount (s : State) (n : Nat) (d : Int) : State :=
  let c := tabGet 0 s.pos.count n + d
  (s.setPos { s.pos with count := tabSet 0 s.pos.count n c }).setFld (TIM_ENCCNT_COUNT n) (toTwos 32 c)

/-- The shortest signed move from a held step to a phase, −2,048 to +2,047 steps (R36). -/
def shortMove (held : Int) (phase : Nat) : Int := ((phase : Int) - held + 2048) % 4096 - 2048

/-- The encoder's interface number for violations (R331). -/
def encIface (n : Nat) : Nat := 0x200 + n

/-- The step an input's interpolator holds, or none (R36). -/
def State.holdStep (s : State) (n : Nat) (h : Option Nat) : State :=
  s.setPos { s.pos with ampFault := tabSet none s.pos.ampFault n h }

/-- An event of an encoder input (R36, R37). An input that is not counted (EN = 0) raises nothing; its interpolator
still holds its step while the amplitude is out of range. DESIGN CHOICE (log entry 68). -/
def State.encoderEvent (s : State) (n : Nat) (e : EncEvent) : State :=
  let en := s.flag (TIM_ENCCFG_EN n)
  let inv := s.flag (TIM_ENCCFG_INV n)
  let sinCos := s.flag (TIM_ENCCFG_TYPE n)
  let hold : Option Nat := if sinCos then tabGet none s.pos.ampFault n else none
  let viol (s : State) := s.violation (encIface n) (s.flag (FLT_ROUTE_EN 0)) (s.fld (FLT_ROUTE_ACCT 0))
  match e with
  | .step up => if en ∧ hold.isNone then s.addCount n (if up = inv then -1 else 1) else s
  | .illegal => if en ∧ ¬ sinCos then viol ((s.inc TIM_VIOL_COUNT).raise 0 0) else s
  | .ampFault held =>
    if ¬ sinCos then s
    else if en then viol ((s.holdStep n (some held)).raise 0 1)
    else s.holdStep n (some held)
  | .ampReturn phase =>
    match hold with
    | some held =>
      let d := shortMove held phase
      if en then (s.holdStep n none).addCount n (if inv then -d else d) else s.holdStep n none
    | none => s

/-- ENCODER_EDGE: an event of input n, with the velocity the position unit has measured by it (signed, 2⁻²⁴ line per
µs). A count of the master input moves the raw position and WPOS, and the extrapolation starts anew (R36, R37, R46). -/
def execEncoderEdge (n : Nat) (e : EncEvent) (vel : Int) (s : State) : Host.Outcome State Fault Refusal :=
  .next (
    if s.isOff ∨ n ≥ 4 then s
    else
      let s1 := s.encoderEvent n e
      let counted : Bool := tabGet 0 s1.pos.count n ≠ tabGet 0 s.pos.count n
      if counted ∧ n = s.fld TIM_CFG_MASTER ∧ (s.isManager ∨ s.isStandby) then
        ((s1.setPos { s1.pos with extrap := 0, since := 0 }).setFld TIM_RAWVEL_VEL (toTwos 32 vel)).masterMoved
      else s1)

/-! Beacons. -/

/-- BEACON_SEND: every microsecond the Manager sends a beacon on both directions (R40), and the Standby a watermark
(R321). -/
def execBeaconSend (s : State) : Host.Outcome State Fault Refusal :=
  .next (
    if s.isOff then s else
    if s.isManager ∧ ¬ s.pwr.bcnStopped then
      let p := s.pos
      let b : Beacon := ⟨p.bcnSeq, s.wpos, s.fld TIM_VEL_VEL, 0, s.inhibit⟩
      let s1 := (s.setPos { p with bcnSeq := (p.bcnSeq + 1) % 2 ^ 32 }).beaconOut b
      if s1.hasStandby then
        s1.ringBoth (some s1.stbyEp)
          (.watermark (s1.fld FLT_MSEQ_MSEQ) (s1.fld FLT_LASTSETTLED_MSEQ) (s1.fld FLT_LASTEVENT_MSEQ))
      else s1
    else s)

/-- The position a beacon stands for when it arrives: WPOS + VEL × (path delay + RESID) (R41). -/
def State.predOf (s : State) (dir : Nat) (b : Beacon) : Int :=
  (b.wpos : Int) * 2 ^ 24
    + ((b.vel * 2 ^ 16 * (s.fld (RNG_PATHDLY_PS dir) + b.resid * 1000) / 1000000 : Nat) : Int)

/-- The copy of a beacon that has been taken: the last one, or one of the eight before it. DESIGN CHOICE (log entry 68). -/
def State.firstCopy (s : State) (seq : Nat) : Option (Nat × Int × Nat × Nat) :=
  (s.pos.last.toList ++ s.pos.earlier).find? fun l => l.1 = seq

/-- A second copy is only checked against the first, advanced to its own arrival; a difference above 1/256 line sets
DIRMIS (R42). -/
def State.checkCopy (s : State) (dir : Nat) (b : Beacon) (at2 : Nat) : State :=
  match s.firstCopy b.seq with
  | some (_, pred, vel, at1) =>
    let adv := pred + ((vel * 2 ^ 16 * (at2 - at1) / 800 : Nat) : Int)
    if (s.predOf dir b - adv).natAbs > 2 ^ 32 then s.raise 0 5 else s
  | none => s

/-- The Standby's offset between the beacon estimate and its own count, over the last 256 beacons; a spread beyond
TIM_STBYTOL sets ENCMIS (R45). The mean is rounded down. DESIGN CHOICE (log entry 68). -/
def State.standbyOffset (s : State) : State :=
  if s.isStandby then
    let own := s.rawPos - s.pos.ofs
    let hist := (s.pos.ofsHist ++ [s.pos.est - own]).drop (s.pos.ofsHist.length + 1 - 256)
    let mx := hist.foldl max (s.pos.est - own)
    let mn := hist.foldl min (s.pos.est - own)
    let mean : Int := hist.foldl (fun a b => a + b) (0 : Int) / (hist.length : Int)
    let s1 := s.setPos { s.pos with ofsHist := hist, ofs := mean }
    if mx - mn > (s.fld TIM_STBYTOL_TOL : Int) * 2 ^ 24 then s1.raise 0 4 else s1
  else s

/-- The first copy of a beacon, arrived in cycle `at1`, corrects or resynchronises the estimator; the cycle's end
publishes it (R41). -/
def State.takeBeacon (s : State) (dir : Nat) (b : Beacon) (at1 : Nat) : State :=
  let pred := s.predOf dir b
  let err := pred - s.pos.est
  let big : Bool := err.natAbs > 2 ^ 38
  let est := if big then pred else s.pos.est + tdiv err 4
  let vel : Int := if big then (b.vel : Int) * 2 ^ 16 else s.pos.vel + tdiv err 16
  let s1 := s.setPos { s.pos with
    est := est, vel := vel, inhRev := b.inhibit, last := some (b.seq, pred, b.vel, at1)
    earlier := (s.pos.last.toList ++ s.pos.earlier).take 8 }
  let s2 := ((s1.setFld TIM_ESTERR_ERR (toTwos 32 (clampS 32 (tdiv err (2 ^ 24))))).setFld TIM_STATUS_SRC 2).setFld
    TIM_VEL_VEL (vel / 2 ^ 16).toNat
  let s3 := if big then s2.raise 0 7 else s2
  let s4 := if s3.blk 0 = 0 then s3.setOff TIM_STATUS_POSLOST else s3
  let s5 := { s4 with mirror := { s4.mirror with lastBeacon := b.seq } }
  let s6 := s5.standbyOffset.syncInhibit
  if s6.isStandby then s6.reverseStep s6.rawPos else s6

/-- A copy of a beacon: the first is taken, the second only checked (R42). -/
def State.takeCopy (s : State) (dir : Nat) (b : Beacon) (at1 : Nat) : State :=
  if (s.firstCopy b.seq).isSome then s.checkCopy dir b at1 else s.takeBeacon dir b at1

/-- The direction B copy that waits for the end of its cycle takes its turn (R42). -/
def State.takeHeld (s : State) : State :=
  match s.pos.copyB with
  | some (b, at1) => (s.setPos { s.pos with copyB := none }).takeCopy 1 b at1
  | none => s

/-- An `expect` of 2³² means that the Standby follows no stream. -/
def unsynced : Nat := 2 ^ 32

/-- A new TERM: the snapshot of the Manager before is worth nothing, and TKARMED ends with it (R322). -/
def State.unfollow (s : State) : State :=
  (({ s with mirror := { s.mirror with snapshot := false, expect := unsynced, ahead := [], probing := false } }.setOff
    FLT_MIRSTAT_SNAPPING).setOff FLT_MIRSTAT_TKARMED)

/-- A node that follows beacons adopts a higher TERM (R41). A first copy on direction B waits for the end of the cycle,
so that direction A's copy of the same cycle goes before it (R42). -/
def State.followBeacon (s : State) (h : Hdr) (b : Beacon) : State :=
  let s1 := if h.term > s.fld GLB_TERM_TERM then
      let s0 := ((s.setFld GLB_TERM_TERM h.term).setPos { s.pos with last := none, earlier := [], copyB := none }).unfollow
      { s0 with mirror := { s0.mirror with mgrNode := h.src } }
    else s
  let now := s1.time.cycles
  if h.dir = 0 then
    (if s1.pos.copyB.any fun c => c.1.seq = b.seq ∧ c.2 = now then s1.takeCopy 0 b now else s1.takeHeld.takeCopy 0 b now)
  else
    let s2 := s1.takeHeld
    if (s2.firstCopy b.seq).isSome then s2.checkCopy 1 b now
    else s2.setPos { s2.pos with copyB := some (b, now) }

/-- BEACON: a received beacon. A stale TERM is discarded and counted; Workers and the Standby take it; it is forwarded,
its RESID increased by the node's residence of at most 160 ns, a free value (R41, R42, R356, R359).
DESIGN CHOICE (log entry 29). -/
def execBeacon (h : Hdr) (b : Beacon) (s : State) : Host.Outcome State Fault Refusal :=
  .next (
    if s.isOff then s else
    let (r, s') := s.free 161
    s'.onFrame h (.beacon { b with resid := b.resid + r }) fun s =>
      let s0 : State := if s.isManager then s else { s with pwr := { s.pwr with bcnStopped := false } }
      if s0.isWorker ∨ s0.isStandby then s0.followBeacon h b else s0)

/-- DEAD_RECKONING: three consecutive beacons are missing: the estimator goes on with its velocity frozen (R44). In
Dormant the loss raises no source event (R390). -/
def execDeadReckoning (s : State) : Host.Outcome State Fault Refusal :=
  .next (
    if s.isOff then s else
    if s.fld TIM_STATUS_SRC = 2 then
      let s1 := s.setFld TIM_STATUS_SRC 3
      if s.pwr.dormantLow then { s1 with pwr := { s1.pwr with bcnStopped := true } } else s1.raise 0 2
    else s)

/-- POSITION_LOST: no beacon for TIM_DRLIMIT (R44); in Dormant without a source event (R390). -/
def execPositionLost (s : State) : Host.Outcome State Fault Refusal :=
  .next (
    if s.isOff then s else
    if s.fld TIM_STATUS_SRC = 3 then
      let s1 := s.setOn TIM_STATUS_POSLOST
      if s.pwr.dormantLow then s1 else s1.raise 0 3
    else s)

/-! The line master (R47). -/

/-- LINE_MASTER_EDGE: a rising edge, `interval` nanoseconds after the one before (0: none before). It is counted in
every role; the rate in 1/16 line per second, that of the last interval, rounded down, drives the Manager only (R47).
DESIGN CHOICE (log entry 68). -/
def execLineMasterEdge (interval : Nat) (s : State) : Host.Outcome State Fault Refusal :=
  .next (
    if s.isOff then s else
    let s1 := s.incWrap TIM_LMCNT_VALUE
    if s.isManager ∧ interval ≠ 0 then
      s1.setFld TIM_LMRATE_VALUE (s.fld TIM_LMSCALE_VALUE * 16000000000 / (interval * 2 ^ 24))
    else s1)

/-- LINE_MASTER_TIMEOUT: no edge for TIMEOUT µs while EN = 1: LMLOST, and TIM_LMRATE reads 0 (R47). -/
def execLineMasterTimeout (s : State) : Host.Outcome State Fault Refusal :=
  .next (if s.isOff then s else if s.isManager ∧ s.flag TIM_LMCFG_EN then (s.setFld TIM_LMRATE_VALUE 0).raise 0 6 else s)

/-! The clock: one teller cycle of 1.25 ns. -/

/-- Raw position extrapolated from the measured velocity and the time since the last count, clamped below the next count
(R37 step 2). Once the clamp is reached with no count, the measured velocity is no more than one count over that time, so
that it goes to 0 when edges cease. A master input that is not counted holds. DESIGN CHOICE (log entry 68). -/
def State.extrapolate (s : State) : State :=
  let v := ofTwos 32 (s.fld TIM_RAWVEL_VEL)
  let n := s.pos.since + 1
  let e := tdiv (v * 2 ^ 16 * n) 800
  let lim := s.countU - 1
  if ¬ s.flag (TIM_ENCCFG_EN (s.fld TIM_CFG_MASTER)) then s
  else if e.natAbs ≤ lim.natAbs then
    s.setPos { s.pos with since := n, extrap := if e.natAbs < s.pos.extrap.natAbs then s.pos.extrap else e }
  else
    let slow : Int := s.countU * 800 / 2 ^ 16 / n
    (s.setPos { s.pos with since := n, extrap := if v < 0 then -lim else lim }).setFld TIM_RAWVEL_VEL
      (toTwos 32 (if v < 0 then -slow else slow))

/-- A cycle of the estimator ends: what it has come to is published, and never decreases (R41). -/
def State.publishEst (s : State) : State := s.setPos { s.pos with out := max s.pos.out s.pos.est.toNat }

/-- The estimator's per-cycle step, formed exactly, the remainder of the division by 800 carried (R41). -/
def State.estimatorStep (s : State) : State :=
  let n := s.pos.vel + s.pos.stepRem
  s.setPos { s.pos with est := s.pos.est + n / 800, stepRem := n % 800 }

/-- The Standby's own count goes on between counts, and its reverse motion is followed (R45, R46). -/
def State.standbyCount (s : State) : State :=
  if s.isStandby then
    let s1 := s.extrapolate
    s1.reverseStep s1.rawPos
  else s

/-- Position in one teller cycle, by role. A follower's cycle ends (its beacon taken, its position published) and the
next begins with the step, so that R41's order step, beacon, publication holds for the beacons between two ticks. -/
def State.posTick (s : State) : State :=
  if s.pwr.asleep then s
  else if s.isManager then s.extrapolate.managerPublish
  else if s.isWorker ∨ s.isStandby then s.standbyCount.takeHeld.publishEst.estimatorStep
  else s

end Sys2Proof.Machine
end

