-- ==== Sys2Proof/Machine/FaultOps.lean ====
section
/-! DEFINITION. Fault handling shared by the blocks: the condition of each source (R302), the fixed escalations and how
they are lifted (R57, R91, R108, R117, R139, R168, R169, R191, R192, R210, R231, R245, R257, R272, R275, R277, R320),
audits and their placement (R297 to R302), and the course of an incident (R309 to R312). -/

namespace Sys2Proof.Machine

/-! Conditions that outlast their event (R302). -/

/-- Blocks below `n` that a mask names and a test picks. -/
def State.anyBlock (s : State) (mask : Nat) (p : Nat → Bool) : Nat → Bool
  | 0 => false
  | n + 1 => (mask.testBit n && p n) || s.anyBlock mask p n

/-- FLT_PIN.CAUSE: the causes of R317 present now. -/
def State.pinCause (s : State) : Nat :=
  (if s.pwr.drvReset ∨ s.pwr.drvClamped ∨ s.pwr.hbLost ∨ s.flag GLB_STATUS_DDHB then 1 else 0)
    + (if s.flag FLT_CTL_RUN then 0 else 2)
    + (if s.anyBlock (s.fld FLT_PINMASK_BLK) (fun b => s.blk b = 4) 24 then 4 else 0)
    + (if s.anyBlock (s.fld FLT_ESCPIN_BLK) (fun b => s.flag (FLT_BLKSTAT_ESC b)) 24 then 8 else 0)
    + (if s.srcSet 18 1 then 16 else 0)
    + (if s.role = 0 ∨ s.role = 4 then 32 else 0)

/-- The level the fault pair is driven to (R317). -/
def State.healthy (s : State) : Bool := s.pinCause = 0 && ! s.pwr.thermalShut

/-- The source's condition is present now; a source that marks an event only has none. -/
def State.condPresent (s : State) (b src : Nat) : Bool :=
  match b with
  | 0 =>
    if src = 2 then s.fld TIM_STATUS_SRC = 3
    else if src = 3 then s.flag TIM_STATUS_POSLOST && s.fld TIM_STATUS_SRC = 3
    else if src = 6 then s.flag TIM_LMCFG_EN && s.fld TIM_LMRATE_VALUE = 0
    else if src = 1 then (List.range 4).any fun n => (tabGet none s.pos.ampFault n).isSome && s.flag (TIM_ENCCFG_EN n)
    else false
  | 1 => src < 16 && (s.teller src).st = .trapHalted
  | 3 => s.orders.any fun e => match e.2 with
    | some o => o.bad
    | none => false
  | 6 => if src < 4 then s.flag (PLL_CTL_EN src) && ! s.flag (PLL_CTL_LOCK src)
    else if src = 4 then s.refs.badA ≥ 3 else if src = 5 then s.refs.badB ≥ 3
    else if src = 6 then s.flag PLL_REFSTAT_DEADA else if src = 7 then s.flag PLL_REFSTAT_DEADB
    else if src = 8 then s.fld PLL_REFSTAT_STATE = 2 else false
  | 7 => if src < 12 ∧ 8 ≤ src then ! s.linkUp (src - 8)
    else if 12 ≤ src then s.fld (HLK_STAT_HSTAT (src - 12)) / 8 % 8 ≠ 0 else false
  | 12 => src < 12 && (s.axisP src).lost
  | 13 => if src = 64 then s.plant.vgdUv
    else if src = 65 then s.fld (GDR_BRKSENSE_SENSE 0) > s.fld (GDR_BRKCTL_TRIP 0)
    else if src = 66 then s.fld (GDR_BRKSENSE_SENSE 1) > s.fld (GDR_BRKCTL_TRIP 1) else false
  | 14 => 16 ≤ src && s.hvState (src - 16) = hvRegulating && (s.hvP (src - 16)).err
  | 15 => if src < 24 then ofTwos 16 (s.fld (FUS_ZTEMP_TEMP src)) > ofTwos 16 (s.fld (FUS_ZSETR_ZMAX src))
    else if src = 56 then ! s.flag FUS_STATUS_ZCOK
    else (s.zoneP (src - 32)).forced && ! (ofTwos 16 (s.fld (FUS_ZTEMP_TEMP (src - 32))) >
      ofTwos 16 (s.fld (FUS_ZSETR_ZMAX (src - 32))))
  | 16 => (s.thermP src).mis > 10 * s.fld (THM_MIS_MISMS src)
  | 18 => if src = 0 then s.pwr.pin.any fun p => p.1 ≠ s.healthy || p.2 = s.healthy
    else src = 1 && s.flag FLT_LSISTAT_DISC
  | 19 => if src < 2 then ! s.flag (NET_STAT_LINK src) && s.store.ingests.any fun g => g.2.isSome
    else
      let (sec, k) := tabGet (0, 0) s.fec (src - 2)
      sec = s.time.sec && s.fld NET_FECLIM_N < k
  | 20 => s.fld CLD_STATUS_SRC ≠ 2 && s.flag PTP_CFG_EN
  | 21 => if src = 0 then s.flag RNG_STATUS_WRAPA else if src = 1 then s.flag RNG_STATUS_WRAPB
    else s.peers.any fun p => ! p.2.present
  | 22 => src = 0 && ! s.flag PCH_LINK_UP
  | _ => false

/-! Escalations. -/

/-- A drive is taken off line: its controller is disabled and its queues are gone, quarantined buffers with them; its
commands under way and waiting fail at once (R209, R210). -/
def State.driveOffline (s : State) (d : Nat) : State :=
  let here (c : Nvme) : Bool := c.drive = d
  let mine := (s.store.cmds.filterMap (·.2)).filter (fun c => here c && ! c.late) ++ s.store.waiting.filter here
  let s1 := s.setStore { s.store with
    cmds := s.store.cmds.filter fun x => match x.2 with
      | some c => ! here c
      | none => true
    waiting := s.store.waiting.filter fun c => ! here c }
  (mine.foldl State.command ((((s1.setFld (STO_DRV_STATE d) 2).setFld (STO_DRV_QUEUES d) 0).emit
    (.port "driveDisable" d [])).syncOutstand)).pump

/-- Ports whose escalation blanks them raise the void of a window in progress from the next sweep. -/
def State.portBlank (s : State) (b n reason : Nat) : State := s.voidFromNext n reason (s.fld (FLT_BLKINC_INCIDENT b))

/-- A channel in AXIS mode. -/
def State.chanAxisMode (s : State) (c : Nat) : Bool := s.fld (GDR_CHCFG_MODE c) = 1

/-- The escalation of INHIBIT (R57): set on this node; the slots it meets are void with the incident (R137). -/
def State.timEscalate (s : State) : State :=
  let s1 := (s.setPos { s.pos with inhEsc := true }).syncInhibit
  if s.isManager then s1.inhibitHere else s1.voidImaging rsInhibit (s.fld (FLT_BLKINC_INCIDENT 0))

/-- The fixed escalation of a source, or none (R309 step 2). DEDUCED (log entry 51). -/
def State.escalate (s : State) (b src : Nat) : Option State :=
  match b with
  | 0 => some s.timEscalate
  | 1 => if src < 16 then some (s.tellerReset src) else none
  | 2 => some ((s.dropAll (s.bankArmed src)).tellerStop src)
  | 3 => some s
  | 4 => some s.stopRequest
  | 5 => if src < 12 then
      some ((s.mapScan (src % 4) fun c => { c with blankScn := true }).portBlank 5 (src % 4) rsScan)
    else none
  | 6 => if src < 4 then some ((s.mapScan src fun c => { c with blankPll := true }).portBlank 6 src rsScan)
    else if src = 8 then some s.stopRequest else none
  | 7 => some ((s.mapHead (src % 4) fun h => { h with blankHlk := true }).portBlank 7 (src % 4) rsHead)
  | 8 => if 4 ≤ src then
      some ((s.mapHead (src % 4) fun h => { h with blankExp := true }).portBlank 8 (src % 4) rsHead)
    else none
  | 9 => if src < 16 then some (s.driveOffline src) else none
  | 11 => some (s.dmaEscalate src)
  | 12 => if src < 16 then some (s.coastAxis src) else none
  | 13 =>
    if src < 52 then
      let s1 := if s.chanAxisMode src then s.coastAxis (chanAxis src) else s
      some (s1.setPlant { s1.plant with chOff := s1.plant.chOff ||| 2 ^ src })
    else if src = 64 then
      let s1 := s.coastAll
      some (s1.setPlant { s1.plant with chOff := 2 ^ 52 - 1, lsOff := 2 ^ 32 - 1 })
    else none
  | 14 => some (s.hvEscalate (src % 16))
  | 15 => if src < 56 then some (s.zoneOff (src % 32)) else none
  | 16 => some ((s.mapTherm src fun x => { x with forced := true }).thmLevels src)
  | 18 => if src = 2 then some (s.setOff FLT_MIRSTAT_TKARMED) else none
  | _ => none

/-- The ports below `n` are released from a blanking escalation. -/
def State.liftPorts (s : State) (f : Nat → State → State) : Nat → State
  | 0 => s
  | n + 1 => f n (s.liftPorts f n)

/-- The escalations of a block's incident are lifted, each as its block's rule states for leaving fault handling. Channels
held off stay off until their axis starts anew or MODE is written (R237, R245); a coasting axis, a halted teller, a
disarmed DMA channel and a zone that went off stay as they are. -/
def State.lift (s : State) (b : Nat) : State :=
  match b with
  | 0 =>
    let s1 := (s.setPos { s.pos with inhEsc := false }).syncInhibit
    if s.fld TIM_STATUS_SRC = 3 then s1 else s1.setOff TIM_STATUS_POSLOST
  | 5 => s.liftPorts (fun n s => s.mapScan n fun c => { c with blankScn := false }) 4
  | 6 => s.liftPorts (fun n s => s.mapScan n fun c => { c with blankPll := false }) 4
  | 7 => s.liftPorts (fun n s => s.mapHead n fun h => { h with blankHlk := false, graceErr := 0 }) 4
  | 8 => s.liftPorts (fun n s => s.mapHead n fun h => { h with blankExp := false }) 4
  | 9 => s.liftPorts (fun d s => if (s.incident 9).escd.contains d ∧ s.fld (STO_DRV_STATE d) = 2 then
      ((s.driveOnline d).emit (.port "driveEnable" d [])).pump else s) 16
  | 14 => s.hvLift
  | 16 => s.liftPorts (fun m s => s.mapTherm m fun x => { x with forced := false }) 48
  | _ => s

/-! Audits (R297 to R301). -/

/-- A code AUD accepts in this node's role (R297). -/
def State.audCodeOk (s : State) (code : Nat) : Bool :=
  let i := audIdx code
  let sub0 : Bool := audSub code = 0
  code < 2 ^ 24 &&
    match audKind code with
    | 1 => s.isWorker && i < 4 && audSub code ≤ 12
    | 2 => s.isWorker && i < 4 && sub0
    | 3 => i < 16 && sub0
    | 4 => i < 64 && sub0
    | 5 => s.isWorker && i < 4 && sub0
    | 6 => i < 16 && sub0
    | 7 => i < 12 && sub0
    | _ => false

/-- An entry is held while deferred or running. -/
def State.audHeld (s : State) (i : Nat) : Bool := s.fld (AUD_STATE_STATE i) = 1 || s.fld (AUD_STATE_STATE i) = 2

/-- The entry a new request takes: the lowest-numbered free one, else the one that completed earliest (R298). -/
def State.audEntry (s : State) : Option Nat :=
  match (List.range 16).find? (fun i => s.fld (AUD_STATE_STATE i) = 0) with
  | some i => some i
  | none => (List.range 16).foldl (fun best i =>
      if s.audHeld i then best
      else match best with
        | some j => if (s.aud i).done < (s.aud j).done then some i else some j
        | none => some i) none

/-- Lines the web runs in an audit's duration: 4,096 slots for LANE, 200 µs for SCAN, 500 µs for DRIVE, rounded up. -/
def State.audLines (s : State) (code : Nat) : Nat :=
  let vel := s.fld TIM_VEL_VEL
  match audKind code with
  | 1 =>
    let hz := s.pixelHz (audIdx code)
    if hz = 0 then 0 else (4096 * 1000000 * vel + hz * 2 ^ 24 - 1) / (hz * 2 ^ 24)
  | 5 => (200 * vel + 2 ^ 24 - 1) / 2 ^ 24
  | _ => (500 * vel + 2 ^ 24 - 1) / 2 ^ 24

/-- The stations whose gap an audit waits for: that of its port, or every station the node serves (R298). -/
def State.audStations (s : State) (code : Nat) : List Nat :=
  if audKind code = 6 then s.served else [s.portStn (audIdx code)]

/-- The earlier of two lines, where there is a first. -/
def earlier (best : Option Nat) (x : Nat) : Option Nat := some (best.elim x (min x))

/-- The first line, not behind WPOS, of a gap of a station that holds `len` lines: the present line where the station lies
in a gap that still does; else the end of a known window whose slot names such a gap. DEDUCED (log entry 27). -/
def State.gapAt (s : State) (len stn : Nat) (best : Option Nat) : Option Nat :=
  let open_ : Bool := s.esc.slots.any fun e => e.2.winFrom stn * 2 ^ 16 ≤ s.wpos && s.wpos < e.2.winTo stn * 2 ^ 16
  let room : Bool := match s.gapLeft stn with
    | some d => len ≤ d
    | none => true
  if ! open_ && room then earlier best ((s.wpos + 2 ^ 16 - 1) / 2 ^ 16)
  else s.esc.slots.foldl (fun best e =>
    if s.wpos < e.2.winTo stn * 2 ^ 16 ∧ len ≤ e.2.desc.gap then earlier best (e.2.winTo stn) else best) best

/-- The first line of the first known gap long enough for an audit, at its stations (R298). -/
def State.gapFor (s : State) (code : Nat) : Option Nat :=
  (s.audStations code).foldl (fun best stn => s.gapAt (s.audLines code) stn best) none

/-- The first line of the next known gap, whatever its length, in which a stopped audit goes on (R299). -/
def State.gapNext (s : State) (code : Nat) : Option Nat :=
  (s.audStations code).foldl (fun best stn =>
    s.esc.slots.foldl (fun best e => if s.wpos < e.2.winTo stn * 2 ^ 16 then earlier best (e.2.winTo stn) else best) best) none

/-- The channel a DMACH audit exercises: the audited one while it is disarmed or halted, else the highest-numbered disarmed
one (R298). -/
def State.audChan (s : State) (n : Nat) : Option Nat :=
  if ! s.dmaArmed n || s.dmaSt n = 5 then some n
  else ((List.range 64).filter fun m => ! s.dmaArmed m).getLast?

/-- The spaces a DMACH audit exercises: those of the audited channel's current descriptor, DRAM where it has none. -/
def State.audSpaces (s : State) (n : Nat) : List Nat :=
  match (s.dmaCh n).desc with
  | some d => [d.ssp, d.dsp]
  | none => [0, 0]

/-- Where an accepted audit goes: `none` BUSY, `some true` at once, `some false` deferred (R298). -/
def State.audPlace (s : State) (code : Nat) : Option Bool :=
  let n := audIdx code
  match audKind code with
  | 1 =>
    let unused : Bool := s.fld (HLK_STAT_SPLANE n) = 15 && ! s.spareTaken n
    some (s.portIdle n || s.fld (HLK_STAT_SPLANE n) = audSub code ||
      (unused && (audSub code = 12 || ! s.flag (HLK_STAT_SPBAD n))))
  | 4 =>
    if (s.audChan n).isSome then some true else none
  | 5 => some (s.portIdle n || (s.portGap n && match s.gapLeft (s.portStn n) with
      | some d => s.audLines code ≤ d
      | none => true))
  | 6 =>
    let other := if n % 2 = 0 then n + 1 else n - 1
    some (! s.driveOn n || (s.flag STO_CTL_MIRROR && s.driveOn other) || s.served = [])
  | _ => some true

/-- The status and position of a held entry (R300). -/
def State.audStatus (s : State) (i : Nat) : Nat × Nat :=
  if s.fld (AUD_STATE_STATE i) = 1 then (stDeferred, (s.aud i).pos) else (stOk, 0)

/-- A teller that waits for the completion is listed. -/
def State.audWho (s : State) (i : Nat) (who : Option Nat) : State :=
  match who with
  | some t => s.setFbit (AUD_WHO_TELLERS i) t
  | none => s

/-- A position in WPOS format, and whether it is that of a known gap; where none is known yet, a free value.
DEDUCED (log entry 27). -/
def State.audAt (s : State) : Option Nat → Nat × Bool × State
  | some line => (line * 2 ^ 16, true, s)
  | none =>
    let (v, s1) := s.free (2 ^ 48)
    (v * 2 ^ 16, false, s1)

/-- The drive of a DRIVE audit. -/
def audDrive (code : Nat) : Option Nat := if audKind code = 6 then some (audIdx code) else none

/-- The audit of a drive that is off line resets it to identify it anew, and leaves it off line until the clearing quiet
period has elapsed (R210, R213): STATE goes from one to the other. DESIGN CHOICE (log entry 71). -/
def State.driveTurn (s : State) (code from_ upto : Nat) : State :=
  match audDrive code with
  | some d => if s.fld (STO_DRV_STATE d) = from_ then s.setFld (STO_DRV_STATE d) upto else s
  | none => s

/-- The entry is in a state with a deferred position. -/
def State.audSet (s : State) (i st pos : Nat) : State :=
  ((s.setFld (AUD_STATE_STATE i) st).setFld (AUD_POS_POS i) (pos / 2 ^ 16)).setAud i { s.aud i with pos := pos }

/-- The audit of an entry runs: the drive of a DRIVE audit answers again, the channel of a DMACH audit is exercised. -/
def State.audRun (s : State) (i : Nat) : State :=
  let code := s.fld (AUD_CODE_CODE i)
  let s1 := (s.audSet i 2 0).driveTurn code 2 4
  match (if audKind code = 4 then s.audChan (audIdx code) else none) with
  | some c => (s1.mapAud i fun a => { a with chan := c }).emit (.port "dmaAudit" c (s.audSpaces (audIdx code)))
  | none => s1

/-- The audit of an entry waits for a gap. -/
def State.audWait (s : State) (i : Nat) (line : Option Nat) : Nat × State :=
  let (pos, known, s1) := s.audAt line
  (pos, (s1.audSet i 1 pos).mapAud i fun a => { a with known := known })

/-- A request for an audit: its status, for DEFERRED its position, and the state after it (R297, R298, R300). -/
def State.audRequest (s : State) (code : Nat) (who : Option Nat) (incident : Nat) : Nat × Nat × State :=
  if ! s.audCodeOk code then (stBadArg, 0, s)
  else match (List.range 16).find? (fun i => s.audHeld i && s.fld (AUD_CODE_CODE i) = code) with
    | some i => ((s.audStatus i).1, (s.audStatus i).2, s.audWho i who)
    | none =>
      match s.audEntry, s.audPlace code with
      | some i, some now =>
        let s1 := ((((s.setFld (AUD_CODE_CODE i) code).setFld (AUD_WHO_TELLERS i) 0).setFld (AUD_WHO_INCIDENT i)
          incident).mapAud i (fun a => { a with n := 0, bad := false })).audWho i who
        if now then (stOk, 0, s1.audRun i)
        else
          let (pos, s2) := s1.audWait i (s1.gapFor code)
          (stDeferred, pos, s2)
      | _, _ => (stBusy, 0, s)

/-! The course of an incident (R309 to R312). -/

/-- The pseudo-code of a new calibration run, the audit of CLB's sources. -/
def codeCal (n : Nat) : Nat := 2 ^ 24 + n

/-- What answers for a source: audit codes, a wait for a state, or its condition now (R302, R369). -/
inductive AuditKind
  | codes (cs : List Nat)
  | until_ (done : Bool)
  | now (pass : Bool)
deriving DecidableEq, Repr

/-- Codes of the LANE audits of a port: each lane whose HLK_LANEERR was not zero in the grace period. -/
def State.laneCodes (s : State) (n : Nat) : List Nat :=
  ((List.range 13).filter fun l => s.fld (laneErr n l) ≠ 0 || (s.headP n).graceErr.testBit l).map fun l => l * 65536 + 0x100 + n

/-- The audit of a source (R302). -/
def State.auditOf (s : State) (b src : Nat) : AuditKind :=
  match b with
  | 2 => .codes [0x300 + src]
  | 5 => .codes [0x500 + src % 4]
  | 6 => if src < 4 then .codes [0x500 + src] else .now (! s.condPresent b src)
  | 7 => if src < 8 then .codes (s.laneCodes (src % 4))
    else if src < 12 then .until_ (! s.condPresent b src) else .now (! s.condPresent b src)
  | 8 => .codes [0x200 + src % 4]
  | 9 => if src < 16 then .codes [0x600 + src] else .now true
  | 11 => .codes [0x400 + src]
  | 17 => .codes [codeCal src]
  | 21 => .until_ (! s.condPresent b src)
  | _ => .now (! s.condPresent b src)

/-- FLT_BLKSTAT.DEFER: an audit of the incident is deferred or waits for an entry of AUD (R310). -/
def State.syncDefer (s : State) (b : Nat) : State :=
  s.setBool (FLT_BLKSTAT_DEFER b) ((s.incident b).audits.any fun w =>
    w.code ≠ 0 && (! w.asked || (List.range 16).any fun i =>
      s.fld (AUD_STATE_STATE i) = 1 && s.fld (AUD_CODE_CODE i) = w.code))

/-- A block among TIM, TLR, TAU, LDG and ESC in LASTING makes the Manager hand over (R324). -/
def State.lastingHandOver (s : State) (b : Nat) : State :=
  if b < 5 ∧ s.isManager then s.relinquish else s

/-- The detail of FAULT_LASTING and FAULT_CLEARED: the block, and the lowest source of the incident's set (R307, R344).
DEDUCED (log entry 26). -/
def State.faultDetail (s : State) (b : Nat) : Nat := b * 65536 + (s.incident b).srcs.headD 0

/-- An audit has failed: LASTING at once (R310); a block that is there already stays (R312). -/
def State.auditFailed (s : State) (b : Nat) : State :=
  let s1 := s.setIncident b { s.incident b with audits := [], failed := true }
  if s.blk b = 4 then s1.syncDefer b
  else (((s1.setBlk b 4).inc (FLT_BLKCNT_LASTCNT b)).syncDefer b |>.postFault b 0x351 (s.faultDetail b)).lastingHandOver b

/-- The incident closes: escalations are lifted, ESC clears, the block is NORMAL (R311, R312). -/
def State.closeIncident (s : State) (b : Nat) : State :=
  ((((s.lift b).setOff (FLT_BLKSTAT_ESC b)).setBlk b 0).setIncident b Incident.none).syncDefer b

/-- Every audit has passed: CLEARING (R310), or from LASTING straight to NORMAL (R312). -/
def State.auditsPassed (s : State) (b : Nat) : State :=
  if s.blk b = 4 then s.closeIncident b else if s.blk b = 2 then (s.setBlk b 3).syncDefer b else s

/-- The list without one entry. -/
def dropWant (w : Want) : List Want → List Want
  | [] => []
  | x :: xs => if x = w then xs else x :: dropWant w xs

/-- One audit of an incident leaves the list, replaced by others. -/
def State.wantSwap (s : State) (b : Nat) (w : Want) (new : List Want) : State :=
  s.setIncident b { s.incident b with audits := dropWant w (s.incident b).audits ++ new }

/-- One want of a block goes a step on: it is expanded into its codes, requested from AUD, or judged. A new run of a
calibration is asked for once none is in progress and its port is bound. -/
def State.wantStep (s : State) (b : Nat) (w : Want) : State :=
  if ! (s.incident b).audits.contains w then s
  else if w.asked then s
  else if w.code = 0 then
    match s.auditOf b w.src with
    | .codes cs => s.wantSwap b w (cs.map fun c => ⟨w.src, c, false⟩)
    | .until_ done => if done then s.wantSwap b w [] else s
    | .now pass => if pass then s.wantSwap b w [] else s.auditFailed b
  else if 2 ^ 24 ≤ w.code then
    let n := w.code - 2 ^ 24
    if (s.cal n).st = 2 ∨ (n < 4 ∧ ¬ s.portEn n) then s
    else (s.wantSwap b w [{ w with asked := true }]).calTrigger n false
  else
    let (st, _, s1) := s.audRequest w.code none (s.fld (FLT_BLKINC_INCIDENT b))
    if st = stBusy then s
    else if st = stBadArg then s.wantSwap b w []
    else s1.wantSwap b w [{ w with asked := true }]

/-- Every want of a block goes a step on, and once more for those that were expanded. -/
def State.wants (s : State) (b : Nat) : State :=
  let go (s : State) : State := (s.incident b).audits.foldl (fun s w => s.wantStep b w) s
  (go (go s)).syncDefer b

/-- A block in AUDIT, or re-auditing in LASTING, makes its requests and sees whether all have passed. -/
def State.blockTurn (s : State) (b : Nat) : State :=
  if (s.blk b = 2 ∨ s.blk b = 4) ∧ (s.incident b).audits ≠ [] then
    let s1 := s.wants b
    if (s1.incident b).audits = [] ∧ s1.blk b = s.blk b ∧ ¬ (s1.incident b).failed then s1.auditsPassed b else s1
  else s

/-- Every block below `n` takes its turn. DEDUCED (log entry 27). -/
def State.faultTurn (s : State) : Nat → State
  | 0 => s
  | n + 1 => (s.faultTurn n).blockTurn n

/-- The result of an audit reaches the blocks below `n` that wait for its code (R302, R310, R312). -/
def State.auditAnswer (s : State) (code : Nat) (pass : Bool) : Nat → State
  | 0 => s
  | b + 1 =>
    let s1 := s.auditAnswer code pass b
    let i := s1.incident b
    if i.audits.any fun w => w.code = code && w.asked then
      if pass then
        let left := i.audits.filter fun w => ! (w.code = code && w.asked)
        let s2 := (s1.setIncident b { i with audits := left }).syncDefer b
        if left = [] then s2.auditsPassed b else s2
      else s1.auditFailed b
    else s1

/-- A source that is still set takes its escalation, unless it has taken it already (R309 step 2). -/
def State.escalateSet (s : State) (b x : Nat) : State :=
  if s.srcSet b x ∧ (s.incident b).escd.contains x = false then
    match s.escalate b x with
    | some s' => (s'.setIncident b { s'.incident b with escd := insertNat x (s'.incident b).escd }).setOn
        (FLT_BLKSTAT_ESC b)
    | none => s
  else s

/-- NOREF of block PLL, which has a grace period of 60 s of its own (R169), still runs it. -/
def State.norefHolds (s : State) (b : Nat) : Bool :=
  b = 6 && s.srcSet 6 8 && ! s.srcMasked 6 8 && (s.incident 6).srcs.contains 8 && ! (s.incident 6).escd.contains 8

/-- The end of the grace period (R309, R310). A block PLL whose NOREF still runs its 60 s escalates the other sources and
stays in GRACE (R169). DEDUCED (log entry 69). -/
def State.graceEnd (s : State) (b : Nat) : State :=
  let left := (s.incident b).srcs.filter fun x => ! s.srcMasked b x
  let s1 := s.setIncident b { s.incident b with srcs := left }
  let hold := s1.norefHolds b
  let s2 := (left.filter fun x => ! (hold && x = 8)).foldl (fun s x => s.escalateSet b x) s1
  if hold then s2 else
  let s3 := (s2.setBlk b 2).setIncident b { s2.incident b with audits := left.map fun x => ⟨x, 0, false⟩, failed := false }
  if left = [] then s3.auditsPassed b else s3.blockTurn b

/-- The end of the quiet period (R311). -/
def State.quietEnd (s : State) (b : Nat) : State :=
  ((s.inc (FLT_BLKCNT_RECOV b)).postFault b 0x352 (s.faultDetail b)).closeIncident b

/-- FLT_BLKRST (R312): the audits of a LASTING block's incident run again. DEDUCED (log entry 27). -/
def State.blkRst (s : State) (key b : Nat) : State :=
  if key ≠ 0xB10C then s.setOn FLT_STATUS_KEYERR
  else if b > 23 then s.setOn FLT_STATUS_CFGERR
  else if s.blk b ≠ 4 then s.setOn FLT_STATUS_CFGERR
  else
    let i := s.incident b
    let s1 := s.setIncident b { i with audits := i.srcs.map fun x => ⟨x, 0, false⟩, failed := false }
    if i.srcs = [] then s1.auditsPassed b else s1.blockTurn b

end Sys2Proof.Machine
end

