-- ==== Sys2Proof/Machine/Frames.lean ====
section
/-! DEFINITION. The commands of escrow and of the slots at the stations: runs and their end (R132, R138, R140), the
close (R132 to R134), release, window and completion of a slot (R124, R134, R135), voids (R135 to R137) and the error of
a stored descriptor (R139). -/

namespace Sys2Proof.Machine

/-! What FRM shows of a port (R141). -/

/-- KIND of a slot: a slot that is void reads VOID. -/
def SlotRec.shown (r : SlotRec) : Nat := if r.voided.isSome then 3 else r.kind

/-- A port shows slot `k` of its station in a phase. -/
def State.showSlot (s : State) (n k phase : Nat) : State :=
  let r := s.slot k
  let tbl := r.desc.table (s.portStn n) * 2 ^ 24
  let s1 := ((s.setFld (FRM_PHASE_KIND n) r.shown).setFld (FRM_PHASE_PHASE n) phase).setFld (FRM_SLOT_SLOT n) k
  let s2 := (s1.setFld (FRM_FRAME_FRAME n) (if r.kind = 3 then noFrame else r.desc.frame)).setFld (FRM_LINE_LINE n) 0
  (s2.setFld (FRM_TABLELO_TABLE n) tbl).setFld (FRM_TABLEHI_TABLE n) (tbl / 2 ^ 32)

/-- A port shows no slot: in a frame gap of a run whose next slot is not released, or idle. -/
def State.showNone (s : State) (n phase : Nat) : State :=
  let s1 := ((s.setFld (FRM_PHASE_KIND n) 0).setFld (FRM_PHASE_PHASE n) phase).setFld (FRM_SLOT_SLOT n) 0xFFFFFFFF
  let s2 := (s1.setFld (FRM_FRAME_FRAME n) noFrame).setFld (FRM_LINE_LINE n) 0
  (s2.setFld (FRM_TABLELO_TABLE n) 0).setFld (FRM_TABLEHI_TABLE n) 0

/-- The slot released next at a station: released, not begun. -/
def State.nextReleased (s : State) (stn : Nat) : Option Nat :=
  (s.esc.slots.find? fun e => e.2.released.testBit stn && ! e.2.begun.testBit stn).map (·.1)

/-- What a port shows after a window: the slot released next, in the frame gap; else a gap while the run goes on, else
idle. -/
def State.showAfter (s : State) (n : Nat) : State :=
  match s.nextReleased (s.portStn n) with
  | some k => s.showSlot n k phGap
  | none => s.showNone n (if s.esc.expect.isSome ∨ s.esc.slots ≠ [] then phGap else phIdle)

/-- Every station the node serves has ended the slot's window. -/
def State.slotOver (s : State) (r : SlotRec) : Bool :=
  s.served.all (fun n => r.ended.testBit n) && (s.served ≠ [] || r.over * 2 ^ 16 ≤ s.wpos)

/-- A Worker forgets a slot that is over, and its extents lose the references. -/
def State.slotLeave (s : State) (k : Nat) : State :=
  if s.inFlight k ∧ s.slotOver (s.slot k) then (s.dropRefs k).setSlot k SlotRec.none else s

/-- A slot's window ends at a station (R124): the ports count it, void only where the slot is void (a TABLE of 0 is
imaged blank and is not, R126), and show what comes next. DEDUCED (log entry 33). -/
def State.windowEnd (s : State) (k stn : Nat) : State :=
  let r := s.slot k
  let s1 := s.setSlot k { r with ended := r.ended ||| 2 ^ stn }
  let s2 := eachPort (fun n s =>
    if s.fld (FRM_SLOT_SLOT n) = k ∧ s.portImaging n then
      let s' := if r.shown = 3 ∨ r.raisedAt stn = true then s.incWrap (FRM_VOID_VOID n)
        else s.incWrap (FRM_DONE_DONE n)
      s'.showAfter n
    else s) (s.portsOf stn) s1
  (s2.freeTiles k stn).slotLeave k

/-- A slot's window at a station is begun, not ended, and its last line lies behind WPOS. -/
def State.windowDue (s : State) (k stn : Nat) : Bool :=
  let r := s.slot k
  s.inFlight k && r.begun.testBit stn && ! r.ended.testBit stn && r.winTo stn * 2 ^ 16 ≤ s.wpos

/-- The windows of one slot that are due end. -/
def State.slotDue (s : State) (k : Nat) : List Nat → State
  | [] => s.slotLeave k
  | stn :: ns => (if s.windowDue k stn then s.windowEnd k stn else s).slotDue k ns

/-- Every window that is due on a Worker ends; ports in the gap of a run that is over go idle. -/
def State.windowsDue (s : State) : State :=
  if s.isWorker then
    let s1 := s.esc.slots.foldl (fun s e => s.slotDue e.1 s.served) s
    eachPort (fun n s =>
      if s.fld (FRM_PHASE_PHASE n) = phGap ∧ s.esc.slots = [] ∧ s.esc.expect.isNone then s.showNone n phIdle else s)
      [0, 1, 2, 3] s1
  else s

/-! Runs (R132, R138, R140). -/

/-- A write refused on this node: ESC_STATUS.CFGERR. -/
def State.escCfgErr (s : State) : State := s.setOn ESC_STATUS_CFGERR

/-- ESC_CTL.RUN written 1. -/
def State.runStart (s : State) : State :=
  if ¬ s.isManager then s.escCfgErr
  else if s.esc.runOpen then s
  else if s.runRefused then s.escCfgErr
  else s.runOpenAt

/-- RUN (R132, R140). -/
def execRun (s : State) : Host.Outcome State Fault Refusal := .next (if s.isOff then s else s.runStart)

/-- ESC_CTL.STOP written 1. -/
def State.stopWrite (s : State) : State := if s.isManager then s.stopRequest else s.escCfgErr

/-- STOP (R138, R140). -/
def execStop (s : State) : Host.Outcome State Fault Refusal := .next (if s.isOff then s else s.stopWrite)

/-- ESCROW_CLOSE: WPOS has reached EC of the next slot (R132). -/
def execEscrowClose (s : State) : Host.Outcome State Fault Refusal := .next (if s.isOff then s else s.escrowClose)

/-! Close records on a Worker (R134). -/

/-- The record of a slot as the Worker keeps it. -/
def slotOf (c : CloseRec) (g : Geo) : SlotRec :=
  ⟨c.kind, c.desc, c.x, c.ec, if c.kind = 3 then some c.reason else none, 0, 0, 0, [], [], g, 0⟩

/-- A slot made up for a record that did not come (R134). -/
def SlotRec.madeUp (r : SlotRec) : Bool := r.kind = 3 && r.ec = 0

/-- The held record and the new one are identical. -/
def SlotRec.same (r : SlotRec) (c : CloseRec) : Bool :=
  r.kind = c.kind && r.desc = c.desc && r.x = c.x && r.ec = c.ec && (c.kind ≠ 3 || r.voided = some c.reason)

/-- While the expected slot is held, the one after it is expected, from its own x, LENGTH and GAP, up to the slot an
end-of-run record names; `n` bounds the walk. -/
def State.expectOn (s : State) : Nat → State
  | 0 => s
  | n + 1 =>
    match s.esc.expect with
    | some (k, _, _, _) =>
      if s.esc.endAt = some k then s.setEsc { s.esc with expect := none, endAt := none }
      else if s.inFlight k then
        let r := s.slot k
        (s.setEsc { s.esc with
          basis := if r.madeUp then s.esc.basis else some k
          expect := some ((k + 1) % 2 ^ 32, r.x + r.desc.length + r.desc.gap, r.desc.length, r.desc.gap) }).expectOn n
      else s
    | none => s

/-- The expectation a new record leaves: unchanged while an earlier slot is awaited. -/
def State.expectFrom (s : State) (k : Nat) : State :=
  match s.esc.expect with
  | some _ => s.expectOn 64
  | none => (s.setEsc { s.esc with expect := some (k, 0, 0, 0) }).expectOn 64

/-- The expected slot lies after `k`: `k` is already over. -/
def State.slotOld (s : State) (k : Nat) : Bool :=
  match s.esc.expect with
  | some (k0, _, _, _) => k ≠ k0 && (k0 + 2 ^ 32 - k) % 2 ^ 32 < 2 ^ 31
  | none => false

/-- The record of a slot before the expected one: where no later record stands behind the expected x, x follows from
this one, the slots between counted as void (R134). DEDUCED (log entry 31). -/
def State.lateRecord (s : State) (c : CloseRec) : State :=
  match s.esc.expect with
  | some (k0, _, _, _) =>
    let gone := (k0 + 2 ^ 32 - c.slot) % 2 ^ 32
    let newer : Bool := match s.esc.basis with
      | some b => (k0 + 2 ^ 32 - b) % 2 ^ 32 ≤ gone
      | none => false
    if newer then s
    else s.setEsc { s.esc with
      basis := some c.slot
      expect := some (k0, c.x + gone * (c.desc.length + c.desc.gap), c.desc.length, c.desc.gap) }
  | none => s

/-- A close record on a Worker. -/
def State.closeTake (s : State) (c : CloseRec) : State :=
  if s.inFlight c.slot then
    if (s.slot c.slot).madeUp then s.lateRecord c
    else if (s.slot c.slot).same c then s
    else s.raise 4 2
  else if s.slotOld c.slot then s.lateRecord c
  else
    let s1 := s.fixGeo
    let s2 := if s1.esc.endAt = some c.slot then s1.setEsc { s1.esc with endAt := none } else s1
    (s2.setSlot c.slot (slotOf c s2.geo)).expectFrom c.slot

/-- CLOSE: a received close record; it goes on around the ring (R134, R356). -/
def execClose (h : Hdr) (c : CloseRec) (s : State) : Host.Outcome State Fault Refusal :=
  .next (s.onFrame h (.close c) fun s => if s.isWorker then s.closeTake c else s)

/-- On a Worker the expectation of the slot an end-of-run record names and of those after it ends; an earlier slot whose
record is still missing stays expected (R134). -/
def State.expectEnd (s : State) (slot : Nat) : State :=
  match s.esc.expect with
  | some (k0, _, _, _) =>
    if k0 ≠ slot ∧ (slot + 2 ^ 32 - k0) % 2 ^ 32 < 2 ^ 31 then s.setEsc { s.esc with endAt := some slot }
    else s.setEsc { s.esc with expect := none, endAt := none }
  | none => s

/-- ENDRUN: a received end-of-run record. The Standby learns from it that the run has ended (R134, R138). -/
def execEndrun (h : Hdr) (slot ec : Nat) (s : State) : Host.Outcome State Fault Refusal :=
  .next (s.onFrame h (.endrun slot ec) fun s =>
    if s.isWorker then (s.expectEnd slot).windowsDue
    else if s.isStandby then
      let endPos := s.esc.lastEnd.getD ec
      let s0 := (s.setFld ESC_ENDPOSLO_LINE endPos).setFld ESC_ENDPOSHI_LINE (endPos / 2 ^ 32)
      (s0.setEsc { s0.esc with runOpen := false, stopReq := false, prev := none }).escSync
    else s)

/-! Release, window, completion. -/

/-- The prefetcher reads the table of a released slot; one that lies in no SEALED extent voids the slot at once (R199,
R207), as does a release while the store is not READY (R392). DESIGN CHOICE (log entry 71). -/
def State.releaseTable (s : State) (k stn : Nat) : State :=
  let r := s.slot k
  if r.voided.isSome ∨ r.kind = 3 ∨ r.desc.table stn = 0 then s
  else if ¬ s.flag STO_STATUS_READY then s.voidReportNew k stn rsStore
  else if s.inSealed (r.desc.table stn * unitBytes) (s.tableLen r.desc stn) then s.fetchTable k stn
  else s.voidReportNew k stn rsTable

/-- A released slot is shown by the ports of its station that image none. -/
def State.releaseShow (s : State) (k stn : Nat) : State :=
  eachPort (fun n s =>
    if s.portImaging n ∨ s.nextReleased stn ≠ some k then s
    else s.showSlot n k (if s.portIdle n then phReleased else s.fld (FRM_PHASE_PHASE n))) (s.portsOf stn) s

/-- SLOT_RELEASE: R(k, n) has passed and the close record is here: the slot is released to the station, and the prefetcher
reads its frame table (R134). -/
def execSlotRelease (slot stn : Nat) (s : State) : Host.Outcome State Fault Refusal :=
  .next (
    if s.isOff then s else
    let r := s.slot slot
    if s.isWorker ∧ s.inFlight slot ∧ s.served.contains stn ∧ ¬ r.released.testBit stn
        ∧ (r.ec + r.geo.lag stn) * 2 ^ 16 ≤ s.wpos then
      let s1 := s.setSlot slot { r with released := r.released ||| 2 ^ stn }
      ((s1.releaseShow slot stn).releaseTable slot stn).tevEscMask
    else s)

/-- NOCLOSE: at a station the node serves WPOS has reached the first line of the expected slot and no record of it has
come: the slot is imaged blank and reported (R134). DEDUCED (log entry 31). A Worker of several stations reports the
missing record once, naming the station whose first line is reached first. DESIGN CHOICE (log entry 77). -/
def execNoclose (stn : Nat) (s : State) : Host.Outcome State Fault Refusal :=
  .next (
    if s.isOff then s else
    match s.esc.expect with
    | some (k, x, len, gap) =>
      if s.isWorker ∧ s.served.contains stn ∧ (x + s.lag stn) * 2 ^ 16 ≤ s.wpos ∧ ¬ s.inFlight k then
        let mask := s.served.foldl (fun m n => m ||| 2 ^ n) 0
        let s1 := (s.setSlot k ⟨3, Desc.void len gap, x, 0, none, mask, 0, 0, [], [], s.geo, 0⟩).raise 4 1
        (s1.voidReportNew k stn rsNoclose).expectOn 64
      else s
    | none => s)

/-- A port's window is barred: the slot is void. -/
def State.windowVoid (s : State) (k stn n : Nat) (b : Nat × Option Nat) : State :=
  match b.2 with
  | some inc => s.voidRaise [n] k stn b.1 inc 0
  | none => s.voidRaiseNew [n] k stn b.1

/-- The sweep that runs as a window begins images none of it, at any port of the station (R136 step 1, R151 step 5). -/
def State.darkPorts (s : State) (k stn : Nat) : State :=
  eachPort (fun n s => s.mapHead n fun h => { h with dark := k :: h.dark.filter fun j => j ≠ k }) (s.portsOf stn) s

/-- A port begins a slot's window: it images, or is blank for a void slot, a TABLE of 0 or while INHIBIT is set. -/
def State.windowBegin (s : State) (k stn n : Nat) : State :=
  let r := s.slot k
  let dark : Bool := r.shown = 3 || r.darkAt stn 0 || r.desc.table stn = 0 || s.inhibit
  let s0 := s.showSlot n k (if dark then phBlanking else phImaging)
  let s1 := if r.shown = 3 ∨ r.darkAt stn 0 then s0.darkPorts k stn else s0
  if r.shown = 3 ∨ r.raisedAt stn = true ∨ r.desc.table stn = 0 then s1
  else match s.windowBar n with
    | some b => (s1.windowVoid k stn n b).darkPorts k stn
    | none => s1

/-- SLOT_WINDOW_START: WPOS has reached the first line of the slot at a station (R124). A port that shows an earlier
slot ends it first. -/
def execSlotWindowStart (slot stn : Nat) (s : State) : Host.Outcome State Fault Refusal :=
  .next (
    if s.isOff then s else
    let s0 := s.windowsDue
    let r := s0.slot slot
    if s0.isWorker ∧ s0.inFlight slot ∧ s0.served.contains stn ∧ r.released.testBit stn ∧ ¬ r.begun.testBit stn
        ∧ r.winFrom stn * 2 ^ 16 ≤ s0.wpos then
      let s1 := s0.setSlot slot { r with begun := r.begun ||| 2 ^ stn }
      eachPort (fun n s => s.windowBegin slot stn n) (s0.portsOf stn) s1
    else s0)

/-- SLOT_COMPLETE: a slot that is not void has left its last station: FRAME_DONE (R135); the Standby follows without a
record. -/
def execSlotComplete (slot : Nat) (s : State) : Host.Outcome State Fault Refusal :=
  .next (
    if s.isOff then s else
    let r := s.slot slot
    if (s.isManager ∨ s.isStandby) ∧ s.inFlight slot ∧ r.over * 2 ^ 16 ≤ s.wpos then
      let s1 := (s.setSlot slot SlotRec.none).escCount ESC_DONECNT_COUNT
      (s1.frameRecord 0x200 r.desc.frame 0 0 r.x).tevEscMask.escSync
    else s)

/-! Voids. -/

/-- A report is the request of a Worker's ESC_VOIDREQ, which carries incident 0 (R140). -/
def voidIsRequest (v : VoidRec) : Bool := v.reason = rsRequest && v.incident = 0

/-- A void report on the Manager: the slot is void for every node; a request for a slot that is not in flight is refused
(R136 step 3, R140). -/
def State.voidReported (s : State) (v : VoidRec) : State :=
  if voidIsRequest v ∧ ¬ s.inFlight v.slot then s.escCfgErr else s.voidSlot v.slot v.reason v.station v.incident

/-- VOIDREP: a Worker's report reaches the Manager (R136 step 3). -/
def execVoidrep (h : Hdr) (v : VoidRec) (s : State) : Host.Outcome State Fault Refusal :=
  .next (s.onFrame h (.voidrep v) fun s => if s.isManager then s.voidReported v else s)

/-- VOID: a void record: each station the node serves acts by where its window stands (R136 step 4). -/
def execVoid (h : Hdr) (v : VoidRec) (s : State) : Host.Outcome State Fault Refusal :=
  .next (s.onFrame h (.void v) fun s =>
    if s.isWorker ∧ s.inFlight v.slot then (s.voidLocal v.slot v.reason).tevEscMask else s)

/-- ESC_VOIDREQ (R140): the Manager voids the slot; a Worker sends the request to the Manager. The manual gives no effect
elsewhere: nothing happens. DESIGN CHOICE (log entry 70). -/
def State.voidRequest (s : State) (k : Nat) : State :=
  if s.isManager then if s.inFlight k then s.voidSlot k rsRequest (s.slot k).geo.lead 0 else s.escCfgErr
  else if s.isWorker then
    s.ringUni s.mgrEp (.voidrep ⟨k, rsRequest, s.served.headD 0, 0, noFrame⟩)
  else s

/-- ESC_VOIDREQ (R140). -/
def execEscVoidreq (slot : Nat) (s : State) : Host.Outcome State Fault Refusal := .next (if s.isOff then s else s.voidRequest slot)

/-- The `i`-th waiting frame is marked damaged with an incident. -/
def markBad (inc : Nat) : Nat → List Waiting → List Waiting
  | _, [] => []
  | 0, w :: ws => { w with bad := some inc } :: ws
  | i + 1, w :: ws => w :: markBad inc i ws

/-- DESCRIPTOR_ECC_ERROR: an uncorrectable error in the stored descriptor of the `i`-th frame waiting in escrow, or of
the closed slot `i` (R139). -/
def execDescriptorEccError (waiting : Bool) (i : Nat) (s : State) : Host.Outcome State Fault Refusal :=
  .next (
    if s.isOff then s else
    if ¬ s.isManager then s
    else if waiting then
      if i < s.esc.ahead.length then
        let s1 := s.raise 4 0
        s1.setEsc { s1.esc with ahead := markBad (s1.incOf 4) i s1.esc.ahead }
      else s
    else if s.inFlight i then
      let s1 := s.raise 4 0
      s1.voidSlot i rsDescecc (s1.slot i).geo.lead (s1.incOf 4)
    else s)

end Sys2Proof.Machine
end

