-- ==== Sys2Proof/Machine/Ingest.lean ====
section
/-! DEFINITION. Ingest of station frames (R200, R201, R350, R351): the parameter block, the datagrams of a stream, the
coding and placement of tiles, completion and failure. -/

namespace Sys2Proof.Machine

/-- Tile columns of a station of P positions, and rows of a frame. -/
def colsOf (npos : Nat) : Nat := (12992 * npos + 4095) / 4096
def rowsOf (len : Nat) : Nat := (len + 31) / 32

/-- Bytes per line of an ingest: half its pixels, rounded up (R201, R351). -/
def Ingest.lineBytes (g : Ingest) : Nat :=
  (min (12992 * g.npos) (4096 * (g.colLast + 1)) - 4096 * g.colFirst + 1) / 2

/-- The parameter block of R200 in eight words. -/
def ingestOf (acct : Nat) (ws : List Nat) : Nat × Ingest :=
  let w (i : Nat) : Nat := ws.getD i 0
  (w 0 % 2 ^ 16,
   { stream := w 0 / 2 ^ 16, frame := w 1, length := w 2 % 2 ^ 24, station := w 2 / 2 ^ 24, npos := w 3 % 256
     colFirst := w 3 / 256 % 256, colLast := w 3 / 2 ^ 16 % 256, raw := w 3 / 2 ^ 24 % 2 = 1, acct := acct
     dseq := 0, line := 0, cur := [], rows := [], row := 0, addr := 0, entries := [], block := [], at_ := .lines })

/-- INGEST of R200: a status and the state. -/
def State.ingestDo (s : State) (acct : Nat) (ws : List Nat) : Nat × State :=
  let (ext, g) := ingestOf acct ws
  let e := s.extent ext
  let cells := rowsOf g.length * colsOf g.npos
  if g.length = 0 ∨ g.station ≥ 16 ∨ g.npos = 0 ∨ g.npos > 8 ∨ g.npos ≠ tabGet 0 s.esc.modPos g.station
      ∨ g.colFirst > g.colLast ∨ g.colLast ≥ colsOf g.npos ∨ ws.getD 3 0 / 2 ^ 25 ≠ 0
      ∨ (ws.drop 4).any (fun x => x ≠ 0) ∨ cells > 262144 ∨ e.state = 0 ∨ e.owner ≠ acct
      ∨ 64 + 8 * cells > e.units * unitBytes then (stBadArg, s)
  else if e.state ≠ 1 ∨ s.store.ingests.length ≥ 16 then (stBusy, s)
  else
    let first := (64 + 8 * cells + 4095) / 4096 * 4096
    let s1 := s.setExtent ext { e with state := 2 }
    (stOk, s1.setStore { s1.store with ingests := tabSet none s1.store.ingests ext (some { g with addr := first }) })

/-- CANCEL of R339: fails an open ingest of the account's extent. -/
def State.cancelDo (s : State) (acct ext : Nat) : Nat × State :=
  let e := s.extent ext
  if e.state ≠ 2 ∨ e.owner ≠ acct then (stBadArg, s) else (stOk, s.ingestFail ext 5)

/-! Tiles of a row. -/

/-- The 4,096 levels of a line of a tile column, level 0 past what the stream carries. -/
def Ingest.tileLine (g : Ingest) (c : Nat) (line : List Byte) : List Nat :=
  let ls := unpackLevels ((line.drop ((c - g.colFirst) * 2048)).take 2048)
  ls ++ List.replicate (4096 - ls.length) 0

/-- The 32 lines of a tile of the present row, level 0 past LENGTH. -/
def Ingest.tileLines (g : Ingest) (c : Nat) : List (List Nat) :=
  let ls := g.rows.map (g.tileLine c)
  ls ++ List.replicate (32 - ls.length) blankLine

/-- Bytes of an ingest's tiles follow in its extent: whole blocks of 4,096 bytes are written, so that every Write is of
whole LBAs, the rest waits for what follows. DESIGN CHOICE (log entry 71). -/
def State.ingestBytes (s : State) (ext : Nat) (g : Ingest) (bs : List Byte) : State :=
  let all := g.block ++ bs
  let n := all.length / 4096 * 4096
  let a := (s.extent ext).base * unitBytes + g.addr - g.block.length
  let s1 := s.setStore { s.store with ingests := tabSet none s.store.ingests ext (some { g with
    block := all.drop n, addr := g.addr + bs.length }) }
  if n = 0 then s1 else s1.storeWrite ext a (all.take n)

/-- The tile of column `c` is coded and written at the next 16-byte boundary, padded with zeros, or the ingest fails with
OVERRUN (R201, R203, R205). A blank tile, for which nothing is stored, counts in none of MNT_TILES, MNT_INMB and
MNT_OUTMB; R214 says so of MNT_TILES only. DESIGN CHOICE (log entry 77). -/
def State.ingestTile (s : State) (ext : Nat) (g : Ingest) (c : Nat) : State :=
  match codeTile g.raw (g.tileLines c) g.frame g.station g.row c with
  | none => s
  | some (raw, bs) =>
    let e := s.extent ext
    let size := (bs.length + 15) / 16
    match tabGet none s.store.ingests ext with
    | none => s
    | some g' =>
      if g'.addr + bs.length > e.units * unitBytes then s.ingestFail ext 1
      else
        let entry := size * 2 ^ 48 + (e.base * unitBytes + g'.addr)
        let g'' := { g' with entries := tabSet 0 g'.entries (g'.row * colsOf g'.npos + c) entry }
        let s1 := s.setStore { s.store with
          inBytes := s.store.inBytes + 65536, outBytes := s.store.outBytes + 16 * size }
        let s2 := s1.inc MNT_TILES_COUNT
        (if raw then s2.inc MNT_RAWTILES_COUNT else s2).ingestBytes ext g''
          (bs ++ List.replicate (16 * size - bs.length) 0)

/-- The tiles of columns `c` up of the present row. -/
def State.ingestCols (s : State) (ext : Nat) (g : Ingest) (c : Nat) : Nat → State
  | 0 => s
  | fuel + 1 => if c > g.colLast then s else (s.ingestTile ext g c).ingestCols ext g (c + 1) fuel

/-- A tile row is complete: its tiles are coded, the next row begins; after the last one the rest of the bytes is written,
padded to a block. -/
def State.ingestRow (s : State) (ext : Nat) (g : Ingest) : State :=
  let s1 := s.ingestCols ext g g.colFirst 32
  match tabGet none s1.store.ingests ext with
  | none => s1
  | some g' =>
    let g1 := { g' with rows := [], row := g'.row + 1, block := if g'.line = g'.length then [] else g'.block }
    let s2 := s1.setStore { s1.store with ingests := tabSet none s1.store.ingests ext (some g1) }
    if g'.line = g'.length ∧ g'.block ≠ [] then
      s2.storeWrite ext ((s1.extent ext).base * unitBytes + g'.addr - g'.block.length)
        (g'.block ++ List.replicate (4096 - g'.block.length) 0)
    else s2

/-! Datagrams. -/

/-- The open ingest of a stream. Two ingests may name one stream; its datagrams then go to that of the lower extent.
DESIGN CHOICE (log entry 77). -/
def State.ingestBy (s : State) (stream : Nat) : Option (Nat × Ingest) :=
  s.store.ingests.findSome? fun e => match e.2 with
    | some g => if g.stream = stream then some (e.1, g) else none
    | none => none

/-- A stream's sequence gap or overflow: the ingest fails with GAP, and the violation is reported to its account
(R201, R331). -/
def State.streamGap (s : State) (ext : Nat) (g : Ingest) : State :=
  ((s.ingestFail ext 2).inc NET_STRMERR_COUNT).violation (0x10000 + g.stream) true g.acct

/-- Data of a datagram in order: the line grows; a whole line joins the tile row, a whole row is coded. -/
def State.ingestData (s : State) (ext : Nat) (g : Ingest) (data : List Byte) : State :=
  let cur := g.cur ++ data
  let put (s : State) (g : Ingest) : State :=
    s.setStore { s.store with ingests := tabSet none s.store.ingests ext (some g) }
  if cur.length < g.lineBytes then put s { g with dseq := g.dseq + 1, cur := cur }
  else
    let g' := { g with dseq := g.dseq + 1, cur := [], rows := g.rows ++ [cur], line := g.line + 1 }
    let s1 := put s g'
    if g'.rows.length = 32 ∨ g'.line = g'.length then s1.ingestRow ext g' else s1

/-- The payload of a datagram for the ingest port p: the header of R350 and its data (R351).
DESIGN CHOICE (log entry 77). -/
def State.ingestPayload (s : State) (p : Nat) (bytes : List Byte) : State :=
  let f (k n : Nat) : Nat := ofLe ((bytes.drop k).take n)
  let data := bytes.drop 20
  if p ≥ 2 ∨ ¬ s.flag (NET_CTL_EN p) then s
  else if bytes.length < 20 ∨ f 0 2 ≠ 0x494B ∨ f 2 1 ≠ 1 then s.inc NET_STRMERR_COUNT
  else match s.ingestBy (f 4 2) with
    | none => s.inc NET_STRMERR_COUNT
    | some (ext, g) =>
      if f 8 4 = g.dseq ∧ f 12 3 = g.line ∧ f 16 4 = g.cur.length ∧ data ≠ [] ∧ data.length ≤ 8192 ∧
          g.line < g.length ∧ g.cur.length + data.length ≤ g.lineBytes then
        s.ingestData ext g data
      else s.streamGap ext g

/-- INGEST_DATAGRAM (R350, R351). -/
def execIngestDatagram (p : Nat) (bytes : List Byte) (s : State) : Host.Outcome State Fault Refusal :=
  .next (if s.isOff then s else s.ingestPayload p bytes)

/-! The frame table. -/

/-- The bytes of entries 0 up of a table. -/
def entryBytes (t : Tab Nat) (i : Nat) : Nat → List Byte
  | 0 => []
  | n + 1 => leBytes 8 (tabGet 0 t i) ++ entryBytes t (i + 1) n

/-- The frame table of a finished ingest (R127, R128). -/
def Ingest.table (g : Ingest) : List Byte :=
  let rows := rowsOf g.length
  let cols := colsOf g.npos
  let es := entryBytes g.entries 0 (rows * cols)
  let h := leBytes 4 0x42415446 ++ leBytes 4 g.frame ++ leBytes 3 g.length ++ leBytes 1 g.station ++ leBytes 1 cols
    ++ leBytes 3 0 ++ leBytes 4 rows ++ List.replicate 36 0 ++ leBytes 4 (crc32c es)
  h ++ leBytes 4 (crc32c h) ++ es

/-- The table as it is written: whole blocks of 4,096 bytes. -/
def Ingest.tableBlocks (g : Ingest) : List Byte :=
  g.table ++ List.replicate ((4096 - g.table.length % 4096) % 4096) 0

/-- INGEST_COMPLETE: after the last tile is written the table is written; its completions bring the Flush, the seal and
INGEST_DONE (`ingestNext`, R201). -/
def execIngestComplete (ext : Nat) (s : State) : Host.Outcome State Fault Refusal :=
  .next (
    if s.isOff then s else
    match tabGet none s.store.ingests ext with
    | none => s
    | some g =>
      if g.at_ = .lines ∧ g.line = g.length ∧ g.rows = [] ∧ s.writesDone ext then
        (s.setStore { s.store with ingests := tabSet none s.store.ingests ext (some { g with at_ := .table }) }).storeWrite
          ext ((s.extent ext).base * unitBytes) g.tableBlocks
      else s.ingestNext ext)

/-- INGEST_TIMEOUT: no stream data for STO_INGTO ms (R201). -/
def execIngestTimeout (ext : Nat) (s : State) : Host.Outcome State Fault Refusal := .next (if s.isOff then s else s.ingestFail ext 3)

end Sys2Proof.Machine
end

