-- ==== Sys2Proof/Machine/Control.lean ====
section
/-! DEFINITION. Branches and jumps (R75), the system operations that touch no shared unit (R77), waiting for events
(R81), the watchdog (R82), traps of the fetch (R65, R75) and of the register fabric (R84). -/

namespace Sys2Proof.Machine

/-- A jump target outside program memory or misaligned (R75). -/
def badTarget (w : Word) : Bool := w.toNat ≥ pmSize || w.toNat % 4 ≠ 0

/-- A branch, taken or not; `link` writes g31 when taken (R75). -/
def branch (t : Nat) (c : Cond) (off : BitVec 22) (link : Bool) (s : State) : Host.Outcome State Fault Refusal :=
  .next (s.execI t fun s =>
    let x := s.teller t
    let target := x.pc + sext22 off * 4
    if ¬ condHolds x c then s.mapTeller t fun x => x.adv 1
    else if badTarget target then s.trap t trPaddr target.toNat
    else s.mapTeller t fun x => (if link then x.setG 31 (x.pc + 4) else x).jump target)

/-- B.cond (R75). -/
def execB (t : Nat) (cond : Cond) (off : BitVec 22) (s : State) : Host.Outcome State Fault Refusal :=
  branch t cond off false s

/-- BL.cond: writes the return address to g31 when taken (R75). -/
def execBl (t : Nat) (cond : Cond) (off : BitVec 22) (s : State) : Host.Outcome State Fault Refusal :=
  branch t cond off true s

/-- JMPR: gd := PC + 4, PC := gs + sext(imm) (R74). -/
def execJmpr (t rd rs : Nat) (imm : BitVec 16) (s : State) : Host.Outcome State Fault Refusal :=
  .next (s.execI t fun s =>
    let x := s.teller t
    let target := x.getG rs + sext16 imm
    if badTarget target then s.trap t trPaddr target.toNat
    else s.mapTeller t fun x => (x.setG rd (x.pc + 4)).jump target)

/-- FENCE: waits until every earlier WRR has taken effect (R77). -/
def execFence (t : Nat) (s : State) : Host.Outcome State Fault Refusal :=
  .next (s.execD t (fun _ => none) fun s => s.mapTeller t fun x => x.adv 1)

/-- HALT: the teller halts with PC at the next instruction (R77). -/
def execHalt (t : Nat) (s : State) : Host.Outcome State Fault Refusal :=
  .next (s.execR t fun x => { x.adv 1 with st := .halted })

/-- TRAP #k: trap TRAP with TLR_TVALn := k; the saved address is the next instruction's (R77, R89). -/
def execTrap (t k : Nat) (s : State) : Host.Outcome State Fault Refusal :=
  .next (s.execI t fun s => s.trapWith t trTrap (k % 32) true)

/-- ERET: PC := TLR_EPCn and TM := 0; illegal when TM = 0 (R77). -/
def execEret (t : Nat) (s : State) : Host.Outcome State Fault Refusal :=
  .next (s.execI t fun s =>
    if (s.teller t).tm then
      s.mapTeller t fun x => { x.jump (BitVec.ofNat 32 (s.fld (TLR_EPC_VALUE t))) with tm := false }
    else s.trap t trIllegal 0xE0000003)

/-- BRK: trap BRK; TLR_TVALn is the instruction word (R88). -/
def execBrk (t : Nat) (s : State) : Host.Outcome State Fault Refusal :=
  .next (s.execI t fun s => s.trap t trBrk 0xE0000004)

/-- RDCYC: gd := CYC (R77). -/
def execRdcyc (t rd : Nat) (s : State) : Host.Outcome State Fault Refusal :=
  .next (s.execR t fun x => (x.setG rd x.cyc).adv 1)

/-- The capture of WAITEV: the pending masked bits go to gd and are cleared (R81). -/
def Teller.capture (x : Teller) (rd : Nat) (mask : Word) : Teller :=
  { x.setG rd (x.tev &&& mask) with tev := x.tev &&& ~~~(x.tev &&& mask) }

/-- WAITEV: completes at once with bits pending or a mask of 0, else the teller waits (R81). -/
def execWaitev (t rd rs : Nat) (s : State) : Host.Outcome State Fault Refusal :=
  .next (s.execD t (fun _ => none) fun s =>
    let x := s.teller t
    let mask := x.getG rs
    if x.tev &&& mask ≠ 0 ∨ mask = 0 then s.mapTeller t fun x => (x.capture rd mask).adv 1
    else s.mapTeller t fun x => { x with st := .waiting, wait := .ev rd mask })

/-- WAITEV_RESUME: a waiting WAITEV whose mask meets TEV captures and completes (R81). -/
def execWaitevResume (t : Nat) (s : State) : Host.Outcome State Fault Refusal :=
  .next (if s.isOff then s else match (s.teller t).wait with
    | .ev rd mask =>
      if (s.teller t).tev &&& mask ≠ 0 then
        s.mapTeller t fun x => ({ x with st := .running, wait := .none }.capture rd mask).adv 2
      else s
    | _ => s)

/-- TELLER_WATCHDOG: a wait that outlasts a non-zero period raises WDOG at its instruction (R82).
DESIGN CHOICE (log entry 35). -/
def execTellerWatchdog (t : Nat) (s : State) : Host.Outcome State Fault Refusal :=
  .next (if s.isOff then s else if (s.teller t).st = .waiting ∧ s.fld (TLR_WDOG_US t) ≠ 0 then
      s.trap t trWdog (s.fld (TLR_WDOG_US t))
    else s)

/-- EVCLR: TEV := TEV AND NOT gs (R77). -/
def execEvclr (t rs : Nat) (s : State) : Host.Outcome State Fault Refusal :=
  .next (s.execR t fun x => { x with tev := x.tev &&& ~~~ x.getG rs }.adv 1)

/-- A status code in gd, and the instruction's cycles. -/
def State.answer (s : State) (t rd status cycles : Nat) : State :=
  s.mapTeller t fun x => (x.setG rd (BitVec.ofNat 32 status)).adv cycles

/-- TSIG: event bit b of teller gs; BADARG for gs > 15 or b > 15 (R77). -/
def execTsig (t rd rs b : Nat) (s : State) : Host.Outcome State Fault Refusal :=
  .next (s.execD t (fun _ => none) fun s =>
    let u := ((s.teller t).getG rs).toNat
    if u > 15 ∨ b > 15 then s.answer t rd stBadArg 2 else (s.setTev u b).answer t rd stOk 2)

/-- The word in program memory at a byte address. -/
def State.pmWord (s : State) (a : Nat) : Word := BitVec.ofNat 32 (memLoad s.pm a 4)

/-- ILLEGAL_WORD_FETCH: the word at PC is illegal and raises ILLEGAL, or PC has run past program memory and the fetch
raises PADDR; nothing else happens (R65, R75). -/
def execIllegalWordFetch (t : Nat) (s : State) : Host.Outcome State Fault Refusal :=
  .next (
    if s.isOff then s else
    let x := s.teller t
    if t < 16 ∧ x.st = .running ∧ x.wait = .none ∧ x.pc.toNat ≥ pmSize then s.trap t trPaddr x.pc.toNat
    else s.execI t fun s =>
      let w := s.pmWord x.pc.toNat
      if (decodeWord t w).isNone then s.trap t trIllegal w.toNat else s)

/-- FABRIC_TIMEOUT: an unanswered WRR at the head of the queue discards the queue and is reported at the next
instruction that waits for it; an unanswered RDR at an address is reported at the RDR itself (R74, R84).
DESIGN CHOICE (log entry 14). -/
def execFabricTimeout (t : Nat) (rdr : Option Nat) (s : State) : Host.Outcome State Fault Refusal :=
  .next (if s.isOff then s else match rdr with
    | some a => s.execD t (fun _ => none) fun s => s.trap t trBuserr a
    | none =>
      match (s.teller t).wrrq with
      | [] => s
      | (a, _) :: _ => (s.mapTeller t fun x => { x with wrrq := [], busErr := some a }).tellerResetDue t)

end Sys2Proof.Machine
end

