-- ==== Sys2Proof/Machine/DataAccess.lean ====
section
/-! DEFINITION. Loads, stores and the atomic operations on data memory (R62, R68, R74, R85). -/

namespace Sys2Proof.Machine

/-- The address of a format I access: gs + sext(imm). -/
def Teller.ea (x : Teller) (rs : Nat) (imm : BitVec 16) : Nat := (x.getG rs + sext16 imm).toNat

/-- A load of `len` bytes into gd, extended by `ext` (R74): 2 cycles. -/
def loadG (t rd rs len : Nat) (imm : BitVec 16) (ext : Nat → Word) (s : State) : Host.Outcome State Fault Refusal :=
  .next (s.execI t fun s =>
    let a := (s.teller t).ea rs imm
    s.access t a len len true fun s => s.mapTeller t fun x => (x.setG rd (ext (memLoad s.dm a len))).adv 2)

/-- A store of the low `len` bytes of gt (R74). A half-word or byte reads its word first and so may raise MEMERR; a
word is written with fresh check bits (R62). -/
def storeG (t rt rs len cycles : Nat) (imm : BitVec 16) (s : State) : Host.Outcome State Fault Refusal :=
  .next (s.execI t fun s =>
    let a := (s.teller t).ea rs imm
    s.access t a len len (len < 4) fun s =>
      (s.dmStore a len ((s.teller t).getG rt).toNat).mapTeller t fun x => x.adv cycles)

/-- LW (R74). -/
def execLw (t rd rs : Nat) (imm : BitVec 16) (s : State) : Host.Outcome State Fault Refusal :=
  loadG t rd rs 4 imm (fun v => BitVec.ofNat 32 v) s

/-- LH: sign-extended (R74). -/
def execLh (t rd rs : Nat) (imm : BitVec 16) (s : State) : Host.Outcome State Fault Refusal :=
  loadG t rd rs 2 imm (fun v => (BitVec.ofNat 16 v).signExtend 32) s

/-- LHU: zero-extended (R74). -/
def execLhu (t rd rs : Nat) (imm : BitVec 16) (s : State) : Host.Outcome State Fault Refusal :=
  loadG t rd rs 2 imm (fun v => (BitVec.ofNat 16 v).zeroExtend 32) s

/-- LB: sign-extended (R74). -/
def execLb (t rd rs : Nat) (imm : BitVec 16) (s : State) : Host.Outcome State Fault Refusal :=
  loadG t rd rs 1 imm (fun v => (BitVec.ofNat 8 v).signExtend 32) s

/-- LBU: zero-extended (R74). -/
def execLbu (t rd rs : Nat) (imm : BitVec 16) (s : State) : Host.Outcome State Fault Refusal :=
  loadG t rd rs 1 imm (fun v => (BitVec.ofNat 8 v).zeroExtend 32) s

/-- SW: 1 cycle (R74). -/
def execSw (t rt rs : Nat) (imm : BitVec 16) (s : State) : Host.Outcome State Fault Refusal :=
  storeG t rt rs 4 1 imm s

/-- SH: 2 cycles (R74). -/
def execSh (t rt rs : Nat) (imm : BitVec 16) (s : State) : Host.Outcome State Fault Refusal :=
  storeG t rt rs 2 2 imm s

/-- SB: 2 cycles (R74). -/
def execSb (t rt rs : Nat) (imm : BitVec 16) (s : State) : Host.Outcome State Fault Refusal :=
  storeG t rt rs 1 2 imm s

/-- PLD: pd := the 8 bytes at an 8-byte aligned address (R74). -/
def execPld (t pd rs : Nat) (imm : BitVec 16) (s : State) : Host.Outcome State Fault Refusal :=
  .next (s.execI t fun s =>
    let a := (s.teller t).ea rs imm
    s.access t a 8 8 true fun s => s.mapTeller t fun x => (x.setP pd (BitVec.ofNat 64 (memLoad s.dm a 8))).adv 3)

/-- PST: stores pt to 8 bytes, both words with fresh check bits (R62, R74). -/
def execPst (t rt rs : Nat) (imm : BitVec 16) (s : State) : Host.Outcome State Fault Refusal :=
  .next (s.execI t fun s =>
    let a := (s.teller t).ea rs imm
    s.access t a 8 8 false fun s => (s.dmStore a 8 ((s.teller t).getP rt).toNat).mapTeller t fun x => x.adv 2)

/-- An atomic operation: gd := the word at address gs, the word := f old gt (R68). -/
def atomicOp (t rd rs rt : Nat) (f : Word → Word → Word) (s : State) : Host.Outcome State Fault Refusal :=
  .next (s.execI t fun s =>
    let a := ((s.teller t).getG rs).toNat
    s.access t a 4 4 true fun s =>
      let old := BitVec.ofNat 32 (memLoad s.dm a 4)
      (s.dmStore a 4 (f old ((s.teller t).getG rt)).toNat).mapTeller t fun x => (x.setG rd old).adv 3)

/-- XADD: word := old + gt (R68). -/
def execXadd (t rd rs rt : Nat) (s : State) : Host.Outcome State Fault Refusal :=
  atomicOp t rd rs rt (fun old v => old + v) s

/-- XSWAP: word := gt (R68). -/
def execXswap (t rd rs rt : Nat) (s : State) : Host.Outcome State Fault Refusal :=
  atomicOp t rd rs rt (fun _ v => v) s

end Sys2Proof.Machine
end

