-- ==== Sys2Proof/Machine/Mirror.lean ====
section
/-! DEFINITION. What the mirrored operations do to ledger, locks and escrow (R320, R327, R341): the effect of a mailbox command
as both nodes of the pair perform it, and on the Standby the effects of mirror records, which take place in MSEQ order. The
record of a TELLER_OP does not name the instruction's operands: its effect waits for the Standby's teller to reach the
instruction, and the records behind it wait with it. -/

namespace Sys2Proof.Machine

def State.setMirror (s : State) (m : Mirror) : State := { s with mirror := m }

/-- A body is 64 bytes. -/
def body64 (bs : List Byte) : List Byte := (bs ++ List.replicate 64 0).take 64

/-- The local number of the ledger (R24). -/
def epLedger : Nat := 0x58D

/-- The bytes of mailbox words. DESIGN CHOICE (log entry 23). -/
def wordBytes (ws : List Nat) : List Byte := ws.flatMap fun w => leBytes 4 w

/-- The body an account holds. -/
def State.bodyOf (s : State) (a : Nat) : List Byte := tabGet [] s.bodies a

def State.setBody (s : State) (a : Nat) (b : List Byte) : State := { s with bodies := tabSet [] s.bodies a b }

/-- A lock held by a teller: on the Standby one of its own (R120). -/
def lockByTeller (k : Lock) : Bool :=
  match k.holder with
  | some (.teller _ _) => true
  | _ => false

/-- A lock held by a host account. -/
def lockByHost (k : Lock) : Bool :=
  match k.holder with
  | some (.host _) => true
  | _ => false

/-- An order is taken by a teller; its ABANDONED mark clears (R113, R116). -/
def State.takeDo (s : State) (t h : Nat) (o : Order) : State :=
  s.setOrder h (some { o with taker := some t, aband := false })

/-- A frame the Manager accepted takes its place in escrow, unless a takeover has closed it before its commit was known. -/
def State.commitMirrored (s : State) (d : Desc) (late : Bool) : State :=
  if s.mirror.early.contains d.frame then s.setMirror { s.mirror with early := s.mirror.early.erase d.frame }
  else s.commitAccept d late

/-- The effect of a mailbox command beside its reply, as both nodes of the pair perform it (R341): BODY, SUBMIT, SEND, COMMIT,
LACQ and LREL with the reply word the Manager gave. A lock that a teller of this node holds stays as it is: on the Standby
locks belong to its own tellers (R120). DESIGN CHOICE (log entry 70). -/
def State.hostEffect (s : State) (a code : Nat) (ws : List Nat) (reply : Nat) : State :=
  let st := reply % 256
  let l := ws.getD 0 0
  if code = 1 ∧ st = stOk then s.setBody a (wordBytes ws)
  else if code = 2 ∧ st = stOk then
    (s.submitMirrored (reply / 65536 % 4096) (s.book a (bits l 3 0)).next a l (ws.getD 1 0) (s.bodyOf a)).setBody a []
  else if code = 3 ∧ st = stOk then s.setBody a []
  else if code = 4 ∧ (st = stOk ∨ st = stLate) then s.commitMirrored (Desc.ofBytes (wordBytes ws)) (st = stLate)
  else if code = 5 ∧ (st = stOk ∨ st = stAbandoned) ∧ ¬ lockByTeller (s.lock l) then s.lacqDo l (.host a)
  else if code = 6 ∧ st = stOk ∧ (s.lock l).holder = some (.host a) then s.lrelDo l
  else s

/-! Settlement on the Standby. -/

/-- The orders of a book before `o`, which the ledger has settled itself, are settled (R117).
DEDUCED (log entry 17). -/
def State.settleBefore (s : State) (o : Order) : State :=
  ((s.inBook o.acct o.book).filter fun e => s.pastHead e.2 < s.pastHead o).foldl
    (fun s e => s.settleDo e.1 e.2 0xFFFFFFFF) s

/-- A SETTLE of the Manager's teller `t`: on the Standby its ORDER_SETTLED comes with its own record; on a Manager that took
over it is posted here. -/
def State.settleMirrored (s : State) (t h result : Nat) : State :=
  match s.order h with
  | some o =>
    if o.taker ≠ some t then s
    else if s.isStandby then
      let s1 := (s.settleBefore o).settleDo h o result
      if s.flag (EVQ_CFG_EN o.acct) then
        s1.setMirror { s1.mirror with due := s1.mirror.due ++ [⟨o.acct, o.book, result⟩] }
      else s1
    else (s.settle h o result 0).settleDamaged o.acct o.book 4096
  | none => s

/-- An ORDER_SETTLED of the Manager: that of a SETTLE whose effect stands already, else the settlement itself, such as one by
the ledger (R114, R117). DEDUCED (log entry 17). -/
def State.eventSettle (s : State) (e : EventRec) : State :=
  if e.type < 0x100 ∨ 0x110 ≤ e.type then s
  else
    let b := e.type - 0x100
    if s.mirror.due.any fun d => d.acct = e.account && d.book = b then
      s.setMirror { s.mirror with due := s.mirror.due.filter fun d => ! (d.acct = e.account && d.book = b) }
    else match (s.inBook e.account b).find? fun p => s.isHead p.2 with
      | some (h, o) => s.settleDo h o e.detail
      | none => s

/-- The settlements without an ORDER_SETTLED are reported (R327). -/
def State.postDue (s : State) : List SettleDue → State
  | [] => s
  | d :: ds => (s.post d.acct (evSettled d.book) d.result 0 0).postDue ds

/-! Closes and voids on the Standby. -/

/-- The run of a slot has ended: an end-of-run record named a slot after it. -/
def State.runEnded (s : State) (k : Nat) : Bool :=
  s.esc.endAt.any fun e => e ≠ k && (e + 2 ^ 32 - k) % 2 ^ 32 < 2 ^ 31

/-- A mirrored close: the slot as the Manager filled it (R132, R134). A frame whose commit is not known yet is remembered. -/
def State.mirrorClose (s : State) (c : CloseRec) : State :=
  let ws := s.esc.ahead
  let s0 := if c.kind ≠ 1 ∨ ws.any (fun w => w.desc = c.desc) then s
    else s.setMirror { s.mirror with early := s.mirror.early ++ [c.desc.frame] }
  let first := if c.kind = 1 then ⟨c.desc, none⟩ :: ws.filter fun w => w.desc ≠ c.desc else ws
  let s1 := ((s0.setEsc { s0.esc with ahead := first }).closeApply c).tevEscMask
  let s2 := if c.kind = 3 then s1.voidRecord c.slot (s1.slot c.slot) c.reason (s1.slot c.slot).geo.lead 0 else s1
  (if s.runEnded c.slot then s2.setEsc { s2.esc with runOpen := false, prev := none }
   else s2.setEsc { s2.esc with endAt := none }).escSync

/-- A mirrored void (R136). -/
def State.mirrorVoid (s : State) (v : VoidRec) : State :=
  if s.inFlight v.slot then (s.voidRecord v.slot (s.slot v.slot) v.reason v.station v.incident).escSync
  else if s.fld (ESC_LOGSLOT_SLOT (v.slot % 64)) = v.slot then s.inc (ESC_LOG_MORE (v.slot % 64))
  else s

/-! Shadowed operations (R78). -/

/-- The words of a submission in data memory: submission word and predecessor. -/
def State.submitWords (s : State) (gt : Nat) : Nat × Nat := (memLoad s.dm (gt + 64) 4, memLoad s.dm (gt + 68) 4)

/-- The operands of a shadowed instruction as the teller reaches it. -/
def State.shadowOperands (s : State) (t sub gs gt : Nat) : ShadowOp :=
  let (word, pred) := s.submitWords gt
  ⟨sub, gs, gt, s.fld (TLR_ACCT_ACCT t), word, pred, memBytes s.dm (if sub = 0x10 then gs else gt) 64⟩

/-- The operation was performed. -/
def shadowDone (status : Nat) : Bool := status = stOk || status = stAbandoned || status = stLate

/-- The 68 bytes of a TAKE or RECV. -/
def take68 (data : List Byte) : List Byte := body64 data ++ (data.drop 64 ++ List.replicate 4 0).take 4

/-- The part of a shadowed operation that the Manager performed which ledger, escrow and claims show. -/
def State.shadowEffect (s : State) (t : Nat) (op : ShadowOp) (status : Nat) (data : List Byte) : State :=
  let h := ofLe ((take68 data).drop 64)
  let ans := (data ++ List.replicate 8 0).take 8
  if ¬ shadowDone status then s
  else if op.sub = 0x0B then { s with claims := tabSet 0 s.claims op.gs (t + 1) }
  else if op.sub = 0x10 then s.commitMirrored (Desc.ofBytes op.body) (status = stLate)
  else if op.sub = 0x11 then
    match s.order h with
    | some o => s.takeDo t h o
    | none => s
  else if op.sub = 0x12 then s.settleMirrored t op.gs op.gt
  else if op.sub = 0x20 ∧ op.gs % 4096 = epLedger ∧ data ≠ [] then
    s.submitMirrored (ofLe (ans.take 4)) (ofLe (ans.drop 4)) op.acct op.word op.pred op.body
  else s

/-- The part that the teller's data memory shows: a taken order or received message, a submission's answer. -/
def State.shadowData (s : State) (op : ShadowOp) (status : Nat) (data : List Byte) : State :=
  if ¬ shadowDone status then s
  else if op.sub = 0x0C ∨ op.sub = 0x11 then s.dmPut op.gt (take68 data)
  else if op.sub = 0x20 ∧ op.gs % 4096 = epLedger ∧ data ≠ [] then
    s.dmPut (op.gt + 72) ((data ++ List.replicate 8 0).take 8)
  else s

/-! Effects in MSEQ order. -/

def State.setTodo (s : State) (l : List Todo) : State := s.setMirror { s.mirror with todo := l }

/-- The effect of one mirror record. DEDUCED (log entry 17). -/
def State.todoApply (s : State) (e : Todo) : State :=
  match e.r.data with
  | .tellerOp data =>
    match e.op with
    | some op => s.shadowEffect e.r.teller op e.r.status data
    | none => s
  | .hostOp ws reply => s.hostEffect (e.r.aux % 1024) (e.r.aux / 65536 % 256) ws reply
  | .close c => s.mirrorClose c
  | .void v => s.mirrorVoid v
  | .event r => s.eventSettle r
  | _ => s

/-- A record has its turn: it is no TELLER_OP, its operands are known, or the Standby's teller will never reach it, since it
was reset. -/
def State.todoReady (s : State) (e : Todo) : Bool :=
  match e.r.data with
  | .tellerOp _ => e.op.isSome || ! (s.teller e.r.teller).doneOps.contains e.r
  | _ => true

/-- Records that have their turn take effect; `n` bounds them (R320). DEDUCED (log entry 17). -/
def State.runTodo (s : State) : Nat → State
  | 0 => s
  | n + 1 =>
    match s.mirror.todo with
    | [] => s
    | e :: es => if s.todoReady e then ((s.setTodo es).todoApply e).runTodo n else s

/-- A record takes its place behind those that wait. DEDUCED (log entry 17). -/
def State.todoAdd (s : State) (r : MirRec) : State :=
  (s.setTodo (s.mirror.todo ++ [⟨r, none⟩])).runTodo (s.mirror.todo.length + 1)

/-- The order a TAKE names, if a record's data can be nothing but that order's body and handle. -/
def State.takeNamed (s : State) (r : MirRec) : Option (Nat × Order) :=
  match r.data with
  | .tellerOp data =>
    if data.length = 68 ∧ shadowDone r.status then
      match s.order (ofLe (data.drop 64)) with
      | some o => if o.taker.isNone ∧ body64 o.body = data.take 64 then some (ofLe (data.drop 64), o) else none
      | none => none
    else none
  | _ => none

/-- A takeover: every record takes effect, but the TELLER_OPs whose instruction this node's teller has not reached; of these a
TAKE is known by the order it names. The others take effect as the teller reaches them (R327).
DEDUCED (log entry 17). -/
def State.flushTodo (s : State) : List Todo → State
  | [] => s
  | e :: es =>
    if s.todoReady e then (s.todoApply e).flushTodo es
    else match s.takeNamed e.r with
      | some (h, o) => (s.takeDo e.r.teller h o).flushTodo es
      | none => (s.setTodo (s.mirror.todo ++ [e])).flushTodo es

/-- The operands of a record become known: it takes effect in its turn, on a Manager that took over at once. A record that has
had its turn, or stands in a snapshot, changes nothing more. DEDUCED (log entry 17). -/
def State.todoKnow (s : State) (r : MirRec) (op : ShadowOp) : State :=
  if s.isStandby then
    (s.setTodo (s.mirror.todo.map fun e => if e.r = r then { e with op := some op } else e)).runTodo s.mirror.todo.length
  else if s.mirror.todo.any fun e => e.r = r then
    (s.setTodo (s.mirror.todo.filter fun e => e.r ≠ r)).todoApply ⟨r, some op⟩
  else s

end Sys2Proof.Machine
end

