-- ==== Sys2Proof/Machine/System.lean ====
section
/-! DEFINITION. The system operations that act on the ledger, escrow, locks, messages, event queues and DMA (R77, R78,
R110 to R120, R129, R361), and their shadow form on the Standby. -/

namespace Sys2Proof.Machine

/-! Messages (R24, R361). -/

/-- A local number that names an object which takes no messages: neither reserved nor a customer endpoint (R24).
Nothing accepts or refuses a message to it, and MSG_TIMEOUT reports it (R77, R361). DESIGN CHOICE (log entry 18). -/
def inertEp (l : Nat) : Bool := l < 0x590 && l ≠ epLedger

/-- Messages queued for claimed endpoints of this node, at most 64 (R361). DESIGN CHOICE (log entry 18). -/
def State.deliverTo (s : State) (ep : Nat) (m : Msg) : Nat × State :=
  if tabGet 0 s.claims ep = 0 then (stNoEndpoint, s)
  else if s.inbox.length ≥ 64 then (stBusy, s)
  else
    let t := tabGet 0 s.claims ep - 1
    (stOk, { s with inbox := s.inbox ++ [(ep, m)] }.setTev t tevRng)

/-- A message is sent by a host account (R24). -/
def msgFromHost (m : Msg) : Bool := m.src % 4096 < 1024

/-- A submission that reached this node's ledger as a message: a host's only on the Manager, then the checks of R111. -/
def State.submitMsg (s : State) (m : Msg) : Nat × State :=
  let st := if msgFromHost m ∧ ¬ s.isManager then stNotRole else s.submitCheck m.acct m.word m.pred
  if st = stOk then (stOk, s.submitDo m.acct m.word m.pred m.body) else (st, s)

/-- A message to another node leaves on the shorter direction. DESIGN CHOICE (log entry 18). -/
def State.msgOut (s : State) (ep : Nat) (m : Msg) : State := (s.ringUni ep (.msg m)).msgPosted m.src ep

/-! The operations as they run outside the Standby. -/

/-- A shadowed instruction has its outcome: the teller's count of such instructions advances and the Manager sends the
mirror record before any effect (R78, R320, R321). DEDUCED (log entry 17). -/
def State.shadowed (s : State) (t status : Nat) (data : List Byte) : State :=
  let inst := ((s.teller t).inst + 1) % 2 ^ 32
  (s.mapTeller t fun x => { x with inst := inst }).mirrorSend t status inst 0 (.tellerOp data)

/-- An operation that did nothing but report. -/
def State.report (s : State) (t rd status cycles : Nat) : State := (s.shadowed t status []).answer t rd status cycles

/-- CLAIM. -/
def State.claimLive (s : State) (t rd ep : Nat) : State :=
  if ep < 0xF00 ∨ ep > 0xFFF then s.report t rd stBadArg 4
  else if tabGet 0 s.claims ep ≠ 0 ∧ tabGet 0 s.claims ep ≠ t + 1 then s.report t rd stBusy 4
  else { s.shadowed t stOk [] with claims := tabSet 0 s.claims ep (t + 1) }.answer t rd stOk 4

/-- The oldest message for a teller's endpoints, and the queue without it. -/
def takeMsg (claims : Tab Nat) (t : Nat) : List (Nat × Msg) → Option (Msg × List (Nat × Msg))
  | [] => none
  | (ep, m) :: ms =>
    if tabGet 0 claims ep = t + 1 then some (m, ms)
    else match takeMsg claims t ms with
      | some (m', rest) => some (m', (ep, m) :: rest)
      | none => none

/-- RECV. -/
def State.recvLive (s : State) (t rd gt : Nat) : State :=
  match takeMsg s.claims t s.inbox with
  | some (m, rest) =>
    let data := body64 m.body ++ leBytes 4 m.src
    ({ s.shadowed t stOk data with inbox := rest }.dmPut gt data).answer t rd stOk 24
  | none => s.report t rd stNone 24

/-- TAKE. -/
def State.takeLive (s : State) (t rd gs gt : Nat) : State :=
  let a := gs / 16 % 1024
  if gs ≥ 2 ^ 14 ∨ (s.isVault a ∧ a ≠ s.fld (TLR_ACCT_ACCT t)) then s.report t rd stBadArg 24
  else match s.oldestUntaken a (gs % 16) with
    | some (h, o) =>
      if s.takeable o then
        let st := if o.aband then stAbandoned else stOk
        let data := body64 o.body ++ leBytes 4 h
        (((s.shadowed t st data).takeDo t h o).dmPut gt data).answer t rd st 24
      else s.report t rd stNone 24
    | none => s.report t rd stNone 24

/-- A settlement whose SETTLE has been mirrored last; with its ORDER_SETTLED mirrored too, LASTSETTLED is marked when that is
posted (R321). -/
def State.settleNoted (s : State) (h : Nat) (o : Order) (result : Nat) : State :=
  let m := s.fld FLT_MSEQ_MSEQ
  let s1 := s.settle h o result 0
  let e := s1.fld FLT_MSEQ_MSEQ
  if e = m then s1 else s1.setMirror { s1.mirror with settles := s1.mirror.settles ++ [(e, m)] }

/-- SETTLE. -/
def State.settleLive (s : State) (t rd h result : Nat) : State :=
  match s.order h with
  | some o =>
    if o.taker ≠ some t then s.report t rd stBadArg 8
    else if ¬ s.isHead o then s.report t rd stNotHead 8
    else (((s.shadowed t stOk []).settleNoted h o result).settleDamaged o.acct o.book 4096).answer t rd stOk 8
  | none => s.report t rd stBadArg 8

/-- MBPOST to the node's own ledger (R110, R111). -/
def State.submitLive (s : State) (t rd gt : Nat) : State :=
  let (word, pred) := s.submitWords gt
  let a := s.fld (TLR_ACCT_ACCT t)
  let st := s.submitCheck a word pred
  if st = stOk then
    let data := leBytes 4 s.nextHandle ++ leBytes 4 (s.book a (bits word 3 0)).next
    (((s.shadowed t stOk data).submitDo a word pred (memBytes s.dm gt 64)).dmPut (gt + 72) data).answer t rd stOk 24
  else s.report t rd st 24

/-- MBPOST to an endpoint that is not the own ledger (R77, R361). On the own node a reserved number and one nobody has
claimed answer NOENDPOINT, a message to a claimed one is queued there at once, and one that finds the queue full is
refused later, by MSG_FAIL; BUSY, with all four outbound entries in use, comes after NOENDPOINT.
DESIGN CHOICE (log entry 18). -/
def State.postLive (s : State) (t rd ep gt : Nat) : State :=
  let x := s.teller t
  let src := s.node * 4096 + 0x400 + t
  let toLedger : Bool := ep % 4096 = epLedger
  let (word, pred) := if toLedger then s.submitWords gt else (0, 0)
  let m : Msg := ⟨src, memBytes s.dm gt 64, word, pred, s.fld (TLR_ACCT_ACCT t)⟩
  let here : Bool := ep / 4096 = s.node
  if here ∧ ¬ inertEp (ep % 4096) ∧ tabGet 0 s.claims (ep % 4096) = 0 then s.report t rd stNoEndpoint 24
  else if x.outb.length ≥ 4 then s.report t rd stBusy 24
  else if here ∧ inertEp (ep % 4096) then (s.msgPosted src ep).report t rd stOk 24
  else if here then
    let (st, s1) := (s.shadowed t stOk []).deliverTo (ep % 4096) m
    (if st = stBusy then s1.msgFail src ep stBusy else s1).answer t rd stOk 24
  else
    ((((s.shadowed t stOk []).mapTeller t fun x => { x with outb := x.outb ++ [⟨ep, m⟩] })).msgOut ep m).answer t rd
      stOk 24

/-- MBPOST. -/
def State.mbpostLive (s : State) (t rd gs gt : Nat) : State :=
  if gs ≥ 2 ^ 17 then s.report t rd stBadArg 24
  else if gs = s.node * 4096 + epLedger then s.submitLive t rd gt
  else s.postLive t rd gs gt

/-- EVPOST's record does not fit (R345). -/
def State.evBusy (s : State) (a : Nat) : Bool :=
  s.flag (EVQ_CFG_EN a) && s.evqRoom a < (if s.fld (EVQ_PEND_LOSTPEND a) = 0 then 1 else 2)

/-- EVPOST. -/
def State.evpostLive (s : State) (t rd a gt : Nat) : State :=
  let w0 := memLoad s.dm gt 4
  let w1 := memLoad s.dm (gt + 4) 4
  let w2 := memLoad s.dm (gt + 8) 4
  if a ≠ s.fld (TLR_ACCT_ACCT t) ∨ w0 < 0x8000 ∨ w0 ≥ 0x10000 ∨ w2 ≥ 0x10000 then s.report t rd stBadArg 16
  else if s.evBusy a then s.report t rd stBusy 16
  else ((s.shadowed t stOk []).postAt a w0 w1 0 w2 s.wpos false).answer t rd stOk 16

/-- COMMIT at the Manager: the descriptor is presented at the commit port (R129, R130). -/
def State.commitLive (s : State) (t rd gs : Nat) : State :=
  (s.setEsc { s.esc with port := s.esc.port ++ [(some t, rd, memBytes s.dm gs 64)] }).mapTeller t fun x =>
    { x with wait := .port }

/-! Shadow form (R78): the Manager's status and data; the mirrored ledger, escrow and claims follow in MSEQ order. -/

/-- Cycles of a shadowed operation (R77). -/
def shadowCycles (sub : Nat) : Nat :=
  if sub = 0x0B then 4 else if sub = 0x10 then 40 else if sub = 0x12 then 8 else if sub = 0x21 then 16 else 24

/-- A shadow wait completes with the status and data of its mirror record. DEDUCED (log entry 17). -/
def State.shadowFinish (s : State) (t sub rd rs rt : Nat) (r : MirRec) : State :=
  let x := s.teller t
  let data := match r.data with
    | .tellerOp bs => bs
    | _ => []
  let op := s.shadowOperands t sub (x.getG rs).toNat (x.getG rt).toNat
  let s1 := s.mapTeller t fun x =>
    { x with st := .running, wait := .none, inst := r.inst, doneOps := x.doneOps.filter fun q => ¬ q.inst = r.inst }
  ((s1.todoKnow r op).shadowData op r.status data).answer t rd r.status (shadowCycles sub)

/-- A shadowed operation. A record of the same instance that the node has applied completes it, also after a takeover
(R327); without one the Standby waits for it, and elsewhere the operation runs. DEDUCED (log entry 17). -/
def State.shadowOp (s : State) (t sub rd rs rt : Nat) (live : State → State) : State :=
  let inst := ((s.teller t).inst + 1) % 2 ^ 32
  match (s.teller t).doneOps.find? fun r => r.inst = inst with
  | some r => s.shadowFinish t sub rd rs rt r
  | none =>
    if s.isStandby then s.mapTeller t fun x => { x with st := .waiting, wait := .shadow sub rd rs rt inst } else live s

/-! Commands. -/

/-- A general register of a teller as a number. -/
def State.gval (s : State) (t r : Nat) : Nat := ((s.teller t).getG r).toNat

/-- CLAIM (R77). -/
def execClaim (t rd rs : Nat) (s : State) : Host.Outcome State Fault Refusal :=
  .next (s.execD t (fun _ => none) fun s => s.shadowOp t 0x0B rd rs 0 fun s => s.claimLive t rd (s.gval t rs))

/-- RECV (R77): 68 bytes at gt. -/
def execRecv (t rd rt : Nat) (s : State) : Host.Outcome State Fault Refusal :=
  .next (s.execD t (fun s => dataTrap (s.gval t rt) 4 68) fun s =>
    s.shadowOp t 0x0C rd 0 rt fun s => s.recvLive t rd (s.gval t rt))

/-- COMMIT (R77, R78, R129): outside the Manager and the Standby it answers NOTROLE and reads nothing. -/
def execCommit (t rd rs : Nat) (s : State) : Host.Outcome State Fault Refusal :=
  .next (
    if s.isManager ∨ s.isStandby then
      s.execD t (fun s => dataTrap (s.gval t rs) 64 64) fun s =>
        s.access t (s.gval t rs) 64 64 true fun s => s.shadowOp t 0x10 rd rs 0 fun s => s.commitLive t rd (s.gval t rs)
    else s.execD t (fun _ => none) fun s => s.answer t rd stNotRole 40)

/-- TAKE (R77, R113): 68 bytes at gt. -/
def execTake (t rd rs rt : Nat) (s : State) : Host.Outcome State Fault Refusal :=
  .next (s.execD t (fun s => dataTrap (s.gval t rt) 4 68) fun s =>
    s.shadowOp t 0x11 rd rs rt fun s => s.takeLive t rd (s.gval t rs) (s.gval t rt))

/-- SETTLE (R77, R114). -/
def execSettle (t rd rs rt : Nat) (s : State) : Host.Outcome State Fault Refusal :=
  .next (s.execD t (fun _ => none) fun s =>
    s.shadowOp t 0x12 rd rs rt fun s => s.settleLive t rd (s.gval t rs) (s.gval t rt))

/-- LACQ (R118): a refusal with BUSY is remembered. -/
def execLacq (t rd rs : Nat) (s : State) : Host.Outcome State Fault Refusal :=
  .next (s.execD t (fun _ => none) fun s =>
    let l := s.gval t rs
    let a := s.fld (TLR_ACCT_ACCT t)
    let st := s.lacqStatus (some t) a l
    let s1 := if st = stOk ∨ st = stAbandoned then s.lacqDo l (.teller t a)
      else if st = stBusy then s.mapTeller t fun x => { x with lckWait := some l }
      else s
    s1.answer t rd st 4)

/-- LREL (R119). -/
def execLrel (t rd rs : Nat) (s : State) : Host.Outcome State Fault Refusal :=
  .next (s.execD t (fun _ => none) fun s =>
    let l := s.gval t rs
    if l > 255 then s.answer t rd stBadArg 4
    else match (s.lock l).holder with
      | some (.teller u _) => if u = t then (s.lrelDo l).answer t rd stOk 4 else s.answer t rd stNotHeld 4
      | _ => s.answer t rd stNotHeld 4)

/-- The bytes an MBPOST touches: 80 for the own ledger, 72 for another node's, 64 else (R77, R110, R361). -/
def State.mbpostLen (s : State) (gs : Nat) : Nat :=
  if gs < 2 ^ 17 ∧ gs % 4096 = epLedger then (if gs / 4096 = s.node then 80 else 72) else 64

/-- MBPOST (R77). -/
def execMbpost (t rd rs rt : Nat) (s : State) : Host.Outcome State Fault Refusal :=
  .next (s.execD t (fun s => dataTrap (s.gval t rt) 4 (s.mbpostLen (s.gval t rs))) fun s =>
    s.access t (s.gval t rt) 4 (min 72 (s.mbpostLen (s.gval t rs))) true fun s =>
      s.shadowOp t 0x20 rd rs rt fun s => s.mbpostLive t rd (s.gval t rs) (s.gval t rt))

/-- EVPOST (R77): 12 bytes at gt. -/
def execEvpost (t rd rs rt : Nat) (s : State) : Host.Outcome State Fault Refusal :=
  .next (s.execD t (fun s => dataTrap (s.gval t rt) 4 12) fun s =>
    s.access t (s.gval t rt) 4 12 true fun s =>
      s.shadowOp t 0x21 rd rs rt fun s => s.evpostLive t rd (s.gval t rs) (s.gval t rt))

/-- DMAKICK (R77, R223). -/
def execDmakick (t rd rs : Nat) (s : State) : Host.Outcome State Fault Refusal :=
  .next (s.execD t (fun _ => none) fun s =>
    let (st, s1) := s.dmaKick (s.gval t rs)
    s1.answer t rd st 8)

/-! The ledger's errors (R117). -/

/-- ORDER_ECC_ERROR: an uncorrectable error in the stored order of handle `h`. A damaged untaken order that is the
oldest unsettled one of its book is settled by the ledger. -/
def execOrderEccError (h : Nat) (s : State) : Host.Outcome State Fault Refusal :=
  .next (
    if s.isOff then s else
    match s.order h with
    | some o =>
      ((s.setOrder h (some { o with bad := true })).raise 3 0).settleDamaged o.acct o.book 4096
    | none => s)

/-- TLR_RST: a write of TLR_RST with its key resets each named teller (R90, R95). -/
def execTlrRst (key mask : Nat) (s : State) : Host.Outcome State Fault Refusal :=
  .next (if s.isOff then s else if key = 0x7E11 then s.eachTeller (fun t s => s.tellerReset t) mask 16 else s.setOn TLR_STATUS_CFGERR)

end Sys2Proof.Machine
end

