-- ==== Sys2Proof/Machine/Accounts.lean ====
section
/-! DEFINITION. Accounts of the host: event queues (R342 to R346), the mailbox channel (R336 to R338), account resets
(R335, R348) and the mailbox commands other than LOAD, KEYPROV and KEYREVOKE (R339, R341). -/

namespace Sys2Proof.Machine

/-! Event queues. -/

/-- A violation of an account's mailbox: MBX_VIOL, MBX_LASTBAD and the account's PROTOCOL_VIOL (R331, R370). -/
def State.mbxViol (s : State) (a cause : Nat) : State :=
  (((s.inc MBX_VIOL_COUNT).setFld MBX_LASTBAD_ACCT a).setFld MBX_LASTBAD_CAUSE cause).violation (0x1000 + a) true a

/-- A HEAD write (R342): within HEAD to TAIL it reports consumption, and held records move to the ring. -/
def State.evqHead (s : State) (a h : Nat) : State :=
  let head := s.fld (EVQ_HEAD_HEAD a)
  if (h % 2 ^ 32 + 2 ^ 32 - head) % 2 ^ 32 ≤ (s.fld (EVQ_TAIL_TAIL a) + 2 ^ 32 - head) % 2 ^ 32 then
    (s.setFld (EVQ_HEAD_HEAD a) h).drainHeld a 256
  else s.mbxViol a 3

/-- The queue is enabled, HEAD := TAIL (R342). -/
def State.evqOn (s : State) (a : Nat) : State :=
  if s.flag (EVQ_CFG_EN a) then s
  else (s.setOn (EVQ_CFG_EN a)).setFld (EVQ_HEAD_HEAD a) (s.fld (EVQ_TAIL_TAIL a))

/-- The queue is disabled; its held records are discarded and counted (R335, R370). -/
def State.evqOff (s : State) (a : Nat) : State :=
  ((s.incBy (EVQ_DROP_DROP a) (s.heldOf a).length).setHeld a []).setOff (EVQ_CFG_EN a)

/-- EVQ_HEAD_WRITE (R342). -/
def execEvqHeadWrite (a h : Nat) (s : State) : Host.Outcome State Fault Refusal :=
  .next (if s.isOff then s else if a < 1024 then s.evqHead a h else s)

/-- EVQ_ENABLE (R342). -/
def execEvqEnable (a : Nat) (s : State) : Host.Outcome State Fault Refusal := .next (if s.isOff then s else if a < 1024 then s.evqOn a else s)

/-- EVQ_DISABLE (R370). -/
def execEvqDisable (a : Nat) (s : State) : Host.Outcome State Fault Refusal := .next (if s.isOff then s else if a < 1024 then s.evqOff a else s)

/-- MSIX_MODERATION_EXPIRY: MOD µs have passed since the queue's last message: records written since then get one
message, which opens the next interval (R346). -/
def execMsixModerationExpiry (a : Nat) (s : State) : Host.Outcome State Fault Refusal :=
  .next (
    if s.isOff then s else
    if ¬ tabGet false s.modOpen a then s
    else if tabGet false s.modPend a then
      { s with modPend := tabSet false s.modPend a false }.msix (s.fld (EVQ_CFG_VEC a))
    else { s with modOpen := tabSet false s.modOpen a false })

/-! The mailbox channel. A command captured at GO is its code and its sixteen words. -/

/-- Words of a captured command. -/
def mbSize : Nat := 17

/-- The commands of an account that the firmware has taken: all but one that still waits on the page (R338).
DEDUCED (log entry 20). -/
def State.mbTaken (s : State) (a : Nat) : List Nat :=
  let c := tabGet [] s.mbCmd a
  if s.flag (MBCTL_GO a) ∧ ¬ s.flag (MBCTL_TAKEN a) then c.take (c.length - mbSize) else c

/-- The oldest command of an account that the firmware holds: its code and words. DEDUCED (log entry 20). -/
def State.mbOldest (s : State) (a : Nat) : Option (Nat × List Nat) :=
  match (s.mbTaken a).take mbSize with
  | c :: ws => some (c, ws)
  | [] => none

/-- The command's page still waits for the reply: no TIMEOUT has answered it (R338). -/
def State.mbOnPage (s : State) (a : Nat) : Bool := (tabGet [] s.mbCmd a).length ≤ mbSize && s.flag (MBCTL_GO a)

/-- The oldest command of an account is answered: its mirror record goes out on the Manager (R320, R341), then its
reply, or the MBX_REPLY record of a command that met its TIMEOUT (R337, R338). -/
def State.mbAnswer (s : State) (a code : Nat) (ws reply : List Nat) : State :=
  let onPage := s.mbOnPage a
  let s1 := { s with mbCmd := tabSet [] s.mbCmd a ((tabGet [] s.mbCmd a).drop mbSize) }
  let s2 := s1.mirrorSend 0xFF (reply.headD 0 % 256) 0 (code * 65536 + a) (.hostOp ws (reply.headD 0))
  if onPage then s2.hostOut (.reply a ((reply ++ [0, 0, 0, 0]).take 4)) else s2.post a 3 (reply.headD 0) 0 0

/-- A BADARG that counts as a violation (R339). -/
def State.mbBad (s : State) (a code : Nat) (ws : List Nat) : State := (s.mbAnswer a code ws [stBadArg]).mbxViol a 2

/-- The codes of R339. -/
def mbCodes : List Nat := [1, 2, 3, 4, 5, 6, 8, 9, 10, 11, 16, 17, 18]

/-- A mailbox page times out (R338). -/
def State.mbTimeout (s : State) (a : Nat) : State :=
  ((s.setOn (MBCTL_TIMEOUT a)).setOff (MBCTL_GO a)).mbIrq a

/-- Held replies of an account become the words of MBX_REPLY records. -/
def heldReplies (a : Nat) : List (Nat × HostItem) → List Nat
  | [] => []
  | (_, .reply b ws) :: xs => if b = a then ws.headD 0 :: heldReplies a xs else heldReplies a xs
  | _ :: xs => heldReplies a xs

/-- An item is not the reply of an account. -/
def HostItem.notReply (a : Nat) : HostItem → Bool
  | .reply b _ => b ≠ a
  | .record _ _ _ => true

/-- The page of an account has had no reply for ACC_CFGa.TMO ms (R338). -/
def State.mailboxTimeout (s : State) (a : Nat) : State :=
  if ¬ s.flag (MBCTL_GO a) then s
  else if s.flag (MBCTL_TAKEN a) then
    let late := heldReplies a s.mirror.held
    let s1 := { s with mirror := { s.mirror with held := s.mirror.held.filter fun x => x.2.notReply a } }
    late.foldl (fun s w => s.post a 3 w 0 0) (s1.mbTimeout a)
  else
    let c := tabGet [] s.mbCmd a
    let s1 := { s with mbCmd := tabSet [] s.mbCmd a (c.take (c.length - mbSize)) }.mbTimeout a
    if s.flag (ACC_CFG_EN a) then s1.raise 23 0 else s1

/-- MAILBOX_TIMEOUT (R338). DESIGN CHOICE (log entry 35). -/
def execMailboxTimeout (a : Nat) (s : State) : Host.Outcome State Fault Refusal := .next (if s.isOff then s else s.mailboxTimeout a)

/-- A code the table of R339 does not have is answered BADARG at once. DEDUCED (log entry 20). -/
def State.mbUnknown (s : State) (a code : Nat) (ws : List Nat) : State :=
  let s1 := s.mirrorSend 0xFF stBadArg 0 (code * 65536 + a) (.hostOp ws stBadArg)
  (s1.hostOut (.reply a [stBadArg, 0, 0, 0])).mbxViol a 2

/-- The firmware takes a command: TAKEN; a LOAD taken while no other load runs is the load that runs (R368).
DEDUCED (log entry 75). -/
def State.mbTake (s : State) (a code : Nat) : State :=
  let s1 := s.setOn (MBCTL_TAKEN a)
  if code = 0x10 ∧ s1.loading = none ∧ s1.images = [] then { s1 with loading := some a } else s1

/-- GO is written (R337, R338): TIMEOUT at once while the account is disabled or, as DORMANT_N is low, no command is
accepted; else the command is captured, and taken by a firmware that runs. DEDUCED (log entry 20). -/
def State.mbGo (s : State) (a : Nat) : State :=
  if s.flag (MBCTL_GO a) then s
  else
    let s0 := ((s.setOff (MBCTL_DONE a)).setOff (MBCTL_TIMEOUT a)).setOff (MBCTL_TAKEN a)
    if ¬ s.flag (ACC_CFG_EN a) ∨ s.pwr.dormantLow then s0.mbTimeout a
    else
      let code := s.fld (MBCTL_CMD a)
      let ws := (List.range 16).map fun k => tabGet 0 s.mbw (a * 16 + k)
      let s1 := s0.setOn (MBCTL_GO a)
      let s2 := { s1 with mbCmd := tabSet [] s1.mbCmd a (tabGet [] s1.mbCmd a ++ code :: ws) }
      if ¬ s.fwRuns then s2
      else if mbCodes.contains code then s2.mbTake a code
      else (s1.setOn (MBCTL_TAKEN a)).mbUnknown a code ws

/-- A firmware that begins to run takes the commands that wait. DESIGN CHOICE (log entry 63). -/
def State.mbTakeAll (s : State) : List (Nat × List Nat) → State
  | [] => s
  | (a, cmd) :: cs =>
    let s1 := if s.flag (MBCTL_GO a) ∧ ¬ s.flag (MBCTL_TAKEN a) then
        let c := cmd.drop (cmd.length - mbSize)
        let s0 := s.mbTake a (c.headD 0)
        if mbCodes.contains (c.headD 0) then s0
        else { s0 with mbCmd := tabSet [] s0.mbCmd a (cmd.take (cmd.length - mbSize)) }.mbUnknown a (c.headD 0) (c.drop 1)
      else s
    s1.mbTakeAll cs

/-- The firmware runs a command of an account: role first, then the operand words, then the command's own rules (R339).
Nothing happens when that command does not wait. DESIGN CHOICE (log entry 63). -/
def State.mbRun (s : State) (a code : Nat) (role : Bool) (ok : List Nat → Bool) (run : List Nat → State) : State :=
  match s.mbOldest a with
  | some (c, ws) =>
    if c ≠ code ∨ ¬ s.fwRuns then s
    else if ¬ role then s.mbAnswer a code ws [stNotRole]
    else if ¬ ok ws then s.mbBad a code ws
    else run ws
  | none => s

/-- The words from index `k` on are 0. -/
def zeroFrom (k : Nat) (ws : List Nat) : Bool := (ws.drop k).all fun w => w = 0

/-- A command of both nodes' state: the record and the reply first, then the effect. -/
def State.mbDo (s : State) (a code : Nat) (ws reply : List Nat) : State :=
  (s.mbAnswer a code ws reply).hostEffect a code ws (reply.headD 0)

/-- BODY (R339). -/
def execBody (a : Nat) (s : State) : Host.Outcome State Fault Refusal :=
  .next (if s.isOff then s else s.mbRun a 0x01 true (fun _ => true) fun ws => s.mbDo a 0x01 ws [stOk])

/-- The reply of a SUBMIT: status and handle, and the BSEQ given (R111, R339). -/
def State.submitReply (s : State) (a word pred : Nat) : List Nat :=
  let st := if s.bodyOf a = [] then stBadArg else s.submitCheck a word pred
  if st = stOk then [stOk + s.nextHandle * 65536, (s.book a (bits word 3 0)).next] else [st]

/-- SUBMIT (R111, R339). -/
def execSubmit (a : Nat) (s : State) : Host.Outcome State Fault Refusal :=
  .next (if s.isOff then s else s.mbRun a 0x02 s.isManager (zeroFrom 2) fun ws =>
    s.mbDo a 0x02 ws (s.submitReply a (ws.getD 0 0) (ws.getD 1 0)))

/-- The message of a SEND. To a ledger the table gives no submission word and no predecessor: both are free values. -/
def State.sendMsg (s : State) (a ep : Nat) : Msg × State :=
  let src := s.node * 4096 + a
  if ep % 4096 = epLedger then
    let (word, s1) := s.free (2 ^ 32)
    let (pred, s2) := s1.free (2 ^ 32)
    (⟨src, s.bodyOf a, word, pred, a⟩, s2)
  else (⟨src, s.bodyOf a, 0, 0, a⟩, s)

/-- A message of an account on its way, and the status of its SEND. -/
def State.sendOut (s : State) (ep : Nat) (m : Msg) : Nat × State :=
  if ep / 4096 = s.node then
    if ep % 4096 = epLedger then
      let (st, s1) := s.submitMsg m
      (stOk, if st = stOk then s1 else s1.msgFail m.src ep st)
    else if inertEp (ep % 4096) then (stOk, s.msgPosted m.src ep)
    else s.deliverTo (ep % 4096) m
  else (stOk, s.msgOut ep m)

/-- SEND (R339, R361): the message leaves after the record and the reply. -/
def execSend (a : Nat) (s : State) : Host.Outcome State Fault Refusal :=
  .next (if s.isOff then s else s.mbRun a 0x03 true (fun ws => zeroFrom 1 ws && decide (ws.getD 0 0 < 2 ^ 17)) fun ws =>
    let ep := ws.getD 0 0
    if s.bodyOf a = [] then s.mbDo a 0x03 ws [stBadArg]
    else
      let (m, s1) := s.sendMsg a ep
      let st := (s1.sendOut ep m).1
      let s2 := s1.mbDo a 0x03 ws [st]
      if st = stOk then (s2.sendOut ep m).2 else s2)

/-- MB_COMMIT: the descriptor is presented at the commit port; COMMIT_ACCEPT answers it (R129, R130, R339). -/
def execMbCommit (a : Nat) (s : State) : Host.Outcome State Fault Refusal :=
  .next (if s.isOff then s else s.mbRun a 0x04 s.isManager (fun _ => true) fun ws =>
    if s.esc.port.any fun p => p.1.isNone && p.2.1 = a then s
    else s.setEsc { s.esc with port := s.esc.port ++ [(none, a, wordBytes ws)] })

/-- MB_LACQ (R118, R339). -/
def execMbLacq (a : Nat) (s : State) : Host.Outcome State Fault Refusal :=
  .next (if s.isOff then s else s.mbRun a 0x05 true (fun ws => zeroFrom 1 ws && decide (ws.getD 0 0 < 256)) fun ws =>
    s.mbDo a 0x05 ws [s.lacqStatus none a (ws.getD 0 0)])

/-- The status of an LREL by an account (R119). -/
def State.lrelStatus (s : State) (a l : Nat) : Nat :=
  match (s.lock l).holder with
  | some (.host b) => if b = a then stOk else stNotHeld
  | _ => stNotHeld

/-- MB_LREL (R119, R339). -/
def execMbLrel (a : Nat) (s : State) : Host.Outcome State Fault Refusal :=
  .next (if s.isOff then s else s.mbRun a 0x06 true (fun ws => zeroFrom 1 ws && decide (ws.getD 0 0 < 256)) fun ws =>
    s.mbDo a 0x06 ws [s.lrelStatus a (ws.getD 0 0)])

/-- RESERVE (R199, R339). -/
def execReserve (a : Nat) (s : State) : Host.Outcome State Fault Refusal :=
  .next (if s.isOff then s else s.mbRun a 0x08 s.isWorker (zeroFrom 2) fun ws =>
    let (st, ext, base, s1) := s.reserveDo a (ws.getD 0 0) (ws.getD 1 0)
    s1.mbAnswer a 0x08 ws (if st = stOk then [stOk, ext, base] else [st]))

/-- RELEASE (R199, R339). -/
def execRelease (a : Nat) (s : State) : Host.Outcome State Fault Refusal :=
  .next (if s.isOff then s else s.mbRun a 0x09 s.isWorker (zeroFrom 1) fun ws =>
    let (st, s1) := s.releaseDo a (ws.getD 0 0)
    s1.mbAnswer a 0x09 ws [st])

/-- INGEST (R200, R339). -/
def execIngest (a : Nat) (s : State) : Host.Outcome State Fault Refusal :=
  .next (if s.isOff then s else s.mbRun a 0x0A s.isWorker (zeroFrom 8) fun ws =>
    let (st, s1) := s.ingestDo a ws
    s1.mbAnswer a 0x0A ws [st])

/-- CANCEL (R201, R339): the reply stands before the record of the failed ingest. -/
def execCancel (a : Nat) (s : State) : Host.Outcome State Fault Refusal :=
  .next (if s.isOff then s else s.mbRun a 0x0B s.isWorker (zeroFrom 1) fun ws =>
    let st := (s.cancelDo a (ws.getD 0 0)).1
    ((s.mbAnswer a 0x0B ws [st]).cancelDo a (ws.getD 0 0)).2)

/-! The commit port (R130). -/

/-- A teller's commit is answered: record, effect, status. DESIGN CHOICE (log entry 34). -/
def State.portTeller (s : State) (t rd : Nat) (bs : List Byte) : State :=
  if (s.teller t).wait = .port then
    let st := s.commitCheck bs
    let st' := if st = stOk ∧ s.commitLate then stLate else st
    let s1 := (s.shadowed t st' []).mapTeller t fun x => { x with wait := .none }
    let s2 := if st = stOk then s1.commitAccept (Desc.ofBytes bs) s.commitLate else s1
    let s3 := s2.answer t rd st' 40
    if (s3.teller t).stopReq then
      s3.mapTeller t fun x => { x with st := .halted, stopReq := false }
    else s3
  else s

/-- A mailbox commit is answered. -/
def State.portHost (s : State) (a : Nat) (bs : List Byte) : State :=
  match s.mbOldest a with
  | some (c, ws) =>
    if c ≠ 0x04 then s
    else
      let st := s.commitCheck bs
      s.mbDo a 0x04 ws [if st = stOk ∧ s.commitLate then stLate else st]
  | none => s

/-- COMMIT_ACCEPT: the port takes the oldest commit, checks it against escrow and accepts or refuses it, after a close
that is due (R129 to R132). -/
def execCommitAccept (s : State) : Host.Outcome State Fault Refusal :=
  .next (
    if s.isOff then s else
    match s.esc.port with
    | [] => s
    | (who, x, bs) :: rest =>
      let s0 := s.closesDue 64
      let s1 := s0.setEsc { s0.esc with port := rest }
      match who with
      | some t => s1.portTeller t x bs
      | none => s1.portHost x bs)

/-! Account resets. -/

/-- The account's part of a lock's holder. -/
def holdsFor (a : Nat) : Holder → Bool
  | .host b => b = a
  | .teller _ _ => false

/-- An account reset (R335). DEDUCED (log entry 20). -/
def State.accReset (s : State) (a : Nat) : State :=
  let s1 := s.abandonLocks (holdsFor a) s.locks
  let s2 := if s1.flag (MBCTL_GO a) ∧ ¬ s1.flag (MBCTL_TAKEN a) then s1.mailboxTimeout a else s1
  (s2.setBody a []).evqOff a

/-- ACC_RST with its key (R335, R370); `vault`: the write comes with vault authority. DEDUCED (log entry 21). -/
def State.accRst (s : State) (key a : Nat) (vault : Bool) : State :=
  if key ≠ 0xACC0 then s.setOn ACC_STATUS_KEYERR
  else if s.isVault a ∧ ¬ vault then s.setOn ACC_STATUS_CFGERR
  else s.accReset a

/-- ACC_RST: a write of the register by the host (R335). -/
def execAccRst (key a : Nat) (vault : Bool) (s : State) : Host.Outcome State Fault Refusal :=
  .next (if s.isOff then s else if a < 1024 then s.accRst key a vault else s)

/-- The message vectors of an account are disabled: their mask bits are set. DEDUCED (log entry 21). -/
def State.maskVectors (s : State) (a : Nat) : State :=
  (s.setOn (MSIX_CTRL_MASK (s.fld (EVQ_CFG_VEC a)))).setOn (MSIX_CTRL_MASK (s.fld (ACC_CFG_MBVEC a)))

/-- Every non-vault account below `n` is reset (R348). DEDUCED (log entry 21). -/
def State.flr (s : State) : Nat → State
  | 0 => s
  | a + 1 => if (s.flr a).isVault a then s.flr a else ((s.flr a).accReset a).maskVectors a

/-- FUNCTION_LEVEL_RESET (R348). -/
def execFunctionLevelReset (s : State) : Host.Outcome State Fault Refusal := .next (if s.isOff then s else s.flr 1024)

/-- The host port's registers but those of its fault sources, the MSI-X table and its pending bits return to their reset
values (R384). DEDUCED (log entry 78). -/
def State.pchReset (s : State) : State :=
  let s1 : State := { s with regs := s.regs.filter fun e => e.1 < 0x20000000 * 32 || 0x20010000 * 32 ≤ e.1 }
  [PCH_LINK_WIDTH, PCH_LINK_SPEED, PCH_LINK_UP, PCH_CTO_US, PCH_ERRCNT_CTO, PCH_ERRCNT_BADTLP].foldl
    (fun s f => s.setFld f f.reset) s1

/-- HOST_PERST_N low: the host port is reset, its link with it, and the accounts as by a Function Level Reset (R384).
DEDUCED (log entry 78). -/
def execHostPerstN (s : State) : Host.Outcome State Fault Refusal :=
  .next (
    if s.isOff then s
    else
      let s1 := s.pchReset
      ({ s1 with pwr := { s1.pwr with hostDown := true } }).flr 1024)

end Sys2Proof.Machine
end

