-- ==== Sys2Proof/Machine/Audit.lean ====
section
/-! DEFINITION. The commands of audits (R297 to R302): the request of the host, and the start, suspension and
completion of a queued audit. -/

namespace Sys2Proof.Machine

/-- The port of a LANE or SCAN audit. -/
def audPort (code : Nat) : Option Nat := if audKind code = 1 ∨ audKind code = 5 then some (audIdx code) else none

/-- A write of AUD_REQ (R297): the status in AUD_REQST, the position of a deferred audit in AUD_REQPOS. -/
def State.audHost (s : State) (code : Nat) : State :=
  let (st, pos, s1) := s.audRequest code none 0
  let s2 := s1.setFld AUD_REQST_STATUS st
  if st = stDeferred then (s2.setFld AUD_REQPOSLO_WPOS (pos % 2 ^ 32)).setFld AUD_REQPOSHI_WPOS (pos / 2 ^ 32) else s2

/-- AUDIT_REQUEST: a host request by AUD_REQ (R297, R298, R300). -/
def execAuditRequest (code : Nat) (s : State) : Host.Outcome State Fault Refusal := .next (if s.isOff then s else s.audHost (code % 2 ^ 32))

/-- A port's station lies in a frame gap or is idle; a DRIVE audit waits for a gap of any station served. -/
def State.audGapNow (s : State) (code : Nat) : Bool :=
  match audPort code with
  | some n => s.portGap n
  | none => [0, 1, 2, 3].any fun n => s.portEn n && s.portGap n

/-- A deferred audit may start: its port lies in a gap, and WPOS has reached the first line given for it, where that is that
of a known gap (R299). DEDUCED (log entry 27). -/
def State.audDue (s : State) (i : Nat) : Bool :=
  s.fld (AUD_STATE_STATE i) = 1 && s.audGapNow (s.fld (AUD_CODE_CODE i)) && (! (s.aud i).known || (s.aud i).pos ≤ s.wpos)

/-- The deferred audits below `i` whose known gap begins start at its first line (R299). -/
def State.audTurn (s : State) : Nat → State
  | 0 => s
  | i + 1 => (if (s.aud i).known && s.audDue i then (s.audRun i).faultTurn 24 else s).audTurn i

/-- AUDIT_START: the gap of a deferred audit begins, and it runs (R299). -/
def execAuditStart (i : Nat) (s : State) : Host.Outcome State Fault Refusal :=
  .next (
    if s.isOff then s else
    if i < 16 ∧ s.audDue i then (s.audRun i).faultTurn 24
    else s)

/-- AUDIT_SUSPEND: a LANE or SCAN audit not finished at the last sweep boundary before the next window stops and
continues in the next gap, keeping its partial result (R299). -/
def execAuditSuspend (i : Nat) (s : State) : Host.Outcome State Fault Refusal :=
  .next (
    if s.isOff then s else
    let code := s.fld (AUD_CODE_CODE i)
    if i < 16 ∧ s.fld (AUD_STATE_STATE i) = 2 ∧ (audPort code).isSome then
      (s.audWait i (s.gapNext code)).2.faultTurn 24
    else s)

/-- A passed LANE audit: lane 12 is good again, a spared lane may return (R301, R184). -/
def State.lanePassed (s : State) (code : Nat) : State :=
  let n := audIdx code
  if audKind code ≠ 1 then s
  else if audSub code = 12 then s.setOff (HLK_STAT_SPBAD n)
  else if s.fld (HLK_STAT_SPLANE n) = audSub code then s.mapHead n fun h => { h with laneOk := true }
  else s

/-- The AUDIT_DONE record (R301). -/
def State.auditRecord (s : State) (code incident : Nat) (pass : Bool) : State :=
  s.postIf AUD_EVACCT_EN AUD_EVACCT_ACCT 0x340 (code % 2 ^ 24 + (if pass then 0 else 2 ^ 31)) 0 incident

/-- A DRIVE audit's answer: the drive is the one bound, its namespace is one the node uses and the label read from it
matches (R210, R297). A drive that was off line is taken as it identified itself. -/
def State.driveAudit (s : State) (d : Nat) : AudResult → Bool × State
  | .drive (some i) label =>
    match s.namespaceOf d i with
    | some n => (nsOk n && label = some s.label && i.ident = tabGet 0 s.store.drvIdent d,
        if s.fld (STO_DRV_STATE d) = 4 then s.identify d i n else s)
    | none => (false, s)
  | _ => (false, s)

/-- An audit has run its length: 4,096 slots for LANE, 4 sweeps for EMIT (R297). -/
def State.audRan (s : State) (i code : Nat) : Bool :=
  match audKind code with
  | 1 => 4096 ≤ (s.aud i).n
  | 2 => 4 ≤ (s.aud i).n
  | _ => true

/-- The test of a COMP, DMACH, SCAN or ADC audit meets its pass condition (R297): the two banks decided alike; the copy is
the pattern; the pulse was seen within 1 ns and the pixel PLL locked within 100 µs and has LOCK; zero and both levels lie
within ±8 LSB. DEDUCED (log entry 74). -/
def State.testPassed (s : State) (code : Nat) : AudResult → Bool
  | .decisions bank spare => audKind code = 3 && bank = spare
  | .copy pattern result => audKind code = 4 && pattern = result
  | .scan (some d) (some us) => audKind code = 5 && d.natAbs ≤ 1000 && us ≤ 100 && s.flag (PLL_CTL_LOCK (audIdx code))
  | .levels zero low high => audKind code = 7 && zero.natAbs ≤ 8 && low.natAbs ≤ 8 && high.natAbs ≤ 8
  | _ => false

/-- Whether an audit passes: LANE and EMIT by what their slots and sweeps brought, DRIVE by what the drive answered, any
other by what its test measured. A measurement of another kind is no pass. -/
def State.auditResult (s : State) (i code : Nat) (r : AudResult) : Bool × State :=
  if audKind code = 1 ∨ audKind code = 2 then (! (s.aud i).bad, s)
  else match audDrive code with
  | some d =>
    let (ok, s1) := s.driveAudit d r
    (ok, s1.driveTurn code 4 2)
  | none => (s.testPassed code r, s)

/-- AUDIT_COMPLETE: an audit completes: its result in the entry and the counters, TEV.AUD in the tellers that waited, of
which none is left, the record; the blocks whose incident waits for it go on (R301, R302, R305, R310).
DEDUCED (log entry 74). -/
def execAuditComplete (i : Nat) (r : AudResult) (s0 : State) : Host.Outcome State Fault Refusal :=
  .next (
    if s0.isOff then s0 else
    let code := s0.fld (AUD_CODE_CODE i)
    if i < 16 ∧ s0.fld (AUD_STATE_STATE i) = 2 ∧ s0.audRan i code then
      let (pass, s) := s0.auditResult i code r
      let s1 := (s.setFld (AUD_STATE_STATE i) (if pass then 3 else 4)).setAud i
        { s.aud i with done := s.plant.audSeq + 1 }
      let s2 := s1.setPlant { s1.plant with audSeq := s1.plant.audSeq + 1 }
      let s3 := ((if pass then s2.inc AUD_PASSCNT_COUNT else s2.inc AUD_FAILCNT_COUNT).setTevMask
        (s.fld (AUD_WHO_TELLERS i)) tevAud 16).setFld (AUD_WHO_TELLERS i) 0
      let s4 := s3.auditRecord code (s.fld (AUD_WHO_INCIDENT i)) pass
      let s5 := if pass then s4.lanePassed code else s4
      (s5.auditAnswer code pass 24).faultTurn 24
    else s0)

/-- AUDIT: audit code gs, requested by teller `t`; for DEFERRED its position goes to pn (R77, R297 to R300). -/
def execAudit (t rd rs pn : Nat) (s : State) : Host.Outcome State Fault Refusal :=
  .next (s.execD t (fun _ => none) fun s =>
    let (st, pos, s1) := s.audRequest ((s.teller t).getG rs).toNat (some t) 0
    let s2 := if st = stDeferred then s1.mapTeller t fun x => x.setP pn (BitVec.ofNat 64 pos) else s1
    s2.answer t rd st 8)

end Sys2Proof.Machine
end

