-- ==== Sys2Proof/Machine/Calibration.lean ====
section
/-! DEFINITION. The commands of calibration (R286 to R292) and of colour-to-colour registration (R293 to R295). -/

namespace Sys2Proof.Machine

/-! Calibration runs. -/

/-- REQ: CLB_CTL.REQ of port `n` (R286); a request for an unbound port is discarded. -/
def execReq (n : Nat) (s : State) : Host.Outcome State Fault Refusal :=
  .next (if s.isOff then s else if n < 4 then s.calTrigger n true else s)

/-- REQD: CLB_CTL.REQD (R286). -/
def execReqd (s : State) : Host.Outcome State Fault Refusal := .next (if s.isOff then s else s.calTrigger 4 true)

/-- CALIBRATION_START: the next sweep boundary of the port (calibration 0 to 3), or for the die (4) that of the
lowest-numbered bound port: a triggered run starts, recording its temperature, BUSY and stale (R287). -/
def execCalibrationStart (n : Nat) (s : State) : Host.Outcome State Fault Refusal :=
  .next (
    if s.isOff then s else
    let c := s.cal n
    if n > 4 ∨ c.st = 2 ∨ ¬ (c.st = 1 ∨ s.calAuto n) ∨ (n < 4 ∧ ((s.emitTest n).isSome ∨ ¬ s.portEn n)) then s
    else
      let t := s.calTemp n
      let s1 := s.setCal n { c with
        st := 2, last := t, nmeas := s.fld CLB_NMEAS_SWEEPS, host := false, n := 0, tSum := 0, eSum := 0, seen := [],
        lost := false, began := s.time.cycles, first := false }
      (if n < 4 then s1.setFld (CLB_T_TLAST n) (toTwos 16 t) else s1).calBusy n true)

/-- CALIBRATION_END: the sweep boundary that ends the measurement: every target is written at once, BUSY and the stale
bit clear, CLB_RUNCNT counts (R287, R289, R290). `m`: what the drive die measured. The slew of a die run waits for the
next sweep boundary. DEDUCED (log entry 74). -/
def execCalibrationEnd (n : Nat) (m : CalMeas) (s : State) : Host.Outcome State Fault Refusal :=
  .next (
    if s.isOff then s else
    let c := s.cal n
    if n > 4 ∨ ¬ s.calMeasured n then s
    else
      let s1 := if n < 4 then
          let t := s.setCal n { c with meas := some (c.n, c.tSum, c.eSum) }
          ((t.writeDelays n c.n c.tSum c.eSum 256).writeGains n c.seen 256).writeUnif n c.seen
        else
          let t := (s.writeDie m.zeros m.delays).writeThr c.seen 4
          t.setPlant { t.plant with dieWait := true }
      (((s1.calBusy n false).inc CLB_RUNCNT_COUNT).calNext n).auditAnswer (codeCal n) true 24)

/-- A run ends without targets: BUSY and the stale bit clear, CALFAIL (R287). -/
def State.calAbandon (s : State) (n : Nat) : State :=
  (((s.calBusy n false).calNext n).auditAnswer (codeCal n) false 24).raise 17 n

/-- The runs of calibrations `n − 1` down to 0 whose head link has left the up state, or that have not finished within
CLB_MAXMS of 800,000 cycles each, are abandoned (R287). DEDUCED (log entry 74). -/
def State.calTurn (s : State) : Nat → State
  | 0 => s
  | n + 1 =>
    let c := s.cal n
    (if c.st = 2 ∧ (c.lost ∨ s.fld CLB_MAXMS_MS * 800000 ≤ s.time.cycles - c.began) then s.calAbandon n else s).calTurn n

/-- CALIBRATION_ABANDON: a head run whose link left the up state, or a run not finished within CLB_MAXMS: no target is
written, CALFAIL (R287). -/
def execCalibrationAbandon (n : Nat) (s : State) : Host.Outcome State Fault Refusal :=
  .next (if s.isOff then s else if n ≤ 4 ∧ (s.cal n).st = 2 then s.calAbandon n else s)

/-! Registration. -/

def State.marks (s : State) (k : Nat) : Marks := tabGet Marks.init s.plant.marks k

/-- Registration runs on this node. -/
def State.registers (s : State) : Bool := s.isManager && s.flag CLB_MKCFG_EN

/-- P(k, n) in lines: x(k) + ML(n) − E(lead) + MSOFF (R293). -/
def State.markPos (s : State) (x stn : Nat) : Int :=
  (x : Int) + (s.fld CLB_MLINE_LINE + s.fld CLB_MSTEP_MSTEP * stn : Nat) - s.expOff s.lead + s.fld CLB_MSOFF_LINES

/-- How far WPOS, in 1/256 line, stands from where the next bar of a station's chevron is expected: the first bar at P, the
second MCHEV lines after the first edge, or after P where that was missed; none where both have come or been missed or no
mark is expected (R293, R295). DEDUCED (log entry 74). -/
def State.barOff (s : State) (m : Marks) (stn : Nat) : Option Int :=
  let d : Int := (s.wpos / 256 : Nat) - s.markPos m.x stn * 256
  if ¬ m.mask.testBit stn then none
  else if (tabGet none m.first stn).isNone ∧ ¬ m.miss1.testBit stn then some d
  else if (tabGet none m.second stn).isNone ∧ ¬ m.miss2.testBit stn then
    some (d - (tabGet none m.first stn).getD 0 - s.fld CLB_MSTEP_MCHEV * 256)
  else none

/-- MWIN in 1/256 line. -/
def State.markWin (s : State) : Nat := s.fld CLB_REGGAIN_MWIN * 256

/-- The bar an edge now is: of the bars awaited within ±MWIN lines the one expected nearest, by slot, station and its
distance. DEDUCED (log entry 74). -/
def State.edgeBar (s : State) : Option (Nat × Nat × Int) :=
  s.plant.marks.foldl (fun best km => (List.range 16).foldl (fun best stn =>
    match s.barOff km.2 stn with
    | some d =>
      let near : Bool := match best with
        | some b => d.natAbs < b.2.2.natAbs
        | none => true
      if d.natAbs ≤ s.markWin ∧ near then some (km.1, stn, d) else best
    | none => best) best) none

/-- The edge is the next bar of a station's chevron. -/
def Marks.seen (m : Marks) (stn : Nat) (d : Int) : Marks :=
  if (tabGet none m.first stn).isNone ∧ ¬ m.miss1.testBit stn then { m with first := tabSet none m.first stn (some d) }
  else { m with second := tabSet none m.second stn (some d) }

/-- MARK_EDGE: a rising edge of auxiliary input `n`. On that of the mark sensor it is the bar expected nearest; an edge
outside ±MWIN lines of every bar's expected position is no bar (R293, R295). -/
def execMarkEdge (n : Nat) (s : State) : Host.Outcome State Fault Refusal :=
  .next (
    if s.isOff then s else
    if ¬ s.registers ∨ n ≠ s.fld CLB_MKCFG_INPUT then s
    else match s.edgeBar with
      | some (k, stn, d) => s.setMarks k ((s.marks k).seen stn d)
      | none => s)

/-- The bar awaited at a station is missed. -/
def Marks.missed (m : Marks) (stn : Nat) : Marks :=
  if (tabGet none m.first stn).isNone ∧ ¬ m.miss1.testBit stn then { m with miss1 := m.miss1 ||| 2 ^ stn }
  else { m with miss2 := m.miss2 ||| 2 ^ stn }

/-- MISSED_MARK: a bar not seen within ±MWIN lines of its expected position: CLB_MISSMK, and no correction for its station
in that slot (R295). -/
def execMissedMark (slot stn : Nat) (s : State) : Host.Outcome State Fault Refusal :=
  .next (
    if s.isOff then s else
    let m := s.marks slot
    match s.barOff m stn with
    | some d =>
      if s.registers ∧ stn < 16 ∧ d > s.markWin then
        (s.setMarks slot (m.missed stn)).inc CLB_MISSMK_COUNT
      else s
    | none => s)

/-- Process and lateral error of a station whose both bars were seen. -/
def markErrors (m : Marks) (stn : Nat) : Option (Int × Int) :=
  if m.mask.testBit stn then
    match tabGet none m.first stn, tabGet none m.second stn with
    | some a, some b => some (a, b)
    | _, _ => none
  else none

/-- CLB_REGRESn: the RMS of the last 16 rp in 0.1 µm: each unit is 21.1667 / 256 µm (R296). -/
def State.regResidual (s : State) (stn : Nat) (rp : Int) : State :=
  let h := (rp :: tabGet [] s.plant.regHist stn).take 16
  let sum := h.foldl (fun t v => t + (v * v).toNat) 0
  (s.setPlant { s.plant with regHist := tabSet [] s.plant.regHist stn h }).setFld (CLB_REGRES_RES stn)
    (min 0xFFFF (sqrtRound (sum * 211667 * 211667) (h.length * 256000 * 256000)))

/-- The relative errors of a station, stored, and the correction sent (R294). -/
def State.regStation (s : State) (ref : Int × Int) (m : Marks) (stn : Nat) : State :=
  match markErrors m stn with
  | none => s
  | some (ep, el) =>
    let rp := ep - ref.1
    let rl := el - ref.2
    let s1 := ((s.setFld (CLB_REGERR_RP stn) (toTwos 16 (sat16 rp))).setFld (CLB_REGERR_RL stn)
      (toTwos 16 (sat16 rl))).regResidual stn rp
    let db := s.fld CLB_REGGAIN_REGDB
    let k : Int := s.fld CLB_REGGAIN_KREG
    if stn = s.fld CLB_MKCFG_REFST ∨ k = 0 ∨ (rp.natAbs ≤ db ∧ rl.natAbs ≤ db) then s1
    else s1.ringBoth none (.config (corrPairs stn (-k * rp) (-k * rl)))

/-- REGISTRATION_CORRECTION: a slot's last mark has passed the sensor (R294). Without the reference station's mark the
slot gives no correction (R295). -/
def execRegistrationCorrection (slot : Nat) (s : State) : Host.Outcome State Fault Refusal :=
  .next (
    if s.isOff then s else
    let m := s.marks slot
    if ¬ s.registers ∨ m = Marks.init ∨ (List.range 16).any (fun n => (s.barOff m n).isSome) then s
    else
      let s1 := s.setMarks slot Marks.init
      match markErrors m (s.fld CLB_MKCFG_REFST) with
      | none => s1
      | some ref => (List.range 16).foldl (fun s n => s.regStation ref m n) s1)

end Sys2Proof.Machine
end

