-- ==== Sys2Proof/Machine/Pair.lean ====
section
/-! DEFINITION. The Manager–Standby pair: the mirror stream and its watermarks (R320 to R322), takeover (R324 to R327),
the agreed swap (R329) and a lost node (R328). -/

namespace Sys2Proof.Machine

/-! The Standby's side of the stream. -/

/-- FLT_MIRSTAT.TKARMED (R322). -/
def State.tkSync (s : State) : State :=
  if s.isStandby then
    s.setBool FLT_MIRSTAT_TKARMED
      (s.mirror.snapshot && s.mirror.ahead = [] && s.mirror.expect ≠ unsynced && (s.incident 18).escd = [])
  else s.setOff FLT_MIRSTAT_TKARMED

/-- MIRREQ for some records, from the Standby to the Manager. -/
def State.mirrorAsk (s : State) (first last : Nat) : State := s.ringUni s.mgrEp (.mirreq first last)

/-- The Standby asks for a snapshot: it asks for the records from 0xFFFF_FFFF to 0xFFFF_FFFF. The manual names no frame
for this request. DEDUCED (log entry 19). -/
def State.snapshotAsk (s : State) : State :=
  ((s.setMirror { s.mirror with snapshot := false, expect := unsynced, ahead := [] }).setOn FLT_MIRSTAT_SNAPPING
    |>.mirrorAsk 0xFFFFFFFF 0xFFFFFFFF).tkSync

/-- The counts of the accounts that hold orders, and of the ledger, start again. -/
def State.clearCounts (s : State) : List (Nat × Option Order) → State
  | [] => s.setFld LDG_COUNT_ORDERS 0
  | (_, some o) :: es => (s.setFld (LDG_QUOTA_COUNT o.acct) 0).clearCounts es
  | (_, none) :: es => s.clearCounts es

/-- Orders, books, escrow and the host's locks as an empty snapshot leaves them; the Standby's tellers keep theirs
(R120). DESIGN CHOICE (log entry 70). -/
def State.snapshotClear (s : State) : State :=
  let s1 := s.clearCounts s.orders
  { s1 with
    orders := [], books := [], locks := s.locks.filter fun e => ! lockByHost e.2
    mirror := { s1.mirror with todo := [], due := [], early := [] }
    esc := { s.esc with ahead := [], slots := [], runOpen := false, stopReq := false, prev := none, endAt := none } }

/-- An order of the snapshot, counted (R121). -/
def State.snapshotOrder (s : State) (h : Nat) (o : Order) : State :=
  ((s.setOrder h (some o)).setFld LDG_COUNT_ORDERS (s.fld LDG_COUNT_ORDERS + 1)).setFld (LDG_QUOTA_COUNT o.acct)
    (s.fld (LDG_QUOTA_COUNT o.acct) + 1)

/-- A piece of the snapshot takes its place (R320). -/
def State.snapshotPiece (s : State) : SnapPiece → State
  | .order h o => s.snapshotOrder h o
  | .book index next head last => { s with books := tabSet ⟨0, 0, 0⟩ s.books index ⟨next, head, last⟩ }
  | .frame d bad => s.commitStands d bad
  | .slot c g => (s.setSlot c.slot ⟨c.kind, c.desc, c.x, c.ec, none, 0, 0, 0, [], [], g, 0⟩).nextSlot c.slot
  | .run r => s.setEsc { s.esc with
      runOpen := r.runOpen, stopReq := r.stopReq, x := r.x, ec := r.ec, prev := r.prev, lastClosed := r.lastClosed
      lastEnd := r.lastEnd, fixed := r.geo }
  | .lock l k => if lockByTeller (s.lock l) then s else s.setLock l k
  | .last => (s.setMirror { s.mirror with snapshot := true }).setOff FLT_MIRSTAT_SNAPPING

/-- A mirrored TELLER_OP: it is kept for the shadow teller; the shadow wait it belongs to completes (R78). -/
def State.mirrorTeller (s : State) (r : MirRec) : State :=
  let s1 := (s.mapTeller r.teller fun x => { x with doneOps := x.doneOps ++ [r] }).todoAdd r
  match (s.teller r.teller).wait with
  | .shadow sub rd rs rt inst => if inst = r.inst then s1.shadowFinish r.teller sub rd rs rt r else s1
  | _ => s1

/-- The Standby applies a record (R320, R321, R341): what it does to ledger and escrow waits for its turn. -/
def State.mirrorApply (s : State) (r : MirRec) : State :=
  match r.data with
  | .tellerOp _ => if r.teller < 16 then s.mirrorTeller r else s
  | .hostOp _ reply =>
    (s.setMirror { s.mirror with openReplies := s.mirror.openReplies ++ [(r.mseq, r.aux % 1024, reply)] }).todoAdd r
  | .close _ => s.todoAdd r
  | .void _ => s.todoAdd r
  | .event e =>
    let s1 := s.setFld (EVQ_TAIL_TAIL e.account) (e.seq + 1)
    (s1.setMirror { s1.mirror with
      shadowHost := s1.mirror.shadowHost ++ [(r.mseq, .record e.account (s1.evqAddr e.account e.seq) e)] }).todoAdd r
  | .snapshot p => s.snapshotPiece p
  | .swapmark m => s.setMirror { s.mirror with markSeq := some m }
  | .reserved _ => s

/-- A record in order: applied, and the position in the stream moves on. -/
def State.mirrorNext (s : State) (r : MirRec) : State :=
  let s1 := s.mirrorApply r
  (s1.setMirror { s1.mirror with expect := (r.mseq + 1) % 2 ^ 32 }).setFld FLT_MSEQ_MSEQ r.mseq

/-- Records received ahead follow as far as they join on; `n` bounds the walk. -/
def State.mirrorAhead (s : State) : Nat → State
  | 0 => s
  | n + 1 =>
    match s.mirror.ahead.find? fun r => r.mseq = s.mirror.expect with
    | some r =>
      ((s.setMirror { s.mirror with ahead := s.mirror.ahead.filter fun q => q.mseq ≠ r.mseq }).mirrorNext r).mirrorAhead n
    | none => s

/-- A record that can no longer be recovered: MIRLOST, the stream is lost until a new snapshot (R320, R322). -/
def State.mirrorLost (s : State) : State :=
  ((s.setMirror { s.mirror with snapshot := false, expect := unsynced, ahead := [], probing := false }).raise 18 2).tkSync

/-- How far past the next MSEQ expected the records received ahead of it reach, of those less than `d` past it. -/
def State.aheadTo (s : State) (d : Nat) : Nat :=
  s.mirror.ahead.foldl (fun m q =>
    let k := (q.mseq + 2 ^ 32 - s.mirror.expect) % 2 ^ 32
    if k < d then max m (k + 1) else m) 0

/-- The records from `lo` to before `hi` past the next MSEQ expected are asked for, if there are any (R320). -/
def State.askGap (s : State) (lo hi : Nat) : State :=
  if lo < hi then s.mirrorAsk ((s.mirror.expect + lo) % 2 ^ 32) ((s.mirror.expect + hi - 1) % 2 ^ 32) else s

/-- A mirror record in its place in the stream: the first copy counts, each gap is asked for (R320).
DEDUCED (log entry 19). -/
def State.mirrorOrder (s : State) (r : MirRec) : State :=
  let e := s.mirror.expect
  if e = unsynced then
    match r.data with
    | .snapshot _ =>
      if s.flag FLT_MIRSTAT_SNAPPING then (s.snapshotClear.mirrorNext r).tkSync else s
    | _ => s
  else
    let d := (r.mseq + 2 ^ 32 - e) % 2 ^ 32
    if d = 0 then ((s.mirrorNext r).mirrorAhead s.mirror.ahead.length).tkSync
    else if d ≥ 2 ^ 31 ∨ s.mirror.ahead.any (fun q => q.mseq = r.mseq) then s
    else if d > 4095 then s.mirrorLost
    else
      ((s.setMirror { s.mirror with ahead := s.mirror.ahead ++ [r] }).askGap (s.aheadTo d) d).tkSync

/-- `a` comes no later than `b` in sequence. -/
def seqUpTo (a b : Nat) : Bool := (b + 2 ^ 32 - a) % 2 ^ 32 < 2 ^ 31

/-- Whether the ring place of a record was free or is already consumed as this node knows the ring (R323): a record beyond it
cannot have been written. -/
def State.hasPlace (s : State) : HostItem → Bool
  | .record a _ r =>
    let off := (r.seq + 2 ^ 32 - s.fld (EVQ_HEAD_HEAD a)) % 2 ^ 32
    off < s.evqSize a || 2 ^ 31 ≤ off
  | .reply _ _ => true

/-- WATERMARK: the Manager's marks show on the Standby; what they settle is dropped, a gap is asked for, and ACKSEQ goes
back (R321). DEDUCED (log entry 19). -/
def execWatermark (h : Hdr) (sent settled event : Nat) (s : State) : Host.Outcome State Fault Refusal :=
  .next (s.onFrame h (.watermark sent settled event) fun s =>
    if ¬ s.isStandby then s
    else
      let s1 := (s.setFld FLT_LASTSETTLED_MSEQ settled).setFld FLT_LASTEVENT_MSEQ event
      let s2 := s1.setMirror { s1.mirror with
        shadowHost := s1.mirror.shadowHost.filter fun x => ! (seqUpTo x.1 event && s1.hasPlace x.2)
        openReplies := s1.mirror.openReplies.filter fun x => ! seqUpTo x.1 event }
      let e := s2.mirror.expect
      if e = unsynced then s2
      else
        let d := (sent + 1 + 2 ^ 32 - e) % 2 ^ 32
        let s3 := if d < 2 ^ 31 then s2.askGap (s2.aheadTo d) d else s2
        let ack := (e + 2 ^ 32 - 1) % 2 ^ 32
        (s3.setFld FLT_ACKSEQ_MSEQ ack).ringUni s3.mgrEp (.mirack ack))

/-! The Manager's side. -/

/-- LASTEVENT and LASTSETTLED follow a record that has been posted (R321): its own MSEQ, and for ORDER_SETTLED that of
its SETTLE. -/
def State.markPosted (s : State) (m : Nat) : HostItem → State
  | .record _ _ _ =>
    let s1 := s.setFld FLT_LASTEVENT_MSEQ m
    match s.mirror.settles.find? fun x => x.1 = m with
    | some x => (s1.setMirror { s1.mirror with settles := s.mirror.settles.filter fun y => y.1 ≠ m }).setFld
        FLT_LASTSETTLED_MSEQ x.2
    | none => s1
  | .reply _ _ => s

/-- Host effects of a list take place in order. -/
def State.hostAll (s : State) : List (Nat × HostItem) → State
  | [] => s
  | (m, i) :: xs => ((s.hostDo i).markPosted m i).hostAll xs

/-- Host effects up to an acknowledged MSEQ are released (R321). -/
def State.releaseHeld (s : State) (ack : Nat) : State :=
  let go := s.mirror.held.takeWhile fun x => seqUpTo x.1 ack
  (s.setMirror { s.mirror with held := s.mirror.held.drop go.length }).hostAll go

/-- Every host effect held is released: the Standby is gone. -/
def State.releaseAll (s : State) : State :=
  (s.setMirror { s.mirror with held := [], snapshot := false }).hostAll s.mirror.held

/-- MIRACK: the Standby has applied every record up to an MSEQ (R321). -/
def execMirack (h : Hdr) (mseq : Nat) (s : State) : Host.Outcome State Fault Refusal :=
  .next (s.onFrame h (.mirack mseq) fun s => 
    if s.isManager then
      ((s.setMirror { s.mirror with ackAt := s.time.cycles }).setFld FLT_ACKSEQ_MSEQ mseq).releaseHeld mseq
    else s)

/-- Mirror records of snapshot pieces. -/
def State.sendPieces (s : State) : List SnapPiece → State
  | [] => s
  | p :: ps => (s.mirrorSend 0xFF 0 0 0 (.snapshot p)).sendPieces ps

/-- The run as a snapshot carries it. -/
def State.runSnap (s : State) : RunSnap :=
  ⟨s.esc.runOpen, s.esc.stopReq, s.esc.x, s.esc.ec, s.esc.prev, s.esc.lastClosed, s.esc.lastEnd, s.esc.fixed⟩

/-- The pieces of a snapshot: orders, books, slots, waiting frames, the run, locks, and the end (R320). -/
def State.pieces (s : State) : List SnapPiece :=
  (s.orders.filterMap fun e => e.2.map fun o => SnapPiece.order e.1 o)
    ++ (s.books.map fun e => .book e.1 e.2.next e.2.head e.2.last)
    ++ (s.esc.slots.map fun e => .slot ⟨e.1, e.2.kind, 0, e.2.ec, e.2.x, e.2.desc⟩ e.2.geo)
    ++ (s.esc.ahead.map fun w => .frame w.desc w.bad) ++ [.run s.runSnap]
    ++ ((s.locks.filter fun e => lockByHost e.2).map fun e => .lock e.1 e.2) ++ [.last]

/-- Records of the last 4,096 are sent again. -/
def State.sendAgain (s : State) : List MirRec → State
  | [] => s
  | r :: rs => (s.ringBoth (some s.stbyEp) (.mirror r)).sendAgain rs

/-- MIRREQ: the Manager sends the wanted records again, or a whole snapshot (R320, R322). DEDUCED (log entry 19). -/
def execMirreq (h : Hdr) (first last : Nat) (s : State) : Host.Outcome State Fault Refusal :=
  .next (s.onFrame h (.mirreq first last) fun s =>
    if ¬ s.hasStandby then s
    else if first = 0xFFFFFFFF ∧ last = 0xFFFFFFFF then
      let s1 := s.sendPieces s.pieces
      s1.setMirror { s1.mirror with snapshot := true, ackAt := s.time.cycles }
    else s.sendAgain (s.mirror.sent.filter fun r => seqUpTo first r.mseq && seqUpTo r.mseq last))

/-! Takeover (R324 to R327). -/

/-- Every mirror record takes effect (R327). -/
def State.settleMirror (s : State) : State := (s.setTodo []).flushTodo s.mirror.todo

/-- The Standby is Manager from now on (R326): its role, the next TERM, its own count. The former Manager is gone, and an
agreed swap with it. -/
def State.takeOver (s0 : State) : State :=
  let s := s0.settleMirror
  let old := s.mirror.mgrNode
  let gone := { tabGet Peer.none s.peers old with present := false }
  let s1 := ((s.setFld GLB_ROLE_ROLE 1).setFld GLB_TERM_TERM (s.fld GLB_TERM_TERM + 1)).setOff FLT_MIRSTAT_TKARMED
  let s2 := { s1 with peers := tabSet Peer.none s1.peers old gone }
  let s3 := s2.setMirror { s2.mirror with
    next := 0, sent := [], settles := [], ahead := [], held := [], due := [], probing := false, swapping := true
    snapshot := false, boundary := none, swapSeq := none, markSeq := none, mgrNode := s.node }
  ((if s3.pos.inhRev then s3.inhibitRange else s3).escSync).postDue s.mirror.due

/-- BEACON_MISSING: an armed Standby has had no beacon on either direction for 3 µs: it sends the loss probe (R324). In
Dormant no probe follows (R390). -/
def execBeaconMissing (s : State) : Host.Outcome State Fault Refusal :=
  .next (
    if s.isOff then s else
    if s.isStandby ∧ s.pwr.dormantLow then { s with pwr := { s.pwr with bcnStopped := true } }
    else if s.isStandby ∧ s.flag FLT_MIRSTAT_TKARMED ∧ ¬ s.mirror.probing then
      (s.setMirror { s.mirror with probing := true, probeOk := false, probeLater := false, probeMgr := false }).ringBoth
        none (.probe s.mirror.lastBeacon)
    else s)

/-- PROBE: a node answers with the last Manager beacon it has seen; a Manager that lives answers too (R324). -/
def execProbe (h : Hdr) (seq : Nat) (s : State) : Host.Outcome State Fault Refusal :=
  .next (s.onFrame h (.probe seq) fun s =>
    let mine := if s.isManager then (s.pos.bcnSeq + 2 ^ 32 - 1) % 2 ^ 32 else s.mirror.lastBeacon
    if s.isManager ∨ s.isWorker then s.ringUni (h.src * 4096 + 0x58F) (.probeans mine) else s)

/-- PROBEANS: the Standby collects an answer (R324). -/
def execProbeans (h : Hdr) (seq : Nat) (s : State) : Host.Outcome State Fault Refusal :=
  .next (s.onFrame h (.probeans seq) fun s =>
    let m := s.mirror
    if s.isStandby ∧ m.probing then
      if h.src = m.mgrNode then s.setMirror { m with probeMgr := true }
      else if seq ≠ m.lastBeacon ∧ seqUpTo m.lastBeacon seq then s.setMirror { m with probeLater := true }
      else s.setMirror { m with probeOk := true }
    else s)

/-- PROBE_TIMEOUT: 4 µs after the probe the loss is confirmed, or the takeover is given up (R324). A Standby that is no longer
armed takes nothing over (R322), nor does one in Dormant (R390). -/
def execProbeTimeout (s : State) : Host.Outcome State Fault Refusal :=
  .next (
    if s.isOff then s else
    let m := s.mirror
    if ¬ (s.isStandby ∧ m.probing) then s
    else if m.probeOk ∧ ¬ m.probeLater ∧ ¬ m.probeMgr ∧ s.flag FLT_MIRSTAT_TKARMED ∧ ¬ s.pwr.dormantLow then s.takeOver
    else
      let s1 := s.setMirror { m with probing := false }
      if ¬ m.probeOk ∧ ¬ m.probeLater ∧ ¬ m.probeMgr then s1.setOn FLT_MIRSTAT_ISOLATED else s1)

/-- RELINQUISH: the armed Standby takes over without detection (R324), but in Dormant (R390). -/
def execRelinquish (h : Hdr) (s : State) : Host.Outcome State Fault Refusal :=
  .next (s.onFrame h .relinquish fun s =>
    if s.isStandby ∧ s.flag FLT_MIRSTAT_TKARMED ∧ ¬ s.pwr.dormantLow then s.takeOver else s)

/-- A shadow copy of ARM becomes live: the next drive-link frame latches it (R243). -/
def State.brakeLive (s : State) (a : Nat) : State :=
  if (s.brake a).shadow then (s.setBrake a { s.brake a with shadow := false, armReq := true }) else s

/-- A teller's shadow wait without a record executes live: the teller runs on at the same instruction (R327). -/
def Teller.unshadow (x : Teller) : Teller :=
  match x.wait with
  | .shadow _ _ _ _ _ => { x with st := .running, wait := .none }
  | _ => x

/-- Every teller below `n`. -/
def State.unshadowAll (s : State) : Nat → State
  | 0 => s
  | n + 1 => (s.mapTeller n Teller.unshadow).unshadowAll n

/-- Replies that were not confirmed posted become TAKEOVER_REPLY records (R327). -/
def State.openRepliesOut (s : State) : List (Nat × Nat × Nat) → State
  | [] => s
  | (_, a, w) :: xs => (s.post a 4 w 0 0).openRepliesOut xs

/-- A record of the old Manager is posted again at the ring place of its sequence number (R327); one that has no place yet is
held, one the host has consumed stays. -/
def State.repost (s : State) : HostItem → State
  | .record a _ r =>
    if ¬ s.flag (EVQ_CFG_EN a) ∨ 2 ^ 31 ≤ (r.seq + 2 ^ 32 - s.fld (EVQ_HEAD_HEAD a)) % 2 ^ 32 then s
    else if s.hasPlace (.record a 0 r) ∧ s.heldOf a = [] ∧ ¬ s.pwr.hostDown then s.hostDo (.record a (s.evqAddr a r.seq) r)
    else s.setHeld a (s.heldOf a ++ [r])
  | .reply a ws => s.hostDo (.reply a ws)

/-- Every one of them, in order. -/
def State.repostAll (s : State) : List (Nat × HostItem) → State
  | [] => s
  | x :: xs => (s.repost x.2).repostAll xs

/-- The align step (R327): shadow waits, host effects above the watermarks, unanswered host commands, closes. -/
def State.align (s : State) (tookOver : Bool) : State :=
  let again := s.mirror.shadowHost
  let replies := s.mirror.openReplies
  let s1 := (s.setMirror { s.mirror with shadowHost := [], openReplies := [] }).unshadowAll 16
  let s2 := (s1.repostAll again).openRepliesOut replies
  let s3 := if tookOver then s2.postIf FLT_STBYACCT_EN FLT_STBYACCT_ACCT 5 (s2.fld GLB_TERM_TERM) 0 0 else s2
  s3.closesDue 64

/-- ENABLE_SWAP_END: the shadow copies are live, the paired outputs enabled while the drive link is up (R15), pending work is
aligned (R21, R326, R327); after an agreed swap there is no record of a takeover. -/
def execEnableSwapEnd (s : State) : Host.Outcome State Fault Refusal :=
  .next (
    if s.isOff then s else
    if s.isManager ∧ s.mirror.swapping then
      let agreed := s.mirror.boundary.isSome
      let s1 := s.setMirror { s.mirror with swapping := false, boundary := none, swapSeq := none, markSeq := none }
      let s2 := (s1.brakeLive 0).brakeLive 1
      let s3 := if s2.pwr.linkUp then (s2.setOn GLB_DRVEN_OUTEN).interlock 52 else s2
      s3.align (! agreed)
    else s)

/-- FLT_CTL.RELINQ written 1: a one-sided hand-over, on the Manager with an armed Standby only (R324, R332).
DEDUCED (log entry 58). -/
def State.relinqWrite (s : State) : State :=
  if s.isManager ∧ s.standbyArmed then s.relinquish else s.setOn FLT_STATUS_SWAPERR

/-- RELINQ (R324). -/
def execRelinq (s : State) : Host.Outcome State Fault Refusal := .next (if s.isOff then s else s.relinqWrite)

/-- OWN_BEACON_LOSS: no own beacon has returned for 3 µs, or the generator has stood for 2 µs: the Manager retires and
its paired outputs are released (R325). -/
def execOwnBeaconLoss (s : State) : Host.Outcome State Fault Refusal :=
  .next (if s.isOff then s else if s.isManager ∧ ¬ s.pwr.dormantLow then s.retire else s)

/-! The agreed swap (R329). -/

/-- The press has an armed Standby and no takeover or swap runs. -/
def State.swapReady (s : State) : Bool :=
  (if s.isManager then s.standbyArmed else s.isStandby && s.flag FLT_MIRSTAT_TKARMED) && ! s.mirror.swapping
    && ! s.mirror.probing && s.mirror.boundary.isNone

/-- The beacon SEQ current at the node. -/
def State.seqNow (s : State) : Nat :=
  if s.isManager then (s.pos.bcnSeq + 2 ^ 32 - 1) % 2 ^ 32 else s.mirror.lastBeacon

/-- The swap is agreed: the boundary stands (R329 step 3). -/
def State.swapAgreed (s : State) (seq : Nat) : State :=
  s.setMirror { s.mirror with boundary := some ((seq + 8) % 2 ^ 32) }

/-- The node's own request, unanswered for no more than 4 µs, 3,200 teller cycles (R329 step 2).
DEDUCED (log entry 75). -/
def State.swapOwn (s : State) : Option Nat :=
  if s.time.cycles ≤ s.mirror.swapAt + 3200 then s.mirror.swapSeq else none

/-- FLT_CTL.SWAP written 1 (R329). DEDUCED (log entry 58). -/
def State.swapWrite (s : State) : State :=
  if s.swapReady ∧ s.swapOwn.isNone then
    (s.setMirror { s.mirror with swapSeq := some s.seqNow, swapAt := s.time.cycles }).ringBoth none (.swapreq s.seqNow)
  else if s.swapReady then s
  else s.setOn FLT_STATUS_SWAPERR

/-- SWAP (R329). -/
def execSwap (s : State) : Host.Outcome State Fault Refusal := .next (if s.isOff then s else s.swapWrite)

/-- The later of two beacon SEQs. -/
def laterSeq (a b : Nat) : Nat := if seqUpTo a b then b else a

/-- SWAPREQ: a request that crosses the node's own is the agreement; else it is acknowledged or refused (R329 step 2). -/
def execSwapreq (h : Hdr) (seq : Nat) (s : State) : Host.Outcome State Fault Refusal :=
  .next (s.onFrame h (.swapreq seq) fun s =>
      if h.src = s.node ∨ ¬ (s.isManager ∨ s.isStandby) ∨ h.term ≠ s.fld GLB_TERM_TERM then s
      else match s.swapOwn with
        | some own => if s.mirror.boundary.isSome then s else s.swapAgreed (laterSeq own seq)
        | none =>
          let ok := s.swapReady
          let s0 := s.ringUni (h.src * 4096 + 0x58F) (.swapack seq ok)
          if ok then s0.swapAgreed seq else s0)

/-- SWAPACK: the peer agrees, or refuses (R329 step 2). -/
def execSwapack (h : Hdr) (seq : Nat) (agreed : Bool) (s : State) : Host.Outcome State Fault Refusal :=
  .next (s.onFrame h (.swapack seq agreed) fun s =>
    match s.mirror.swapSeq with
    | some own =>
      if own ≠ seq ∨ s.mirror.boundary.isSome then s
      else if agreed then s.swapAgreed own
      else (s.setMirror { s.mirror with swapSeq := none }).setOn FLT_STATUS_SWAPERR
    | none => s)

/-- The Manager's side of the boundary: last it sends SWAPMARK with its last MSEQ; then it stops beaconing, releases its
paired outputs and is Standby, its stream synchronised (R329 steps 4, 5). -/
def State.swapDown (s0 : State) : State :=
  let s := s0.mirrorSend 0xFF 0 0 0 (.swapmark (s0.fld FLT_MSEQ_MSEQ))
  let s1 := ((s.setOff GLB_DRVEN_OUTEN).setFld GLB_ROLE_ROLE 2).setFld GLB_TERM_TERM (s.fld GLB_TERM_TERM + 1)
  let s2 := s1.setMirror { s1.mirror with
    held := [], sent := [], settles := [], ahead := [], todo := [], due := [], early := [], expect := 0, snapshot := true
    boundary := none, swapSeq := none
    lastBeacon := (s.pos.bcnSeq + 2 ^ 32 - 1) % 2 ^ 32, mgrNode := 1 - s.node }
  (s2.setPos { s2.pos with last := none, earlier := [], ofs := 0, ofsHist := [], est := s2.pos.out, vel := 0, stepRem := 0 }).tkSync

/-- The former Standby's side: Manager from the boundary; its outputs follow 1 µs later. -/
def State.swapUp (s0 : State) (b : Nat) : State :=
  let s := s0.settleMirror
  let s1 := ((s.setFld GLB_ROLE_ROLE 1).setFld GLB_TERM_TERM (s.fld GLB_TERM_TERM + 1)).setOff FLT_MIRSTAT_TKARMED
  let s2 := s1.setPos { s1.pos with bcnSeq := b }
  let s3 := s2.setMirror { s2.mirror with
    next := 0, sent := [], settles := [], ahead := [], held := [], due := [], swapping := true, snapshot := true
    ackAt := s.time.cycles, mgrNode := s.node }
  ((if s3.pos.inhRev then s3.inhibitRange else s3).escSync).postDue s.mirror.due

/-- The boundary has passed while the mark or a record before it was still to come: with the last of them the former Standby
acts (R329 step 4). The Manager sends its mark at the boundary. -/
def State.swapArrived (s : State) : State :=
  match s.mirror.boundary with
  | some b =>
    if s.isStandby ∧ seqUpTo b (s.mirror.lastBeacon + 1) ∧ s.mirror.markSeq.any (fun m => seqUpTo (m + 1) s.mirror.expect) then
      s.swapUp b
    else s
  | none => s

/-- SWAP_BOUNDARY: the beacon SEQ of the agreed boundary is reached; the former Standby needs every record up to the
mark (R329 steps 4, 5). -/
def execSwapBoundary (s : State) : Host.Outcome State Fault Refusal :=
  .next (
    if s.isOff then s else
    match s.mirror.boundary with
    | some b =>
      if s.isManager ∧ ¬ s.mirror.swapping ∧ seqUpTo b s.pos.bcnSeq then s.swapDown
      else s.swapArrived
    | none => s)

/-- MIRROR: a mirror record arrives at the Standby. A reserved KIND or another TERM is discarded and counted (R320). -/
def execMirror (h : Hdr) (r : MirRec) (s : State) : Host.Outcome State Fault Refusal :=
  .next (s.onFrame h (.mirror r) fun s =>
    if ¬ s.isStandby then s
    else match r.data with
      | .reserved _ => s.ringViolation h
      | _ => if r.term ≠ s.fld GLB_TERM_TERM then s.ringViolation h else (s.mirrorOrder r).swapArrived)

/-! A lost node (R328). -/

/-- The stations a node's port map binds. -/
def peerStations (map : Nat) : List Nat :=
  (List.range 4).filterMap fun n =>
    let b := map / 256 ^ n % 256
    if b ≥ 128 then some (b / 8 % 16) else none

/-- NODELOST: the ring has missed a node for 10 µs: the Manager voids every slot whose window at its stations has not
ended, ends the run and posts NODE_LOST (R328). In Dormant it raises nothing (R390). -/
def execNodelost (n : Nat) (s : State) : Host.Outcome State Fault Refusal :=
  .next (
    if s.isOff then s else
    let p := tabGet Peer.none s.peers n
    if s.isManager ∧ p.present ∧ n ≠ s.node ∧ ¬ s.pwr.dormantLow then
      let s0 : State := { s with peers := tabSet Peer.none s.peers n { p with present := false } }
      let s1 := (if n = s0.stbyNode then s0.releaseAll else s0).raise 21 2
      let inc := s1.incOf 21
      let s2 := s1.voidAll rsRequest inc (fun _ r => s1.notEnded (peerStations p.portmap) r) s1.esc.slots
      (s2.stopRequest).postIf RNG_EVACCT_EN RNG_EVACCT_ACCT 6 n 0 inc
    else s)

end Sys2Proof.Machine
end

