-- ==== Sys2Proof/Machine/Crypto.lean ====
section
/-! DEFINITION. SHA-256 (FIPS 180-4) and ECDSA verification over P-256 (FIPS 186-4), which R366 names. -/

namespace Sys2Proof.Machine

/-! SHA-256. -/

/-- The `n` 32-bit words of a number, the highest first. -/
def wordsOf (x : Nat) : Nat → List Nat
  | 0 => []
  | n + 1 => x / 2 ^ (32 * n) % 2 ^ 32 :: wordsOf x n

/-- The round constants of FIPS 180-4, eight to a number. -/
def shaK : List Nat :=
  List.flatMap (fun x => wordsOf x 8)
    [0x428a2f9871374491b5c0fbcfe9b5dba53956c25b59f111f1923f82a4ab1c5ed5,
     0xd807aa9812835b01243185be550c7dc372be5d7480deb1fe9bdc06a7c19bf174,
     0xe49b69c1efbe47860fc19dc6240ca1cc2de92c6f4a7484aa5cb0a9dc76f988da,
     0x983e5152a831c66db00327c8bf597fc7c6e00bf3d5a7914706ca635114292967,
     0x27b70a852e1b21384d2c6dfc53380d13650a7354766a0abb81c2c92e92722c85,
     0xa2bfe8a1a81a664bc24b8b70c76c51a3d192e819d6990624f40e3585106aa070,
     0x19a4c1161e376c082748774c34b0bcb5391c0cb34ed8aa4a5b9cca4f682e6ff3,
     0x748f82ee78a5636f84c878148cc7020890befffaa4506cebbef9a3f7c67178f2]

/-- The initial hash value. -/
def shaInit : List Nat := wordsOf 0x6a09e667bb67ae853c6ef372a54ff53a510e527f9b05688c1f83d9ab5be0cd19 8

/-- A 32-bit word turned right. -/
def ror32 (x n : Nat) : Nat := (x / 2 ^ n + x * 2 ^ (32 - n)) % 2 ^ 32

/-- The exclusive or of a word turned right by each of some amounts. -/
def rorXor (x : Nat) (turns : List Nat) : Nat := turns.foldl (fun y n => y ^^^ ror32 x n) 0

/-- The next word of the message schedule, from those before it, the newest first. -/
def shaNext (ws : List Nat) : Nat :=
  let x := ws.getD 14 0
  let y := ws.getD 1 0
  (ws.getD 15 0 + (rorXor x [7, 18] ^^^ x / 2 ^ 3) + ws.getD 6 0 + (rorXor y [17, 19] ^^^ y / 2 ^ 10)) % 2 ^ 32

/-- The message schedule grows by `n` words; the newest stands first. -/
def shaGrow : Nat → List Nat → List Nat
  | 0, ws => ws
  | n + 1, ws => shaGrow n (shaNext ws :: ws)

/-- One round on the working variables. -/
def shaRound (v : List Nat) (k w : Nat) : List Nat :=
  match v with
  | [a, b, c, d, e, f, g, h] =>
    let choice := g ^^^ e &&& (f ^^^ g)
    let majority := a &&& (b ||| c) ||| b &&& c
    let t := h + rorXor e [6, 11, 25] + choice + k + w
    [(t + rorXor a [2, 13, 22] + majority) % 2 ^ 32, a, b, c, (d + t) % 2 ^ 32, e, f, g]
  | _ => v

/-- The rounds of a block. -/
def shaRounds (v : List Nat) : List Nat → List Nat → List Nat
  | k :: ks, w :: ws => shaRounds (shaRound v k w) ks ws
  | _, _ => v

/-- The number some bytes spell, most significant first. -/
def ofBe (bs : List Byte) : Nat := bs.foldl (fun n b => n * 256 + b.toNat) 0

/-- The sixteen big-endian words of a block. -/
def beWords : Nat → List Byte → List Nat
  | 0, _ => []
  | n + 1, bs => ofBe (bs.take 4) :: beWords n (bs.drop 4)

/-- A block joins the hash. -/
def shaBlock (h : List Nat) (bs : List Byte) : List Nat :=
  let ws := (shaGrow 48 (beWords 16 bs).reverse).reverse
  (h.zip (shaRounds h shaK ws)).map fun p => (p.1 + p.2) % 2 ^ 32

/-- `n` blocks join the hash. -/
def shaBlocks (h : List Nat) : Nat → List Byte → List Nat
  | 0, _ => h
  | n + 1, bs => shaBlocks (shaBlock h (bs.take 64)) n (bs.drop 64)

/-- The bytes of a number, most significant first. -/
def beBytes (n v : Nat) : List Byte := (leBytes n v).reverse

/-- SHA-256 of some bytes, as a number of 256 bits, most significant first. -/
def sha256 (bs : List Byte) : Nat :=
  let pad := (119 - bs.length % 64) % 64
  let m := bs ++ (0x80 : Byte) :: (List.replicate pad 0 ++ beBytes 8 (8 * bs.length))
  (shaBlocks shaInit (m.length / 64) m).foldl (fun n w => n * 2 ^ 32 + w) 0

/-! P-256. -/

/-- The field prime, the group order, the coefficient b and the base point. -/
def p256p : Nat := 0xffffffff00000001000000000000000000000000ffffffffffffffffffffffff
def p256n : Nat := 0xffffffff00000000ffffffffffffffffbce6faada7179e84f3b9cac2fc632551
def p256b : Nat := 0x5ac635d8aa3a93e7b3ebbd55769886bc651d06b0cc53b0f63bce3c3e27d2604b
def p256gx : Nat := 0x6b17d1f2e12c4247f8bce6e563a440f277037d812deb33a0f4a13945d898c296
def p256gy : Nat := 0x4fe342e2fe1a7f9b8ee7eb4a7c0f9e162bce33576b315ececbb6406837bf51f5

/-- b ^ e mod m, by the `k` low bits of e. -/
def powMod (m b e : Nat) : Nat → Nat
  | 0 => 1 % m
  | k + 1 =>
    let r := powMod m (b * b % m) (e / 2) k
    if e % 2 = 1 then r * b % m else r

/-- The inverse modulo a prime of 256 bits. -/
def invMod (m a : Nat) : Nat := powMod m (a % m) (m - 2) 256

/-- A point: none is the point at infinity. -/
abbrev Point := Option (Nat × Nat)

/-- The sum of two points. -/
def ecAdd (a b : Point) : Point :=
  match a, b with
  | none, q => q
  | p, none => p
  | some (x1, y1), some (x2, y2) =>
    let p := p256p
    if x1 = x2 ∧ (y1 + y2) % p = 0 then none
    else
      let l :=
        if x1 = x2 then (3 * x1 * x1 + (p - 3)) * invMod p (2 * y1) % p
        else (y2 + (p - y1)) * invMod p (x2 + (p - x1)) % p
      let x3 := (l * l + (p - x1) + (p - x2)) % p
      some (x3, (l * (x1 + (p - x3)) + (p - y1)) % p)

/-- A multiple of a point, by the `k` low bits of the factor. -/
def ecMul (f : Nat) (a : Point) : Nat → Point
  | 0 => none
  | k + 1 =>
    let r := ecMul (f / 2) (ecAdd a a) k
    if f % 2 = 1 then ecAdd r a else r

/-- A point of the curve with both coordinates in range. -/
def onCurve (x y : Nat) : Bool :=
  let p := p256p
  x < p && y < p && decide (y * y % p = (x * x * x + (p - 3) * x + p256b) % p)

/-- Verification of a signature (r, s) over a hash by a public key. -/
def ecdsaOk (hash x y r s : Nat) : Bool :=
  let n := p256n
  if onCurve x y ∧ 0 < r ∧ r < n ∧ 0 < s ∧ s < n then
    let w := invMod n s
    match ecAdd (ecMul (hash * w % n) (some (p256gx, p256gy)) 256) (ecMul (r * w % n) (some (x, y)) 256) with
    | some (x1, _) => decide (x1 % n = r)
    | none => false
  else false

end Sys2Proof.Machine
end

