-- ==== Sys2Proof/Machine/Calendar.lean ====
section
/-! DEFINITION. Wall time, the calendar and the wall-time timers (R49 to R56). The calendar is the Gregorian reading
of wall time, so it moves with it. -/

namespace Sys2Proof.Machine

/-! The Gregorian calendar from 2000-01-01, a Saturday, over 400 years (R53). -/

/-- Seconds in the 400-year range. -/
def secCycle : Nat := 146097 * 86400

def leapYear (y : Nat) : Bool := y % 4 = 0 && (y % 100 ≠ 0 || y % 400 = 0)

/-- Days from 2000-01-01 to the first day of year 2000 + `y`. -/
def daysBefore (y : Nat) : Nat := y * 365 + (y + 3) / 4 - (y + 99) / 100 + (y + 399) / 400

def monthLen (y m : Nat) : Nat :=
  match m with
  | 1 => 31 | 2 => if leapYear y then 29 else 28 | 3 => 31 | 4 => 30 | 5 => 31 | 6 => 30 | 7 => 31 | 8 => 31
  | 9 => 30 | 10 => 31 | 11 => 30 | 12 => 31 | _ => 0

/-- The month and day a day of a year falls on, counted from month `m` up; `n` bounds the months left. -/
def monthOf (y m d : Nat) : Nat → Nat × Nat
  | 0 => (m, d + 1)
  | n + 1 => if d < monthLen y m then (m, d + 1) else monthOf y (m + 1) (d - monthLen y m) n

/-- Days before month `m` of a year. -/
def daysBeforeMonth (y : Nat) : Nat → Nat
  | 0 => 0
  | m + 1 => daysBeforeMonth y m + monthLen y m

/-- The year, less 2000, a day falls in. -/
def yearOf (d : Nat) : Nat :=
  let y := d / 366
  if daysBefore (y + 1) ≤ d then y + 1 else y

/-- Year, month, day of week (1 Monday to 7 Sunday) and day of a count of days. -/
def dateOf (d : Nat) : Nat × Nat × Nat × Nat :=
  let y := yearOf d
  let (m, day) := monthOf (2000 + y) 1 (d - daysBefore y) 12
  (2000 + y, m, (d + 5) % 7 + 1, day)

/-- The register words CLD_DATE, CLD_TIME and CLD_NS of a wall time in seconds and nanoseconds (R59). -/
def calWords (sec ns : Nat) : Nat × Nat × Nat :=
  let (y, m, w, d) := dateOf (sec / 86400)
  let t := sec % 86400
  (y * 2 ^ 16 + m * 2 ^ 8 + w * 2 ^ 5 + d, t / 3600 * 2 ^ 24 + t / 60 % 60 * 2 ^ 16 + t % 60 * 2 ^ 8, ns)

/-- A staged date and time is legal (R54). -/
def dateOk (y m d hh mm ss ns : Nat) : Bool :=
  2000 ≤ y && y ≤ 2399 && 1 ≤ m && m ≤ 12 && 1 ≤ d && d ≤ monthLen y m && hh < 24 && mm < 60 && ss < 60
    && ns < 1000000000

/-- Seconds since 2000-01-01 of a date and time. -/
def secOf (y m d hh mm ss : Nat) : Nat :=
  (daysBefore (y - 2000) + daysBeforeMonth y m + (d - 1)) * 86400 + hh * 3600 + mm * 60 + ss

/-! Timers (R51, R52). -/

/-- The deadline of timer `n`. -/
def State.deadline (s : State) (n : Nat) : Nat := s.fld (CLD_TMRHI_DL n) * 2 ^ 32 + s.fld (CLD_TMRLO_DL n)

def State.timerArmed (s : State) (n : Nat) : Bool := s.fbit CLD_TMRCTL_ARM n

/-- A timer fires: disarmed, FIRED set, TEV.CLD in its routed teller when enabled (R51, R52). -/
def State.timerFire (s : State) (n : Nat) : State :=
  let s1 := (s.clrFbit CLD_TMRCTL_ARM n).setFbit CLD_TMRCTL_FIRED n
  if s.fbit CLD_TMREVEN_EN n then s1.setTev (s.fld CLD_TMRROUTE_T / 16 ^ n % 16) tevCld else s1

/-- The armed timer with the earliest deadline that has passed, the lower-numbered of equals. -/
def State.nextDue (s : State) : List Nat → Option Nat
  | [] => none
  | n :: ns =>
    let rest := s.nextDue ns
    if s.timerArmed n ∧ s.deadline n ≤ s.wall then
      match rest with
      | some m => if s.deadline n ≤ s.deadline m then some n else some m
      | none => some n
    else rest

/-- Every timer whose deadline has passed fires once, in deadline order, then number order; `n` bounds them (R51).
DEDUCED (log entry 64). -/
def State.fireDue (s : State) : Nat → State
  | 0 => s
  | n + 1 =>
    match s.nextDue [0, 1, 2, 3, 4, 5, 6, 7] with
    | some k => (s.timerFire k).fireDue n
    | none => s

/-- A timer armed with its deadline fires at once if it has passed (R51). DESIGN CHOICE (log entry 59). -/
def State.timerArm (s : State) (n : Nat) : State :=
  if n < 8 then
    let s1 := s.setFbit CLD_TMRCTL_ARM n
    if s1.deadline n ≤ s1.wall then s1.timerFire n else s1
  else s

def State.timerDisarm (s : State) (n : Nat) : State := s.clrFbit CLD_TMRCTL_ARM n

/-! Changes of wall time. -/

/-- TIME_STEPPED (R344). -/
def evTimeStepped : Nat := 2

/-- Wall time set other than by slewing: STEPPED, a TIME_STEPPED record with the step in microseconds, saturated, and
the timers it has passed (R50, R51). The manual names no account for the record: it is a free value; the microseconds
are cut toward 0. DESIGN CHOICE (log entry 29), DESIGN CHOICE (log entry 68). -/
def State.stepWall (s : State) (sec ns : Nat) : State :=
  let old : Int := s.wall
  let s1 := { s with time := { s.time with sec := sec % secCycle, ns := ns, quarter := 0, slew := 0 } }
  let step := tdiv ((s1.wall : Int) - old) 1000
  let sat : Int := if step > 2 ^ 31 - 1 then 2 ^ 31 - 1 else if step < -(2 ^ 31 - 1) then -(2 ^ 31 - 1) else step
  let (acct, s2) := (s1.setOn CLD_STATUS_STEPPED).free 1024
  (s2.post acct evTimeStepped (toTwos 32 sat) 0 0).fireDue 8

/-- The next second begins, `ns` nanoseconds into it: the calendar advances, and wraps after 2399-12-31 with WRAP set
(R53, R55). A commit accepted in the same cycle has won, and the rollover is discarded (R54). The timers follow at the
cycle's end. DEDUCED (log entry 64). -/
def State.nextSecond (s : State) (ns : Nat) : State :=
  if s.time.commitAt = some s.time.cycles then s
  else
    let sec := s.time.sec + 1
    let wraps : Bool := sec ≥ secCycle
    let first : Bool := wraps && ! s.flag CLD_STATUS_WRAP
    let t := { s.time with
      sec := if wraps then 0 else sec, ns := ns, quarter := if ns = 0 then 0 else s.time.quarter
      wrapAt := if first then some s.time.cycles else s.time.wrapAt }
    let s1 := { s with time := t }
    if wraps then s1.setOn CLD_STATUS_WRAP else s1

/-- A commit is accepted (R54): it wins over a rollover or wrap of its cycle, whose WRAP it takes back. -/
def State.cldAccept (s : State) (sec ns : Nat) : State :=
  let s1 := if s.time.wrapAt = some s.time.cycles then s.setOff CLD_STATUS_WRAP else s
  let s2 := ((s1.stepWall sec ns).setFld CLD_STATUS_SRC 1).setOff CLD_STATUS_PTPRUN
  { s2 with time := { s2.time with commitAt := some s2.time.cycles, wrapAt := none } }

/-- CLD_COMMIT.GO (R54): discarded with PTPOWN while PTP tracks and with BADDATE when any check fails, both where both
hold, else loaded whole. -/
def State.cldCommit (s : State) : State :=
  let y := s.fld CLD_SDATE_YEAR; let m := s.fld CLD_SDATE_MONTH; let d := s.fld CLD_SDATE_DAY
  let hh := s.fld CLD_STIME_HOUR; let mm := s.fld CLD_STIME_MIN; let ss := s.fld CLD_STIME_SEC
  let ns := s.fld CLD_SNS_NS
  let good := dateOk y m d hh mm ss ns
  let s1 := if good then s else s.setOn CLD_STATUS_BADDATE
  if s.fld CLD_STATUS_SRC = 2 then s1.setOn CLD_STATUS_PTPOWN
  else if good then s.cldAccept (secOf y m d hh mm ss) ns
  else s1

/-- Wall time moves by five quarter-nanoseconds a cycle; while PTP slews, a quarter more or less every 400 cycles
(±500 ppm, R49). -/
def Time.tick (t : Time) : Time :=
  let slewing : Bool := t.slew ≠ 0 && t.cycles % 400 = 399
  let q := t.quarter + 5 + (if slewing then (if t.slew > 0 then 1 else 0) else 0)
  let q' := if slewing && t.slew < 0 then q - 1 else q
  let s' : Int := if slewing && t.cycles % 1600 = 1599 then (if t.slew > 0 then t.slew - 1 else t.slew + 1) else t.slew
  { t with cycles := t.cycles + 1, ns := t.ns + q' / 4, quarter := q' % 4, slew := s' }

/-- One teller cycle of wall time: the timers due by the cycle that ends fire, then time goes on and a full second is
carried (R51, R53, R55). -/
def State.timeTick (s : State) : State :=
  let s1 := s.fireDue 8
  let s2 : State := { s1 with time := s1.time.tick }
  if s2.time.ns < 1000000000 then s2 else s2.nextSecond (s2.time.ns - 1000000000)

/-! Commands. -/

/-- CLD_COMMIT: a write of CLD_COMMIT.GO = 1 (R54). -/
def execCldCommit (s : State) : Host.Outcome State Fault Refusal := .next (if s.isOff then s else s.cldCommit)

/-- SECOND_ROLLOVER: wall time reaches the next second (R53, R55). -/
def execSecondRollover (s : State) : Host.Outcome State Fault Refusal := .next (if s.isOff then s else s.nextSecond 0)

/-- CLD_TIMER_ARM: a 1 in CLD_TMRCTL.ARM (R51). -/
def execCldTimerArm (n : Nat) (s : State) : Host.Outcome State Fault Refusal := .next (if s.isOff then s else if n < 8 then s.timerArm n else s)

/-- CLD_TIMER_DISARM: a 1 in CLD_TMRCTL.DISARM (R51). -/
def execCldTimerDisarm (n : Nat) (s : State) : Host.Outcome State Fault Refusal := .next (if s.isOff then s else if n < 8 then s.timerDisarm n else s)

/-- WALL_TIMER_FIRE: an armed timer reaches its deadline: wall time has come to it if it had not, and every timer due
by then fires in order (R51). DEDUCED (log entry 64). -/
def execWallTimerFire (n : Nat) (s : State) : Host.Outcome State Fault Refusal :=
  .next (if s.isOff then s else if n < 8 ∧ s.timerArmed n then
      let d := s.deadline n
      let t := { s.time with sec := d / 1000000000 % secCycle, ns := d % 1000000000, quarter := 0 }
      (if s.wall < d ∧ d < secCycle * 1000000000 then { s with time := t } else s).fireDue 8
    else s)

/-! PTP (R49, R352, R353). -/

/-- Tracking stops: wall time runs on without a step, SRC reads 1 with PTPRUN (R49, R353). -/
def State.ptpStop (s : State) : State :=
  let s1 := { s with time := { s.time with goodSyncs := 0, slew := 0 } }
  if s.fld CLD_STATUS_SRC = 2 then (s1.setFld CLD_STATUS_SRC 1).setOn CLD_STATUS_PTPRUN else s1

/-- The best master clock algorithm gives this clock the master role: MASTEROK is set, and no grandmaster announced is
better than the clock itself. PRESUMED (log entry 67). -/
def State.ptpMaster (s : State) : Bool :=
  s.flag PTP_CFG_MASTEROK && s.time.ptpBest.all fun d => Config.ptpDataset < d

/-- The port takes the role its data set decides (R352): master, or a slave that acquires and goes on tracking.
PRESUMED (log entry 67). -/
def State.ptpDecide (s : State) : State :=
  if s.ptpMaster then s.ptpStop.setFld PTP_STAT_STATE 4
  else if s.fld PTP_STAT_STATE = 1 ∨ s.fld PTP_STAT_STATE = 4 then s.setFld PTP_STAT_STATE 2
  else s

/-- An Announce message: the best grandmaster's data set and identity are kept, and the role is decided (R352). Bytes 47
to 60 hold priority 1, clock class, accuracy, variance, priority 2 and identity, in the order they are compared.
PRESUMED (log entry 67). -/
def State.ptpAnnounce (s : State) (msg : List Byte) : State :=
  let at_ (k n : Nat) : Nat := ofBe ((msg.drop k).take n)
  if msg.length < 64 ∨ at_ 0 1 % 16 ≠ 11 ∨ at_ 4 1 ≠ s.fld PTP_CFG_DOMAIN then s
  else
    let d := at_ 47 14
    let known := s.fld PTP_GMIDHI_ID * 2 ^ 32 + s.fld PTP_GMIDLO_ID
    if s.time.ptpBest.all fun b => d ≤ b ∨ at_ 53 8 = known then
      let s1 := { s with time := { s.time with ptpBest := some d } }
      ((s1.setFld PTP_GMIDLO_ID (at_ 57 4)).setFld PTP_GMIDHI_ID (at_ 53 4)).ptpDecide
    else s

/-- PTP_CFG.EN has been written: off ends tracking, on starts listening (R352, R353). PRESUMED (log entry 67). -/
def State.ptpSwitched (s : State) (was : Bool) : State :=
  let on := s.flag PTP_CFG_EN
  if was ∧ ¬ on then
    let s1 := s.ptpStop.setFld PTP_STAT_STATE 0
    { s1 with time := { s1.time with ptpBest := none } }
  else if on ∧ ¬ was then s.setFld PTP_STAT_STATE 1
  else s

/-- PTP_SYNC: one Sync interval with a measured offset in nanoseconds and mean path delay. A good interval
(|offset| ≤ 1 µs) counts toward tracking, which starts with the eighth in a row. While PTP tracks, an offset of 1 ms or
less is slewed and a larger one stepped. -/
def execPtpSync (offset : Int) (mpd : Nat) (s : State) : Host.Outcome State Fault Refusal :=
  .next (
    if s.isOff then s else
    if ¬ s.flag PTP_CFG_EN ∨ s.fld PTP_STAT_STATE = 4 then s
    else
      let s1 := (s.setFld PTP_OFFSET_NS (toTwos 32 offset)).setFld PTP_MPD_NS mpd
      let good : Bool := offset.natAbs ≤ 1000
      let n := if good then s1.time.goodSyncs + 1 else 0
      let s2 := { s1 with time := { s1.time with goodSyncs := n } }
      if s2.fld CLD_STATUS_SRC = 2 then
        if offset.natAbs ≤ 1000000 then { s2 with time := { s2.time with slew := -offset } }
        else
          let w := ((s2.wall : Int) - offset).toNat
          s2.stepWall (w / 1000000000) (w % 1000000000)
      else if n ≥ 8 then
        (((s2.setFld CLD_STATUS_SRC 2).setOff CLD_STATUS_PTPRUN).setFld PTP_STAT_STATE 3)
      else s2.setFld PTP_STAT_STATE 2)

/-- PTP_SYNC_LOSS: three intervals without a Sync end tracking; wall time runs on, SRC reads 1 with PTPRUN, GMLOST is
set (R353). The grandmaster is gone, so a clock that may be master becomes it (R352). PRESUMED (log entry 67). -/
def execPtpSyncLoss (s : State) : Host.Outcome State Fault Refusal :=
  .next (
    if s.isOff then s else
    if s.flag PTP_CFG_EN ∧ s.fld PTP_STAT_STATE ≠ 4 then
      let s1 := s.ptpStop
      let s2 := ({ s1 with time := { s1.time with ptpBest := none } }).setFld PTP_STAT_STATE 1
      let s3 := if s.fld CLD_STATUS_SRC = 2 then s2.raise 20 0 else s2
      if s3.ptpMaster then s3.setFld PTP_STAT_STATE 4 else s3
    else s)

end Sys2Proof.Machine
end

