-- ==== Sys2Proof/Machine/Ptp.lean ====
section
/-! DEFINITION. The PTP clock's messages (R352): its roles, what it answers and what it sends, as bytes. The manual names
IEEE 1588-2019's default profile: the layouts, addresses and intervals are that standard's. -/

namespace Sys2Proof.Machine

/-! Network bytes, most significant first. -/

/-- The ones' complement sum of some bytes as big-endian 16-bit words. -/
def onesSum : Nat → List Byte → Nat
  | acc, a :: b :: bs =>
    let t := acc + a.toNat * 256 + b.toNat
    onesSum (t % 65536 + t / 65536) bs
  | acc, [a] =>
    let t := acc + a.toNat * 256
    t % 65536 + t / 65536
  | acc, [] => acc

/-- The big-endian number in `n` bytes from byte `k`. PRESUMED (log entry 56). -/
def netAt (bs : List Byte) (k n : Nat) : Nat := ofBe ((bs.drop k).take n)

/-- A port's own address numbers (R371). -/
def State.netMac (s : State) (p : Nat) : Nat := s.fld (NET_MACHI_MAC p) * 2 ^ 32 + s.fld (NET_MACLO_MAC p)

/-- An IPv4 header without options, its checksum formed, for `len` bytes of protocol `proto` to `dst`. -/
def State.ipHeader (s : State) (p proto dst len : Nat) : List Byte :=
  let h (sum : Nat) : List Byte := beBytes 2 0x4500 ++ beBytes 2 (20 + len) ++ beBytes 4 0 ++ beBytes 1 1 ++ beBytes 1 proto
    ++ beBytes 2 sum ++ beBytes 4 (s.fld (NET_IPV4_IPV4 p)) ++ beBytes 4 dst
  h (0xFFFF - onesSum 0 (h 0))

/-! Messages. -/

/-- Message types of IEEE 1588. -/
def ptSync : Nat := 0
def ptDelayReq : Nat := 1
def ptPdelayReq : Nat := 2
def ptPdelayResp : Nat := 3
def ptFollowUp : Nat := 8
def ptDelayResp : Nat := 9
def ptPdelayFollowUp : Nat := 10
def ptAnnounce : Nat := 11

/-- The two-step flag of a message's flag field. -/
def ptTwoStep : Nat := 0x200

/-- The node's port identity: the identity in its data set, and port number 1. PRESUMED (log entry 67). -/
def ptpPort : List Byte := beBytes 8 Config.ptpDataset ++ beBytes 2 1

/-- A message with its header (R352). PRESUMED (log entry 67). -/
def State.ptpMessage (s : State) (type flags seq : Nat) (body : List Byte) : List Byte :=
  beBytes 1 type ++ beBytes 1 0x12 ++ beBytes 2 (34 + body.length) ++ beBytes 1 (s.fld PTP_CFG_DOMAIN) ++ beBytes 1 0
    ++ beBytes 2 flags ++ beBytes 12 0 ++ ptpPort ++ beBytes 2 seq
    ++ beBytes 1 (if type = ptSync then 0 else if type = ptDelayReq then 1 else if type = ptFollowUp then 2
        else if type = ptDelayResp then 3 else 5)
    ++ beBytes 1 (if type = ptAnnounce then 1 else if type = ptSync ∨ type = ptFollowUp ∨ type = ptPdelayReq then 0 else 0x7F)
    ++ body

/-- A timestamp: wall time as seconds since 1970 on TAI, with hardware steps of 2 ns (R352). -/
def State.ptpStamp (s : State) : List Byte := beBytes 6 (s.time.sec + 946684800) ++ beBytes 4 (s.time.ns / 2 * 2)

/-- A message leaves the clock's port by its transport: an IEEE 802.3 frame, or a UDP datagram to port 319 for an event and 320
for a general message; those of the peer delay go to their own group (R352). PRESUMED (log entry 67). -/
def State.ptpSend (s : State) (type flags seq : Nat) (body : List Byte) : State :=
  let p := s.fld PTP_CFG_PORT
  let peer : Bool := type = ptPdelayReq || type = ptPdelayResp || type = ptPdelayFollowUp
  let m := s.ptpMessage type flags seq body
  let frame : List Byte :=
    if s.fld PTP_CFG_TRANSPORT = 0 then
      beBytes 6 (if peer then 0x0180C200000E else 0x011B19000000) ++ beBytes 6 (s.netMac p) ++ beBytes 2 0x88F7 ++ m
    else
      let port := if type < 8 then 319 else 320
      beBytes 6 (if peer then 0x01005E00006B else 0x01005E000181) ++ beBytes 6 (s.netMac p) ++ beBytes 2 0x0800
        ++ s.ipHeader p 17 (if peer then 0xE000006B else 0xE0000181) (8 + m.length)
        ++ beBytes 2 port ++ beBytes 2 port ++ beBytes 2 (8 + m.length) ++ beBytes 2 0 ++ m
  if s.flag (NET_CTL_EN p) then s.emit (.port "ethernet" p (frame.map (·.toNat))) else s

/-! The clock's own messages. -/

/-- PTP_CFG.MECH is the end-to-end delay mechanism. -/
def State.ptpE2e (s : State) : Bool := s.fld PTP_CFG_MECH = 0

/-- The next number of the clock's requests. -/
def State.ptpNumber (s : State) : Nat × State :=
  (s.time.ptpSeq, { s with time := { s.time with ptpSeq := (s.time.ptpSeq + 1) % 2 ^ 16 } })

/-- A slave asks the master for its path delay, end to end (R352). -/
def State.ptpDelayReq (s : State) : State :=
  if s.ptpE2e ∧ (s.fld PTP_STAT_STATE = 2 ∨ s.fld PTP_STAT_STATE = 3) then
    let (n, s1) := s.ptpNumber
    s1.ptpSend ptDelayReq 0 n s.ptpStamp
  else s

/-- A master's second: Sync and, in two steps, its Follow_Up, and every other second Announce with the clock's data set
(R352). -/
def State.ptpMasterSecond (s : State) : State :=
  let n := s.time.cycles / 800000000
  let s1 := (s.ptpSend ptSync ptTwoStep (n % 65536) (beBytes 10 0)).ptpSend ptFollowUp 0 (n % 65536) s.ptpStamp
  if n % 2 = 0 then
    s1.ptpSend ptAnnounce 0 (n / 2 % 65536) (beBytes 10 0 ++ beBytes 2 37 ++ beBytes 1 0 ++ beBytes 14 Config.ptpDataset
      ++ beBytes 2 0 ++ beBytes 1 0xA0)
  else s1

/-- What the clock sends of itself, once a second of 800,000,000 cycles: a master its Sync and Announce, and, with the
peer-to-peer mechanism, every clock its request (R352). PRESUMED (log entry 67). -/
def State.ptpTick (s : State) : State :=
  if s.time.cycles % 800000000 ≠ 0 ∨ ¬ s.flag PTP_CFG_EN then s
  else
    let s1 := if s.fld PTP_STAT_STATE = 4 then s.ptpMasterSecond else s
    if s1.ptpE2e then s1
    else
      let (n, s2) := s1.ptpNumber
      s2.ptpSend ptPdelayReq 0 n (beBytes 20 0)

/-! Received messages. -/

/-- A message for the clock (R352): Announce decides the role, a Sync that needs no Follow_Up and a Follow_Up are followed by
the slave's own request, and requests are answered by the delay mechanism chosen. What a Sync measures is the command PTP_SYNC.
PRESUMED (log entry 67). -/
def State.ptpIn (s : State) (m : List Byte) : State :=
  let type := netAt m 0 1 % 16
  let from_ := (m.drop 20).take 10
  let seq := netAt m 30 2
  if m.length < 44 ∨ netAt m 1 1 % 16 ≠ 2 ∨ netAt m 4 1 ≠ s.fld PTP_CFG_DOMAIN then s
  else if type = ptAnnounce then s.ptpAnnounce m
  else if type = ptFollowUp ∨ (type = ptSync ∧ netAt m 6 2 / ptTwoStep % 2 = 0) then s.ptpDelayReq
  else if type = ptDelayReq ∧ s.ptpE2e ∧ s.fld PTP_STAT_STATE = 4 then s.ptpSend ptDelayResp 0 seq (s.ptpStamp ++ from_)
  else if type = ptPdelayReq ∧ ¬ s.ptpE2e then
    (s.ptpSend ptPdelayResp ptTwoStep seq (s.ptpStamp ++ from_)).ptpSend ptPdelayFollowUp 0 seq (s.ptpStamp ++ from_)
  else s

/-- Whether PTP of this port takes a message that came by transport `t`: 0 IEEE 802.3, 1 UDP/IPv4 (R352).
PRESUMED (log entry 67). -/
def State.ptpTakes (s : State) (p t : Nat) : Bool :=
  s.flag PTP_CFG_EN && s.fld PTP_CFG_PORT = p && s.fld PTP_CFG_TRANSPORT = t

end Sys2Proof.Machine
end

