-- ==== Sys2Proof/Machine/Ring.lean ====
section
/-! DEFINITION. The ring beside position and the mirror: hop acknowledgement, retransmission, link loss and wrap (R357,
R358), messages (R361), the press-wide stop (R364) and discovery (R16, R17, R362, R363). -/

namespace Sys2Proof.Machine

/-! Links (R357, R358). -/

/-- RNG_STATUS.UPd and WRAPd. -/
def upField (d : Nat) : Field := if d = 0 then RNG_STATUS_UPA else RNG_STATUS_UPB
def wrapField (d : Nat) : Field := if d = 0 then RNG_STATUS_WRAPA else RNG_STATUS_WRAPB

/-- A message of a teller has been delivered to the next node: its outbound entry is free (R77).
DESIGN CHOICE (log entry 18). -/
def State.sentMsg (s : State) : RingMsg → State
  | .msg m =>
    let t := m.src % 4096 - 0x400
    if m.src / 4096 = s.node ∧ 0x400 ≤ m.src % 4096 ∧ t < 16 then s.mapTeller t fun x => { x with outb := x.outb.drop 1 }
    else s
  | _ => s

/-- Acknowledged frames are done with. -/
def State.sentAll (s : State) : List RingFrame → State
  | [] => s
  | x :: xs => (s.sentMsg x.m).sentAll xs

/-- The kept frames up to an acknowledged LSEQ, and those after it. -/
def ackSplit (lseq : Nat) : List RingFrame → List RingFrame × List RingFrame
  | [] => ([], [])
  | x :: xs =>
    if x.lseq = lseq then ([x], xs)
    else
      let (a, b) := ackSplit lseq xs
      (x :: a, b)

/-- Frames of a dead link leave on the other direction, with that link's LSEQs (R358). -/
def State.turn (s : State) (d : Nat) : List RingFrame → State
  | [] => s
  | x :: xs => (s.frameOut (1 - d) { x with wrapped := true }).turn d xs

/-- A link is declared down: LINKA or LINKB, and the wrap (R357, R358); in Dormant no source event (R390). -/
def State.linkDown (s : State) (d : Nat) : State :=
  let l := s.link d
  let s1 := ((s.setOff (upField d)).setOn (wrapField d)).setLink d { l with unacked := [], failures := 0, good := 0 }
  let s2 := s1.turn d l.unacked
  if s2.pwr.dormantLow then s2 else s2.raise 21 d

/-- Frames are sent again with the LSEQs they had. -/
def State.resend (s : State) (d : Nat) : List RingFrame → State
  | [] => s
  | x :: xs => ((s.emit (.ring d x)).inc RNG_RETX_COUNT).resend d xs

/-- A failure of the oldest frame: all kept frames go out again, a third failure takes the link down (R357). -/
def State.linkFail (s : State) (d : Nat) : State :=
  let l := s.link d
  if l.unacked = [] then s
  else if l.failures + 1 ≥ 3 then s.linkDown d
  else (s.setLink d { l with failures := l.failures + 1, good := 0 }).resend d l.unacked

/-- The wrap is lifted once the link has carried 4,096 frames without a retransmission (R358). -/
def State.wrapLift (s : State) (d : Nat) : State :=
  if s.flag (wrapField d) ∧ s.flag (upField d) ∧ 4096 ≤ (s.link d).good then s.setOff (wrapField d) else s

/-- An acknowledgement or a NAK for frames sent on direction `d`. -/
def State.linkAnswer (s : State) (d lseq : Nat) (nak : Bool) : State :=
    let l := s.link d
    if nak then s.linkFail d
    else if l.unacked.any fun x => x.lseq = lseq then
      let (done, rest) := ackSplit lseq l.unacked
      ((s.setLink d { l with unacked := rest, failures := 0, good := l.good + done.length }).sentAll done).wrapLift d
    else s

/-- LINKCTL: an acknowledgement or a NAK from the neighbour, for frames sent against the direction it came on (R357). One with
a wrong CRC is lost; a reserved field, 64 HOPS or a TERM below the node's own is a violation, and a higher TERM retires a
Manager (R325, R355). -/
def execLinkctl (h : Hdr) (lseq : Nat) (nak : Bool) (s : State) : Host.Outcome State Fault Refusal :=
  .next (
    if s.isOff ∨ h.dir > 1 ∨ ¬ s.ringRuns ∨ h.err = .crc then s
    else if h.err = .form ∨ 64 ≤ h.hops then s.ringViolation h
    else
      let (s1, ok) := s.rxTerm h false
      if ok then s1.linkAnswer (1 - h.dir) lseq nak else s1)

/-- LINK_RETRANSMIT_TIMEOUT: no acknowledgement for 400 ns, or, `long`, for 1 µs, while frames are outstanding (R357). -/
def execLinkRetransmitTimeout (d : Nat) (long : Bool) (s : State) : Host.Outcome State Fault Refusal :=
  .next (
    if s.isOff then s else
    if d > 1 ∨ (s.link d).unacked = [] then s
    else if long then s.linkDown d
    else s.linkFail d)

/-- RING_LINK_UP: a link has trained and carries frames again (R358); the first delay probe goes out (R362). -/
def execRingLinkUp (d : Nat) (s : State) : Host.Outcome State Fault Refusal :=
  .next (
    if s.isOff then s else
    if d > 1 ∨ ¬ s.ringRuns then s
    else
      let s1 := (s.setOn (upField d)).setLink d { s.link d with failures := 0, good := 0 }
      let s2 := { s1 with dly := tabSet (0, 0) s1.dly d (0, 0) }
      s2.ringSend1 d none (.dlyprobe s2.time.cycles))

/-! Messages (R361). -/

/-- A refusal goes back to the source endpoint of a message. -/
def State.refuseMsg (s : State) (m : Msg) (status dst : Nat) : State :=
  let s1 := if status = stNoEndpoint then s.inc RNG_NOEP_COUNT else s
  s1.ringUni m.src (.msgstat status dst)

/-- A submission that came over the ring stands under the source's own number for an account, and under the account the
message carries for a teller (R110). DESIGN CHOICE (log entry 18). -/
def msgAccount (m : Msg) : Nat := if msgFromHost m then m.src % 4096 else m.acct % 1024

/-- A message for this node's ledger (R111, R361). DESIGN CHOICE (log entry 18). -/
def State.ringSubmit (s : State) (dst : Nat) (m : Msg) : State :=
  let (st, s1) := s.submitMsg { m with acct := msgAccount m }
  if st = stOk then s1 else s1.refuseMsg m st dst

/-- MSG: a message for an endpoint of this node: queued, submitted or refused; a reserved number and an unclaimed one are
counted in the ring tally, and a number of an object that takes no messages neither accepts nor refuses (R24, R331,
R361). -/
def execMsg (h : Hdr) (m : Msg) (s : State) : Host.Outcome State Fault Refusal :=
  .next (s.onFrame h (.msg m) fun s =>
    let dst := h.dst.getD 0
    let l := dst % 4096
    if l = epLedger then s.ringSubmit dst m
    else if inertEp l then s
    else
      let (st, s1) := s.deliverTo l m
      if st = stOk then s1
      else if st = stNoEndpoint then (s1.ringViolation h).refuseMsg m st dst
      else s1.refuseMsg m st dst)

/-- MSGSTAT: the refusal of a message that the endpoint it is for sent to `dst` (R361). -/
def execMsgstat (h : Hdr) (status dst : Nat) (s : State) : Host.Outcome State Fault Refusal :=
  .next (s.onFrame h (.msgstat status dst) fun s => (s.msgDone (h.dst.getD 0) dst).msgFail (h.dst.getD 0) dst status)

/-- MSG_TIMEOUT: 100 µs after endpoint `ep` sent a message to `dst` it is neither accepted nor refused (R361).
DESIGN CHOICE (log entry 18). -/
def execMsgTimeout (ep dst : Nat) (s : State) : Host.Outcome State Fault Refusal :=
  .next (
    if s.isOff then s
    else if s.posted.contains (ep, dst) then (s.msgDone ep dst).msgFail ep dst stNoEndpoint
    else s)

/-! The press-wide stop (R364). -/

/-- RNG_STOPMASK and RNG_STOPLVL as one merged P0 firing, groups `k − 1` down (R102). -/
def State.stopForces (s : State) : Nat → State
  | 0 => s
  | k + 1 =>
    (s.p0Apply k (s.fld (RNG_STOPMASK_BITS k) &&& p0Range k) (s.fld (RNG_STOPLVL_BITS k)) false).stopForces k

/-- What every node does on a STOPNOW: the forces, BLK at every port, PRESS_STOP. DEDUCED (log entry 28). -/
def State.stopAct (s : State) (incident reason : Nat) : State :=
  let s1 := (s.stopForces 5).interlock 52
  let s2 := eachPort (fun n s => s.mapHead n fun h => { h with stopBlk := true }) [0, 1, 2, 3] s1
  s2.postIf RNG_EVACCT_EN RNG_EVACCT_ACCT 8 (reason % 256) 0 incident

/-- The Manager voids every slot whose window has not ended, for the whole press, and ends the run. -/
def State.stopRun (s : State) (incident : Nat) : State :=
  if s.isManager then
    (s.voidAll rsRequest incident (fun _ r => (s.notEnded (stationsOf r.geo.stns) r).map fun _ => r.geo.lead) s.esc.slots).stopRequest
  else s

/-- A stop that begins at this node: its incident number is drawn here, its reason, of which the manual lists no codes,
is a free value. DEDUCED (log entry 28). -/
def State.stopNow (s : State) : State :=
  let (inc, s1) := s.newIncident
  let (reason, s2) := s1.free 256
  ((s2.ringBoth none (.stopnow inc reason)).stopAct inc reason).stopRun inc

/-- RNG_STOP.NOW written 1: on the Manager only. -/
def State.nowWrite (s : State) : State := if s.isManager then s.stopNow else s

/-- NOW (R364). -/
def execNow (s : State) : Host.Outcome State Fault Refusal := .next (if s.isOff then s else s.nowWrite)

/-- AUX_STOP_EDGE: a rising edge on auxiliary input `n` (R364). -/
def execAuxStopEdge (n : Nat) (s : State) : Host.Outcome State Fault Refusal :=
  .next (if s.isOff then s else if s.flag RNG_STOPCFG_EN ∧ s.fld RNG_STOPCFG_AUXIN = n then s.stopNow else s)

/-- STOPNOW: a received stop; it goes on around the ring (R364). -/
def execStopnow (h : Hdr) (incident reason : Nat) (s : State) : Host.Outcome State Fault Refusal :=
  .next (s.onFrame h (.stopnow incident reason) fun s =>
    if s.ownReturn h then s else (s.stopAct incident reason).stopRun incident)

/-- STOPREQ: a Worker asks the Manager to end the run (R364). DEDUCED (log entry 28). -/
def execStopreq (h : Hdr) (reason : Nat) (s : State) : Host.Outcome State Fault Refusal :=
  .next (s.onFrame h (.stopreq reason) fun s => if s.isManager then s.stopRequest else s)

/-! Discovery (R16, R17, R362, R363). -/

/-- The delay of an outgoing link in ps: half the mean round trip less the turnaround. -/
def State.linkDelay (s : State) (d : Nat) : Nat :=
  let (n, sum) := tabGet (0, 0) s.dly d
  if n = 0 then 0 else sum / (2 * n)

/-- DLYPROBE: the neighbour's probe is echoed (R363). -/
def execDlyprobe (h : Hdr) (time : Nat) (s : State) : Host.Outcome State Fault Refusal :=
  .next (s.nearFrame h fun s => s.ringSend1 (1 - h.dir) none (.dlyecho time))

/-- DLYECHO: an echo completes one round trip of `trip` ps less the turnaround; 256 of them measure the link (R362,
R363). -/
def execDlyecho (h : Hdr) (time trip : Nat) (s : State) : Host.Outcome State Fault Refusal :=
  .next (s.nearFrame h fun s =>
    let d := 1 - h.dir
    let (n, sum) := tabGet (0, 0) s.dly d
    let _ := time
    if n ≥ 256 then s
    else
      let s1 := { s with dly := tabSet (0, 0) s.dly d (n + 1, sum + trip) }
      if n + 1 < 256 then s1.ringSend1 d none (.dlyprobe s1.time.cycles) else s1)

/-- The node's own HELLO. -/
def State.helloMsg (s : State) : RingMsg :=
  .hello Config.serial (s.fld GLB_ROLE_STRAP) s.role (s.fld GLB_PORTMAP_MAP) (s.linkDelay 0) (s.linkDelay 1)

/-- Links along A a node lies away, and links in the whole ring, from the HELLOs seen. -/
def State.ringSize (s : State) : Nat := s.hellos.length + 1

/-- The path delay from this node to another: the delays of the links on the way (R363). DEDUCED (log entry 57). -/
def State.pathDelay (s : State) (d : Nat) (p : Peer) : Nat :=
  s.hellos.foldl (fun sum q =>
    if d = 0 then (if q.hops < p.hops then sum + q.dlyA else sum)
    else (if q.hops > p.hops then sum + q.dlyB else sum)) (s.linkDelay d)

/-- A number that RNG_ASSIGN gives a serial. -/
def State.assignedTo (s : State) (serial : Nat) : Option Nat :=
  ((List.range 32).find? fun i =>
    s.flag (RNG_ASSIGNHI_EN i) && s.fld (RNG_ASSIGNLO_SERLO i) = serial % 2 ^ 32).map fun i => s.fld (RNG_ASSIGNHI_NODE i)

/-- The lowest number from N2 on that no node has and RNG_ASSIGN does not name. -/
def State.freeNode (s : State) : Nat :=
  ((List.range 32).find? fun n =>
    2 ≤ n && tabGet Peer.none s.peers n = Peer.none &&
      ! (List.range 32).any fun i => s.flag (RNG_ASSIGNHI_EN i) && s.fld (RNG_ASSIGNHI_NODE i) = n).getD 31

/-- The number a serial already has. -/
def State.knownNode (s : State) (serial : Nat) : Option Nat := (s.peers.find? fun e => e.2.serial = serial).map (·.1)

/-- What the node that HELLOs becomes: the Standby beside a Manager with none, for a node strapped Manager or Standby; a
Worker for a node strapped Worker (R17). -/
def State.roleFor (s : State) (p : Peer) : Option Nat :=
  if p.strap = 0 then some 3
  else if (p.strap = 1 ∨ p.strap = 2) ∧ (¬ (tabGet Peer.none s.peers s.stbyNode).present ∨
      (tabGet Peer.none s.peers s.stbyNode).serial = p.serial) then some 2
  else none

/-- The number of a node that becomes Standby or Worker. -/
def State.numberFor (s : State) (p : Peer) (role : Nat) : Nat :=
  if role = 2 then s.stbyNode
  else match s.knownNode p.serial with
    | some n => n
    | none => (s.assignedTo p.serial).getD s.freeNode

/-- The Manager takes a node in: its number, ASSIGN with its path delays (R362 step 4). -/
def State.admitNode (s : State) (p : Peer) : State :=
  match s.roleFor p with
  | some role =>
    let n := s.numberFor p role
    let s1 : State := { s with peers := tabSet Peer.none s.peers n { p with present := true, role := role } }
    let count := max (s1.fld RNG_STATUS_NODES) (s1.peers.filter fun e => e.1 ≠ s1.node).length
    (s1.setFld RNG_STATUS_NODES count).ringBoth none (.assign p.serial n role (s.pathDelay 0 p) (s.pathDelay 1 p))
  | none => s

/-- The place of a node in the list by links along A. -/
def insertPeer (p : Peer) : List Peer → List Peer
  | [] => [p]
  | q :: qs => if p.hops ≤ q.hops then p :: q :: qs else q :: insertPeer p qs

/-- Offsets CONFIG gives the module positions P of station n: the manual names no register for them.
DEDUCED (log entry 32). -/
def cfgModPos (n : Nat) : Nat := 0x00FFF000 + 4 * n

/-- One more than the highest module position bound to a station in any port map (R127). -/
def State.formModPos (s : State) (stn : Nat) : Nat :=
  s.peers.foldl (fun best e =>
    (List.range 4).foldl (fun best n =>
      let b := e.2.portmap / 256 ^ n % 256
      if b ≥ 128 ∧ b / 8 % 16 = stn then max best (b % 8 + 1) else best) best) 0

/-- Stations 0 to 15 take their P. -/
def State.setModPos (s : State) : Nat → State
  | 0 => s
  | n + 1 =>
    (s.setEsc { s.esc with modPos := tabSet 0 s.esc.modPos n (s.formModPos n) }).setModPos n

/-- A pair of CONFIG for one field's register. -/
def pairOf (s : State) (f : Field) : Nat × Nat := (f.addr, s.fld f * 2 ^ f.lo)

/-- What the Manager distributes in discovery: offsets and drum arcs, the seam, P and the escrow parameters (R362).
DEDUCED (log entry 32). -/
def State.configPairs (s : State) : List (Nat × Nat) :=
  (List.range 16).flatMap (fun n =>
      [pairOf s (TIM_STOFF_LINES n), pairOf s (TIM_DRUMARC_LINES n), (cfgModPos n, tabGet 0 s.esc.modPos n)])
    ++ [(SCN_SEAM_SEAMLO.addr, s.fld SCN_SEAM_SEAMLO * 2 ^ SCN_SEAM_SEAMLO.lo + s.fld SCN_SEAM_SEAMMUL * 2 ^ SCN_SEAM_SEAMMUL.lo
        + s.fld SCN_SEAM_SEAMSPAN * 2 ^ SCN_SEAM_SEAMSPAN.lo),
      pairOf s ESC_LEAD_LINES, pairOf s ESC_DEFLEN_LINES, pairOf s ESC_DEFGAP_LINES, pairOf s ESC_STMAP_STN]

/-- Pairs leave sixteen to a frame; `n` bounds the frames. -/
def State.configSend (s : State) (ps : List (Nat × Nat)) : Nat → State
  | 0 => s
  | n + 1 => if ps = [] then s else (s.ringBoth none (.config (ps.take 16))).configSend (ps.drop 16) n

/-- The Manager distributes what R362 step 5 names; the words of ESC follow at the next tick (R140).
DEDUCED (log entry 57). -/
def State.distribute (s : State) : State :=
  let s1 := (s.setModPos 16).escGeometry
  (s1.setEsc { s1.esc with shared := [] }).configSend s1.configPairs 8

/-- Two ports of the press name one station and position: the check of R22 that the Manager makes in discovery. -/
def State.mapsClash (s : State) : Bool :=
  let all := s.peers.flatMap fun e => (List.range 4).filterMap fun n =>
    let b := e.2.portmap / 256 ^ n % 256
    if e.2.present ∧ b ≥ 128 then some (b % 128) else none
  all.any fun b => (all.filter fun c => c = b).length > 1

/-- Discovery on a Manager: every node seen is taken in, and the press is configured. -/
def State.admitAll (s : State) : List Peer → State
  | [] => s
  | p :: ps => (s.admitNode p).admitAll ps

/-- The Manager's check of the port maps (R22, R362 step 5). R22 names no effect of a clash: the model shows it in
GLB_STATUS.MAPERR. DESIGN CHOICE (log entry 66). -/
def State.checkMaps (s : State) : State := if s.mapsClash then s.setOn GLB_STATUS_MAPERR else s

/-- The Manager's steps 4 and 5 (R362). -/
def State.discover (s : State) : State :=
  let own : Peer := ⟨Config.serial, s.fld GLB_ROLE_STRAP, 1, 0, true, 0, 0, 0⟩
  let s1 : State := { s with peers := tabSet Peer.none s.peers s.node own }
  ((s1.admitAll s1.hellos).distribute).checkMaps

/-- The first Manager of a press starts WPOS at line 0 (R38): counts taken before stand in the offset.
DESIGN CHOICE (log entry 68). -/
def State.startLine0 (s : State) : State :=
  let c := tabGet 0 s.pos.count (s.fld TIM_CFG_MASTER) * s.countU
  s.setPos { s.pos with ofs := -c, extrap := 0, since := 0, out := 0 }

/-- The fields of the registers from one offset to before another are at reset. -/
def State.clearRegs (s : State) (lo hi : Nat) : State :=
  { s with regs := s.regs.filter fun e => e.1 < lo * 32 || hi * 32 ≤ e.1 }

/-- The blocks that the node's role holds in reset are at reset: synthesizers, head links and exposure on a Manager or
Standby, the fuser on a Worker (R19). -/
def State.holdBlocks (s : State) : State :=
  if s.isWorker then
    let s1 := s.clearRegs 0xA80000 0xAC0000
    s1.setPlant { s1.plant with zones := [] }
  else
    let s1 := (s.clearRegs 0x508100 0x510000).clearRegs 0x600000 0x700000
    let s2 : State := { s1 with head := [], expo := [] }
    (eachPort (fun n s => s.mapScan n fun c =>
      { c with prof := [], perFacet := false, commits := [], blankPll := false, bandBusy := false, dly := 0, recent := [] })
      [0, 1, 2, 3] s2).lenOut

/-- The node takes a role. -/
def State.takeRole (s : State) (role : Nat) : State := (s.setFld GLB_ROLE_ROLE role).holdBlocks

/-- ROLE_CONFIRM: 10 ms of HELLO have passed on a node strapped Manager or Standby; its firmware confirms the role (R17).
TEST_EN keeps it Unconfirmed (R382). DEDUCED (log entry 30). -/
def execRoleConfirm (s : State) : Host.Outcome State Fault Refusal :=
  .next (
    if s.isOff then s else
    let strap := s.fld GLB_ROLE_STRAP
    let mgr := s.hellos.any fun p => p.role = 1
    let stby := s.hellos.any fun p => p.role = 2
    if s.role ≠ 0 ∨ s.pwr.straps.testEn ∨ s.flag GLB_ROLE_CONFLICT ∨ ¬ s.fwRuns then s
    else if strap = 2 ∧ ¬ mgr then
      if s.hellos.any fun p => p.strap = 2 ∧ p.serial ≠ Config.serial then s.setOn GLB_ROLE_CONFLICT
      else
        let s1 := (s.takeRole 1).setFld GLB_ROLE_NODE 0
        (s1.setMirror { s1.mirror with mgrNode := 0 }).startLine0.discover
    else if (strap = 1 ∨ strap = 2) ∧ mgr ∧ ¬ stby then s.takeRole 2
    else s)

/-- The links along A from this node to one whose HELLO it hears: the HOPS of the copy on B count them, one less; a node
heard on A only stands in the same order by what its HOPS leave of 64. DEDUCED (log entry 57). -/
def State.helloHops (s : State) (h : Hdr) (serial : Nat) : Nat :=
  if h.dir = 1 then h.hops
  else match s.hellos.find? fun q => q.serial = serial with
    | some q => q.hops
    | none => 64 - h.hops

/-- HELLO: a node announces itself. Its TERM is not checked (R355).
A confirmed node answers an Unconfirmed one with its own HELLO, and the Manager takes it in (R17, R362). A second
Manager strap is judged at ROLE_CONFIRM. DEDUCED (log entry 30). -/
def execHello (h : Hdr) (serial strap role portmap dlyA dlyB : Nat) (s : State) :
    Host.Outcome State Fault Refusal :=
  .next (
    let (s1, ok) := s.rxFrame h true
    if ¬ ok then s1
    else if serial = Config.serial then s1
    else
      let p : Peer := ⟨serial, strap, role, portmap, true, s1.helloHops h serial, dlyA, dlyB⟩
      let s1' := s1.relay h (.hello serial strap role portmap dlyA dlyB)
      let s2 : State := { s1' with hellos := insertPeer p (s1'.hellos.filter fun q => q.serial ≠ serial) }
      let s3 := if role = 0 ∧ (s2.isManager ∨ s2.isStandby ∨ s2.isWorker) then s2.ringBoth none s2.helloMsg else s2
      if s3.isManager ∧ role = 0 then ((s3.admitNode p).distribute).checkMaps else s3)

/-- ASSIGN: the node it names takes its number, role and path delays; a Worker is confirmed by it (R17, R362). -/
def execAssign (h : Hdr) (serial node role pathA pathB : Nat) (s : State) : Host.Outcome State Fault Refusal :=
  .next (s.onFrame h (.assign serial node role pathA pathB) fun s =>
    let s1 :=
      if serial = Config.serial ∧ ¬ s.isManager ∧ ¬ s.pwr.straps.testEn ∧ s.role ≠ 4 then
        let s0 := ((s.setFld GLB_ROLE_NODE node).setFld (RNG_PATHDLY_PS 0) pathA).setFld (RNG_PATHDLY_PS 1) pathB
        let s0' := if s0.role = 0 ∧ ((role = 3 ∧ s0.fld GLB_ROLE_STRAP = 0) ∨
            (role = 2 ∧ (s0.fld GLB_ROLE_STRAP = 1 ∨ s0.fld GLB_ROLE_STRAP = 2))) then s0.takeRole role else s0
        s0'.setMirror { s0'.mirror with mgrNode := h.src }
      else s
    let s2 : State := { s1 with peers := tabSet Peer.none s1.peers node { tabGet Peer.none s1.peers node with serial := serial, role := role, present := true } }
    s2.setFld RNG_STATUS_NODES (max (s2.fld RNG_STATUS_NODES) node))

end Sys2Proof.Machine
end

