-- ==== Sys2Proof/Machine/Hosts.lean ====
section
/-! DEFINITION. Events of the host link and of Ethernet (R349, R369): link losses, errors, received frames. -/

namespace Sys2Proof.Machine

/-! The host link. -/

/-- HOST_LINK_DOWN: LINKDN; records are held from now on (R345, R369). -/
def execHostLinkDown (s : State) : Host.Outcome State Fault Refusal :=
  .next (
    if s.isOff then s else
    let s1 := s.setOff PCH_LINK_UP
    ({ s1 with pwr := { s1.pwr with hostDown := true } }).raise 22 0)

/-- Held records of every account below `n` go out as their rings have room. -/
def State.drainAll (s : State) : Nat → State
  | 0 => s
  | a + 1 => (s.drainAll a).drainHeld a 256

/-- The host link trains, to ×1, ×2 or ×4 at 2.5 to 32 GT/s, as the host's side and the board allow: free values (R347, R372).
DESIGN CHOICE (log entry 77). -/
def State.pchTrain (s : State) : State :=
  if s.flag PCH_LINK_UP then s
  else
    let (w, s1) := s.free 3
    let (v, s2) := s1.free 5
    ((s2.setFld PCH_LINK_WIDTH (2 ^ w)).setFld PCH_LINK_SPEED (v + 1)).setOn PCH_LINK_UP

/-- A request that the host port does not support is answered with UR (R347). DEDUCED (log entry 78). -/
def State.unsupported (s : State) (bar a : Nat) : State := s.emit (.port "unsupportedRequest" bar [a])

/-- An access of the host proves its link up; records held for the link go out (R345). PRESUMED (log entry 8). -/
def State.hostAlive (s : State) : State :=
  let s1 := s.pchTrain
  if s.pwr.hostDown then ({ s1 with pwr := { s1.pwr with hostDown := false } }).drainAll 1024 else s1

/-- POISONED_TLP: discarded, counted in BADTLP, POISON (R369). -/
def execPoisonedTlp (s : State) : Host.Outcome State Fault Refusal := .next (if s.isOff then s else (s.inc PCH_ERRCNT_BADTLP).raise 22 2)

/-! Ethernet. -/

/-- ETHERNET_LINK_DOWN: LINKp while an ingest is open (R369). -/
def execEthernetLinkDown (p : Nat) (s : State) : Host.Outcome State Fault Refusal :=
  .next (
    if s.isOff then s else
    if p < 2 then
      let s1 := (s.setOff (NET_STAT_LINK p)).setOff (NET_STAT_FECLOCK p)
      if s1.store.ingests = [] then s1 else s1.raise 19 p
    else s)

/-- UNCORRECTABLE_CODEWORD: the codewords of the present second are counted; beyond NET_FECLIM they raise FECp once in
it (R369). -/
def execUncorrectableCodeword (p : Nat) (s : State) : Host.Outcome State Fault Refusal :=
  .next (
    if s.isOff then s else
    if p < 2 then
      let (sec, n) := tabGet (0, 0) s.fec p
      let k := if sec = s.time.sec then n + 1 else 1
      let s1 : State := { s with fec := tabSet (0, 0) s.fec p (s.time.sec, k) }
      if k = s.fld NET_FECLIM_N + 1 then s1.raise 19 (2 + p) else s1
    else s)

/-- The answer to an ARP request for the port's address: the reply's bytes; the firmware answers (R349). -/
def State.arpAnswer (s : State) (p src : Nat) (bs : List Byte) : Option (List Byte) :=
  if s.fwRuns ∧ netAt bs 0 2 = 1 ∧ netAt bs 2 2 = 0x800 ∧ netAt bs 4 2 = 0x0604 ∧ netAt bs 6 2 = 1 ∧
      netAt bs 24 4 = s.fld (NET_IPV4_IPV4 p) ∧ bs.length ≥ 28 then
    some (beBytes 6 src ++ beBytes 6 (s.netMac p) ++ beBytes 2 0x806 ++ beBytes 6 0x000108000604 ++ beBytes 2 2
      ++ beBytes 6 (s.netMac p) ++ beBytes 4 (s.fld (NET_IPV4_IPV4 p)) ++ (bs.drop 8).take 10)
  else none

/-- The answer to an ICMPv4 echo request: addresses exchanged, type 0, checksums formed anew. -/
def State.echoAnswer (s : State) (p src : Nat) (hdr body : List Byte) : Option (List Byte) :=
  if s.fwRuns ∧ netAt body 0 2 = 0x0800 ∧ onesSum 0 body = 0xFFFF then
    let h0 := hdr.take 10 ++ [0, 0] ++ (hdr.drop 16).take 4 ++ (hdr.drop 12).take 4 ++ hdr.drop 20
    let h := h0.take 10 ++ beBytes 2 (0xFFFF - onesSum 0 h0) ++ h0.drop 12
    let b0 := ([0, 0, 0, 0] : List Byte) ++ body.drop 4
    let b := ([0, 0] : List Byte) ++ beBytes 2 (0xFFFF - onesSum 0 b0) ++ body.drop 4
    some (beBytes 6 src ++ beBytes 6 (s.netMac p) ++ beBytes 2 0x800 ++ h ++ b)
  else none

/-- A UDP datagram's checksum over the pseudo-header is right, or it carries none. -/
def udpOk (hdr udp : List Byte) : Bool :=
  netAt udp 6 2 = 0 || onesSum 0 ((hdr.drop 12).take 8 ++ [0, 17] ++ (udp.drop 4).take 2 ++ udp) = 0xFFFF

/-- A frame that the port answers goes out again; what it does not take is counted. -/
def State.netReply (s : State) (p : Nat) : Option (List Byte) → State
  | some bs => s.emit (.port "ethernet" p (bs.map (·.toNat)))
  | none => s.inc (NET_RXDROP_COUNT p)

/-- An IPv4 packet for the port: no fragments, a right header; ICMP echo and UDP (R349, R350).
PRESUMED (log entry 56). -/
def State.ipv4In (s : State) (p src : Nat) (bs : List Byte) : State :=
  let ihl := netAt bs 0 1 % 16 * 4
  let total := netAt bs 2 2
  let hdr := bs.take ihl
  let body := (bs.take total).drop ihl
  if netAt bs 0 1 / 16 ≠ 4 ∨ ihl < 20 ∨ bs.length < total ∨ total < ihl ∨ onesSum 0 hdr ≠ 0xFFFF ∨
      netAt bs 6 2 % 0x4000 ≠ 0 then s.inc (NET_RXDROP_COUNT p)
  else if netAt bs 9 1 = 17 ∧ netAt body 4 2 ≥ 8 ∧ netAt body 4 2 ≤ body.length then
    let udp := body.take (netAt body 4 2)
    let port := netAt udp 2 2
    if ¬ udpOk hdr udp then s.inc (NET_RXDROP_COUNT p)
    else if netAt bs 16 4 = s.fld (NET_IPV4_IPV4 p) ∧ port = s.fld (NET_UDPPORT_UDPPORT p) then
      s.ingestPayload p (udp.drop 8)
    else if s.ptpTakes p 1 ∧ (port = 319 ∨ port = 320) then s.ptpIn (udp.drop 8)
    else s.inc (NET_RXDROP_COUNT p)
  else if netAt bs 16 4 ≠ s.fld (NET_IPV4_IPV4 p) ∨ netAt bs 9 1 ≠ 1 then s.inc (NET_RXDROP_COUNT p)
  else s.netReply p (s.echoAnswer p src hdr body)

/-- What an IPv4 packet for port p carries to the UDP port of its ingest streams (R350). -/
def State.ingestUdp (s : State) (p : Nat) (bs : List Byte) : Option (List Byte) :=
  let ihl := netAt bs 0 1 % 16 * 4
  if netAt bs 9 1 = 17 ∧ netAt bs 16 4 = s.fld (NET_IPV4_IPV4 p) ∧ netAt bs (ihl + 2) 2 = s.fld (NET_UDPPORT_UDPPORT p) then
    some (bs.drop (ihl + 8))
  else none

/-- A packet lost to receive overflow fails the ingest whose stream it is of with GAP (R201, R331). -/
def State.streamOverflow (s : State) (p : Nat) (bs : List Byte) : State :=
  match s.ingestUdp p bs with
  | none => s
  | some data =>
    let f (k n : Nat) : Nat := ofLe ((data.drop k).take n)
    if data.length < 20 ∨ f 0 2 ≠ 0x494B ∨ f 2 1 ≠ 1 then s
    else match s.ingestBy (f 4 2) with
      | some (ext, g) => s.streamGap ext g
      | none => s

/-- ETHERNET_FRAME: a frame with a right FCS, from its destination address on and without the FCS (R349). `full`: the
port's receive FIFO overflowed under it, and the frame is discarded whole and counted (R30); a stream it is of fails
(R201, R331).
PRESUMED (log entry 56). -/
def execEthernetFrame (p : Nat) (bytes : List Byte) (full : Bool) (s : State) : Host.Outcome State Fault Refusal :=
  .next (
    if p ≥ 2 ∨ ¬ s.flag (NET_CTL_EN p) ∨ s.isOff then s
    else
      let s1 := ((s.inc (NET_RXFRAMES_COUNT p)).setOn (NET_STAT_LINK p)).setOn (NET_STAT_FECLOCK p)
      let dst := netAt bytes 0 6
      let src := netAt bytes 6 6
      let tagged : Bool := netAt bytes 12 2 = 0x8100
      let off := if tagged then 16 else 12
      let kind := netAt bytes off 2
      let body := bytes.drop (off + 2)
      if full ∧ dst = s.netMac p ∧ kind = 0x0800 then (s1.inc (NET_RXDROP_COUNT p)).streamOverflow p body
      else if full ∨ bytes.length + 4 > 9216 ∨ bytes.length < off + 2 then s1.inc (NET_RXDROP_COUNT p)
      else if kind = 0x88F7 ∧ s.ptpTakes p 0 then s1.ptpIn body
      else if dst ≠ s.netMac p ∧ dst / 2 ^ 40 % 2 = 0 then s1.inc (NET_RXDROP_COUNT p)
      else if kind = 0x0806 then s1.netReply p (s1.arpAnswer p src body)
      else if kind = 0x0800 then s1.ipv4In p src body
      else s1.inc (NET_RXDROP_COUNT p))

end Sys2Proof.Machine
end

