-- ==== Sys2Proof/Machine/Access.lean ====
section
/-! DEFINITION. Register accesses in general (R5 to R7, R19, R25 to R27, R83, R334): who makes them, fields read and written
by their access types and range rules, the block's CFGERR, blocks held in reset, offsets nobody may write. -/

namespace Sys2Proof.Machine

/-- Who accesses a register. -/
inductive Origin
  /-- The host through BAR0 or BAR4. -/
  | host
  /-- The host through BAR2, or VLT_ALIASADDR with vault authority. -/
  | vault
  /-- A teller's RDR or WRR. -/
  | teller (t : Nat)
  /-- A timed action of a comparator of teller `t`'s bank. -/
  | action (t : Nat)
  /-- DMA space 2. -/
  | dma
  /-- The I²C port. -/
  | i2c
deriving DecidableEq, Repr

/-- Vault authority. -/
def Origin.isVault : Origin → Bool
  | .vault => true
  | _ => false

/-- The teller an access comes from. -/
def Origin.teller? : Origin → Option Nat
  | .teller t => some t
  | .action t => some t
  | _ => none

/-- The index of an offset in a family of registers. -/
def ix (base stride count a : Nat) : Option Nat :=
  if a < base then none
  else if (a - base) % stride = 0 ∧ (a - base) / stride < count then some ((a - base) / stride) else none

/-- A sticky bit of a block: a write was discarded. Blocks without a CFGERR bit have none (R25). -/
def State.cfgErr (s : State) (a : Nat) : State :=
  let on (f : Field) : State := s.setOn f
  if a ≥ 0x10000000 then on VLT_STATUS_CFGERR
  else if a < 0x100000 then s
  else if a < 0x108000 then on TIM_STATUS_CFGERR
  else if a < 0x200000 then s
  else if a < 0x280000 then on TLR_STATUS_CFGERR
  else if a < 0x300000 then on TAU_STATUS_ENTERR
  else if a < 0x400000 then on LDG_STATUS_CFGERR
  else if a < 0x500000 then on ESC_STATUS_CFGERR
  else if a < 0x600000 then on SCN_STATUS_CFGERR
  else if a < 0x608000 then on HLK_STATUS_CFGERR
  else if a < 0x700000 then on EXP_STATUS_CFGERR
  else if a < 0x780000 then on STO_STATUS_CFGERR
  else if a < 0x800000 then s
  else if a < 0x900000 then on DMA_STATUS_CFGERR
  else if a < 0x980000 then on MOT_STATUS_CFGERR
  else if a < 0xA00000 then on GDR_STATUS_CFGERR
  else if a < 0xA40000 then on CTL_STATUS_CFGERR
  else if a < 0xA80000 then on HVS_STATUS_CFGERR
  else if a < 0xAC0000 then on FUS_STATUS_CFGERR
  else if a < 0xB00000 then on THM_STATUS_CFGERR
  else if a < 0xB80000 then on CLB_STATUS_CFGERR
  else if a < 0xC00000 then on AUD_STATUS_CFGERR
  else if a < 0xD00000 then on FLT_STATUS_CFGERR
  else if a < 0xE00000 then on ACC_STATUS_CFGERR
  else if 0xE80000 ≤ a ∧ a < 0xF00000 then on RNG_STATUS_CFGERR
  else if 0xF80000 ≤ a ∧ a < 0x1000000 then on STO_STATUS_CFGERR
  else s

/-! Fields. -/

/-- The part of a written word that a field takes. -/
def Field.part (f : Field) (v : Nat) : Nat := v / 2 ^ f.lo % 2 ^ f.width

/-- A written field breaks a rule that discards the whole write. DESIGN CHOICE (log entry 60). -/
def Field.bad (v : Nat) (f : Field) : Bool :=
  match f.chk with
  | .discard lo hi => f.part v < lo || f.part v > hi
  | _ => false

/-- One field takes its part of a write, by its access type (R7) and range rule. DESIGN CHOICE (log entry 60). -/
def State.putField (s : State) (v : Nat) (f : Field) : State :=
  let x := f.part v
  match f.acc with
  | .rw =>
    match f.chk with
    | .clamp lo hi => s.setFld f (clampN lo hi x)
    | .keep lo hi => if lo ≤ x ∧ x ≤ hi then s.setFld f x else s
    | _ => s.setFld f x
  | .w1c => s.setFld f (s.fld f ^^^ (s.fld f &&& x))
  | .w1s => s.setFld f (s.fld f ||| x)
  | _ => s

/-- A write to a register with no behaviour of its own: its fields are set, or the whole write is discarded with the
block's CFGERR. DESIGN CHOICE (log entry 60). -/
def State.regWrite (s : State) (a v : Nat) (fs : List Field) : State :=
  if fs.any (Field.bad v) then s.cfgErr a else fs.foldl (fun s f => s.putField v f) s

/-- A register's word: its readable fields, at their places (R6, R7). -/
def State.regRead (s : State) (fs : List Field) : Nat :=
  fs.foldl (fun n f => if f.acc = .wo then n else n + s.fld f * 2 ^ f.lo) 0

/-- Read-to-clear fields clear after a read (R7). -/
def State.rcClear (s : State) (fs : List Field) : State :=
  fs.foldl (fun s f => if f.acc = .rc then s.setFld f 0 else s) s

/-- The fields 9:0 of a write name a vault account, and the access has no vault authority (R334). -/
def State.namesVault (s : State) (o : Origin) (acct : Nat) : Bool := ! o.isVault && s.isVault acct

/-! Offsets with rules of their own. -/

/-- A written word gives a writable field another value than it holds; reserved bits count for nothing (R6). -/
def State.changes (s : State) (v : Nat) (fs : List Field) : Bool := fs.any fun f => f.acc = .rw && s.fld f ≠ f.part v

/-- Read-only windows, whose writes count in GLB_BADACC (R28): the TAU comparator window, LDG slots and books, LCK,
FRM, the EXP emitter state, the STO extents and the AUD request entries. -/
def roWindow (a : Nat) : Bool :=
  (0x2A0000 ≤ a && a < 0x2B0000) || (0x310000 ≤ a && a < 0x314000) || (0x320000 ≤ a && a < 0x360000)
    || (0x380000 ≤ a && a < 0x400000) || (0x408000 ≤ a && a < 0x410000) || (0x60A000 ≤ a && a < 0x60B000)
    || (0x710000 ≤ a && a < 0x720000) || (0xB80100 ≤ a && a < 0xB80200)

/-- The Manager sends a changed register to every node (R362). -/
def State.configPair (s : State) (a : Nat) (fs : List Field) : State :=
  if s.isManager then s.ringBoth none (.config [(a, s.regRead fs)]) else s

end Sys2Proof.Machine
end

