-- ==== Sys2Proof/Machine/BusCtl.lean ====
section
/-! DEFINITION. Accesses to CTL, HVS, FUS, THM, CLB and AUD (R261 to R268, R278, R282 to R285, R304, R305). -/

namespace Sys2Proof.Machine

/-! CTL. -/

/-- A source kind and index of R263. -/
def sourceCode (kind idx : Nat) : Bool :=
  match kind with
  | 1 => idx < 48
  | 2 => idx < 128
  | 3 => idx < 2
  | 7 => idx < 48
  | k => k < 8

/-- An output kind and index of R263. -/
def outputCode (kind idx : Nat) : Bool :=
  match kind with
  | 0 => true
  | 1 => idx < 52
  | 2 => idx < 24
  | _ => false

/-- CTL_LCFGi written: FMT and ORDER stay while the loop runs. DEDUCED (log entry 47). -/
def State.lcfgWrite (s : State) (l a v : Nat) (fs : List Field) : State :=
  let rc := bits v 28 24
  let frozen : Bool := s.flag (CTL_LCFG_EN l) &&
    (bits v 1 1 ≠ s.fld (CTL_LCFG_FMT l) || bits v 2 2 ≠ s.fld (CTL_LCFG_ORDER l))
  if (16 ≤ rc ∧ rc < 31) ∨ bits v 23 16 > bits v 15 8 then s.cfgErr a
  else
    let s1 := s.regWrite a v fs
    if frozen then
      ((s1.setFld (CTL_LCFG_FMT l) (s.fld (CTL_LCFG_FMT l))).setFld (CTL_LCFG_ORDER l) (s.fld (CTL_LCFG_ORDER l))).cfgErr a
    else s1

/-- A register of loop `l`, at `r` in its 64 bytes. -/
def State.loopWrite (s : State) (l r a v : Nat) (fs : List Field) : State :=
  if r = 0x00 then s.lcfgWrite l a v fs
  else if r = 0x04 then
    (if sourceCode (bits v 31 28) (bits v 27 16) ∧ sourceCode (bits v 15 12) (bits v 11 0) then s.regWrite a v fs
     else s.cfgErr a)
  else if r = 0x08 then
    (if outputCode (bits v 31 28) (bits v 27 16) ∧ sourceCode (bits v 15 12) (bits v 11 0) then s.regWrite a v fs
     else s.cfgErr a)
  else if r = 0x14 then
    (if s.uLimit l v > s.uMax l then s.cfgErr a else s.regWrite a v fs)
  else if r = 0x18 then
    (if s.uMin l > s.uLimit l v then s.cfgErr a else s.regWrite a v fs)
  else if r = 0x28 then (if v.testBit 0 then s.ctlCommit l else s)
  else s.regWrite a v fs

/-- A register of repetitive controller `k`, at `r` in its 32 bytes (R268, R282). -/
def State.rcWrite (s : State) (k r a v : Nat) (fs : List Field) : State :=
  if r = 0x00 then (if (s.rcUsedBy k).isSome then s else s.regWrite a v fs)
  else if r = 0x08 then (s.regWrite a v fs).setFld (CTL_RCOUT_LEAD k) (bits v 9 0 % s.rcBins k)
  else if r = 0x0C then (if v.testBit 0 then s.setRc k { s.rcP k with clr := true } else s)
  else s.regWrite a v fs

/-- The registers of CTL written. -/
def State.ctlWrite (s : State) (a v : Nat) (fs : List Field) : State :=
  if 0xA01000 ≤ a ∧ a < 0xA03000 then s.loopWrite ((a - 0xA01000) / 0x40) (a % 0x40) a v fs
  else if 0xA22000 ≤ a ∧ a < 0xA22200 then s.rcWrite ((a - 0xA22000) / 0x20) (a % 0x20) a v fs
  else s.regWrite a v fs

/-- A bin of a controller's memory as its window shows it: the value in the loop's unit, rounded, as 32 signed bits. -/
def State.rcWord (s : State) (k b : Nat) : Nat := toTwos 32 (clampS 32 (tabGet Dy.zero (s.rcP k).mem b).toInt)

/-! HVS. -/

/-- HVS_CHCFGh written: OUTKIND stays while the channel is enabled, and its loops keep a sound binding.
DEDUCED (log entry 48). -/
def State.hvCfgWrite (s : State) (h a v : Nat) (fs : List Field) : State :=
  let s1 := s.regWrite a v fs
  let kept := s1.setFld (HVS_CHCFG_OUTKIND h) (s.fld (HVS_CHCFG_OUTKIND h))
  if ¬ s.flag (HVS_CHCTL_EN h) then s1
  else if s1.fld (HVS_CHCFG_LOOP h) ≠ s.fld (HVS_CHCFG_LOOP h) ∧ ¬ s1.bindOk (s1.hvLoops h) then s.cfgErr a
  else if s1.fld (HVS_CHCFG_OUTKIND h) = s.fld (HVS_CHCFG_OUTKIND h) then s1
  else kept.cfgErr a

/-- The registers of HVS written. -/
def State.hvsWrite (s : State) (a v : Nat) (fs : List Field) : State :=
  match ix (HVS_CHCFG_LOOP 0).addr 0x40 16 a with
  | some h => s.hvCfgWrite h a v fs
  | none => match ix (HVS_CHCTL_EN 0).addr 0x40 16 a with
  | some h =>
    if v.testBit 1 ∧ h % 4 ≠ 1 then s.cfgErr a
    else
      let s1 := s.hvEnable h (v.testBit 0)
      if v.testBit 1 ≠ s.flag (HVS_CHCTL_ACEN h) then s1.hvAcen h (v.testBit 1) else s1
  | none => match ix (HVS_FS_VFS 0).addr 0x40 16 a with
  | some h => if s.flag (HVS_CHCTL_EN h) then s.cfgErr a else s.regWrite a v fs
  | none => match ix (HVS_ACCFG_ACOUT 0).addr 0x40 16 a with
  | some h => if s.flag (HVS_CHCTL_EN h) then s.cfgErr a else s.regWrite a v fs
  | none => s.regWrite a v fs

/-! FUS. -/

/-- EN of a zone written: a 1 needs a sound binding (R262) and, once the block has left fault handling, lets a zone that
went off regulate again (R275); a 0 turns its output off. DEDUCED (log entry 61). -/
def State.zoneEnable (s : State) (z a : Nat) (on : Bool) : State :=
  let was := s.flag (FUS_ZCFG_EN z)
  if on then
    if ¬ was ∧ ¬ s.bindOk (s.zoneLoops z) then s.cfgErr a
    else (s.setOn (FUS_ZCFG_EN z)).mapZone z fun x => { x with off := x.off && s.blk 15 ≠ 0 }
  else if was then
    ((s.setOff (FUS_ZCFG_EN z)).mapZone z fun x => { x with on := false }).zoneDuty z 0
  else s

/-- FUS_ZCFGz written: while EN = 1 only EN moves. -/
def State.zcfgWrite (s : State) (z a v : Nat) (fs : List Field) : State :=
  if s.flag (FUS_ZCFG_EN z) then
    (if s.changes v (fs.filter fun f => f ≠ FUS_ZCFG_EN z) then s.cfgErr a else s).zoneEnable z a (v.testBit 0)
  else if fs.any (Field.bad v) then s.cfgErr a
  else ((s.regWrite a v fs).setOff (FUS_ZCFG_EN z)).zoneEnable z a (v.testBit 0)

/-- The registers of FUS written. -/
def State.fusWrite (s : State) (a v : Nat) (fs : List Field) : State :=
  match ix (FUS_ZCFG_EN 0).addr 0x20 24 a with
  | some z => s.zcfgWrite z a v fs
  | none => match ix (FUS_ZLOOP_LOOP 0).addr 0x20 24 a with
  | some z => if s.flag (FUS_ZCFG_EN z) then s.cfgErr a else s.regWrite a v fs
  | none => s.regWrite a v fs

/-! THM. -/

/-- WARN < THR < SHUT < ABS, as signed temperatures (R278). -/
def inOrder (warn thr shut abs : Nat) : Bool :=
  ofTwos 16 warn < ofTwos 16 thr && ofTwos 16 thr < ofTwos 16 shut && ofTwos 16 shut < ofTwos 16 abs

/-- The registers of THM written. -/
def State.thmWrite (s : State) (a v : Nat) (fs : List Field) : State :=
  match ix 0xAC0114 0x40 48 a with
  | some m =>
    if inOrder (bits v 15 0) (bits v 31 16) (s.fld (thmShut m)) (s.fld (thmAbs m)) then s.regWrite a v fs else s.cfgErr a
  | none => match ix 0xAC0118 0x40 48 a with
  | some m =>
    if inOrder (s.fld (thmWarn m)) (s.fld (thmThr m)) (bits v 15 0) (bits v 31 16) then s.regWrite a v fs else s.cfgErr a
  | none => s.regWrite a v fs

/-! CLB and AUD. -/

/-- Registers of CLB that belong to the Manager (R304). -/
def clbManager (a : Nat) : Bool := (0xB00040 ≤ a && a < 0xB00058) || (0xB00080 ≤ a && a < 0xB00100)

/-- The ports of a mask below `n` trigger a run for the host. -/
def State.calTriggers (s : State) (mask : Nat) : Nat → State
  | 0 => s
  | n + 1 => (if mask.testBit n then s.calTrigger n true else s).calTriggers mask n

/-- The registers of CLB and AUD written. On a Worker only the host writes LATOFF directly (R294). -/
def State.clbWrite (s : State) (o : Origin) (a v : Nat) (fs : List Field) : State :=
  if clbManager a ∧ ¬ s.isManager then s.cfgErr a
  else if s.isWorker ∧ o ≠ .host ∧ o ≠ .vault ∧ (ix (CLB_LATOFF_VALUE 0).addr 0x40 4 a).isSome then s.cfgErr a
  else if a = CLB_CTL_REQ.addr then
    ((s.putField v CLB_CTL_AUTO).putField v CLB_CTL_AUTOD).calTriggers (bits v 12 8) 5
  else if a = CLB_MKCFG_EN.addr then
    (if s.fbit ESC_STMAP_STN (bits v 19 16) then s.regWrite a v fs else s.cfgErr a)
  else if 0xB01000 ≤ a ∧ a < 0xB03000 ∧ a % 8 = 0 then (if v.testBit 15 then s.cfgErr a else s.regWrite a v fs)
  else if a = AUD_REQ_CODE.addr then s.audHost v
  else s.regWrite a v fs

/-- The values a thermal model shows (R285). -/
def thmShown (a : Nat) : Option Nat :=
  match ix (THM_MT_T1 0).addr 0x40 48 a with
  | some m => some m
  | none => match ix (THM_P_P 0).addr 0x40 48 a with
  | some m => some m
  | none => ix (THM_MSTAT_WARN 0).addr 0x40 48 a

/-- Views of CTL, THM, CLB and AUD; none for the other registers. A thermal model that does not apply reads 0 (R276). -/
def State.ctlRead (s : State) (a : Nat) : Option (Nat × State) :=
  if clbManager a ∧ ¬ s.isManager then some (0, s)
  else if a = AUD_REQPOSLO_WPOS.addr then
    some (s.fld AUD_REQPOSLO_WPOS, s.setPlant { s.plant with capAudPos := s.fld AUD_REQPOSHI_WPOS })
  else if a = AUD_REQPOSHI_WPOS.addr then some (s.plant.capAudPos, s)
  else match ix 0xA30000 4 16384 a with
    | some i => some (s.rcWord (i / 1024) (i % 1024), s)
    | none => match thmShown a with
    | some m => if s.thmApplies m then none else some (0, s)
    | none => none

end Sys2Proof.Machine
end

