-- ==== Sys2Proof/Machine/BusDma.lean ====
section
/-! DEFINITION. Accesses to DMA, MOT and GDR (R232 to R234, R236, R239 to R247, R253, R259, R260). -/

namespace Sys2Proof.Machine

/-! DMA. -/

/-- DMA_CTLn written: ARM, PAUSE, then CLRERR, CONT and GO. DEDUCED (log entry 41). -/
def State.dmaCtlWrite (s : State) (n v : Nat) : State :=
  let s1 := if v.testBit 0 then s.dmaArm n else s.dmaAbort n
  let s2 := s1.dmaPause n (v.testBit 1)
  let s3 := if v.testBit 3 then s2.dmaClrErr n else s2
  let s4 := if v.testBit 4 then s3.dmaCont n else s3
  if v.testBit 2 then s4.dmaTrig n else s4

/-- A register of channel `n`, at `r` in its 64 bytes (R233, R234). DMA_CFGn takes any SRC with KIND 0 to 4: R222 says
which are right and states no consequence of another. DESIGN CHOICE (log entry 77). -/
def State.dmaChWrite (s : State) (n r a v : Nat) (fs : List Field) : State :=
  let st := s.dmaSt n
  if r = 0x00 then s.dmaCtlWrite n v
  else if r = 0x04 ∨ r = 0x08 ∨ r = 0x0C then (if s.dmaArmed n then s.cfgErr a else s.regWrite a v fs)
  else if r = 0x10 ∨ r = 0x14 then
    (if st = 2 ∨ st = 3 ∨ st = 4 ∨ (r = 0x10 ∧ v % 32 ≠ 0) then s.cfgErr a else s.regWrite a v fs)
  else s.regWrite a v fs

/-- The registers of DMA written. -/
def State.dmaWrite (s : State) (a v : Nat) (fs : List Field) : State :=
  if 0x801000 ≤ a ∧ a < 0x802000 then s.dmaChWrite ((a - 0x801000) / 0x40) ((a - 0x801000) % 0x40) a v fs
  else match ix (DMA_TMR_PERIOD 0).addr 4 8 a with
    | some _ => s.regWrite a (if v % 2 ^ 32 = 0 then 0 else max 16 v) fs
    | none => s.regWrite a v fs

/-- CURSRC, CURDST and CURDESC: the low word as the channel stands, the high word captured with it. -/
def State.dmaRead (s : State) (a : Nat) : Option (Nat × State) :=
  let c := s.dmaCh ((a - 0x801000) / 0x40)
  let n := (a - 0x801000) / 0x40
  if a < 0x801000 ∨ a ≥ 0x802000 then none
  else match (a - 0x801000) % 0x40 with
    | 0x20 => some (c.curSrc % 2 ^ 32, s.setFld (DMA_CURSRCHI_ADDR n) (c.curSrc / 2 ^ 32))
    | 0x28 => some (c.curDst % 2 ^ 32, s.setFld (DMA_CURDSTHI_ADDR n) (c.curDst / 2 ^ 32))
    | 0x30 => some (c.curDesc % 2 ^ 32, s.setFld (DMA_CURDESCHI_ADDR n) (c.curDesc / 2 ^ 32))
    | _ => none

/-! MOT. -/

/-- Axes other than `i` that are privileged. -/
def State.privCount (s : State) (i : Nat) : Nat :=
  ((List.range 12).filter fun k => k ≠ i && s.flag (MOT_CFG_PRIV k)).length

/-- A register that names the axis's loops written: an enabled axis keeps a sound binding (R262). -/
def State.boundWrite (s : State) (i a v : Nat) (fs : List Field) : State :=
  let s1 := s.regWrite a v fs
  let off := s1.setOff (MOT_CFG_EN i)
  if ¬ s.axisIdle i then s.cfgErr a
  else if s1.flag (MOT_CFG_EN i) ∧ ¬ off.bindOk (off.axisLoops i) then s.cfgErr a
  else s1

/-- MOT_CFGi written: at most four privileged axes, none of them a stepper (R247). -/
def State.motCfgWrite (s : State) (i a v : Nat) (fs : List Field) : State :=
  if v.testBit 4 ∧ (i ≥ 12 ∨ s.privCount i ≥ 4) then s.cfgErr a else s.boundWrite i a v fs

/-- MOT_CMDi written. -/
def State.motCmdWrite (s : State) (i v : Nat) : State :=
  match v % 8 with
  | 0 => s
  | 1 => s.axisStart i
  | 2 => s.axisStop i
  | 3 => s.coastAxis i
  | 4 => s.axisMove i
  | _ => s.motErr

/-- A move toward TARGET can no longer stop there within the limits (R253). -/
def State.infeasible (s : State) (i : Nat) : Bool :=
  let x := s.axisP i
  let t := s.target i
  if x.pos ≤ t then ! stopsBy x.pos x.vel x.acc t (s.accMax i) (s.jerkMax i)
  else ! stopsBy (-x.pos) (-x.vel) (-x.acc) (-t) (s.accMax i) (s.jerkMax i)

/-- AMAX or JMAX written during a move: where the stop at TARGET becomes infeasible, the braking keeps the larger values
until the move ends (R253). -/
def State.limitWrite (s : State) (i a v : Nat) (fs : List Field) : State :=
  let s1 := s.regWrite a v fs
  if s.flag (MOT_STAT_MOVING i) ∧ s1.infeasible i then
    (s1.setOn (MOT_STAT_LIMPEND i)).mapAxis i fun x =>
      { x with limA := max x.limA (s.fld (MOT_AMAX_VALUE i)), limJ := max x.limJ (s.fld (MOT_JMAX_VALUE i)) }
  else s1

/-- A register of axis `i`, at `r` in its 256 bytes. -/
def State.axisWrite (s : State) (i r a v : Nat) (fs : List Field) : State :=
  if r = 0x00 then s.motCfgWrite i a v fs
  else if r = 0x04 then s.motCmdWrite i v
  else if r = 0x10 ∨ r = 0x14 then (if s.flag (MOT_STAT_MOVING i) then s.cfgErr a else s.regWrite a v fs)
  else if r = 0x1C ∨ r = 0x20 then s.limitWrite i a v fs
  else if r = 0x34 ∨ r = 0x38 ∨ (0x80 ≤ r ∧ r ≤ 0xC4) then (if s.axisIdle i then s.regWrite a v fs else s.cfgErr a)
  else if r = 0x48 then
    (let ia := bits v 5 0
     let ib := bits v 13 8
     if ¬ s.axisIdle i ∨ ia / 4 = ib / 4 ∨ ia > 45 ∨ ib > 45 then s.cfgErr a else s.regWrite a v fs)
  else if r = 0x4C then s.boundWrite i a v fs
  else if r = 0x60 then (if bits v 15 8 ≤ bits v 7 0 then s.cfgErr a else s.regWrite a v fs)
  else s.regWrite a v fs

/-- The registers of MOT written. -/
def State.motWrite (s : State) (a v : Nat) (fs : List Field) : State :=
  if 0x901000 ≤ a ∧ a < 0x902000 then s.axisWrite ((a - 0x901000) / 0x100) (a % 0x100) a v fs else s.regWrite a v fs

/-- The microstep table written: only while the stepper is OFF (R255, R259). -/
def State.microWrite (s : State) (a v : Nat) : State :=
  let st := (a - 0x908000) / 0x1000
  let k := (a - 0x908000) % 0x1000 / 4
  if s.axState (12 + st) = axOff then
    s.setPlant { s.plant with micro := tabSet 0 s.plant.micro (st * 1024 + k) (v % 2 ^ 16 + 1) }
  else s.cfgErr a

/-- MOT_POS: the low word, the high word captured with it; GDR_BRKCFG with what ARM reads; an entry of a microstep
table. -/
def State.motRead (s : State) (a : Nat) : Option (Nat × State) :=
  match ix (MOT_POSLO_VALUE 0).addr 0x100 16 a with
  | some i => some (s.fld (MOT_POSLO_VALUE i), s.mapAxis i fun x => { x with capPos := s.fld (MOT_POSHI_VALUE i) })
  | none => match ix (MOT_POSHI_VALUE 0).addr 0x100 16 a with
  | some i => some ((s.axisP i).capPos, s)
  | none => match ix (GDR_BRKCTL_ARM 0).addr 0x10 2 a with
  | some b => some (s.fld (GDR_BRKCTL_TRIP b) + s.fld (GDR_BRKCTL_MINON b) * 2 ^ 16
      + (if s.armReads b then 2 ^ 30 else 0) + s.fld (GDR_BRKCTL_FORCE b) * 2 ^ 31, s)
  | none => match ix 0x908000 4 4096 a with
  | some k => some (toTwos 16 (s.microstep (k / 1024) (k % 1024)), s)
  | none => none

/-! GDR. -/

/-- GDR_CHCFGc written: MODE changes only while the owning axis is off or coasting (R236); a new MODE write frees a
channel an escalation held off once the block has left fault handling (R245). -/
def State.chcfgWrite (s : State) (c a v : Nat) (fs : List Field) : State :=
  if v % 4 ≠ s.fld (GDR_CHCFG_MODE c) ∧ ¬ s.axisIdle (chanAxis c) then s.cfgErr a
  else
    let s1 := s.staleFields (s.regWrite a v fs) (chanForwarded c)
    let s2 := if s.blk 13 = 0 then s1.setPlant { s1.plant with chOff := clrBits s1.plant.chOff [c] } else s1
    s2.interlock 52

/-- PERIOD and DUTY of a general PWM: a period of 1 to 39 is stored as 40, except under STATIC.
DEDUCED (log entry 48). -/
def gpwmValue (static : Bool) (v : Nat) : Nat :=
  let p := v / 2 ^ 16 % 2 ^ 16
  if static ∨ p = 0 then v else max 40 p * 2 ^ 16 + v % 2 ^ 16

/-- A register of channel `c`, at `r` in its 32 bytes. -/
def State.chanWrite (s : State) (c r a v : Nat) (fs : List Field) : State :=
  if r = 0x00 then s.chcfgWrite c a v fs
  else if r = 0x04 then (if bits v 19 16 > bits v 23 20 then s.cfgErr a else s.staleFields (s.regWrite a v fs) (chanForwarded c))
  else if r = 0x14 then (s.regWrite a (gpwmValue (s.fld (GDR_CHCFG_MODE c) = 3) v) fs).interlock 52
  else s.regWrite a v fs

/-- A register of low-side output `k`: MODE, or PERIOD and DUTY. -/
def State.lsWrite (s : State) (k r a v : Nat) (fs : List Field) : State :=
  if r = 0 then
    (let s1 := s.regWrite a v fs
     if s.blk 13 = 0 ∧ v % 4 ≠ 3 then s1.setPlant { s1.plant with lsOff := clrBits s1.plant.lsOff [k] } else s1)
  else s.regWrite a (gpwmValue (s.fld (GDR_LSMODE_MODE k) = 2) v) fs

/-- A brake chopper's settings (R243). DEDUCED (log entry 45). -/
def State.brkWrite (s : State) (b r a v : Nat) (fs : List Field) : State :=
  if r = 0 then (if bits v 11 0 < bits v 27 16 + 10 then s.cfgErr a else s.staleFields (s.regWrite a v fs) (brkForwarded b))
  else if r = 4 then
    (if bits v 11 0 ≤ s.fld (GDR_BRKCFG_ON b) ∨ (¬ v.testBit 30 ∧ s.armReads b) then s.cfgErr a
     else
       (s.staleFields (((s.putField v (GDR_BRKCTL_FORCE b)).putField v (GDR_BRKCTL_MINON b)).putField v
         (GDR_BRKCTL_TRIP b)) (brkForwarded b)).armWrite b (v.testBit 30))
  else s.regWrite a v fs

/-- The registers of GDR written. -/
def State.gdrWrite (s : State) (a v : Nat) (fs : List Field) : State :=
  if 0x981000 ≤ a ∧ a < 0x981680 then s.chanWrite ((a - 0x981000) / 0x20) (a % 0x20) a v fs
  else if 0x981800 ≤ a ∧ a < 0x9818C0 then s.lsWrite ((a - 0x981800) / 8) (a % 8) a v fs
  else if 0x981900 ≤ a ∧ a < 0x981920 then s.brkWrite ((a - 0x981900) / 0x10) (a % 0x10) a v fs
  else s.regWrite a v fs

end Sys2Proof.Machine
end

