-- ==== Sys2Proof/Machine/BusLdg.lean ====
section
/-! DEFINITION. Accesses to LDG, LCK, ESC and FRM (R112, R121, R122, R140, R141). -/

namespace Sys2Proof.Machine

/-! LDG and LCK. -/

/-- A write of LDG_BINDt (R121): a vault account other than the teller's own needs vault authority. -/
def State.bindWrite (s : State) (o : Origin) (a v t : Nat) (fs : List Field) : State :=
  let acct := bits v 25 16
  if s.namesVault o acct ∧ acct ≠ s.fld (TLR_ACCT_ACCT t) then s.setOn LDG_STATUS_VAULTERR else s.regWrite a v fs

/-- A write of LDG_QUOTAa (R112). -/
def State.quotaWrite (s : State) (o : Origin) (a v acct : Nat) (fs : List Field) : State :=
  if s.namesVault o acct then s.setOn LDG_STATUS_VAULTERR
  else if bits v 10 0 > 1024 then s.cfgErr a
  else s.regWrite a v fs

/-- The registers of LDG and LCK written. -/
def State.ldgWrite (s : State) (o : Origin) (a v : Nat) (fs : List Field) : State :=
  match ix (LDG_BIND_EN 0).addr 4 16 a with
  | some t => s.bindWrite o a v t fs
  | none => match ix (LDG_QUOTA_QUOTA 0).addr 4 1024 a with
  | some acct => s.quotaWrite o a v acct fs
  | none => if a = LCK_ABANDCNT_COUNT.addr then s.badAcc else s.regWrite a v fs

/-- A slot of the order ledger as its window shows it (R121). -/
def State.ldgSlotWord (s : State) (h : Nat) : Nat :=
  match s.order h with
  | none => 0
  | some o =>
    2 ^ 31 + (if o.taker.isSome then 2 ^ 30 else 0) + (if o.aband then 2 ^ 29 else 0)
      + (if s.predDone o then 0 else 2 ^ 28) + o.taker.getD 0 % 16 * 2 ^ 24 + o.book % 16 * 2 ^ 20
      + o.acct % 1024 * 2 ^ 10

/-- A word of a book (R121); a vault account's books read 0 through BAR0. -/
def State.bookWord (s : State) (o : Origin) (i word : Nat) : Nat :=
  let k := s.book (i / 16) (i % 16)
  if s.namesVault o (i / 16) then 0
  else match word with
    | 0 => k.next
    | 1 => k.head
    | 2 => k.last
    | _ => 0

/-- One more than the highest lock whose holder satisfies `p`, 0 for none. -/
def highestLock (p : Holder → Bool) : Tab Lock → Nat
  | [] => 0
  | (l, k) :: m =>
    match k.holder with
    | some h => if p h then max (l + 1) (highestLock p m) else highestLock p m
    | none => highestLock p m

/-- LCK_HIGHt (R122). -/
def State.lckHigh (s : State) (t : Nat) : Nat :=
  let own (h : Holder) : Bool := match h with
    | .teller t' _ => t' = t
    | .host _ => false
  let acct (h : Holder) : Bool := Holder.account h = s.fld (TLR_ACCT_ACCT t)
  highestLock acct s.locks * 2 ^ 16 + highestLock own s.locks

/-- LCK_STATEl (R122). -/
def State.lckWord (s : State) (l : Nat) : Nat :=
  let k := s.lock l
  let ab := if k.aband then 2 ^ 30 else 0
  match k.holder with
  | none => ab
  | some (.teller t a) => 2 ^ 31 + ab + t % 16 * 2 ^ 16 + a % 1024
  | some (.host a) => 2 ^ 31 + ab + 2 ^ 29 + a % 1024

/-- The windows of LDG and LCK that are views of orders, books and locks; none for the others. -/
def State.ldgRead (s : State) (o : Origin) (a : Nat) : Option (Nat × State) :=
  match ix 0x310000 4 4096 a with
  | some h => some (s.ldgSlotWord h, s)
  | none => match ix 0x320000 4 65536 a with
  | some i => some (s.bookWord o (i / 4) (i % 4), s)
  | none => match ix 0x380040 4 16 a with
  | some t => some (s.lckHigh t, s)
  | none => match ix 0x381000 4 256 a with
  | some l => some (s.lckWord l, s)
  | none => none

/-! ESC and FRM. -/

/-- ESC_CTL written on the Manager: DEFPOL, STOP, then RUN. -/
def State.escCtlWrite (s : State) (v : Nat) : State :=
  let s1 := s.putField v ESC_CTL_DEFPOL
  let s2 := if v.testBit 1 then s1.stopWrite else s1
  if v.testBit 0 then s2.runStart else s2

/-- The offsets of ESC whose value on the Manager every Worker and the Standby read: the registers but ESC_VOIDREQ,
ESC_FSTAT, ESC_FMASK and ESC_GRACE, and the void log (R140). DEDUCED (log entry 33). -/
def escShared : List Nat :=
  ((List.range 25).map fun i => 0x400000 + 4 * i) ++ (List.range 128).map fun i => 0x401000 + 4 * i

/-- The word of an ESC register that is distributed: all of it but ESC_STATUS.CFGERR, which is local (R140). -/
def State.escWord (s : State) (a : Nat) : Nat :=
  match regAt (windowMap a) a with
  | some (_, fs) => s.regRead (fs.filter fun f => f ≠ ESC_STATUS_CFGERR)
  | none => 0

/-- What stands for a word that has not been distributed: no word has this value. -/
def unshared : Nat := 2 ^ 32

/-- The registers that differ from what was last distributed, with their words. -/
def State.escChanged (s : State) : List (Nat × Nat) :=
  escShared.filterMap fun a =>
    let v := s.escWord a
    if tabGet unshared s.esc.shared a = v then none else some (a, v)

/-- The Manager distributes the ESC registers that have changed; another node has distributed none (R140).
DEDUCED (log entry 33). -/
def State.escShare (s : State) : State :=
  if s.isManager then
    match s.escChanged with
    | [] => s
    | ps => (s.setEsc { s.esc with shared := ps.foldl (fun t p => tabSet unshared t p.1 p.2) s.esc.shared }).configSend ps 16
  else if s.esc.shared = [] then s
  else s.setEsc { s.esc with shared := [] }

/-- A parameter of escrow written on the Manager: it is distributed, and the geometry follows (R140, R362). -/
def State.escParam (s : State) (a v : Nat) (fs : List Field) : State := ((s.regWrite a v fs).escGeometry).escShare

/-- The ESC registers written. On other roles than the Manager (and an Unconfirmed or Retired node, which
distributes nothing) all but the local ones are discarded with CFGERR (R140). -/
def State.escWrite (s : State) (o : Origin) (a v : Nat) (fs : List Field) : State :=
  let busy : Bool := s.esc.runOpen || s.esc.ahead ≠ []
  if a = ESC_VOIDREQ_SLOT.addr then s.voidRequest v
  else if a = ESC_FSTAT_SRC.addr ∨ a = ESC_FMASK_SRC.addr ∨ a = ESC_GRACE_US.addr then s.regWrite a v fs
  else if s.isStandby ∨ s.isWorker then
    (if a = ESC_STATUS_CFGERR.addr then s.putField v ESC_STATUS_CFGERR else s.escCfgErr)
  else if a = ESC_CTL_RUN.addr then s.escCtlWrite v
  else if a = ESC_LEAD_LINES.addr ∨ a = ESC_STMAP_STN.addr then
    (if busy then s.escCfgErr else s.escParam a v fs)
  else if a = ESC_ORIGINLO_LINE.addr ∨ a = ESC_ORIGINHI_LINE.addr ∨ a = ESC_DEFLEN_LINES.addr
      ∨ a = ESC_DEFGAP_LINES.addr then
    (if s.esc.runOpen then s.escCfgErr else s.escParam a v fs)
  else if a = ESC_EVACCT_ACCT.addr then
    (if s.namesVault o (v % 1024) then s.escCfgErr else s.regWrite a v fs)
  else s.regWrite a v fs

/-- KIND of a slot as the node knows it (R141): a voided slot reads VOID. -/
def SlotRec.kindNow (r : SlotRec) : Nat := if r.voided.isSome then 3 else r.kind

/-- A word of the slot table (R141). An entry without a slot in flight reads 0. DEDUCED (log entry 31). -/
def State.frmSlotWord (s : State) (i word : Nat) : Nat :=
  match s.esc.slots.find? fun e => e.1 % 64 = i with
  | none => 0
  | some (k, r) =>
    match word with
    | 0 => k
    | 1 => r.desc.frame
    | 2 => r.x % 2 ^ 32
    | 3 => r.kindNow % 4 * 2 ^ 30 + r.x / 2 ^ 32 % 2 ^ 16
    | 4 => if r.released = 0 then 0 else r.desc.job
    | _ => 0

/-- Registers of ESC and FRM that are views; none for the others. -/
def State.escRead (s : State) (a : Nat) : Option (Nat × State) :=
  if a = ESC_LASTACCLO_VALUE.addr then
    some (s.fld ESC_LASTACCLO_VALUE, s.setPos { s.pos with capAcc := s.fld ESC_LASTACCHI_VALUE })
  else if a = ESC_LASTACCHI_VALUE.addr then some (s.pos.capAcc, s)
  else if 0x408000 ≤ a ∧ a < 0x40A000 ∧ (s.isManager ∨ s.isStandby) then some (0, s)
  else match ix 0x409000 4 512 a with
    | some i => some (s.frmSlotWord (i / 8) (i % 8), s)
    | none => none

end Sys2Proof.Machine
end

