-- ==== Sys2Proof/Machine/Faults.lean ====
section
/-! DEFINITION. The commands of the fault scheme (R306 to R313), of the fault pair (R317, R318, R383) and of the
laser-safety interlock (R319). -/

namespace Sys2Proof.Machine

/-- A block's status words have a bit for the source. -/
def sourceOk (b src : Nat) : Bool :=
  b < 24 && src < (if b = 13 then 96 else if b = 11 ∨ b = 15 ∨ b = 16 then 64 else 32) && src % 32 < (fstatOf b src).width

/-- FAULT_SOURCE_EVENT: a source's condition occurs, with the incident number a lower level hands up, if any (R307,
R308, R316). -/
def execFaultSourceEvent (b src : Nat) (given : Option Nat) (s : State) : Host.Outcome State Fault Refusal :=
  .next (if s.isOff then s else if sourceOk b src then s.raiseWith b src given else s)

/-- GRACE_EXPIRY: the grace timer of a block in GRACE expires (R309). -/
def execGraceExpiry (b : Nat) (s : State) : Host.Outcome State Fault Refusal :=
  .next (if s.isOff then s else if b < 24 ∧ s.blk b = 1 then s.graceEnd b else s)

/-- NOREF_TIMEOUT: 60 s of holdover without a usable reference or switch instant: NOREF, whose escalation is the stop
request at the end of the current frame, and REF_NONE (R167, R169). With NOREF the grace period of the block ends.
DESIGN CHOICE (log entry 35), DEDUCED (log entry 69). -/
def execNorefTimeout (s : State) : Host.Outcome State Fault Refusal :=
  .next (
    if s.isOff then s else
    if s.fld PLL_REFSTAT_STATE = 1 ∨ s.fld PLL_REFSTAT_STATE = 2 then
      let s1 := (s.raise 6 8).refRecord 0x302 (s.fld (PLL_REFPPM_PPM (s.fld PLL_REFSTAT_SEL)))
      if s1.srcMasked 6 8 then s1
      else
        let s2 := s1.escalateSet 6 8
        if s2.blk 6 = 1 then s2.graceEnd 6 else s2
    else s)

/-- QUIET_PERIOD_END: the quiet period of a block in CLEARING ends (R311). -/
def execQuietPeriodEnd (b : Nat) (s : State) : Host.Outcome State Fault Refusal :=
  .next (if s.isOff then s else if b < 24 ∧ s.blk b = 3 then s.quietEnd b else s)

/-- FLT_BLKRST (R312, R332). -/
def execFltBlkrst (key b : Nat) (s : State) : Host.Outcome State Fault Refusal := .next (if s.isOff then s else s.blkRst key b)

/-- PIN_READBACK_ERROR: the balls FAULT_P and FAULT_N read back for 10 µs: levels that disagree with the driven ones set
PINERR, and levels that agree are the new readback its audit takes (R318). DEDUCED (log entry 75). -/
def execPinReadbackError (p n : Bool) (s : State) : Host.Outcome State Fault Refusal :=
  .next (
    if s.isOff then s
    else if p ≠ s.healthy ∨ n = s.healthy then ({ s with pwr := { s.pwr with pin := some (p, n) } }).raise 18 0
    else { s with pwr := { s.pwr with pin := none } })

/-! The interlock (R319). -/

/-- HLn_LEN goes low on every port; windows it was imaging are void, reason REQUEST, with a number of their own. -/
def State.lenDrop (s : State) : State :=
  let ports := s.lenPorts
  let s1 := (s.setLsi { s.plant.lsi with ok := false }).lsiShow.lenOut
  if ports.any fun n => (s.imagingSlot n).isSome then
    let (inc, s2) := s1.newIncident
    eachPort (fun n s => s.voidPort n rsRequest inc) ports s2
  else s1

/-- An opening shows in FLT_LSICNT on a logic die that runs (R319, R391). -/
def State.lsiCount (s : State) : State := if s.isOff then s else s.inc FLT_LSICNT_COUNT

/-- LSI_OPEN: a channel opens or closes; the operands say which have been open for 100 ns. One that was not open yet is an
opening. Both open at once end a latched discrepancy. DEDUCED (log entry 52). -/
def execLsiOpen (aOpen bOpen : Bool) (s : State) : Host.Outcome State Fault Refusal :=
  .next (
    let l := s.plant.lsi
    let s1 := s.setLsi { l with
      aOpen := aOpen, bOpen := bOpen, disc := l.disc && !(aOpen && bOpen), wait := l.wait && !(aOpen || bOpen) }
    if aOpen ∨ bOpen then (if aOpen && ! l.aOpen || bOpen && ! l.bOpen then s1.lsiCount else s1).lenDrop else s1.lsiShow)

/-- LSI_SETTLED: both channels have been closed for SETTLEMS; with no discrepancy latched a re-arm is awaited. -/
def execLsiSettled (s : State) : Host.Outcome State Fault Refusal :=
  .next (
    let l := s.plant.lsi
    (s.setLsi { l with aOpen := false, bOpen := false, wait := l.wait || !(l.disc || l.ok) }).lsiShow)

/-- LSI_DISCREPANCY: one channel has been open and the other closed for longer than DISCMS. While the logic die stands
the drive die only latches it. DEDUCED (log entry 52). -/
def execLsiDiscrepancy (aOpen : Bool) (s : State) : Host.Outcome State Fault Refusal :=
  .next (
    let s1 := (s.setLsi { s.plant.lsi with aOpen := aOpen, bOpen := ! aOpen, disc := true, wait := false }).lenDrop
    if s.isOff then s1 else s1.raise 18 1)

/-- What the drive die latched of the interlock while the logic die stood or its link was down comes with the link.
DEDUCED (log entry 52). -/
def State.lsiBring (s : State) : State :=
  if s.plant.lsi.disc ∧ ¬ s.flag FLT_LSISTAT_DISC then s.lsiShow.raise 18 1 else s.lsiShow

/-- FLT_CTL.REARM: while the re-arm is awaited HLn_LEN may go high again; earlier it is discarded (R319). -/
def State.rearm (s : State) : State :=
  if s.plant.lsi.wait then (s.setLsi { s.plant.lsi with wait := false, ok := true }).lsiShow.lenOut
  else s.setOn FLT_STATUS_CFGERR

/-- REARM (R319). -/
def execRearm (s : State) : Host.Outcome State Fault Refusal := .next (if s.isOff then s else s.rearm)

/-- A write of FLT_CTL.RUN: it cannot be set with TEST_EN = 1, and stays 0 when no firmware passed (R365, R382). -/
def State.runWrite (s : State) (on : Bool) : State :=
  if on ∧ (s.pwr.straps.testEn ∨ s.fld ACC_BOOT_STAT = 3) then s else s.setBool FLT_CTL_RUN on

/-- What the firmware asks for before it writes RUN (R383): it runs, on DRAM it has trained and PLLs it has a reference for;
the role is confirmed; the drive die is configured over a link that is up; beacons are tracked but on the Manager; the outputs
are enabled but on the Standby. DEDUCED (log entry 53). -/
def State.engineReady (s : State) : Bool :=
  s.fwRuns && (s.isManager || s.isStandby || s.isWorker) && s.dieUp && s.plant.stale = [] && s.pwr.linkUp
    && (s.isManager || s.fld TIM_STATUS_SRC = 2) && (s.isStandby || s.flag GLB_DRVEN_OUTEN)

/-- FLT_RUN: the firmware writes FLT_CTL.RUN = 1: the node is engine-ready and the pair may show healthy (R317, R383). It
does so only with what engineReady asks for. DEDUCED (log entry 53). -/
def execFltRun (s : State) : Host.Outcome State Fault Refusal :=
  .next (if s.isOff ∨ ¬ s.engineReady then s else s.runWrite true)

end Sys2Proof.Machine
end

