-- ==== Sys2Proof/Machine/Vault.lean ====
section
/-! DEFINITION. Signed boot and the vault: envelopes (R366), boot (R365), key slots and rollback (R367), the loader of
teller images (R92 to R94), LOAD (R368) and vault membership (R334). -/

namespace Sys2Proof.Machine

/-! Envelopes (R366). -/

/-- The little-endian number in `n` bytes at `k`. -/
def leAt (bs : List Byte) (k n : Nat) : Nat := ofLe ((bs.drop k).take n)

/-- The big-endian number in `n` bytes at `k`. -/
def beAt (bs : List Byte) (k n : Nat) : Nat := ofBe ((bs.drop k).take n)

/-- The payload of an envelope. -/
def envPayload (bs : List Byte) : List Byte := bs.drop 192

/-- The hash a key slot holds, if the slot is written and not revoked; slot 0 is always there. -/
def State.keyHash (s : State) (slot : Nat) : Option Nat :=
  if slot = 0 then some Config.karafyKey
  else if slot ≤ 4 ∧ s.fbit VLT_KEYSTAT_WRITTEN (slot - 1) ∧ ¬ s.fbit VLT_KEYSTAT_REVOKED (slot - 1) then
    some (tabGet 0 s.keys slot)
  else none

/-- The fields of the header are in range for an envelope of a TYPE. -/
def envFields (bs : List Byte) (type : Nat) : Bool :=
  192 ≤ bs.length && leAt bs 0 4 = 0x4749534B && leAt bs 4 2 = 1 && leAt bs 6 1 = type && leAt bs 7 1 ≤ 4 &&
    leAt bs 12 4 = bs.length - 192 && leAt bs 48 16 = 0

/-- An envelope of a TYPE passes (R366). -/
def State.envOk (s : State) (bs : List Byte) (type : Nat) : Bool :=
  let slot := leAt bs 7 1
  envFields bs type && (if type = 1 then slot = 0 else 1 ≤ slot) && decide (s.keyHash slot = some (sha256 ((bs.drop 64).take 64)))
    && (type ≠ 1 || s.fld VLT_ROLLBACK_COUNT ≤ leAt bs 8 4) && decide (beAt bs 16 32 = sha256 (envPayload bs))
    && ecdsaOk (sha256 (bs.take 128)) (beAt bs 64 32) (beAt bs 96 32) (beAt bs 128 32) (beAt bs 160 32)

/-! The loader (R92 to R94). -/

/-- A section entry (R93) with the bytes it brings. -/
structure Sect where
  type : Nat
  target : Nat
  size : Nat
  offset : Nat
  data : List Byte
deriving DecidableEq, Repr

/-- The sections of an image, entries from `i` on. -/
def sections (bs : List Byte) (i : Nat) : Nat → List Sect
  | 0 => []
  | n + 1 =>
    let k := 64 + 16 * i
    let size := leAt bs (k + 8) 4
    let off := leAt bs (k + 12) 4
    ⟨leAt bs k 2, leAt bs (k + 4) 4, size, off, (bs.drop off).take size⟩ :: sections bs (i + 1) n

/-- The reserved bytes of every section entry are 0. -/
def sectReserved (bs : List Byte) (n : Nat) : Bool := (List.range n).all fun i => leAt bs (64 + 16 * i + 2) 2 = 0

/-- The header of R92 is in range and its CRC matches. -/
def imageHeader (bs : List Byte) : Bool :=
  let n := leAt bs 6 2
  leAt bs 0 4 = 0x584C5254 && leAt bs 4 2 = 1 && 1 ≤ n && n ≤ 64 && leAt bs 8 4 = bs.length && bs.length % 4 = 0 &&
    64 + 16 * n ≤ bs.length && leAt bs 18 2 ≤ 1 && leAt bs 20 44 = 0 && sectReserved bs n &&
    leAt bs 12 4 = crc32c (bs.take 12 ++ List.replicate 4 0 ++ bs.drop 16)

/-- The device's stepping is not below the one the image wants. -/
def State.stepOk (s : State) (bs : List Byte) : Bool :=
  let l := s.fld GLB_ID_STEPLET
  leAt bs 16 1 < l || (leAt bs 16 1 = l && leAt bs 17 1 ≤ s.fld GLB_ID_STEPNUM)

/-- A program page is write-protected. -/
def State.pageProtected (s : State) (page : Nat) : Bool := s.fbit (TLR_PMWP_WP (page / 32)) (page % 32)

/-- A section is in range: its kind's memory, the image, protection, the teller of a START (R93, R94). TARGET of PROG,
DATA, ZERO and ACTION is any byte address. DESIGN CHOICE (log entry 70). -/
def State.sectOk (s : State) (len : Nat) (x : Sect) : Bool :=
  x.size % 4 = 0 &&
    match x.type with
    | 1 => x.offset + x.size ≤ len && x.target + x.size ≤ pmSize &&
        ! (List.range 64).any fun p => s.pageProtected p && p * 65536 < x.target + x.size && x.target < (p + 1) * 65536
    | 2 => x.offset + x.size ≤ len && x.target + x.size ≤ dmSize
    | 3 => x.offset = 0 && x.target + x.size ≤ dmSize
    | 4 => x.offset + x.size ≤ len && x.target + x.size ≤ 0x10000
    | 5 => x.size = 16 && x.offset + 16 ≤ len && x.target < 16 && (s.teller x.target).isHalted &&
        leAt x.data 0 4 < pmSize && leAt x.data 0 4 % 4 = 0 && leAt x.data 4 4 < 1024 && leAt x.data 8 4 < 65536 &&
        leAt x.data 12 4 ≤ 1
    | _ => false

/-- Two sections write the same memory: both program, or both data. -/
def Sect.clash (a b : Sect) : Bool :=
  ((a.type = 1 && b.type = 1) || ((a.type = 2 || a.type = 3) && (b.type = 2 || b.type = 3))) &&
    a.target < b.target + b.size && b.target < a.target + a.size

/-- No section of a list clashes with a later one. -/
def noClash : List Sect → Bool
  | [] => true
  | x :: xs => ! xs.any (fun y => x.clash y) && noClash xs

/-- The loader accepts an image (R94). -/
def State.imageOk (s : State) (bs : List Byte) (vault : Bool) : Bool :=
  let xs := sections bs 0 (leAt bs 6 2)
  imageHeader bs && s.stepOk bs && xs.all (fun x => s.sectOk bs.length x) && noClash xs && (vault || leAt bs 18 2 = 0)

/-- The action table's word at a byte offset. -/
def actWord (o : Nat) : Field := (TAU_ENTCTL_CTL 0).up (o / 4 * 4)

/-- One byte of the action table; an entry whose comparator is armed stays as it is (R99). -/
def State.actByte (s : State) (o : Nat) (b : Byte) : State :=
  if (s.cmp (o / 16)).armed then s.setOn TAU_STATUS_ENTERR
  else
    let w := s.fld (actWord o)
    let old := w / 256 ^ (o % 4) % 256
    s.setFld (actWord o) (w + b.toNat * 256 ^ (o % 4) - old * 256 ^ (o % 4))

/-- Bytes of the action table. -/
def State.actBytes (s : State) (o : Nat) : List Byte → State
  | [] => s
  | b :: bs => (s.actByte o b).actBytes (o + 1) bs

/-- Program words carry fresh check bits. -/
def State.pmFresh (s : State) (a : Nat) : Nat → State
  | 0 => s
  | n + 1 => { s with pmErr := tabSet 0 s.pmErr (a / 4) 0 }.pmFresh (a + 4) n

/-- Bytes written to program memory. -/
def State.pmPut (s : State) (a : Nat) (bs : List Byte) : State :=
  { s with pm := memPut s.pm a bs }.pmFresh (a / 4 * 4) ((a % 4 + bs.length + 3) / 4)

/-- A section is written (R93). -/
def State.sectWrite (s : State) (x : Sect) : State :=
  let put (bs : List Byte) : State :=
    { s with dm := memPut s.dm x.target bs }.dmFresh (x.target / 4 * 4) ((x.target % 4 + bs.length + 3) / 4)
  match x.type with
  | 1 => s.pmPut x.target x.data
  | 2 => put x.data
  | 3 => put (List.replicate x.size 0)
  | 4 => s.actBytes x.target x.data
  | 5 =>
    let s1 := (s.setFld (TLR_BOOT_ADDR x.target) (leAt x.data 0 4)).setFld (TLR_ACCT_ACCT x.target) (leAt x.data 4 4)
    (s1.setFld (TLR_WDOG_US x.target) (leAt x.data 8 4)).mapTeller x.target fun y =>
      { y with pc := BitVec.ofNat 32 (leAt x.data 0 4) }
  | _ => s

/-- Sections written in order. -/
def State.sectAll (s : State) : List Sect → State
  | [] => s
  | x :: xs => (s.sectWrite x).sectAll xs

/-- The tellers that START sections name with RUN = 1, as a mask. -/
def startMask : List Sect → Nat
  | [] => 0
  | x :: xs => if x.type = 5 ∧ leAt x.data 12 4 = 1 then startMask xs ||| 2 ^ x.target else startMask xs

/-- The loader writes an accepted image and starts its tellers (R94). -/
def State.loadImage (s : State) (bs : List Byte) : State :=
  let xs := sections bs 0 (leAt bs 6 2)
  (s.sectAll xs).eachTeller (fun t s => s.tellerGo t) (startMask xs) 16

/-! LOAD, KEYPROV, KEYREVOKE. -/

/-- The status of a LOAD (R368): BUSY for one taken while another load ran, of a host or of the boot directory.
DEDUCED (log entry 75). -/
def State.loadStatus (s : State) (a len : Nat) (bs : List Byte) : Nat :=
  if s.loading ≠ some a then stBusy
  else if len > 0x400000 + 192 then stBadArg
  else if bs.length ≠ len ∨ ¬ s.envOk bs 2 then stBadSig
  else if s.imageOk (envPayload bs) (s.isVault a) then stOk
  else stBadArg

/-- LOAD: the envelope as it was fetched from host memory (R339, R368). -/
def execLoad (a : Nat) (bytes : List Byte) (s : State) : Host.Outcome State Fault Refusal :=
  .next (if s.isOff then s else s.mbRun a 0x10 true (zeroFrom 3) fun ws =>
    let st := s.loadStatus a (ws.getD 2 0) bytes
    let s1 := { s with loading := if s.loading = some a then none else s.loading }.mbAnswer a 0x10 ws [st]
    let s2 := if st = stOk then s1.loadImage (envPayload bytes) else s1
    s2.post a 0x370 (st + leAt bytes 6 1 * 256) 0 0)

/-- A slot's bit in a fuse field. -/
def slotOk (ws : List Nat) : Bool := 1 ≤ ws.getD 0 0 && ws.getD 0 0 ≤ 4

/-- KEYPROV (R367): the hash is MBW8 to MBW15 in byte order. DESIGN CHOICE (log entry 23). -/
def execKeyprov (a : Nat) (s : State) : Host.Outcome State Fault Refusal :=
  .next (if s.isOff then s else s.mbRun a 0x11 true (fun ws => s.isVault a && slotOk ws && zeroFrom 1 (ws.take 8)) fun ws =>
    let slot := ws.getD 0 0
    if s.fbit VLT_KEYSTAT_WRITTEN (slot - 1) then s.mbAnswer a 0x11 ws [stBusy]
    else
      let s1 := { s with keys := tabSet 0 s.keys slot (ofBe (wordBytes (ws.drop 8))) }
      (s1.setFbit VLT_KEYSTAT_WRITTEN (slot - 1)).mbAnswer a 0x11 ws [stOk])

/-- KEYREVOKE (R367). -/
def execKeyrevoke (a : Nat) (s : State) : Host.Outcome State Fault Refusal :=
  .next (if s.isOff then s else s.mbRun a 0x12 true (fun ws => s.isVault a && slotOk ws && zeroFrom 1 ws) fun ws =>
    (s.setFbit VLT_KEYSTAT_REVOKED (ws.getD 0 0 - 1)).mbAnswer a 0x12 ws [stOk])

/-- VLT_CTL.COMMITRB written 1: the rollback counter rises to that of the running firmware (R367). -/
def State.commitRollback (s : State) : State :=
  s.setFld VLT_ROLLBACK_COUNT (max (s.fld VLT_ROLLBACK_COUNT) s.fwRollback)

/-- COMMITRB (R367). -/
def execCommitrb (s : State) : Host.Outcome State Fault Refusal := .next (if s.isOff then s else s.commitRollback)

/-- A write of VLT_MEMBERSLO or HI: discarded when it changes the bit of an enabled account (R334). -/
def State.membersWrite (s : State) (h v : Nat) : State :=
  let change := s.fld (VLT_MEMBERS_ACCTS h) ^^^ (v % 2 ^ 32)
  if (List.range 32).any fun i => change.testBit i && s.flag (ACC_CFG_EN (32 * h + i)) then s.setOn VLT_STATUS_CFGERR
  else s.setFld (VLT_MEMBERS_ACCTS h) v

/-- VLT_MEMBERS_WRITE (R334). -/
def execVltMembersWrite (h v : Nat) (s : State) : Host.Outcome State Fault Refusal :=
  .next (if s.isOff then s else if h < 2 then s.membersWrite h v else s)

/-! Boot (R365) and its flash (R387). -/

/-- The basic flash parameter table of a JESD216 SFDP table: its first word, if the signature stands and the table has
it. PRESUMED (log entry 67). -/
def sfdpBasic (bs : List Byte) : Option Nat :=
  if leAt bs 0 4 = 0x50444653 then
    ((List.range (leAt bs 6 1 + 1)).find? fun i =>
      leAt bs (8 + 8 * i) 1 = 0 && leAt bs (15 + 8 * i) 1 = 0xFF && 1 ≤ leAt bs (11 + 8 * i) 1
        && leAt bs (12 + 8 * i) 3 + 4 ≤ bs.length).map fun i => leAt bs (leAt bs (12 + 8 * i) 3) 4
  else none

/-- How the boot code reads the flash: the mode (0: 1-1-1, 1: 1-1-4, 2: 1-4-4) and its SCK in MHz. A table that offers
4-byte addressing gives the fastest mode it offers at 100 MHz; without a valid one, 1-1-1 at 25 MHz (R387).
PRESUMED (log entry 67). -/
def flashMode (bs : List Byte) : Nat × Nat :=
  match sfdpBasic bs with
  | some w =>
    if bits w 18 17 = 0 ∨ bits w 18 17 = 3 then (0, 25)
    else (if w.testBit 21 then 2 else if w.testBit 22 then 1 else 0, 100)
  | none => (0, 25)

/-- The images of a TYPE in the directory of the boot flash whose bytes lie in the flash, in directory order (R365). -/
def flashImages (flash : List Byte) (type : Nat) : List (List Byte) :=
  (List.range 16).filterMap fun i =>
    let off := leAt flash (16 * i + 4) 4
    let len := leAt flash (16 * i + 8) 4
    if leAt flash (16 * i) 2 = type ∧ off + len ≤ flash.length then some ((flash.drop off).take len) else none

/-- The management cores start a firmware. -/
def State.fwStart (s : State) (stat : Nat) (bs : List Byte) : State :=
  let s1 := (s.setFld ACC_BOOT_STAT stat).setFld ACC_BOOT_FWVER (leAt bs 8 4)
  ({ s1 with fwRollback := leAt bs 8 4 }).mbTakeAll s1.mbCmd

/-- BOOT_VERIFY: the SFDP table sets the read mode; of firmware A and firmware B in the flash's directory the first that
passes runs, and has the teller images of the directory to load; if neither does, the node stays off the ring (R365,
R387). -/
def execBootVerify (sfdp flash : List Byte) (s : State) : Host.Outcome State Fault Refusal :=
  .next (
    if s.isOff then s else
    if s.fld ACC_BOOT_STAT ≠ 0 ∨ s.pwr.coresHeld ∨ s.pwr.held then s
    else
      let s1 : State := { s with flash := flashMode sfdp, images := flashImages flash 3 }
      let pass (k : Nat) : Option (List Byte) := (flashImages flash k).find? fun bs => s.envOk bs 1
      match pass 1, pass 2 with
      | some bs, _ => s1.fwStart 1 bs
      | none, some bs => s1.fwStart 2 bs
      | none, none => (s1.setFld ACC_BOOT_STAT 3).setOff FLT_CTL_RUN)

/-- TELLER_IMAGE_LOAD: the firmware loads the next image of the boot directory by the vault path; one that does not pass is
left (R365, R368). -/
def execTellerImageLoad (s : State) : Host.Outcome State Fault Refusal :=
  .next (
    if s.isOff ∨ ¬ s.fwRuns then s
    else match s.images with
      | [] => s
      | bs :: rest =>
        let s1 : State := { s with images := rest }
        if s1.envOk bs 2 ∧ s1.imageOk (envPayload bs) true then s1.loadImage (envPayload bs) else s1)

end Sys2Proof.Machine
end

