-- ==== Sys2Proof/Machine/Reset.lean ====
section
/-! DEFINITION. Resets of either die, supplies and straps (R28, R381 to R383, R394), the drive link and its heartbeat
(R15), thermal shutdown (R280), Dormant (R390 to R392) and the test access port (R389). -/

namespace Sys2Proof.Machine

def State.setPwr (s : State) (p : Pwr) : State := { s with pwr := p }

/-! The drive die. -/

/-- The drive die releases every gate, low-side and brake-chopper enable output (R15): OUTEN clears, axes whose outputs
were released coast (R258). -/
def State.outputsOff (s : State) : State :=
  let s1 := if s.flag GLB_DRVEN_OUTEN then s.coastAll else s
  (s1.setOff GLB_DRVEN_OUTEN).emit (.port "outputs" 0 [0])

/-- What the drive die reports of channel `c` returns to its reset values (R394). -/
def State.reportReset (s : State) (c : Nat) : State :=
  let f := s.fld (GDR_CHCFG_FIXSTEP c)
  [GDR_CHST_BOOTUV c, GDR_CHST_DESATLS c, GDR_CHST_DESATHS c, GDR_ILKCNT_ILKCNT c, GDR_TSW_TSWHS c, GDR_TSW_TSWLS c,
    GDR_VSW_VSW c].foldl State.setOff ((s.setFld (GDR_STR_HSSTEP c) f).setFld (GDR_STR_LSSTEP c) f)

/-- What it reports of brake chopper `a`, and the ARM latch, which nothing sets again but a write of 1.
DEDUCED (log entry 52). -/
def State.brakeReset (s : State) (a : Nat) : State :=
  (((s.setBrake a Brake.init).setOff (GDR_BRKCTL_ARM a)).setOff
    (GDR_BRKONTIME_ONTIME a)).setOff (GDR_BRKSENSE_SENSE a)

/-- A reset of the drive die (R394): settings kept on the logic die, ARM cleared, reported fields at reset, outputs
released, HLn_LEN low as after an opening (R319), the link down until a frame arrives. -/
def State.driveReset (s : State) : State :=
  let s1 := s.outputsOff.lenDrop
  let s2 := (((List.range 52).foldl State.reportReset s1).setOff GDR_VGD_VALUE).brakeReset 0 |>.brakeReset 1
  let s3 := (s2.setPlant { s2.plant with
    stale := [], vgd := 0, vgdUv := false, ilk := [], lsi := { s2.plant.lsi with disc := false, wait := false } }).lsiShow
  s3.setPwr { s3.pwr with drvReset := true, linkUp := false, hbLost := false }

/-- GLB_RESET carries the key 0xD00D; any other sets KEYERR (R28). -/
def resetKey : Nat := 0xD00D
def State.keyed (s : State) (key : Nat) (f : State → State) : State :=
  if key = resetKey then f s else s.setOn GLB_STATUS_KEYERR

/-- DRIVERST (R28, R394). -/
def execDriverst (key : Nat) (s : State) : Host.Outcome State Fault Refusal := .next (if s.isOff then s else s.keyed key State.driveReset)

/-- DRIVE_DIE_SUPPLY_CHANGE: below 1.5 V the clamps hold every output and HLn_LEN low and the drive die loses its state;
above it powers up and waits for the drive link (R381). -/
def execDriveDieSupplyChange (low : Bool) (s : State) : Host.Outcome State Fault Refusal :=
  .next (
    if low then
      let s1 := s.driveReset
      s1.setPwr { s1.pwr with drvClamped := true }
    else s.setPwr { s.pwr with drvClamped := false })

/-- DRIVE_LINK_FRAME: a frame reaches the drive die: it leaves reset with every forwarded setting applied, and a
heartbeat-loss flag it holds becomes GLB_STATUS.DDHB; a link that comes up brings what the drive die reports (R15,
R394). -/
def execDriveLinkFrame (vsw : List Nat) (s : State) : Host.Outcome State Fault Refusal :=
  .next (
    if s.pwr.drvClamped ∨ s.isOff then s
    else
      let s1 := (if s.pwr.hbLost then s.setOn GLB_STATUS_DDHB else s).driveApply
      let s2 := s1.setPwr { s1.pwr with linkUp := true, drvReset := false, hbLost := false }
      (if s.pwr.linkUp then s2 else (((s2.vgdReport).brakeReport 0).brakeReport 1).lsiBring.lenOut).showVsw 0 vsw)

/-- HEARTBEAT_LOSS: 2 µs without a valid frame: the outputs are released and HLn_LEN is low (R15, R185). -/
def execHeartbeatLoss (s : State) : Host.Outcome State Fault Refusal :=
  .next (
    if s.pwr.linkUp then
      let s1 := s.outputsOff
      (s1.setPwr { s1.pwr with linkUp := false, hbLost := true }).lenOut
    else s)

/-- A write of GLB_DRVEN.OUTEN (R28). -/
def State.outenWrite (s : State) (on : Bool) : State :=
  if on then
    if ¬ s.pwr.linkUp ∨ s.role = 0 ∨ s.role = 2 ∨ s.role = 4 then s.setOn GLB_STATUS_ENERR else (s.setOn GLB_DRVEN_OUTEN).interlock 52
  else s.outputsOff

/-- OUTEN_WRITE (R28). -/
def execOutenWrite (on : Bool) (s : State) : Host.Outcome State Fault Refusal := .next (if s.isOff then s else s.outenWrite on)

/-! The port map (R22). -/

/-- Two enabled ports name the same station and position. -/
def mapClash (v : Nat) : Bool :=
  let b (n : Nat) : Nat := v / 256 ^ n % 256
  (List.range 4).any fun i => (List.range 4).any fun j => i < j && b i ≥ 128 && b i = b j

/-- A write of GLB_PORTMAP. -/
def State.portmapWrite (s : State) (v : Nat) : State :=
  if mapClash v ∨ s.isManager ∨ s.isStandby ∨ (List.range 4).any (fun n => s.portImaging n) then
    s.setOn GLB_STATUS_MAPERR
  else s.setFld GLB_PORTMAP_MAP v

/-- PORTMAP_WRITE (R22). -/
def execPortmapWrite (v : Nat) (s : State) : Host.Outcome State Fault Refusal := .next (if s.isOff then s else s.portmapWrite v)

/-! Resets of the logic die. -/

/-- Fields that a reset leaves as they are. DEDUCED (log entry 54). -/
def State.keepFields (r s : State) (fs : List Field) : State := fs.foldl (fun r f => r.setFld f (s.fld f)) r

/-- The straps as sampled show in GLB_ROLE (R16). DESIGN CHOICE (log entry 7). -/
def State.strapped (s : State) (x : Straps) : State :=
  (((s.setPwr { s.pwr with straps := x }).setFld GLB_ROLE_STRAP x.role).setBool GLB_ROLE_BADSTRAP (x.role % 4 = 3))

/-- The state after a reset of the logic die: all of it at reset but for the fuses, the always-on island, the
surroundings, on-package DRAM and the test access port. DESIGN CHOICE (log entry 7). -/
def State.logicInit (s : State) (cause : Nat) : State :=
  let r : State := { State.reset with
    out := s.out, freeCtr := s.freeCtr, pending := s.pending, keys := s.keys, dram := s.dram, tap := s.tap
    time := { Time.init with cycles := s.time.cycles, rtcSec := s.time.rtcSec }
    pwr := { Pwr.init with
      dormantLow := s.pwr.dormantLow, drvClamped := s.pwr.drvClamped, hostDown := s.pwr.hostDown
      straps := s.pwr.straps }
    plant := { Plant.init with lsi := { Lsi.init with aOpen := s.plant.lsi.aOpen, bOpen := s.plant.lsi.bOpen } } }
  (r.keepFields s [VLT_KEYSTAT_REVOKED, VLT_KEYSTAT_WRITTEN, VLT_ROLLBACK_COUNT, GLB_ROLE_STRAP,
    GLB_ROLE_BADSTRAP]).setFld GLB_RSTCAUSE_CAUSE cause

/-- A chip reset: both dies, the straps resampled (R28, R382).
DEDUCED (log entry 54), DESIGN CHOICE (log entry 55). -/
def State.chipReset (s : State) (cause : Nat) (x : Straps) : State :=
  (((s.logicInit cause).strapped x).emit (.port "outputs" 0 [0])).lenOut

/-- The registers R90 keeps at a logic-die reset: TLR_ACCTn, TLR_WDOGn, TLR_TVECn, TLR_AMASKn.
DEDUCED (log entry 54). -/
def tellerKept : List Field :=
  (List.range 16).flatMap fun t => [TLR_ACCT_ACCT t, TLR_WDOG_US t, TLR_TVEC_ADDR t, TLR_TVEC_EN t, TLR_AMASK_WIN t]

/-- What stays on the drive die over a logic-die reset: the choppers, the gate supply, and the settings that the registers
at reset differ from until a frame carries those over (R394). -/
def State.dieKept (r s : State) : State :=
  let brk (m : Tab Brake) (a : Nat) : Tab Brake :=
    tabSet Brake.init m a { s.brake a with armReq := false, shadow := false }
  let old (m : Tab (Option Nat)) (f : Field) : Tab (Option Nat) :=
    if ¬ s.dieUp ∨ s.drvFld f = r.fld f then m else tabSet none m f.key (some (s.drvFld f))
  r.setPlant { r.plant with
    brakes := (List.range 2).foldl brk [], stale := forwarded.foldl old [], vgd := s.plant.vgd, vgdUv := s.plant.vgdUv
    lsi := s.plant.lsi }

/-- A logic-die reset: the role with its number and TERM, CONFLICT and the straps stay (R18, R28), the drive die keeps its
latches and releases its outputs for want of the heartbeat (R15, R394). DEDUCED (log entry 54). -/
def State.logicReset (s : State) : State :=
  let r := (s.logicInit 3).keepFields s (tellerKept ++ [GLB_ROLE_CONFLICT, GLB_ROLE_ROLE, GLB_ROLE_NODE, GLB_TERM_TERM, GDR_BRKCTL_ARM 0, GDR_BRKCTL_ARM 1,
    FLT_LSISTAT_ACLOSED, FLT_LSISTAT_BCLOSED, FLT_LSISTAT_LENOK, FLT_LSISTAT_DISC, FLT_LSISTAT_WAITREARM])
  let r1 := (r.dieKept s).setMirror { r.mirror with mgrNode := s.mirror.mgrNode }
  ((r1.setPwr { r1.pwr with drvReset := s.pwr.drvReset, hbLost := s.pwr.hbLost || s.pwr.linkUp }).emit
    (.port "outputs" 0 [0])).lenOut

/-- A reference without edges at reset release is dead: DEAD, and REFPPM reads 0x8000_0000 (R164, R171). -/
def State.edgesAtReset (s : State) (r : Nat) (edges : Bool) : State :=
  if edges then s else (s.setOn (refDead r)).setFld (PLL_REFPPM_PPM r) 0x80000000

/-- POWER_ON_RESET: released after 2 ms of rails in range; the supervisor takes the reference of PLL_REFCTL.PREF if it
has edges, else the other; with neither the management cores stay in reset (R382, R383). -/
def execPowerOnReset (x : Straps) (edgesA edgesB : Bool) (s : State) : Host.Outcome State Fault Refusal :=
  .next (
    let r := s.chipReset 0 x
    let sel := if r.fld PLL_REFCTL_PREF = 0 then (if edgesA then 0 else 1) else if edgesB then 1 else 0
    let r0 := r.setFld PLL_REFSTAT_SEL (if edgesA ∨ edgesB then sel else r.fld PLL_REFCTL_PREF)
    let r1 := (r0.edgesAtReset 0 edgesA).edgesAtReset 1 edgesB
    r1.setPwr { r1.pwr with coresHeld := ! (edgesA || edgesB) })

/-- SUPPLY_DROP: the power-on reset holds both dies in reset (R382). -/
def execSupplyDrop (s : State) : Host.Outcome State Fault Refusal :=
  .next (
    let r := s.chipReset 0 s.pwr.straps
    r.setPwr { r.pwr with held := true })

/-- RESET_N: a chip reset with cause 1; also in Dormant (R382, R390). -/
def execResetN (x : Straps) (s : State) : Host.Outcome State Fault Refusal :=
  .next (if s.pwr.held then s else s.chipReset 1 x)

/-- CHIPRST (R28). -/
def execChiprst (key : Nat) (x : Straps) (s : State) : Host.Outcome State Fault Refusal :=
  .next (if s.isOff then s else s.keyed key fun s => s.chipReset 2 x)

/-- LOGICRST (R28). -/
def execLogicrst (key : Nat) (s : State) : Host.Outcome State Fault Refusal := .next (if s.isOff then s else s.keyed key State.logicReset)

/-- The straps as the board drives them when a reset that no command describes samples them: free values (R16, R382).
DESIGN CHOICE (log entry 66). -/
def State.freeStraps (s : State) : Straps × State :=
  let (x, s1) := s.free 32
  (⟨x % 4, x / 4 % 2 = 1, x / 8⟩, s1)

/-- A write of GLB_RESET: CHIPRST, which resamples the straps, before LOGICRST and DRIVERST (R28). -/
def State.glbReset (s : State) (v : Nat) : State :=
  s.keyed (v / 2 ^ 16) fun s =>
    if v.testBit 0 then let (x, s1) := s.freeStraps; s1.chipReset 2 x
    else
      let s1 := if v.testBit 2 then s.driveReset else s
      if v.testBit 1 then s1.logicReset else s1

/-! Thermal shutdown (R280). -/

/-- No run is open and the windows of the last one are over: on the Manager and the Standby ESC_ENDPOS is reached, on a
Worker no slot is left. -/
def State.runOver (s : State) : Bool :=
  if s.isWorker then s.esc.expect.isNone && s.esc.slots.isEmpty
  else ! s.esc.runOpen &&
    (s.fld ESC_ENDPOSHI_LINE * 2 ^ 32 + s.fld ESC_ENDPOSLO_LINE) * 2 ^ 16 ≤ s.wpos

/-- The hard action of a model by its kind. -/
def State.hardAction (s : State) (m : Nat) : State :=
  if m < 2 then
    let r := s.chipReset 4 s.pwr.straps
    r.setPwr { r.pwr with thermalShut := true }
  else if m < 6 then
    let n := m - 2
    let s1 := (s.setOff (HLK_CTL_LEN n)).lenOut
    (s1.setPlant { s1.plant with headHot := s1.plant.headHot ||| 2 ^ n }).voidPort n rsHead (s.incOf 16)
  else if m < 22 then s.coastAxis (m - 6)
  else if m < 46 then s.zoneOff (m - 22)
  else s

/-- THERMAL_HARD_ACTION: a model in SHUT acts once the run is over, or at ABS. -/
def execThermalHardAction (m : Nat) (s : State) : Host.Outcome State Fault Refusal :=
  .next (
    if s.isOff then s else
    if m < 48 ∧ s.flag (THM_MSTAT_SHUTPEND m) ∧ (s.runOver ∨ s.thmLevel thmAbs m ≤ (s.thermP m).t1 / tU) then
      (s.setShut m false).hardAction m
    else s)

/-- THERMAL_SHUTDOWN_RELEASE: the die sensors, model 0 first, in 1/16 °C; all below SHUT − HYST, the node leaves reset.
DEDUCED (log entry 53). -/
def execThermalShutdownRelease (temps : List Int) (s : State) : Host.Outcome State Fault Refusal :=
  .next (
    let cool (m : Nat) : Bool := temps.getD m 0 < s.thmLevel thmShut m - (s.fld (THM_MTHR_HYST m) : Int)
    if s.pwr.thermalShut ∧ temps.length = 2 ∧ cool 0 ∧ cool 1 then
      let (x, s1) := s.freeStraps
      (s1.strapped x).setPwr { (s1.strapped x).pwr with thermalShut := false }
    else s)

/-! Dormant (R390 to R392). -/

/-- DORMANT_ENTRY: DORMANT_N low: no further mailbox command is accepted, the Manager requests the end of its run. To a node
that tracks none, beacons have stopped. -/
def execDormantEntry (s : State) : Host.Outcome State Fault Refusal :=
  .next (
    let s1 := s.setPwr { s.pwr with
      dormantLow := true, bcnStopped := s.pwr.bcnStopped || (! s.isManager && s.fld TIM_STATUS_SRC ≠ 2) }
    if s1.isManager then s1.stopRequest else s1)

/-- Step 2's conditions but for the beacons. -/
def State.dormantReady (s : State) : Bool :=
  s.pwr.dormantLow && ! s.isOff && ! s.esc.runOpen && (! s.isWorker || s.runOver)
    && (List.range 4).all (fun n => s.portIdle n)
    && (List.range 16).all (fun i => s.axisIdle i)
    && (List.range 16).all (fun h => s.hvState h = hvOff && (s.hvP h).ac = 0)
    && (List.range 24).all (fun z => ! s.flag (FUS_ZCFG_EN z) || (s.zoneP z).off)
    && s.store.ingests.isEmpty && s.mbCmd.isEmpty
    && (! s.isManager || (s.fld TIM_VEL_VEL = 0 && s.fld FLT_ACKSEQ_MSEQ = s.fld FLT_MSEQ_MSEQ))

/-- Steps 3 and 4: RUN clears, the drive link stops and the outputs are released as planned, the clocks stop. -/
def State.sleep (s : State) : State :=
  let s1 := ((s.setOff FLT_CTL_RUN).setOff RNG_STATUS_UPA).setOff RNG_STATUS_UPB |>.outputsOff
  (s1.setPwr { s1.pwr with linkUp := false, bcnStopped := true, asleep := true }).lenOut

/-- DORMANT_SLEEP: once the conditions hold the Manager stops its beacons and sleeps; another node sleeps once beacons
have stopped. -/
def execDormantSleep (s : State) : Host.Outcome State Fault Refusal :=
  .next (if s.isOff then s else if s.dormantReady ∧ (s.isManager ∨ s.pwr.bcnStopped ∨ s.role = 0 ∨ s.role = 4) then s.sleep else s)

/-- Thermal models start again from their sensors at their next update (R392). DESIGN CHOICE (log entry 55). -/
def reseed : Tab Therm → Tab Therm
  | [] => []
  | (m, x) :: l => (m, { x with started := false }) :: reseed l

/-- The drives that were on line are to be initialised again (R392). DESIGN CHOICE (log entry 71). -/
def State.drivesOff (s : State) : State :=
  (List.range 16).foldl (fun s d => if s.driveOn d then s.setFld (STO_DRV_STATE d) 0 else s) s

/-- WAKE: DORMANT_N high with the seconds the RTC reads. Before step 3 the node returns to normal service; a sleeping node
wakes: wall time from the RTC, drives and thermal models started again, the links and RUN still to come.
DESIGN CHOICE (log entry 55). -/
def execWake (rtc : Nat) (s : State) : Host.Outcome State Fault Refusal :=
  .next (
    let p : Pwr := { s.pwr with dormantLow := false, bcnStopped := false, asleep := false }
    if s.pwr.asleep then
      let s1 := (s.setPwr p).setPlant { s.plant with
        therm := (reseed s.plant.therm).filter fun e => decide (e.2 ≠ Therm.init) }
      let s2 := (s1.stepWall rtc 0).setOff CLD_STATUS_PTPRUN |>.setFld CLD_STATUS_SRC 3 |>.setOff STO_STATUS_READY
        |>.drivesOff
      let s3 : State := { s2 with time := { s2.time with rtcSec := rtc } }
      s3
    else s.setPwr p)

/-! The test access port (R389). -/

/-- The 8-bit instruction register of the test access port: all ones selects BYPASS (IEEE 1149.1); the manual gives no other
code. PRESUMED (log entry 76). -/
def State.ir (s : State) : Nat := if s.tap = 0 then 0xFF else Config.tapCode s.tap % 256

/-- The debug access of R32 over the test access port is open, in test mode only (R382). -/
def State.debugOpen (s : State) : Bool := s.pwr.straps.testEn && ! s.pwr.held

/-- JTAG_INSTRUCTION: 0 BYPASS, 1 IDCODE, 2 SAMPLE/PRELOAD, 3 EXTEST, 4 EXTEST_PULSE, 5 EXTEST_TRAIN. IDCODE reads
0x1047_0A6B. In EXTEST the drive die holds every gate, low-side, brake-chopper and HLn_LEN ball off; the levels return with the next
instruction. -/
def execJtagInstruction (i : Nat) (s : State) : Host.Outcome State Fault Refusal :=
  .next (
    if i < 6 then
      let s1 : State := { s with tap := i }
      if i = 1 then s1.emit (.port "tdo" 0 [0x10470A6B])
      else if i = 3 then (s1.emit (.port "outputs" 0 [0])).lenOut
      else if s.tap = 3 then s1.lenOut
      else s1
    else s)

end Sys2Proof.Machine
end

