-- ==== Sys2Proof/Machine/BusNode.lean ====
section
/-! DEFINITION. Accesses to GLB, FLT, ACC, EVQ, RNG, the doorbell pages, the vault registers and the MSI-X table (R27,
R28, R332, R334 to R337, R342, R347, R370, R371, R373). -/

namespace Sys2Proof.Machine

/-! GLB, FLT and RNG. -/

/-- FLT_CTL written: RUN, REARM, SWAP and RELINQ. DEDUCED (log entry 53). -/
def State.fltCtlWrite (s : State) (v : Nat) : State :=
  let s1 := s.runWrite (v.testBit 0)
  let s2 := if v.testBit 1 then s1.rearm else s1
  let s3 := if v.testBit 2 then s2.swapWrite else s2
  if v.testBit 3 then s3.relinqWrite else s3

/-- The special registers of GLB and FLT written. -/
def State.fltWrite (s : State) (a v : Nat) (fs : List Field) : State :=
  if a = GLB_DRVEN_OUTEN.addr then s.outenWrite (v.testBit 0)
  else if a = GLB_PORTMAP_MAP.addr then s.portmapWrite v
  else if a = GLB_RESET_KEY.addr then s.glbReset v
  else if a = FLT_CTL_RUN.addr then s.fltCtlWrite v
  else if a = FLT_BLKRST_KEY.addr then s.blkRst (v / 2 ^ 16) (v % 32)
  else s.regWrite a v fs

/-- RNG_CTL.EN written: a 0 on a confirmed Manager or Standby is discarded. -/
def State.rngCtlWrite (s : State) (a v : Nat) : State :=
  if ¬ v.testBit 0 ∧ (s.isManager ∨ s.isStandby) then s.cfgErr a else s.putField v RNG_CTL_EN

/-- The special registers of RNG written. -/
def State.rngWrite (s : State) (a v : Nat) (fs : List Field) : State :=
  if a = RNG_CTL_EN.addr then s.rngCtlWrite a v
  else if a = RNG_STOP_NOW.addr then (if v.testBit 0 then s.nowWrite else s)
  else match ix (RNG_STOPMASK_BITS 0).addr 4 5 a with
    | some k => s.regWrite a (v &&& p0Range k) fs
    | none => match ix (RNG_STOPLVL_BITS 0).addr 4 5 a with
    | some k => s.regWrite a (v &&& p0Range k) fs
    | none => s.regWrite a v fs

/-- FLT_PIN (R317, R318): the causes present, the level driven, the pair as read back. -/
def State.fltPin (s : State) : Nat :=
  let h := s.healthy
  let (rbp, rbn) := s.pwr.pin.getD (h, ! h)
  s.pinCause % 64 * 2 ^ 8 + (if rbn then 4 else 0) + (if rbp then 2 else 0) + (if h then 1 else 0)

/-- Views of FLT and RNG; none for the other registers. -/
def State.fltRead (s : State) (a : Nat) : Option (Nat × State) :=
  if a = FLT_PIN_CAUSE.addr then some (s.fltPin, s)
  else if a = FLT_INCNEXT_VALUE.addr then some (s.node * 2048 + s.fld FLT_INCNEXT_VALUE % 2048, s)
  else if a = RNG_SERLO_SERIAL.addr then some (Config.serial % 2 ^ 32, s)
  else if a = RNG_SERHI_SERIAL.addr then some (Config.serial / 2 ^ 32 % 2 ^ 32, s)
  else none

/-! ACC and EVQ. -/

/-- The account of an ACC_CFG or EVQ entry. -/
def accEntry (a : Nat) : Option Nat :=
  if 0xD01000 ≤ a ∧ a < 0xD02000 then some ((a - 0xD01000) / 4)
  else if 0xD80000 ≤ a ∧ a < 0xD88000 then some ((a - 0xD80000) / 0x20)
  else none

/-- EVQ_CFGa written (R370): while EN = 1 only a write that clears EN may change LOG2N or VEC, and it disables the queue
whatever its LOG2N. DESIGN CHOICE (log entry 77): a LOG2N outside 6 to 16 in it leaves the field. -/
def State.evqCfgWrite (s : State) (q a v : Nat) : State :=
  let on := v.testBit 31
  let n := bits v 20 16
  let s1 := (s.putField v (EVQ_CFG_LOG2N q)).putField v (EVQ_CFG_VEC q)
  if s.flag (EVQ_CFG_EN q) ∧ ¬ on ∧ (n < 6 ∨ n > 16) then (s.putField v (EVQ_CFG_VEC q)).evqOff q
  else if n < 6 ∨ n > 16 then s.cfgErr a
  else if s.flag (EVQ_CFG_EN q) then
    if ¬ on then s1.evqOff q
    else if ¬ s.changes v [EVQ_CFG_LOG2N q, EVQ_CFG_VEC q] then s
    else s.cfgErr a
  else if on then s1.evqOn q
  else s1

/-- A word of queue `q`, at `r` in its 32 bytes. -/
def State.evqWrite (s : State) (q r a v : Nat) (fs : List Field) : State :=
  if r = 0x00 ∨ r = 0x04 then
    (if (r = 0x00 ∧ v % 4096 ≠ 0) ∨ (s.flag (EVQ_CFG_EN q) ∧ s.changes v fs) then s.cfgErr a
     else s.regWrite a v fs)
  else if r = 0x08 then s.evqCfgWrite q a v
  else if r = 0x14 then s.evqHead q v
  else s.regWrite a v fs

/-- The registers of ACC, MBX and EVQ written. A vault account's entries need vault authority (R334); an account that is
disabled times out the command on its page at once (R338). -/
def State.accWrite (s : State) (o : Origin) (a v : Nat) (fs : List Field) : State :=
  let barred : Bool := match accEntry a with
    | some n => s.namesVault o n
    | none => false
  if barred then s.cfgErr a
  else if a = ACC_RST_KEY.addr then s.accRst (v / 2 ^ 16) (v % 1024) o.isVault
  else if 0xD80000 ≤ a ∧ a < 0xD88000 then s.evqWrite ((a - 0xD80000) / 0x20) (a % 0x20) a v fs
  else match ix (ACC_CFG_EN 0).addr 4 1024 a with
    | some n =>
      let s1 := s.regWrite a v fs
      if s1.flag (ACC_CFG_EN n) then s1 else s1.mailboxTimeout n
    | none => s.regWrite a v fs

/-- A vault account's ACC and EVQ entries read 0 without vault authority; none for what reads as it stands. -/
def State.accRead (s : State) (o : Origin) (a : Nat) : Option (Nat × State) :=
  match accEntry a with
  | some n => if s.namesVault o n then some (0, s) else none
  | none => none

/-! Doorbell pages (R336, R337). -/

/-- MBWk written: a busy channel discards it. -/
def State.mbwWrite (s : State) (acct k v : Nat) : State :=
  if s.flag (MBCTL_GO acct) then s.mbxViol acct 1 else { s with mbw := tabSet 0 s.mbw (acct * 16 + k) (v % 2 ^ 32) }

/-- MBCTL written: while busy it changes nothing, and counts when its CMD differs from the one in flight. -/
def State.mbctlWrite (s : State) (acct v : Nat) : State :=
  if s.flag (MBCTL_GO acct) then (if bits v 23 16 = s.fld (MBCTL_CMD acct) then s else s.mbxViol acct 1)
  else
    let s1 := s.putField v (MBCTL_CMD acct)
    if v.testBit 31 then s1.mbGo acct else s1

/-- A word of a doorbell page written. -/
def State.pageWrite (s : State) (acct r v : Nat) : State :=
  if r < 0x40 then s.mbwWrite acct (r / 4) v
  else if r = 0x40 then s.mbctlWrite acct v
  else if 0x80 ≤ r ∧ r < 0x90 then s
  else if r = 0x100 then s.evqHead acct v
  else s.badAcc

/-- A word of a doorbell page read. -/
def State.pageRead (s : State) (acct r : Nat) : Nat × State :=
  if r < 0x40 then (tabGet 0 s.mbw (acct * 16 + r / 4), s)
  else if r = 0x40 then
    (s.regRead [MBCTL_GO acct, MBCTL_DONE acct, MBCTL_TIMEOUT acct, MBCTL_TAKEN acct, MBCTL_CMD acct], s)
  else if 0x80 ≤ r ∧ r < 0x90 then
    (if s.flag (MBCTL_DONE acct) then tabGet 0 s.mbr (acct * 4 + (r - 0x80) / 4) else 0, s)
  else if r = 0x100 then (s.fld (EVQ_HEAD_HEAD acct), s)
  else (0, s.badAcc)

/-! MSI-X (R347): a message held back by its mask leaves when the mask is cleared. -/

/-- The mask of a vector written. PRESUMED (log entry 8). -/
def State.msixMask (s : State) (vec : Nat) (on : Bool) : State :=
  let s1 := s.setBool (MSIX_CTRL_MASK vec) on
  if ¬ on ∧ s.fbit (MSIX_PBA_PENDING (vec / 32)) (vec % 32) then
    (s1.clrFbit (MSIX_PBA_PENDING (vec / 32)) (vec % 32)).emit (.msix vec)
  else s1

/-- A word of BAR4 written. DEDUCED (log entry 61). -/
def State.msixWrite (s : State) (a v : Nat) (fs : List Field) : State :=
  match ix (MSIX_CTRL_MASK 0).addr 16 2048 a with
  | some vec => s.msixMask vec (v.testBit 0)
  | none => s.regWrite a v fs

/-! Vault registers written, but for VLT_ALIASDATA. -/

/-- VLT_ALIASADDR: a BAR0 offset below 0x0100_0000, word aligned. -/
def State.aliasAddrWrite (s : State) (a v : Nat) (fs : List Field) : State :=
  if v ≥ 0x1000000 ∨ v % 4 ≠ 0 then s.cfgErr a else s.regWrite a v fs

/-- VLT registers. -/
def State.vltWrite (s : State) (a v : Nat) (fs : List Field) : State :=
  match ix (VLT_MEMBERS_ACCTS 0).addr 4 2 a with
  | some h => s.membersWrite h v
  | none =>
    if a = VLT_ALIASADDR_ADDR.addr then s.aliasAddrWrite a v fs
    else if a = VLT_CTL_COMMITRB.addr then (if v.testBit 0 then s.commitRollback else s)
    else s.regWrite a v fs

end Sys2Proof.Machine
end

