-- ==== Sys2Proof/Machine/BusTim.lean ====
section
/-! DEFINITION. Accesses to TIM and CLD with behaviour of their own (R39, R54, R56, R58, R59). -/

namespace Sys2Proof.Machine

/-- A frame images at a station anywhere on the press: the published position lies in a window there. -/
def State.imagesAt (s : State) (stn : Nat) : Bool :=
  s.esc.slots.any fun e => e.2.winFrom stn * 2 ^ 16 ≤ s.wpos && s.wpos < e.2.winTo stn * 2 ^ 16

/-- A write of an offset or drum arc (R39): on the Manager with the web at rest, no frame imaging at the station and no
run open (R123), or on an Unconfirmed node. The Manager distributes it. -/
def State.offsetWrite (s : State) (a v stn : Nat) (fs : List Field) : State :=
  if s.role = 0 ∨ (s.isManager ∧ s.fld TIM_VEL_VEL = 0 ∧ ¬ s.imagesAt stn ∧ ¬ s.esc.runOpen) then
    ((s.regWrite a v fs).escGeometry).configPair a fs
  else s.cfgErr a

/-- Each timer of a mask below `n` is armed, or disarmed. DESIGN CHOICE (log entry 59). -/
def State.eachTimer (f : State → Nat → State) (mask : Nat) (s : State) : Nat → State
  | 0 => s
  | n + 1 => (if mask.testBit n then f s n else s).eachTimer f mask n

/-- A write of CLD_TMRCTL: DISARM wins over ARM (R51, R59). -/
def State.tmrctlWrite (s : State) (v : Nat) : State :=
  let dis := bits v 23 16
  let arm := bits v 7 0
  let s1 := (s.putField v CLD_TMRCTL_WERR).putField v CLD_TMRCTL_FIRED
  let s2 := s1.eachTimer State.timerDisarm dis 8
  s2.eachTimer State.timerArm (arm ^^^ (arm &&& dis)) 8

/-- A deadline word written while its timer is armed is discarded with WERR (R59). -/
def State.deadlineWrite (s : State) (a v n : Nat) (fs : List Field) : State :=
  if s.timerArmed n then s.setOn CLD_TMRCTL_WERR else s.regWrite a v fs

/-- The special registers of TIM and CLD written. -/
def State.timWrite (s : State) (a v : Nat) (fs : List Field) : State :=
  let moving : Bool := s.fld TIM_RAWVEL_VEL ≠ 0
  if a = TIM_CFG_MASTER.addr then (if moving then s.cfgErr a else s.regWrite a v fs)
  else if a = TIM_ENCSCALE_SCALE.addr then
    (if moving ∨ v % 2 ^ 32 = 0 then s.cfgErr a else s.regWrite a v fs)
  else if a = CLD_COMMIT_GO.addr then (if v.testBit 0 then s.cldCommit else s)
  else if a = CLD_TMRCTL_ARM.addr then s.tmrctlWrite v
  else match ix (TIM_ENCCFG_EN 0).addr 4 4 a with
  | some n =>
    if n = s.fld TIM_CFG_MASTER ∧ s.flag (TIM_ENCCFG_EN n) ∧ moving then s.cfgErr a else s.regWrite a v fs
  | none => match ix (TIM_STOFF_LINES 0).addr 4 16 a with
  | some n => s.offsetWrite a v n fs
  | none => match ix (TIM_DRUMARC_LINES 0).addr 4 16 a with
  | some n => s.offsetWrite a v n fs
  | none => match ix (CLD_TMRLO_DL 0).addr 8 8 a with
  | some n => s.deadlineWrite a v n fs
  | none => match ix (CLD_TMRHI_DL 0).addr 8 8 a with
  | some n => s.deadlineWrite a v n fs
  | none => s.regWrite a v fs

/-- TIM_WPOSLO read: it captures TIM_WPOSHI (R56). -/
def State.readWpos (s : State) : Nat × State :=
  (s.wpos % 2 ^ 32, s.setPos { s.pos with capWpos := s.wpos / 2 ^ 32 })

/-- TIM_HWMLO read: it captures TIM_HWMHI (R56). -/
def State.readHwm (s : State) : Nat × State :=
  (s.fld TIM_HWMLO_HWM, s.setPos { s.pos with capHwm := s.fld TIM_HWMHI_HWM })

/-- CLD_DATE read: date, time and nanoseconds are captured at one instant (R56). -/
def State.readDate (s : State) : Nat × State :=
  let c := calWords s.time.sec s.time.ns
  (c.1, s.setPos { s.pos with capDate := c })

/-- CLD_WTLO read: it captures CLD_WTHI (R56). -/
def State.readWall (s : State) : Nat × State :=
  (s.wall % 2 ^ 32, s.setPos { s.pos with capWall := s.wall / 2 ^ 32 % 2 ^ 32 })

/-- PTP_GMIDLO read: it captures PTP_GMIDHI (R371). -/
def State.readGmid (s : State) : Nat × State :=
  (s.fld PTP_GMIDLO_ID, { s with time := { s.time with capGm := s.fld PTP_GMIDHI_ID } })

/-- PTP registers read: the grandmaster's identity in two halves of one instant (R371). -/
def State.ptpRead (s : State) (a : Nat) : Option (Nat × State) :=
  if a = PTP_GMIDLO_ID.addr then some s.readGmid
  else if a = PTP_GMIDHI_ID.addr then some (s.time.capGm, s)
  else none

/-- Registers of TIM and CLD that are views of the node's position and time; none for the others. -/
def State.timRead (s : State) (a : Nat) : Option (Nat × State) :=
  if a = TIM_WPOSLO_WPOS.addr then some s.readWpos
  else if a = TIM_WPOSHI_WPOS.addr then some (s.pos.capWpos, s)
  else if a = TIM_HWMLO_HWM.addr then some s.readHwm
  else if a = TIM_HWMHI_HWM.addr then some (s.pos.capHwm, s)
  else if a = CLD_DATE_YEAR.addr then some s.readDate
  else if a = CLD_TIME_HOUR.addr then some (s.pos.capDate.2.1, s)
  else if a = CLD_NS_NS.addr then some (s.pos.capDate.2.2, s)
  else if a = CLD_WTLO_WT.addr then some s.readWall
  else if a = CLD_WTHI_WT.addr then some (s.pos.capWall, s)
  else none

/-! Commands. What a read returns leaves the node. -/

/-- The answer to a read. -/
def State.answerRead (_s : State) (a : Nat) (r : Nat × State) : State := r.2.emit (.port "read" a [r.1])

/-- TIM_WPOSLO_READ (R56). -/
def execTimWposloRead (s : State) : Host.Outcome State Fault Refusal :=
  .next (if s.isOff then s else s.answerRead TIM_WPOSLO_WPOS.addr s.readWpos)

/-- TIM_HWMLO_READ (R56). -/
def execTimHwmloRead (s : State) : Host.Outcome State Fault Refusal :=
  .next (if s.isOff then s else s.answerRead TIM_HWMLO_HWM.addr s.readHwm)

/-- CLD_DATE_READ (R56). -/
def execCldDateRead (s : State) : Host.Outcome State Fault Refusal :=
  .next (if s.isOff then s else s.answerRead CLD_DATE_YEAR.addr s.readDate)

/-- CLD_WTLO_READ (R56). -/
def execCldWtloRead (s : State) : Host.Outcome State Fault Refusal :=
  .next (if s.isOff then s else s.answerRead CLD_WTLO_WT.addr s.readWall)

end Sys2Proof.Machine
end

