-- ==== Sys2Proof/Machine/Scan.lean ====
section
/-! DEFINITION. The commands of scan timing: SOS and EOS edges (R147 to R151), profiles (R156), the pixel PLL (R159). -/

namespace Sys2Proof.Machine

/-! Facets (R149). -/

/-- The next facet of the polygon. -/
def State.nextFacet (s : State) (n : Nat) : State :=
  let c := s.scanP n
  if s.flag (SCN_CFG_FACETSRC n) ∧ c.index then
    ((s.setScan n { c with index := false }).setFld (SCN_STAT_FACET n) 0).setOn (SCN_STAT_FACETOK n)
  else s.setFld (SCN_STAT_FACET n) (s.fld (SCN_STAT_FACET n) + 1)

/-- Eight averages written to the signature window. -/
def State.writeSig (s : State) (n : Nat) (sums : Tab Nat) : Nat → State
  | 0 => s
  | f + 1 => (s.setFld (SCN_SIG_INT (8 * n + f)) (tabGet 0 sums f / 256)).writeSig n sums f

/-- The signature is learned from 256 revolutions after the first lock. -/
def State.learnSig (s : State) (n ival : Nat) : State :=
  let c := s.scanP n
  if c.learned ∨ ¬ s.flag (SCN_STAT_LOCKED n) then s
  else
    let f := (s.fld (SCN_STAT_FACET n) + 7) % 8
    let sums := tabSet 0 c.learn f (tabGet 0 c.learn f + ival)
    if c.learnN + 1 < 2048 then s.setScan n { c with learn := sums, learnN := c.learnN + 1 }
    else (s.writeSig n sums 8).setScan n { c with learn := [], learnN := 0, learned := true }

/-- The summed error of the last intervals, newest first, against the signature with the present facet `r`. -/
def State.sigErr (s : State) (n r k : Nat) : List Nat → Nat
  | [] => 0
  | v :: vs =>
    let g := s.fld (SCN_SIG_INT (8 * n + (r + 15 - k) % 8))
    (if v < g then g - v else v - g) + s.sigErr n r (k + 1) vs

/-- The best rotation and the two lowest errors, over rotations `r − 1` down to 0. -/
def State.bestRot (s : State) (n : Nat) (ivals : List Nat) : Nat → Nat × Nat × Nat
  | 0 => (0, 2 ^ 64, 2 ^ 64)
  | r + 1 =>
    let (b, e1, e2) := s.bestRot n ivals r
    let e := s.sigErr n r 0 ivals
    if e < e1 then (r, e, e1) else (b, e1, min e e2)

/-- At a later lock the measured intervals are matched against all rotations of the signature. -/
def State.matchSig (s : State) (n : Nat) : State :=
  let c := s.scanP n
  if ¬ c.learned ∨ c.matching = 0 ∨ s.flag (SCN_CFG_FACETSRC n) then s
  else
    let s1 := s.setScan n { c with matching := c.matching - 1 }
    if c.matching > 1 then s1
    else
      let (r, e1, e2) := s1.bestRot n c.ivals 8
      if 2 * e1 < e2 then (s1.setFld (SCN_STAT_FACET n) r).setOn (SCN_STAT_FACETOK n)
      else (s1.setOff (SCN_STAT_FACETOK n)).raise 5 (12 + n)

/-- The sweep before an SOS has ended: an EOS that was measured and did not come is counted (R148).
DEDUCED (log entry 69). -/
def State.eosTally (s : State) (n : Nat) : State :=
  s.mapScan n fun c =>
    let missed : Bool := s.flag (SCN_CFG_EOSEN n) && ! s.flag (SCN_CFG_FACETSRC n) && c.lastTime.isSome && ! c.eosSeen
    { c with eosSeen := false, eosMissed := if missed then c.eosMissed + 1 else c.eosMissed }

/-- The record of an accepted SOS: its WPOS, its time, the interval from the previous one, the pulse width (R147). -/
def State.sosRecord (s : State) (n time width : Nat) : State :=
  let c := s.scanP n
  let ival := match c.lastTime with
    | some t => (time + 2 ^ 32 - t % 2 ^ 32) % 2 ^ 32
    | none => 0
  let s1 := s.setScan n { c with sosPos := s.wpos, lastTime := some time, ivals := (ival :: c.ivals).take 8 }
  let s2 := (s1.setFld (SCN_SOSPOSLO_WPOS n) s.wpos).setFld (SCN_SOSTIME_VALUE n) time
  let s3 := (s2.setFld (SCN_SOSINT_VALUE n) ival).setFld (SCN_SOSWID_VALUE n) width
  (((s3.calWidth n width).nextFacet n).learnSig n ival).matchSig n

/-- The strobe count and the sweep phase start at an SOS: `phase` sixty-fourths of a pixel period after the pixel edge
before it, 64 moving the start to the next edge (R157). DESIGN CHOICE (log entry 37). -/
def State.sosStrobe (s : State) (n phase : Nat) (since : Int) : State :=
  s.mapHead n fun h => { h with pp := if phase ≥ 64 then since - 1 else since, sph := phase % 64 }

/-- The instant of a pulse that SCN_CFGn.EDGE selects: its centre, its rising or its falling crossing (R147). -/
def State.edgeTime (s : State) (n rise width : Nat) : Nat :=
  match s.fld (SCN_CFG_EDGE n) with
  | 1 => rise
  | 2 => rise + width
  | _ => rise + width / 2

/-- `pp` pixel periods lie within SOSWIN of a place given in 1/65,536 period (R147). -/
def State.inSosWin (s : State) (n pp place : Nat) : Bool :=
  ((pp * 2 ^ 16 : Int) - place).natAbs ≤ s.fld (SCN_WIN_SOSWIN n) * 2 ^ 16

/-- SOS_EDGE: an SOS pulse at port n: its rising crossing and width in units of 78.125 ps, the phase of the selected
instant in its pixel period, and the pixel periods since the SOS before. A pulse longer than 4 µs (51,200 units) is no
SOS pulse; an edge of a locked port outside the window around PPS is discarded and counted (R144, R147); an accepted one
is recorded and gives the phase error (R150). DEDUCED (log entry 69). -/
def execSosEdge (n rise width phase pp : Nat) (s : State) : Host.Outcome State Fault Refusal :=
  .next (
    if s.isOff then s else
    if n ≥ 4 ∨ width > 51200 then s
    else if s.flag (SCN_STAT_LOCKED n) ∧ ¬ s.inSosWin n pp (s.fld (PLL_PPS_VALUE n)) then s.inc SCN_VIOL_COUNT
    else
      let s1 := (((s.eosTally n).sosRecord n (s.edgeTime n rise width) width).setFld (SCN_STAT_PRED n) 0).mapScan n
        fun c => { c with predInc := none }
      (s1.sosStrobe n phase 0).sosPhase n s.wpos)

/-- EOS_EDGE: an EOS pulse of `width` units of 78.125 ps, `pp` pixel periods after SOS, or the index pulse with FACETSRC = 1. An EOS outside SOSWIN around
EOSEXP is discarded and counted (R147, R149). -/
def execEosEdge (n time pp width : Nat) (s : State) : Host.Outcome State Fault Refusal :=
  .next (
    if s.isOff then s else
    if n ≥ 4 then s
    else if s.flag (SCN_CFG_FACETSRC n) then s.mapScan n fun c => { c with index := true }
    else if ¬ s.flag (SCN_CFG_EOSEN n) then s
    else if ¬ s.inSosWin n pp (s.fld (SCN_WIN_EOSEXP n) * 2 ^ 16) then s.inc SCN_VIOL_COUNT
    else
      let s1 := (s.mapScan n fun c => { c with eosSeen := true }).calWidth (4 + n) width
      match (s.scanP n).lastTime with
      | some t => s1.setFld (SCN_EOSDUR_VALUE n) ((time + 2 ^ 32 - t % 2 ^ 32) % 2 ^ 32)
      | none => s1)

/-- The WPOS of the predicted instant, half an acceptance window before the window's end. -/
def State.predictedAt (s : State) (n : Nat) : Nat :=
  s.wpos - s.fld (SCN_WIN_SOSWIN n) * 2 ^ 40 / s.fld (PLL_PPS_VALUE n)

/-- The SOS is declared lost: SOSLOST, LOCKED 0 with LOCKLOST, SCAN for a window in progress, with the incident number of
the predictions before it (R148, R151 step 4). -/
def State.sosLost (s : State) (n : Nat) : State :=
  let given := (s.scanP n).predInc
  let s1 := (s.mapScan n fun c => { c with predInc := none }).raiseWith 5 n given
  (s1.setFld (SCN_STAT_PRED n) 0).lockLost n given

/-- The first of a run of predictions draws the incident number that the loss will carry (R148, R316). -/
def State.predictNumber (s : State) (n : Nat) : State :=
  if (s.scanP n).predInc.isSome then s
  else
    let (i, s1) := s.newIncident
    s1.mapScan n fun c => { c with predInc := some i }

/-- The previous SOS moves on by the stored interval of its facet; before a signature is learned, by the last interval
measured. -/
def State.predictTime (s : State) (n : Nat) : State :=
  let c := s.scanP n
  let stored := s.fld (SCN_SIG_INT (8 * n + s.fld (SCN_STAT_FACET n)))
  let ival := if c.learned then stored else s.fld (SCN_SOSINT_VALUE n)
  s.setScan n { c with lastTime := c.lastTime.map fun t => (t + ival) % 2 ^ 32 }

/-- SOS_PREDICT: no SOS was accepted by the end of the window of a locked port: the sweep runs on a prediction, or
beyond the budget the SOS is lost (R148). -/
def execSosPredict (n phase : Nat) (s : State) : Host.Outcome State Fault Refusal :=
  .next (
    if s.isOff then s else
    if n ≥ 4 ∨ ¬ s.flag (SCN_STAT_LOCKED n) then s
    else if s.fld (SCN_STAT_PRED n) ≥ s.fld (SCN_CFG_SOSBUD n) then s.sosLost n
    else
      let s1 := (s.setFld (SCN_STAT_PRED n) (s.fld (SCN_STAT_PRED n) + 1)).inc (SCN_PREDCNT_COUNT n)
      (((((s1.predictNumber n).eosTally n).predictTime n).nextFacet n).sosStrobe n phase (s.fld (SCN_WIN_SOSWIN n))).sosPhase n (s.predictedAt n))

/-! Enabling phase lock (R151). -/

/-- PLOCKEN written. A 1 starts acquisition, which INHIBIT suspends at once and the line rate at a sweep boundary; a 0
takes effect at the next sweep boundary (R151 steps 1, 6; R152). The loop the port names must be free and of the BFP format (R262).
DEDUCED (log entry 47). -/
def State.plockWrite (s : State) (n : Nat) (on : Bool) : State :=
  let was := s.flag (SCN_CTL_PLOCKEN n)
  let s1 := s.setBool (SCN_CTL_PLOCKEN n) on
  if on ∧ ¬ was then (if ¬ s.bindOk (s.scanLoops n) then s.setOn SCN_STATUS_CFGERR else if s.inhibit then s1.loopSuspend n else s1) else s1

/-- PLOCK_ENABLE: a write of SCN_CTLn.PLOCKEN (R151). -/
def execPlockEnable (n : Nat) (on : Bool) (s : State) : Host.Outcome State Fault Refusal :=
  .next (if s.isOff then s else if n < 4 then s.plockWrite n on else s)

/-! Profiles (R156). -/

/-- The staged profile of port n: the entries below `i`. -/
def State.stagedProfile (s : State) (n : Nat) : Nat → Tab Nat
  | 0 => []
  | i + 1 => tabSet 0 (s.stagedProfile n i) i (s.fld (profB n i))

/-- Every breakpoint of the entries below `i` is within 20,971, and every neighbour of one facet within 5,243. -/
def profileOk (p : Tab Nat) : Nat → Bool
  | 0 => true
  | i + 1 =>
    let b := ofTwos 16 (tabGet 0 p i)
    let step := i % 33 = 0 ∨ (b - ofTwos 16 (tabGet 0 p (i - 1))).natAbs ≤ 5243
    decide (b.natAbs ≤ 20971) && decide step && profileOk p i

/-- PLL_PROFCTLn.COMMIT: the staged set is checked whole and waits for its sweep boundary, or is refused with
PROFERR. -/
def State.profileCommit (s : State) (n : Nat) : State :=
  let p := s.stagedProfile n 264
  if profileOk p 264 then
    (s.mapScan n fun c =>
      { c with commits := (p, s.flag (PLL_PROFCTL_PERFACET n)) :: c.commits, recent := [] :: c.recent }).setOn (PLL_PROFCTL_PEND n)
  else s.setOn (PLL_PROFCTL_PROFERR n)

/-- PROFILE_COMMIT (R156). -/
def execProfileCommit (n : Nat) (s : State) : Host.Outcome State Fault Refusal :=
  .next (if s.isOff then s else if n < 4 then s.atReg (PLL_PROFCTL_COMMIT n).addr fun s => s.profileCommit n else s)

/-! The pixel PLL (R159). -/

/-- PLL_LOSS_OF_LOCK: LOLn, LOCK 0, the entry counted, a window in progress void from the next sweep. -/
def execPllLossOfLock (n : Nat) (s : State) : Host.Outcome State Fault Refusal :=
  .next (
    if s.isOff then s else
    if n < 4 ∧ s.flag (PLL_CTL_EN n) ∧ ¬ s.heldInReset (PLL_CTL_EN n).addr then
      let s1 := ((s.setOff (PLL_CTL_LOCK n)).inc (PLL_LOLCNT_COUNT n)).raise 6 n
      s1.voidFromNext n rsScan (s1.incOf 6)
    else s)

/-- PLL_LOCK_ACQUIRED: LOCK 1; a band change is complete once the head link too has trained again (R154). -/
def execPllLockAcquired (n : Nat) (s : State) : Host.Outcome State Fault Refusal :=
  .next (
    if s.isOff then s else
    if n < 4 ∧ s.flag (PLL_CTL_EN n) ∧ ¬ s.heldInReset (PLL_CTL_EN n).addr then
      let training : Bool := s.flag (HLK_CTL_EN n) && ! s.linkUp n
      (s.setOn (PLL_CTL_LOCK n)).mapScan n fun c => { c with bandBusy := c.bandBusy && training }
    else s)

end Sys2Proof.Machine
end

