-- ==== Sys2Proof/Machine/BusScn.lean ====
section
/-! DEFINITION. Accesses to SCN, PLL, HLK, EXP, STO, MNT and PCS (R146, R155, R170, R171, R194, R195, R213 to R215). -/

namespace Sys2Proof.Machine

/-! SCN and PLL. -/

/-- R146: SOSDLY + 14,336 + SOSWIN < PPS, with PPS in 16.16. -/
def r146 (sosdly soswin pps : Nat) : Bool := (sosdly + 14336 + soswin) * 2 ^ 16 < pps

/-- Some slot's window somewhere on the press contains the published position. -/
def State.anyImaging (s : State) : Bool := (List.range 16).any s.imagesAt

/-- A write of SCN_SEAM: read-only but on the Manager. DEDUCED (log entry 36). -/
def State.seamWrite (s : State) (a v : Nat) (fs : List Field) : State :=
  let mul := bits v 25 18
  let span := bits v 17 9
  let lo := bits v 8 0
  if ¬ s.isManager then s
  else if mul % 2 = 0 ∨ span = 0 ∨ span > 320 ∨ lo + span > 320 ∨ s.anyImaging then s.cfgErr a
  else (s.regWrite a v fs).configPair a fs

/-- A register of port `n` of SCN written, at `r` in its 128 bytes. -/
def State.scnPortWrite (s : State) (n r a v : Nat) (fs : List Field) : State :=
  if r = 0x00 then ((s.putField v (SCN_CTL_SWPEN n)).putField v (SCN_CTL_SWPT n)).plockWrite n (v.testBit 0)
  else if r = 0x04 then (if s.flag (SCN_CTL_PLOCKEN n) then s.cfgErr a else s.regWrite a v fs)
  else if r = 0x0C then
    (let d := bits v 11 0
     if d < 64 ∨ d > 2048 ∨ ¬ s.portIdle n ∨ ¬ r146 d (s.fld (SCN_WIN_SOSWIN n)) (s.fld (PLL_PPS_VALUE n)) then s.cfgErr a
     else s.regWrite a v fs)
  else if r = 0x18 then
    (let w := clampN 8 1024 (bits v 10 0)
     if bits v 31 16 * 2 ^ 16 > s.fld (PLL_PPS_VALUE n)
         ∨ ¬ r146 (s.fld (SCN_SOSDLY_VALUE n)) w (s.fld (PLL_PPS_VALUE n)) then s.cfgErr a
     else (s.regWrite a v fs).setFld (SCN_WIN_SOSWIN n) w)
  else if r = 0x10 then (s.regWrite a v fs).phoffNow n
  else if r = 0x1C then (if (ofTwos 16 (bits v 15 0)).natAbs > 8192 then s.cfgErr a else s.regWrite a v fs)
  else s.regWrite a v fs

/-- A register of port `n` of PLL written, at `r` in its 64 bytes. DESIGN CHOICE (log entry 37). -/
def State.pllPortWrite (s : State) (n r a v : Nat) (fs : List Field) : State :=
  if r = 0x00 then
    (if ¬ v.testBit 0 ∧ s.portImaging n then s.cfgErr a
     else
       let s1 := s.regWrite a v fs
       if v.testBit 0 then s1 else s1.setOff (PLL_CTL_LOCK n))
  else if r = 0x04 then
    (if v < 15360 * 2 ^ 16 ∨ v > 24576 * 2 ^ 16 ∨ (s.portEn n ∧ ¬ s.portIdle n)
         ∨ ¬ r146 (s.fld (SCN_SOSDLY_VALUE n)) (s.fld (SCN_WIN_SOSWIN n)) v then s.cfgErr a
     else s.regWrite a v fs)
  else if r = 0x10 then
    (let s1 := (s.putField v (PLL_PROFCTL_PERFACET n)).putField v (PLL_PROFCTL_PROFERR n)
     if v.testBit 1 then s1.profileCommit n else s1)
  else s.regWrite a v fs

/-- The registers of SCN and PLL written. -/
def State.scnWrite (s : State) (a v : Nat) (fs : List Field) : State :=
  if a = SCN_SEAM_SEAMLO.addr then s.seamWrite a v fs
  else if 0x500100 ≤ a ∧ a < 0x500300 then s.scnPortWrite ((a - 0x500100) / 0x80) ((a - 0x500100) % 0x80) a v fs
  else if 0x501000 ≤ a ∧ a < 0x502000 then (if v.testBit 15 then s.cfgErr a else s.regWrite a v fs)
  else if 0x502000 ≤ a ∧ a < 0x502800 then
    (if (ofTwos 16 (bits v 15 0)).natAbs > 512 then s.cfgErr a else s.regWrite a v fs)
  else if a = PLL_REFCTL_SWREQ.addr then
    (let s1 := ((s.putField v PLL_REFCTL_PREF).putField v PLL_REFCTL_ARMA).putField v PLL_REFCTL_ARMB
     if v.testBit 4 then s1.swReq else s1)
  else if 0x508100 ≤ a ∧ a < 0x508200 then s.pllPortWrite ((a - 0x508100) / 0x40) ((a - 0x508100) % 0x40) a v fs
  else s.regWrite a v fs

/-! HLK and EXP. -/

/-- HLK_CTLn.LEN written: HLn_LEN follows (R185), and a 1 lifts the blanking a head model holds once it has cooled (R280). -/
def State.lenWrite (s : State) (n : Nat) (on : Bool) : State :=
  let s0 := s.setBool (HLK_CTL_LEN n) on
  let s1 := if s0.lenPorts = s.lenPorts then s0 else s0.lenOut
  let cool : Bool := (s.thermP (2 + n)).t1 / tU < s.thmLevel thmShut (2 + n) - (s.fld (THM_MTHR_HYST (2 + n)) : Int)
  if on ∧ s.plant.headHot.testBit n ∧ cool then
    s1.setPlant { s1.plant with headHot := s1.plant.headHot ^^^ 2 ^ n }
  else s1

/-- A write of HLK_CTLn; one with EN = 0 while the port images is discarded (R194). -/
def State.hlkCtlWrite (s : State) (n a v : Nat) : State :=
  if ¬ v.testBit 0 ∧ s.portImaging n then s.cfgErr a
  else ((s.putField v (HLK_CTL_SPAREEN n)).lenWrite n (v.testBit 1)).linkEnable n (v.testBit 0)

/-- The registers of HLK and EXP written. Entry 0 of an exposure table is fixed at 0 (R186). -/
def State.hlkWrite (s : State) (a v : Nat) (fs : List Field) : State :=
  match ix (HLK_CTL_EN 0).addr 0x80 4 a with
  | some n => s.hlkCtlWrite n a v
  | none => match ix (EXP_DEADTHR_HI 0).addr 0x80 4 a with
  | some _ => if bits v 31 16 ≤ bits v 15 0 then s.cfgErr a else s.regWrite a v fs
  | none => match ix (EXP_DEADCLR_ALL 0).addr 0x80 4 a with
  | some n =>
    if v.testBit 31 then s.deadClear n (2 ^ 256 - 1) else if v.testBit 8 then s.deadClear n (2 ^ (v % 256)) else s
  | none => match ix (EXP_TABLE0_W0 0).addr 0x80 4 a with
  | some _ => if v % 64 ≠ 0 then s.cfgErr a else s.regWrite a v fs
  | none => s.regWrite a v fs

/-! STO, MNT and PCS. -/

/-- An ingest is open, or a slot is released and not ended. -/
def State.storeInUse (s : State) : Bool :=
  (s.store.ingests.any fun e => e.2.isSome) || s.esc.slots.any fun e => e.2.released ≠ 0

/-- A write of STO_CTL: NDRV and MIRROR move only while EN = 0; the store comes on line when its drives have answered
(STORE_ENABLE), and goes off line at once. DEDUCED (log entry 40). -/
def State.stoCtlWrite (s : State) (a v : Nat) : State :=
  let nd := bits v 8 4
  if nd = 0 ∨ nd > 16 ∨ (v.testBit 1 ∧ nd % 2 = 1) then s.cfgErr a
  else if s.flag STO_CTL_EN then
    (if v.testBit 0 then s
     else if s.storeInUse then s.cfgErr a
     else ((s.setOff STO_CTL_EN).setOff STO_STATUS_READY).setOff STO_STATUS_LABELERR)
  else ((s.putField v STO_CTL_NDRV).putField v STO_CTL_MIRROR).putField v STO_CTL_EN

/-- The storage link trains, or trains anew at another highest speed, to a width and a speed its partner decides: free
values within the limits of the port (R212, R215). DESIGN CHOICE: it is up at once (log entry 71). -/
def State.pcsTrain (s : State) : State :=
  let (v, s1) := s.free 256
  ((s1.setFld PCS_LINK_WIDTH (2 ^ (v % 4))).setFld PCS_LINK_SPEED (1 + v / 4 % s.fld PCS_CTL_MAXSPD)).setOn PCS_LINK_UP

/-- A write of PCS_CTL: EN = 1 trains the link, EN = 0 takes it down, which an enabled store forbids (R215). -/
def State.pcsCtlWrite (s : State) (a v : Nat) (fs : List Field) : State :=
  let spd := bits v 6 4
  if spd = 0 ∨ spd > 5 ∨ (¬ v.testBit 0 ∧ s.flag STO_CTL_EN) then s.setOn STO_STATUS_CFGERR
  else
    let s1 := s.regWrite a v fs
    if ¬ v.testBit 0 then ((s1.setFld PCS_LINK_WIDTH 0).setFld PCS_LINK_SPEED 0).setOff PCS_LINK_UP
    else if s.flag PCS_CTL_EN ∧ s.fld PCS_CTL_MAXSPD = spd then s1 else s1.pcsTrain

/-- The registers of STO, MNT and PCS written. -/
def State.stoWrite (s : State) (a v : Nat) (fs : List Field) : State :=
  let on := s.flag STO_CTL_EN
  if a = STO_CTL_EN.addr then s.stoCtlWrite a v
  else if a = STO_FORMAT_KEY.addr then s.storeFormat (v / 2 ^ 16)
  else if a = STO_PFBASE_GIB.addr then
    (if on ∨ v % 32 + s.fld STO_PFSIZE_GIB > 32 then s.cfgErr a else s.regWrite a v fs)
  else if a = STO_PFSIZE_GIB.addr then
    (if on ∨ v % 32 = 0 ∨ v % 32 + s.fld STO_PFBASE_GIB > 32 then s.cfgErr a else s.regWrite a v fs)
  else if (ix (STO_NSID_NSID 0).addr 0x20 16 a).isSome then (if on then s.cfgErr a else s.regWrite a v fs)
  else if a = PCS_CTL_EN.addr then s.pcsCtlWrite a v fs
  else s.regWrite a v fs

/-- A word of the extent window (R213); a vault account's extents read 0 through BAR0. -/
def State.extentWord (s : State) (o : Origin) (i word : Nat) : Nat :=
  let e := s.extent (s.fld STO_EXTPAGE_PAGE * 4096 + i)
  if s.namesVault o e.owner then 0
  else match word with
    | 0 => e.base % 2 ^ 24
    | 1 => e.units % 2 ^ 24
    | 2 => e.state % 8 * 2 ^ 29 + e.owner % 1024
    | _ => e.refs % 2 ^ 16

/-- MNT_INMB read: original MiB since the last read, and MNT_OUTMB captured with it; a part of a MiB is carried on.
DEDUCED (log entry 40). -/
def State.readInMb (s : State) : Nat × State :=
  let mib := 2 ^ 20
  let inM := min (s.store.inBytes / mib) (2 ^ 32 - 1)
  let outM := min (s.store.outBytes / mib) (2 ^ 32 - 1)
  (inM, (s.setFld MNT_OUTMB_MB outM).setStore
    { s.store with inBytes := s.store.inBytes % mib, outBytes := s.store.outBytes % mib })

/-- Registers of these blocks that are views; none for the others. -/
def State.stoRead (s : State) (o : Origin) (a : Nat) : Option (Nat × State) :=
  if a = MNT_INMB_MB.addr then some s.readInMb
  else match ix 0x710000 4 16384 a with
    | some i => some (s.extentWord o (i / 4) (i % 4), s)
    | none => none

/-- SOS positions: a read of the low word captures the high one (R56, R170). -/
def State.scnRead (s : State) (a : Nat) : Option (Nat × State) :=
  match ix (SCN_SOSPOSLO_WPOS 0).addr 0x80 4 a with
  | some n =>
    let w := (s.scanP n).sosPos
    some (w % 2 ^ 32, s.setFld (SCN_SOSPOSHI_WPOS n) (w / 2 ^ 32))
  | none => match ix (SCN_SWEEPLO_VALUE 0).addr 0x80 4 a with
  | some n =>
    let k := (s.scanP n).sweep
    some (k % 2 ^ 32, s.setFld (SCN_SWEEPHI_VALUE n) (k / 2 ^ 32 % 256))
  | none => none

end Sys2Proof.Machine
end

