-- ==== Sys2Proof/Machine/BusTlr.lean ====
section
/-! DEFINITION. Accesses to TLR and TAU (R62, R95, R98, R99, R109): teller state, memory windows, action table,
comparator window. -/

namespace Sys2Proof.Machine

/-- TLR_STATE.STt (R95). -/
def Run.code : Run → Nat
  | .halted => 0
  | .running => 1
  | .waiting => 2
  | .trapHalted => 3

/-- TLR_STATE. -/
def State.tellerStates (s : State) : Nat :=
  (List.range 16).foldl (fun n t => n + (s.teller t).st.code * 4 ^ t) 0

/-- The byte addresses the memory windows show: TLR_PMPAGE and TLR_DMPAGE select the page of 64 KiB. -/
def State.pmAddr (s : State) (a : Nat) : Nat := s.fld TLR_PMPAGE_PAGE * 65536 + a % 65536
def State.dmAddr (s : State) (a : Nat) : Nat := s.fld TLR_DMPAGE_PAGE * 65536 + a % 65536

/-- A word of the program memory window read (R62). -/
def State.pmRead (s : State) (a : Nat) : Nat × State :=
  let p := s.pmAddr a
  let e := tabGet 0 s.pmErr (p / 4)
  if e = 2 then (0, s.raise 1 srcPmecc)
  else (memLoad s.pm p 4, if e = 1 then s.inc TLR_ECCCNT_PROG else s)

/-- A word of the data memory window read (R62). -/
def State.dmRead (s : State) (a : Nat) : Nat × State :=
  let p := s.dmAddr a
  if s.dmBad p 1 then (0, s.raise 1 srcDmecc) else (memLoad s.dm p 4, s.dmCorrected p 1)

/-- A word of the program memory window written; a protected page discards it (R95). -/
def State.pmWrite (s : State) (a v : Nat) : State :=
  let p := s.pmAddr a
  if s.pageProtected (p / 65536) then s.setOn TLR_STATUS_PMERR else s.pmPut p (leBytes 4 v)

/-- A write of TLR_ACCTt (R95). -/
def State.acctWrite (s : State) (o : Origin) (t v : Nat) : State :=
  if s.namesVault o (v % 1024) then s.setOn TLR_STATUS_VAULTERR
  else if ¬ (s.teller t).isHalted then s.setOn TLR_STATUS_CFGERR
  else s.setFld (TLR_ACCT_ACCT t) v

/-- A general or position register, FLAGS or the PC of a halted teller written (R95). -/
def State.haltedWrite (s : State) (t : Nat) (f : Teller → Teller) : State :=
  if (s.teller t).isHalted then s.mapTeller t f else s.setOn TLR_STATUS_CFGERR

/-- The low or high word of a position register replaced. -/
def Teller.setHalf (x : Teller) (k : Nat) (high : Bool) (v : Nat) : Teller :=
  let p := (x.getP k).toNat
  x.setP k (BitVec.ofNat 64 (if high then v * 2 ^ 32 + p % 2 ^ 32 else p / 2 ^ 32 * 2 ^ 32 + v))

/-- FLAGS written. -/
def Teller.setFlags (x : Teller) (v : Nat) : Teller :=
  (List.range 4).foldl (fun x k => x.setQ k (v.testBit k)) { x with tm := v.testBit 8 }

/-- FLAGS read. -/
def Teller.flags (x : Teller) : Nat :=
  (List.range 4).foldl (fun n k => if x.getQ k then n + 2 ^ k else n) (if x.tm then 256 else 0)

/-- A teller's own registers written (R95). -/
def State.tellerRegWrite (s : State) (o : Origin) (a v : Nat) (fs : List Field) : State :=
  let t := (a - 0x201000) / 0x100
  let r := a % 0x100
  let high : Bool := v / 2 ^ 22 ≠ 0
  if r ≥ 0x80 then s.haltedWrite t fun x => x.setG ((r - 0x80) / 4) (BitVec.ofNat 32 v)
  else if r ≥ 0x40 then s.haltedWrite t fun x => x.setHalf ((r - 0x40) / 8) (r % 8 = 4) v
  else if r = 0x00 then
    (if high then s.setOn TLR_STATUS_CFGERR else s.haltedWrite t fun x => { x with pc := BitVec.ofNat 32 (v / 4 * 4) })
  else if r = 0x04 then
    (if high then s.setOn TLR_STATUS_CFGERR else s.setFld (TLR_BOOT_ADDR t) (v / 4 * 4))
  else if r = 0x08 then s.acctWrite o t v
  else if r = 0x10 then (if high then s.setOn TLR_STATUS_CFGERR else s.regWrite a v fs)
  else if r = 0x14 then
    (if high ∨ ¬ (s.teller t).isHalted then s.setOn TLR_STATUS_CFGERR else s.setFld (TLR_EPC_VALUE t) (v / 4 * 4))
  else if r = 0x20 then s.mapTeller t fun x => { x with tev := x.tev &&& ~~~ BitVec.ofNat 32 v }
  else if r = 0x24 then s.mapTeller t fun x => { x with tev := x.tev ||| BitVec.ofNat 32 (v % 65536) }
  else if r = 0x30 then s.haltedWrite t fun x => x.setFlags v
  else s.regWrite a v fs

/-- A state an access may see (R60): a teller sees another's only while that one is halted. What it reads of a running
one is 0. DESIGN CHOICE (log entry 70). -/
def State.seesTeller (s : State) (o : Origin) (t : Nat) : Bool :=
  match o.teller? with
  | some u => u = t || (s.teller t).isHalted
  | none => true

/-- A word of an action-table entry written (R99): a teller only within its own bank, nobody while the comparator is
armed; else ENTERR. -/
def State.entryWrite (s : State) (who : Option Nat) (n word v : Nat) : State :=
  let own : Bool := match who with
    | some t => n / 256 = t
    | none => true
  if ¬ own ∨ (s.cmp n).armed then s.setOn TAU_STATUS_ENTERR
  else s.setFld ((TAU_ENTCTL_CTL n).up (4 * word)) v

/-- A write of TAU_P0CLR: without its key ENTERR (R109). -/
def State.p0clrWrite (s : State) (v : Nat) : State :=
  if v / 2 ^ 16 % 2 ^ 16 = 0x9C10 then (s.p0Clear (v % 32) 5).interlock 52 else s.setOn TAU_STATUS_ENTERR

/-- Writes to the window of TLR and TAU that the register map does not settle alone. -/
def State.tlrWrite (s : State) (o : Origin) (a v : Nat) (fs : List Field) : State :=
  if a = TLR_GO_T.addr then s.eachTeller (fun t s => s.tellerGo t) (v % 65536) 16
  else if a = TLR_STOP_T.addr then s.eachTeller (fun t s => s.tellerStop t) (v % 65536) 16
  else if a = TLR_RST_T.addr then
    (if v / 2 ^ 16 = 0x7E11 then s.eachTeller (fun t s => s.tellerReset t) (v % 65536) 16 else s.setOn TLR_STATUS_CFGERR)
  else if 0x201000 ≤ a ∧ a < 0x202000 then s.tellerRegWrite o a v fs
  else if 0x290000 ≤ a ∧ a < 0x2A0000 then s.entryWrite o.teller? ((a - 0x290000) / 16) (a % 16 / 4) v
  else if a = TAU_P0CLR_KEY.addr then s.p0clrWrite v
  else s.regWrite a v fs

/-- A memory window of TLR written. -/
def State.tlrMemWrite (s : State) (a v : Nat) : State :=
  if a < 0x220000 then s.pmWrite a v else s.dmStore (s.dmAddr a) 4 v

/-- A memory window of TLR read. -/
def State.tlrMemRead (s : State) (a : Nat) : Nat × State := if a < 0x220000 then s.pmRead a else s.dmRead a

/-- The flag word of a comparator (R109). -/
def Cmp.word (c : Cmp) : Nat :=
  (if c.armed then 2 ^ 31 else 0) + (if c.held then 2 ^ 30 else 0) + (if c.fired then 2 ^ 29 else 0)
    + (if c.late then 2 ^ 28 else 0) + (if c.skipped then 2 ^ 27 else 0) + (if c.dropped then 2 ^ 26 else 0)

/-- The comparator window (R109). -/
def State.cmpRead (s : State) (a : Nat) : Nat :=
  let c := s.cmp ((a - 0x2A0000) / 16)
  match a % 16 / 4 with
  | 0 => c.target % 2 ^ 32
  | 1 => c.target / 2 ^ 32
  | 2 => c.word
  | _ => c.seq % 2 ^ 32

/-- Comparators that satisfy a test. -/
def State.countCmps (s : State) (p : Cmp → Bool) : Nat := (tabKeys (fun _ c => p c) s.cmps).length

/-- Registers of TLR and TAU that are views of tellers and comparators; none for the others. -/
def State.tlrRead (s : State) (o : Origin) (a : Nat) : Option (Nat × State) :=
  let v (n : Nat) : Option (Nat × State) := some (n, s)
  if a = TLR_STATE_ST.addr then v s.tellerStates
  else if 0x201000 ≤ a ∧ a < 0x202000 then
    let t := (a - 0x201000) / 0x100
    let r := a % 0x100
    let x := if s.seesTeller o t then s.teller t else Teller.init
    if r ≥ 0x80 then v (x.getG ((r - 0x80) / 4)).toNat
    else if r ≥ 0x40 then
      v (if r % 8 = 4 then (x.getP ((r - 0x40) / 8)).toNat / 2 ^ 32 else (x.getP ((r - 0x40) / 8)).toNat % 2 ^ 32)
    else if r = 0x00 then v x.pc.toNat
    else if r = 0x20 then v x.tev.toNat
    else if r = 0x24 then v x.tev.toNat
    else if r = 0x2C then v x.cyc.toNat
    else if r = 0x30 then v x.flags
    else none
  else if 0x2A0000 ≤ a ∧ a < 0x2B0000 then v (s.cmpRead a)
  else if a = TAU_STATUS_ENTERR.addr then
    v (s.fld TAU_STATUS_ENTERR * 2 + (if s.countCmps (fun c => c.armed && c.held) = 0 then 0 else 1)
      + (if (List.range 5).all (fun k => s.fld (TAU_P0EN_BITS k) = 0) then 0 else 4))
  else if a = TAU_ARMSEQ_VALUE.addr then v (s.armSeq % 2 ^ 32)
  else if a = TAU_ARMED_VALUE.addr then v (s.countCmps fun c => c.armed)
  else none

/-! Commands. -/

/-- ACTION_ENTRY_WRITE: word 0 to 3 of entry `n`, by a teller or the host (R99). A teller whose TLR_AMASKn does not
grant the window takes the ACCESS trap of its WRR instead, when it runs (R83). -/
def execActionEntryWrite (who : Option Nat) (n word v : Nat) (s : State) : Host.Outcome State Fault Refusal :=
  .next (
    if s.isOff ∨ ¬ (n < 4096 ∧ word < 4) then s else
    match who with
    | some t =>
      let a := 0x290000 + 16 * n + 4 * word
      if s.tellerMay t a true then s.entryWrite who n word v
      else if (s.teller t).st = .running then s.trap t trAccess a
      else s
    | none => s.entryWrite who n word v)

/-- P0CLR (R109). -/
def execP0clr (v : Nat) (s : State) : Host.Outcome State Fault Refusal := .next (if s.isOff then s else s.p0clrWrite v)

end Sys2Proof.Machine
end

