-- ==== Sys2Proof/Machine/Bus.lean ====
section
/-! DEFINITION. The register bus: one access by offset, whoever makes it (R5, R19, R25 to R28), and the commands that are
accesses: REGISTER_WRITE, VLT_ALIASDATA_WRITE, the I²C port (R388), RDR and WRR (R74, R83, R84), CONFIG (R362). -/

namespace Sys2Proof.Machine

/-- Offsets of BAR0 that are implemented as windows beside the register map: position and general registers of tellers,
program and data memory, the comparator window, slots and books, locks, the slot table, extents, microstep tables and
controller memories. -/
def viewWindow (a : Nat) : Bool :=
  (0x201000 ≤ a && a < 0x202000 && a % 0x100 ≥ 0x40) || (0x210000 ≤ a && a < 0x230000)
    || (0x2A0000 ≤ a && a < 0x2B0000) || (0x310000 ≤ a && a < 0x314000) || (0x320000 ≤ a && a < 0x360000)
    || (0x380040 ≤ a && a < 0x380080) || (0x381000 ≤ a && a < 0x381400) || (0x409000 ≤ a && a < 0x409800)
    || (0x710000 ≤ a && a < 0x720000) || (0x908000 ≤ a && a < 0x90C000) || (0xA30000 ≤ a && a < 0xA40000)

/-! Reads. -/

/-- What a block shows of an offset beside its stored fields; none where the fields are all. -/
def State.viewRead (s : State) (o : Origin) (a : Nat) : Option (Nat × State) :=
  match a / 0x100000 with
  | 1 => s.timRead a
  | 2 => if 0x210000 ≤ a ∧ a < 0x230000 then some (s.tlrMemRead a) else s.tlrRead o a
  | 3 => s.ldgRead o a
  | 4 => s.escRead a
  | 5 => s.scnRead a
  | 7 => s.stoRead o a
  | 8 => s.dmaRead a
  | 9 => s.motRead a
  | 10 => s.ctlRead a
  | 11 => s.ctlRead a
  | 12 => s.fltRead a
  | 13 => s.accRead o a
  | 14 => if 0xE40000 ≤ a ∧ a < 0xE80000 then s.ptpRead a else s.fltRead a
  | _ => none

/-- A read that clears an HLK_LANEERRn while block HLK is in its grace period: the count was not zero in it, so the lane is
still audited (R302). -/
def State.noteLaneErr (s : State) (a : Nat) : State :=
  if s.blk 7 ≠ 1 then s
  else eachPort (fun n s => match ix (laneErr n 0).addr 4 13 a with
    | some l => if s.fld (laneErr n l) = 0 then s else s.mapHead n fun h => { h with graceErr := h.graceErr ||| 2 ^ l }
    | none => s) [0, 1, 2, 3] s

/-- A word read from BAR0 below the doorbell pages. -/
def State.regSpaceRead (s : State) (o : Origin) (a : Nat) : Nat × State :=
  match regAt (windowMap a) a with
  | some (_, fs) =>
    if s.heldInReset a then (0, s) else (s.viewRead o a).getD (s.regRead fs, (s.noteLaneErr a).rcClear fs)
  | none => if viewWindow a then (s.viewRead o a).getD (0, s) else (0, s.badAcc)

/-- A word read from BAR0 (R25 to R27). -/
def State.bar0Read (s : State) (o : Origin) (a : Nat) : Nat × State :=
  if a % 4 ≠ 0 then (0, s)
  else if a < 0x1000000 then s.regSpaceRead o a
  else if a < 0x1400000 then
    (let acct := (a - 0x1000000) / 0x1000
     if s.isVault acct then (0, s) else s.pageRead acct (a % 0x1000))
  else (0, s.badAcc)

/-! Writes. -/

/-- A write that its block settles. -/
def State.blockWrite (s : State) (o : Origin) (a v : Nat) (fs : List Field) : State :=
  match a / 0x100000 with
  | 0 => s.fltWrite a v fs
  | 1 => s.timWrite a v fs
  | 2 => s.tlrWrite o a v fs
  | 3 => s.ldgWrite o a v fs
  | 4 => s.escWrite o a v fs
  | 5 => s.scnWrite a v fs
  | 6 => s.hlkWrite a v fs
  | 7 => s.stoWrite a v fs
  | 8 => s.dmaWrite a v fs
  | 9 => if a < 0x980000 then s.motWrite a v fs else s.gdrWrite a v fs
  | 10 =>
    if a < 0xA40000 then s.ctlWrite a v fs
    else if a < 0xA80000 then s.hvsWrite a v fs
    else if a < 0xAC0000 then s.fusWrite a v fs
    else s.thmWrite a v fs
  | 11 => s.clbWrite o a v fs
  | 12 => s.fltWrite a v fs
  | 13 => s.accWrite o a v fs
  | 14 => s.rngWrite a v fs
  | 15 => s.stoWrite a v fs
  | _ => s

/-- Blocks whose plain registers obey a rule of the whole block: ESC by role, ACC and EVQ by account (R140, R334). -/
def blockRule (a : Nat) : Bool := (0x400000 ≤ a && a < 0x408000) || (0xD00000 ≤ a && a < 0xE00000)

/-- A write of a register of the map, by its kind. -/
def State.mapWrite (s : State) (o : Origin) (a v : Nat) (kind : RegKind) (fs : List Field) : State :=
  if blockRule a then s.blockWrite o a v fs
  else match kind with
    | .plain => if a = TIM_REREG_LINES.addr then (s.regWrite a v fs).reregMoved else s.regWrite a v fs
    | .acct => if s.namesVault o (v % 1024) then s.cfgErr a else s.regWrite a v fs
    | .enLock =>
      let locked : Bool := s.regRead fs % 2 = 1
      let s1 := s.regWrite a v (if locked then fs.filter fun f => f.lo = 0 else fs)
      if a = PTP_CFG_EN.addr then s1.ptpSwitched locked else s1
    | .special => s.blockWrite o a v fs

/-- The port whose pixel domain a register at `a` crosses into: scan timing, delays and bow, the synthesizer, exposure
(R33). -/
def pixelPort (a : Nat) : Option Nat :=
  if 0x500100 ≤ a ∧ a < 0x500300 then some ((a - 0x500100) / 0x80)
  else if 0x501000 ≤ a ∧ a < 0x502000 then some ((a - 0x501000) / 0x400)
  else if 0x502000 ≤ a ∧ a < 0x502800 then some ((a - 0x502000) / 0x200)
  else if 0x508100 ≤ a ∧ a < 0x508200 then some ((a - 0x508100) / 0x40)
  else if 0x608100 ≤ a ∧ a < 0x608300 then some ((a - 0x608100) / 0x80)
  else if 0x609000 ≤ a ∧ a < 0x60A000 then some ((a - 0x609000) / 0x400)
  else none

/-- A write of a pixel-domain parameter is remembered up to the port's next sweep boundary (R33): `s` before, `t` after. -/
def State.noteWrite (s : State) (a : Nat) (fs : List Field) (t : State) : State :=
  match pixelPort a with
  | none => t
  | some n =>
    let ch := (fs.filter fun f => f.acc = .rw && s.fld f ≠ t.fld f).map fun f => (f, s.fld f)
    if ch.isEmpty then t else t.mapScan n fun c => { c with recent := ch :: c.recent }

/-- A window beside the register map written. -/
def State.windowWrite (s : State) (o : Origin) (a v : Nat) : State :=
  if 0x210000 ≤ a ∧ a < 0x230000 then s.tlrMemWrite a v
  else if 0x201000 ≤ a ∧ a < 0x202000 then s.tlrWrite o a v []
  else if 0x908000 ≤ a ∧ a < 0x90C000 then s.microWrite a v
  else s

/-- A word written to BAR0 below the doorbell pages. -/
def State.regSpaceWrite (s : State) (o : Origin) (a v : Nat) : State :=
  if s.heldInReset a ∨ roWindow a then s.badAcc
  else match regAt (windowMap a) a with
    | some (kind, fs) => s.noteWrite a fs (s.mapWrite o a v kind fs)
    | none => if viewWindow a then s.windowWrite o a v else s.badAcc

/-- A word written to BAR0 (R25 to R27). A misaligned access has no effect (R5). -/
def State.bar0Write (s : State) (o : Origin) (a v : Nat) : State :=
  if a % 4 ≠ 0 then s
  else if a < 0x1000000 then s.regSpaceWrite o a (v % 2 ^ 32)
  else if a < 0x1400000 then
    (let acct := (a - 0x1000000) / 0x1000
     if s.isVault acct then s.badAcc else s.pageWrite acct (a % 0x1000) (v % 2 ^ 32))
  else s.badAcc

/-- VLT_ALIASDATA written: the BAR0 write at ADDR, with vault authority (R373). DEDUCED (log entry 22). -/
def State.aliasWrite (s : State) (v : Nat) : State := s.bar0Write .vault (s.fld VLT_ALIASADDR_ADDR) v

/-- A word written to BAR2 (R27, R373): doorbell pages of vault accounts, aliases of their entries, vault registers.
DEDUCED (log entry 22). -/
def State.bar2Write (s : State) (a v : Nat) : State :=
  if a % 4 ≠ 0 then s
  else if a < 0x40000 then (if s.isVault (a / 0x1000) then s.pageWrite (a / 0x1000) (a % 0x1000) (v % 2 ^ 32) else s.badAcc)
  else match ix 0x50000 4 64 a with
    | some n => if s.isVault n then s.bar0Write .vault (0xD01000 + 4 * n) v else s.badAcc
    | none => match ix 0x60000 4 512 a with
    | some i => if s.isVault (i / 8) then s.bar0Write .vault (0xD80000 + 4 * i) v else s.badAcc
    | none =>
      if a + 0x10000000 = VLT_ALIASDATA_DATA.addr then s.aliasWrite v
      else match regAt vltMap (a + 0x10000000) with
        | some (_, fs) => s.vltWrite (a + 0x10000000) (v % 2 ^ 32) fs
        | none => s.badAcc

/-- A word read from BAR2 (R26, R27, R373): doorbell pages of vault accounts, their aliases, vault registers; ALIASDATA
returns the register at ADDR. -/
def State.bar2Read (s : State) (a : Nat) : Nat × State :=
  if a % 4 ≠ 0 then (0, s)
  else if a < 0x40000 then (if s.isVault (a / 0x1000) then s.pageRead (a / 0x1000) (a % 0x1000) else (0, s.badAcc))
  else match ix 0x50000 4 64 a with
    | some n => if s.isVault n then s.bar0Read .vault (0xD01000 + 4 * n) else (0, s.badAcc)
    | none => match ix 0x60000 4 512 a with
    | some i => if s.isVault (i / 8) then s.bar0Read .vault (0xD80000 + 4 * i) else (0, s.badAcc)
    | none =>
      if a + 0x10000000 = VLT_ALIASDATA_DATA.addr then s.bar0Read .vault (s.fld VLT_ALIASADDR_ADDR)
      else match regAt vltMap (a + 0x10000000) with
        | some (_, fs) => (s.regRead fs, s.rcClear fs)
        | none => (0, s.badAcc)

/-- A word written to BAR4 (R347). -/
def State.bar4Write (s : State) (a v : Nat) : State :=
  match regAt msixMap (a + 0x20000000) with
  | some (_, fs) => s.msixWrite (a + 0x20000000) (v % 2 ^ 32) fs
  | none => s

/-- A word the host writes at an offset of a BAR; a request beyond the BARs is unsupported (R347). DEDUCED (log entry 10). -/
def State.hostWrite (s : State) (bar a v : Nat) : State :=
  match bar with
  | 0 => if a < 0x2000000 then s.bar0Write .host a v else s.unsupported bar a
  | 2 => if a < 0x100000 then s.bar2Write a v else s.unsupported bar a
  | 4 => if a < 0x10000 then s.bar4Write a v else s.unsupported bar a
  | _ => s.unsupported bar a

/-- A word the host reads at an offset of a BAR (R5, R25). A misaligned read, or one of no window, gives 0.
DEDUCED (log entry 10). -/
def State.hostRead (s : State) (bar a : Nat) : Nat × State :=
  match bar with
  | 0 => if a < 0x2000000 then s.bar0Read .host a else (0, s.unsupported bar a)
  | 2 => if a < 0x100000 then s.bar2Read a else (0, s.unsupported bar a)
  | 4 =>
    match regAt msixMap (a + 0x20000000) with
    | some (_, fs) => (s.regRead fs, s)
    | none => (0, if a < 0x10000 then s else s.unsupported bar a)
  | _ => (0, s.unsupported bar a)

/-! Commands of the host and the I²C port. -/

/-- REGISTER_WRITE: an aligned write with all four byte enables takes effect; one with fewer completes without effect
(R5). -/
def execRegisterWrite (bar a v be : Nat) (s : State) : Host.Outcome State Fault Refusal :=
  .next (if s.isOff then s else if be % 16 = 15 then s.hostAlive.hostWrite bar a v else s.hostAlive)

/-- VLT_ALIASDATA_WRITE (R373). -/
def execVltAliasdataWrite (v : Nat) (s : State) : Host.Outcome State Fault Refusal :=
  .next (if s.isOff then s else s.hostAlive.aliasWrite v)

/-- The target address of the I²C port: 0b10101 and the two straps (R388). In reset and in Dormant none is acknowledged.
DEDUCED (log entry 10). -/
def State.i2cAcks (s : State) (dev : Nat) : Bool := ! s.isOff && dev = 0x54 + s.pwr.straps.i2cAddr % 4

/-- I2C_WRITE: a write transfer to 7-bit address `dev`: only GLB_RESET is reached (R388). DEDUCED (log entry 10). -/
def execI2cWrite (dev a v : Nat) (s : State) : Host.Outcome State Fault Refusal :=
  .next (if ¬ s.i2cAcks dev then s else if a = GLB_RESET_KEY.addr then s.glbReset (v % 2 ^ 32) else s.badAcc)

/-- I2C_READ: a read transfer from 7-bit address `dev`: BAR0 below 0x0100_0000 (R388). DEDUCED (log entry 10). -/
def execI2cRead (dev a : Nat) (s : State) : Host.Outcome State Fault Refusal :=
  .next (
    if ¬ s.i2cAcks dev then s
    else if a % 4 ≠ 0 ∨ a ≥ 0x1000000 then s.badAcc
    else s.answerRead a (s.bar0Read .i2c a))

/-! RDR and WRR. -/

/-- Blocks of the teller domain: TIM, CLD, TLR, TAU, LDG, LCK, ESC, FRM and SCN (R74). -/
def tellerDomain (a : Nat) : Bool := 0x100000 ≤ a && a < 0x508000

/-- The ACCESS trap of an access outside the teller's reach (R83). -/
def State.accessTrap (s : State) (t a : Nat) (write : Bool) : Option (Nat × Nat) :=
  if s.tellerMay t a write then none else some (trAccess, a)

/-- RDR: after every earlier WRR has taken effect gd takes the register: in 6 cycles from a block of the teller domain,
else in at most 2 µs, of which the manual gives no more (R74, R84). DEDUCED (log entry 13). -/
def execRdr (t rd rs : Nat) (imm : BitVec 16) (s : State) : Host.Outcome State Fault Refusal :=
  .next (s.execD t (fun s => s.accessTrap t ((s.teller t).ea rs imm) false) fun s =>
    let a := (s.teller t).ea rs imm
    let r := s.bar0Read (.teller t) a
    if tellerDomain a then r.2.mapTeller t fun x => (x.setG rd (BitVec.ofNat 32 r.1)).adv 6
    else
      let c := r.2.free 1600
      c.2.mapTeller t fun x => (x.setG rd (BitVec.ofNat 32 r.1)).adv (c.1 + 1))

/-- WRR: the write enters the teller's queue of eight; a full queue stalls it (R84). -/
def execWrr (t rt rs : Nat) (imm : BitVec 16) (s : State) : Host.Outcome State Fault Refusal :=
  .next (s.execI t fun s =>
    let x := s.teller t
    let a := x.ea rs imm
    s.withTrap t (s.accessTrap t a true) fun s =>
      if x.wrrq.length ≥ 8 then s
      else s.mapTeller t fun x => { x with wrrq := x.wrrq ++ [(a, x.getG rt)] }.adv 1)

/-- WRR_TAKES_EFFECT: the oldest write of a teller's queue reaches its register (R84) and stands for the rest of the
teller cycle (R87); a reset that waited for it follows (R90). -/
def execWrrTakesEffect (t : Nat) (s : State) : Host.Outcome State Fault Refusal :=
  .next (
    if t ≥ 16 ∨ s.isOff then s
    else match (s.teller t).wrrq with
      | [] => s
      | (a, v) :: q =>
        (({ s with wrrNow := s.wrrNow ++ [(t, a, v.toNat)] }.mapTeller t fun x => { x with wrrq := q }).bar0Write
          (.teller t) a v.toNat).tellerResetDue t)

/-! CONFIG (R362). -/

/-- Registers of TIM and SCN the Manager distributes. -/
def isConfig (a : Nat) : Bool :=
  (0x100100 ≤ a && a < 0x100180) || a = SCN_SEAM_SEAMLO.addr

/-- The Standby's escrow follows the Manager's ESC_CTL: a run opens, ends, or is to stop (R138, R140). `was`: RUN
before. DEDUCED (log entry 33). -/
def State.runFollow (s : State) (was : Bool) : State :=
  if ¬ s.isStandby then s
  else
    let on := s.flag ESC_CTL_RUN
    let s1 := if on && ! was && ! s.esc.runOpen then s.runOpenAt
      else if was && ! on then s.setEsc { s.esc with runOpen := false, prev := none }
      else s
    s1.setEsc { s1.esc with stopReq := s1.flag ESC_CTL_STOP }

/-- A word of ESC as the Manager distributes it: every field of the register but ESC_STATUS.CFGERR (R140).
DEDUCED (log entry 33). -/
def State.escTake (s : State) (a v : Nat) : State :=
  match regAt (windowMap a) a with
  | some (_, fs) =>
    ((fs.filter fun f => f ≠ ESC_STATUS_CFGERR).foldl (fun s f => s.setFld f (f.part v)) s).runFollow
      (s.flag ESC_CTL_RUN)
  | none => s

/-- A pair of a correction reaches a Worker: it corrects the drum axes bound to the station or the delays of its ports
(R294). -/
def State.regTake (s : State) (a v : Nat) : Option State :=
  match ix (CLB_REGERR_RP 0).addr 4 16 a with
  | some stn => some (s.process stn (ofTwos 32 v) (List.range 4))
  | none => match ix (CLB_REGRES_RES 0).addr 4 16 a with
  | some stn => some (s.lateral (ofTwos 32 v) (s.portsOf stn))
  | none => none

/-- One pair takes effect: the distributed copy of a register, or the module position P of a station (R127).
DEDUCED (log entry 32). -/
def State.configTake (s : State) (p : Nat × Nat) : State :=
  if s.isWorker ∧ (s.regTake p.1 p.2).isSome then (s.regTake p.1 p.2).getD s
  else if isConfig p.1 then
    match regAt (windowMap p.1) p.1 with
    | some (_, fs) => fs.foldl (fun s f => s.putField p.2 f) s
    | none => s
  else if p.1 ≠ ESC_VOIDREQ_SLOT.addr ∧ escShared.contains p.1 then s.escTake p.1 p.2
  else match ix (cfgModPos 0) 4 16 p.1 with
    | some n => s.setEsc { s.esc with modPos := tabSet 0 s.esc.modPos n p.2 }
    | none => s

/-- CONFIG: a node other than the Manager takes the pairs, at most 16; the frame goes on (R362). -/
def execConfig (h : Hdr) (pairs : List (Nat × Nat)) (s : State) : Host.Outcome State Fault Refusal :=
  .next (s.onFrame h (.config pairs) fun s =>
    if s.isManager then s else ((pairs.take 16).foldl State.configTake s).escGeometry)

end Sys2Proof.Machine
end

