-- ==== Sys2Proof/Machine/Tau.lean ====
section
/-! DEFINITION. The timed-action unit: evaluation of the comparators (R96, R104, R105), firing (R100), the ordered stream
(R101) and the priority-0 bypass (R102). -/

namespace Sys2Proof.Machine

/-! Action entries (R98). -/

/-- The words of comparator `n`'s entry. -/
def State.entry (s : State) (n : Nat) : Act :=
  let w (k : Nat) : Nat := s.fld ((TAU_ENTCTL_CTL n).up (4 * k))
  ⟨n, w 0, w 1, w 2, false⟩

def State.entryLevel (s : State) (n : Nat) : Nat := s.fld ((TAU_ENTCTL_CTL n).up 12)

def Act.kind (a : Act) : Nat := a.ctl % 8
def Act.latePol (a : Act) : Nat := bits a.ctl 5 4
def Act.inhPol (a : Act) : Nat := bits a.ctl 7 6
def Act.sigEn (a : Act) : Bool := a.ctl.testBit 8
def Act.p0Rel (a : Act) : Bool := a.ctl.testBit 9
def Act.sigBit (a : Act) : Nat := bits a.ctl 15 12
def Act.sigTeller (a : Act) : Nat := bits a.ctl 19 16

/-- The teller whose bank holds the comparator. -/
def Act.owner (a : Act) : Nat := a.cmp / 256

/-- Reserved fields and values, and words the kind does not use (R98, R100). -/
def Act.bad (a : Act) (level : Nat) : Bool :=
  bits a.ctl 31 20 ≠ 0 || bits a.ctl 11 10 ≠ 0 || a.ctl.testBit 3 || a.inhPol = 3 || a.latePol ≥ 2
    || (a.p0Rel && a.kind ≠ 4) || (a.sigEn && (a.kind = 0 || a.kind = 2))
    || match a.kind with
      | 1 => level ≠ 0
      | 3 => a.addr ≥ 64 || a.value ≠ 0 || level ≠ 0
      | 4 =>
        let used := p0Range a.addr
        a.addr ≥ 5 || (a.value &&& used) ≠ a.value || (level &&& used) ≠ level || (a.p0Rel && level ≠ 0)
      | 0 | 2 => a.addr ≠ 0 || a.value ≠ 0 || level ≠ 0
      | _ => true

/-- A WRITE outside what timed actions reach, or outside the owner's TLR_AMASK (R100). -/
def State.actDenied (s : State) (a : Act) : Bool :=
  a.kind = 1 && (a.addr % 4 ≠ 0 || a.addr ≥ 0xD00000 || a.addr < 0x100000 || inTlrMem a.addr
    || (0x280000 ≤ a.addr && a.addr < 0x300000) || ! s.fbit (TLR_AMASK_WIN a.owner) (a.addr / 0x100000))

/-- A firing failed: counted in a field of TAU_FAILCNT, the owner's ACTFAIL raised (R100). -/
def State.actFail (s : State) (a : Act) (count : Field) : State := (s.inc count).raise 2 a.owner

/-! Effects. -/

/-- Registers a WRITE reaches without an acknowledgement: the teller-domain blocks, MOT, GDR, HVS_SETh and HVS_CHCTLh
(R101). -/
def fastWrite (a : Nat) : Bool :=
  tellerDomain a || (0x900000 ≤ a && a < 0xA00000)
    || (List.range 16).any fun h => a = (HVS_SET_SET h).addr || a = (HVS_CHCTL_EN h).addr

/-- The action waits at the front of the stream for an acknowledgement. DESIGN CHOICE (log entry 16). -/
def Act.slow (a : Act) : Bool := a.kind = 1 && ! fastWrite a.addr && ! a.acked

/-- The teller signal of SIGNAL and SIGEN. -/
def State.actSignal (s : State) (a : Act) : State :=
  if a.kind = 2 ∨ a.sigEn then s.setTev a.sigTeller a.sigBit else s

/-- A register with a field that acts as it is written: one write of it cannot be taken twice.
DESIGN CHOICE (log entry 70). -/
def oneShot (a : Nat) : Bool :=
  match regAt (windowMap a) a with
  | some (_, fs) => fs.any fun f => f.acc = .w1s || f.acc = .wo
  | none => true

/-- A timed-action write. The WRR writes of the same teller cycle to the same register count as later: the register takes
them again (R87). DESIGN CHOICE (log entry 70). -/
def State.actWrite (s : State) (owner a v : Nat) : State :=
  let s1 := s.bar0Write (.action owner) a v
  if oneShot a then s1
  else (s.wrrNow.filter fun w => w.2.1 = a).foldl (fun s w => s.bar0Write (.teller w.1) w.2.1 w.2.2) s1

/-- An action would come after a WRR of the same teller cycle at a register that acts as it is written: it takes effect in
the next cycle, so that the two do not meet (R87). DESIGN CHOICE (log entry 70). -/
def State.actYields (s : State) (a : Act) : Bool :=
  a.kind = 1 && oneShot a.addr && s.wrrNow.any fun w => w.2.1 = a.addr

/-- An action takes effect; its signal follows (R98). DEDUCED (log entry 15). -/
def State.act (s : State) (a : Act) : State :=
  (match a.kind with
    | 1 => s.actWrite a.owner a.addr a.value
    | 3 => s.dmaTrigAct a.addr
    | _ => s).actSignal a

/-- Actions at the front of the stream that wait for nothing take effect (R101). -/
def State.drain (s : State) : Nat → State
  | 0 => s
  | fuel + 1 =>
    match s.stream with
    | [] => s
    | a :: rest => if a.slow ∨ s.actYields a then s else ({ s with stream := rest }.act a).drain fuel

/-- Every action that can take effect does so; the stream holds at most one entry per comparator.
DESIGN CHOICE (log entry 16). -/
def State.drainStream (s : State) : State := s.drain s.stream.length

/-- A comparator fires: its entry is checked; a P0 force acts at once, the other kinds join the stream (R100 to R102). -/
def State.fire (s : State) (n : Nat) (late : Bool) : State :=
  let c := s.cmp n
  let s0 := s.setCmp n { c with armed := false, held := false, fresh := false, fired := true, late := late }
  let s1 := if late then s0.inc TAU_LATECNT_COUNT else s0
  let a := s1.entry n
  if a.bad (s1.entryLevel n) then s1.actFail a TAU_FAILCNT_BADENT
  else if s1.actDenied a then s1.actFail a TAU_FAILCNT_ACCESS
  else match a.kind with
    | 0 => s1
    | 4 => (s1.p0Apply a.addr a.value (s1.entryLevel n) a.p0Rel).actSignal a
    | _ => { s1 with stream := s1.stream ++ [a] }

/-! Evaluation. -/

/-- A crossed comparator's outcome: INHPOL first where INHIBIT is set, then LATEPOL in its first evaluation (R104,
R105). A reserved LATEPOL fires, and fails, without the LATE mark. DEDUCED (log entry 15), DESIGN CHOICE (log entry
70). -/
def State.cross (s : State) (n : Nat) : State :=
  let c := s.cmp n
  let a := s.entry n
  if s.inhibit ∧ a.inhPol = 0 then
    (s.setCmp n { c with armed := false, fresh := false, skipped := true }).inc TAU_SKIPCNT_COUNT
  else if s.inhibit ∧ a.inhPol = 1 then s.setCmp n { c with fresh := false, held := true }
  else if c.fresh ∧ a.latePol = 1 then
    (s.setCmp n { c with armed := false, fresh := false, dropped := true }).inc TAU_DROPCNT_COUNT
  else s.fire n (c.fresh && a.latePol = 0)

/-- Target order, then arming order (R101). -/
def Cmp.before (a b : Cmp) : Bool := a.target < b.target || (a.target = b.target && a.seq < b.seq)

/-- Comparator `n` put into its place. -/
def State.putOrdered (s : State) (n : Nat) : List Nat → List Nat
  | [] => [n]
  | m :: ms => if (s.cmp n).before (s.cmp m) then n :: m :: ms else m :: s.putOrdered n ms

/-- Comparators in the order in which they fire. -/
def State.inOrder (s : State) (ns : List Nat) : List Nat := ns.foldl (fun l n => s.putOrdered n l) []

/-- The comparators that are held. -/
def State.heldCmps (s : State) : List Nat := s.inOrder (tabKeys (fun _ c => c.armed && c.held) s.cmps)

/-- The comparators crossed at the published WPOS and not yet held. -/
def State.crossedCmps (s : State) : List Nat :=
  s.inOrder (tabKeys (fun _ c => c.armed && ! c.held && c.target ≤ s.wpos) s.cmps)

/-- Held comparators fire as soon as INHIBIT is clear (R105). -/
def State.fireHeld (s : State) : State :=
  if s.inhibit then s else s.heldCmps.foldl (fun s n => s.fire n false) s

/-- An evaluation has taken place: no comparator's next one is its first (R104). -/
def State.evaluated (s : State) : State :=
  (tabKeys (fun _ c => c.armed && c.fresh) s.cmps).foldl (fun s n => s.setCmp n { s.cmp n with fresh := false }) s

/-- The evaluation of a cycle whose commands name no crossing: comparators that are not crossed have had theirs. -/
def State.uncrossed (s : State) : State :=
  (tabKeys (fun _ c => c.armed && c.fresh && s.wpos < c.target) s.cmps).foldl
    (fun s n => s.setCmp n { s.cmp n with fresh := false }) s

/-- COMPARATOR_CROSSING: one evaluation of every armed comparator. Held ones go first, the P0 forces of the cycle are one
update for the interlock, and the stream drains (R96, R101, R102, R105). -/
def execComparatorCrossing (s : State) : Host.Outcome State Fault Refusal :=
  .next (
    if s.isOff then s
    else
      let s1 := s.fireHeld
      let s2 := (s1.crossedCmps.foldl State.cross s1).evaluated
      (s2.interlock 52).drainStream)

/-- HELD_COMPARATOR_FIRE: the held comparators fire in the first evaluation that sees INHIBIT clear (R105). -/
def execHeldComparatorFire (s : State) : Host.Outcome State Fault Refusal :=
  .next (if s.isOff then s else (s.fireHeld.interlock 52).drainStream)

/-- ACTION_FABRIC_ACK: the fabric write at the front of the stream is acknowledged: it takes effect, and the actions
behind it follow (R101). DESIGN CHOICE (log entry 16). -/
def execActionFabricAck (s : State) : Host.Outcome State Fault Refusal :=
  .next (
    match s.stream with
    | a :: rest =>
      if s.isOff ∨ ¬ a.slow then s
      else if s.actYields a then { s with stream := { a with acked := true } :: rest }
      else ({ s with stream := rest }.act a).drainStream
    | [] => s)

/-- ACTION_WRITE_TIMEOUT: the fabric write at the front of the stream was not acknowledged within 2 µs: it has no effect,
its firing fails, and the actions behind it follow (R100). -/
def execActionWriteTimeout (s : State) : Host.Outcome State Fault Refusal :=
  .next (
    match s.stream with
    | a :: rest =>
      if s.isOff ∨ ¬ a.slow then s
      else ({ s with stream := rest }.actFail a TAU_FAILCNT_BUSERR).drainStream
    | [] => s)

end Sys2Proof.Machine
end

