-- ==== Sys2Proof/Machine/Clock.lean ====
section
/-! DEFINITION. The clock: what one teller cycle of 1.25 ns does when no command waits. The table has no row for a tick;
DESIGN CHOICE (see the assumption log): the tick is what a step with an empty queue does. -/

namespace Sys2Proof.Machine

/-- CYC counts while a teller waits (R60); what its instructions take is added as they complete.
DEDUCED (log entry 11). -/
def State.waitCycles (s : State) : Nat → State
  | 0 => s
  | t + 1 =>
    let x := s.teller t
    (if x.st = .waiting then s.setTeller t { x with cyc := x.cyc + 1 } else s).waitCycles t

/-- Once a millisecond, 800,000 cycles, the drive die's applied copies step and the converters' references are corrected for
the die's temperature (R281, R288, R291). An ADC sample is an operand as the corrected converter gives it.
DESIGN CHOICE (log entry 2), DESIGN CHOICE (log entry 29). -/
def State.milliTick (s : State) : State :=
  let ms := s.time.cycles / 800000
  if ms = s.plant.lastMs then s else ({ s with plant := { s.plant with lastMs := ms, adcTemp := s.plant.dieTemp } }).stepDie

/-- A Standby that hears beacons and follows no stream asks for a snapshot (R322). -/
def State.standbyTick (s : State) : State :=
  if s.isStandby ∧ ¬ s.mirror.snapshot ∧ ¬ s.flag FLT_MIRSTAT_SNAPPING ∧ s.blk 18 = 0 ∧ s.pos.last.isSome then s.snapshotAsk
  else s

/-- A node without a role sends HELLO every 100 µs, 80,000 cycles (R362 step 3). DEDUCED (log entry 30). -/
def State.helloTick (s : State) : State :=
  if s.role = 0 ∧ s.fwRuns ∧ s.time.cycles % 80000 = 0 then s.ringBoth none s.helloMsg else s

/-- One teller cycle. A node that is held in reset, shut down or asleep does nothing.
DESIGN CHOICE (log entry 2), DEDUCED (log entry 15). -/
def State.clock (s : State) : State :=
  if s.isOff then s
  else
    let s1 := { s.uncrossed with wrrNow := [] }.drainStream.timeTick
    let s2 := (((s1.ilkTick.brakeTick 0).brakeTick 1).waitCycles 16).posTick.closesDue 64
    (((s2.windowsDue.milliTick.calTurn 5).audTurn 16).faultTurn 24).violsDue.standbyTick.helloTick.ptpTick.escShare

end Sys2Proof.Machine
end

