-- ==== Sys2Proof/Machine/DmaBeats.lean ====
section
/-! DEFINITION. The answers to a DMA channel's beats: data read (R220), a write acknowledged (R216, R225), and the limits
on both (R229). -/

namespace Sys2Proof.Machine

/-- The bytes of a source beat: the node's own memories and registers, or the data that came from the host or the ring;
with the state after the read. -/
def State.dmaBeatData (s : State) (sp a n : Nat) (given : List Byte) : List Byte × State :=
  if sp = 2 then
    let r := s.bar0Read .dma a
    (leBytes 4 r.1, r.2)
  else (s.dmaData sp a n given, s)

/-- DMA_READ_COMPLETE: the oldest source beat of the channel is answered; an error halts the channel (R220, R229).
DEDUCED (log entry 41). -/
def execDmaReadComplete (n : Nat) (ok : Bool) (data : List Byte) (s : State) : Host.Outcome State Fault Refusal :=
  .next (
    if s.isOff then s else
    match (s.dmaCh n).rd, (s.dmaCh n).desc with
    | a :: _, some d =>
      if s.dmaSt n = 5 then s
      else if s.dmaMemErr d.ssp a d.sw then (s.raise 1 srcDmecc).dmaHalt n 7 false
      else if ¬ ok then s.dmaHalt n 7 false
      else
        let r := s.dmaBeatData d.ssp a d.sw data
        let c := r.2.dmaCh n
        (r.2.setDma n { c with rd := c.rd.drop 1, hold := c.hold ++ r.1 }).dmaPump n
    | _, _ => s)

/-- The bytes of a destination beat reach the node's own memory or a register; those of the host's memory and of another
node left with the beat (R216). -/
def State.dmaBeatWrite (s : State) (sp a : Nat) (bs : List Byte) : State :=
  match sp with
  | 0 => { s with dram := memPut s.dram a bs }
  | 1 => { s with dm := memPut s.dm a bs }.dmFresh (a / 4 * 4) ((a % 4 + bs.length + 3) / 4)
  | 2 => s.bar0Write .dma a (ofLe bs)
  | _ => s

/-- DMA_WRITE_COMPLETE: the oldest outstanding destination beat is acknowledged: its bytes are written, and the descriptor
completes with its last beat (R216, R225). DEDUCED (log entry 41). -/
def execDmaWriteComplete (n : Nat) (s : State) : Host.Outcome State Fault Refusal :=
  .next (
    if s.isOff then s else
    match (s.dmaCh n).wr, (s.dmaCh n).desc with
    | (a, bs) :: _, some d =>
      if s.dmaSt n = 5 then s
      else
        let s1 := s.dmaBeatWrite d.dsp a bs
        let s2 := s1.setDma n { s1.dmaCh n with wr := (s1.dmaCh n).wr.drop 1 }
        (s2.dmaBeatDone n d).dmaPump n
    | _, _ => s)

/-- A read of a space that ran into its timeout: of host memory it is a completion timeout of the host port, counted in
PCH_ERRCNT and raised as CTO (R216, R369, R372). DEDUCED (log entry 41). -/
def State.spaceTimeout (s : State) (sp : Nat) : State := if sp = 3 then (s.inc PCH_ERRCNT_CTO).raise 22 1 else s

/-- DMA_TIMEOUT: an unanswered descriptor read (0), data read (1) or acknowledged write (2) halts the channel. Whether
an unacknowledged DRAM or data-memory beat took effect is open: a free value; a register write had no effect (R229).
DESIGN CHOICE (log entry 35), DEDUCED (log entry 41). -/
def execDmaTimeout (n what : Nat) (s : State) : Host.Outcome State Fault Refusal :=
  .next (
    if s.isOff then s else
    let c := s.dmaCh n
    if what = 0 ∧ c.fetching.isSome then (s.spaceTimeout c.curSp).dmaHalt n 2 true
    else if what = 1 ∧ c.rd ≠ [] then (s.spaceTimeout ((c.desc.map (·.ssp)).getD 0)).dmaHalt n 3 false
    else if what = 2 then
      match c.wr, c.desc with
      | (a, bs) :: _, some d =>
        let f := s.free 2
        (if f.1 = 0 ∨ d.dsp = 2 then f.2 else f.2.dmaBeatWrite d.dsp a bs).dmaHalt n 4 false
      | _, _ => s
    else s)

end Sys2Proof.Machine
end

