-- ==== Sys2Proof/Machine/Integer.lean ====
section
/-! DEFINITION. Integer, compare and predicate instructions: major opcodes 0x00 and 0x01 (R68, R69) and the immediate
arithmetic of R74. -/

namespace Sys2Proof.Machine

/-- An integer operation: gd := f gs gt, in a number of cycles (R68). -/
def alu (t rd rs rt cycles : Nat) (f : Word → Word → Word) (s : State) : Host.Outcome State Fault Refusal :=
  .next (s.execR t fun x => (x.setG rd (f (x.getG rs) (x.getG rt))).adv cycles)

/-- A division or remainder: 18 cycles; a zero divisor is counted in TLR_DIVZn and never traps (R68). -/
def aluDiv (t rd rs rt : Nat) (f : Word → Word → Word) (s : State) : Host.Outcome State Fault Refusal :=
  .next (s.execI t fun s =>
    let x := s.teller t
    let s1 := if x.getG rt = 0 then s.inc (TLR_DIVZ_COUNT t) else s
    s1.mapTeller t fun x => (x.setG rd (f (x.getG rs) (x.getG rt))).adv 18)

/-- A compare of two general registers into a predicate (R69). -/
def cmpG (t qd rs rt : Nat) (f : Word → Word → Bool) (s : State) : Host.Outcome State Fault Refusal :=
  .next (s.execR t fun x => (x.setQ qd (f (x.getG rs) (x.getG rt))).adv 1)

/-- A predicate operation (R69). -/
def predOp (t qd qs qt : Nat) (f : Bool → Bool → Bool) (s : State) : Host.Outcome State Fault Refusal :=
  .next (s.execR t fun x => (x.setQ qd (f (x.getQ qs) (x.getQ qt))).adv 1)

/-- A compare of two position registers, unsigned (R69). -/
def cmpP (t qd ps pt : Nat) (f : Pos → Pos → Bool) (s : State) : Host.Outcome State Fault Refusal :=
  .next (s.execR t fun x => (x.setQ qd (f (x.getP ps) (x.getP pt))).adv 1)

/-- An operation with an immediate: gd := f gs (R74). -/
def aluImm (t rd rs : Nat) (f : Word → Word) (s : State) : Host.Outcome State Fault Refusal :=
  .next (s.execR t fun x => (x.setG rd (f (x.getG rs))).adv 1)

/-- A compare with an immediate (R74). -/
def cmpImm (t qd rs : Nat) (f : Word → Bool) (s : State) : Host.Outcome State Fault Refusal :=
  .next (s.execR t fun x => (x.setQ qd (f (x.getG rs))).adv 1)

/-- ADD: gd := gs + gt. (R68) -/
def execAdd (t rd rs rt : Nat) (s : State) : Host.Outcome State Fault Refusal := 
  alu t rd rs rt 1 (fun a b => a + b) s

/-- SUB: gd := gs − gt. (R68) -/
def execSub (t rd rs rt : Nat) (s : State) : Host.Outcome State Fault Refusal := 
  alu t rd rs rt 1 (fun a b => a - b) s

/-- AND: bitwise. (R68) -/
def execAnd (t rd rs rt : Nat) (s : State) : Host.Outcome State Fault Refusal := 
  alu t rd rs rt 1 (fun a b => a &&& b) s

/-- OR: bitwise. (R68) -/
def execOr (t rd rs rt : Nat) (s : State) : Host.Outcome State Fault Refusal := 
  alu t rd rs rt 1 (fun a b => a ||| b) s

/-- XOR: bitwise. (R68) -/
def execXor (t rd rs rt : Nat) (s : State) : Host.Outcome State Fault Refusal := 
  alu t rd rs rt 1 (fun a b => a ^^^ b) s

/-- SLL: shift left by gt bits 4:0. (R68) -/
def execSll (t rd rs rt : Nat) (s : State) : Host.Outcome State Fault Refusal := 
  alu t rd rs rt 1 (shl) s

/-- SRL: logical right shift. (R68) -/
def execSrl (t rd rs rt : Nat) (s : State) : Host.Outcome State Fault Refusal := 
  alu t rd rs rt 1 (shr) s

/-- SRA: arithmetic right shift. (R68) -/
def execSra (t rd rs rt : Nat) (s : State) : Host.Outcome State Fault Refusal := 
  alu t rd rs rt 1 (sar) s

/-- MUL: low 32 bits of the product. (R68) -/
def execMul (t rd rs rt : Nat) (s : State) : Host.Outcome State Fault Refusal := 
  alu t rd rs rt 2 (fun a b => a * b) s

/-- MULH: high 32 bits of the signed product. (R68) -/
def execMulh (t rd rs rt : Nat) (s : State) : Host.Outcome State Fault Refusal := 
  alu t rd rs rt 2 (mulhS) s

/-- MULHU: high 32 bits of the unsigned product. (R68) -/
def execMulhu (t rd rs rt : Nat) (s : State) : Host.Outcome State Fault Refusal := 
  alu t rd rs rt 2 (mulhU) s

/-- MIN: signed minimum. (R68) -/
def execMin (t rd rs rt : Nat) (s : State) : Host.Outcome State Fault Refusal := 
  alu t rd rs rt 1 (minS) s

/-- MAX: signed maximum. (R68) -/
def execMax (t rd rs rt : Nat) (s : State) : Host.Outcome State Fault Refusal := 
  alu t rd rs rt 1 (maxS) s

/-- MINU: unsigned minimum. (R68) -/
def execMinu (t rd rs rt : Nat) (s : State) : Host.Outcome State Fault Refusal := 
  alu t rd rs rt 1 (minU) s

/-- MAXU: unsigned maximum. (R68) -/
def execMaxu (t rd rs rt : Nat) (s : State) : Host.Outcome State Fault Refusal := 
  alu t rd rs rt 1 (maxU) s

/-- ADDS: saturated signed sum. (R68) -/
def execAdds (t rd rs rt : Nat) (s : State) : Host.Outcome State Fault Refusal := 
  alu t rd rs rt 1 (addSat) s

/-- SUBS: saturated signed difference. (R68) -/
def execSubs (t rd rs rt : Nat) (s : State) : Host.Outcome State Fault Refusal := 
  alu t rd rs rt 1 (subSat) s

/-- DIVU: unsigned quotient. (R68) -/
def execDivu (t rd rs rt : Nat) (s : State) : Host.Outcome State Fault Refusal := 
  aluDiv t rd rs rt divU s

/-- REMU: unsigned remainder. (R68) -/
def execRemu (t rd rs rt : Nat) (s : State) : Host.Outcome State Fault Refusal := 
  aluDiv t rd rs rt remU s

/-- DIV: signed quotient rounded toward 0, saturating. (R68) -/
def execDiv (t rd rs rt : Nat) (s : State) : Host.Outcome State Fault Refusal := 
  aluDiv t rd rs rt divS s

/-- REM: signed remainder with the sign of gs. (R68) -/
def execRem (t rd rs rt : Nat) (s : State) : Host.Outcome State Fault Refusal := 
  aluDiv t rd rs rt remS s

/-- SEL.qn: gd := gs if qn = 1, else gt. (R68) -/
def execSel (t n rd rs rt : Nat) (s : State) : Host.Outcome State Fault Refusal := 
  .next (s.execR t fun x => (x.setG rd (if x.getQ n then x.getG rs else x.getG rt)).adv 1)

/-- CLZ: leading zeros of gs, 0 to 32. (R68) -/
def execClz (t rd rs : Nat) (s : State) : Host.Outcome State Fault Refusal := aluImm t rd rs clz s

/-- POPC: number of 1 bits in gs. (R68) -/
def execPopc (t rd rs : Nat) (s : State) : Host.Outcome State Fault Refusal := aluImm t rd rs popc s

/-- CMPEQ: qd := gs = gt. (R69) -/
def execCmpeq (t rd rs rt : Nat) (s : State) : Host.Outcome State Fault Refusal := 
  cmpG t rd rs rt (fun a b => a = b) s

/-- CMPNE: qd := gs ≠ gt. (R69) -/
def execCmpne (t rd rs rt : Nat) (s : State) : Host.Outcome State Fault Refusal := 
  cmpG t rd rs rt (fun a b => a ≠ b) s

/-- CMPLT: qd := gs < gt, signed. (R69) -/
def execCmplt (t rd rs rt : Nat) (s : State) : Host.Outcome State Fault Refusal := 
  cmpG t rd rs rt (ltS) s

/-- CMPGE: qd := gs ≥ gt, signed. (R69) -/
def execCmpge (t rd rs rt : Nat) (s : State) : Host.Outcome State Fault Refusal := 
  cmpG t rd rs rt (fun a b => ! ltS a b) s

/-- CMPLTU: qd := gs < gt, unsigned. (R69) -/
def execCmpltu (t rd rs rt : Nat) (s : State) : Host.Outcome State Fault Refusal := 
  cmpG t rd rs rt (ltU) s

/-- CMPGEU: qd := gs ≥ gt, unsigned. (R69) -/
def execCmpgeu (t rd rs rt : Nat) (s : State) : Host.Outcome State Fault Refusal := 
  cmpG t rd rs rt (fun a b => ! ltU a b) s

/-- QAND: qd from qs and qt. (R69) -/
def execQand (t rd rs rt : Nat) (s : State) : Host.Outcome State Fault Refusal := 
  predOp t rd rs rt (fun a b => a && b) s

/-- QOR: qd from qs and qt. (R69) -/
def execQor (t rd rs rt : Nat) (s : State) : Host.Outcome State Fault Refusal := 
  predOp t rd rs rt (fun a b => a || b) s

/-- QXOR: qd from qs and qt. (R69) -/
def execQxor (t rd rs rt : Nat) (s : State) : Host.Outcome State Fault Refusal := 
  predOp t rd rs rt (fun a b => a != b) s

/-- QNOT: qd := NOT qs. (R69) -/
def execQnot (t rd rs : Nat) (s : State) : Host.Outcome State Fault Refusal := 
  predOp t rd rs rs (fun a _ => ! a) s

/-- PCMPEQ: qd := ps = pt. (R69) -/
def execPcmpeq (t rd rs rt : Nat) (s : State) : Host.Outcome State Fault Refusal := 
  cmpP t rd rs rt (fun a b => a = b) s

/-- PCMPLT: qd := ps < pt, unsigned. (R69) -/
def execPcmplt (t rd rs rt : Nat) (s : State) : Host.Outcome State Fault Refusal := 
  cmpP t rd rs rt (fun a b => a.toNat < b.toNat) s

/-- PCMPGE: qd := ps ≥ pt, unsigned. (R69) -/
def execPcmpge (t rd rs rt : Nat) (s : State) : Host.Outcome State Fault Refusal := 
  cmpP t rd rs rt (fun a b => b.toNat ≤ a.toNat) s

/-- ADDI: gd := gs + sext(imm). (R74) -/
def execAddi (t rd rs : Nat) (imm : BitVec 16) (s : State) : Host.Outcome State Fault Refusal :=
  aluImm t rd rs (fun a => a + sext16 imm) s

/-- ANDI: zero-extended immediate. (R74) -/
def execAndi (t rd rs : Nat) (imm : BitVec 16) (s : State) : Host.Outcome State Fault Refusal :=
  aluImm t rd rs (fun a => a &&& zext16 imm) s

/-- ORI: zero-extended immediate. (R74) -/
def execOri (t rd rs : Nat) (imm : BitVec 16) (s : State) : Host.Outcome State Fault Refusal :=
  aluImm t rd rs (fun a => a ||| zext16 imm) s

/-- XORI: zero-extended immediate. (R74) -/
def execXori (t rd rs : Nat) (imm : BitVec 16) (s : State) : Host.Outcome State Fault Refusal :=
  aluImm t rd rs (fun a => a ^^^ zext16 imm) s

/-- LDHI: the immediate in the high half, the low half 0. (R74) -/
def execLdhi (t rd : Nat) (imm : BitVec 16) (s : State) : Host.Outcome State Fault Refusal :=
  aluImm t rd 0 (fun _ => zext16 imm <<< 16) s

/-- SLLI: shift by imm bits 4:0. (R74) -/
def execSlli (t rd rs sh : Nat) (s : State) : Host.Outcome State Fault Refusal := 
  aluImm t rd rs (fun a => shl a (BitVec.ofNat 32 sh)) s

/-- SRLI: shift by imm bits 4:0. (R74) -/
def execSrli (t rd rs sh : Nat) (s : State) : Host.Outcome State Fault Refusal := 
  aluImm t rd rs (fun a => shr a (BitVec.ofNat 32 sh)) s

/-- SRAI: shift by imm bits 4:0. (R74) -/
def execSrai (t rd rs sh : Nat) (s : State) : Host.Outcome State Fault Refusal := 
  aluImm t rd rs (fun a => sar a (BitVec.ofNat 32 sh)) s

/-- CMPEQI: qd := gs = sext(imm). (R74) -/
def execCmpeqi (t rd rs : Nat) (imm : BitVec 16) (s : State) : Host.Outcome State Fault Refusal :=
  cmpImm t rd rs (fun a => a = sext16 imm) s

/-- CMPLTI: qd := gs < sext(imm), signed. (R74) -/
def execCmplti (t rd rs : Nat) (imm : BitVec 16) (s : State) : Host.Outcome State Fault Refusal :=
  cmpImm t rd rs (fun a => ltS a (sext16 imm)) s

/-- CMPLTUI: qd := gs < imm zero-extended, unsigned. (R74) -/
def execCmpltui (t rd rs : Nat) (imm : BitVec 16) (s : State) : Host.Outcome State Fault Refusal :=
  cmpImm t rd rs (fun a => ltU a (zext16 imm)) s

end Sys2Proof.Machine
end

