-- ==== Sys2Proof/Machine/Sweep.lean ====
section
/-! DEFINITION. The sweep boundary of a module port (R33): what was staged applies, the pixel rate and the head factor
are formed anew, windows end, and voids that waited for the boundary take place. -/

namespace Sys2Proof.Machine

/-- A port that no longer wants lock drops it at the boundary (R151 step 6); a window it is in is void, since only a
LOCKED port may image (R151 step 5). -/
def State.lockEnd (s : State) (n : Nat) : State :=
  if s.flag (SCN_CTL_PLOCKEN n) then s
  else
    let s1 := if s.flag (SCN_STAT_LOCKED n) then s.voidPort n rsScan 0 else s
    (((s1.setOff (SCN_STAT_LOCKED n)).setOff (SCN_STAT_ACQ n)).setOff (SCN_STAT_HELD n)).mapScan n
      fun c => { c with good := 0, bad := 0 }

/-- Whether the offset at an image pixel leaves ±32 lines before it is clamped (R161). -/
def State.offBeyond (s : State) (n i : Nat) : Bool :=
  let num : Int := (s.scanP n).skew * i + s.bow208 n i * 1024
  let den : Int := 13312 * 256
  ((2 * num + den) / (2 * den)).natAbs > 32

/-- Whether the offset of some image pixel is clamped: between two breakpoints it is linear, so the ends of the 64
pieces decide. -/
def State.offClamped (s : State) (n : Nat) : Bool :=
  (List.range 64).any fun q => s.offBeyond n (208 * q) || s.offBeyond n (208 * q + 207)

/-- The applied copies of the port move (R142, R156, R160, R161). -/
def State.sweepApply (s : State) (n : Nat) (idle : Bool) : State :=
  let s1 := s.stepScalars n idle
  let s2 := if s1.stale n then s1 else s1.stepDelays n idle 256
  let s3 := (s2.stepBow n idle 65).applyProfile n
  if s3.offClamped n then s3.setOn SCN_STATUS_OFFCLAMP else s3

/-- The pixel rate is formed anew and sets the synthesizer's outputs and their delays; a rate outside the band inside a
window is a RANGE source and voids the window from the sweep that begins (R153, R154). -/
def State.sweepRate (s : State) (n : Nat) : State :=
  let hz := s.pixelHz n
  let s0 := s.setFld (PLL_FREQ_HZ n) hz
  let s1 := s0.emit (.port "pixpll" n (s0.pixPll n (s0.ramp n 0) ++ [(s0.scanP n).dly]))
  let b := s.fld (SCN_STAT_BAND n)
  if s.portImaging n ∧ ¬ (b ≤ 4 ∧ bandHolds hz b) then
    let s2 := s1.raise 5 (8 + n)
    s2.voidPort n rsScan (s2.incOf 5)
  else s1

/-- The window the port images goes blank by an escalation that blanks the port (R168, R169, R191, R192, R280). -/
def State.sweepBlank (s : State) (n : Nat) : State :=
  let c := s.scanP n
  let h := s.headP n
  if ¬ s.portImaging n then s
  else if s.pos.inhEsc then s.voidPort n rsInhibit (s.incOf 0)
  else if c.blankScn then s.voidPort n rsScan (s.incOf 5)
  else if c.blankPll then s.voidPort n rsScan (s.incOf 6)
  else if h.blankHlk then s.voidPort n rsHead (s.incOf 7)
  else if h.blankExp then s.voidPort n rsHead (s.incOf 8)
  else if s.plant.headHot.testBit n then s.voidPort n rsHead (s.incOf 16)
  else s

/-- FRM's LINE: the first frame line of the band that comes (R141, R142). -/
def State.sweepLine (s : State) (n : Nat) : State :=
  if s.portImaging n then
    let r := s.slot (s.fld (FRM_SLOT_SLOT n))
    let l := s.frameLine n ((s.scanP n).sweep + 1) 0 0 r.x (r.geo.lag (s.portStn n))
    s.setFld (FRM_LINE_LINE n) l.toNat
  else s

/-- A window whose station has raised a void turns to blanking with the band that holds the first bad line (R136). -/
def State.sweepDark (s : State) (n : Nat) : State :=
  if s.fld (FRM_PHASE_PHASE n) = phImaging ∧ (s.headP n).dark.contains (s.fld (FRM_SLOT_SLOT n)) then
    s.setFld (FRM_PHASE_PHASE n) phBlanking
  else s

/-- TEV.SWEEP in the teller the port names (R145). -/
def State.sweepEvent (s : State) (n : Nat) : State :=
  if s.flag (SCN_CTL_SWPEN n) then s.setTev (s.fld (SCN_CTL_SWPT n)) tevSweep else s

/-- The whole boundary of a port. -/
def State.sweepBoundary (s : State) (n : Nat) : State :=
  let idle := s.portIdle n
  let s1 := (((((s.calSweep n).audCount (if s.linkUp n then s.emitTest n else none)).voidDue n).sweepBlank n).lockEnd n).sweepApply n idle
  let s2 := ((((s1.sweepRate n).loopCheck n).windowsDue).underrun n).expoBoundary n idle
  let s3 := ((s2.eposBoundary n).densBoundary n).sweepEvent n
  (s3.sweepDark n).sweepLine n

/-- Some fields put back to the values beside them. -/
def State.putBack (s : State) (l : List (Field × Nat)) : State := l.foldl (fun s p => s.setFld p.1 p.2) s

/-- The boundary with the `late` newest parameter writes left out: they arrived less than 2 pixel periods before it and
take effect at the next one (R33). -/
def State.sweepCross (s : State) (n late : Nat) : State :=
  let c := s.scanP n
  let off := c.recent.take late
  let now := off.flatten.map fun p => (p.1, s.fld p.1)
  let held := (off.filter fun ch => ch.isEmpty).length
  let s0 := (s.putBack off.flatten).mapScan n fun c => { c with recent := [], commits := c.commits.drop held }
  let s1 := ((s0.sweepBoundary n).putBack now).mapScan n fun x =>
    { x with commits := c.commits.take held }
  if held = 0 then s1 else s1.setOn (PLL_PROFCTL_PEND n)

/-- SWEEP_BOUNDARY, where synthesizers are not held in reset (R19): `late` of the port's newest parameter writes came less than 2 pixel periods before it (R33). -/
def execSweepBoundary (n late : Nat) (s : State) : Host.Outcome State Fault Refusal :=
  .next (if s.isOff ∨ s.heldInReset 0x508100 then s else if n < 4 then s.sweepCross n late else s)

end Sys2Proof.Machine
end

