-- ==== Sys2Proof/Machine/Dispatch.lean ====
section
/-! DEFINITION. Which meaning each command has: one arm per command of the table. -/

namespace Sys2Proof.Machine

def exec (i : Instr) (s : State) : Host.Outcome State Fault Refusal :=
  match i with
  | .powerOnReset x edgesA edgesB => Sys2Proof.Machine.execPowerOnReset x edgesA edgesB s
  | .supplyDrop => Sys2Proof.Machine.execSupplyDrop s
  | .resetN x => Sys2Proof.Machine.execResetN x s
  | .bootVerify sfdp flash => Sys2Proof.Machine.execBootVerify sfdp flash s
  | .chiprst key x => Sys2Proof.Machine.execChiprst key x s
  | .logicrst key => Sys2Proof.Machine.execLogicrst key s
  | .driverst key => Sys2Proof.Machine.execDriverst key s
  | .registerWrite bar a v be => Sys2Proof.Machine.execRegisterWrite bar a v be s
  | .portmapWrite v => Sys2Proof.Machine.execPortmapWrite v s
  | .outenWrite on => Sys2Proof.Machine.execOutenWrite on s
  | .driveLinkFrame vsw => Sys2Proof.Machine.execDriveLinkFrame vsw s
  | .heartbeatLoss => Sys2Proof.Machine.execHeartbeatLoss s
  | .roleConfirm => Sys2Proof.Machine.execRoleConfirm s
  | .encoderEdge n e vel => Sys2Proof.Machine.execEncoderEdge n e vel s
  | .beaconSend => Sys2Proof.Machine.execBeaconSend s
  | .beacon h b => Sys2Proof.Machine.execBeacon h b s
  | .deadReckoning => Sys2Proof.Machine.execDeadReckoning s
  | .positionLost => Sys2Proof.Machine.execPositionLost s
  | .lineMasterEdge interval => Sys2Proof.Machine.execLineMasterEdge interval s
  | .lineMasterTimeout => Sys2Proof.Machine.execLineMasterTimeout s
  | .timWposloRead => Sys2Proof.Machine.execTimWposloRead s
  | .timHwmloRead => Sys2Proof.Machine.execTimHwmloRead s
  | .cldDateRead => Sys2Proof.Machine.execCldDateRead s
  | .cldWtloRead => Sys2Proof.Machine.execCldWtloRead s
  | .cldCommit => Sys2Proof.Machine.execCldCommit s
  | .secondRollover => Sys2Proof.Machine.execSecondRollover s
  | .cldTimerArm n => Sys2Proof.Machine.execCldTimerArm n s
  | .cldTimerDisarm n => Sys2Proof.Machine.execCldTimerDisarm n s
  | .wallTimerFire n => Sys2Proof.Machine.execWallTimerFire n s
  | .ptpSync offset mpd => Sys2Proof.Machine.execPtpSync offset mpd s
  | .ptpSyncLoss => Sys2Proof.Machine.execPtpSyncLoss s
  | .add t rd rs rt => Sys2Proof.Machine.execAdd t rd rs rt s
  | .sub t rd rs rt => Sys2Proof.Machine.execSub t rd rs rt s
  | .and t rd rs rt => Sys2Proof.Machine.execAnd t rd rs rt s
  | .or t rd rs rt => Sys2Proof.Machine.execOr t rd rs rt s
  | .xor t rd rs rt => Sys2Proof.Machine.execXor t rd rs rt s
  | .sll t rd rs rt => Sys2Proof.Machine.execSll t rd rs rt s
  | .srl t rd rs rt => Sys2Proof.Machine.execSrl t rd rs rt s
  | .sra t rd rs rt => Sys2Proof.Machine.execSra t rd rs rt s
  | .mul t rd rs rt => Sys2Proof.Machine.execMul t rd rs rt s
  | .mulh t rd rs rt => Sys2Proof.Machine.execMulh t rd rs rt s
  | .mulhu t rd rs rt => Sys2Proof.Machine.execMulhu t rd rs rt s
  | .divu t rd rs rt => Sys2Proof.Machine.execDivu t rd rs rt s
  | .remu t rd rs rt => Sys2Proof.Machine.execRemu t rd rs rt s
  | .div t rd rs rt => Sys2Proof.Machine.execDiv t rd rs rt s
  | .rem t rd rs rt => Sys2Proof.Machine.execRem t rd rs rt s
  | .min t rd rs rt => Sys2Proof.Machine.execMin t rd rs rt s
  | .max t rd rs rt => Sys2Proof.Machine.execMax t rd rs rt s
  | .minu t rd rs rt => Sys2Proof.Machine.execMinu t rd rs rt s
  | .maxu t rd rs rt => Sys2Proof.Machine.execMaxu t rd rs rt s
  | .adds t rd rs rt => Sys2Proof.Machine.execAdds t rd rs rt s
  | .subs t rd rs rt => Sys2Proof.Machine.execSubs t rd rs rt s
  | .sel t n rd rs rt => Sys2Proof.Machine.execSel t n rd rs rt s
  | .clz t rd rs => Sys2Proof.Machine.execClz t rd rs s
  | .popc t rd rs => Sys2Proof.Machine.execPopc t rd rs s
  | .xadd t rd rs rt => Sys2Proof.Machine.execXadd t rd rs rt s
  | .xswap t rd rs rt => Sys2Proof.Machine.execXswap t rd rs rt s
  | .cmpeq t rd rs rt => Sys2Proof.Machine.execCmpeq t rd rs rt s
  | .cmpne t rd rs rt => Sys2Proof.Machine.execCmpne t rd rs rt s
  | .cmplt t rd rs rt => Sys2Proof.Machine.execCmplt t rd rs rt s
  | .cmpge t rd rs rt => Sys2Proof.Machine.execCmpge t rd rs rt s
  | .cmpltu t rd rs rt => Sys2Proof.Machine.execCmpltu t rd rs rt s
  | .cmpgeu t rd rs rt => Sys2Proof.Machine.execCmpgeu t rd rs rt s
  | .qand t rd rs rt => Sys2Proof.Machine.execQand t rd rs rt s
  | .qor t rd rs rt => Sys2Proof.Machine.execQor t rd rs rt s
  | .qxor t rd rs rt => Sys2Proof.Machine.execQxor t rd rs rt s
  | .qnot t rd rs => Sys2Proof.Machine.execQnot t rd rs s
  | .pcmpeq t rd rs rt => Sys2Proof.Machine.execPcmpeq t rd rs rt s
  | .pcmplt t rd rs rt => Sys2Proof.Machine.execPcmplt t rd rs rt s
  | .pcmpge t rd rs rt => Sys2Proof.Machine.execPcmpge t rd rs rt s
  | .padd t rd rs rt => Sys2Proof.Machine.execPadd t rd rs rt s
  | .psub t rd rs rt => Sys2Proof.Machine.execPsub t rd rs rt s
  | .pmov t rd rs => Sys2Proof.Machine.execPmov t rd rs s
  | .pmax t rd rs rt => Sys2Proof.Machine.execPmax t rd rs rt s
  | .mvgp t rd rs rt => Sys2Proof.Machine.execMvgp t rd rs rt s
  | .mvpgl t rd rs => Sys2Proof.Machine.execMvpgl t rd rs s
  | .mvpgh t rd rs => Sys2Proof.Machine.execMvpgh t rd rs s
  | .paddi t pd ps imm => Sys2Proof.Machine.execPaddi t pd ps imm s
  | .paddfi t pd ps imm => Sys2Proof.Machine.execPaddfi t pd ps imm s
  | .rdpos t pd => Sys2Proof.Machine.execRdpos t pd s
  | .pstn t pd ps station => Sys2Proof.Machine.execPstn t pd ps station s
  | .pwrt t pd ps station => Sys2Proof.Machine.execPwrt t pd ps station s
  | .waitpos t ps => Sys2Proof.Machine.execWaitpos t ps s
  | .waitposResume t => Sys2Proof.Machine.execWaitposResume t s
  | .arm t ps n => Sys2Proof.Machine.execArm t ps n s
  | .disarm t n => Sys2Proof.Machine.execDisarm t n s
  | .rdhwm t pd => Sys2Proof.Machine.execRdhwm t pd s
  | .addi t rd rs imm => Sys2Proof.Machine.execAddi t rd rs imm s
  | .andi t rd rs imm => Sys2Proof.Machine.execAndi t rd rs imm s
  | .ori t rd rs imm => Sys2Proof.Machine.execOri t rd rs imm s
  | .xori t rd rs imm => Sys2Proof.Machine.execXori t rd rs imm s
  | .ldhi t rd imm => Sys2Proof.Machine.execLdhi t rd imm s
  | .slli t rd rs sh => Sys2Proof.Machine.execSlli t rd rs sh s
  | .srli t rd rs sh => Sys2Proof.Machine.execSrli t rd rs sh s
  | .srai t rd rs sh => Sys2Proof.Machine.execSrai t rd rs sh s
  | .lw t rd rs imm => Sys2Proof.Machine.execLw t rd rs imm s
  | .lh t rd rs imm => Sys2Proof.Machine.execLh t rd rs imm s
  | .lhu t rd rs imm => Sys2Proof.Machine.execLhu t rd rs imm s
  | .lb t rd rs imm => Sys2Proof.Machine.execLb t rd rs imm s
  | .lbu t rd rs imm => Sys2Proof.Machine.execLbu t rd rs imm s
  | .sw t rt rs imm => Sys2Proof.Machine.execSw t rt rs imm s
  | .sh t rt rs imm => Sys2Proof.Machine.execSh t rt rs imm s
  | .sb t rt rs imm => Sys2Proof.Machine.execSb t rt rs imm s
  | .rdr t rd rs imm => Sys2Proof.Machine.execRdr t rd rs imm s
  | .wrr t rt rs imm => Sys2Proof.Machine.execWrr t rt rs imm s
  | .wrrTakesEffect t => Sys2Proof.Machine.execWrrTakesEffect t s
  | .fabricTimeout t rdr => Sys2Proof.Machine.execFabricTimeout t rdr s
  | .pld t pd rs imm => Sys2Proof.Machine.execPld t pd rs imm s
  | .pst t rt rs imm => Sys2Proof.Machine.execPst t rt rs imm s
  | .cmpeqi t rd rs imm => Sys2Proof.Machine.execCmpeqi t rd rs imm s
  | .cmplti t rd rs imm => Sys2Proof.Machine.execCmplti t rd rs imm s
  | .cmpltui t rd rs imm => Sys2Proof.Machine.execCmpltui t rd rs imm s
  | .jmpr t rd rs imm => Sys2Proof.Machine.execJmpr t rd rs imm s
  | .b t cond off => Sys2Proof.Machine.execB t cond off s
  | .bl t cond off => Sys2Proof.Machine.execBl t cond off s
  | .fence t => Sys2Proof.Machine.execFence t s
  | .halt t => Sys2Proof.Machine.execHalt t s
  | .trap t k => Sys2Proof.Machine.execTrap t k s
  | .eret t => Sys2Proof.Machine.execEret t s
  | .brk t => Sys2Proof.Machine.execBrk t s
  | .rdcyc t rd => Sys2Proof.Machine.execRdcyc t rd s
  | .tellerWatchdog t => Sys2Proof.Machine.execTellerWatchdog t s
  | .waitev t rd rs => Sys2Proof.Machine.execWaitev t rd rs s
  | .waitevResume t => Sys2Proof.Machine.execWaitevResume t s
  | .tsig t rd rs b => Sys2Proof.Machine.execTsig t rd rs b s
  | .evclr t rs => Sys2Proof.Machine.execEvclr t rs s
  | .claim t rd rs => Sys2Proof.Machine.execClaim t rd rs s
  | .recv t rd rt => Sys2Proof.Machine.execRecv t rd rt s
  | .commit t rd rs => Sys2Proof.Machine.execCommit t rd rs s
  | .take t rd rs rt => Sys2Proof.Machine.execTake t rd rs rt s
  | .settle t rd rs rt => Sys2Proof.Machine.execSettle t rd rs rt s
  | .lacq t rd rs => Sys2Proof.Machine.execLacq t rd rs s
  | .lrel t rd rs => Sys2Proof.Machine.execLrel t rd rs s
  | .mbpost t rd rs rt => Sys2Proof.Machine.execMbpost t rd rs rt s
  | .evpost t rd rs rt => Sys2Proof.Machine.execEvpost t rd rs rt s
  | .dmakick t rd rs => Sys2Proof.Machine.execDmakick t rd rs s
  | .audit t rd rs pn => Sys2Proof.Machine.execAudit t rd rs pn s
  | .tlrGo mask => Sys2Proof.Machine.execTlrGo mask s
  | .tlrStop mask => Sys2Proof.Machine.execTlrStop mask s
  | .tlrRst key mask => Sys2Proof.Machine.execTlrRst key mask s
  | .comparatorCrossing => Sys2Proof.Machine.execComparatorCrossing s
  | .actionFabricAck => Sys2Proof.Machine.execActionFabricAck s
  | .actionWriteTimeout => Sys2Proof.Machine.execActionWriteTimeout s
  | .heldComparatorFire => Sys2Proof.Machine.execHeldComparatorFire s
  | .actionEntryWrite who n word v => Sys2Proof.Machine.execActionEntryWrite who n word v s
  | .p0clr v => Sys2Proof.Machine.execP0clr v s
  | .orderEccError h => Sys2Proof.Machine.execOrderEccError h s
  | .run => Sys2Proof.Machine.execRun s
  | .stop => Sys2Proof.Machine.execStop s
  | .commitAccept => Sys2Proof.Machine.execCommitAccept s
  | .escrowClose => Sys2Proof.Machine.execEscrowClose s
  | .close h c => Sys2Proof.Machine.execClose h c s
  | .slotRelease slot stn => Sys2Proof.Machine.execSlotRelease slot stn s
  | .noclose stn => Sys2Proof.Machine.execNoclose stn s
  | .endrun h slot ec => Sys2Proof.Machine.execEndrun h slot ec s
  | .slotWindowStart slot stn => Sys2Proof.Machine.execSlotWindowStart slot stn s
  | .slotComplete slot => Sys2Proof.Machine.execSlotComplete slot s
  | .voidrep h v => Sys2Proof.Machine.execVoidrep h v s
  | .void h v => Sys2Proof.Machine.execVoid h v s
  | .escVoidreq slot => Sys2Proof.Machine.execEscVoidreq slot s
  | .descriptorEccError waiting k => Sys2Proof.Machine.execDescriptorEccError waiting k s
  | .sosEdge n rise width phase pp => Sys2Proof.Machine.execSosEdge n rise width phase pp s
  | .eosEdge n time pp width => Sys2Proof.Machine.execEosEdge n time pp width s
  | .sosPredict n phase => Sys2Proof.Machine.execSosPredict n phase s
  | .sweepBoundary n late => Sys2Proof.Machine.execSweepBoundary n late s
  | .plockEnable n on => Sys2Proof.Machine.execPlockEnable n on s
  | .bandChange n => Sys2Proof.Machine.execBandChange n s
  | .pllLossOfLock n => Sys2Proof.Machine.execPllLossOfLock n s
  | .profileCommit n => Sys2Proof.Machine.execProfileCommit n s
  | .referenceWindow a b => Sys2Proof.Machine.execReferenceWindow a b s
  | .referenceDead r => Sys2Proof.Machine.execReferenceDead r s
  | .referenceSwitch => Sys2Proof.Machine.execReferenceSwitch s
  | .swreq => Sys2Proof.Machine.execSwreq s
  | .norefTimeout => Sys2Proof.Machine.execNorefTimeout s
  | .linkTrainingStart n => Sys2Proof.Machine.execLinkTrainingStart n s
  | .statusFrame n frame => Sys2Proof.Machine.execStatusFrame n frame s
  | .retryStart n => Sys2Proof.Machine.execRetryStart n s
  | .missReportTimeout n => Sys2Proof.Machine.execMissReportTimeout n s
  | .trainingTimeout n => Sys2Proof.Machine.execTrainingTimeout n s
  | .overscanReportTimeout n e => Sys2Proof.Machine.execOverscanReportTimeout n e s
  | .laneReturn n => Sys2Proof.Machine.execLaneReturn n s
  | .frameGapApply n => Sys2Proof.Machine.execFrameGapApply n s
  | .deadclrAll n => Sys2Proof.Machine.execDeadclrAll n s
  | .deadclrOne n e => Sys2Proof.Machine.execDeadclrOne n e s
  | .storeEnable drives label => Sys2Proof.Machine.execStoreEnable drives label s
  | .stoFormat key => Sys2Proof.Machine.execStoFormat key s
  | .reserve a => Sys2Proof.Machine.execReserve a s
  | .release a => Sys2Proof.Machine.execRelease a s
  | .releaseComplete ext => Sys2Proof.Machine.execReleaseComplete ext s
  | .ingest a => Sys2Proof.Machine.execIngest a s
  | .cancel a => Sys2Proof.Machine.execCancel a s
  | .ingestDatagram p bytes => Sys2Proof.Machine.execIngestDatagram p bytes s
  | .ingestComplete ext => Sys2Proof.Machine.execIngestComplete ext s
  | .ingestTimeout ext => Sys2Proof.Machine.execIngestTimeout ext s
  | .prefetchIssue => Sys2Proof.Machine.execPrefetchIssue s
  | .nvmeCompletion drive cid status data => Sys2Proof.Machine.execNvmeCompletion drive cid status data s
  | .nvmeTimeout cid => Sys2Proof.Machine.execNvmeTimeout cid s
  | .readDeadline slot stn row => Sys2Proof.Machine.execReadDeadline slot stn row s
  | .tileDecode slot stn row col => Sys2Proof.Machine.execTileDecode slot stn row col s
  | .driveViolation drive kind => Sys2Proof.Machine.execDriveViolation drive kind s
  | .dmaArm n => Sys2Proof.Machine.execDmaArm n s
  | .dmaAbort n => Sys2Proof.Machine.execDmaAbort n s
  | .dmaPause n on => Sys2Proof.Machine.execDmaPause n on s
  | .go n => Sys2Proof.Machine.execGo n s
  | .clrerr n => Sys2Proof.Machine.execClrerr n s
  | .cont n => Sys2Proof.Machine.execCont n s
  | .dmaTimerExpiry k => Sys2Proof.Machine.execDmaTimerExpiry k s
  | .dmaTrigger n => Sys2Proof.Machine.execDmaTrigger n s
  | .dmaGrainStart n => Sys2Proof.Machine.execDmaGrainStart n s
  | .descriptorFetch n ok data => Sys2Proof.Machine.execDescriptorFetch n ok data s
  | .dmaReadComplete n ok data => Sys2Proof.Machine.execDmaReadComplete n ok data s
  | .dmaWriteComplete n => Sys2Proof.Machine.execDmaWriteComplete n s
  | .dmaTimeout n what => Sys2Proof.Machine.execDmaTimeout n what s
  | .start k => Sys2Proof.Machine.execStart k s
  | .sensingEnd k amp freq fwd ang vsw => Sys2Proof.Machine.execSensingEnd k amp freq fwd ang vsw s
  | .alignEnd k => Sys2Proof.Machine.execAlignEnd k s
  | .stopCmd k => Sys2Proof.Machine.execStopCmd k s
  | .coast k => Sys2Proof.Machine.execCoast k s
  | .move k => Sys2Proof.Machine.execMove k s
  | .pwmPeriod k adc => Sys2Proof.Machine.execPwmPeriod k adc s
  | .arcHoldEnd h => Sys2Proof.Machine.execArcHoldEnd h s
  | .hvRegTimeout h => Sys2Proof.Machine.execHvRegTimeout h s
  | .switchTransition c hs start ns => Sys2Proof.Machine.execSwitchTransition c hs start ns s
  | .driverFault f mv since => Sys2Proof.Machine.execDriverFault f mv since s
  | .brakeComparator a mv => Sys2Proof.Machine.execBrakeComparator a mv s
  | .brakeArmWrite a v => Sys2Proof.Machine.execBrakeArmWrite a v s
  | .coefficientCommit l => Sys2Proof.Machine.execCoefficientCommit l s
  | .rcClr r => Sys2Proof.Machine.execRcClr r s
  | .hvEnable h on => Sys2Proof.Machine.execHvEnable h on s
  | .acen h on => Sys2Proof.Machine.execAcen h on s
  | .zeroCrossing half => Sys2Proof.Machine.execZeroCrossing half s
  | .zeroCrossTimeout => Sys2Proof.Machine.execZeroCrossTimeout s
  | .zoneTempUpdate z adc => Sys2Proof.Machine.execZoneTempUpdate z adc s
  | .thermalModelUpdate m p die adc => Sys2Proof.Machine.execThermalModelUpdate m p die adc s
  | .limitFactorStep m => Sys2Proof.Machine.execLimitFactorStep m s
  | .thermalHardAction m => Sys2Proof.Machine.execThermalHardAction m s
  | .req n => Sys2Proof.Machine.execReq n s
  | .reqd => Sys2Proof.Machine.execReqd s
  | .calibrationStart n => Sys2Proof.Machine.execCalibrationStart n s
  | .calibrationEnd n m => Sys2Proof.Machine.execCalibrationEnd n m s
  | .calibrationAbandon n => Sys2Proof.Machine.execCalibrationAbandon n s
  | .markEdge n => Sys2Proof.Machine.execMarkEdge n s
  | .registrationCorrection slot => Sys2Proof.Machine.execRegistrationCorrection slot s
  | .missedMark slot stn => Sys2Proof.Machine.execMissedMark slot stn s
  | .auditRequest code => Sys2Proof.Machine.execAuditRequest code s
  | .auditStart k => Sys2Proof.Machine.execAuditStart k s
  | .auditSuspend k => Sys2Proof.Machine.execAuditSuspend k s
  | .auditComplete k r => Sys2Proof.Machine.execAuditComplete k r s
  | .faultSourceEvent b src given => Sys2Proof.Machine.execFaultSourceEvent b src given s
  | .graceExpiry b => Sys2Proof.Machine.execGraceExpiry b s
  | .quietPeriodEnd b => Sys2Proof.Machine.execQuietPeriodEnd b s
  | .fltBlkrst key b => Sys2Proof.Machine.execFltBlkrst key b s
  | .pinReadbackError p n => Sys2Proof.Machine.execPinReadbackError p n s
  | .lsiOpen aOpen bOpen => Sys2Proof.Machine.execLsiOpen aOpen bOpen s
  | .lsiSettled => Sys2Proof.Machine.execLsiSettled s
  | .lsiDiscrepancy aOpen => Sys2Proof.Machine.execLsiDiscrepancy aOpen s
  | .rearm => Sys2Proof.Machine.execRearm s
  | .fltRun => Sys2Proof.Machine.execFltRun s
  | .mirror h r => Sys2Proof.Machine.execMirror h r s
  | .watermark h sent settled event => Sys2Proof.Machine.execWatermark h sent settled event s
  | .mirack h mseq => Sys2Proof.Machine.execMirack h mseq s
  | .mirreq h first last => Sys2Proof.Machine.execMirreq h first last s
  | .beaconMissing => Sys2Proof.Machine.execBeaconMissing s
  | .probe h seq => Sys2Proof.Machine.execProbe h seq s
  | .probeans h seq => Sys2Proof.Machine.execProbeans h seq s
  | .probeTimeout => Sys2Proof.Machine.execProbeTimeout s
  | .enableSwapEnd => Sys2Proof.Machine.execEnableSwapEnd s
  | .relinquish h => Sys2Proof.Machine.execRelinquish h s
  | .relinq => Sys2Proof.Machine.execRelinq s
  | .ownBeaconLoss => Sys2Proof.Machine.execOwnBeaconLoss s
  | .swap => Sys2Proof.Machine.execSwap s
  | .swapreq h seq => Sys2Proof.Machine.execSwapreq h seq s
  | .swapack h seq agreed => Sys2Proof.Machine.execSwapack h seq agreed s
  | .swapBoundary => Sys2Proof.Machine.execSwapBoundary s
  | .nodelost n => Sys2Proof.Machine.execNodelost n s
  | .accRst key a vault => Sys2Proof.Machine.execAccRst key a vault s
  | .body a => Sys2Proof.Machine.execBody a s
  | .submit a => Sys2Proof.Machine.execSubmit a s
  | .send a => Sys2Proof.Machine.execSend a s
  | .mbCommit a => Sys2Proof.Machine.execMbCommit a s
  | .mbLacq a => Sys2Proof.Machine.execMbLacq a s
  | .mbLrel a => Sys2Proof.Machine.execMbLrel a s
  | .load a bytes => Sys2Proof.Machine.execLoad a bytes s
  | .keyprov a => Sys2Proof.Machine.execKeyprov a s
  | .keyrevoke a => Sys2Proof.Machine.execKeyrevoke a s
  | .mailboxTimeout a => Sys2Proof.Machine.execMailboxTimeout a s
  | .evqHeadWrite a h => Sys2Proof.Machine.execEvqHeadWrite a h s
  | .evqEnable a => Sys2Proof.Machine.execEvqEnable a s
  | .evqDisable a => Sys2Proof.Machine.execEvqDisable a s
  | .msixModerationExpiry a => Sys2Proof.Machine.execMsixModerationExpiry a s
  | .functionLevelReset => Sys2Proof.Machine.execFunctionLevelReset s
  | .hostPerstN => Sys2Proof.Machine.execHostPerstN s
  | .ethernetFrame p bytes full => Sys2Proof.Machine.execEthernetFrame p bytes full s
  | .linkctl h lseq nak => Sys2Proof.Machine.execLinkctl h lseq nak s
  | .linkRetransmitTimeout d long => Sys2Proof.Machine.execLinkRetransmitTimeout d long s
  | .msg h m => Sys2Proof.Machine.execMsg h m s
  | .msgstat h status dst => Sys2Proof.Machine.execMsgstat h status dst s
  | .msgTimeout ep dst => Sys2Proof.Machine.execMsgTimeout ep dst s
  | .stopreq h reason => Sys2Proof.Machine.execStopreq h reason s
  | .stopnow h incident reason => Sys2Proof.Machine.execStopnow h incident reason s
  | .now => Sys2Proof.Machine.execNow s
  | .auxStopEdge n => Sys2Proof.Machine.execAuxStopEdge n s
  | .hello h serial strap role portmap dlyA dlyB => Sys2Proof.Machine.execHello h serial strap role portmap dlyA dlyB s
  | .assign h serial node role pathA pathB => Sys2Proof.Machine.execAssign h serial node role pathA pathB s
  | .config h pairs => Sys2Proof.Machine.execConfig h pairs s
  | .dlyprobe h time => Sys2Proof.Machine.execDlyprobe h time s
  | .dlyecho h time trip => Sys2Proof.Machine.execDlyecho h time trip s
  | .commitrb => Sys2Proof.Machine.execCommitrb s
  | .vltAliasdataWrite v => Sys2Proof.Machine.execVltAliasdataWrite v s
  | .vltMembersWrite h v => Sys2Proof.Machine.execVltMembersWrite h v s
  | .dormantEntry => Sys2Proof.Machine.execDormantEntry s
  | .dormantSleep => Sys2Proof.Machine.execDormantSleep s
  | .wake rtc => Sys2Proof.Machine.execWake rtc s
  | .i2cWrite dev a v => Sys2Proof.Machine.execI2cWrite dev a v s
  | .i2cRead dev a => Sys2Proof.Machine.execI2cRead dev a s
  | .jtagInstruction k => Sys2Proof.Machine.execJtagInstruction k s
  | .headLinkSlot n => Sys2Proof.Machine.execHeadLinkSlot n s
  | .referenceSwitchComplete => Sys2Proof.Machine.execReferenceSwitchComplete s
  | .pllLockAcquired n => Sys2Proof.Machine.execPllLockAcquired n s
  | .referenceEdgeReturn r => Sys2Proof.Machine.execReferenceEdgeReturn r s
  | .driveDieSupplyChange low => Sys2Proof.Machine.execDriveDieSupplyChange low s
  | .thermalShutdownRelease temps => Sys2Proof.Machine.execThermalShutdownRelease temps s
  | .illegalWordFetch t => Sys2Proof.Machine.execIllegalWordFetch t s
  | .tellerImageLoad => Sys2Proof.Machine.execTellerImageLoad s
  | .driveFatalStatus drive => Sys2Proof.Machine.execDriveFatalStatus drive s
  | .hostLinkDown => Sys2Proof.Machine.execHostLinkDown s
  | .poisonedTlp => Sys2Proof.Machine.execPoisonedTlp s
  | .ethernetLinkDown p => Sys2Proof.Machine.execEthernetLinkDown p s
  | .uncorrectableCodeword p => Sys2Proof.Machine.execUncorrectableCodeword p s
  | .ringLinkUp d => Sys2Proof.Machine.execRingLinkUp d s
  | .acExcitationCycle h => Sys2Proof.Machine.execAcExcitationCycle h s

end Sys2Proof.Machine
end

