-- ==== Sys2Proof/Machine/Step.lean ====
section
/-! DEFINITION. The step of the block: the command at the front of the queue takes effect; with none waiting, one teller
cycle passes. -/

namespace Sys2Proof.Machine

/-- One step. DESIGN CHOICE (log entry 1), DESIGN CHOICE (log entry 2). -/
def step (s : State) : Host.Outcome State Fault Refusal :=
  match s.pending with
  | [] => .next s.clock
  | c :: cs => exec c { s with pending := cs }

/-- The command a table word spells, put at the front of the queue; the table gives no row bits, so no word spells one.
DESIGN CHOICE (log entry 4). -/
def State.withFetchWord (s : State) (nbits w : Nat) : State :=
  match decodeTableWord nbits w with
  | some c => { s with pending := c :: s.pending }
  | none => s

end Sys2Proof.Machine
end

