-- ==== Sys2Proof/Safety.lean ====
section
/-! DEFINITION. The terms in which claims about the node are stated: when a teller can execute, what a register-only
instruction may write, and which states are safe. A safe run stops for nothing and keeps every memory in its canonical
form. -/

namespace Sys2Proof.Machine

/-- Teller `t` can execute an instruction: it runs, holds no unfinished one, its PC lies in program memory, the fetched
word has no error, and the die is powered and clocked (R60, R62). -/
def State.runs (s : State) (t : Nat) : Bool :=
  t < 16 && (s.teller t).st = .running && (s.teller t).wait = .none && (s.teller t).pc.toNat < pmSize && ! s.isOff
    && tabGet 0 s.pmErr ((s.teller t).pc.toNat / 4) = 0

/-- Every earlier WRR of teller `t` has taken effect, and none failed (R74, R86). DESIGN CHOICE (log entry 12). -/
def State.settled (s : State) (t : Nat) : Bool := (s.teller t).wrrq = [] && (s.teller t).busErr = none

/-- Teller `t` after an instruction that writes a general register: gd takes `v`, a write to g0 is discarded, PC moves to
the next instruction and CYC by the instruction's cycles. -/
def State.putG (s : State) (t rd : Nat) (v : Word) (cycles : Nat) : State :=
  s.mapTeller t fun x => (x.setG rd v).adv cycles

/-- The same for a position register. -/
def State.putP (s : State) (t pd : Nat) (v : Pos) (cycles : Nat) : State :=
  s.mapTeller t fun x => (x.setP pd v).adv cycles

/-- The same for a predicate: one cycle. -/
def State.putQ (s : State) (t qd : Nat) (v : Bool) : State := s.mapTeller t fun x => (x.setQ qd v).adv 1

/-- A data-memory access that no trap stops: aligned, inside data memory, and no word it reads has an uncorrectable
error; a corrected one would be counted, so there is none (R62, R74, R85). -/
def State.clean (s : State) (a align len : Nat) : Bool :=
  a % align = 0 && a + len ≤ dmSize
    && (List.range ((a % 4 + len + 3) / 4)).all fun i => tabGet 0 s.dmErr (a / 4 + i) = 0

/-- A destination among a teller's registers. -/
inductive Dest
  | g (r : Nat)
  | p (r : Nat)
  | q (r : Nat)
deriving DecidableEq, Repr

/-- The destination of an instruction that writes nothing but one register of its teller, PC and CYC (R68 to R71, R74);
none for every other command. -/
def regOnly : Instr → Option (Nat × Dest)
  | .add t rd _ _ | .sub t rd _ _ | .and t rd _ _ | .or t rd _ _ | .xor t rd _ _ | .sll t rd _ _ | .srl t rd _ _
  | .sra t rd _ _ | .mul t rd _ _ | .mulh t rd _ _ | .mulhu t rd _ _ | .min t rd _ _ | .max t rd _ _ | .minu t rd _ _
  | .maxu t rd _ _ | .adds t rd _ _ | .subs t rd _ _ | .sel t _ rd _ _ | .clz t rd _ | .popc t rd _
  | .addi t rd _ _ | .andi t rd _ _ | .ori t rd _ _ | .xori t rd _ _ | .ldhi t rd _ | .slli t rd _ _ | .srli t rd _ _
  | .srai t rd _ _ | .mvpgl t rd _ | .mvpgh t rd _ | .rdcyc t rd => some (t, .g rd)
  | .padd t pd _ _ | .psub t pd _ _ | .pmax t pd _ _ | .pmov t pd _ | .mvgp t pd _ _ | .paddi t pd _ _
  | .paddfi t pd _ _ | .rdpos t pd | .pstn t pd _ _ | .pwrt t pd _ _ | .rdhwm t pd => some (t, .p pd)
  | .cmpeq t qd _ _ | .cmpne t qd _ _ | .cmplt t qd _ _ | .cmpge t qd _ _ | .cmpltu t qd _ _ | .cmpgeu t qd _ _
  | .qand t qd _ _ | .qor t qd _ _ | .qxor t qd _ _ | .qnot t qd _ | .pcmpeq t qd _ _ | .pcmplt t qd _ _
  | .pcmpge t qd _ _ | .cmpeqi t qd _ _ | .cmplti t qd _ _ | .cmpltui t qd _ _ => some (t, .q qd)
  | _ => none

/-- The teller of an instruction that a teller fetches; none for every other command (R64 to R77). -/
def tellerOf : Instr → Option Nat
  | .add t .. | .sub t .. | .and t .. | .or t .. | .xor t .. | .sll t .. | .srl t .. | .sra t .. | .mul t ..
  | .mulh t .. | .mulhu t .. | .divu t .. | .remu t .. | .div t .. | .rem t .. | .min t .. | .max t .. | .minu t ..
  | .maxu t .. | .adds t .. | .subs t .. | .xadd t .. | .xswap t .. | .sel t .. | .clz t .. | .popc t ..
  | .cmpeq t .. | .cmpne t .. | .cmplt t .. | .cmpge t .. | .cmpltu t .. | .cmpgeu t .. | .qand t .. | .qor t ..
  | .qxor t .. | .pcmpeq t .. | .pcmplt t .. | .pcmpge t .. | .qnot t .. | .padd t .. | .psub t .. | .pmax t ..
  | .pmov t .. | .mvgp t .. | .mvpgl t .. | .mvpgh t .. | .paddi t .. | .paddfi t .. | .rdpos t .. | .pstn t ..
  | .pwrt t .. | .waitpos t .. | .arm t .. | .disarm t .. | .rdhwm t .. | .addi t .. | .andi t .. | .ori t ..
  | .xori t .. | .lw t .. | .lh t .. | .lhu t .. | .lb t .. | .lbu t .. | .rdr t .. | .jmpr t .. | .sw t ..
  | .sh t .. | .sb t .. | .wrr t .. | .cmpeqi t .. | .cmplti t .. | .cmpltui t .. | .pld t .. | .pst t ..
  | .ldhi t .. | .slli t .. | .srli t .. | .srai t .. | .b t .. | .bl t .. | .fence t .. | .halt t .. | .trap t ..
  | .eret t .. | .brk t .. | .rdcyc t .. | .waitev t .. | .tsig t .. | .evclr t .. | .claim t .. | .recv t ..
  | .commit t .. | .take t .. | .settle t .. | .lacq t .. | .lrel t .. | .mbpost t .. | .evpost t .. | .dmakick t ..
  | .audit t .. => some t
  | _ => none

/-- The ring frame a command brings, when it goes around the ring: its header and what it carries. HELLO and LINKCTL are
received by rules of their own, a beacon changes on its way, and the delay frames go to the neighbour only (R355 to R357,
R359, R362). -/
def frameOf : Instr → Option (Hdr × RingMsg)
  | .config h pairs => some (h, .config pairs)
  | .close h c => some (h, .close c)
  | .endrun h slot ec => some (h, .endrun slot ec)
  | .voidrep h v => some (h, .voidrep v)
  | .void h v => some (h, .void v)
  | .mirror h r => some (h, .mirror r)
  | .watermark h sent settled event => some (h, .watermark sent settled event)
  | .mirack h q => some (h, .mirack q)
  | .mirreq h first last => some (h, .mirreq first last)
  | .probe h q => some (h, .probe q)
  | .probeans h q => some (h, .probeans q)
  | .relinquish h => some (h, .relinquish)
  | .swapreq h q => some (h, .swapreq q)
  | .swapack h q ok => some (h, .swapack q ok)
  | .msg h m => some (h, .msg m)
  | .msgstat h st dst => some (h, .msgstat st dst)
  | .stopnow h inc w => some (h, .stopnow inc w)
  | .stopreq h w => some (h, .stopreq w)
  | .assign h serial node role pathA pathB => some (h, .assign serial node role pathA pathB)
  | _ => none

/-- The node receives frames: it is powered and clocked, and its ring ports run (R365, R371). -/
def State.listens (s : State) : Bool := ! s.isOff && s.ringRuns

/-- The frame is the next one of its link, or not numbered, and its CRC is right (R355, R357). -/
def State.inTurn (s : State) (h : Hdr) : Bool :=
  s.listens && h.err ≠ .crc && (h.lseq = 0xFFFF || h.lseq = (s.link h.dir).nextIn)

/-- The form of a frame is right: no reserved field or TYPE, and fewer than 64 HOPS (R355, R356). -/
def formOk (h : Hdr) : Bool := h.err ≠ .form && h.hops < 64

/-- The node after its link has taken a frame: a numbered one is answered with LINKCTL and the next LSEQ is expected
(R357). -/
def State.linkTook (s : State) (h : Hdr) : State :=
  if h.lseq = 0xFFFF then s
  else (s.setLink h.dir { s.link h.dir with
    nextIn := ((s.link h.dir).nextIn + 1) % 0xFFFF, nakked := false }).linkctlOut (1 - h.dir) h.lseq false

/-- The node takes the frame: it is in turn and well formed, and its TERM is neither below the node's own nor, on a
Manager, above it (R325, R355). -/
def State.hears (s : State) (h : Hdr) : Bool :=
  s.inTurn h && formOk h && s.fld GLB_TERM_TERM ≤ h.term && ! (s.isManager && s.fld GLB_TERM_TERM < h.term)

/-- The node takes the frame and acts on it: a broadcast, or a unicast for it (R356). -/
def State.accepts (s : State) (h : Hdr) : Bool := s.hears h && s.frameHere h

/-- The node on which an accepted frame acts: its link has taken it, and a broadcast has gone on (R356, R357). -/
def State.heard (s : State) (h : Hdr) (m : RingMsg) : State :=
  if h.dst.isNone then (s.linkTook h).forward h m else s.linkTook h

/-- What still has an effect on a node that is off: its supplies and resets, the drive die's own events, the end of a
thermal shutdown, waking, and the test access port (R15, R243, R280, R319, R382, R389, R390).
DESIGN CHOICE (log entry 3). -/
def actsOff : Instr → Bool
  | .powerOnReset .. | .supplyDrop | .resetN _ | .driveDieSupplyChange _ | .heartbeatLoss | .brakeComparator .. | .lsiOpen ..
  | .lsiSettled | .lsiDiscrepancy _ | .thermalShutdownRelease _ | .wake _ | .dormantEntry | .jtagInstruction _ => true
  | _ => false

/-- Program memory, data memory and DRAM, and the table of the ledger's orders, are in canonical form. -/
def State.memWf (s : State) : Bool := s.pm.wf && s.dm.wf && s.dram.wf && tabWf none s.orders

/-- A command that starts the node or its position anew: a reset of the chip or of the logic die, the hard action of a die's
thermal model, the confirmation of a role, or a write that reaches GLB_RESET, the register at 0x30 (R28, R38, R280, R382). -/
def State.mayRestart (s : State) : Instr → Bool
  | .powerOnReset .. | .supplyDrop | .resetN _ | .chiprst .. | .logicrst _ | .roleConfirm .. => true
  | .thermalHardAction m => m < 2
  | .registerWrite bar a _ _ => bar = 0 && a = 0x30
  | .i2cWrite _ a _ => a = 0x30
  | .vltAliasdataWrite _ => s.fld VLT_ALIASADDR_ADDR = 0x30
  | .wrrTakesEffect t => (s.teller t).wrrq.any fun w => w.1 = 0x30
  | .actionFabricAck | .actionWriteTimeout | .comparatorCrossing | .heldComparatorFire =>
    s.stream.any fun a => a.kind = 1 && a.addr = 0x30
  | .dmaWriteComplete n =>
    match (s.dmaCh n).wr, (s.dmaCh n).desc with
    | (a, _) :: _, some d => d.dsp = 2 && a = 0x30
    | _, _ => false
  | _ => false

/-- A step is safe when it stops for nothing and keeps the memories canonical. -/
def SafeStep (s : State) : Prop := ∃ s', step s = .next s' ∧ (s.memWf = true → s'.memWf = true)

end Sys2Proof.Machine
end

