-- ==== Sys2Proof/WellFormed.lean ====
section
/-! DEFINITION. Which commands are well formed: every operand that names a register, a unit or a place of the node lies
in the range the spec gives that name. Operands that carry a value, a word of a register write or the bytes of a frame
are checked by the command itself. -/

namespace Sys2Proof

/-- The predicate a condition names is q0 to q3 (R66). -/
def Cond.wf : Cond → Bool
  | .always => true
  | .q n => n < 4
  | .nq n => n < 4

/-- A frame came in on one of the two ring directions (R354). -/
def Hdr.wf (h : Hdr) : Bool := h.dir < 2

/-- Tellers 0 to 15; general registers, 32; position registers, 8; predicates, 4 (R58, R60). -/
def Instr.wf : Instr → Bool
  | .powerOnReset _ _ _ => true
  | .supplyDrop => true
  | .resetN _ => true
  | .bootVerify _ _ => true
  | .chiprst _ _ => true
  | .logicrst _ => true
  | .driverst _ => true
  | .registerWrite _ _ _ _ => true
  | .portmapWrite _ => true
  | .outenWrite _ => true
  | .driveLinkFrame _ => true
  | .heartbeatLoss => true
  | .roleConfirm => true
  | .encoderEdge n _ _ => n < 4
  | .beaconSend => true
  | .beacon h _ => h.wf
  | .deadReckoning => true
  | .positionLost => true
  | .lineMasterEdge _ => true
  | .lineMasterTimeout => true
  | .timWposloRead => true
  | .timHwmloRead => true
  | .cldDateRead => true
  | .cldWtloRead => true
  | .cldCommit => true
  | .secondRollover => true
  | .cldTimerArm n => n < 8
  | .cldTimerDisarm n => n < 8
  | .wallTimerFire n => n < 8
  | .ptpSync _ _ => true
  | .ptpSyncLoss => true
  | .add t rd rs rt => t < 16 && rd < 32 && rs < 32 && rt < 32
  | .sub t rd rs rt => t < 16 && rd < 32 && rs < 32 && rt < 32
  | .and t rd rs rt => t < 16 && rd < 32 && rs < 32 && rt < 32
  | .or t rd rs rt => t < 16 && rd < 32 && rs < 32 && rt < 32
  | .xor t rd rs rt => t < 16 && rd < 32 && rs < 32 && rt < 32
  | .sll t rd rs rt => t < 16 && rd < 32 && rs < 32 && rt < 32
  | .srl t rd rs rt => t < 16 && rd < 32 && rs < 32 && rt < 32
  | .sra t rd rs rt => t < 16 && rd < 32 && rs < 32 && rt < 32
  | .mul t rd rs rt => t < 16 && rd < 32 && rs < 32 && rt < 32
  | .mulh t rd rs rt => t < 16 && rd < 32 && rs < 32 && rt < 32
  | .mulhu t rd rs rt => t < 16 && rd < 32 && rs < 32 && rt < 32
  | .divu t rd rs rt => t < 16 && rd < 32 && rs < 32 && rt < 32
  | .remu t rd rs rt => t < 16 && rd < 32 && rs < 32 && rt < 32
  | .div t rd rs rt => t < 16 && rd < 32 && rs < 32 && rt < 32
  | .rem t rd rs rt => t < 16 && rd < 32 && rs < 32 && rt < 32
  | .min t rd rs rt => t < 16 && rd < 32 && rs < 32 && rt < 32
  | .max t rd rs rt => t < 16 && rd < 32 && rs < 32 && rt < 32
  | .minu t rd rs rt => t < 16 && rd < 32 && rs < 32 && rt < 32
  | .maxu t rd rs rt => t < 16 && rd < 32 && rs < 32 && rt < 32
  | .adds t rd rs rt => t < 16 && rd < 32 && rs < 32 && rt < 32
  | .subs t rd rs rt => t < 16 && rd < 32 && rs < 32 && rt < 32
  | .sel t n rd rs rt => t < 16 && n < 4 && rd < 32 && rs < 32 && rt < 32
  | .clz t rd rs => t < 16 && rd < 32 && rs < 32
  | .popc t rd rs => t < 16 && rd < 32 && rs < 32
  | .xadd t rd rs rt => t < 16 && rd < 32 && rs < 32 && rt < 32
  | .xswap t rd rs rt => t < 16 && rd < 32 && rs < 32 && rt < 32
  | .cmpeq t rd rs rt => t < 16 && rd < 4 && rs < 32 && rt < 32
  | .cmpne t rd rs rt => t < 16 && rd < 4 && rs < 32 && rt < 32
  | .cmplt t rd rs rt => t < 16 && rd < 4 && rs < 32 && rt < 32
  | .cmpge t rd rs rt => t < 16 && rd < 4 && rs < 32 && rt < 32
  | .cmpltu t rd rs rt => t < 16 && rd < 4 && rs < 32 && rt < 32
  | .cmpgeu t rd rs rt => t < 16 && rd < 4 && rs < 32 && rt < 32
  | .qand t rd rs rt => t < 16 && rd < 4 && rs < 4 && rt < 4
  | .qor t rd rs rt => t < 16 && rd < 4 && rs < 4 && rt < 4
  | .qxor t rd rs rt => t < 16 && rd < 4 && rs < 4 && rt < 4
  | .qnot t rd rs => t < 16 && rd < 4 && rs < 4
  | .pcmpeq t rd rs rt => t < 16 && rd < 4 && rs < 8 && rt < 8
  | .pcmplt t rd rs rt => t < 16 && rd < 4 && rs < 8 && rt < 8
  | .pcmpge t rd rs rt => t < 16 && rd < 4 && rs < 8 && rt < 8
  | .padd t rd rs rt => t < 16 && rd < 8 && rs < 8 && rt < 8
  | .psub t rd rs rt => t < 16 && rd < 8 && rs < 8 && rt < 8
  | .pmov t rd rs => t < 16 && rd < 8 && rs < 8
  | .pmax t rd rs rt => t < 16 && rd < 8 && rs < 8 && rt < 8
  | .mvgp t rd rs rt => t < 16 && rd < 8 && rs < 32 && rt < 32
  | .mvpgl t rd rs => t < 16 && rd < 32 && rs < 8
  | .mvpgh t rd rs => t < 16 && rd < 32 && rs < 8
  | .paddi t pd ps _ => t < 16 && pd < 8 && ps < 8
  | .paddfi t pd ps _ => t < 16 && pd < 8 && ps < 8
  | .rdpos t pd => t < 16 && pd < 8
  | .pstn t pd ps station => t < 16 && pd < 8 && ps < 8 && station < 16
  | .pwrt t pd ps station => t < 16 && pd < 8 && ps < 8 && station < 16
  | .waitpos t ps => t < 16 && ps < 8
  | .waitposResume t => t < 16
  | .arm t ps n => t < 16 && ps < 8 && n < 4096
  | .disarm t n => t < 16 && n < 4096
  | .rdhwm t pd => t < 16 && pd < 8
  | .addi t rd rs _ => t < 16 && rd < 32 && rs < 32
  | .andi t rd rs _ => t < 16 && rd < 32 && rs < 32
  | .ori t rd rs _ => t < 16 && rd < 32 && rs < 32
  | .xori t rd rs _ => t < 16 && rd < 32 && rs < 32
  | .ldhi t rd _ => t < 16 && rd < 32
  | .slli t rd rs amt => t < 16 && rd < 32 && rs < 32 && amt < 32
  | .srli t rd rs amt => t < 16 && rd < 32 && rs < 32 && amt < 32
  | .srai t rd rs amt => t < 16 && rd < 32 && rs < 32 && amt < 32
  | .lw t rd rs _ => t < 16 && rd < 32 && rs < 32
  | .lh t rd rs _ => t < 16 && rd < 32 && rs < 32
  | .lhu t rd rs _ => t < 16 && rd < 32 && rs < 32
  | .lb t rd rs _ => t < 16 && rd < 32 && rs < 32
  | .lbu t rd rs _ => t < 16 && rd < 32 && rs < 32
  | .sw t rt rs _ => t < 16 && rt < 32 && rs < 32
  | .sh t rt rs _ => t < 16 && rt < 32 && rs < 32
  | .sb t rt rs _ => t < 16 && rt < 32 && rs < 32
  | .rdr t rd rs _ => t < 16 && rd < 32 && rs < 32
  | .wrr t rt rs _ => t < 16 && rt < 32 && rs < 32
  | .wrrTakesEffect t => t < 16
  | .fabricTimeout t _ => t < 16
  | .pld t pd rs _ => t < 16 && pd < 8 && rs < 32
  | .pst t rt rs _ => t < 16 && rt < 8 && rs < 32
  | .cmpeqi t rd rs _ => t < 16 && rd < 4 && rs < 32
  | .cmplti t rd rs _ => t < 16 && rd < 4 && rs < 32
  | .cmpltui t rd rs _ => t < 16 && rd < 4 && rs < 32
  | .jmpr t rd rs _ => t < 16 && rd < 32 && rs < 32
  | .b t cond _ => t < 16 && cond.wf
  | .bl t cond _ => t < 16 && cond.wf
  | .fence t => t < 16
  | .halt t => t < 16
  | .trap t k => t < 16 && k < 32
  | .eret t => t < 16
  | .brk t => t < 16
  | .rdcyc t rd => t < 16 && rd < 32
  | .tellerWatchdog t => t < 16
  | .waitev t rd rs => t < 16 && rd < 32 && rs < 32
  | .waitevResume t => t < 16
  | .tsig t rd rs bit => t < 16 && rd < 32 && rs < 32 && bit < 32
  | .evclr t rs => t < 16 && rs < 32
  | .claim t rd rs => t < 16 && rd < 32 && rs < 32
  | .recv t rd rt => t < 16 && rd < 32 && rt < 32
  | .commit t rd rs => t < 16 && rd < 32 && rs < 32
  | .take t rd rs rt => t < 16 && rd < 32 && rs < 32 && rt < 32
  | .settle t rd rs rt => t < 16 && rd < 32 && rs < 32 && rt < 32
  | .lacq t rd rs => t < 16 && rd < 32 && rs < 32
  | .lrel t rd rs => t < 16 && rd < 32 && rs < 32
  | .mbpost t rd rs rt => t < 16 && rd < 32 && rs < 32 && rt < 32
  | .evpost t rd rs rt => t < 16 && rd < 32 && rs < 32 && rt < 32
  | .dmakick t rd rs => t < 16 && rd < 32 && rs < 32
  | .audit t rd rs pn => t < 16 && rd < 32 && rs < 32 && pn < 8
  | .tlrGo _ => true
  | .tlrStop _ => true
  | .tlrRst _ _ => true
  | .comparatorCrossing => true
  | .actionFabricAck => true
  | .actionWriteTimeout => true
  | .heldComparatorFire => true
  | .actionEntryWrite _ n word _ => n < 4096 && word < 4
  | .p0clr _ => true
  | .orderEccError h => h < 4096
  | .run => true
  | .stop => true
  | .commitAccept => true
  | .escrowClose => true
  | .close h _ => h.wf
  | .slotRelease slot stn => slot < 64 && stn < 16
  | .noclose stn => stn < 16
  | .endrun h slot _ => h.wf && slot < 64
  | .slotWindowStart slot stn => slot < 64 && stn < 16
  | .slotComplete slot => slot < 64
  | .voidrep h _ => h.wf
  | .void h _ => h.wf
  | .escVoidreq slot => slot < 64
  | .descriptorEccError _ _ => true
  | .sosEdge n _ width _ _ => n < 4 && width < 51201
  | .eosEdge n _ _ _ => n < 4
  | .sosPredict n _ => n < 4
  | .sweepBoundary n _ => n < 4
  | .plockEnable n _ => n < 4
  | .bandChange n => n < 4
  | .pllLossOfLock n => n < 4
  | .profileCommit n => n < 4
  | .referenceWindow _ _ => true
  | .referenceDead r => r < 2
  | .referenceSwitch => true
  | .swreq => true
  | .norefTimeout => true
  | .linkTrainingStart n => n < 4
  | .statusFrame n _ => n < 4
  | .retryStart n => n < 4
  | .missReportTimeout n => n < 4
  | .trainingTimeout n => n < 4
  | .overscanReportTimeout n e => n < 4 && e < 256
  | .laneReturn n => n < 4
  | .frameGapApply n => n < 4
  | .deadclrAll n => n < 4
  | .deadclrOne n e => n < 4 && e < 256
  | .storeEnable _ _ => true
  | .stoFormat _ => true
  | .reserve a => a < 1024
  | .release a => a < 1024
  | .releaseComplete ext => ext < 65536
  | .ingest a => a < 1024
  | .cancel a => a < 1024
  | .ingestDatagram p _ => p < 2
  | .ingestComplete ext => ext < 65536
  | .ingestTimeout ext => ext < 65536
  | .prefetchIssue => true
  | .nvmeCompletion drive _ _ _ => drive < 16
  | .nvmeTimeout _ => true
  | .readDeadline slot stn _ => slot < 64 && stn < 16
  | .tileDecode slot stn _ _ => slot < 64 && stn < 16
  | .driveViolation drive _ => drive < 16
  | .dmaArm n => n < 64
  | .dmaAbort n => n < 64
  | .dmaPause n _ => n < 64
  | .go n => n < 64
  | .clrerr n => n < 64
  | .cont n => n < 64
  | .dmaTimerExpiry k => k < 8
  | .dmaTrigger n => n < 64
  | .dmaGrainStart n => n < 64
  | .descriptorFetch n _ _ => n < 64
  | .dmaReadComplete n _ _ => n < 64
  | .dmaWriteComplete n => n < 64
  | .dmaTimeout n what => n < 64 && what < 3
  | .start i => i < 16
  | .sensingEnd i _ _ _ _ _ => i < 12
  | .alignEnd i => i < 12
  | .stopCmd i => i < 16
  | .coast i => i < 16
  | .move i => i < 16
  | .pwmPeriod i _ => i < 16
  | .arcHoldEnd h => h < 16
  | .hvRegTimeout h => h < 16
  | .switchTransition c _ _ _ => c < 52
  | .driverFault _ _ _ => true
  | .brakeComparator a _ => a < 2
  | .brakeArmWrite a _ => a < 2
  | .coefficientCommit l => l < 128
  | .rcClr r => r < 16
  | .hvEnable h _ => h < 16
  | .acen h _ => h < 16
  | .zeroCrossing _ => true
  | .zeroCrossTimeout => true
  | .zoneTempUpdate z _ => z < 24
  | .thermalModelUpdate m _ _ _ => m < 48
  | .limitFactorStep m => m < 48
  | .thermalHardAction m => m < 48
  | .req n => n < 4
  | .reqd => true
  | .calibrationStart n => n < 5
  | .calibrationEnd n _ => n < 5
  | .calibrationAbandon n => n < 5
  | .markEdge n => n < 16
  | .registrationCorrection slot => slot < 64
  | .missedMark slot stn => slot < 64 && stn < 16
  | .auditRequest _ => true
  | .auditStart i => i < 16
  | .auditSuspend i => i < 16
  | .auditComplete i _ => i < 16
  | .faultSourceEvent bit _ _ => bit < 24
  | .graceExpiry bit => bit < 24
  | .quietPeriodEnd bit => bit < 24
  | .fltBlkrst _ bit => bit < 24
  | .pinReadbackError _ _ => true
  | .lsiOpen _ _ => true
  | .lsiSettled => true
  | .lsiDiscrepancy _ => true
  | .rearm => true
  | .fltRun => true
  | .mirror h _ => h.wf
  | .watermark h _ _ _ => h.wf
  | .mirack h _ => h.wf
  | .mirreq h _ _ => h.wf
  | .beaconMissing => true
  | .probe h _ => h.wf
  | .probeans h _ => h.wf
  | .probeTimeout => true
  | .enableSwapEnd => true
  | .relinquish h => h.wf
  | .relinq => true
  | .ownBeaconLoss => true
  | .swap => true
  | .swapreq h _ => h.wf
  | .swapack h _ _ => h.wf
  | .swapBoundary => true
  | .nodelost n => n < 32
  | .accRst _ a _ => a < 1024
  | .body a => a < 1024
  | .submit a => a < 1024
  | .send a => a < 1024
  | .mbCommit a => a < 1024
  | .mbLacq a => a < 1024
  | .mbLrel a => a < 1024
  | .load a _ => a < 1024
  | .keyprov a => a < 1024
  | .keyrevoke a => a < 1024
  | .mailboxTimeout a => a < 1024
  | .evqHeadWrite a _ => a < 1024
  | .evqEnable a => a < 1024
  | .evqDisable a => a < 1024
  | .msixModerationExpiry a => a < 1024
  | .functionLevelReset => true
  | .hostPerstN => true
  | .ethernetFrame p _ _ => p < 2
  | .linkctl h _ _ => h.wf
  | .linkRetransmitTimeout d _ => d < 2
  | .msg h _ => h.wf
  | .msgstat h _ _ => h.wf
  | .msgTimeout _ _ => true
  | .stopreq h _ => h.wf
  | .stopnow h _ _ => h.wf
  | .now => true
  | .auxStopEdge _ => true
  | .hello h _ _ _ _ _ _ => h.wf
  | .assign h _ _ _ _ _ => h.wf
  | .config h _ => h.wf
  | .dlyprobe h _ => h.wf
  | .dlyecho h _ _ => h.wf
  | .commitrb => true
  | .vltAliasdataWrite _ => true
  | .vltMembersWrite h _ => h < 2
  | .dormantEntry => true
  | .dormantSleep => true
  | .wake _ => true
  | .i2cWrite _ _ _ => true
  | .i2cRead _ _ => true
  | .jtagInstruction i => i < 6
  | .headLinkSlot n => n < 4
  | .referenceSwitchComplete => true
  | .pllLockAcquired n => n < 4
  | .referenceEdgeReturn r => r < 2
  | .driveDieSupplyChange _ => true
  | .thermalShutdownRelease _ => true
  | .illegalWordFetch t => t < 16
  | .tellerImageLoad => true
  | .driveFatalStatus drive => drive < 16
  | .hostLinkDown => true
  | .poisonedTlp => true
  | .ethernetLinkDown p => p < 2
  | .uncorrectableCodeword p => p < 2
  | .ringLinkUp d => d < 2
  | .acExcitationCycle h => h < 16

end Sys2Proof
end

