-- ==== Sys2Proof/Certificates/Slice0/Obligations.lean ====
section
/-! DEFINITION. What the provers are asked: the rules of the manual as statements about the node, family by family. -/

open Sys2Proof Sys2Proof.Machine

/-! Steps and reset. -/

/-- One step is the front command's effect, with the rest of the queue left waiting. -/
def Obligations.StepRunsTheFrontCommand : Prop :=
  ∀ (c : Instr) (cs : List Instr) (s : State),
    step { s with pending := c :: cs } = exec c { s with pending := cs }

/-- With no command waiting a step passes one teller cycle, and a node that is off does nothing. On any other node the
cycle count is one higher, and unless an action that writes a teller's registers is due, CYC of each waiting teller is one
higher and CYC of every other teller stays (R60). The tick itself is the model's choice (log entry 2). -/
def Obligations.EmptyQueuePassesTime : Prop :=
  ∀ s : State, s.pending = [] → (s.isOff = true → step s = .next s) ∧ (∃ t, step s = .next t) ∧
    (s.isOff = false → (∀ a rest, s.stream = a :: rest → a.slow = true) →
      ∃ t, step s = .next t ∧ t.time.cycles = s.time.cycles + 1 ∧
        ∀ u, u < 16 → (t.teller u).cyc = (s.teller u).cyc + (if (s.teller u).st = .waiting then 1 else 0))

/-- Reset leaves every register field at the reset value of its table, every teller halted with its registers 0, both
teller memories 0 and canonical, no comparator armed, the ledger empty, no command waiting (R28 and the register tables, R62, R90).
The model's own choices in it: log entry 7. -/
def Obligations.ResetState : Prop :=
  (∀ f : Field, State.reset.fld f = f.reset) ∧
  (∀ t, (State.reset.teller t).st = .halted ∧ (State.reset.teller t).pc = 0 ∧ (State.reset.teller t).tm = false ∧
    ∀ r, (State.reset.teller t).getG r = 0) ∧
  (∀ a, memByte State.reset.pm a = 0 ∧ memByte State.reset.dm a = 0) ∧
  (∀ n, (State.reset.cmp n).armed = false) ∧ (∀ h, State.reset.order h = none) ∧ State.reset.pending = [] ∧
  State.reset.memWf = true

/-! Encoding of the teller instructions (R64 to R77). -/

/-- Words written out from the tables of R64 to R77 decode to the instructions they stand for; the check values of CRC-8 and
CRC-32C over the nine bytes of "123456789" are those of R175 and R10. -/
def Obligations.WordsOfTheManual : Prop :=
  (decodeWord 3 0x20A00064 = some (.addi 3 5 0 100) ∧ decodeWord 0 0x40E2000C = some (.lw 0 7 2 12) ∧
   decodeWord 0 0x04232002 = some (.cmplt 0 1 3 4) ∧ decodeWord 4 0xA2206EBA = some (.paddi 4 4 2 28346) ∧
   decodeWord 4 0xA0360208 = some (.arm 4 3 520) ∧ decodeWord 1 0xE0860008 = some (.waitev 1 4 6) ∧
   decodeWord 1 0xC0BFFFFD = some (.b 1 (.q 1) (-3)) ∧ decodeWord 0 0x00000000 = some (.add 0 0 0 0) ∧
   decodeWord 0 0xFC000000 = none ∧ decodeWord 0 0x04A00000 = none) ∧
  (crc8 0 ((List.range 9).flatMap fun i => msbBits (0x31 + i) 8) = 0xF4 ∧
   crc32c ((List.range 9).map fun i => BitVec.ofNat 8 (0x31 + i)) = 0xE3069283)

/-- The word of every well-formed teller instruction decodes to that instruction, every operand at every value its
field admits. -/
def Obligations.DecodeOfEncode : Prop :=
  ∀ i : Instr, i.wf = true → ∀ w, encodeWord i = some w → ∃ t, t < 16 ∧ decodeWord t w = some i

/-- Decoding drops no bit: an instruction read from a word has exactly that word, and is well formed (R65: every other
word is illegal). -/
def Obligations.EncodeOfDecode : Prop :=
  ∀ t, t < 16 → ∀ (w : Word) (i : Instr), decodeWord t w = some i → i.wf = true ∧ encodeWord i = some w

/-! Integer, compare and predicate instructions (R68, R69, R74). -/

/-- The integer instructions of R68 whose result depends on two registers: gd, PC and CYC. -/
def Obligations.IntegerResults : Prop :=
  ∀ (s : State) (t rd rs rt : Nat), s.runs t = true →
    let a := (s.teller t).getG rs
    let b := (s.teller t).getG rt
    let gives (i : Instr) (v : Word) (cycles : Nat) : Prop := exec i s = .next (s.putG t rd v cycles)
    gives (.add t rd rs rt) (a + b) 1 ∧ gives (.sub t rd rs rt) (a - b) 1 ∧
    gives (.and t rd rs rt) (a &&& b) 1 ∧ gives (.or t rd rs rt) (a ||| b) 1 ∧ gives (.xor t rd rs rt) (a ^^^ b) 1 ∧
    gives (.sll t rd rs rt) (a <<< (b.toNat % 32)) 1 ∧ gives (.srl t rd rs rt) (a >>> (b.toNat % 32)) 1 ∧
    gives (.sra t rd rs rt) (a.sshiftRight (b.toNat % 32)) 1 ∧ gives (.mul t rd rs rt) (a * b) 2 ∧
    gives (.mulh t rd rs rt) (BitVec.ofInt 32 (a.toInt * b.toInt / 2 ^ 32)) 2 ∧
    gives (.mulhu t rd rs rt) (BitVec.ofNat 32 (a.toNat * b.toNat / 2 ^ 32)) 2 ∧
    gives (.min t rd rs rt) (if a.slt b then a else b) 1 ∧ gives (.max t rd rs rt) (if a.slt b then b else a) 1 ∧
    gives (.minu t rd rs rt) (if a.ult b then a else b) 1 ∧ gives (.maxu t rd rs rt) (if a.ult b then b else a) 1 ∧
    gives (.adds t rd rs rt)
      (if a.toInt + b.toInt > 0x7FFFFFFF then 0x7FFFFFFF
        else if a.toInt + b.toInt < -0x80000000 then 0x80000000 else a + b) 1 ∧
    gives (.subs t rd rs rt)
      (if a.toInt - b.toInt > 0x7FFFFFFF then 0x7FFFFFFF
        else if a.toInt - b.toInt < -0x80000000 then 0x80000000 else a - b) 1

/-- Division and remainder of R68: a zero divisor gives 0 and is counted, 0x8000_0000 / −1 saturates; 18 cycles. SEL, CLZ
and POPC: CLZ counts the zero bits above the highest 1, POPC the 1 bits (R68). -/
def Obligations.DivideSelectAndCount : Prop :=
  (∀ (s : State) (t rd rs rt : Nat), s.runs t = true →
     let a := (s.teller t).getG rs
     let b := (s.teller t).getG rt
     let counted := if b = 0 then s.inc (TLR_DIVZ_COUNT t) else s
     let gives (i : Instr) (v : Word) : Prop := exec i s = .next (counted.putG t rd v 18)
     gives (.divu t rd rs rt) (if b = 0 then 0 else BitVec.ofNat 32 (a.toNat / b.toNat)) ∧
     gives (.remu t rd rs rt) (if b = 0 then 0 else BitVec.ofNat 32 (a.toNat % b.toNat)) ∧
     gives (.div t rd rs rt) (if b = 0 then 0 else if a = 0x80000000 ∧ b = 0xFFFFFFFF then 0x7FFFFFFF
       else BitVec.ofInt 32 (a.toInt.tdiv b.toInt)) ∧
     gives (.rem t rd rs rt) (if b = 0 then 0 else BitVec.ofInt 32 (a.toInt.tmod b.toInt))) ∧
  (∀ (s : State) (t n rd rs rt : Nat), s.runs t = true →
     let x := s.teller t
     let a := x.getG rs
     exec (.sel t n rd rs rt) s = .next (s.putG t rd (if x.getQ n then a else x.getG rt) 1) ∧
     (∃ v : Word, exec (.clz t rd rs) s = .next (s.putG t rd v 1) ∧ v.toNat ≤ 32 ∧
       (∀ i, 32 - v.toNat ≤ i → a.getLsbD i = false) ∧ (v.toNat < 32 → a.getLsbD (31 - v.toNat) = true)) ∧
     exec (.popc t rd rs) s =
       .next (s.putG t rd (BitVec.ofNat 32 ((List.range 32).filter fun i => a.getLsbD i).length) 1))

/-- Compares and predicate operations (R69) and the compares with an immediate (R74). -/
def Obligations.PredicateResults : Prop :=
  ∀ (s : State) (t qd rs rt : Nat) (imm : BitVec 16), s.runs t = true →
    let x := s.teller t
    let a := x.getG rs
    let b := x.getG rt
    let u := x.getP rs
    let v := x.getP rt
    let gives (i : Instr) (r : Bool) : Prop := exec i s = .next (s.putQ t qd r)
    gives (.cmpeq t qd rs rt) (a == b) ∧ gives (.cmpne t qd rs rt) (a != b) ∧ gives (.cmplt t qd rs rt) (a.slt b) ∧
    gives (.cmpge t qd rs rt) (! a.slt b) ∧ gives (.cmpltu t qd rs rt) (a.ult b) ∧
    gives (.cmpgeu t qd rs rt) (! a.ult b) ∧
    gives (.qand t qd rs rt) (x.getQ rs && x.getQ rt) ∧ gives (.qor t qd rs rt) (x.getQ rs || x.getQ rt) ∧
    gives (.qxor t qd rs rt) (x.getQ rs != x.getQ rt) ∧ gives (.qnot t qd rs) (! x.getQ rs) ∧
    gives (.pcmpeq t qd rs rt) (u == v) ∧ gives (.pcmplt t qd rs rt) (u.ult v) ∧
    gives (.pcmpge t qd rs rt) (! u.ult v) ∧
    gives (.cmpeqi t qd rs imm) (a == imm.signExtend 32) ∧ gives (.cmplti t qd rs imm) (a.slt (imm.signExtend 32)) ∧
    gives (.cmpltui t qd rs imm) (a.ult (imm.zeroExtend 32))

/-- The immediate forms of R74: ADDI sign-extends, the logical forms zero-extend, LDHI fills the high half, the shifts
take 0 to 31. -/
def Obligations.ImmediateResults : Prop :=
  ∀ (s : State) (t rd rs sh : Nat) (imm : BitVec 16), s.runs t = true → sh < 32 →
    let a := (s.teller t).getG rs
    let gives (i : Instr) (v : Word) : Prop := exec i s = .next (s.putG t rd v 1)
    gives (.addi t rd rs imm) (a + imm.signExtend 32) ∧ gives (.andi t rd rs imm) (a &&& imm.zeroExtend 32) ∧
    gives (.ori t rd rs imm) (a ||| imm.zeroExtend 32) ∧ gives (.xori t rd rs imm) (a ^^^ imm.zeroExtend 32) ∧
    gives (.ldhi t rd imm) (imm ++ (0 : BitVec 16)) ∧ gives (.slli t rd rs sh) (a <<< sh) ∧
    gives (.srli t rd rs sh) (a >>> sh) ∧ gives (.srai t rd rs sh) (a.sshiftRight sh)

/-- Position registers (R61, R70, R71): sums modulo 2⁶⁴ and unsigned comparisons, the moves, the published WPOS, the
high-water mark and the station offsets and drum arcs as they stand; adding a station's offset to a station position
below zero gives the WPOS it came from. -/
def Obligations.PositionResults : Prop :=
  ∀ (s : State) (t d rs rt st : Nat) (imm : BitVec 16), s.runs t = true → st < 16 →
    let x := s.teller t
    let a := x.getP rs
    let b := x.getP rt
    let lines (n : Nat) : Pos := BitVec.ofNat 64 (n * 2 ^ 16)
    let gives (i : Instr) (v : Pos) : Prop := exec i s = .next (s.putP t d v 1)
    gives (.padd t d rs rt) (a + b) ∧ gives (.psub t d rs rt) (a - b) ∧ gives (.pmov t d rs) a ∧
    gives (.pmax t d rs rt) (if a.ult b then b else a) ∧
    exec (.pcmpeq t d rs rt) s = .next (s.putQ t d (a == b)) ∧
    exec (.pcmplt t d rs rt) s = .next (s.putQ t d (a.ult b)) ∧
    exec (.pcmpge t d rs rt) s = .next (s.putQ t d (! a.ult b)) ∧
    (∀ w : Pos, a = w - lines (s.fld (TIM_STOFF_LINES st)) → gives (.pstn t d rs st) w) ∧ gives (.mvgp t d rs rt) (x.getG rt ++ x.getG rs) ∧
    exec (.mvpgl t d rs) s = .next (s.putG t d (a.extractLsb' 0 32) 1) ∧
    exec (.mvpgh t d rs) s = .next (s.putG t d (a.extractLsb' 32 32) 1) ∧
    gives (.paddi t d rs imm) (a + imm.signExtend 64 * 65536) ∧ gives (.paddfi t d rs imm) (a + imm.signExtend 64) ∧
    gives (.rdpos t d) (BitVec.ofNat 64 s.wpos) ∧
    gives (.rdhwm t d) (if s.isWorker then 0
      else BitVec.ofNat 64 (s.fld TIM_HWMHI_HWM * 2 ^ 32 + s.fld TIM_HWMLO_HWM)) ∧
    gives (.pstn t d rs st) (a + lines (s.fld (TIM_STOFF_LINES st))) ∧
    gives (.pwrt t d rs st) (a + lines (s.fld (TIM_STOFF_LINES st)) - lines (s.fld (TIM_DRUMARC_LINES st)))

/-- What a register-only instruction leaves alone: every register but its destination, the trap state, TEV and the write
queue of its teller, every other teller, every register of the maps, both memories, the DRAM, the comparators, the ledger,
the locks, the escrow, the position and all the rest of the node. g0 reads as 0 and writes to it are discarded; every
other general register reads what was written to it last (R60). -/
def Obligations.RegisterFrameAndZero : Prop :=
  (∀ (s s' : State) (i : Instr) (t : Nat) (d : Dest), regOnly i = some (t, d) → s.runs t = true → exec i s = .next s' →
     { s' with tellers := s.tellers } = s ∧ (∀ u, u ≠ t → s'.teller u = s.teller u) ∧
     (∀ r, d ≠ .g r → (s'.teller t).getG r = (s.teller t).getG r) ∧
     (∀ r, d ≠ .p r → (s'.teller t).getP r = (s.teller t).getP r) ∧
     (∀ r, d ≠ .q r → (s'.teller t).getQ r = (s.teller t).getQ r) ∧
     (s'.teller t).pc = (s.teller t).pc + 4 ∧
     { s'.teller t with
       g := (s.teller t).g, p := (s.teller t).p, q := (s.teller t).q
       pc := (s.teller t).pc, cyc := (s.teller t).cyc } = s.teller t) ∧
  (∀ (x : Teller) (r u : Nat) (v : Word), x.getG 0 = 0 ∧ x.setG 0 v = x ∧
     (r ≠ 0 → (x.setG r v).getG r = v ∧ (u ≠ r → (x.setG r v).getG u = x.getG u)))

/-! Data memory (R62, R68, R74, R85). -/

/-- Loads: little-endian, the half-words and bytes sign- or zero-extended, PLD eight bytes (R74). A corrected error of a
word read is counted in TLR_ECCCNT and changes nothing else; an uncorrectable one sets TLR_FSTAT.DMECC and raises MEMERR
with the address, and nothing is loaded (R62, R88). -/
def Obligations.LoadResults : Prop :=
  ∀ (s : State) (t d rs : Nat) (imm : BitVec 16), s.runs t = true →
    let a := ((s.teller t).getG rs + imm.signExtend 32).toNat
    let b (k : Nat) : Nat := (memByte s.dm (a + k)).toNat
    let fits (n : Nat) : Prop := a % n = 0 ∧ a + n ≤ dmSize
    let err (k : Nat) : Nat := tabGet 0 s.dmErr (a / 4 + k)
    let once : State := if err 0 = 1 then s.inc TLR_ECCCNT_DATA else s
    let twice : State := if err 1 = 1 then once.inc TLR_ECCCNT_DATA else once
    let loads (i : Instr) (n : Nat) (v : Word) : Prop := fits n →
      (err 0 ≠ 2 → exec i s = .next (once.putG t d v 2)) ∧
      (err 0 = 2 → exec i s = .next ((s.raise 1 srcDmecc).trap t 8 a))
    loads (.lw t d rs imm) 4 (BitVec.ofNat 32 (b 0 + 2 ^ 8 * b 1 + 2 ^ 16 * b 2 + 2 ^ 24 * b 3)) ∧
    loads (.lh t d rs imm) 2 ((BitVec.ofNat 16 (b 0 + 2 ^ 8 * b 1)).signExtend 32) ∧
    loads (.lhu t d rs imm) 2 (BitVec.ofNat 32 (b 0 + 2 ^ 8 * b 1)) ∧
    loads (.lb t d rs imm) 1 ((memByte s.dm a).signExtend 32) ∧
    loads (.lbu t d rs imm) 1 ((memByte s.dm a).zeroExtend 32) ∧
    (fits 8 → err 0 ≠ 2 → err 1 ≠ 2 → exec (.pld t d rs imm) s =
      .next (twice.putP t d (BitVec.ofNat 64 (b 0 + 2 ^ 8 * b 1 + 2 ^ 16 * b 2 + 2 ^ 24 * b 3
        + 2 ^ 32 * (b 4 + 2 ^ 8 * b 5 + 2 ^ 16 * b 6 + 2 ^ 24 * b 7))) 3)) ∧
    (fits 8 → err 0 = 2 ∨ err 1 = 2 → exec (.pld t d rs imm) s = .next ((s.raise 1 srcDmecc).trap t 8 a))

/-- Stores write the low bytes of the source little-endian at gs + sext(imm), and every byte outside them, every register
and every other teller stays as it was (R74). XADD and XSWAP: gd takes the old word at gs, the word becomes old + gt or gt,
every other byte stays (R68). The written words have fresh check bits and every other word the ones it had; SW and PST
repair a word whatever its error was. SH, SB, XADD and XSWAP read the word first: they count a corrected error, and on an
uncorrectable one raise MEMERR and leave the word unchanged (R62, R88). -/
def Obligations.StoreAndAtomicResults : Prop :=
  ∀ (s : State) (t rd rt rs : Nat) (imm : BitVec 16), s.runs t = true →
    let x := s.teller t
    let err (a : Nat) : Nat := tabGet 0 s.dmErr (a / 4)
    let counted (a : Nat) : State := if err a = 1 then s.inc TLR_ECCCNT_DATA else s
    let stored (i : Instr) (a n v : Nat) (x' : Teller) (base : State) : Prop := ∃ s', exec i s = .next s' ∧
      (∀ k, k < n → (memByte s'.dm (a + k)).toNat = v / 2 ^ (8 * k) % 2 ^ 8) ∧
      (∀ j, j < a ∨ a + n ≤ j → memByte s'.dm j = memByte s.dm j) ∧
      (∀ w, tabGet 0 s'.dmErr w = if a / 4 ≤ w ∧ w ≤ (a + n - 1) / 4 then 0 else tabGet 0 s.dmErr w) ∧
      s'.teller t = x' ∧ (∀ u, u ≠ t → s'.teller u = s.teller u) ∧
      { s' with dm := s.dm, dmErr := s.dmErr, tellers := s.tellers } = base
    let fits (a n : Nat) : Prop := a % n = 0 ∧ a + n ≤ dmSize
    let a := (x.getG rs + imm.signExtend 32).toNat
    let damaged (i : Instr) (a : Nat) : Prop := ∃ s', exec i s = .next s' ∧ s' = (s.raise 1 srcDmecc).trap t 8 a ∧
      s'.dm = s.dm ∧ s'.dmErr = s.dmErr
    (fits a 4 → stored (.sw t rt rs imm) a 4 (x.getG rt).toNat (x.adv 1) s) ∧
    (fits a 8 → stored (.pst t rt rs imm) a 8 (x.getP rt).toNat (x.adv 2) s) ∧
    (fits a 2 → (err a ≠ 2 → stored (.sh t rt rs imm) a 2 (x.getG rt).toNat (x.adv 2) (counted a)) ∧
      (err a = 2 → damaged (.sh t rt rs imm) a)) ∧
    (fits a 1 → (err a ≠ 2 → stored (.sb t rt rs imm) a 1 (x.getG rt).toNat (x.adv 2) (counted a)) ∧
      (err a = 2 → damaged (.sb t rt rs imm) a)) ∧
    (let m := (x.getG rs).toNat
     let old : Word := BitVec.ofNat 32 (memLoad s.dm m 4)
     let x' := (x.setG rd old).adv 3
     fits m 4 →
     (err m ≠ 2 → stored (.xadd t rd rs rt) m 4 (old + x.getG rt).toNat x' (counted m) ∧
       stored (.xswap t rd rs rt) m 4 (x.getG rt).toNat x' (counted m)) ∧
     (err m = 2 → damaged (.xadd t rd rs rt) m ∧ damaged (.xswap t rd rs rt) m))

/-- A misaligned data address raises DALIGN, one outside data memory DRANGE, for every load, store and atomic operation;
the instruction has no other effect (R74, R88, R89). -/
def Obligations.DataAddressTraps : Prop :=
  ∀ (s : State) (t r rs rt : Nat) (imm : BitVec 16), s.runs t = true →
    let a := ((s.teller t).getG rs + imm.signExtend 32).toNat
    let g := ((s.teller t).getG rs).toNat
    let traps (i : Instr) (a n : Nat) : Prop :=
      (a % n ≠ 0 → exec i s = .next (s.trap t 3 a)) ∧
      (a % n = 0 → dmSize < a + n → exec i s = .next (s.trap t 4 a))
    traps (.lw t r rs imm) a 4 ∧ traps (.lh t r rs imm) a 2 ∧ traps (.lhu t r rs imm) a 2 ∧ traps (.lb t r rs imm) a 1 ∧
    traps (.lbu t r rs imm) a 1 ∧ traps (.pld t r rs imm) a 8 ∧ traps (.sw t r rs imm) a 4 ∧
    traps (.sh t r rs imm) a 2 ∧ traps (.sb t r rs imm) a 1 ∧ traps (.pst t r rs imm) a 8 ∧
    traps (.xadd t r rs rt) g 4 ∧ traps (.xswap t r rs rt) g 4

/-! Control flow and traps (R74, R75, R77, R88, R89). -/

/-- Branches and jumps: a condition that does not hold falls through in one cycle; a taken one goes to its target in
four, BL with the return address in g31; JMPR saves PC + 4; a bad target raises PADDR. -/
def Obligations.BranchesAndJumps : Prop :=
  ∀ (s : State) (t rd rs : Nat) (c : Cond) (off : BitVec 22) (imm : BitVec 16), s.runs t = true →
    let x := s.teller t
    let to' := x.pc + off.signExtend 32 * 4
    let jr := x.getG rs + imm.signExtend 32
    let good (w : Word) : Prop := w.toNat < pmSize ∧ w.toNat % 4 = 0
    let went (x' : Teller) (w : Word) : State := s.setTeller t { x' with pc := w, cyc := x.cyc + 4 }
    (condHolds x c = false → exec (.b t c off) s = .next (s.mapTeller t fun x => x.adv 1) ∧
      exec (.bl t c off) s = .next (s.mapTeller t fun x => x.adv 1)) ∧
    (condHolds x c = true → good to' → exec (.b t c off) s = .next (went x to') ∧
      exec (.bl t c off) s = .next (went (x.setG 31 (x.pc + 4)) to')) ∧
    (condHolds x c = true → ¬ good to' → exec (.b t c off) s = .next (s.trap t 2 to'.toNat) ∧
      exec (.bl t c off) s = .next (s.trap t 2 to'.toNat)) ∧
    (good jr → exec (.jmpr t rd rs imm) s = .next (went (x.setG rd (x.pc + 4)) jr)) ∧
    (¬ good jr → exec (.jmpr t rd rs imm) s = .next (s.trap t 2 jr.toNat))

/-- Trap entry (R89): TLR_EPC, TLR_CAUSE and TLR_TVAL take the address, the cause and the value; with TM = 0 and a vector
enabled TM becomes 1 and PC the vector; otherwise the teller is trap-halted with PC at the saved address. -/
def Obligations.TrapEntry : Prop :=
  ∀ (s : State) (t cause value : Nat), t < 16 → cause < 2 ^ (TLR_CAUSE_VALUE t).width → value < 2 ^ 32 →
    let x := s.teller t
    (x.tm = false → s.flag (TLR_TVEC_EN t) = true →
      let s' := s.trap t cause value
      s'.fld (TLR_EPC_VALUE t) = x.pc.toNat ∧ s'.fld (TLR_CAUSE_VALUE t) = cause ∧ s'.fld (TLR_TVAL_VALUE t) = value ∧
      s'.teller t = { x with
        tm := true, st := .running, wait := .none
        pc := BitVec.ofNat 32 (s.fld (TLR_TVEC_ADDR t) * 4), cyc := x.cyc + 4 } ∧
      s'.dm = s.dm ∧ s'.pm = s.pm ∧ ∀ u, u ≠ t → s'.teller u = s.teller u) ∧
    (x.tm = true ∨ s.flag (TLR_TVEC_EN t) = false →
      s.trap t cause value =
        ((((s.setFld (TLR_EPC_VALUE t) x.pc.toNat).setFld (TLR_CAUSE_VALUE t) cause).setFld (TLR_TVAL_VALUE t) value).setTeller t
          { x with st := .trapHalted, wait := .none }).raise 1 t)

/-- TRAP, BRK, ERET and HALT (R77, R88, R89): TRAP #k saves the next address and the value k, BRK its own; ERET returns
to TLR_EPC with TM = 0, and is illegal with TM = 0; HALT leaves PC at the next instruction; RDCYC reads CYC. A
fetched word that is no instruction raises ILLEGAL with the word as its value, a PC past program memory PADDR (R65,
R75). A fetched word with an uncorrectable error sets TLR_FSTAT.PMECC and raises MEMERR with its address, whatever the
instruction; a corrected error is counted in TLR_ECCCNT, and the instruction has its effect (R62, R88). -/
def Obligations.SystemResults : Prop :=
  ∀ (s : State) (t rd k : Nat), s.runs t = true → k < 32 →
    let x := s.teller t
    (x.tm = false → s.flag (TLR_TVEC_EN t) = true → ∃ s', exec (.trap t k) s = .next s' ∧
      s'.fld (TLR_EPC_VALUE t) = (x.pc + 4).toNat ∧ s'.fld (TLR_CAUSE_VALUE t) = 9 ∧ s'.fld (TLR_TVAL_VALUE t) = k ∧
      (s'.teller t).tm = true ∧ (s'.teller t).pc = BitVec.ofNat 32 (s.fld (TLR_TVEC_ADDR t) * 4)) ∧
    exec (.brk t) s = .next (s.trap t 10 0xE0000004) ∧
    (x.tm = true → exec (.eret t) s = .next (s.setTeller t
      { x with tm := false, pc := BitVec.ofNat 32 (s.fld (TLR_EPC_VALUE t)), cyc := x.cyc + 4 })) ∧
    (x.tm = false → exec (.eret t) s = .next (s.trap t 1 0xE0000003)) ∧
    exec (.halt t) s = .next (s.setTeller t { x with pc := x.pc + 4, cyc := x.cyc + 1, st := .halted }) ∧
    exec (.rdcyc t rd) s = .next (s.putG t rd x.cyc 1) ∧
    (decodeWord t (s.pmWord x.pc.toNat) = none →
      exec (.illegalWordFetch t) s = .next (s.trap t 1 (s.pmWord x.pc.toNat).toNat)) ∧
    (∀ s2 : State, s2.isOff = false → (s2.teller t).st = .running → (s2.teller t).wait = .none →
      pmSize ≤ (s2.teller t).pc.toNat → t < 16 →
      exec (.illegalWordFetch t) s2 = .next (s2.trap t 2 (s2.teller t).pc.toNat)) ∧
    (∀ s2 : State, let w := (s2.teller t).pc.toNat / 4
      let good : State := { s2 with pmErr := tabSet 0 s2.pmErr w 0 }
      good.runs t = true →
      (tabGet 0 s2.pmErr w = 2 → ∀ i, tellerOf i = some t →
        exec i s2 = .next ((s2.raise 1 srcPmecc).trap t 8 (s2.teller t).pc.toNat)) ∧
      (tabGet 0 s2.pmErr w = 1 → ∀ i d v, regOnly i = some (t, d) → exec i (good.inc TLR_ECCCNT_PROG) = .next v →
        exec i s2 = .next { v with pmErr := s2.pmErr }))

/-! Waiting, signals, the watchdog (R72, R77, R81, R82). -/

/-- WAITPOS, WAITEV, EVCLR, TSIG and FENCE, each with what it waits for, its status and cycles (R72, R75, R77, R81). A
waiting teller whose condition has come about runs on; one that outlasts a non-zero watchdog period traps at its wait
instruction with WDOG and the period (R72, R81, R82). The model's own choices in it: log entry 35. -/
def Obligations.WaitsAndSignals : Prop :=
  (∀ (s : State) (t rd rs b : Nat), s.runs t = true → s.settled t = true →
     let x := s.teller t
     let target := (x.getP rs).toNat
     let mask := x.getG rs
     (target ≤ s.wpos → exec (.waitpos t rs) s = .next (s.mapTeller t fun x => x.adv 1)) ∧
     (s.wpos < target → exec (.waitpos t rs) s = .next (s.setTeller t { x with st := .waiting, wait := .pos target })) ∧
     (x.tev &&& mask ≠ 0 ∨ mask = 0 → ∃ s', exec (.waitev t rd rs) s = .next s' ∧
       (rd ≠ 0 → (s'.teller t).getG rd = x.tev &&& mask) ∧ (s'.teller t).tev = x.tev &&& ~~~mask ∧
       (s'.teller t).pc = x.pc + 4) ∧
     (x.tev &&& mask = 0 → mask ≠ 0 →
       exec (.waitev t rd rs) s = .next (s.setTeller t { x with st := .waiting, wait := .ev rd mask })) ∧
     exec (.evclr t rs) s =
       .next (s.setTeller t { x with tev := x.tev &&& ~~~mask, pc := x.pc + 4, cyc := x.cyc + 1 }) ∧
     (mask.toNat ≤ 15 → b ≤ 15 → exec (.tsig t rd rs b) s = .next ((s.setTev mask.toNat b).putG t rd 0 2)) ∧
     (15 < mask.toNat ∨ 15 < b → exec (.tsig t rd rs b) s = .next (s.putG t rd 10 2)) ∧
     exec (.fence t) s = .next (s.mapTeller t fun x => x.adv 1)) ∧
  (∀ (s : State) (t rd target : Nat) (mask : Word), s.isOff = false →
     let x := s.teller t
     (x.wait = .pos target → target ≤ s.wpos → exec (.waitposResume t) s = .next (s.setTeller t
       { x with st := .running, wait := .none, pc := x.pc + 4, cyc := x.cyc + 2 })) ∧
     (x.wait = .ev rd mask → x.tev &&& mask ≠ 0 → ∃ s', exec (.waitevResume t) s = .next s' ∧
       (s'.teller t).st = .running ∧ (rd ≠ 0 → (s'.teller t).getG rd = x.tev &&& mask) ∧
       (s'.teller t).tev = x.tev &&& ~~~mask ∧ (s'.teller t).pc = x.pc + 4) ∧
     (x.st = .waiting → s.fld (TLR_WDOG_US t) ≠ 0 →
       exec (.tellerWatchdog t) s = .next (s.trap t 7 (s.fld (TLR_WDOG_US t)))))


/-! Register accesses (R5, R7, R25 to R28, R56, R73, R74, R83 to R86, R373, R388). -/

/-- Which accesses a teller is refused (R83): they raise ACCESS with the offset as the value, and the register is left
unchanged. -/
def Obligations.TellerReach : Prop :=
  ∀ (s : State) (t r rs : Nat) (imm : BitVec 16), s.runs t = true → s.settled t = true →
    let a := ((s.teller t).getG rs + imm.signExtend 32).toNat
    let reach : Prop := a % 4 = 0 ∧ a < 0xD00000 ∧ s.fbit (TLR_AMASK_WIN t) (a / 0x100000) = true ∧
      ¬ (0x210000 ≤ a ∧ a < 0x230000)
    let written : Prop := 0x100000 ≤ a ∧ a ≠ 0x20000C ∧ a ≠ 0x200014 ∧ a ≠ 0x200018 ∧ a ≠ 0x200020 ∧ a ≠ 0x200024 ∧
      ¬ (0x201000 ≤ a ∧ a < 0x202000 ∧ (a % 0x100 = 0x08 ∨ a % 0x100 = 0x28))
    (¬ reach → exec (.rdr t r rs imm) s = .next (s.trap t 5 a) ∧ exec (.wrr t r rs imm) s = .next (s.trap t 5 a)) ∧
    (¬ written → exec (.wrr t r rs imm) s = .next (s.trap t 5 a)) ∧
    (reach → s.tellerMay t a false = true ∧ (written → s.tellerMay t a true = true))

/-- RDR and WRR within the teller's reach: gd takes the register, in 6 cycles from a block of the teller domain and in at
most 2 µs from another; WRR enters the queue of eight, or stalls with the queue full; the oldest write reaches its
register and leaves the queue. An access not answered within 2 µs: an RDR raises BUSERR with the offset; a failed WRR
empties the queue, and BUSERR follows at the teller's next instruction that waits for the queue (R74, R84).
The model's own choices in it: log entries 12, 13, 14. -/
def Obligations.RegisterInstructions : Prop :=
  ∀ (s : State) (t rd rs : Nat) (imm : BitVec 16), s.runs t = true →
    let x := s.teller t
    let a := (x.getG rs + imm.signExtend 32).toNat
    let r := s.bar0Read (.teller t) a
    (s.settled t = true → s.tellerMay t a false = true →
      (0x100000 ≤ a ∧ a < 0x508000 → exec (.rdr t rd rs imm) s = .next (r.2.putG t rd (BitVec.ofNat 32 r.1) 6)) ∧
      (¬ (0x100000 ≤ a ∧ a < 0x508000) → ∃ c, 1 ≤ c ∧ c ≤ 1600 ∧ exec (.rdr t rd rs imm) s =
        .next ({ r.2 with freeCtr := r.2.freeCtr + 1 }.putG t rd (BitVec.ofNat 32 r.1) c))) ∧
    (s.tellerMay t a true = true →
      (x.wrrq.length < 8 → exec (.wrr t rd rs imm) s = .next (s.setTeller t
        { x with wrrq := x.wrrq ++ [(a, x.getG rd)], pc := x.pc + 4, cyc := x.cyc + 1 })) ∧
      (8 ≤ x.wrrq.length → exec (.wrr t rd rs imm) s = .next s)) ∧
    (∀ b v q, x.wrrq = (b, v) :: q → exec (.wrrTakesEffect t) s =
      .next ((({ s with wrrNow := s.wrrNow ++ [(t, b, v.toNat)] }.setTeller t { x with wrrq := q }).bar0Write (.teller t) b
        v.toNat).tellerResetDue t)) ∧
    (s.settled t = true → ∀ b, exec (.fabricTimeout t (some b)) s = .next (s.trap t 6 b)) ∧
    (∀ b v q, x.wrrq = (b, v) :: q → x.rstReq = false →
      let s1 := s.setTeller t { x with wrrq := [], busErr := some b }
      exec (.fabricTimeout t none) s = .next s1 ∧
      exec (.fence t) s1 = .next ((s.setTeller t { x with wrrq := [], busErr := none }).trap t 6 b))

/-- Writes by the host: fewer than four byte enables have no effect; a whole write sets a plain field, within its range,
clears a W1C bit where it is 1, and a write to an unimplemented offset is discarded and counted in GLB_BADACC. The I²C port
answers at 0x54 plus the strapped address only; it reads BAR0 below 0x0100_0000 and writes GLB_RESET alone; its other
writes and misaligned offsets are counted there (R5, R7, R26, R388). The model's own choices in it: log entry 10. -/
def Obligations.HostAndI2cAccesses : Prop :=
  ∀ (s : State) (a v be k dev : Nat), s.isOff = false →
    let h := s.hostAlive
    let here := 0x54 + s.pwr.straps.i2cAddr % 4
    (be % 16 ≠ 15 → ∀ bar a, exec (.registerWrite bar a v be) s = .next h) ∧
    (∀ bar a, exec (.registerWrite bar a v 15) s = .next (h.hostWrite bar a v)) ∧
    exec (.registerWrite 0 0x100060 v 15) s = .next (h.setFld TIM_REVDB_DB (max 256 (v % 2 ^ 16))) ∧
    (k < 16 → exec (.registerWrite 0 (0x20100C + 0x100 * k) v 15) s = .next (h.setFld (TLR_WDOG_US k) v)) ∧
    exec (.registerWrite 0 0x10 v 15) s = .next
      (let put (f : Field) (s : State) : State := s.setFld f (s.fld f ^^^ (s.fld f &&& v / 2 ^ f.lo % 2))
       put GLB_STATUS_MAPERR (put GLB_STATUS_KEYERR (put GLB_STATUS_DDHB (put GLB_STATUS_ENERR h)))) ∧
    exec (.registerWrite 0 0x1400000 v 15) s = .next (h.inc GLB_BADACC_COUNT) ∧
    exec (.vltAliasdataWrite v) s = .next (h.bar0Write .vault (h.fld VLT_ALIASADDR_ADDR) v) ∧
    (a % 4 = 0 → a < 0x1000000 → exec (.i2cRead here a) s = .next
      ((s.bar0Read .i2c a).2.emit (.port "read" a [(s.bar0Read .i2c a).1]))) ∧
    (a % 4 ≠ 0 ∨ 0x1000000 ≤ a → exec (.i2cRead here a) s = .next (s.inc GLB_BADACC_COUNT)) ∧
    (a ≠ 0x30 → exec (.i2cWrite here a v) s = .next (s.inc GLB_BADACC_COUNT)) ∧
    (v / 2 ^ 16 % 2 ^ 16 ≠ 0xD00D → exec (.i2cWrite here 0x30 v) s = .next (s.setFld GLB_STATUS_KEYERR 1)) ∧
    exec (.i2cWrite here 0x30 0xD00D0001) s = .next (s.freeStraps.2.chipReset 2 s.freeStraps.1) ∧
    (dev ≠ here → exec (.i2cRead dev a) s = .next s ∧ exec (.i2cWrite dev a v) s = .next s)

/-- A read of TIM_WPOSLO, TIM_HWMLO, CLD_DATE or CLD_WTLO answers the low part and captures the high parts at the same
instant, for the reads of the high registers that follow (R56). -/
def Obligations.CapturingReads : Prop :=
  ∀ s : State, s.isOff = false →
    let answers (c : Instr) (a v : Nat) (p : Posn) : Prop :=
      exec c s = .next { s with pos := p, out := s.out ++ [.port "read" a [v]] }
    answers .timWposloRead 0x100000 (s.wpos % 2 ^ 32) { s.pos with capWpos := s.wpos / 2 ^ 32 } ∧
    answers .timHwmloRead 0x100050 (s.fld TIM_HWMLO_HWM) { s.pos with capHwm := s.fld TIM_HWMHI_HWM } ∧
    answers .cldWtloRead 0x108028 (s.wall % 2 ^ 32) { s.pos with capWall := s.wall / 2 ^ 32 % 2 ^ 32 } ∧
    (let d := calWords s.time.sec s.time.ns
     answers .cldDateRead 0x108000 d.1 { s.pos with capDate := d } ∧
     ∀ t, exec .cldDateRead s = .next t → (t.bar0Read .host 0x108004).1 = d.2.1 ∧ (t.bar0Read .host 0x108008).1 = d.2.2) ∧
    (∀ t, exec .timWposloRead s = .next t → (t.bar0Read .host 0x100004).1 = s.wpos / 2 ^ 32) ∧
    (∀ t, exec .timHwmloRead s = .next t → (t.bar0Read .host 0x100054).1 = s.fld TIM_HWMHI_HWM) ∧
    (∀ t, exec .cldWtloRead s = .next t → (t.bar0Read .host 0x10802C).1 = s.wall / 2 ^ 32 % 2 ^ 32)

/-! Comparators, tellers under the host (R73, R90, R95 to R109). -/

/-- ARM and DISARM of a comparator of the teller's own bank: ARM takes ps as the target and the next arming number, and
clears the outcome of the arming before; DISARM of one that is not armed changes nothing; another bank's raises ACCESS
(R73, R97). -/
def Obligations.ArmAndDisarm : Prop :=
  ∀ (s : State) (t ps n : Nat), s.runs t = true → s.settled t = true →
    let x := { s.teller t with pc := (s.teller t).pc + 4, cyc := (s.teller t).cyc + 2 }
    let target := ((s.teller t).getP ps).toNat
    (n / 256 = t →
      (∃ s', exec (.arm t ps n) s = .next s' ∧ s'.cmp n = ⟨target, s.armSeq, true, true, false, false, false, false, false⟩ ∧
        s'.armSeq = s.armSeq + 1 ∧ (∀ m, m ≠ n → s'.cmp m = s.cmp m) ∧ s'.teller t = x ∧
        { s' with cmps := s.cmps, armSeq := s.armSeq, tellers := s.tellers } = s) ∧
      ((s.cmp n).armed = false → exec (.disarm t n) s = .next (s.setTeller t x)) ∧
      ((s.cmp n).armed = true → ∃ s', exec (.disarm t n) s = .next s' ∧ (s'.cmp n).armed = false ∧
        (∀ m, m ≠ n → s'.cmp m = s.cmp m) ∧ s'.teller t = x ∧
        { s' with cmps := s.cmps, tellers := s.tellers } = s)) ∧
    (n / 256 ≠ t → exec (.arm t ps n) s = .next (s.trap t 5 n) ∧ exec (.disarm t n) s = .next (s.trap t 5 n))

/-- The action table: a teller that TLR_AMASK grants the window writes the entries of its own bank, the host any, and nobody
that of an armed comparator; a discarded write sets ENTERR, and a teller without the grant takes ACCESS. TAU_P0CLR needs its key. A fabric write at the
front of the action stream takes effect at its acknowledgement; its time-out makes the firing fail, counted in BUSERR and
raised for its owner (R83, R99 to R101, R109). The model's own choices in it: log entry 16. -/
def Obligations.ActionTable : Prop :=
  ∀ (s : State) (n word v t grp : Nat), s.isOff = false → n < 4096 → word < 4 →
    let refused := Host.Outcome.next (s.setFld TAU_STATUS_ENTERR 1)
    let f : Field := ⟨0x290000 + 16 * n + 4 * word, 0, 32, .rw, 0, .any⟩
    let granted : Prop := s.fbit (TLR_AMASK_WIN t) 2 = true
    ((s.cmp n).armed = false → exec (.actionEntryWrite none n word v) s = .next (s.setFld f v) ∧
      (n / 256 = t → granted → exec (.actionEntryWrite (some t) n word v) s = .next (s.setFld f v))) ∧
    ((s.cmp n).armed = true → exec (.actionEntryWrite none n word v) s = refused) ∧
    (n / 256 ≠ t ∨ (s.cmp n).armed = true → granted → exec (.actionEntryWrite (some t) n word v) s = refused) ∧
    (¬ granted → exec (.actionEntryWrite (some t) n word v) s =
      .next (if (s.teller t).st = .running then s.trap t 5 f.addr else s)) ∧
    (v / 2 ^ 16 % 2 ^ 16 ≠ 0x9C10 → exec (.p0clr v) s = refused) ∧
    (grp < 5 → ∃ s', exec (.p0clr (0x9C100000 + 2 ^ grp)) s = .next s' ∧
      s'.fld (TAU_P0EN_BITS grp) &&& p0Range grp = 0 ∧ s'.fld (TAU_P0LVL_BITS grp) &&& p0Range grp = 0 ∧
      ∀ k, k < 5 → k ≠ grp → s'.fld (TAU_P0EN_BITS k) = s.fld (TAU_P0EN_BITS k) ∧
        s'.fld (TAU_P0LVL_BITS k) = s.fld (TAU_P0LVL_BITS k)) ∧
    (∀ a rest, s.stream = a :: rest → a.slow = true →
      exec .actionFabricAck s = .next ({ s with stream := rest }.act a).drainStream ∧
      exec .actionWriteTimeout s =
        .next (({ s with stream := rest }.inc TAU_FAILCNT_BUSERR).raise 2 (a.cmp / 256)).drainStream)

/-- What one armed comparator does when WPOS has reached its target, with no other armed and no action waiting: an entry
of kind NONE only fires it; in its first evaluation it is late, and counted; under INHIBIT it is skipped, held or fired by
INHPOL; with LATEPOL DROP a late one is dropped; a held one fires
once INHIBIT is clear, without being late (R96, R100, R104, R105). A WRITE to a register of the fast classes is made, one
to a fabric-reached register waits in the stream for its acknowledgement; a SIGNAL sets its TEV bit, a DMATRIG triggers its
channel, a P0 forces or releases its outputs at once, and SIGEN sets its TEV bit after the action (R98, R101, R102). An entry
with a reserved field or value, or with a word its kind does not use, fails as BADENT, a WRITE out of its reach as ACCESS:
the failure is counted in TAU_FAILCNT and raised for the owner (R100). Two comparators crossed together fire in target order,
equal targets in arming order, behind the actions of earlier cycles; of two forces of one output the later one decides
(R101, R102). Then the gates' interlock is looked at, as after every
command that may force a gate (R239), and the action stream drains. The model's own choices in it: log entry 15. -/
def Obligations.ComparatorOutcomes : Prop :=
  (∀ (s : State) (n : Nat) (c : Cmp), s.isOff = false → s.cmps = [(n, c)] → s.stream = [] → c.armed = true →
    n < 4096 →
    let ctl := s.fld ⟨0x290000 + 16 * n, 0, 32, .rw, 0, .any⟩
    let crossed : Prop := c.held = false ∧ c.target ≤ s.wpos
    let idle : Prop := ∀ k, k = 1 ∨ k = 2 ∨ k = 3 → s.fld ⟨0x290000 + 16 * n + 4 * k, 0, 32, .rw, 0, .any⟩ = 0
    let settles (s1 : State) := (s1.interlock 52).drainStream
    let ends (c' : Cmp) (s1 : State) : Prop := exec .comparatorCrossing s = .next (settles { s1 with cmps := [(n, c')] })
    let gone := { c with armed := false, held := false, fresh := false }
    (crossed → idle → ctl = 0x80 → c.fresh = false → ends { gone with fired := true, late := false } s) ∧
    (crossed → idle → ctl = 0x80 → c.fresh = true → ends { gone with fired := true, late := true } (s.inc TAU_LATECNT_COUNT)) ∧
    (crossed → ctl = 0 → s.inhibit = true → ends { gone with skipped := true } (s.inc TAU_SKIPCNT_COUNT)) ∧
    (crossed → ctl = 0x40 → s.inhibit = true → ends { c with fresh := false, held := true } s) ∧
    (crossed → ctl = 0x10 → s.inhibit = false → c.fresh = true → ends { gone with dropped := true } (s.inc TAU_DROPCNT_COUNT)) ∧
    (c.held = true → s.inhibit = true → exec .heldComparatorFire s = .next (settles s)) ∧
    (c.held = true → s.inhibit = false → idle → ctl = 0x40 → exec .heldComparatorFire s =
      .next (settles { s with cmps := [(n, { gone with fired := true, late := false })] })) ∧
    (crossed → s.inhibit = false → c.fresh = false →
      let w (k : Nat) : Nat := s.fld ⟨0x290000 + 16 * n + 4 * k, 0, 32, .rw, 0, .any⟩
      let field (hi lo : Nat) : Nat := w 0 / 2 ^ lo % 2 ^ (hi + 1 - lo)
      let kind := field 2 0
      let reach : Prop := w 1 % 4 = 0 ∧ 0x100000 ≤ w 1 ∧ w 1 < 0xD00000 ∧ ¬ (0x210000 ≤ w 1 ∧ w 1 < 0x230000) ∧
        ¬ (0x280000 ≤ w 1 ∧ w 1 < 0x300000) ∧ s.fbit (TLR_AMASK_WIN (n / 256)) (w 1 / 0x100000) = true
      let used (v : Nat) : Prop := v &&& p0Range (w 1) = v
      let fired : State := { s with cmps := [(n, { gone with fired := true, late := false })] }
      let a : Act := ⟨n, w 0, w 1, w 2, false⟩
      let sent : State := { fired with stream := [a] }.interlock 52
      let out : State := { sent with stream := [] }
      let runs (s' : State) : Prop := exec .comparatorCrossing s = .next s'
      let reserved : Prop := field 31 20 ≠ 0 ∨ field 11 10 ≠ 0 ∨ field 3 3 ≠ 0 ∨ field 7 6 = 3 ∨ 2 ≤ field 5 4 ∨ 5 ≤ kind ∨
        (field 9 9 = 1 ∧ kind ≠ 4) ∨ (field 8 8 = 1 ∧ (kind = 0 ∨ kind = 2))
      let unused : Prop := ((kind = 0 ∨ kind = 2) ∧ (w 1 ≠ 0 ∨ w 2 ≠ 0 ∨ w 3 ≠ 0)) ∨ (kind = 1 ∧ w 3 ≠ 0) ∨
        (kind = 3 ∧ (64 ≤ w 1 ∨ w 2 ≠ 0 ∨ w 3 ≠ 0)) ∨
        (kind = 4 ∧ (5 ≤ w 1 ∨ ¬ used (w 2) ∨ ¬ used (w 3) ∨ (field 9 9 = 1 ∧ w 3 ≠ 0)))
      (reserved ∨ unused → runs (settles ((fired.inc TAU_FAILCNT_BADENT).raise 2 (n / 256)))) ∧
      (¬ (reserved ∨ unused) → kind = 1 → ¬ reach → runs (settles ((fired.inc TAU_FAILCNT_ACCESS).raise 2 (n / 256)))) ∧
      (w 0 = 1 → w 3 = 0 → reach → fastWrite (w 1) = false → runs sent) ∧
      (∀ b t, b < 16 → t < 16 → w 0 = 2 + 2 ^ 12 * b + 2 ^ 16 * t → w 1 = 0 → w 2 = 0 → w 3 = 0 → runs (out.setTev t b)) ∧
      (∀ (sig : Bool) (b t : Nat), b < 16 → t < 16 →
        let plus := if sig then 2 ^ 8 + 2 ^ 12 * b + 2 ^ 16 * t else 0
        let signals (s' : State) : State := if sig then s'.setTev t b else s'
        (w 0 = 1 + plus → w 3 = 0 → reach → fastWrite (w 1) = true → s.wrrNow = [] →
          runs (signals (out.bar0Write (.action (n / 256)) (w 1) (w 2)))) ∧
        (w 0 = 3 + plus → w 1 < 64 → w 2 = 0 → w 3 = 0 → runs (signals (out.dmaTrigAct (w 1)))) ∧
        (let en := s.fld (TAU_P0EN_BITS (w 1))
         let lvl := s.fld (TAU_P0LVL_BITS (w 1)) ^^^ (s.fld (TAU_P0LVL_BITS (w 1)) &&& w 2)
         let puts (e l : Nat) : Prop :=
           runs (settles (signals ((fired.setFld (TAU_P0EN_BITS (w 1)) e).setFld (TAU_P0LVL_BITS (w 1)) l)))
         w 1 < 5 → used (w 2) → used (w 3) →
         (w 0 = 4 + plus → puts (en ||| w 2) (lvl ||| (w 3 &&& w 2))) ∧
         (w 0 = 4 + 2 ^ 9 + plus → w 3 = 0 → puts (en ^^^ (en &&& w 2)) lvl))))) ∧
  (∀ (s : State) (n m : Nat) (c d : Cmp), s.isOff = false → s.cmps = [(n, c), (m, d)] → n < m → m < 4096 →
    c.armed = true → d.armed = true → c.held = false → d.held = false → c.fresh = false → d.fresh = false →
    c.target ≤ s.wpos → d.target ≤ s.wpos → s.inhibit = false →
    let w (n k : Nat) : Nat := s.fld ⟨0x290000 + 16 * n + 4 * k, 0, 32, .rw, 0, .any⟩
    let a (n : Nat) : Act := ⟨n, w n 0, w n 1, w n 2, false⟩
    let later : Prop := d.target < c.target ∨ (d.target = c.target ∧ d.seq < c.seq)
    let slow (n : Nat) : Prop := w n 0 = 1 ∧ w n 3 = 0 ∧ w n 1 % 4 = 0 ∧ 0x300000 ≤ w n 1 ∧ w n 1 < 0xD00000 ∧
      s.fbit (TLR_AMASK_WIN (n / 256)) (w n 1 / 0x100000) = true ∧ fastWrite (w n 1) = false
    (slow n → slow m → (∀ b rest, s.stream = b :: rest → b.slow = true) →
      ∃ s', exec .comparatorCrossing s = .next s' ∧ s'.stream = s.stream ++ (if later then [a m, a n] else [a n, a m]) ∧
        (s'.cmp n).fired = true ∧ (s'.cmp m).fired = true ∧ (s'.cmp n).armed = false ∧ (s'.cmp m).armed = false) ∧
    (w n 0 = 4 → w m 0 = 4 → w n 1 = w m 1 → w n 1 < 5 → s.stream = [] →
      (∀ k, k = 2 ∨ k = 3 → w n k &&& p0Range (w n 1) = w n k ∧ w m k &&& p0Range (w n 1) = w m k) →
      ∃ s0 : State, exec .comparatorCrossing s = .next (s0.interlock 52) ∧
        s0.fld (TAU_P0EN_BITS (w n 1)) = s.fld (TAU_P0EN_BITS (w n 1)) ||| w n 2 ||| w m 2 ∧
        ∀ i, (s0.fld (TAU_P0LVL_BITS (w n 1))).testBit i =
          let last := if later then n else m
          let first := if later then m else n
          if (w last 2).testBit i then (w last 3).testBit i
          else if (w first 2).testBit i then (w first 3).testBit i else (s.fld (TAU_P0LVL_BITS (w n 1))).testBit i))

/-- TLR_GO runs each halted teller of the mask from its PC; TLR_STOP halts each one at the next instruction boundary, a
waiting one at its wait instruction, one at the commit port once its COMMIT ends; TLR_RST without its key sets CFGERR
(R90, R95). -/
def Obligations.TellerControl : Prop :=
  ∀ (s : State) (mask : Nat), s.isOff = false →
    let each (c : Instr) (f : Teller → Teller) : Prop := ∃ s', exec c s = .next s' ∧
      (∀ u, s'.teller u = if u < 16 ∧ mask.testBit u = true then f (s.teller u) else s.teller u) ∧
      { s' with tellers := s.tellers } = s
    each (.tlrGo mask) (fun x => if (x.st = .halted ∨ x.st = .trapHalted) ∧ x.rstReq = false then
      { x with st := .running, wait := .none } else x) ∧
    each (.tlrStop mask) (fun x => if x.st = .halted ∨ x.st = .trapHalted then x
      else if x.wait = .port then { x with stopReq := true }
      else { x with st := .halted, wait := .none, stopReq := false }) ∧
    (∀ key, key ≠ 0x7E11 → exec (.tlrRst key mask) s = .next (s.setFld TLR_STATUS_CFGERR 1))

/-- A reset of the tellers of a mask (R90): registers and CYC 0, PC at TLR_BOOT, halted, the comparators of its bank
disarmed, no claimed endpoint, no lock held and no order taken by it; with one teller reset its TEV is 0. A teller whose
WRR queue is not empty halts until it is. The other tellers and their comparators stay, but for TEV bits. -/
def Obligations.TellerReset : Prop :=
  ∀ (s : State) (mask : Nat), s.isOff = false →
    ∃ s', exec (.tlrRst 0x7E11 mask) s = .next s' ∧
      (∀ t, t < 16 → mask.testBit t = true → (s.teller t).wrrq = [] →
        (let x := s'.teller t
         x.st = .halted ∧ x.pc = BitVec.ofNat 32 (s.fld (TLR_BOOT_ADDR t)) ∧ x.tm = false ∧ x.cyc = 0 ∧
         (∀ r, x.getG r = 0 ∧ x.getP r = 0 ∧ x.getQ r = false) ∧ x.wait = .none ∧ x.outb = (s.teller t).outb ∧
         (mask = 2 ^ t → x.tev = 0)) ∧
        (∀ n, n / 256 = t → (s'.cmp n).armed = false) ∧ (∀ ep, tabGet 0 s'.claims ep ≠ t + 1) ∧
        (∀ h o, s'.order h = some o → o.taker ≠ some t) ∧ (∀ l a, (s'.lock l).holder ≠ some (.teller t a))) ∧
      (∀ t, t < 16 → mask.testBit t = true → (s.teller t).wrrq ≠ [] →
        (s'.teller t).st = .halted ∧ (s'.teller t).rstReq = true ∧ (s'.teller t).wrrq = (s.teller t).wrrq) ∧
      (∀ u r, u < 16 → mask.testBit u = false → (s'.teller u).getG r = (s.teller u).getG r ∧
        (s'.teller u).pc = (s.teller u).pc ∧ (s'.teller u).st = (s.teller u).st) ∧
      (∀ n, mask.testBit (n / 256) = false → s'.cmp n = s.cmp n)

/-! Locks, the order ledger, messages (R76 to R78, R110 to R120, R361). -/

/-- LACQ answers BADARG past lock 255, RANK when a lock at or above it counts for the teller, BUSY when it is held (and
remembers it), else takes it, with ABANDONED when it carries the mark; LREL frees a lock of the teller itself and answers
NOTHELD for any other, changing nothing; a released lock wakes every teller last refused it (R118 to R120). -/
def Obligations.LockInstructions : Prop :=
  ∀ (s : State) (t rd rs : Nat), s.runs t = true → s.settled t = true →
    let x := s.teller t
    let l := (x.getG rs).toNat
    let acct := s.fld (TLR_ACCT_ACCT t)
    let lacq (st : Word) (s1 : State) : Prop := exec (.lacq t rd rs) s = .next (s1.putG t rd st 4)
    let lrel (st : Word) (s1 : State) : Prop := exec (.lrel t rd rs) s = .next (s1.putG t rd st 4)
    let ranked : Prop := ∃ m k h, (m, k) ∈ s.locks ∧ l ≤ m ∧ k.holder = some h ∧
      (match h with
        | .teller u a => u = t ∨ a = acct
        | .host a => a = acct)
    let mine : Prop := ∃ a, (s.lock l).holder = some (.teller t a)
    (255 < l → lacq 10 s ∧ lrel 10 s) ∧
    (l ≤ 255 → ranked → lacq 5 s) ∧
    (l ≤ 255 → ¬ ranked → (s.lock l).holder ≠ none → lacq 4 (s.setTeller t { x with lckWait := some l })) ∧
    (l ≤ 255 → ¬ ranked → (s.lock l).holder = none →
      lacq (if (s.lock l).aband then 3 else 0) (s.setLock l { s.lock l with holder := some (.teller t acct) })) ∧
    (l ≤ 255 → mine → lrel 0 ((s.setLock l ⟨none, false⟩).wakeLock l 16)) ∧
    (l ≤ 255 → ¬ mine → lrel 12 s) ∧
    (∀ u, (s.wakeLock l 16).teller u = (if u < 16 ∧ (s.teller u).lckWait = some l then
      { s.teller u with tev := (s.teller u).tev ||| 0x100000, lckWait := none } else s.teller u))

/-- TAKE outside the Standby, with no mirror record of its number left: the oldest untaken order of the book, if it may be taken, goes to the teller with its body
and handle at gt, ABANDONED at the first TAKE after its taker was reset; else NONE; BADARG for a bad selector or another
vault account's book. SETTLE frees the taker's own order at the head of its book and records the result; NOTHEAD and
BADARG change no order (R113, R114, R116). -/
def Obligations.TakeAndSettle : Prop :=
  ∀ (s : State) (t rd rs rt : Nat), s.runs t = true → s.settled t = true → s.isStandby = false →
    (∀ r, r ∈ (s.teller t).doneOps → r.inst ≠ ((s.teller t).inst + 1) % 2 ^ 32) →
    let gs := ((s.teller t).getG rs).toNat
    let gt := ((s.teller t).getG rt).toNat
    let a := gs / 16 % 1024
    let c := Instr.take t rd rs rt
    let fails (c : Instr) (st cycles : Nat) : Prop :=
      exec c s = .next ((s.shadowed t st []).putG t rd (BitVec.ofNat 32 st) cycles)
    let may : Prop := gs < 2 ^ 14 ∧ (s.isVault a = false ∨ a = s.fld (TLR_ACCT_ACCT t))
    (gt % 4 ≠ 0 → exec c s = .next (s.trap t 3 gt)) ∧
    (gt % 4 = 0 → dmSize < gt + 68 → exec c s = .next (s.trap t 4 gt)) ∧
    (gt % 4 = 0 → gt + 68 ≤ dmSize →
      (¬ may → fails c 10 24) ∧
      (may → (∀ h o, s.oldestUntaken a (gs % 16) = some (h, o) → s.takeable o = false) → fails c 14 24) ∧
      (may → ∀ h o, s.oldestUntaken a (gs % 16) = some (h, o) → s.takeable o = true →
        ∃ s', exec c s = .next s' ∧ s'.order h = some { o with taker := some t, aband := false } ∧
          (∀ k, k ≠ h → s'.order k = s.order k) ∧ memBytes s'.dm gt 64 = body64 o.body ∧
          memLoad s'.dm (gt + 64) 4 = h % 2 ^ 32 ∧ (∀ j, j < gt ∨ gt + 68 ≤ j → memByte s'.dm j = memByte s.dm j) ∧
          (rd ≠ 0 → (s'.teller t).getG rd = if o.aband then 3 else 0) ∧ (s'.teller t).pc = (s.teller t).pc + 4)) ∧
    (let e := Instr.settle t rd rs rt
     (s.order gs = none → fails e 10 8) ∧
     (∀ o, s.order gs = some o →
       (o.taker ≠ some t → fails e 10 8) ∧
       (o.taker = some t → o.bseq ≠ (s.book o.acct o.book).head → fails e 17 8) ∧
       (o.taker = some t → o.bseq = (s.book o.acct o.book).head → (∀ h p, (h, some p) ∈ s.orders → p.bad = false) →
         ∃ s', exec e s = .next s' ∧ s'.order gs = none ∧ (∀ k, k ≠ gs → s'.order k = s.order k) ∧
           (s'.book o.acct o.book).head = (o.bseq + 1) % 2 ^ 32 ∧ (s'.book o.acct o.book).last = gt ∧
           (rd ≠ 0 → (s'.teller t).getG rd = 0))))

/-- The system operations that move messages and records, outside the Standby and with no mirror record of the operation's
number left: CLAIM of a customer endpoint, RECV of the
oldest message, EVPOST to the teller's own account, MBPOST to the own ledger and to another node, DMAKICK, AUDIT and
COMMIT, each with its status and cycles (R77, R110, R129, R361). Their reads of data memory count corrected errors, and an
uncorrectable one raises MEMERR (R62, R88). The model's own choices in it: log entry 18. -/
def Obligations.SystemOperations : Prop :=
  ∀ (s : State) (t rd rs rt pn : Nat), s.runs t = true → s.settled t = true → s.isStandby = false →
    (∀ r, r ∈ (s.teller t).doneOps → r.inst ≠ ((s.teller t).inst + 1) % 2 ^ 32) →
    let gs := ((s.teller t).getG rs).toNat
    let gt := ((s.teller t).getG rt).toNat
    let ends (c : Instr) (st cycles : Nat) (s1 : State) : Prop :=
      exec c s = .next (s1.putG t rd (BitVec.ofNat 32 st) cycles)
    let own := tabGet 0 s.claims gs
    (gs < 0xF00 ∨ 0xFFF < gs → ends (.claim t rd rs) 10 4 (s.shadowed t 10 [])) ∧
    (0xF00 ≤ gs → gs ≤ 0xFFF → own ≠ 0 → own ≠ t + 1 → ends (.claim t rd rs) 4 4 (s.shadowed t 4 [])) ∧
    (0xF00 ≤ gs → gs ≤ 0xFFF → own = 0 ∨ own = t + 1 →
      ends (.claim t rd rs) 0 4 { s.shadowed t 0 [] with claims := tabSet 0 s.claims gs (t + 1) }) ∧
    (gt % 4 = 0 → gt + 68 ≤ dmSize →
      (takeMsg s.claims t s.inbox = none → ends (.recv t rd rt) 14 24 (s.shadowed t 14 [])) ∧
      (∀ m rest, takeMsg s.claims t s.inbox = some (m, rest) → ends (.recv t rd rt) 0 24
        ({ s.shadowed t 0 (body64 m.body ++ leBytes 4 m.src) with inbox := rest }.dmPut gt
          (body64 m.body ++ leBytes 4 m.src)))) ∧
    (s.clean gt 4 12 = true →
      (gs ≠ s.fld (TLR_ACCT_ACCT t) → ends (.evpost t rd rs rt) 10 16 (s.shadowed t 10 [])) ∧
      (gs = s.fld (TLR_ACCT_ACCT t) → 0x8000 ≤ memLoad s.dm gt 4 → memLoad s.dm gt 4 < 0x10000 →
        memLoad s.dm (gt + 8) 4 < 0x10000 → s.evBusy gs = false → ends (.evpost t rd rs rt) 0 16
          ((s.shadowed t 0 []).postAt gs (memLoad s.dm gt 4) (memLoad s.dm (gt + 4) 4) 0 (memLoad s.dm (gt + 8) 4) s.wpos
            false))) ∧
    (gs = s.node * 4096 + 0x58D → gs < 2 ^ 17 → gt + 80 ≤ dmSize → s.clean gt 4 72 = true →
      let word := memLoad s.dm (gt + 64) 4
      let pred := memLoad s.dm (gt + 68) 4
      let a := s.fld (TLR_ACCT_ACCT t)
      (s.submitCheck a word pred ≠ 0 →
        ends (.mbpost t rd rs rt) (s.submitCheck a word pred) 24 (s.shadowed t (s.submitCheck a word pred) [])) ∧
      (s.submitCheck a word pred = 0 →
        let data := leBytes 4 s.nextHandle ++ leBytes 4 (s.book a (word % 16)).next
        ends (.mbpost t rd rs rt) 0 24
          (((s.shadowed t 0 data).submitDo a word pred (memBytes s.dm gt 64)).dmPut (gt + 72) data))) ∧
    (gs < 2 ^ 17 → gs / 4096 ≠ s.node → gs % 4096 ≠ 0x58D → s.clean gt 4 64 = true →
      let m : Msg := ⟨s.node * 4096 + 0x400 + t, memBytes s.dm gt 64, 0, 0, s.fld (TLR_ACCT_ACCT t)⟩
      (4 ≤ (s.teller t).outb.length → ends (.mbpost t rd rs rt) 4 24 (s.shadowed t 4 [])) ∧
      ((s.teller t).outb.length < 4 → ends (.mbpost t rd rs rt) 0 24
        (((s.shadowed t 0 []).mapTeller t fun x => { x with outb := x.outb ++ [⟨gs, m⟩] }).ringUni gs (.msg m)))) ∧
    (gs < 2 ^ 17 → gs / 4096 = s.node → s.clean gt 4 64 = true → 0x590 ≤ gs % 4096 →
      let m : Msg := ⟨s.node * 4096 + 0x400 + t, memBytes s.dm gt 64, 0, 0, s.fld (TLR_ACCT_ACCT t)⟩
      let owner := tabGet 0 s.claims (gs % 4096)
      (owner = 0 → ends (.mbpost t rd rs rt) 13 24 (s.shadowed t 13 [])) ∧
      (owner ≠ 0 → 4 ≤ (s.teller t).outb.length → ends (.mbpost t rd rs rt) 4 24 (s.shadowed t 4 [])) ∧
      (owner ≠ 0 → (s.teller t).outb.length < 4 → s.inbox.length < 64 → ends (.mbpost t rd rs rt) 0 24
        ({ s.shadowed t 0 [] with inbox := s.inbox ++ [(gs % 4096, m)] }.setTev (owner - 1) 22))) ∧
    ends (.dmakick t rd rs) (s.dmaKick gs).1 8 (s.dmaKick gs).2 ∧
    (let r := s.audRequest gs (some t) 0
     ends (.audit t rd rs pn) r.1 8
       (if r.1 = 2 then r.2.2.mapTeller t fun x => x.setP pn (BitVec.ofNat 64 r.2.1) else r.2.2)) ∧
    (s.isManager = false → ends (.commit t rd rs) 11 40 s) ∧
    (let err (a i : Nat) : Nat := tabGet 0 s.dmErr (a / 4 + i)
     let read := (List.range 16).foldl (fun c i => if err gs i = 1 then c.inc TLR_ECCCNT_DATA else c) s
     let damaged (c : Instr) (a n : Nat) : Prop := (∃ i, i < n ∧ err a i = 2) →
       exec c s = .next ((s.raise 1 srcDmecc).trap t 8 a)
     (s.isManager = true → gs % 64 = 0 → gs + 64 ≤ dmSize → (∀ i, i < 16 → err gs i ≠ 2) →
       exec (.commit t rd rs) s = .next
         ((read.setEsc { s.esc with port := s.esc.port ++ [(some t, rd, memBytes s.dm gs 64)] }).mapTeller t fun x =>
           { x with wait := .port })) ∧
     (s.isManager = true → gs % 64 = 0 → gs + 64 ≤ dmSize → damaged (.commit t rd rs) gs 16) ∧
     (gt % 4 = 0 → gt + 12 ≤ dmSize → damaged (.evpost t rd rs rt) gt 3) ∧
     (gt % 4 = 0 → gt + 64 ≤ dmSize → gs % 4096 ≠ 0x58D → damaged (.mbpost t rd rs rt) gt 16) ∧
     (gt % 4 = 0 → gt + 80 ≤ dmSize → gs < 2 ^ 17 → gs % 4096 = 0x58D → damaged (.mbpost t rd rs rt) gt 18))

/-- The shadowed operations. On the Manager, with no mirror record of their number left, they are carried out, and the
status and data go to the Standby as a TELLER_OP. Where a record of their number has been applied, on the Standby and on a
new Manager, they complete with its status in gd and its data in data memory; on the Standby without one they wait for it
(R78, R116, R320). A record that has its turn has its effect there too: the endpoint is claimed, the order taken, settled or
entered, the frame accepted. The model's own choices in it: log entry 17. -/
def Obligations.ShadowedOperations : Prop :=
  ∀ (s : State) (t rd rs rt : Nat), s.runs t = true → s.settled t = true →
    let x := s.teller t
    let gs := (x.getG rs).toNat
    let gt := (x.getG rt).toNat
    let inst := (x.inst + 1) % 2 ^ 32
    let shadows (c : Instr) (sub x y z cycles : Nat) (live : State → State) : Prop :=
      (s.isStandby = false → (∀ r, r ∈ (s.teller t).doneOps → r.inst ≠ inst) → exec c s = .next (live s)) ∧
      (s.isStandby = true → (∀ r, r ∈ (s.teller t).doneOps → r.inst ≠ inst) → exec c s = .next (s.mapTeller t fun q =>
        { q with st := .waiting, wait := .shadow sub x y z inst })) ∧
      (∀ r, (s.teller t).doneOps.find? (fun r => r.inst = inst) = some r → ∃ s',
        exec c s = .next s' ∧ s' = s.shadowFinish t sub x y z r ∧ (s'.teller t).inst = inst ∧
        (s'.teller t).st = .running ∧ (s'.teller t).wait = .none ∧ (s'.teller t).pc = (s.teller t).pc + 4 ∧
        (s'.teller t).cyc = (s.teller t).cyc + BitVec.ofNat 32 cycles ∧
        (rd ≠ 0 → (s'.teller t).getG rd = BitVec.ofNat 32 r.status))
    let told (c : Instr) (st : Nat) (data : List Byte) (p : State → Prop) : Prop :=
      ∀ r, (s.teller t).doneOps.find? (fun r => r.inst = inst) = some r → r.status = st → r.data = .tellerOp data →
        ∀ s', exec c s = .next s' → p s'
    let turn (c : Instr) (data : List Byte) (p : State → Prop) : Prop :=
      ∀ r, (s.teller t).doneOps.find? (fun r => r.inst = inst) = some r → r.teller = t → r.status = 0 →
        r.data = .tellerOp data → s.isStandby = true → s.mirror.todo = [⟨r, none⟩] → ∀ s', exec c s = .next s' → s'.mirror.todo = [] ∧ p s'
    let here : Prop := gs < 2 ^ 17 ∧ gs = s.node * 4096 + 0x58D
    (shadows (.claim t rd rs) 0x0B rd rs 0 4 (fun s => s.claimLive t rd gs) ∧
      turn (.claim t rd rs) [] fun s' => tabGet 0 s'.claims gs = t + 1) ∧
    (gt % 4 = 0 → gt + 68 ≤ dmSize →
      shadows (.recv t rd rt) 0x0C rd 0 rt 24 (fun s => s.recvLive t rd gt) ∧
      shadows (.take t rd rs rt) 0x11 rd rs rt 24 (fun s => s.takeLive t rd gs gt) ∧
      ∀ data, data.length = 68 →
        let lands (s' : State) : Prop := memBytes s'.dm gt 68 = data
        told (.recv t rd rt) 0 data lands ∧ told (.take t rd rs rt) 0 data lands ∧ told (.take t rd rs rt) 3 data lands ∧
        (∀ o, s.order (ofLe (data.drop 64)) = some o → turn (.take t rd rs rt) data fun s' =>
          s'.order (ofLe (data.drop 64)) = some { o with taker := some t, aband := false })) ∧
    (s.isManager = true ∨ s.isStandby = true → s.clean gs 64 64 = true →
      shadows (.commit t rd rs) 0x10 rd rs 0 40 (fun s => s.commitLive t rd gs) ∧
      (let d := Desc.ofBytes (memBytes s.dm gs 64)
       s.mirror.early.contains d.frame = false → turn (.commit t rd rs) [] fun s' =>
         s'.esc.ahead = s.esc.ahead ++ [⟨d, none⟩])) ∧
    (shadows (.settle t rd rs rt) 0x12 rd rs rt 8 (fun s => s.settleLive t rd gs gt) ∧
      ∀ o, s.order gs = some o → o.taker = some t → o.bseq = (s.book o.acct o.book).head → o.bseq < 2 ^ 32 →
        turn (.settle t rd rs rt) [] fun s' => s'.order gs = none ∧ (∀ k, k ≠ gs → s'.order k = s.order k) ∧
          (s'.book o.acct o.book).head = (o.bseq + 1) % 2 ^ 32 ∧ (s'.book o.acct o.book).last = gt) ∧
    (gs < 2 ^ 17 → gs % 4096 ≠ 0x58D → s.clean gt 4 64 = true →
      shadows (.mbpost t rd rs rt) 0x20 rd rs rt 24 (fun s => s.mbpostLive t rd gs gt)) ∧
    (here → gt + 80 ≤ dmSize → s.clean gt 4 72 = true →
      shadows (.mbpost t rd rs rt) 0x20 rd rs rt 24 (fun s => s.mbpostLive t rd gs gt) ∧
      ∀ data, data.length = 8 → told (.mbpost t rd rs rt) 0 data (fun s' => memBytes s'.dm (gt + 72) 8 = data) ∧
        let h := ofLe (data.take 4)
        let word := memLoad s.dm (gt + 64) 4
        let a := s.fld (TLR_ACCT_ACCT t)
        (s.order h = none → turn (.mbpost t rd rs rt) data fun s' =>
          s'.order h = some ⟨a, word % 16, ofLe (data.drop 4), (if word / 2 ^ 31 % 2 = 1
            then some (memLoad s.dm (gt + 68) 4 % 2 ^ 32) else none), memBytes s.dm gt 64, none, false, false⟩ ∧
          (s'.book a (word % 16)).next = (ofLe (data.drop 4) + 1) % 2 ^ 32)) ∧
    (s.clean gt 4 12 = true → shadows (.evpost t rd rs rt) 0x21 rd rs rt 16 (fun s => s.evpostLive t rd gs gt)) ∧
    (∀ st data, s.hasStandby = true → let s' := s.shadowed t st data
      let r : MirRec := ⟨s.mirror.next, s.fld GLB_TERM_TERM, t, st, inst, 0, .tellerOp data⟩
      (s'.teller t).inst = inst ∧ s'.mirror.next = (s.mirror.next + 1) % 2 ^ 32 ∧ s'.mirror.sent.getLast? = some r ∧
      s'.fld FLT_MSEQ_MSEQ = s.mirror.next % 2 ^ 32)

/-- The ledger: the oldest untaken order of a book is one of that book, neither taken nor damaged, no other such order
being nearer to the head; an accepted submission takes the lowest handle no order holds and the book's next BSEQ, and adds
one to the account's and the ledger's counts, every other order staying; a damaged untaken order at the head of its book is
settled with 0xFFFF_FFFF, and one that is taken or not at the head stays, marked as damaged (R111, R113, R117). -/
def Obligations.LedgerOrders : Prop :=
  (∀ (s : State) (a b h : Nat) (o : Order), s.oldestUntaken a b = some (h, o) →
    (h, some o) ∈ s.orders ∧ o.acct = a ∧ o.book = b ∧ o.taker = none ∧ o.bad = false ∧
    ∀ k p, (k, some p) ∈ s.orders → p.acct = a → p.book = b → p.taker = none → p.bad = false →
      s.pastHead o ≤ s.pastHead p) ∧
  (∀ (s : State) (a word pred : Nat) (body : List Byte), a < 1024 → s.submitCheck a word pred = 0 →
    let s' := s.submitDo a word pred body
    let h := s.nextHandle
    let b := word % 16
    s.order h = none ∧ (tabWf none s.orders = true → ∀ k, k < h → s.order k ≠ none) ∧
    s'.order h = some ⟨a, b, (s.book a b).next, (if word / 2 ^ 31 % 2 = 1 then some (pred % 2 ^ 32) else none), body, none,
      false, false⟩ ∧
    (∀ k, k ≠ h → s'.order k = s.order k) ∧ (s'.book a b).next = ((s.book a b).next + 1) % 2 ^ 32 ∧
    (s'.book a b).head = (s.book a b).head ∧ s'.fld LDG_COUNT_ORDERS = s.fld LDG_COUNT_ORDERS + 1 ∧
    s'.fld (LDG_QUOTA_COUNT a) = (s.fld (LDG_QUOTA_COUNT a) + 1) % 2 ^ 11) ∧
  (∀ (s : State) (h : Nat) (o : Order), s.isOff = false → s.order h = some o →
    exec (.orderEccError h) s =
      .next (((s.setOrder h (some { o with bad := true })).raise 3 0).settleDamaged o.acct o.book 4096) ∧
    (tabWf none s.orders = true → (∀ k p, (k, some p) ∈ s.orders → k ≠ h → p.bad = false) →
      (o.taker ≠ none ∨ o.bseq ≠ (s.book o.acct o.book).head →
        exec (.orderEccError h) s = .next ((s.setOrder h (some { o with bad := true })).raise 3 0)) ∧
      (o.taker = none → o.bseq = (s.book o.acct o.book).head →
        ∃ s', exec (.orderEccError h) s = .next s' ∧ s'.order h = none ∧ (∀ k, k ≠ h → s'.order k = s.order k) ∧
          (s'.book o.acct o.book).head = (o.bseq + 1) % 2 ^ 32 ∧ (s'.book o.acct o.book).last = 0xFFFFFFFF)))

/-! Accounts: mailboxes, event queues, the vault and boot (R333 to R348, R365 to R370). -/

/-- The mailbox commands of the host with the firmware running and the account's oldest command of that code: NOTROLE in
the wrong role first, then BADARG with a violation for operand words out of form, then the command's own result (R339,
R341, R367, R368); a LOAD taken while another load runs is answered BUSY. The model's own choices in it: log entries 18, 20, 23, 63, 75. -/
def Obligations.MailboxCommands : Prop :=
  ∀ (s : State) (a : Nat) (ws : List Nat) (bytes : List Byte), s.isOff = false → s.fwRuns = true →
    let w := ws.getD 0 0
    let zero (k : Nat) : Prop := ∀ v, v ∈ ws.drop k → v = 0
    let gives (c : Instr) (code : Nat) (ok : Prop) (t : State) : Prop :=
      s.mbOldest a = some (code, ws) → ok → exec c s = .next t
    let badArg (code : Nat) : State := (s.mbAnswer a code ws [10]).mbxViol a 2
    let lock : Prop := zero 1 ∧ w < 256
    let send : Prop := zero 1 ∧ w < 2 ^ 17
    let slot : Prop := s.isVault a = true ∧ 1 ≤ w ∧ w ≤ 4 ∧ ∀ v, v ∈ (ws.take 8).drop 1 → v = 0
    let forms (c : Instr) (code : Nat) (role ok : Prop) : Prop :=
      gives c code (¬ role) (s.mbAnswer a code ws [11]) ∧ gives c code (role ∧ ¬ ok) (badArg code)
    let manager : Prop := s.isManager = true
    let worker : Prop := s.isWorker = true
    let m : Msg := ⟨s.node * 4096 + a, s.bodyOf a, 0, 0, a⟩
    gives (.body a) 1 True (s.mbDo a 1 ws [0]) ∧
    forms (.submit a) 2 manager (zero 2) ∧
    gives (.submit a) 2 (manager ∧ zero 2) (s.mbDo a 2 ws
      (let st := s.submitCheck a w (ws.getD 1 0)
       if s.bodyOf a = [] then [10]
       else if st = 0 then [s.nextHandle * 65536, (s.book a (w % 16)).next] else [st])) ∧
    forms (.send a) 3 True send ∧
    gives (.send a) 3 (send ∧ s.bodyOf a = []) (s.mbDo a 3 ws [10]) ∧
    gives (.send a) 3 (send ∧ s.bodyOf a ≠ [] ∧ w / 4096 ≠ s.node ∧ w % 4096 ≠ 0x58D) ((s.mbDo a 3 ws [0]).msgOut w m) ∧
    gives (.send a) 3 (send ∧ s.bodyOf a ≠ [] ∧ w / 4096 = s.node ∧ w % 4096 < 0x590 ∧ w % 4096 ≠ 0x58D)
      ((s.mbDo a 3 ws [0]).msgPosted m.src w) ∧
    gives (.send a) 3 (send ∧ s.bodyOf a ≠ [] ∧ w / 4096 = s.node ∧ 0x590 ≤ w % 4096)
      (let st := (s.deliverTo (w % 4096) m).1
       let s1 := s.mbDo a 3 ws [st]
       if st = 0 then (s1.deliverTo (w % 4096) m).2 else s1) ∧
    (s.mbOldest a = some (3, ws) → send ∧ s.bodyOf a ≠ [] ∧ w / 4096 ≠ s.node ∧ w % 4096 = 0x58D →
      ∃ word pred, exec (.send a) s = .next (({ s with freeCtr := s.freeCtr + 2 }.mbDo a 3 ws [0]).msgOut w
        { m with word := word, pred := pred })) ∧
    (s.mbOldest a = some (3, ws) → send ∧ s.bodyOf a ≠ [] ∧ w / 4096 = s.node ∧ w % 4096 = 0x58D → a < 1024 →
      s.isManager = false → exec (.send a) s = .next (({ s with freeCtr := s.freeCtr + 2 }.mbDo a 3 ws [0]).msgFail m.src w
        11)) ∧
    forms (.mbCommit a) 4 manager True ∧
    gives (.mbCommit a) 4 (manager ∧ s.esc.port = []) (s.setEsc { s.esc with port := [(none, a, wordBytes ws)] }) ∧
    forms (.mbLacq a) 5 True lock ∧ gives (.mbLacq a) 5 lock (s.mbDo a 5 ws [s.lacqStatus none a w]) ∧
    forms (.mbLrel a) 6 True lock ∧
    gives (.mbLrel a) 6 lock (s.mbDo a 6 ws [if (s.lock w).holder = some (.host a) then 0 else 12]) ∧
    forms (.reserve a) 8 worker (zero 2) ∧
    gives (.reserve a) 8 (worker ∧ zero 2)
      (let r := s.reserveDo a w (ws.getD 1 0)
       r.2.2.2.mbAnswer a 8 ws (if r.1 = 0 then [0, r.2.1, r.2.2.1] else [r.1])) ∧
    forms (.release a) 9 worker (zero 1) ∧
    gives (.release a) 9 (worker ∧ zero 1) ((s.releaseDo a w).2.mbAnswer a 9 ws [(s.releaseDo a w).1]) ∧
    forms (.ingest a) 10 worker (zero 8) ∧
    gives (.ingest a) 10 (worker ∧ zero 8) ((s.ingestDo a ws).2.mbAnswer a 10 ws [(s.ingestDo a ws).1]) ∧
    forms (.cancel a) 11 worker (zero 1) ∧
    gives (.cancel a) 11 (worker ∧ zero 1) ((s.mbAnswer a 11 ws [(s.cancelDo a w).1]).cancelDo a w).2 ∧
    forms (.load a bytes) 16 True (zero 3) ∧
    gives (.load a bytes) 16 (zero 3)
      (let st := s.loadStatus a (ws.getD 2 0) bytes
       let s1 := { s with loading := if s.loading = some a then none else s.loading }.mbAnswer a 16 ws [st]
       (if st = 0 then s1.loadImage (bytes.drop 192) else s1).post a 0x370 (st + leAt bytes 6 1 * 256) 0 0) ∧
    (∀ n, (s.loading ≠ some a → s.loadStatus a n bytes = 4) ∧
      (s.loading = some a → 4194304 + 192 < n → s.loadStatus a n bytes = 10) ∧
      (s.loading = some a → n ≤ 4194304 + 192 → bytes.length ≠ n ∨ s.envOk bytes 2 = false → s.loadStatus a n bytes = 19) ∧
      (s.loading = some a → n ≤ 4194304 + 192 → bytes.length = n → s.envOk bytes 2 = true →
        s.loadStatus a n bytes = if s.imageOk (bytes.drop 192) (s.isVault a) then 0 else 10)) ∧
    forms (.keyprov a) 17 True slot ∧
    gives (.keyprov a) 17 (slot ∧ s.fbit VLT_KEYSTAT_WRITTEN (w - 1) = true) (s.mbAnswer a 17 ws [4]) ∧
    gives (.keyprov a) 17 (slot ∧ s.fbit VLT_KEYSTAT_WRITTEN (w - 1) = false)
      (({ s with keys := tabSet 0 s.keys w (ofBe (wordBytes (ws.drop 8))) }.setFbit VLT_KEYSTAT_WRITTEN (w - 1)).mbAnswer
        a 17 ws [0]) ∧
    forms (.keyrevoke a) 18 True (s.isVault a = true ∧ 1 ≤ w ∧ w ≤ 4 ∧ zero 1) ∧
    gives (.keyrevoke a) 18 (s.isVault a = true ∧ 1 ≤ w ∧ w ≤ 4 ∧ zero 1)
      ((s.setFbit VLT_KEYSTAT_REVOKED (w - 1)).mbAnswer a 18 ws [0])

/-- Event queues: a HEAD write between HEAD and TAIL reports consumption, another is a violation; enabling sets HEAD to
TAIL; disabling discards and counts the held records; a moderation interval that ends with a record waiting sends one
message, else it closes (R342, R345, R346, R370). With no Standby in the run, a reply on its page: the command leaves the
account's queue, the reply words stand in MBR, DONE is set and GO cleared, every other page stays. A record for an enabled
queue with room and no LOST count takes the next sequence number and goes to its ring place; for a disabled queue it is
only counted (R333, R337, R343, R345). The model's own choices in it: log entries 20, 77. -/
def Obligations.EventsAndReplies : Prop :=
  (∀ (s : State) (a h : Nat), s.isOff = false → a < 1024 →
     let head := s.fld (EVQ_HEAD_HEAD a)
     let room := (s.fld (EVQ_TAIL_TAIL a) + 2 ^ 32 - head) % 2 ^ 32
     ((h % 2 ^ 32 + 2 ^ 32 - head) % 2 ^ 32 ≤ room →
       exec (.evqHeadWrite a h) s = .next ((s.setFld (EVQ_HEAD_HEAD a) h).drainHeld a 256)) ∧
     (room < (h % 2 ^ 32 + 2 ^ 32 - head) % 2 ^ 32 → exec (.evqHeadWrite a h) s = .next (s.mbxViol a 3)) ∧
     (s.flag (EVQ_CFG_EN a) = false → exec (.evqEnable a) s =
       .next ((s.setFld (EVQ_CFG_EN a) 1).setFld (EVQ_HEAD_HEAD a) (s.fld (EVQ_TAIL_TAIL a)))) ∧
     (∃ s', exec (.evqDisable a) s = .next s' ∧ s'.flag (EVQ_CFG_EN a) = false ∧ s'.heldOf a = [] ∧
       s'.fld (EVQ_PEND_HELD a) = 0 ∧ s'.fld (EVQ_DROP_DROP a) = satAdd 32 (s.fld (EVQ_DROP_DROP a)) (s.heldOf a).length ∧
       ∀ b, b ≠ a → s'.heldOf b = s.heldOf b) ∧
     (tabGet false s.modOpen a = true → tabGet false s.modPend a = false →
       exec (.msixModerationExpiry a) s = .next { s with modOpen := tabSet false s.modOpen a false }) ∧
     (tabGet false s.modOpen a = true → tabGet false s.modPend a = true →
       exec (.msixModerationExpiry a) s =
         .next ({ s with modPend := tabSet false s.modPend a false }.msix (s.fld (EVQ_CFG_VEC a))))) ∧
  ((∀ (s : State) (a code : Nat) (ws reply : List Nat), a < 1024 → s.hasStandby = false → reply.length ≤ 4 →
     (tabGet [] s.mbCmd a).length = 17 → s.flag (MBCTL_GO a) = true →
     let s' := s.mbAnswer a code ws reply
     s'.flag (MBCTL_DONE a) = true ∧ s'.flag (MBCTL_GO a) = false ∧ tabGet [] s'.mbCmd a = [] ∧
     (∀ k, k < 4 → tabGet 0 s'.mbr (a * 4 + k) = reply.getD k 0) ∧
     (∀ b, b ≠ a → b < 1024 → s'.flag (MBCTL_DONE b) = s.flag (MBCTL_DONE b) ∧
       s'.flag (MBCTL_GO b) = s.flag (MBCTL_GO b) ∧ tabGet [] s'.mbCmd b = tabGet [] s.mbCmd b) ∧
     s'.pm = s.pm ∧ s'.dm = s.dm ∧ s'.dram = s.dram ∧ s'.tellers = s.tellers) ∧
   (∀ (s : State) (a type detail sub incident w : Nat) (stby : Bool), a < 1024 → s.hasStandby = false →
     (s.flag (EVQ_CFG_EN a) = false →
       s.postAt a type detail sub incident w stby = s.setFld (EVQ_DROP_DROP a) (satInc 32 (s.fld (EVQ_DROP_DROP a)))) ∧
     (s.flag (EVQ_CFG_EN a) = true → s.fld (EVQ_PEND_LOSTPEND a) = 0 → s.heldOf a = [] → s.pwr.hostDown = false →
       s.evqUsed a < s.evqSize a →
       let n := s.fld (EVQ_TAIL_TAIL a)
       let r : EventRec := s.mkRecord a type detail sub incident w stby n (1 - n / 2 ^ s.fld (EVQ_CFG_LOG2N a) % 2)
       let addr := s.fld (EVQ_BASEHI_BASE a) * 2 ^ 32 + s.fld (EVQ_BASELO_BASE a) + 32 * (n % s.evqSize a)
       s.postAt a type detail sub incident w stby =
         ((s.setFld (EVQ_TAIL_TAIL a) (n + 1)).emit (.hostRecord addr r)).recordWritten a)))

/-- Account resets and the host port: ACC_RST with its key resets the account, needs vault authority for a vault account,
and without the key sets KEYERR; a Function Level Reset and HOST_PERST_N reset every non-vault account; a page without
a reply times out, and a command the firmware had not taken is withdrawn; the host link going down and a poisoned packet raise their faults (R335, R338, R348, R369, R384). Vault
membership and boot: a write of VLT_MEMBERS that changes the bit of an enabled account is discarded with CFGERR; COMMITRB
raises the rollback counter to that of the running firmware and never lowers it; boot starts firmware A if it passes, else
B, else the node stays off, each read as the flash's SFDP table offers; the next boot image is loaded if it passes (R334,
R365, R367, R387).
The model's own choices in it: log entries 21, 35, 77, 78. -/
def Obligations.AccountsVaultAndBoot : Prop :=
  (∀ (s : State) (key a : Nat) (vault : Bool), s.isOff = false → a < 1024 →
     (key ≠ 0xACC0 → exec (.accRst key a vault) s = .next (s.setFld ACC_STATUS_KEYERR 1)) ∧
     (s.isVault a = true → exec (.accRst 0xACC0 a false) s = .next (s.setFld ACC_STATUS_CFGERR 1)) ∧
     (s.isVault a = false ∨ vault = true → ∃ s', exec (.accRst 0xACC0 a vault) s = .next s' ∧
       s'.flag (EVQ_CFG_EN a) = false ∧ s'.bodyOf a = [] ∧ s'.heldOf a = [] ∧ ∀ l, (s'.lock l).holder ≠ some (.host a)) ∧
     exec .functionLevelReset s = .next (s.flr 1024) ∧
     exec .hostPerstN s =
       .next ({ s.pchReset with pwr := { s.pchReset.pwr with hostDown := true } }.flr 1024) ∧
     s.pchReset.fld PCH_LINK_WIDTH = 0 ∧ s.pchReset.fld PCH_LINK_SPEED = 0 ∧ s.pchReset.flag PCH_LINK_UP = false ∧
     s.pchReset.fld PCH_CTO_US = PCH_CTO_US.reset ∧ s.pchReset.fld PCH_ERRCNT_CTO = 0 ∧ s.pchReset.fld PCH_ERRCNT_BADTLP = 0 ∧
     (s.flag (MBCTL_GO a) = true → s.flag (MBCTL_TAKEN a) = true → s.mirror.held = [] →
       exec (.mailboxTimeout a) s = .next (((s.setFld (MBCTL_TIMEOUT a) 1).setFld (MBCTL_GO a) 0).mbIrq a)) ∧
     (s.flag (MBCTL_GO a) = true → s.flag (MBCTL_TAKEN a) = false →
       let c := tabGet [] s.mbCmd a
       let w := ((({ s with mbCmd := tabSet [] s.mbCmd a (c.take (c.length - 17)) }).setFld (MBCTL_TIMEOUT a) 1).setFld
         (MBCTL_GO a) 0).mbIrq a
       exec (.mailboxTimeout a) s = .next (if s.flag (ACC_CFG_EN a) then w.raise 23 0 else w)) ∧
     (s.flag (MBCTL_GO a) = false → exec (.mailboxTimeout a) s = .next s) ∧
     exec .hostLinkDown s =
       .next ({ s.setFld PCH_LINK_UP 0 with pwr := { s.pwr with hostDown := true } }.raise 22 0) ∧
     exec .poisonedTlp s = .next ((s.inc PCH_ERRCNT_BADTLP).raise 22 2)) ∧
  (∀ (s : State) (h v : Nat) (sfdp flash image : List Byte) (rest : List (List Byte)), s.isOff = false → h < 2 →
     let x := s.fld (VLT_MEMBERS_ACCTS h) ^^^ (v % 2 ^ 32)
     let first (k : Nat) : Option (List Byte) := (flashImages flash k).find? fun bs => s.envOk bs 1
     let boots : Prop := s.fld ACC_BOOT_STAT = 0 ∧ s.pwr.coresHeld = false ∧ s.pwr.held = false
     let read : State := { s with flash := flashMode sfdp, images := flashImages flash 3 }
     let started (k : Nat) (bs : List Byte) : State :=
       { (read.setFld ACC_BOOT_STAT k).setFld ACC_BOOT_FWVER (leAt bs 8 4) with fwRollback := leAt bs 8 4 }
     let next : State := { s with images := rest }
     ((∃ i, i < 32 ∧ x.testBit i = true ∧ s.flag (ACC_CFG_EN (32 * h + i)) = true) →
       exec (.vltMembersWrite h v) s = .next (s.setFld VLT_STATUS_CFGERR 1)) ∧
     ((∀ i, i < 32 → x.testBit i = true → s.flag (ACC_CFG_EN (32 * h + i)) = false) →
       exec (.vltMembersWrite h v) s = .next (s.setFld (VLT_MEMBERS_ACCTS h) v)) ∧
     exec .commitrb s = .next (s.setFld VLT_ROLLBACK_COUNT (max (s.fld VLT_ROLLBACK_COUNT) s.fwRollback)) ∧
     (boots → s.mbCmd = [] →
       (∀ bs, first 1 = some bs → exec (.bootVerify sfdp flash) s = .next (started 1 bs)) ∧
       (first 1 = none → ∀ bs, first 2 = some bs → exec (.bootVerify sfdp flash) s = .next (started 2 bs)) ∧
       (first 1 = none → first 2 = none →
         exec (.bootVerify sfdp flash) s = .next ((read.setFld ACC_BOOT_STAT 3).setFld FLT_CTL_RUN 0))) ∧
     (leAt sfdp 0 4 ≠ 0x50444653 → flashMode sfdp = (0, 25)) ∧ (flashMode sfdp).2 ≤ 100 ∧
     (s.fwRuns = true → s.images = image :: rest →
       (s.envOk image 2 = true → s.imageOk (image.drop 192) true = true →
         exec .tellerImageLoad s = .next (next.loadImage (image.drop 192))) ∧
       (s.envOk image 2 = false ∨ s.imageOk (image.drop 192) true = false → exec .tellerImageLoad s = .next next)))


/-! Escrow and slots (R123 to R141). -/

/-- Runs, the commit port and the close on the Manager: RUN opens a run at ESC_ORIGIN unless a rule refuses it; STOP asks
for its end, and both are refused elsewhere; the port answers its oldest commit, after a close that is due, and an accepted
frame joins escrow; the close gives the next slot the oldest frame, or a repeat, or a void, and moves x and EC on (R129 to R133, R138, R140).
The model's own choices in it: log entries 34, 77. -/
def Obligations.EscrowRun : Prop :=
  ∀ s : State, s.isOff = false →
    let first := s.origin - s.fld ESC_DEFGAP_LINES - s.fld ESC_LEAD_LINES
    let refused : Prop := s.fld ESC_STMAP_STN = 0 ∨ s.fld ESC_DEFLEN_LINES < s.fld ESC_LEAD_LINES ∨
      s.origin ≤ s.wpos / 2 ^ 16 + s.fld ESC_DEFGAP_LINES + s.fld ESC_LEAD_LINES
    let cfgErr : State := s.setFld ESC_STATUS_CFGERR 1
    let u := s.closesDue 64
    (s.isManager = false → exec .run s = .next cfgErr ∧ exec .stop s = .next cfgErr ∧ exec .escrowClose s = .next s) ∧
    (s.isManager = true → s.esc.runOpen = false → refused → exec .run s = .next cfgErr) ∧
    (s.isManager = true → s.esc.runOpen = false → ¬ refused → ∃ s', exec .run s = .next s' ∧ s'.esc = { s.esc with
      runOpen := true, stopReq := false, x := s.origin, ec := first, prev := none, lastEnd := none
      fixed := if s.inRun then s.esc.fixed else some s.geoNow } ∧
      s'.fld ESC_CTL_RUN = 1 ∧ s'.fld ESC_NEXTECLO_VALUE = first % 2 ^ 32 ∧ s'.wpos = s.wpos ∧ s'.tellers = s.tellers) ∧
    (s.isManager = true → s.esc.runOpen = true → exec .run s = .next s ∧ ∃ s', exec .stop s = .next s' ∧
      s'.esc = { s.esc with stopReq := true } ∧ s'.fld ESC_STATUS_ENDING = 1 ∧ s'.tellers = s.tellers) ∧
    (s.esc.port = [] → exec .commitAccept s = .next s) ∧
    (s.isManager = false ∨ s.esc.runOpen = false ∨ s.wpos < s.esc.ec * 2 ^ 16 → u = s) ∧
    (∀ t rd bs rest, s.esc.port = (some t, rd, bs) :: rest → (s.teller t).wait = .port → t < 16 →
      let st := u.commitCheck bs
      ∃ s', exec .commitAccept s = .next s' ∧ s'.esc.port = rest ∧
        s'.esc.ahead = (if st = 0 then u.esc.ahead ++ [⟨Desc.ofBytes bs, none⟩] else u.esc.ahead) ∧
        (rd ≠ 0 → (s'.teller t).getG rd = BitVec.ofNat 32 (if st = 0 ∧ u.commitLate = true then 1 else st)) ∧
        (s'.teller t).wait = .none ∧ (s'.teller t).pc = (s.teller t).pc + 4) ∧
    (∀ a bs ws rest, s.esc.port = (none, a, bs) :: rest → s.mbOldest a = some (4, ws) →
      exec .commitAccept s = .next ({ u with esc := { u.esc with port := rest } }.mbDo a 4 ws
        [if u.commitCheck bs = 0 ∧ u.commitLate = true then 1 else u.commitCheck bs])) ∧
    (s.isManager = true → s.esc.runOpen = true → s.wpos < s.esc.ec * 2 ^ 16 → exec .escrowClose s = .next s) ∧
    (s.isManager = true → s.esc.runOpen = true → s.esc.ec * 2 ^ 16 ≤ s.wpos → s.esc.stopReq = true →
      ∃ s', exec .escrowClose s = .next s' ∧ s'.esc.runOpen = false ∧ s'.esc.stopReq = false ∧
        s'.esc.ahead = s.esc.ahead ∧ s'.fld ESC_ENDPOSLO_LINE = s.esc.lastEnd.getD s.esc.ec % 2 ^ 32) ∧
    (s.isManager = true → s.esc.runOpen = true → s.esc.ec * 2 ^ 16 ≤ s.wpos → s.esc.stopReq = false →
      let c := s.closeRec
      (∃ s', exec .escrowClose s = .next s' ∧ s'.esc.runOpen = true ∧ s'.esc.ahead = s.esc.ahead.drop 1 ∧
        s'.esc.x = c.x + c.desc.length + c.desc.gap ∧ s'.esc.ec = c.x + c.desc.length - s.fld ESC_LEAD_LINES ∧
        s'.fld ESC_NEXTSLOT_VALUE = (c.slot + 1) % 2 ^ 32) ∧
      c.slot = s.fld ESC_NEXTSLOT_VALUE ∧ c.x = s.esc.x ∧ c.ec = s.esc.ec ∧
      (∀ d rest, s.esc.ahead = ⟨d, none⟩ :: rest → c.kind = 1 ∧ c.desc = d) ∧
      (∀ d i rest, s.esc.ahead = ⟨d, some i⟩ :: rest → c.kind = 3 ∧ c.reason = 11) ∧
      (s.esc.ahead = [] → s.esc.prev = none → c.kind = 3 ∧ c.reason = 1) ∧
      (∀ k d, s.esc.ahead = [] → s.esc.prev = some (k, d) → s.fallback = 2 → d.repeatable = true → k ≠ 3 →
        c.kind = 2 ∧ c.desc = d))

/-- The lead station is the one of ESC_STMAP with the smallest exposure offset, the lower-numbered of equals, and each
station's lag is its exposure offset less the lead's; both are fixed when a run opens, whatever register is then written
(R123). -/
def Obligations.LeadStation : Prop :=
  ∀ (s : State) (n : Nat), n < 16 → s.fbit ESC_STMAP_STN n = true → s.inRun = false →
    let off (k : Nat) : Int := (s.fld (TIM_STOFF_LINES k) : Int) - s.fld (TIM_DRUMARC_LINES k)
    s.fbit ESC_STMAP_STN s.lead = true ∧ off s.lead ≤ off n ∧ (off n = off s.lead → s.lead ≤ n) ∧
    (s.lag n : Int) = off n - off s.lead ∧
    (∀ f v, (s.runOpenAt.setFld f v).lead = s.lead ∧ (s.runOpenAt.setFld f v).lag n = s.lag n)

/-- A slot at the stations of a Worker and at its end on the Manager: release, window start, completion; a record that does
not come; void requests; a damaged descriptor; and the ring's close, end-of-run, report and void records (R124, R134 to
R136, R139, R140). A void on the Manager: the slot leaves, VOIDCNT counts it and the log entry of its number takes slot,
reason, station and incident; other slots stay (R135, R136). The model's own choices in it: log entries 31, 77. -/
def Obligations.SlotCommands : Prop :=
  (∀ (s : State) (k stn i : Nat), s.isOff = false →
     let r := s.slot k
     let here : Prop := s.isWorker = true ∧ s.inFlight k = true ∧ stn ∈ s.served
     (here → r.released.testBit stn = false → (r.ec + r.geo.lag stn) * 2 ^ 16 ≤ s.wpos →
       exec (.slotRelease k stn) s = .next ((((s.setSlot k { r with released := r.released ||| 2 ^ stn }).releaseShow k
         stn).releaseTable k stn).tevEscMask)) ∧
     (r.voided = none → r.kind ≠ 3 → r.desc.table stn ≠ 0 → s.flag STO_STATUS_READY = true →
       (s.inSealed (r.desc.table stn * unitBytes) (s.tableLen r.desc stn) = true →
         s.releaseTable k stn = s.fetchTable k stn) ∧
       (s.inSealed (r.desc.table stn * unitBytes) (s.tableLen r.desc stn) = false →
         s.releaseTable k stn = s.voidReportNew k stn 2)) ∧
     (r.voided = none → r.kind ≠ 3 → r.desc.table stn ≠ 0 → s.flag STO_STATUS_READY = false →
       s.releaseTable k stn = s.voidReportNew k stn rsStore) ∧
     (here → s.wpos < (r.ec + r.geo.lag stn) * 2 ^ 16 → exec (.slotRelease k stn) s = .next s) ∧
     (let s0 := s.windowsDue
      let r0 := s0.slot k
      s0.isWorker = true → s0.inFlight k = true → stn ∈ s0.served → r0.released.testBit stn = true →
       r0.begun.testBit stn = false → (r0.x + r0.geo.lag stn) * 2 ^ 16 ≤ s0.wpos → exec (.slotWindowStart k stn) s = .next
         (eachPort (fun n s => s.windowBegin k stn n) (s0.portsOf stn)
           (s0.setSlot k { r0 with begun := r0.begun ||| 2 ^ stn }))) ∧
     (s.isManager = true ∨ s.isStandby = true → s.inFlight k = true → (r.x + r.geo.maxLag + r.desc.length) * 2 ^ 16 ≤ s.wpos →
       ∃ s', exec (.slotComplete k) s = .next s' ∧ s'.inFlight k = false ∧
         s'.fld ESC_DONECNT_COUNT = (s.fld ESC_DONECNT_COUNT + if s.isStandby then 0 else 1) % 2 ^ 32 ∧ ∀ j, j ≠ k → s'.slot j = s.slot j) ∧
     (∀ j x len gap, s.esc.expect = some (j, x, len, gap) → s.isWorker = true → stn ∈ s.served → s.inFlight j = false →
       (x + s.lag stn) * 2 ^ 16 ≤ s.wpos → exec (.noclose stn) s = .next
         (((((s.setSlot j ⟨3, Desc.void len gap, x, 0, none, s.served.foldl (fun m n => m ||| 2 ^ n) 0, 0, 0, [], [], s.geo, 0⟩).raise 4
           1).voidReportNew j stn 9).expectOn 64))) ∧
     (s.isManager = true → s.inFlight k = true → exec (.escVoidreq k) s = .next (s.voidSlot k 10 r.geo.lead 0)) ∧
     (s.isManager = true → s.inFlight k = false → exec (.escVoidreq k) s = .next (s.setFld ESC_STATUS_CFGERR 1)) ∧
     (s.isWorker = true → exec (.escVoidreq k) s = .next (s.ringUni s.mgrEp
       (.voidrep ⟨k, 10, s.served.headD 0, 0, noFrame⟩))) ∧
     (s.isStandby = true → exec (.escVoidreq k) s = .next s) ∧
     (s.isManager = true → i < s.esc.ahead.length → ∃ s', exec (.descriptorEccError true i) s = .next s' ∧
       s'.esc.ahead = markBad ((s.raise 4 0).incOf 4) i s.esc.ahead) ∧
     (s.isManager = true → s.inFlight k = true → exec (.descriptorEccError false k) s =
       .next ((s.raise 4 0).voidSlot k 11 r.geo.lead ((s.raise 4 0).incOf 4))) ∧
     (∀ h c, s.accepts h = true → let u := s.heard h (.close c)
       exec (.close h c) s = .next (if u.isWorker then u.closeTake c else u)) ∧
     (∀ h j ec, s.accepts h = true → let u := s.heard h (.endrun j ec)
       (u.isWorker = true → exec (.endrun h j ec) s = .next (u.expectEnd j).windowsDue) ∧
       (u.isStandby = true → ∃ s', exec (.endrun h j ec) s = .next s' ∧ s'.esc.runOpen = false ∧
         s'.fld ESC_ENDPOSLO_LINE = u.esc.lastEnd.getD ec % 2 ^ 32) ∧
       (u.isWorker = false → u.isStandby = false → exec (.endrun h j ec) s = .next u)) ∧
     (∀ h v, s.accepts h = true → let u := s.heard h (.voidrep v)
       exec (.voidrep h v) s = .next (
         if ¬ u.isManager then u
         else if v.reason = 10 ∧ v.incident = 0 ∧ u.inFlight v.slot = false then u.setFld ESC_STATUS_CFGERR 1
         else u.voidSlot v.slot v.reason v.station v.incident)) ∧
     (∀ h v, s.accepts h = true → let u := s.heard h (.void v)
       exec (.void h v) s = .next (
         if u.isWorker ∧ u.inFlight v.slot then (u.voidLocal v.slot v.reason).tevEscMask else u))) ∧
  (∀ (s : State) (k reason station incident : Nat), s.inFlight k = true →
     let s' := s.voidSlot k reason station incident
     s'.inFlight k = false ∧ (∀ j, j ≠ k → s'.slot j = s.slot j) ∧
     s'.fld ESC_VOIDCNT_COUNT = (s.fld ESC_VOIDCNT_COUNT + if s.isStandby then 0 else 1) % 2 ^ 32 ∧
     s'.fld (ESC_LOGSLOT_SLOT (k % 64)) = k % 2 ^ 32 ∧ s'.fld (ESC_LOG_REASON (k % 64)) = reason % 2 ^ (ESC_LOG_REASON 0).width ∧
     s'.fld (ESC_LOG_STATION (k % 64)) = station % 2 ^ (ESC_LOG_STATION 0).width ∧
     s'.fld (ESC_LOG_INCIDENT (k % 64)) = incident % 2 ^ 16 ∧ s'.pm = s.pm ∧ s'.dm = s.dm ∧ s'.dram = s.dram)


/-! Web position and time (R35 to R57, R353). -/

/-- Encoder inputs: a step of an enabled input counts up or down, by INV, and moves WPOS where the node counts the master
input; an input that is not enabled counts nothing; an illegal step of a quadrature input and an amplitude fault of a sin/cos
input raise their sources; while the amplitude is out of range the held step stands, and its return moves the count by the
shortest way to the phase that returns (R35, R36). The model's own choices in it: log entry 68. -/
def Obligations.EncoderInputs : Prop :=
  (∀ held phase, -2048 ≤ shortMove held phase ∧ shortMove held phase ≤ 2047 ∧
    (shortMove held phase - ((phase : Int) - held)) % 4096 = 0) ∧
  ∀ (s : State) (n phase held : Nat) (up : Bool) (vel : Int), s.isOff = false →
    let inv := s.flag (TIM_ENCCFG_INV n)
    let en := s.flag (TIM_ENCCFG_EN n)
    let sinCos := s.flag (TIM_ENCCFG_TYPE n)
    let amp := tabGet none s.pos.ampFault n
    let plus (d : Int) (u : State) : State :=
      (u.setPos { u.pos with count := tabSet 0 u.pos.count n (tabGet 0 u.pos.count n + d) }).setFld
        (TIM_ENCCNT_COUNT n) (toTwos 32 (tabGet 0 u.pos.count n + d))
    let counted := plus (if up = inv then -1 else 1) s
    let follows (s1 : State) : State :=
      ((s1.setPos { s1.pos with extrap := 0, since := 0 }).setFld TIM_RAWVEL_VEL (toTwos 32 vel)).masterMoved
    let master : Prop := n = s.fld TIM_CFG_MASTER ∧ (s.isManager = true ∨ s.isStandby = true)
    (4 ≤ n → ∀ e, exec (.encoderEdge n e vel) s = .next s) ∧
    (en = false → exec (.encoderEdge n (.step up) vel) s = .next s ∧ exec (.encoderEdge n .illegal vel) s = .next s) ∧
    (n < 4 → en = true → sinCos = false ∨ amp = none →
      (¬ master → exec (.encoderEdge n (.step up) vel) s = .next counted) ∧
      (master → exec (.encoderEdge n (.step up) vel) s = .next (follows counted))) ∧
    (n < 4 → sinCos = true → amp ≠ none → exec (.encoderEdge n (.step up) vel) s = .next s) ∧
    (n < 4 → en = true → sinCos = false → let r := (s.inc TIM_VIOL_COUNT).raise 0 0
      exec (.encoderEdge n .illegal vel) s =
        .next (r.violation (0x200 + n) (r.flag (FLT_ROUTE_EN 0)) (r.fld (FLT_ROUTE_ACCT 0)))) ∧
    (n < 4 → en = true → sinCos = true → ∃ s', exec (.encoderEdge n (.ampFault held) vel) s = .next s' ∧
      tabGet none s'.pos.ampFault n = some held ∧ s'.pos.count = s.pos.count ∧ s'.srcSet 0 1 = true) ∧
    (n < 4 → en = true → sinCos = true → amp = some held → ¬ master →
      exec (.encoderEdge n (.ampReturn phase) vel) s = .next (plus
        (if inv then - shortMove held phase else shortMove held phase)
        (s.setPos { s.pos with ampFault := tabSet none s.pos.ampFault n none })))

/-- What the Manager publishes never falls: WPOS takes the raw position where that is higher and stays where it is not;
between, TIM_VEL shows the velocity only while it moves forward (R37, R38). A follower's correction by the first copy of a
beacon: a difference above 1/4 line resynchronises and raises its source, a smaller one is corrected by a quarter; what it
publishes at the end of a cycle does not fall (R41, R45). WPOS never falls (R8): every command but a reset, the confirmation of
a role and a write of GLB_RESET leaves it at least as high on every node, and so does every cycle in which no such write waits. -/
def Obligations.PublishedPosition : Prop :=
  (∀ s : State, s.isManager = true →
     let s' := s.managerPublish
     s'.pos.out = max s.pos.out s.rawPos.toNat ∧ s.pos.out ≤ s'.pos.out ∧ s'.fld TIM_STATUS_SRC = 1 ∧
     (s.rawPos < s.pos.out → s'.fld TIM_VEL_VEL = 0)) ∧
  (∀ (s : State) (dir at1 : Nat) (b : Beacon),
     let pred : Int := (b.wpos : Int) * 2 ^ 24 +
       ((b.vel * 2 ^ 16 * (s.fld (RNG_PATHDLY_PS dir) + b.resid * 1000) / 1000000 : Nat) : Int)
     let err := pred - s.pos.est
     let s' := s.takeBeacon dir b at1
     s'.pos.out = s.pos.out ∧ s'.publishEst.pos.out = max s.pos.out s'.pos.est.toNat ∧
     (2 ^ 38 < err.natAbs → s'.pos.est = pred ∧ s'.srcSet 0 7 = true) ∧
     (err.natAbs ≤ 2 ^ 38 → s'.pos.est = s.pos.est + err.tdiv 4 ∧ s'.pos.vel = s.pos.vel + err.tdiv 16)) ∧
  (∀ s : State, s.pos.out ≤ s.posTick.pos.out) ∧
  (∀ (c : Instr) (s t : State), s.mayRestart c = false → exec c s = .next t → s.pos.out ≤ t.pos.out) ∧
  (∀ s t : State, s.pending = [] → (∀ a, a ∈ s.stream → a.kind = 1 → a.addr ≠ 0x30) → step s = .next t →
    s.pos.out ≤ t.pos.out)

/-- Beacons and the line master: the Manager sends its position with the next SEQ on both directions, and a watermark to a
Standby; a node that follows takes a beacon, which goes on with its residence added; one that loses the beacons goes on by
dead reckoning, then loses its position; of the two copies of one beacon the first is taken, direction A's where both fall in
one cycle, and the other only compared, within 1/256 line (R42); line-master edges are counted and give the rate (R40 to R44, R47, R321, R359).
The model's own choices in it: log entries 29, 35, 68. -/
def Obligations.BeaconsAndLineMaster : Prop :=
  ∀ (s : State) (interval : Nat), s.isOff = false →
    let b : Beacon := ⟨s.pos.bcnSeq, s.wpos, s.fld TIM_VEL_VEL, 0, s.inhibit⟩
    let sent : State := { s with pos := { s.pos with bcnSeq := (s.pos.bcnSeq + 1) % 2 ^ 32 } }.beaconOut b
    (s.isManager = true → s.pwr.bcnStopped = false →
      (s.hasStandby = false → exec .beaconSend s = .next sent) ∧
      (s.hasStandby = true → exec .beaconSend s = .next (sent.ringBoth (some s.stbyEp)
        (.watermark (s.fld FLT_MSEQ_MSEQ) (s.fld FLT_LASTSETTLED_MSEQ) (s.fld FLT_LASTEVENT_MSEQ)))) ∧
      (s.ringRuns = true → s.flag RNG_STATUS_WRAPA = false → s.flag RNG_STATUS_WRAPB = false →
        let f : RingFrame := ⟨none, s.node, s.fld GLB_TERM_TERM, 0, false, 0xFFFF, .beacon b⟩
        sent.out = s.out ++ [.ring 0 f, .ring 1 f])) ∧
    (s.isManager = false → exec .beaconSend s = .next s) ∧
    (s.fld TIM_STATUS_SRC = 2 → s.pwr.dormantLow = false →
      exec .deadReckoning s = .next ((s.setFld TIM_STATUS_SRC 3).raise 0 2)) ∧
    (s.fld TIM_STATUS_SRC = 2 → s.pwr.dormantLow = true → ∃ r, exec .deadReckoning s = .next r ∧ r.fld TIM_STATUS_SRC = 3 ∧
      r.pwr.bcnStopped = true ∧ r.srcSet 0 2 = s.srcSet 0 2) ∧
    (s.fld TIM_STATUS_SRC = 3 → s.pwr.dormantLow = false →
      exec .positionLost s = .next ((s.setFld TIM_STATUS_POSLOST 1).raise 0 3)) ∧
    (s.fld TIM_STATUS_SRC = 3 → s.pwr.dormantLow = true → exec .positionLost s = .next (s.setFld TIM_STATUS_POSLOST 1)) ∧
    (s.isManager = true → interval ≠ 0 → exec (.lineMasterEdge interval) s = .next ((s.incWrap TIM_LMCNT_VALUE).setFld
      TIM_LMRATE_VALUE (s.fld TIM_LMSCALE_VALUE * 16000000000 / (interval * 2 ^ 24)))) ∧
    (s.isManager = false ∨ interval = 0 → exec (.lineMasterEdge interval) s = .next (s.incWrap TIM_LMCNT_VALUE)) ∧
    (s.isManager = true → s.flag TIM_LMCFG_EN = true →
      exec .lineMasterTimeout s = .next ((s.setFld TIM_LMRATE_VALUE 0).raise 0 6)) ∧
    (∀ h c, s.accepts h = true → ∃ r, r < 161 ∧
      let u := { s with freeCtr := s.freeCtr + 1 }.heard h (.beacon { c with resid := c.resid + r })
      (u.isManager = true → exec (.beacon h c) s = .next u) ∧
      (u.isWorker = true ∨ u.isStandby = true →
        exec (.beacon h c) s = .next ({ u with pwr := { u.pwr with bcnStopped := false } }.followBeacon h c))) ∧
    (∀ (h : Hdr) c, h.term ≤ s.fld GLB_TERM_TERM → s.pos.copyB = none →
      (h.dir = 0 → s.firstCopy c.seq = none → s.followBeacon h c = s.takeBeacon 0 c s.time.cycles) ∧
      (h.dir ≠ 0 → s.firstCopy c.seq = none →
        s.followBeacon h c = { s with pos := { s.pos with copyB := some (c, s.time.cycles) } }) ∧
      (∀ q pred vel at1, s.firstCopy c.seq = some (q, pred, vel, at1) →
        let went := pred + ((vel * 2 ^ 16 * (s.time.cycles - at1) / 800 : Nat) : Int)
        let here := s.predOf (if h.dir = 0 then 0 else 1) c
        (2 ^ 32 < (here - went).natAbs → s.followBeacon h c = s.raise 0 5) ∧
        ((here - went).natAbs ≤ 2 ^ 32 → s.followBeacon h c = s)))

/-- The calendar: a staged date that fails a check, or one while PTP tracks, is refused; a legal one sets wall time; the
next second carries into the date, and after 2399-12-31 the calendar rolls to 2000-01-01 with WRAP (R49, R53 to R55). The
wall-time timers: arming one whose deadline has passed fires it at once, else it stays armed; disarming clears it; firing
disarms it, sets FIRED and, with its event enabled, TEV.CLD of its teller (R51, R52). PTP: the eighth good interval starts
tracking, three missed ones end it (R353). The model's own choices in it: log entries 59, 64. -/
def Obligations.WallTime : Prop :=
  (∀ (s : State), s.isOff = false →
     let y := s.fld CLD_SDATE_YEAR
     let m := s.fld CLD_SDATE_MONTH
     let d := s.fld CLD_SDATE_DAY
     let legal : Prop := 2000 ≤ y ∧ y ≤ 2399 ∧ 1 ≤ m ∧ m ≤ 12 ∧ 1 ≤ d ∧ d ≤ monthLen y m ∧ s.fld CLD_STIME_HOUR < 24 ∧
       s.fld CLD_STIME_MIN < 60 ∧ s.fld CLD_STIME_SEC < 60 ∧ s.fld CLD_SNS_NS < 1000000000
     (s.fld CLD_STATUS_SRC = 2 → legal → exec .cldCommit s = .next (s.setFld CLD_STATUS_PTPOWN 1)) ∧
     (s.fld CLD_STATUS_SRC = 2 → ¬ legal →
       exec .cldCommit s = .next ((s.setFld CLD_STATUS_BADDATE 1).setFld CLD_STATUS_PTPOWN 1)) ∧
     (s.fld CLD_STATUS_SRC ≠ 2 → ¬ legal → exec .cldCommit s = .next (s.setFld CLD_STATUS_BADDATE 1)) ∧
     (s.fld CLD_STATUS_SRC ≠ 2 → legal → ∃ s', exec .cldCommit s = .next s' ∧ s'.time.ns = s.fld CLD_SNS_NS ∧
       s'.time.sec = secOf y m d (s.fld CLD_STIME_HOUR) (s.fld CLD_STIME_MIN) (s.fld CLD_STIME_SEC) % secCycle ∧
       s'.fld CLD_STATUS_SRC = 1 ∧ s'.fld CLD_STATUS_STEPPED = 1 ∧ s'.wpos = s.wpos) ∧
     (s.time.commitAt = some s.time.cycles → exec .secondRollover s = .next s) ∧
     (s.time.commitAt ≠ some s.time.cycles → ∃ s', exec .secondRollover s = .next s' ∧ s'.time.ns = 0 ∧
       s'.time.sec = (if s.time.sec + 1 < secCycle then s.time.sec + 1 else 0) ∧
       (secCycle ≤ s.time.sec + 1 → s'.fld CLD_STATUS_WRAP = 1) ∧
       (s.time.sec + 1 < secCycle → s'.fld CLD_STATUS_WRAP = s.fld CLD_STATUS_WRAP)) ∧
     dateOf 36583 = (2100, 2, 7, 28) ∧ dateOf 36584 = (2100, 3, 1, 1) ∧ dateOf 59 = (2000, 2, 2, 29) ∧
     dateOf 146096 = (2399, 12, 5, 31) ∧ dateOf 0 = (2000, 1, 6, 1) ∧ secCycle = 146097 * 86400) ∧
  (∀ (s : State) (n : Nat) (offset : Int) (mpd : Nat), s.isOff = false →
     let deadline := s.fld (CLD_TMRHI_DL n) * 2 ^ 32 + s.fld (CLD_TMRLO_DL n)
     let armed := s.setFld CLD_TMRCTL_ARM (s.fld CLD_TMRCTL_ARM ||| 2 ^ n)
     (n < 8 →
       (s.wall < deadline → exec (.cldTimerArm n) s = .next armed) ∧
       (deadline ≤ s.wall → ∃ s', exec (.cldTimerArm n) s = .next s' ∧ s'.timerArmed n = false ∧
         s'.fbit CLD_TMRCTL_FIRED n = true ∧
         (s.fbit CLD_TMREVEN_EN n = true → ((s'.teller (s.fld CLD_TMRROUTE_T / 16 ^ n % 16)).tev).getLsbD 21 = true) ∧
         (s.fbit CLD_TMREVEN_EN n = false → s'.tellers = s.tellers)) ∧
       (∃ s', exec (.cldTimerDisarm n) s = .next s' ∧ s'.timerArmed n = false ∧
         (∀ k, k < 8 → k ≠ n → s'.timerArmed k = s.timerArmed k)) ∧
       (s.timerArmed n = false → exec (.wallTimerFire n) s = .next s) ∧
       (s.timerArmed n = true → deadline ≤ s.wall → exec (.wallTimerFire n) s = .next (s.fireDue 8)) ∧
       (s.timerArmed n = true → s.wall < deadline → deadline < secCycle * 1000000000 → exec (.wallTimerFire n) s =
         .next ({ s with time := { s.time with
           sec := deadline / 1000000000, ns := deadline % 1000000000, quarter := 0 } }.fireDue 8)) ∧
       (s.timerArmed n = true → deadline ≤ s.wall → (∀ k, k < 8 → k ≠ n → s.timerArmed k = false) →
         s.fireDue 8 = s.timerFire n)) ∧
     (s.flag PTP_CFG_EN = false ∨ s.fld PTP_STAT_STATE = 4 →
       exec (.ptpSync offset mpd) s = .next s ∧ exec .ptpSyncLoss s = .next s) ∧
     (s.flag PTP_CFG_EN = true → s.fld PTP_STAT_STATE ≠ 4 →
       (s.fld CLD_STATUS_SRC ≠ 2 → ∃ s', exec (.ptpSync offset mpd) s = .next s' ∧
         s'.fld PTP_MPD_NS = mpd % 2 ^ 32 ∧
         (offset.natAbs ≤ 1000 → 7 ≤ s.time.goodSyncs → s'.fld CLD_STATUS_SRC = 2) ∧
         (1000 < offset.natAbs ∨ s.time.goodSyncs < 7 → s'.fld CLD_STATUS_SRC = s.fld CLD_STATUS_SRC)) ∧
       (s.fld CLD_STATUS_SRC = 2 → offset.natAbs ≤ 1000000 → ∃ s',
         exec (.ptpSync offset mpd) s = .next s' ∧ s'.time.slew = -offset ∧ s'.time.sec = s.time.sec ∧ s'.time.ns = s.time.ns) ∧
       (s.fld CLD_STATUS_SRC = 2 → ∃ s',
         exec .ptpSyncLoss s = .next s' ∧ s'.fld CLD_STATUS_SRC = 1 ∧ s'.srcSet 20 0 = true ∧ s'.time.sec = s.time.sec ∧
         s'.time.ns = s.time.ns)))

/-! Scan timing, the clock supervisor, the head link and exposure (R142 to R194). -/

/-- Scan timing of a port: SOS and EOS pulses outside the window of a locked port are discarded and counted, others are
recorded at the instant SCN_CFG.EDGE selects; a missing SOS runs on a prediction or, past the budget, is lost; profiles,
phase lock, the pixel PLL and bands; a sweep boundary applies what was written, but for a write that came too late, and
TEV.SWEEP goes to the teller the port names (R19, R33, R145, R147, R148, R151, R154, R156, R159). A pixel rate's
band is the smallest of the five whose VCO range holds it, 7 when none does (R153, R154). -/
def Obligations.ScanTimingAndBands : Prop :=
  (∀ (s : State) (n rise width phase pp time : Nat), s.isOff = false → n < 4 →
     let near (place : Nat) : Prop := ((pp * 2 ^ 16 : Int) - place).natAbs ≤ s.fld (SCN_WIN_SOSWIN n) * 2 ^ 16
     let outside : Prop := s.flag (SCN_STAT_LOCKED n) = true ∧ ¬ near (s.fld (PLL_PPS_VALUE n))
     let edge : Nat := if s.fld (SCN_CFG_EDGE n) = 1 then rise else if s.fld (SCN_CFG_EDGE n) = 2 then rise + width
       else rise + width / 2
     let eosNear : Prop := near (s.fld (SCN_WIN_EOSEXP n) * 2 ^ 16)
     let interval (t : Nat) : Nat := (time + 2 ^ 32 - t % 2 ^ 32) % 2 ^ 32
     let live : Prop := s.role = 0 ∨ s.role = 3
     let held : Prop := s.role = 1 ∨ s.role = 2 ∨ s.role = 4
     let discarded := Host.Outcome.next (s.inc GLB_BADACC_COUNT)
     (51200 < width → exec (.sosEdge n rise width phase pp) s = .next s) ∧
     (width ≤ 51200 → outside → exec (.sosEdge n rise width phase pp) s = .next (s.inc SCN_VIOL_COUNT)) ∧
     (width ≤ 51200 → ¬ outside → exec (.sosEdge n rise width phase pp) s =
       .next ((((((s.eosTally n).sosRecord n edge width).setFld (SCN_STAT_PRED n) 0).mapScan n fun c =>
         { c with predInc := none }).sosStrobe n phase 0).sosPhase n s.wpos)) ∧
     (s.flag (SCN_CFG_FACETSRC n) = true → exec (.eosEdge n time pp width) s =
       .next (s.setScan n { s.scanP n with index := true })) ∧
     (s.flag (SCN_CFG_FACETSRC n) = false → s.flag (SCN_CFG_EOSEN n) = true →
       (¬ eosNear → exec (.eosEdge n time pp width) s = .next (s.inc SCN_VIOL_COUNT)) ∧
       (eosNear → ∀ t, (s.scanP n).lastTime = some t → exec (.eosEdge n time pp width) s =
         .next (((s.setScan n { s.scanP n with eosSeen := true }).calWidth (4 + n) width).setFld (SCN_EOSDUR_VALUE n)
           (interval t)))) ∧
     (s.flag (SCN_STAT_LOCKED n) = false → exec (.sosPredict n phase) s = .next s) ∧
     (s.flag (SCN_STAT_LOCKED n) = true → s.fld (SCN_CFG_SOSBUD n) ≤ s.fld (SCN_STAT_PRED n) →
       exec (.sosPredict n phase) s = .next (s.sosLost n)) ∧
     (s.flag (SCN_STAT_LOCKED n) = true → s.fld (SCN_STAT_PRED n) < s.fld (SCN_CFG_SOSBUD n) →
       exec (.sosPredict n phase) s = .next ((((((((s.setFld (SCN_STAT_PRED n) (s.fld (SCN_STAT_PRED n) + 1)).inc
         (SCN_PREDCNT_COUNT n)).predictNumber n).eosTally n).predictTime n).nextFacet n).sosStrobe n phase
           (s.fld (SCN_WIN_SOSWIN n))).sosPhase n (s.predictedAt n))) ∧
     (s.flag (SCN_CTL_PLOCKEN n) = false → s.bindOk (s.scanLoops n) = true → s.inhibit = false →
       exec (.plockEnable n true) s = .next (s.setFld (SCN_CTL_PLOCKEN n) 1)) ∧
     (s.flag (SCN_CTL_PLOCKEN n) = false → s.bindOk (s.scanLoops n) = true → s.inhibit = true →
       exec (.plockEnable n true) s = .next ((s.setFld (SCN_CTL_PLOCKEN n) 1).loopSuspend n)) ∧
     (s.flag (SCN_CTL_PLOCKEN n) = false → s.bindOk (s.scanLoops n) = false →
       exec (.plockEnable n true) s = .next (s.setFld SCN_STATUS_CFGERR 1)) ∧
     exec (.plockEnable n false) s = .next (s.setFld (SCN_CTL_PLOCKEN n) 0) ∧
     (let p := s.stagedProfile n 264
      (live → profileOk p 264 = true → exec (.profileCommit n) s = .next ((s.setScan n { s.scanP n with
         commits := (p, s.flag (PLL_PROFCTL_PERFACET n)) :: (s.scanP n).commits, recent := [] :: (s.scanP n).recent }).setFld
           (PLL_PROFCTL_PEND n) 1)) ∧
      (live → profileOk p 264 = false → exec (.profileCommit n) s = .next (s.setFld (PLL_PROFCTL_PROFERR n) 1)) ∧
      (held → exec (.profileCommit n) s = discarded)) ∧
     (s.flag (PLL_CTL_EN n) = true → live →
       (let s1 := ((s.setFld (PLL_CTL_LOCK n) 0).inc (PLL_LOLCNT_COUNT n)).raise 6 n
        exec (.pllLossOfLock n) s = .next (s1.voidFromNext n 7 (s1.incOf 6))) ∧
       exec (.pllLockAcquired n) s = .next ((s.setFld (PLL_CTL_LOCK n) 1).setScan n { s.scanP n with
         bandBusy := (s.scanP n).bandBusy && (s.flag (HLK_CTL_EN n) && ! s.linkUp n) })) ∧
     (s.flag (PLL_CTL_EN n) = false ∨ held →
       exec (.pllLossOfLock n) s = .next s ∧ exec (.pllLockAcquired n) s = .next s) ∧
     (let b := bandOf (s.pixelHz n)
      live → s.portImaging n = false → b ≠ s.fld (SCN_STAT_BAND n) → ∃ s', exec (.bandChange n) s = .next s' ∧
        s'.fld (SCN_STAT_BAND n) = b ∧ s'.fld (PLL_CTL_BAND n) = b ∧ s'.flag (PLL_CTL_LOCK n) = false ∧
        (s.flag (HLK_CTL_EN n) = true → s'.fld (HLK_STAT_STATE n) = 1)) ∧
     (let c := s.scanP n
      let clean (u : State) : State := u.setScan n { u.scanP n with recent := [] }
      let left (cs : List (Tab Nat × Bool)) (u : State) : State := u.setScan n { u.scanP n with commits := cs }
      (live → exec (.sweepBoundary n 0) s = .next (left [] ((clean s).sweepBoundary n)) ∧
        (∀ f v rest, c.recent = [(f, v)] :: rest → exec (.sweepBoundary n 1) s =
          .next (left [] (((clean (s.setFld f v)).sweepBoundary n).setFld f (s.fld f)))) ∧
        ∀ rest p older, c.recent = [] :: rest → c.commits = p :: older → exec (.sweepBoundary n 1) s =
          .next ((left [p] ((left older (clean s)).sweepBoundary n)).setFld (PLL_PROFCTL_PEND n) 1)) ∧
      (held → exec (.sweepBoundary n 0) s = .next s)) ∧
     (∀ u, ((s.sweepEvent n).teller u).tev = if s.flag (SCN_CTL_SWPEN n) = true ∧ u = s.fld (SCN_CTL_SWPT n)
       then (s.teller u).tev ||| 0x1000000 else (s.teller u).tev)) ∧
  (∀ hz : Nat,
     let holds (b : Nat) : Prop := 1875000000 ≤ 160 * hz * 2 ^ b ∧ 160 * hz * 2 ^ b ≤ 3846000000
     (∀ b, bandOf hz = b → b < 5 → holds b ∧ ∀ a, a < b → ¬ holds a) ∧ (bandOf hz = 7 ↔ ∀ b, b < 5 → ¬ holds b) ∧
     (bandOf hz < 5 ∨ bandOf hz = 7))

/-- The clock supervisor: a dead reference is unhealthy at once, sets its source and starts holdover when it is the
selected one; edges that return end DEAD; a switch starts at an allowed instant and ends in the normal state on the new
reference; SWREQ is ignored unless the other reference is healthy and armed; 60 s without a reference ask for the end of
the run (R163 to R167, R169, R171). The model's own choices in it: log entries 35, 69, 77. -/
def Obligations.ReferenceClocks : Prop :=
  ∀ (s : State) (r : Nat) (a b : Int), s.isOff = false → r < 2 →
    (let k := Config.oscPpm s.plant.dieTemp
     let u : State := { s with plant := { s.plant with oscTemp := s.plant.dieTemp } }
     exec (.referenceWindow a b) s = .next (((u.refGrade 0 (a - k)).refGrade 1 (b - k)).holdoverWindow)) ∧
    (s.flag (refDead r) = true → exec (.referenceDead r) s = .next s) ∧
    (s.flag (refDead r) = false → ∃ s', exec (.referenceDead r) s = .next s' ∧ s'.flag (refDead r) = true ∧
      s'.flag (refHealthy r) = false ∧ s'.srcSet 6 (6 + r) = true ∧ s'.fld (PLL_REFPPM_PPM r) = 0x80000000 ∧
      (r = s.fld PLL_REFSTAT_SEL → s.fld PLL_REFSTAT_STATE = 0 →
        s'.fld PLL_REFSTAT_STATE = 1 ∨ s'.fld PLL_REFSTAT_STATE = 2)) ∧
    (s.flag (refDead r) = true → exec (.referenceEdgeReturn r) s = .next
      { (s.setFld (refDead r) 0).setFld (PLL_REFPPM_PPM r) 0 with pwr := { s.pwr with coresHeld := false } }) ∧
    (∀ q, s.refTarget = some q → s.switchInstant = true → s.fld PLL_REFSTAT_STATE = 1 ∨ s.fld PLL_REFSTAT_STATE = 2 →
      exec .referenceSwitch s = .next (({ s with refs := { s.refs with target := some q } }.setFld PLL_REFSTAT_STATE
        3).inc PLL_SWCNT_COUNT)) ∧
    (∀ n d, n < 4 → s.switchInstant = true → s.portEn n = true → s.portIdle n = false → s.portImaging n = false →
      s.gapLeft (s.portStn n) = some d → 250 * s.fld TIM_VEL_VEL ≤ d * 2 ^ 24) ∧
    (s.refTarget = none ∨ s.switchInstant = false → exec .referenceSwitch s = .next s) ∧
    (s.fld PLL_REFSTAT_STATE ≠ 3 → exec .referenceSwitchComplete s = .next s) ∧
    (∀ q, q < 2 → s.refs.target = some q → s.fld PLL_REFSTAT_STATE = 3 → ∃ s', exec .referenceSwitchComplete s = .next s' ∧
      s'.fld PLL_REFSTAT_STATE = 0 ∧ s'.fld PLL_REFSTAT_SEL = q ∧ s'.flag PLL_REFCTL_SWREQ = false ∧
      s'.refs.frozen = none ∧ s'.refs.target = none) ∧
    (s.refUsable (1 - s.fld PLL_REFSTAT_SEL) = true → exec .swreq s = .next (s.setFld PLL_REFCTL_SWREQ 1)) ∧
    (s.refUsable (1 - s.fld PLL_REFSTAT_SEL) = false → exec .swreq s = .next s) ∧
    (s.fld PLL_REFSTAT_STATE = 1 ∨ s.fld PLL_REFSTAT_STATE = 2 → s.isManager = true → s.esc.runOpen = true →
      s.srcMasked 6 8 = false → (s.incident 6).escd.contains 8 = false → ∃ s', exec .norefTimeout s = .next s' ∧
        s'.esc.stopReq = true) ∧
    (s.fld PLL_REFSTAT_STATE = 1 ∨ s.fld PLL_REFSTAT_STATE = 2 → s.srcMasked 6 8 = true → exec .norefTimeout s = .next
      ((s.raise 6 8).refRecord 0x302 (s.fld (PLL_REFPPM_PPM (s.fld PLL_REFSTAT_SEL))))) ∧
    (s.fld PLL_REFSTAT_STATE = 0 → exec .norefTimeout s = .next s)

/-- The head link and dead emitters: training starts with EN and starts again after a time-out; a frame with a bad SYNC or
CRC is a bad one; an expected MISS that is not reported is a violation; an overscan report that does not come marks the
emitter dead; lanes return and exposure settings and dead-mark clears apply in a frame gap; a node whose role holds the
blocks in reset discards their writes (R19, R178, R179, R181, R182, R184, R186, R190, R191). The model's own choices in it: log entries 35, 38, 77. -/
def Obligations.HeadLinkCommands : Prop :=
  ∀ (s : State) (n e frame : Nat), s.isOff = false → n < 4 → e < 256 →
    let h := s.headP n
    let st := s.fld (HLK_STAT_STATE n)
    let live : Prop := s.role = 0 ∨ s.role = 3
    let held : Prop := s.role = 1 ∨ s.role = 2 ∨ s.role = 4
    let discarded := Host.Outcome.next (s.inc GLB_BADACC_COUNT)
    let sends (words : List Out → Prop) : Prop := ∃ s', exec (.headLinkSlot n) s = .next s' ∧
      (s'.headP n).slot = h.slot + 1 ∧ (s'.headP n).pp = h.pp + 1 ∧ (s'.headP n).fdIdx = (h.fdIdx + 1) % 256 ∧
      ∃ sent, s'.out = s.out ++ sent ∧ words sent
    (live → s.flag (HLK_CTL_EN n) = false → exec (.linkTrainingStart n) s =
      .next ((s.setFld (HLK_CTL_EN n) 1).trainStart n 1)) ∧
    (live → s.flag (HLK_CTL_EN n) = true → exec (.linkTrainingStart n) s = .next s) ∧
    (held → exec (.linkTrainingStart n) s = discarded ∧ exec (.deadclrAll n) s = discarded ∧
      exec (.deadclrOne n e) s = discarded ∧ exec (.headLinkSlot n) s = .next s ∧
      exec (.trainingTimeout n) s = .next s ∧ exec (.retryStart n) s = .next s ∧ exec (.statusFrame n frame) s = .next s) ∧
    (live → st = 1 ∨ st = 3 → exec (.trainingTimeout n) s = .next ((s.trainStart n st).raise 7 (8 + n))) ∧
    (st = 0 ∨ st = 2 → exec (.trainingTimeout n) s = .next s) ∧
    (live → h.hist = [] → h.pp % 8 ≠ 0 → s.flag (HLK_CTL_EN n) = false ∨ st = 0 → sends (· = [])) ∧
    (live → h.hist = [] → h.pp % 8 ≠ 0 → s.flag (HLK_CTL_EN n) = true → st = 1 ∨ st = 3 →
      sends fun sent => ∃ ws, ws.length = 14 ∧ sent = [.port "slot" n ws]) ∧
    (∀ k, live → h.naks.find? (fun k => k.start.isNone) = some k → k.slot + 4 ≤ h.slot → h.slot ≤ k.slot + 6 → h.running = none →
      exec (.retryStart n) s = .next (s.setHead n { h with
        naks := h.naks.map fun j => if j = k then { j with start := some h.slot } else j })) ∧
    (h.expect = [] → exec (.missReportTimeout n) s = .next s) ∧
    (∀ k ks, h.expect = k :: ks → exec (.missReportTimeout n) s =
      .next ((s.setHead n { h with expect := ks }).headViolation n)) ∧
    (live → st ≠ 0 → (let r := s.lineRecv n 14 76 (frame % 2 ^ 76)
      (frame / 2 ^ 76 % 16 = 12 ∧ r.1 % 256 = frameCrc r.1 → exec (.statusFrame n frame) s = .next (r.2.goodStatus n r.1)) ∧
      (¬ (frame / 2 ^ 76 % 16 = 12 ∧ r.1 % 256 = frameCrc r.1) →
        exec (.statusFrame n frame) s = .next (r.2.badStatus n)))) ∧
    (h.osPend.any (fun x => x.1 = e) = true → s.dead n e = false → ∃ s', exec (.overscanReportTimeout n e) s = .next s' ∧
      s'.fld (EXP_ESTATE_CURRENT (256 * n + e)) = 0xFFFF ∧ s'.dead n e = true ∧ s'.srcSet 8 n = true) ∧
    (s.fld (HLK_STAT_SPLANE n) ≠ 15 → h.laneOk = true → s.blk 7 = 0 → s.portImaging n = false →
      exec (.laneReturn n) s = .next ((s.setFld (HLK_STAT_SPLANE n) 15).setHead n { h with laneOk := false })) ∧
    (s.portImaging n = true → exec (.frameGapApply n) s = .next s) ∧
    (s.portImaging n = false → (s.expoP n).clr = 0 → exec (.frameGapApply n) s = .next (s.applyExpo n)) ∧
    (s.portImaging n = false → (s.expoP n).clr ≠ 0 → ∃ s', exec (.frameGapApply n) s = .next s' ∧
      (s'.expoP n).clr = 0 ∧ ((s.expoP n).clr.testBit e = true → s'.dead n e = false) ∧
      ((s.expoP n).clr.testBit e = false → s'.dead n e = s.dead n e)) ∧
    (live → exec (.deadclrAll n) s = .next (s.setExpo n { s.expoP n with clr := (s.expoP n).clr ||| (2 ^ 256 - 1) }) ∧
      exec (.deadclrOne n e) s = .next (s.setExpo n { s.expoP n with clr := (s.expoP n).clr ||| 2 ^ e }))


/-! The raster store, ingest, the Mint codec and DMA (R196 to R231). -/

/-- The raster store. Enabling reads the label: READY exactly when it names the bound drives and all are on line, else
LABELERR; a format with its key frees every unit; an accepted RESERVE gives a run of free units, the lowest with AT = 0, and
an identifier no extent has; the piece read is a waiting one with no other before it; a failed command is counted against its drive and, within
its retries and before its deadline, goes out again, to the other drive of a mirrored pair, else it is lost; drive faults and
violations are counted (R196, R199, R206, R208 to R211). Ingest: a datagram with a wrong
header, or of no open stream, is counted; one in order adds its data to the line; one out of order fails the ingest; an
ingest whose last tile is written has its table written, then flushed, then its extent sealed; one without data releases
its extent (R200, R201, R350, R351). The model's own choices in it: log entries 35, 40, 71, 77. -/
def Obligations.StoreAndIngest : Prop :=
  (∀ (s : State) (d cid k stn row col : Nat) (data : List Byte), s.isOff = false → s.fld STO_CTL_NDRV ≤ 16 →
     (∀ ds label, s.flag STO_CTL_EN = false ∨ (s.flag STO_STATUS_READY = false ∧ s.flag STO_STATUS_LABELERR = false) →
       ∃ s', exec (.storeEnable ds label) s = .next s' ∧ s'.flag STO_CTL_EN = true ∧
         s'.fld STO_CAPUNITS_UNITS = s'.capUnits ∧
         (s'.flag STO_STATUS_READY = true ↔ label = some ⟨s.fld STO_CTL_NDRV, s.flag STO_CTL_MIRROR, s'.idents⟩ ∧
           ∀ d, d < s.fld STO_CTL_NDRV → s'.driveOn d = true) ∧
         s'.flag STO_STATUS_LABELERR = ! s'.flag STO_STATUS_READY) ∧
     (∀ key, key ≠ 0xF04D ∨ s.flag STO_CTL_EN = false →
       exec (.stoFormat key) s = .next (s.setFld STO_STATUS_CFGERR 1)) ∧
     (s.flag STO_CTL_EN = true → (∀ x, x ∈ s.store.extents → x.2.inUse = false) →
       ∃ s', exec (.stoFormat 0xF04D) s = .next s' ∧ s'.store.extents = [] ∧ s'.flag STO_STATUS_READY = true ∧
         s'.flag STO_STATUS_LABELERR = false ∧
         s'.fld STO_FREEUNITS_UNITS = (s.fld STO_CAPUNITS_UNITS - 1) % 2 ^ 25) ∧
     (∀ a n at', (s.reserveDo a n at').1 = 0 →
       let r := s.reserveDo a n at'
       let i := r.2.1
       let b := r.2.2.1
       let meets (b : Nat) : Prop := ∃ x, x ∈ s.store.extents ∧ b < x.2.base + x.2.units ∧ x.2.base < b + n
       s.extent i = Extent.none ∧ r.2.2.2.extent i = ⟨b, n, 1, a, 0⟩ ∧ ¬ meets b ∧ 1 ≤ b ∧ b + n ≤ s.fld STO_CAPUNITS_UNITS ∧
       (at' ≠ 0 → b = at') ∧ (at' = 0 → ∀ c, 1 ≤ c → c < b → meets c)) ∧
     ((s.extent k).state = 4 → s.extBusy k (fun o => o ≠ .read) = false → ∃ s', exec (.releaseComplete k) s = .next s' ∧ s'.extent k = Extent.none ∧
       ∀ j, j ≠ k → s'.extent j = s.extent j) ∧
     ((s.extent k).state ≠ 4 → exec (.releaseComplete k) s = .next s) ∧
     (let waits := s.store.fetches.filter fun f => ! f.sent
      firstPiece waits = none ∨ s.flag STO_STATUS_READY = false → exec .prefetchIssue s = .next s) ∧
     (∀ t, firstPiece (s.store.fetches.filter fun f => ! f.sent) = some t →
       let d := s.driveOf t.addr
       let c : Nvme := ⟨.read, d, s.driveByte t.addr, t.len, [(t.key, t.off)], 0, 0, [], 0, 0, false⟩
       t ∈ s.store.fetches ∧ t.sent = false ∧ (∀ u, u ∈ s.store.fetches → u.sent = false → u.before t = false) ∧
       (s.flag STO_STATUS_READY = true → s.store.waiting.any (fun x => s.readBefore x t) = true →
         exec .prefetchIssue s = .next s.pump) ∧
       (s.flag STO_STATUS_READY = true → s.flag STO_CTL_MIRROR = false → s.driveOn d = true →
         s.store.waiting.any (fun x => s.readBefore x t) = false →
         (∀ u v, u ∈ s.store.fetches → v ∈ s.store.fetches → u.key = v.key → u.off = v.off → u = v) →
         (s.mayGo c = false → exec .prefetchIssue s = .next s) ∧
         (s.mayGo c = true → ∃ s' c', exec .prefetchIssue s = .next s' ∧ s'.nvme s.store.nextCid = some c' ∧
           c'.op = .read ∧ c'.drive = d ∧ c'.byte = s.driveByte t.addr ∧ t.len ≤ c'.len ∧ (t.key, t.off) ∈ c'.pieces ∧
           c'.late = false ∧ s'.store.nextCid = s.store.nextCid + 1))) ∧
     (s.nvme cid = none → ∀ st, exec (.nvmeCompletion d cid st data) s = .next (s.driveViol d)) ∧
     (∀ c, s.nvme cid = some c → c.late = true →
       exec (.nvmeCompletion c.drive cid 0 data) s =
         .next (((s.setNvme cid none).syncOutstand.inc STO_LATECPL_COUNT).pump) ∧
       exec (.nvmeTimeout cid) s = .next s) ∧
     (∀ c, s.nvme cid = some c → c.late = false →
       (d ≠ c.drive → ∀ st, exec (.nvmeCompletion d cid st data) s = .next (s.driveViol d)) ∧
       (c.retries = 0 →
         let s1 := (s.setNvme cid none).syncOutstand
         let s2 := s1.setStore { s1.store with drvFail := tabSet 0 s1.store.drvFail c.drive 0 }
         exec (.nvmeCompletion c.drive cid 0 data) s =
           .next (if c.op = .read then s2.readCame c data else s2.ingestNext c.ext).pump) ∧
       (∀ st, st ≠ 0 → exec (.nvmeCompletion c.drive cid st data) s =
         .next (((s.setNvme cid none).syncOutstand.cmdFailed c).pump)) ∧
       exec (.nvmeTimeout cid) s = .next ((s.setNvme cid (some { c with late := true })).syncOutstand.cmdFailed c)) ∧
     (∀ c : Nvme, c.drive < 16 →
       let r := s.withIncident c
       let u := r.2.driveFailed c.drive r.1.incident
       let again : Nvme := { r.1 with
         retries := c.retries + 1, late := false, drive := if s.flag STO_CTL_MIRROR then mirrorOf c.drive else c.drive }
       let more : Prop := c.retries < s.fld STO_RETRY_VALUE ∧ u.pastDeadline r.1 = false
       u.fld (STO_DRVERR_COUNT c.drive) = satInc 32 (s.fld (STO_DRVERR_COUNT c.drive)) ∧
       tabGet 0 u.store.drvFail c.drive = tabGet 0 s.store.drvFail c.drive + 1 ∧
       (s.fld STO_DRVFAIL_VALUE ≤ tabGet 0 s.store.drvFail c.drive + 1 → u.srcSet 9 c.drive = true) ∧
       (u.wanted r.1 = false → s.cmdFailed c = u) ∧
       (u.wanted r.1 = true → more → s.cmdFailed c = u.command again ∧
         (u.driveOn again.drive = true → u.mayGo again = true → u.readBehind again = false →
           ∃ p, (s.cmdFailed c).nvme u.store.nextCid = some { again with place := p })) ∧
       (u.wanted r.1 = true → ¬ more → s.cmdFailed c = match c.op with
         | .read => u.readLost r.1.incident (u.piecesLeft r.1)
         | .write | .flush => (u.inc STO_LOSTCNT_COUNT).ingestFail c.ext 4
         | .dealloc => u.inc STO_LOSTCNT_COUNT)) ∧
     (let due (f : Fetch) : Bool := f.key.slot = k && f.key.stn = stn && f.key.row = row &&
        decide (f.deadline * 2 ^ 16 ≤ s.wpos)
      let fs := s.store.fetches.filter due
      (fs = [] → exec (.readDeadline k stn row) s = .next s) ∧
      (fs ≠ [] → (∀ f, f ∈ fs → f.sent = false) → s.readsWith (fun p => fs.any fun f => f.key = p.1 && f.off = p.2) = [] →
        exec (.readDeadline k stn row) s = .next (s.readLost 0 fs))) ∧
     (∀ t, s.tileAt k stn row col = some t →
       (t.st ≠ .coming ∨ t.whole = false → exec (.tileDecode k stn row col) s = .next s) ∧
       (t.st = .coming → t.whole = true →
         (∀ o, decodeTile (s.tileBytes t) (t.len / 16) (s.slot k).desc.frame stn row col = some o →
           exec (.tileDecode k stn row col) s =
             .next (s.mapTile t.key fun u => { u with st := .decoded, parts := [], data := o }).pump) ∧
         (decodeTile (s.tileBytes t) (t.len / 16) (s.slot k).desc.frame stn row col = none →
           exec (.tileDecode k stn row col) s =
             .next (let s1 := (s.mapTile t.key fun u => { u with st := .failed, parts := [] }).pump.checkFailed col (s.portsOf stn)
                    s1.voidReport k stn rsCheck (s1.incOf 10) (32 * row))))) ∧
     exec (.driveViolation d .completion) s = .next (s.driveViol d) ∧
     exec (.driveViolation d .access) s = .next ((s.driveViol d).inc PCS_ERRCNT_UR) ∧
     exec (.driveViolation d .badTlp) s = .next (s.inc PCS_ERRCNT_BADTLP) ∧
     (d < 16 → s.fld (STO_DRV_STATE d) ≠ 0 → ∃ s', exec (.driveFatalStatus d) s = .next s' ∧ s'.srcSet 9 d = true)) ∧
  (∀ (s : State) (p ext : Nat) (bytes : List Byte), s.isOff = false → p < 2 →
     let f (k n : Nat) : Nat := ofLe ((bytes.drop k).take n)
     let head : Prop := 20 ≤ bytes.length ∧ f 0 2 = 0x494B ∧ f 2 1 = 1
     (s.flag (NET_CTL_EN p) = false → exec (.ingestDatagram p bytes) s = .next s) ∧
     (s.flag (NET_CTL_EN p) = true → ¬ head ∨ s.ingestBy (f 4 2) = none →
       exec (.ingestDatagram p bytes) s = .next (s.inc NET_STRMERR_COUNT)) ∧
     (∀ e g, s.flag (NET_CTL_EN p) = true → head → s.ingestBy (f 4 2) = some (e, g) →
       let data := bytes.drop 20
       let inOrder : Prop := f 8 4 = g.dseq ∧ f 12 3 = g.line ∧ f 16 4 = g.cur.length ∧ 1 ≤ data.length ∧
         data.length ≤ 8192 ∧ g.line < g.length ∧ g.cur.length + data.length ≤ g.lineBytes
       (¬ inOrder → tabGet none s.store.ingests e = some g → ∃ s', exec (.ingestDatagram p bytes) s = .next s' ∧
         s' = s.streamGap e g ∧ tabGet none s'.store.ingests e = none ∧ s'.extent e = { s.extent e with state := 4 } ∧
         s'.fld NET_STRMERR_COUNT = satInc 32 (s.fld NET_STRMERR_COUNT)) ∧
       (inOrder → g.cur.length + data.length < g.lineBytes → exec (.ingestDatagram p bytes) s = .next (s.setStore { s.store with
         ingests := tabSet none s.store.ingests e (some { g with dseq := g.dseq + 1, cur := g.cur ++ data }) })) ∧
       (inOrder → g.cur.length + data.length = g.lineBytes → exec (.ingestDatagram p bytes) s =
         .next (s.ingestData e g data))) ∧
     (∀ g, tabGet none s.store.ingests ext = some g →
       (g.at_ = .lines → g.line = g.length → g.rows = [] → s.writesDone ext = true → exec (.ingestComplete ext) s =
         .next ((s.setStore { s.store with ingests := tabSet none s.store.ingests ext (some { g with at_ := .table })
                  }).storeWrite ext ((s.extent ext).base * 2 ^ 24) g.tableBlocks)) ∧
       (g.at_ = .flush → s.writesDone ext = true → ∃ s', exec (.ingestComplete ext) s = .next s' ∧
         s'.extent ext = { s.extent ext with state := 3 } ∧ tabGet none s'.store.ingests ext = none) ∧
       (s.writesDone ext = false ∨ g.at_ = .lines ∧ (g.line ≠ g.length ∨ g.rows ≠ []) →
         exec (.ingestComplete ext) s = .next s) ∧
       (∃ s', exec (.ingestTimeout ext) s = .next s' ∧ s'.extent ext = { s.extent ext with state := 4 } ∧
         tabGet none s'.store.ingests ext = none)) ∧
     (tabGet none s.store.ingests ext = none → exec (.ingestTimeout ext) s = .next s))

/-- The Mint coder and decoder agree: a line of 4,096 levels coded against the line above decodes to itself, and what
follows it in the body is left for the next line (R204, R205). -/
def Obligations.MintLineRoundTrip : Prop :=
  ∀ (cur prev : List Nat) (rest : List Byte), cur.length = 4096 → prev.length = 4096 → (∀ v, v ∈ cur → v < 16) →
    decodeLine prev 0 (codeLine cur prev 4096 ++ rest) 4096 = some (cur, rest)

/-- DMA channels. Arming clears ERR and makes the channel idle unless completion triggers would form a cycle; an abort of an
idle channel disarms it and drops its triggers; triggers are counted up to 255 or lost; a grain of GRAIN 0 takes one pending
trigger and reads the descriptor at DMA_HEAD, within HOPLIM; a descriptor is checked before it runs; an error halts the
channel with its code, which it leaves only by CLRERR, which clears it, or CONT, which goes on (R217 to R230).
The model's own choices in it: log entries 41, 77. -/
def Obligations.DmaChannels : Prop :=
  ∀ (s : State) (n : Nat) (data : List Byte), s.isOff = false → n < 64 →
    let c := s.dmaCh n
    let p := s.fld (DMA_CHSTAT_PEND n)
    let lost := (s.inc (DMA_TRIGLOST_COUNT n)).setFld DMA_STATUS_TRIGLOST 1
    let counted := s.setFld (DMA_CHSTAT_PEND n) (p + 1)
    let halts (i : Instr) (err : Nat) : Prop := ∃ s', exec i s = .next s' ∧ s'.dmaSt n = 5 ∧
      s'.fld (DMA_CHSTAT_ERR n) = err ∧ s'.srcSet 11 n = true ∧ (s'.dmaCh n).hold = [] ∧ (s'.dmaCh n).rd = [] ∧
      (s'.dmaCh n).wr = []
    (s.dmaArmed n = true → exec (.dmaArm n) s = .next s) ∧
    (s.dmaArmed n = false → s.dmaCycle n n 65 = true →
      exec (.dmaArm n) s = .next ((s.setFld DMA_STATUS_ARMCYC 1).setFld DMA_STATUS_ARMCYCCH n)) ∧
    (s.dmaArmed n = false → s.dmaCycle n n 65 = false → s.dmaSt n ≠ 5 → ∃ s', exec (.dmaArm n) s = .next s' ∧ s'.dmaArmed n = true ∧
      s'.dmaSt n = 1 ∧ s'.fld (DMA_CHSTAT_ERR n) = 0 ∧ (s'.dmaCh n).desc = none) ∧
    (s.dmaArmed n = false → s.dmaCycle n n 65 = false → s.dmaSt n = 5 →
      exec (.dmaArm n) s = .next ((s.setFld (DMA_CTL_ARM n) 1).setFld (DMA_CHSTAT_ERR n) 0)) ∧
    (s.dmaArmed n = false → exec (.dmaAbort n) s = .next s) ∧
    (s.dmaArmed n = true → s.dmaSt n = 5 →
      exec (.dmaAbort n) s = .next ((s.setFld (DMA_CHSTAT_PEND n) 0).setFld (DMA_CTL_ARM n) 0)) ∧
    (s.dmaArmed n = true → 2 ≤ s.dmaSt n → s.dmaSt n ≤ 4 →
      exec (.dmaAbort n) s = .next (((s.setDma n { c with abort := true }).setDmaSt n 3).dmaPump n)) ∧
    (s.dmaArmed n = true → s.dmaSt n < 2 → ∃ s', exec (.dmaAbort n) s = .next s' ∧
      s'.dmaArmed n = false ∧ s'.dmaSt n = 0 ∧ s'.fld (DMA_CHSTAT_PEND n) = 0 ∧ (s'.dmaCh n).desc = none) ∧
    (s.dmaSt n = 2 → c.rd = [] → c.wr = [] → c.fetching = none → c.desc = none → c.abort = false →
      ∃ s', exec (.dmaPause n true) s = .next s' ∧ s'.dmaSt n = 4) ∧
    (s.dmaSt n ≠ 2 → exec (.dmaPause n true) s = .next (s.setFld (DMA_CTL_PAUSE n) 1)) ∧
    (s.dmaSt n = 4 → c.abort = false → c.more = false → c.desc = none → c.fetching = none →
      exec (.dmaPause n false) s = .next (((s.setFld (DMA_CTL_PAUSE n) 0).setDmaSt n 2).setDmaSt n 1)) ∧
    (let ok : Prop := s.dmaArmed n = true ∧ s.dmaSt n ≠ 5 ∧ p < 255
     (ok → exec (.go n) s = .next counted ∧ exec (.dmaTrigger n) s = .next counted) ∧
     (¬ ok → exec (.go n) s = .next lost ∧ exec (.dmaTrigger n) s = .next lost)) ∧
    (∀ k, k < 8 → s.fld (DMA_TMR_PERIOD k) ≠ 0 → exec (.dmaTimerExpiry k) s = .next (s.dmaTrigFrom [1] k 64)) ∧
    (s.dmaSt n ≠ 5 → exec (.clrerr n) s = .next s ∧ exec (.cont n) s = .next s) ∧
    (s.dmaSt n = 5 → ∃ s', exec (.clrerr n) s = .next s' ∧ s'.dmaSt n = (if s.dmaArmed n then 1 else 0) ∧
      s'.fld (DMA_CHSTAT_ERR n) = 0 ∧ s'.srcSet 11 n = false) ∧
    (s.dmaSt n = 5 → s.dmaArmed n = false → exec (.cont n) s = exec (.clrerr n) s) ∧
    (s.dmaSt n = 5 → s.dmaArmed n = true → c.errDesc = false →
      (s.fld (DMA_CFG_GRAIN n) = 2 → c.beats = 0 → exec (.cont n) s =
        .next (((s.setFld (DMA_CHSTAT_ERR n) 0).setDmaSt n 1).clrFbit (fstatOf 11 n) (n % 32))) ∧
      (s.fld (DMA_CFG_GRAIN n) ≠ 2 ∨ c.beats ≠ 0 → s.flag (DMA_CTL_PAUSE n) = false → exec (.cont n) s =
        .next ((((s.setFld (DMA_CHSTAT_ERR n) 0).setDmaSt n 2).clrFbit (fstatOf 11 n) (n % 32)).dmaPump n))) ∧
    (s.dmaSt n = 5 → s.dmaArmed n = true → c.errDesc = true → s.flag (DMA_CTL_PAUSE n) = false → 1 ≤ s.fld (DMA_HOPLIM_HOPLIM n) → ∃ s', exec (.cont n) s = .next s' ∧
      s'.dmaSt n = 2 ∧ s'.fld (DMA_CHSTAT_HOPS n) = 1 ∧ (s'.dmaCh n).fetching = some (c.curDesc, c.curSp)) ∧
    (let ready : Prop := s.dmaArmed n = true ∧ s.dmaSt n = 1 ∧ 0 < p ∧ s.flag (DMA_CTL_PAUSE n) = false
     (¬ ready → exec (.dmaGrainStart n) s = .next s) ∧
     (ready → p ≤ 255 → s.fld (DMA_CFG_GRAIN n) = 0 → 1 ≤ s.fld (DMA_HOPLIM_HOPLIM n) →
       ∃ s', exec (.dmaGrainStart n) s = .next s' ∧ s'.dmaSt n = 2 ∧ s'.fld (DMA_CHSTAT_PEND n) = p - 1 ∧
         s'.fld (DMA_CHSTAT_HOPS n) = 1 ∧ (s'.dmaCh n).fetching = some (s.dmaHead n) ∧ (s'.dmaCh n).doneB = 0)) ∧
    (c.fetching = none → ∀ ok, exec (.descriptorFetch n ok data) s = .next s) ∧
    (∀ a sp, c.fetching = some (a, sp) →
      let d := dmaDesc a sp (s.dmaData sp a 32 data)
      halts (.descriptorFetch n false data) 7 ∧ halts (.dmaTimeout n 0) 2 ∧
      (c.curSp = 3 → ∃ s', exec (.dmaTimeout n 0) s = .next s' ∧ s'.srcSet 22 1 = true ∧
        s'.fld PCH_ERRCNT_CTO = satInc PCH_ERRCNT_CTO.width (s.fld PCH_ERRCNT_CTO)) ∧
      (s.dmaMemErr sp a 32 = false → d.bad = true → halts (.descriptorFetch n true data) 5) ∧
      (s.dmaMemErr sp a 32 = false → d.bad = false → d.outOfRange = true → halts (.descriptorFetch n true data) 6) ∧
      (let self : Prop := d.last = false ∧ d.next = a ∧ nextSpace d.nsp = sp
       (s.dmaMemErr sp a 32 = false → d.bad = false → d.outOfRange = false → self →
         halts (.descriptorFetch n true data) 1) ∧
       (s.dmaMemErr sp a 32 = false → d.bad = false → d.outOfRange = false → ¬ self →
        exec (.descriptorFetch n true data) s =
          .next ((s.setDma n { c with fetching := none, desc := some d }).dmaPump n)))) ∧
    (∀ d a rest, c.desc = some d → c.rd = a :: rest → s.dmaSt n ≠ 5 →
      halts (.dmaReadComplete n false data) 7 ∧ halts (.dmaTimeout n 1) 3 ∧
      (s.dmaMemErr d.ssp a d.sw = false → d.ssp ≠ 2 → exec (.dmaReadComplete n true data) s = .next
        ((s.setDma n { c with rd := rest, hold := c.hold ++ s.dmaData d.ssp a d.sw data }).dmaPump n))) ∧
    (∀ d a bs rest, c.desc = some d → c.wr = (a, bs) :: rest → s.dmaSt n ≠ 5 →
      (d.dsp = 0 → exec (.dmaWriteComplete n) s = .next
        (((({ s with dram := memPut s.dram a bs }.setDma n { c with wr := rest }).dmaBeatDone n d).dmaPump n))) ∧
      ∃ s1, exec (.dmaTimeout n 2) s = .next (s1.dmaHalt n 4 false) ∧
        (s1 = { s with freeCtr := s.freeCtr + 1 } ∨ s1 = ({ s with freeCtr := s.freeCtr + 1 }).dmaBeatWrite d.dsp a bs))

/-! Motion, gate drive, brakes, the control engine, high voltage, the fuser and heat (R235 to R281). -/

/-- The axes. START is refused with CFGERR by each condition of R257 and R259, else a three-phase axis senses and a stepper
runs; sensing ends in alignment, RUNNING, BRAKING, another run or, after 50 of them, COASTING; STOP, COAST and MOVE change the
state as R253 and R257 say, and both gates of a coasting axis's channels are off; a profile's velocity changes by its
acceleration, the acceleration by at most JMAX a period and not beyond AMAX (R252); a move after each period can still stop
at its target, or brakes as hard as its limits allow, and ends at rest on the target (R253).
The model's own choices in it: log entries 42, 43, 44, 72. -/
def Obligations.MotionAxes : Prop :=
  ∀ (s : State) (i amp freq ang : Nat) (fwd : Bool) (vsw : List Nat), s.isOff = false → i < 16 →
    let st := s.axState i
    let x := s.axisP i
    let refused : Prop := s.flag (MOT_CFG_EN i) = false ∨ s.axisIdle i = false ∨ s.axisFaulty i = true ∨
      s.fld (MOT_VMAX_VALUE i) = 0 ∨ s.fld (MOT_AMAX_VALUE i) = 0 ∨ s.fld (MOT_JMAX_VALUE i) = 0
    let becomes (c : Instr) (v : Nat) : Prop := ∃ s', exec c s = .next s' ∧ s'.axState i = v ∧
      ∀ j, j < 16 → j ≠ i → s'.axState j = s.axState j
    (refused → exec (.start i) s = .next (s.setFld MOT_STATUS_CFGERR 1)) ∧
    (s.blk 13 ≠ 0 → (axisChannels i).any s.plant.chOff.testBit = true → exec (.start i) s = .next (s.setFld MOT_STATUS_CFGERR 1)) ∧
    (¬ refused → s.blk 13 = 0 → becomes (.start i) (if i < 12 then axSensing else axRunning)) ∧
    (12 ≤ i ∨ st ≠ axSensing → exec (.sensingEnd i amp freq fwd ang vsw) s = .next s) ∧
    (i < 12 → st = axSensing →
      let still : Prop := amp < s.fld (MOT_SYNCC_VSTILL i) * 10
      let fast : Prop := s.fld (MOT_STARTC_HANDOVER i) * 65536 ≤ freq / s.fld (MOT_CFG_POLES i) * 60
      let brake := s.flag (MOT_CFG_REVBRAKE i)
      (still → becomes (.sensingEnd i amp freq fwd ang vsw) axAligning) ∧
      (¬ still → fast → fwd = true → becomes (.sensingEnd i amp freq fwd ang vsw) axRunning) ∧
      (¬ still → fast → fwd = false → brake = true → becomes (.sensingEnd i amp freq fwd ang vsw) axBraking) ∧
      (¬ still → fast → fwd = false → brake = false → ∃ s', exec (.sensingEnd i amp freq fwd ang vsw) s = .next s' ∧
        s'.axState i = axCoasting ∧ s'.srcSet 12 (16 + i) = true) ∧
      (¬ still → ¬ fast → 50 ≤ x.reps → ∃ s', exec (.sensingEnd i amp freq fwd ang vsw) s = .next s' ∧
        s'.axState i = axCoasting ∧ s'.srcSet 12 i = true) ∧
      (¬ still → ¬ fast → x.reps < 50 → ∃ s', exec (.sensingEnd i amp freq fwd ang vsw) s = .next s' ∧
        s'.axState i = axSensing ∧ (s'.axisP i).reps = x.reps + 1)) ∧
    (i < 12 → st = axAligning → becomes (.alignEnd i) axOpenLoop) ∧
    (12 ≤ i ∨ st ≠ axAligning → exec (.alignEnd i) s = .next s) ∧
    (st = axOff ∨ st = axCoasting ∨ st = axHolding → exec (.stopCmd i) s = .next s) ∧
    (st ≠ axOff → st ≠ axCoasting → st ≠ axHolding → becomes (.stopCmd i) axStopping) ∧
    becomes (.coast i) axCoasting ∧
    (∃ s', exec (.coast i) s = .next s' ∧ (s'.axisP i).vel = 0 ∧ s'.flag (MOT_STAT_MOVING i) = false ∧
      ∀ c low, c ∈ axisChannels i → s.fld (GDR_CHCFG_MODE c) = 1 → s'.modeGate c low = .off) ∧
    (s.flag (MOT_STAT_MOVING i) = true → exec (.move i) s = .next (s.setFld MOT_STATUS_CFGERR 1)) ∧
    (s.flag (MOT_STAT_MOVING i) = false → s.fld (MOT_CFG_MODE i) = 1 → st = axRunning ∨ st = axHolding →
      becomes (.move i) axRunning ∧ ∃ s', exec (.move i) s = .next s' ∧ s'.flag (MOT_STAT_MOVING i) = true) ∧
    (s.flag (MOT_STAT_MOVING i) = false → s.fld (MOT_CFG_MODE i) ≠ 1 ∨ (st ≠ axRunning ∧ st ≠ axHolding) →
      exec (.move i) s = .next s) ∧
    (∀ adc,
      let b := if i = 0 then s.basePeriod adc else s
      let passive : Prop := b.axState i = axOff ∨ b.axState i = axCoasting ∨ b.axState i = axSensing
      let o := b.idlePeriod i adc
      (passive → exec (.pwmPeriod i adc) s = .next (o.interlock 52) ∧ o.axState i = b.axState i ∧
        (o.axisP i).vel = (b.axisP i).vel ∧ (o.axisP i).duties = (b.axisP i).duties) ∧
      (¬ passive → exec (.pwmPeriod i adc) s = .next ((b.axisPeriod i adc).interlock 52))) ∧
    (st = axStopping → i < 12 → ((s.limitVel i 0).axisP i).vel = 0 → ((s.limitVel i 0).axisP i).acc = 0 →
      let r := s.axisAdvance i
      r.axState i = axOff ∧ r.flag (MOT_STAT_VSAT i) = false ∧ r.flag (MOT_STAT_ATSPD i) = false ∧
        r.flag (MOT_STAT_ENGAGED i) = false) ∧
    (∀ v, let y := (s.limitVel i v).axisP i
      (y.acc - x.acc).natAbs ≤ (s.jerkMax i).toNat ∧ y.acc.natAbs ≤ max (s.accMax i).toNat x.acc.natAbs ∧
        y.vel = x.vel + y.acc ∧ y.pos = x.pos + y.vel) ∧
    (let t := s.target i
     let y := (s.limitMove i).axisP i
     let there : Prop := x.pos = t ∧ x.vel = 0 ∧ x.acc = 0
     (there → (s.limitMove i).flag (MOT_STAT_MOVING i) = false ∧ y.pos = t ∧ y.vel = 0) ∧
     (¬ there → y.vel = x.vel + y.acc ∧ y.pos = x.pos + y.vel) ∧
     (¬ there → x.pos ≤ t → stopsBy y.pos y.vel y.acc t (s.brakeAcc i) (s.brakeJerk i) = true ∨
       y.acc = (accWindow x.acc (s.brakeAcc i) (s.brakeJerk i)).1))

/-- Gate drive and brake choppers. A credited transition moves an adapting gate's strength by at most one step within its
limits; one within the dead time, or of a gate that is off, is credited to none; a driver comparison of a gate that is on,
past its blanking and threshold, sets its sticky bit and source, and never switches a gate; the brake comparator has
hysteresis and a least on time, and a TRIP put below a standing sense voltage trips at the next cycle; ARM goes to the drive die with a frame, to the shadow copy on a Standby, and cannot be
cleared by a write (R240, R242, R243, R394). The model's own choices in it: log entries 45, 72. -/
def Obligations.DriveAndBrakes : Prop :=
  (∀ lo hi target tol step start ns, lo ≤ step → step ≤ hi →
    let k := adaptStep lo hi target tol step start ns
    let credited : Prop := start + ns ≤ 2 * target + 100
    (¬ credited → k = step) ∧ (credited → target + tol < ns → k = min hi (step + 1)) ∧
    (credited → ns + tol < target → k = max lo (step - 1)) ∧
    (ns ≤ target + tol → target ≤ ns + tol → k = step) ∧ lo ≤ k ∧ k ≤ hi) ∧
  (∀ (s : State) (c a mv since start ns : Nat), s.isOff = false → c < 52 → a < 2 →
    (∀ hs,
      let dead := 5 * s.drvFld (GDR_CHCFG_DT c)
      let f := if hs then GDR_STR_HSSTEP c else GDR_STR_LSSTEP c
      let adapts : Prop := s.drvFlag (GDR_CHCFG_ADAPT c) = true ∧ s.drvFlag (GDR_CHCFG_BOOST c) = false
      (s.dieUp = false ∨ start < dead ∨ s.gateOut c (! hs) = .off →
        exec (.switchTransition c hs start ns) s = .next s) ∧
      (s.dieUp = true → dead ≤ start → s.gateOut c (! hs) ≠ .off →
        ∃ s', exec (.switchTransition c hs start ns) s = .next s' ∧
          s'.fld (if hs then GDR_TSW_TSWHS c else GDR_TSW_TSWLS c) = min ns 0xFFFF ∧ (¬ adapts → s'.fld f = s.fld f) ∧
          (adapts → s'.fld f = adaptStep (s.drvFld (GDR_STR_MINSTEP c)) (s.drvFld (GDR_STR_MAXSTEP c))
            (s.drvFld (GDR_STR_TARGET c)) (s.drvFld (GDR_STR_TOL c)) (s.fld f) (start - dead) ns % 16))) ∧
    (s.dieUp = false → ∀ f, exec (.driverFault f mv since) s = .next s) ∧
    (s.dieUp = true →
      let sees (low : Bool) : Prop := s.gateOut c low ≠ .off ∧ s.drvFld (GDR_CHCFG_DESATBLK c) ≤ since
      let desat (low : Bool) : Prop :=
        sees low ∧ s.drvFlag (GDR_CHCFG_BOOST c) = false ∧ 500 * s.drvFld (GDR_CHCFG_DESATV c) < mv
      let sets (f : DrvFault) (b : Field) : Prop := ∃ s', exec (.driverFault f mv since) s = .next s' ∧ s'.flag b = true ∧
        s'.srcSet 13 c = true ∧ s'.plant = s.plant
      (desat false → sets (.desatHs c) (GDR_CHST_DESATHS c)) ∧ (desat true → sets (.desatLs c) (GDR_CHST_DESATLS c)) ∧
      (sees false → mv < 7000 → sets (.bootUv c) (GDR_CHST_BOOTUV c)) ∧
      (¬ desat false → exec (.driverFault (.desatHs c) mv since) s = .next s) ∧
      (¬ desat true → exec (.driverFault (.desatLs c) mv since) s = .next s) ∧
      (¬ sees false ∨ 7000 ≤ mv → exec (.driverFault (.bootUv c) mv since) s = .next s) ∧
      (mv < 9000 → s.pwr.linkUp = true → ∃ s', exec (.driverFault .vgdUv mv since) s = .next s' ∧
        s'.fld GDR_VGD_VALUE = mv ∧ s'.srcSet 13 64 = true) ∧
      (9500 < mv → mv < 2 ^ 16 → s.pwr.linkUp = true → ∃ s', exec (.driverFault .vgdUv mv since) s = .next s' ∧
        s'.fld GDR_VGD_VALUE = mv ∧ s'.plant.vgdUv = false)) ∧
    (s.dieUp = false → exec (.brakeComparator a mv) s = .next s) ∧
    (s.dieUp = true →
      let b := s.brake a
      let on : Prop := if b.on then
          ¬ (min mv 0xFFF < s.drvFld (GDR_BRKCFG_OFF a) ∧ 400 * s.drvFld (GDR_BRKCTL_MINON a) ≤ b.since)
        else s.drvFld (GDR_BRKCFG_ON a) < min mv 0xFFF
      ∃ s', exec (.brakeComparator a mv) s = .next s' ∧ (s'.brake a).sense = min mv 0xFFF ∧ ((s'.brake a).on = true ↔ on) ∧
        (s.pwr.linkUp = true → s'.fld (GDR_BRKSENSE_SENSE a) = min mv 0xFFF ∧
          (s.drvFld (GDR_BRKCTL_TRIP a) < min mv 0xFFF → s'.srcSet 13 (65 + a) = true))) ∧
    (s.dieUp = true → s.pwr.linkUp = true → (s.brake a).above = false →
      s.drvFld (GDR_BRKCTL_TRIP a) < (s.brake a).sense → (s.brakeTick a).srcSet 13 (65 + a) = true) ∧
    (let b := s.brake a
     (s.isStandby = false → exec (.brakeArmWrite a true) s = .next (s.setBrake a { b with armReq := true }) ∧
       (s.flag (GDR_BRKCTL_ARM a) = false → exec (.brakeArmWrite a false) s = .next s)) ∧
     (s.isStandby = true → exec (.brakeArmWrite a true) s = .next (s.setBrake a { b with shadow := true })) ∧
     (s.flag (GDR_BRKCTL_ARM a) = true ∨ (s.isStandby = true ∧ b.shadow = true) →
       exec (.brakeArmWrite a false) s = .next (s.setFld GDR_STATUS_CFGERR 1))))

/-- The control engine's registers, high voltage, the fuser and the thermal models: a coefficient set is checked whole;
EN starts a channel's ramp from 0 unless a rule refuses it; ACEN ramps the amplitude in a straight line over
whole cycles, and a reversal starts from the level then reached; an arc hold ends in a ramp; at most
MAXON burst zones are on in a half-cycle; a zone above ZMAX or without a sensor is forced off and raises its source; a
limit factor falls by 1, and rises by 1 below THR less HYST; a model that does not apply reads 0 (R267, R268, R270 to R275, R278, R279). The model's own choices in it: log entries 46, 47, 48, 49, 61, 73. -/
def Obligations.ControlHvFuserHeat : Prop :=
  ∀ (s : State) (l h z m p : Nat), s.isOff = false → l < 128 → h < 16 → z < 24 → m < 48 →
    let hv := s.hvP h
    let st := s.hvState h
    let amp := s.fld (HVS_AC_ACAMP h)
    let ramp := s.fld (HVS_ACCFG_ACRAMP h)
    (let ok := coefSetOk (s.isBfp l) (s.flag (CTL_LCFG_ORDER l)) (s.staged l)
     (ok = true → exec (.coefficientCommit l) s =
       .next ((s.setLoop l { s.loopP l with commit := some (s.staged l) }).setFld (CTL_COMMIT_PEND l) 1)) ∧
     (ok = false → exec (.coefficientCommit l) s = .next (s.setFld CTL_STATUS_COEFERR 1))) ∧
    (∀ r, r < 16 → exec (.rcClr r) s = .next (s.setRc r { s.rcP r with clr := true })) ∧
    (st = hvEscalated → exec (.hvEnable h true) s = .next s) ∧
    (s.flag (HVS_CHCTL_EN h) = true → exec (.hvEnable h true) s = .next s) ∧
    (st = hvOff → s.flag (HVS_CHCTL_EN h) = false → s.hvMayEnable h = true → ∃ s', exec (.hvEnable h true) s = .next s' ∧ s'.hvState h = hvRamping ∧
      s'.flag (HVS_CHCTL_EN h) = true ∧ (s'.hvP h).set = 0) ∧
    (st ≠ hvEscalated → s.flag (HVS_CHCTL_EN h) = false → s.hvMayEnable h = false → exec (.hvEnable h true) s = .next (s.setFld HVS_STATUS_CFGERR 1)) ∧
    (st = hvOff → exec (.hvEnable h false) s = .next (s.setFld (HVS_CHCTL_EN h) 0)) ∧
    (st ≠ hvEscalated → s.hvLive h = true → s.fld (HVS_RAMP_RAMP h) = 0 ∨ st = hvArcHold → ∃ s',
      exec (.hvEnable h false) s = .next s' ∧ s'.hvState h = hvOff ∧ s'.flag (HVS_CHCTL_EN h) = false ∧ (s'.hvP h).set = 0) ∧
    (s.hvLive h = true → s.fld (HVS_RAMP_RAMP h) ≠ 0 → st ≠ hvArcHold → exec (.hvEnable h false) s =
      .next ((s.setHv h { hv with off := true }).setFld (HVS_CHCTL_EN h) 0)) ∧
    (h % 4 ≠ 1 ∨ s.hvBound h = false → exec (.acen h true) s = .next (s.setFld HVS_STATUS_CFGERR 1)) ∧
    (h % 4 = 1 → s.hvBound h = true → hv.ac = 0 → exec (.acen h true) s = .next ((s.setFld (HVS_CHCTL_ACEN h) 1).setHv h
      { hv with
        ac := if ramp = 0 then 2 else 1, level := 0, slope := amp, den := s.acDen h, pos := 0, start := s.time.cycles })) ∧
    (h % 4 = 1 → s.hvBound h = true → hv.ac = 3 → ∃ s', exec (.acen h true) s = .next s' ∧
      (s'.hvP h).ac = (if ramp = 0 then 2 else 1) ∧ (s'.hvP h).level = (s.acMove h (s.acAt h)).level) ∧
    (hv.ac = 2 → ∃ s', exec (.acen h false) s = .next s' ∧ s'.flag (HVS_CHCTL_ACEN h) = false ∧ (s'.hvP h).ac = 3 ∧
      (ramp = 0 → (s'.hvP h).level = 0) ∧
      (ramp ≠ 0 → (s'.hvP h).level = amp * (s'.hvP h).den ∧ (s'.hvP h).slope = amp ∧ (s'.hvP h).den = s.acDen h)) ∧
    (hv.ac = 0 → exec (.acen h false) s = .next (s.setFld (HVS_CHCTL_ACEN h) 0)) ∧
    (st = hvArcHold → ∃ s', exec (.arcHoldEnd h) s = .next s' ∧ s'.hvState h = hvRamping ∧ (s'.hvP h).set = 0) ∧
    (st ≠ hvArcHold → exec (.arcHoldEnd h) s = .next s) ∧
    (st = hvRegulating → hv.err = true → ∃ s', exec (.hvRegTimeout h) s = .next s' ∧ s'.srcSet 14 (16 + h) = true) ∧
    (st ≠ hvRegulating ∨ hv.err = false → exec (.hvRegTimeout h) s = .next s) ∧
    (let went := hv.slope * (s.acCycle h - hv.pos)
     let full := amp * hv.den
     (hv.ac = 1 → ∃ s', exec (.acExcitationCycle h) s = .next s' ∧ (s'.hvP h).level = min full (hv.level + went) ∧
       ((s'.hvP h).ac = 2 ↔ full ≤ hv.level + went) ∧ (s'.hvP h).pos = 0) ∧
     (hv.ac = 3 → ∃ s', exec (.acExcitationCycle h) s = .next s' ∧ (s'.hvP h).level = hv.level - went ∧
       ((s'.hvP h).ac = 0 ↔ hv.level ≤ went)) ∧
     (hv.ac = 2 → ∃ s', exec (.acExcitationCycle h) s = .next s' ∧ (s'.hvP h).ac = 2 ∧ (s'.hvP h).level = hv.level) ∧
     (hv.ac = 0 → exec (.acExcitationCycle h) s = .next s)) ∧
    (s.isWorker = true → (∀ half, exec (.zeroCrossing half) s = .next s) ∧ exec .zeroCrossTimeout s = .next s ∧
      ∀ adc, exec (.zoneTempUpdate z adc) s = .next s) ∧
    (s.isWorker = false → ∀ half, ∃ s', exec (.zeroCrossing half) s = .next s' ∧ s'.fld FUS_MAINS_HALF = min half 0xFFFF ∧
      s'.flag FUS_STATUS_ZCOK = true ∧
      ((List.range 24).filter fun z => s'.burstZone z && (s'.zoneP z).on).length ≤ s.fld FUS_BURST_MAXON) ∧
    (s.isWorker = false → ∃ s', exec .zeroCrossTimeout s = .next s' ∧ s'.flag FUS_STATUS_ZCOK = false ∧
      s'.srcSet 15 56 = true ∧ (s.burstZone z = true → (s'.zoneP z).on = false) ∧
      (s.burstZone z = false → s'.zoneP z = s.zoneP z)) ∧
    (s.isWorker = false → ∀ adc,
      let sens := s.fld (FUS_ZCFG_SENS z)
      let v := adc.getD (s.fld (FUS_ZCFG_SADC z)) none
      let cj := if sens = 0 then adc.getD (s.fld (FUS_ZCFG_CJADC z)) none else some 0
      let zmax := ofTwos 16 (s.fld (FUS_ZSETR_ZMAX z))
      (v = none ∨ cj = none → exec (.zoneTempUpdate z adc) s = .next s) ∧
      (∀ a b, v = some a → cj = some b →
        (∀ t, Config.zoneTemp sens a b = some t → ∃ s', exec (.zoneTempUpdate z adc) s = .next s' ∧
          s'.fld (FUS_ZTEMP_TEMP z) = toTwos 16 (sat16 t) ∧
          (zmax < t → (s'.zoneP z).forced = true ∧ s'.srcSet 15 z = true) ∧
          (t ≤ zmax → (s'.zoneP z).forced = false)) ∧
        (Config.zoneTemp sens a b = none → ∃ s', exec (.zoneTempUpdate z adc) s = .next s' ∧
          (s'.zoneP z).forced = true ∧ s'.srcSet 15 (32 + z) = true))) ∧
    (∀ die adc,
      let s0 := s.dieReading m die
      (s0.flag (THM_MCFG_EN m) = false → s0.thmApplies m = true → exec (.thermalModelUpdate m p die adc) s = .next s0) ∧
      (s0.thmApplies m = false → ∃ r, exec (.thermalModelUpdate m p die adc) s = .next r ∧ r.fld (THM_MT_T1 m) = 0 ∧
        r.fld (THM_MT_T2 m) = 0 ∧ r.fld (THM_P_P m) = 0 ∧ r.limFac m = 16) ∧
      (m ≠ 1 → s0 = s) ∧
      (s0.flag (THM_MCFG_EN m) = true → s0.thmApplies m = true → ∃ s1 : State,
        exec (.thermalModelUpdate m p die adc) s =
          .next ((s1.thmLevels m).thmShow m (s0.thmPower m p (if s0.flag (THM_MSTAT_FAST m) then 1 else 10))) ∧
        (s1.thermP m).started = true)) ∧
    (let x := s.thermP m
     let f := s.limFac m
     (x.thr = true ∨ x.forced = true → exec (.limitFactorStep m) s =
       .next (s.setFld (THM_MSTAT_LIMFAC m) (max (min f (s.fld (THM_MTHR_MINFAC m))) (f - 1)))) ∧
     (x.thr = false → x.forced = false →
       let cool : Prop := x.t1 / tU < s.thmLevel thmThr m - (s.fld (THM_MTHR_HYST m) : Int)
       (cool → exec (.limitFactorStep m) s = .next (s.setFld (THM_MSTAT_LIMFAC m) (min 16 (f + 1)))) ∧
       (¬ cool → exec (.limitFactorStep m) s = .next s)))

/-! Calibration, registration, audits, faults and the interlock (R286 to R319). -/

/-- Calibration and registration: a request for a bound port is triggered, or kept while its run goes on; a run starts at
the boundary with BUSY and the stale bit, and its end writes each delay target, clamped to 0 to 32,767, and counts; an
abandoned run sets CALFAIL; an edge of the mark sensor is a bar awaited within ±MWIN or none, a missed one is counted (R286,
R287, R289, R292 to R295). Audits:
a code AUD does not accept is answered BADARG; a deferred one starts when its gap begins; only LANE and SCAN audits are
suspended; completion sets the result, counts it, sets TEV.AUD in the tellers that wait, and answers the blocks (R297 to
R302, R310). The model's own choices in it: log entries 27, 39, 50, 74. -/
def Obligations.CalibrationAndAudits : Prop :=
  (∀ (s : State) (n k stn : Nat), s.isOff = false →
     let c := s.cal n
     (n < 4 → s.portEn n = false → exec (.req n) s = .next s) ∧
     (let first (n : Nat) : Bool := if (s.cal n).st = 1 ∨ (s.cal n).pend = true then (s.cal n).first else ! s.emitHeld n
      let asked (n : Nat) : State := s.setCal n (if (s.cal n).st = 2
        then { s.cal n with pend := true, host := true, first := first n }
        else { s.cal n with st := 1, host := true, first := first n })
      (n < 4 → s.portEn n = true → exec (.req n) s = .next (asked n)) ∧ exec .reqd s = .next (asked 4)) ∧
     (c.st = 2 ∨ (c.st = 0 ∧ s.calAuto n = false) → exec (.calibrationStart n) s = .next s) ∧
     (n < 4 → c.st = 1 → s.emitTest n = none → s.portEn n = true → ∃ s', exec (.calibrationStart n) s = .next s' ∧
       (s'.cal n).st = 2 ∧ (s'.cal n).last = s.calTemp n ∧ (s'.cal n).nmeas = s.fld CLB_NMEAS_SWEEPS ∧ (s'.cal n).n = 0 ∧
       s'.fbit CLB_STATUS_BUSY n = true ∧ s'.fbit EXP_STATUS_STALE n = true) ∧
     (s.calMeasured n = false → ∀ m, exec (.calibrationEnd n m) s = .next s) ∧
     (s.calMeasured n = true → n < 4 → ∀ m, ∃ s0 : State,
       exec (.calibrationEnd n m) s =
         .next ((((s0.calBusy n false).inc CLB_RUNCNT_COUNT).calNext n).auditAnswer (codeCal n) true 24) ∧
       (∀ e, e < 256 → s0.fld (dlyTarget n e) = min 32767 (s.delayTarget n e c.n c.tSum c.eSum).toNat) ∧
       (s0.cal n).meas = some (c.n, c.tSum, c.eSum)) ∧
     (s.calMeasured 4 = true → ∀ m, let u := (s.writeDie m.zeros m.delays).writeThr (s.cal 4).seen 4
       exec (.calibrationEnd 4 m) s = .next (((({ u with plant := { u.plant with dieWait := true } }.calBusy 4 false).inc
         CLB_RUNCNT_COUNT).calNext 4).auditAnswer (codeCal 4) true 24)) ∧
     (c.st ≠ 2 → exec (.calibrationAbandon n) s = .next s) ∧
     (c.st = 2 → n ≤ 4 → ∃ s', exec (.calibrationAbandon n) s = .next s' ∧ s'.srcSet 17 n = true) ∧
     (s.registers = false ∨ n ≠ s.fld CLB_MKCFG_INPUT ∨ s.edgeBar = none → exec (.markEdge n) s = .next s) ∧
     (∀ j q d, s.registers = true → n = s.fld CLB_MKCFG_INPUT → s.edgeBar = some (j, q, d) →
       d.natAbs ≤ s.fld CLB_REGGAIN_MWIN * 256 ∧ (∃ m, (j, m) ∈ s.plant.marks ∧ s.barOff m q = some d) ∧
       exec (.markEdge n) s = .next (s.setMarks j (
         let m := s.marks j
         if tabGet none m.first q = none ∧ m.miss1.testBit q = false then { m with first := tabSet none m.first q (some d) }
         else { m with second := tabSet none m.second q (some d) }))) ∧
     (let m := s.marks k
      let late : Prop := s.registers = true ∧ stn < 16 ∧ ∃ d, s.barOff m stn = some d ∧ (s.markWin : Int) < d
      (late → exec (.missedMark k stn) s =
        .next ((s.setMarks k (if tabGet none m.first stn = none ∧ m.miss1.testBit stn = false
          then { m with miss1 := m.miss1 ||| 2 ^ stn } else { m with miss2 := m.miss2 ||| 2 ^ stn })).inc
            CLB_MISSMK_COUNT)) ∧
      (¬ late → exec (.missedMark k stn) s = .next s) ∧
      (s.registers = false ∨ m = Marks.init ∨ (∃ n, n < 16 ∧ s.barOff m n ≠ none) →
        exec (.registrationCorrection k) s = .next s) ∧
      (s.registers = true → m ≠ Marks.init → (∀ n, n < 16 → s.barOff m n = none) →
        (markErrors m (s.fld CLB_MKCFG_REFST) = none →
          exec (.registrationCorrection k) s = .next (s.setMarks k Marks.init)) ∧
        ∃ s', exec (.registrationCorrection k) s = .next s' ∧ s'.marks k = Marks.init))) ∧
  (∀ (s : State) (i code : Nat) (r : AudResult), s.isOff = false → i < 16 →
     let st := s.fld (AUD_STATE_STATE i)
     let held := s.fld (AUD_CODE_CODE i)
     (code < 2 ^ 32 → s.audCodeOk code = false → exec (.auditRequest code) s = .next (s.setFld AUD_REQST_STATUS 10)) ∧
     (code < 2 ^ 32 → exec (.auditRequest code) s = .next (s.audHost code)) ∧
     (s.audCodeOk code = true → (∀ j, j < 16 → s.audHeld j = true) → (∀ j, j < 16 → s.fld (AUD_CODE_CODE j) ≠ code) →
       exec (.auditRequest code) s = .next (s.setFld AUD_REQST_STATUS 4)) ∧
     (let due : Prop := st = 1 ∧ s.audGapNow held = true ∧ ((s.aud i).known = true → (s.aud i).pos ≤ s.wpos)
      (¬ due → exec (.auditStart i) s = .next s) ∧
      (due → exec (.auditStart i) s = .next ((s.audRun i).faultTurn 24)) ∧
      (s.audRun i).fld (AUD_STATE_STATE i) = 2) ∧
     (st ≠ 2 ∨ audPort held = none → exec (.auditSuspend i) s = .next s) ∧
     (st = 2 → audPort held ≠ none → exec (.auditSuspend i) s =
       .next ((s.audWait i (s.gapNext held)).2.faultTurn 24)) ∧
     (∀ l, s.gapNext held = some l → let u := (s.audWait i (some l)).2
       u.fld (AUD_STATE_STATE i) = 1 ∧ u.fld (AUD_POS_POS i) = l % 2 ^ (AUD_POS_POS i).width ∧ (u.aud i).known = true ∧
       (u.aud i).pos = l * 2 ^ 16) ∧
     (st ≠ 2 ∨ s.audRan i held = false → exec (.auditComplete i r) s = .next s) ∧
     (st = 2 → s.audRan i held = true →
       let pass := (s.auditResult i held r).1
       let q := (s.auditResult i held r).2
       ∃ s1 : State, exec (.auditComplete i r) s = .next ((s1.auditAnswer held pass 24).faultTurn 24) ∧
         s1.fld (AUD_STATE_STATE i) = (if pass then 3 else 4) ∧ (s1.aud i).done = q.plant.audSeq + 1 ∧
         s1.fld AUD_PASSCNT_COUNT = (if pass then satInc 32 (q.fld AUD_PASSCNT_COUNT) else q.fld AUD_PASSCNT_COUNT) ∧
         s1.fld (AUD_WHO_TELLERS i) = 0 ∧
         ∀ t, t < 16 → q.fbit (AUD_WHO_TELLERS i) t = true → (s1.teller t).tev.getLsbD 23 = true))

/-- The fault scheme: a source event of a NORMAL block opens an incident with a number of its own, sets the source and
TEV.FLT in the tellers routed and starts the grace period; a masked source only sets its bit; during GRACE and LASTING it
joins and no more, in AUDIT or CLEARING it adds its audit and the block is in AUDIT; the sources a node mutes while DORMANT_N
is low change nothing; the grace period ends in CLEARING when no unmasked source is left; the quiet period ends in
NORMAL; FLT_BLKRST needs its key and a LASTING block (R307 to R313, R318).
The model's own choices in it: log entry 27. -/
def Obligations.FaultScheme : Prop :=
  ∀ (s : State) (b src : Nat) (given : Option Nat), s.isOff = false → b < 24 →
    let c := Instr.faultSourceEvent b src given
    let marked := s.setFbit (fstatOf b src) (src % 32)
    let i := s.incident b
    (sourceOk b src = false → exec c s = .next s) ∧
    (s.dormantMute b src = true → exec c s = .next s) ∧ (s.pwr.dormantLow = false → s.dormantMute b src = false) ∧
    (sourceOk b src = true → s.dormantMute b src = false → s.srcMasked b src = true → exec c s = .next marked) ∧
    (sourceOk b src = true → s.dormantMute b src = false → s.srcMasked b src = false →
      (s.blk b = 0 → ∃ s', exec c s = .next s' ∧ s'.srcSet b src = true ∧ s'.blk b = 1 ∧ (s'.incident b).srcs = [src] ∧
        (∀ t, t < 16 → s.fbit (FLT_ROUTE_TELLERS b) t = true → (s'.teller t).tev.getLsbD 19 = true) ∧
        (given = none → s'.fld (FLT_BLKINC_INCIDENT b) = (s.node * 2048 + s.fld FLT_INCNEXT_VALUE % 2048) % 2 ^ 16 ∧
          s'.fld FLT_INCNEXT_VALUE % 2048 =
            if s.fld FLT_INCNEXT_VALUE % 2048 = 2047 then 1 else s.fld FLT_INCNEXT_VALUE % 2048 + 1)) ∧
      (s.blk b = 1 ∨ s.blk b = 4 →
        exec c s = .next (marked.setIncident b { i with srcs := insertNat src i.srcs })) ∧
      (s.blk b = 2 ∨ s.blk b = 3 → exec c s = .next ((marked.setIncident b { i with
        srcs := insertNat src i.srcs
        audits := if i.audits.contains ⟨src, 0, false⟩ then i.audits else i.audits ++ [⟨src, 0, false⟩] }).setBlk b 2))) ∧
    (s.blk b ≠ 1 → exec (.graceExpiry b) s = .next s) ∧
    (s.blk b = 1 → exec (.graceExpiry b) s = .next (s.graceEnd b)) ∧
    (s.blk b = 1 → (∀ x, x ∈ i.srcs → s.srcMasked b x = true) → ∃ s', exec (.graceExpiry b) s = .next s' ∧ s'.blk b = 3) ∧
    (s.blk b ≠ 3 → exec (.quietPeriodEnd b) s = .next s) ∧
    (s.blk b = 3 → ∃ s', exec (.quietPeriodEnd b) s = .next s' ∧ s'.blk b = 0 ∧ s'.flag (FLT_BLKSTAT_ESC b) = false ∧
      s'.incident b = Incident.none) ∧
    (∀ key, key ≠ 0xB10C → exec (.fltBlkrst key b) s = .next (s.setFld FLT_STATUS_KEYERR 1)) ∧
    (s.blk b ≠ 4 → exec (.fltBlkrst 0xB10C b) s = .next (s.setFld FLT_STATUS_CFGERR 1)) ∧
    (∀ b, 23 < b → exec (.fltBlkrst 0xB10C b) s = .next (s.setFld FLT_STATUS_CFGERR 1)) ∧
    (s.blk b = 4 → i.srcs = [] → ∃ s', exec (.fltBlkrst 0xB10C b) s = .next s' ∧ s'.blk b = 0) ∧
    exec (.pinReadbackError s.healthy (! s.healthy)) s = .next { s with pwr := { s.pwr with pin := none } } ∧
    (∀ p n, p ≠ s.healthy ∨ n = s.healthy → ∃ s', exec (.pinReadbackError p n) s = .next s' ∧ s'.srcSet 18 0 = true)

/-- The laser-safety interlock (R319) and FLT_CTL.RUN. In every state, off or on: an opening of either channel clears
LENOK and ends a wait for the re-arm, and no HLn_LEN is high after it, whatever the ports image; both channels open end a
discrepancy; each channel that opens is counted. Both closed long enough await the re-arm unless a discrepancy stands. A
discrepancy is latched, raises its source and leaves every HLn_LEN low. A node that is not off shows the interlock in
FLT_LSISTAT. REARM is discarded before it is awaited; RUN is set only when the node is ready and not in test mode (R365,
R382, R383). The model's own choices in it: log entries 52, 53. -/
def Obligations.LaserInterlock : Prop :=
  ∀ s : State,
    let l := s.plant.lsi
    let shows (t : State) : Prop := t.isOff = false →
      t.flag FLT_LSISTAT_ACLOSED = (! t.plant.lsi.aOpen) ∧ t.flag FLT_LSISTAT_BCLOSED = (! t.plant.lsi.bOpen) ∧
      t.flag FLT_LSISTAT_LENOK = t.plant.lsi.ok ∧ t.flag FLT_LSISTAT_DISC = t.plant.lsi.disc ∧
      t.flag FLT_LSISTAT_WAITREARM = t.plant.lsi.wait
    let dark (c : Instr) (l' : Lsi) (p : State → Prop) : Prop := ∃ t, exec c s = .next t ∧ t.plant.lsi = l' ∧ t.lenPorts = [] ∧
      t.isOff = s.isOff ∧ shows t ∧ p t
    let latched (l' : Lsi) : State := { s with plant := { s.plant with lsi := l' } }
    (∀ a b, (a || b) = true → dark (.lsiOpen a b) ⟨a, b, false, l.disc && ! (a && b), false⟩ fun t =>
      t.fld FLT_LSICNT_COUNT = if s.isOff = false ∧ ((a && ! l.aOpen) || (b && ! l.bOpen)) = true
        then satInc FLT_LSICNT_COUNT.width (s.fld FLT_LSICNT_COUNT) else s.fld FLT_LSICNT_COUNT) ∧
    exec (.lsiOpen false false) s = .next (latched { l with aOpen := false, bOpen := false }).lsiShow ∧
    exec .lsiSettled s = .next (latched { l with
      aOpen := false, bOpen := false, wait := l.wait || ! (l.disc || l.ok) }).lsiShow ∧
    (s.isOff = true → s.lsiShow = s) ∧ shows s.lsiShow ∧
    (∃ fs : List (Field × Bool), s.isOff = false → s.lsiShow = fs.foldl (fun t f => t.setBool f.1 f.2) s ∧
      ∀ f, f ∈ fs → f.1.addr = FLT_LSISTAT_LENOK.addr) ∧
    (∀ a, dark (.lsiDiscrepancy a) ⟨a, ! a, false, true, false⟩ fun t => s.isOff = false → t.srcSet 18 1 = true) ∧
    ((∀ n, n < 4 → s.imagingSlot n = none) → s.lenDrop = (latched { l with ok := false }).lsiShow.lenOut) ∧
    (∀ n k, n ∈ s.lenPorts → s.imagingSlot n = some k → s.lenDrop =
      let u := (latched { l with ok := false }).lsiShow.lenOut.newIncident
      eachPort (fun n t => t.voidPort n 10 u.1) s.lenPorts u.2) ∧
    (l.ok = false → s.lenPorts = []) ∧
    (s.isOff = false →
      (l.wait = false → exec .rearm s = .next (s.setFld FLT_STATUS_CFGERR 1)) ∧
      (l.wait = true → ∃ t, exec .rearm s = .next t ∧ t.plant.lsi = { l with wait := false, ok := true } ∧ shows t ∧
        t.tellers = s.tellers ∧ t.esc = s.esc) ∧
      (s.pwr.straps.testEn = true ∨ s.fld ACC_BOOT_STAT = 3 ∨ s.engineReady = false → exec .fltRun s = .next s) ∧
      (s.pwr.straps.testEn = false → s.fld ACC_BOOT_STAT ≠ 3 → s.engineReady = true →
        exec .fltRun s = .next (s.setFld FLT_CTL_RUN 1)))

/-! The Manager–Standby pair, the ring, messages and the press-wide stop (R16, R17, R320 to R329, R354 to R364). -/

/-- Receiving a ring frame: on a node whose ring does not run it changes nothing; one out of turn on its link is not taken, and
a repeat of one taken before is acknowledged again; one with a wrong CRC is not accepted; one of a wrong form, or with a TERM below the node's own, is counted as a violation and
discarded; a Manager that sees a higher TERM retires and releases its paired outputs; else a numbered frame is acknowledged
and the next LSEQ expected, and a unicast for another node goes on, or comes back to its source undelivered (R325, R355 to
R357). The bytes of a frame read back as its header and what it carries, and those of a beacon, a void, a HELLO and an ASSIGN
as themselves (R354, R355, R359, R360, R362). The model's own choices in it: log entries 57, 75. -/
def Obligations.FrameReception : Prop :=
  ∀ (c : Instr) (h : Hdr) (m : RingMsg) (s : State), frameOf c = some (h, m) →
    let u := s.linkTook h
    (s.listens = false → exec c s = .next s) ∧
    (s.listens = true → h.err = .crc → exec c s = .next (s.rxBad h)) ∧
    (h.lseq = 0xFFFF → s.rxBad h = s) ∧
    (s.listens = true → h.err ≠ .crc → s.inTurn h = false → exec c s = .next (s.rxAgain h)) ∧
    (let back := ((s.link h.dir).nextIn + 0xFFFF - h.lseq) % 0xFFFF
     (1 ≤ back → back < 0x8000 → s.rxAgain h = s.linkctlOut (1 - h.dir) h.lseq false) ∧
     (back = 0 ∨ 0x8000 ≤ back → s.rxAgain h = s)) ∧
    (s.inTurn h = true → formOk h = false → exec c s = .next (u.ringViolation h)) ∧
    (s.inTurn h = true → formOk h = true → h.term < s.fld GLB_TERM_TERM → exec c s = .next (u.ringViolation h)) ∧
    (s.inTurn h = true → formOk h = true → s.isManager = true → s.fld GLB_TERM_TERM < h.term →
      exec c s = .next u.retire) ∧
    (s.hears h = true → s.frameHere h = false → exec c s =
      .next (if u.ownReturn h then u.undelivered h m else u.relay h m)) ∧
    (h.lseq ≠ 0xFFFF → (u.link h.dir).nextIn = ((s.link h.dir).nextIn + 1) % 0xFFFF) ∧
    (h.lseq = 0xFFFF → u = s) ∧ s.retire.role = 4 ∧ s.retire.flag GLB_DRVEN_OUTEN = false ∧
    (∀ (f : RingFrame) (d : Nat), (∀ x, f.dst = some x → x < 2 ^ 17) → f.src < 256 → f.term < 2 ^ 32 → f.hops < 256 →
      f.lseq < 2 ^ 16 →
      let dst := f.dst.getD 0
      let p := msgPayload dst f.m
      p.length % 4 = 0 → p.length ≤ 128 → readMsg (msgType f.m) dst p = some f.m → readFrame d (frameBytes f) =
        ({ dir := d, dst := f.dst, term := f.term, src := f.src, lseq := f.lseq, hops := f.hops, wrapped := f.wrapped,
           err := .none }, some f.m)) ∧
    (∀ d bs, frameCrcOk bs = false → readFrame d bs = ({ readHdr d bs with err := .crc }, none)) ∧
    (∀ b : Beacon, b.seq < 2 ^ 32 → b.wpos < 2 ^ 64 → b.vel < 2 ^ 32 → b.resid < 2 ^ 16 →
      (beaconBytes b).length = 20 ∧ readMsg 0x01 0 (beaconBytes b) = some (.beacon b)) ∧
    (∀ v : VoidRec, v.slot < 2 ^ 32 → v.reason < 256 → v.station < 256 → v.incident < 2 ^ 16 → v.frame < 2 ^ 32 →
      (voidBytes v).length = 12 ∧ readMsg 0x04 0 (voidBytes v) = some (.void v)) ∧
    (∀ serial n role map a b, serial < 2 ^ 64 → n < 256 → role < 256 → map < 2 ^ 32 → a < 2 ^ 32 → b < 2 ^ 32 →
      (let x : RingMsg := .hello serial n role map a b
       (msgPayload 0 x).length = 24 ∧ readMsg 0x20 0 (msgPayload 0 x) = some x) ∧
      (let x : RingMsg := .assign serial n role a b
       (msgPayload 0 x).length = 20 ∧ readMsg 0x21 0 (msgPayload 0 x) = some x))

/-- The pair. A mirror record of another TERM or a reserved KIND is a violation, one in order is applied and moves the
stream on; a watermark is taken and answered; an acknowledgement releases what was held for it; a lost beacon is probed, and
the takeover follows only a probe answered by others and not by the Manager; a takeover makes the Standby Manager in the
next TERM; a hand-over, a swap and its boundary; the paired outputs come on after it; a lost node (R320 to R329).
The model's own choices in it: log entries 19, 58, 75, 77. -/
def Obligations.PairCommands : Prop :=
  ∀ (s : State) (h : Hdr) (r : MirRec) (seq first last sent settled event n : Nat) (ok : Bool), s.isOff = false →
    let on (x : RingMsg) : State := s.heard h x
    let m := s.mirror
    let armed : Prop := s.isStandby = true ∧ s.flag FLT_MIRSTAT_TKARMED = true
    (s.accepts h = true →
      (let u := on (.mirror r)
       (u.isStandby = false → exec (.mirror h r) s = .next u) ∧
       (u.isStandby = true → r.term ≠ u.fld GLB_TERM_TERM ∨ (∃ k, r.data = .reserved k) →
         exec (.mirror h r) s = .next (u.ringViolation h)) ∧
       (u.isStandby = true → r.term = u.fld GLB_TERM_TERM → (∀ k, r.data ≠ .reserved k) →
         exec (.mirror h r) s = .next (u.mirrorOrder r).swapArrived) ∧
       (u.mirror.expect ≠ unsynced → r.mseq = u.mirror.expect → u.mirror.ahead = [] →
         (u.mirrorOrder r).mirror.expect = (u.mirror.expect + 1) % 2 ^ 32 ∧
         (u.mirrorOrder r).fld FLT_MSEQ_MSEQ = u.mirror.expect % 2 ^ 32) ∧
       (u.mirror.expect ≠ unsynced → 2 ^ 31 ≤ (r.mseq + 2 ^ 32 - u.mirror.expect) % 2 ^ 32 → u.mirrorOrder r = u)) ∧
      (let u := on (.watermark sent settled event)
       (u.isStandby = false → exec (.watermark h sent settled event) s = .next u) ∧
       (u.isStandby = true → ∃ s', exec (.watermark h sent settled event) s = .next s' ∧
         s'.fld FLT_LASTSETTLED_MSEQ = settled % 2 ^ 32 ∧ s'.fld FLT_LASTEVENT_MSEQ = event % 2 ^ 32 ∧
         s'.mirror.openReplies = u.mirror.openReplies.filter fun x => ! seqUpTo x.1 event) ∧
       (u.isStandby = true → u.mirror.expect ≠ unsynced → ∃ v : State, v.mirror.expect = u.mirror.expect ∧
         let ack := (u.mirror.expect + 2 ^ 32 - 1) % 2 ^ 32
         exec (.watermark h sent settled event) s = .next ((v.setFld FLT_ACKSEQ_MSEQ ack).ringUni v.mgrEp (.mirack ack)))) ∧
      (let u := on (.mirack seq)
       (u.isManager = true → exec (.mirack h seq) s = .next
         (((u.setMirror { u.mirror with ackAt := u.time.cycles }).setFld FLT_ACKSEQ_MSEQ seq).releaseHeld seq)) ∧
       (u.isManager = false → exec (.mirack h seq) s = .next u)) ∧
      (let u := on (.mirreq first last)
       let whole : Prop := first = 0xFFFFFFFF ∧ last = 0xFFFFFFFF
       let v := u.sendPieces u.pieces
       (u.hasStandby = false → exec (.mirreq h first last) s = .next u) ∧
       (u.hasStandby = true → whole → exec (.mirreq h first last) s =
         .next (v.setMirror { v.mirror with snapshot := true, ackAt := v.time.cycles })) ∧
       (u.hasStandby = true → ¬ whole → exec (.mirreq h first last) s =
         .next (u.sendAgain (u.mirror.sent.filter fun r => seqUpTo first r.mseq && seqUpTo r.mseq last)))) ∧
      (let u := on (.probe seq)
       let back := h.src * 4096 + 0x58F
       (u.isManager = true → exec (.probe h seq) s =
         .next (u.ringUni back (.probeans ((u.pos.bcnSeq + 2 ^ 32 - 1) % 2 ^ 32)))) ∧
       (u.isWorker = true → exec (.probe h seq) s = .next (u.ringUni back (.probeans u.mirror.lastBeacon))) ∧
       (u.isManager = false → u.isWorker = false → exec (.probe h seq) s = .next u)) ∧
      (let u := on (.probeans seq)
       let ours : Prop := u.isStandby = true ∧ u.mirror.probing = true
       let later : Prop := seq ≠ u.mirror.lastBeacon ∧ seqUpTo u.mirror.lastBeacon seq = true
       (¬ ours → exec (.probeans h seq) s = .next u) ∧
       (ours → h.src = u.mirror.mgrNode →
         exec (.probeans h seq) s = .next (u.setMirror { u.mirror with probeMgr := true })) ∧
       (ours → h.src ≠ u.mirror.mgrNode → later →
         exec (.probeans h seq) s = .next (u.setMirror { u.mirror with probeLater := true })) ∧
       (ours → h.src ≠ u.mirror.mgrNode → ¬ later →
         exec (.probeans h seq) s = .next (u.setMirror { u.mirror with probeOk := true }))) ∧
      (let u := on .relinquish
       let arm : Prop := u.isStandby = true ∧ u.flag FLT_MIRSTAT_TKARMED = true ∧ u.pwr.dormantLow = false
       (arm → exec (.relinquish h) s = .next u.takeOver) ∧ (¬ arm → exec (.relinquish h) s = .next u)) ∧
      (let u := on (.swapreq seq)
       let peer : Prop := h.src ≠ u.node ∧ (u.isManager = true ∨ u.isStandby = true) ∧ h.term = u.fld GLB_TERM_TERM
       let answer (ok : Bool) : State := u.ringUni (h.src * 4096 + 0x58F) (.swapack seq ok)
       (¬ peer → exec (.swapreq h seq) s = .next u) ∧
       (peer → u.swapOwn = none → u.swapReady = false → exec (.swapreq h seq) s = .next (answer false)) ∧
       (peer → u.swapOwn = none → u.swapReady = true → exec (.swapreq h seq) s = .next ((answer true).swapAgreed seq)) ∧
       (peer → ∀ own, u.swapOwn = some own → u.mirror.boundary = none →
         exec (.swapreq h seq) s = .next (u.swapAgreed (laterSeq own seq)))) ∧
      (let u := on (.swapack seq ok)
       (u.mirror.swapSeq ≠ some seq ∨ u.mirror.boundary ≠ none → exec (.swapack h seq ok) s = .next u) ∧
       (u.mirror.swapSeq = some seq → u.mirror.boundary = none → exec (.swapack h seq ok) s = .next (
         if ok then u.swapAgreed seq
         else (u.setMirror { u.mirror with swapSeq := none }).setFld FLT_STATUS_SWAPERR 1)))) ∧
    (s.isStandby = true → s.pwr.dormantLow = true →
      exec .beaconMissing s = .next { s with pwr := { s.pwr with bcnStopped := true } }) ∧
    (s.pwr.dormantLow = false → armed → m.probing = false → exec .beaconMissing s =
      .next ((s.setMirror { m with probing := true, probeOk := false, probeLater := false, probeMgr := false }).ringBoth none
        (.probe m.lastBeacon))) ∧
    (s.isStandby = false → exec .beaconMissing s = .next s ∧ exec .probeTimeout s = .next s) ∧
    (s.isStandby = true → m.probing = true →
      (m.probeOk = true → m.probeLater = false → m.probeMgr = false → s.flag FLT_MIRSTAT_TKARMED = true →
        s.pwr.dormantLow = false → exec .probeTimeout s = .next s.takeOver) ∧
      (m.probeOk = true → s.flag FLT_MIRSTAT_TKARMED = false ∨ s.pwr.dormantLow = true →
        exec .probeTimeout s = .next (s.setMirror { m with probing := false })) ∧
      (m.probeMgr = true → exec .probeTimeout s = .next (s.setMirror { m with probing := false })) ∧
      (m.probeOk = false → m.probeLater = false → m.probeMgr = false →
        exec .probeTimeout s = .next ((s.setMirror { m with probing := false }).setFld FLT_MIRSTAT_ISOLATED 1))) ∧
    (∃ (t : State) (due : List SettleDue), s.takeOver = ((if t.pos.inhRev then t.inhibitRange else t).escSync).postDue due ∧
      t.isManager = true ∧ t.fld GLB_TERM_TERM = (s.settleMirror.fld GLB_TERM_TERM + 1) % 2 ^ 32 ∧ t.mirror.mgrNode = s.settleMirror.node ∧
      t.mirror.next = 0 ∧ t.mirror.swapping = true ∧ t.mirror.probing = false ∧ t.orders = s.settleMirror.orders ∧
      t.esc = s.settleMirror.esc ∧ t.tellers = s.settleMirror.tellers ∧ t.locks = s.settleMirror.locks ∧
      t.pos = s.settleMirror.pos) ∧ (m.todo = [] → s.settleMirror = s) ∧
    (s.isManager = true → m.swapping = true → exec .enableSwapEnd s = .next (
      let s1 := s.setMirror { m with swapping := false, boundary := none, swapSeq := none, markSeq := none }
      let s2 := (s1.brakeLive 0).brakeLive 1
      (if s.pwr.linkUp then (s2.setFld GLB_DRVEN_OUTEN 1).interlock 52 else s2).align (! m.boundary.isSome))) ∧
    (s.isManager = false ∨ m.swapping = false → exec .enableSwapEnd s = .next s) ∧
    (s.isManager = true → s.standbyArmed = true → exec .relinq s = .next s.relinquish ∧ s.relinquish.role = 4) ∧
    (s.isManager = false ∨ s.standbyArmed = false → exec .relinq s = .next (s.setFld FLT_STATUS_SWAPERR 1)) ∧
    (∀ b, b < 5 → s.isManager = true → s.lastingHandOver b = s.relinquish) ∧
    (s.isManager = true → s.pwr.dormantLow = false → exec .ownBeaconLoss s = .next s.retire) ∧
    (s.isManager = false ∨ s.pwr.dormantLow = true → exec .ownBeaconLoss s = .next s) ∧
    (s.swapReady = false → exec .swap s = .next (s.setFld FLT_STATUS_SWAPERR 1)) ∧
    (s.swapReady = true → s.swapOwn = none → exec .swap s = .next
      ((s.setMirror { m with swapSeq := some s.seqNow, swapAt := s.time.cycles }).ringBoth none (.swapreq s.seqNow))) ∧
    (s.swapReady = true → s.swapOwn ≠ none → exec .swap s = .next s) ∧
    (m.boundary = none → exec .swapBoundary s = .next s) ∧
    (∀ b, m.boundary = some b → s.isManager = true → m.swapping = false → seqUpTo b s.pos.bcnSeq = true →
      ∃ s', exec .swapBoundary s = .next s' ∧ s'.role = 2 ∧ s'.flag GLB_DRVEN_OUTEN = false ∧
        s'.fld GLB_TERM_TERM = (s.fld GLB_TERM_TERM + 1) % 2 ^ 32 ∧ s'.mirror.mgrNode = 1 - s.node) ∧
    (∀ b k, m.boundary = some b → s.isStandby = true → seqUpTo b (m.lastBeacon + 1) = true → m.markSeq = some k →
      seqUpTo (k + 1) m.expect = true → ∃ (t : State) (due : List SettleDue), exec .swapBoundary s =
        .next (((if t.pos.inhRev then t.inhibitRange else t).escSync).postDue due) ∧ t.role = 1 ∧
        t.fld GLB_TERM_TERM = (s.settleMirror.fld GLB_TERM_TERM + 1) % 2 ^ 32 ∧ t.pos.bcnSeq = b ∧ t.mirror.swapping = true ∧
        t.esc = s.settleMirror.esc ∧ t.orders = s.settleMirror.orders) ∧
    (s.isStandby = true → m.markSeq = none → exec .swapBoundary s = .next s) ∧
    (s.isManager = false ∨ n = s.node ∨ (tabGet Peer.none s.peers n).present = false ∨ s.pwr.dormantLow = true →
      exec (.nodelost n) s = .next s) ∧
    (s.isManager = true → n ≠ s.node → (tabGet Peer.none s.peers n).present = true → s.pwr.dormantLow = false →
      s.esc.slots = [] → s.esc.runOpen = false → ∃ s', exec (.nodelost n) s = .next s' ∧
        (tabGet Peer.none s'.peers n).present = false ∧ s'.srcSet 21 2 = true)

/-- Links, messages, the stop and discovery. An acknowledgement frees the frames up to its LSEQ; a third failure, or 1 µs
without any, takes the link down and wraps it; a message is queued for the teller that claims its endpoint, or refused; a
refusal or no answer is reported at the source; a stop merges RNG_STOPMASK and RNG_STOPLVL into P0; a delay is measured 256
times; a node strapped Manager alone becomes Manager as N0; ASSIGN gives a Worker its number and role; an
Ethernet frame for the node is an ARP or echo request the firmware answers, a datagram the ingest takes, or is counted and
dropped, and one lost for want of room fails its ingest (R17, R201, R331, R24, R349,
R355 to R364, R369). The model's own choices in it: log entries 18, 28, 30, 57, 63, 75. -/
def Obligations.RingTraffic : Prop :=
  ∀ (s : State) (h : Hdr) (d lseq p n node pathA pathB : Nat) (m : Msg) (bytes : List Byte), s.isOff = false → d < 2 →
    let u := s.linkTook h
    let l := s.link d
    (let hears : Prop := h.dir = 1 - d ∧ s.ringRuns = true ∧ formOk h = true ∧ s.fld GLB_TERM_TERM ≤ h.term ∧
       (s.isManager = true → h.term = s.fld GLB_TERM_TERM)
     hears → h.err ≠ .crc →
      (∀ k, exec (.linkctl h k true) s = .next (s.linkFail d)) ∧
      ((∀ x, x ∈ l.unacked → x.lseq ≠ lseq) → exec (.linkctl h lseq false) s = .next s) ∧
      ((∃ x, x ∈ l.unacked ∧ x.lseq = lseq) → ∃ s' done, exec (.linkctl h lseq false) s = .next s' ∧
        l.unacked = done ++ (s'.link d).unacked ∧ (∃ x, x ∈ done ∧ x.lseq = lseq) ∧ (s'.link d).failures = 0)) ∧
    (∀ k nak, h.dir < 2 → s.ringRuns = true → h.err ≠ .crc →
      (formOk h = false → exec (.linkctl h k nak) s = .next (s.ringViolation h)) ∧
      (formOk h = true → h.term < s.fld GLB_TERM_TERM → exec (.linkctl h k nak) s = .next (s.ringViolation h)) ∧
      (formOk h = true → s.isManager = true → s.fld GLB_TERM_TERM < h.term → exec (.linkctl h k nak) s = .next s.retire)) ∧
    (s.ringRuns = false ∨ h.err = .crc → ∀ k nak, exec (.linkctl h k nak) s = .next s) ∧
    (l.unacked = [] → ∀ long, exec (.linkRetransmitTimeout d long) s = .next s) ∧
    (l.unacked ≠ [] → exec (.linkRetransmitTimeout d true) s = .next (s.linkDown d) ∧
      exec (.linkRetransmitTimeout d false) s = .next (s.linkFail d) ∧
      (2 ≤ l.failures → s.linkFail d = s.linkDown d) ∧
      (l.failures < 2 → ((s.linkFail d).link d).unacked = l.unacked ∧ ((s.linkFail d).link d).failures = l.failures + 1)) ∧
    (let t := s.linkDown d
     t.flag (wrapField d) = true ∧ t.flag (upField d) = false ∧ (s.pwr.dormantLow = false → t.srcSet 21 d = true)) ∧
    (s.flag RNG_CTL_EN = false ∨ s.fld ACC_BOOT_STAT = 3 → exec (.ringLinkUp d) s = .next s) ∧
    (s.flag RNG_CTL_EN = true → s.fld ACC_BOOT_STAT ≠ 3 → ∃ s1 : State,
      exec (.ringLinkUp d) s = .next (s1.ringSend1 d none (.dlyprobe s.time.cycles)) ∧
      s1.flag (upField d) = true ∧ tabGet (0, 0) s1.dly d = (0, 0) ∧ (s1.link d).failures = 0) ∧
    (s.accepts h = true →
      (let u := s.heard h (.msg m)
       let dst := h.dst.getD 0
       let ep := dst % 4096
       let t := tabGet 0 u.claims ep - 1
       let acct := if m.src % 4096 < 1024 then m.src % 4096 else m.acct % 1024
       let barred : Prop := m.src % 4096 < 1024 ∧ u.isManager = false
       (0x590 ≤ ep → tabGet 0 u.claims ep ≠ 0 → u.inbox.length < 64 → exec (.msg h m) s =
         .next ({ u with inbox := u.inbox ++ [(ep, m)] }.setTev t 22)) ∧
       (0x590 ≤ ep → tabGet 0 u.claims ep ≠ 0 → 64 ≤ u.inbox.length →
         exec (.msg h m) s = .next (u.refuseMsg m 4 dst)) ∧
       (0x590 ≤ ep → tabGet 0 u.claims ep = 0 →
         exec (.msg h m) s = .next ((u.ringViolation h).refuseMsg m 13 dst)) ∧
       (ep < 0x590 → ep ≠ 0x58D → exec (.msg h m) s = .next u) ∧
       (ep = 0x58D → barred → exec (.msg h m) s = .next (u.refuseMsg m stNotRole dst)) ∧
       (ep = 0x58D → ¬ barred → u.submitCheck acct m.word m.pred = 0 → exec (.msg h m) s = .next (
         u.submitDo acct m.word m.pred m.body)) ∧
       (ep = 0x58D → ¬ barred → u.submitCheck acct m.word m.pred ≠ 0 → exec (.msg h m) s = .next (
         u.refuseMsg m (u.submitCheck acct m.word m.pred) dst))) ∧
      (∀ st dst, exec (.msgstat h st dst) s =
        .next (((s.heard h (.msgstat st dst)).msgDone (h.dst.getD 0) dst).msgFail (h.dst.getD 0) dst st)) ∧
      (∀ i w, let u := s.heard h (.stopnow i w)
        (u.ownReturn h = false → exec (.stopnow h i w) s = .next ((u.stopAct i w).stopRun i)) ∧
        (u.ownReturn h = true → exec (.stopnow h i w) s = .next u)) ∧
      (∀ w, let u := s.heard h (.stopreq w)
        (u.isManager = true → exec (.stopreq h w) s = .next u.stopRequest) ∧
        (u.isManager = false → exec (.stopreq h w) s = .next u)) ∧
      (∀ pairs, let u := s.heard h (.config pairs)
        (u.isManager = true → exec (.config h pairs) s = .next u) ∧
        (u.isManager = false → exec (.config h pairs) s =
          .next ((pairs.take 16).foldl State.configTake u).escGeometry)) ∧
      (let u := s.heard h (.assign Config.serial node 3 pathA pathB)
       u.role = 0 → u.pwr.straps.testEn = false → u.fld GLB_ROLE_STRAP = 0 → node < 32 →
        ∃ s', exec (.assign h Config.serial node 3 pathA pathB) s = .next s' ∧ s'.isWorker = true ∧ s'.node = node ∧
          s'.mirror.mgrNode = h.src ∧ s'.fld (RNG_PATHDLY_PS 0) = pathA % 2 ^ 32 ∧
          s'.fld (RNG_PATHDLY_PS 1) = pathB % 2 ^ 32)) ∧
    (s.hears h = true →
      (∀ t, exec (.dlyprobe h t) s = .next (u.ringSend1 (1 - h.dir) none (.dlyecho t))) ∧
      (∀ t trip, 256 ≤ (tabGet (0, 0) u.dly (1 - h.dir)).1 → exec (.dlyecho h t trip) s = .next u) ∧
      (∀ t trip, (tabGet (0, 0) u.dly (1 - h.dir)).1 < 256 → ∃ s', exec (.dlyecho h t trip) s = .next s' ∧
        tabGet (0, 0) s'.dly (1 - h.dir) =
          ((tabGet (0, 0) u.dly (1 - h.dir)).1 + 1, (tabGet (0, 0) u.dly (1 - h.dir)).2 + trip))) ∧
    (∀ ep dst, (s.posted.contains (ep, dst) = true → exec (.msgTimeout ep dst) s = .next ((s.msgDone ep dst).msgFail ep dst 13)) ∧
      (s.posted.contains (ep, dst) = false → exec (.msgTimeout ep dst) s = .next s)) ∧
    (s.isManager = false → exec .now s = .next s) ∧
    (s.isManager = true → exec .now s = .next s.stopNow) ∧
    (s.flag RNG_STOPCFG_EN = true → s.fld RNG_STOPCFG_AUXIN = n → exec (.auxStopEdge n) s = .next s.stopNow) ∧
    (s.flag RNG_STOPCFG_EN = false ∨ s.fld RNG_STOPCFG_AUXIN ≠ n → exec (.auxStopEdge n) s = .next s) ∧
    (s.role ≠ 0 ∨ s.fwRuns = false → exec .roleConfirm s = .next s) ∧
    (s.role = 0 → s.pwr.straps.testEn = false → s.flag GLB_ROLE_CONFLICT = false → s.fwRuns = true →
      s.fld GLB_ROLE_STRAP = 2 → s.hellos = [] → ∃ s', exec .roleConfirm s = .next s' ∧ s'.isManager = true ∧
        s'.node = 0 ∧ s'.mirror.mgrNode = 0 ∧ s'.pos.out = 0) ∧
    (s.role = 0 → s.pwr.straps.testEn = false → s.flag GLB_ROLE_CONFLICT = false → s.fwRuns = true →
      s.fld GLB_ROLE_STRAP = 2 → (∀ q, q ∈ s.hellos → q.role ≠ 1) → (∃ q, q ∈ s.hellos ∧ q.strap = 2 ∧ q.serial ≠ Config.serial) →
      exec .roleConfirm s = .next (s.setFld GLB_ROLE_CONFLICT 1)) ∧
    (s.inTurn h = true → formOk h = true → (s.isManager = true → h.term ≤ s.fld GLB_TERM_TERM) →
      ∀ serial strap role map a b,
        (serial = Config.serial → exec (.hello h serial strap role map a b) s = .next u) ∧
        (serial ≠ Config.serial → ∃ s', exec (.hello h serial strap role map a b) s = .next s' ∧
          ∃ q, q ∈ s'.hellos ∧ q.serial = serial ∧ q.strap = strap ∧ q.role = role ∧ q.portmap = map)) ∧
    (p < 2 →
      (∃ s', exec (.ethernetLinkDown p) s = .next s' ∧ s'.flag (NET_STAT_LINK p) = false ∧
        (s.store.ingests ≠ [] → s'.srcSet 19 p = true)) ∧
      (∃ s', exec (.uncorrectableCodeword p) s = .next s' ∧
        (tabGet (0, 0) s'.fec p = (s.time.sec,
          if (tabGet (0, 0) s.fec p).1 = s.time.sec then (tabGet (0, 0) s.fec p).2 + 1 else 1)) ∧
        ((tabGet (0, 0) s.fec p).1 = s.time.sec → (tabGet (0, 0) s.fec p).2 = s.fld NET_FECLIM_N →
          s'.srcSet 19 (2 + p) = true)) ∧
      (s.flag (NET_CTL_EN p) = false → ∀ full, exec (.ethernetFrame p bytes full) s = .next s) ∧
      (s.flag (NET_CTL_EN p) = true → ∀ full, full = true ∨ 9212 < bytes.length → ∃ s',
        exec (.ethernetFrame p bytes full) s = .next s' ∧
        s'.fld (NET_RXDROP_COUNT p) = satInc 32 (s.fld (NET_RXDROP_COUNT p)) ∧
        s'.fld (NET_RXFRAMES_COUNT p) = satInc 32 (s.fld (NET_RXFRAMES_COUNT p))) ∧
      (let got := ((s.inc (NET_RXFRAMES_COUNT p)).setFld (NET_STAT_LINK p) 1).setFld (NET_STAT_FECLOCK p) 1
       let kind := netAt bytes 12 2
       let src := netAt bytes 6 6
       let body := bytes.drop 14
       let ours : Prop := s.flag (NET_CTL_EN p) = true ∧ 14 ≤ bytes.length ∧ bytes.length ≤ 9212 ∧ netAt bytes 0 6 = s.netMac p
       let dropped : Host.Outcome State Fault Refusal := .next (got.inc (NET_RXDROP_COUNT p))
       let ip4 := s.fld (NET_IPV4_IPV4 p)
       let hdr := body.take 20
       let total := netAt body 2 2
       let data := (body.take total).drop 20
       let plain : Prop := netAt body 0 1 = 0x45 ∧ 20 ≤ total ∧ total ≤ body.length ∧ onesSum 0 hdr = 0xFFFF ∧
         netAt body 6 2 % 0x4000 = 0
       let asks : Prop := 28 ≤ body.length ∧ netAt body 0 2 = 1 ∧ netAt body 2 2 = 0x800 ∧ netAt body 4 2 = 0x0604 ∧
         netAt body 6 2 = 1 ∧ netAt body 24 4 = ip4
       (ours → kind ≠ 0x8100 → kind ≠ 0x0806 → kind ≠ 0x0800 → kind ≠ 0x88F7 →
         exec (.ethernetFrame p bytes false) s = dropped) ∧
       (ours → kind = 0x0806 → s.fwRuns = true → asks → exec (.ethernetFrame p bytes false) s =
         .next (got.emit (.port "ethernet" p ((beBytes 6 src ++ beBytes 6 (s.netMac p) ++ beBytes 2 0x806 ++
           beBytes 6 0x000108000604 ++ beBytes 2 2 ++ beBytes 6 (s.netMac p) ++ beBytes 4 ip4 ++
           (body.drop 8).take 10).map (·.toNat))))) ∧
       (ours → kind = 0x0806 → ¬ asks ∨ s.fwRuns = false → exec (.ethernetFrame p bytes false) s = dropped) ∧
       (ours → kind = 0x0800 → ¬ (5 ≤ netAt body 0 1 % 16 ∧ netAt body 0 1 / 16 = 4) → exec (.ethernetFrame p bytes false) s =
         dropped) ∧
       (ours → kind = 0x0800 → plain → netAt body 9 1 = 17 → netAt data 4 2 = data.length → 8 ≤ data.length →
         udpOk hdr data = true →
         (netAt body 16 4 = ip4 → netAt data 2 2 = s.fld (NET_UDPPORT_UDPPORT p) → exec (.ethernetFrame p bytes false) s =
           .next (got.ingestPayload p (data.drop 8))) ∧
         (s.flag PTP_CFG_EN = false → netAt body 16 4 ≠ ip4 ∨ netAt data 2 2 ≠ s.fld (NET_UDPPORT_UDPPORT p) →
           exec (.ethernetFrame p bytes false) s = dropped)) ∧
       (ours → kind = 0x0800 → plain → netAt body 9 1 = 17 → netAt data 4 2 = data.length → 8 ≤ data.length →
         udpOk hdr data = false → exec (.ethernetFrame p bytes false) s = dropped) ∧
       (ours → kind = 0x0800 → plain → netAt body 9 1 = 1 → netAt body 16 4 = ip4 →
         (∀ reply, got.echoAnswer p src hdr data = some reply → exec (.ethernetFrame p bytes false) s =
           .next (got.emit (.port "ethernet" p (reply.map (·.toNat))))) ∧
         (got.echoAnswer p src hdr data = none → exec (.ethernetFrame p bytes false) s = dropped)) ∧
       (∀ data, let f (k n : Nat) : Nat := ofLe ((data.drop k).take n)
         (data.length < 20 ∨ f 0 2 ≠ 0x494B ∨ f 2 1 ≠ 1 ∨ got.ingestBy (f 4 2) = none → s.flag (NET_CTL_EN p) = true →
           got.ingestPayload p data = got.inc NET_STRMERR_COUNT) ∧
         (∀ ext g, s.flag (NET_CTL_EN p) = true → 20 ≤ data.length → f 0 2 = 0x494B → f 2 1 = 1 →
           got.ingestBy (f 4 2) = some (ext, g) →
           let next : Prop := f 8 4 = g.dseq ∧ f 12 3 = g.line ∧ f 16 4 = g.cur.length ∧ 20 < data.length ∧
             data.length ≤ 8212 ∧ g.line < g.length ∧ g.cur.length + (data.length - 20) ≤ g.lineBytes
           (next → got.ingestPayload p data = got.ingestData ext g (data.drop 20)) ∧
           (¬ next → got.ingestPayload p data = got.streamGap ext g) ∧
           tabGet none (got.streamGap ext g).store.ingests ext = none ∧
           (ours → kind = 0x0800 → netAt body 0 1 = 0x45 → netAt body 9 1 = 17 → netAt body 16 4 = ip4 →
             netAt body 22 2 = s.fld (NET_UDPPORT_UDPPORT p) → body.drop 28 = data →
             exec (.ethernetFrame p bytes true) s = .next ((got.inc (NET_RXDROP_COUNT p)).streamGap ext g)))) ∧
       (∀ hdr msg, s.fwRuns = true → netAt msg 0 2 = 0x0800 → onesSum 0 msg = 0xFFFF →
         ∃ reply, s.echoAnswer p src hdr msg = some reply ∧ reply.take 6 = beBytes 6 src)))

/-! Resets, supplies, the drive link, Dormant and the test access port (R15, R22, R28, R280, R381 to R394). -/

/-- Resets and power. Keyed resets, KEYERR without the key; a chip reset leaves every register not held by fuses or straps
at reset and records its cause; DRIVERST and a loss of the heartbeat release the outputs; OUTEN and the port map are refused
as R22 and R28 say; a thermal action waits for the end of the run or ABS; Dormant and waking; EXTEST holds the outputs off
(R15, R18, R22, R28, R280, R381 to R383, R389 to R392, R394). The model's own choices in it: log entries 53, 54, 55, 66. -/
def Obligations.PowerAndResets : Prop :=
  ∀ (s : State) (x : Straps), s.isOff = false →
    let keyerr := Host.Outcome.next (s.setFld GLB_STATUS_KEYERR 1)
    (∀ key, key ≠ 0xD00D →
      exec (.chiprst key x) s = keyerr ∧ exec (.logicrst key) s = keyerr ∧ exec (.driverst key) s = keyerr) ∧
    exec (.chiprst 0xD00D x) s = .next (s.chipReset 2 x) ∧ exec (.resetN x) s = .next (s.chipReset 1 x) ∧
    (∀ cause, cause < 8 → let r := s.chipReset cause x
      r.fld GLB_RSTCAUSE_CAUSE = cause ∧ r.role = 0 ∧ r.isOff = false ∧ r.tellers = [] ∧ r.cmps = [] ∧ r.orders = [] ∧
      r.locks = [] ∧ r.pm = [] ∧ r.dm = [] ∧ r.fld VLT_ROLLBACK_COUNT = s.fld VLT_ROLLBACK_COUNT % 2 ^ 32 ∧
      r.keys = s.keys ∧ r.fld TIM_REVDB_DB = TIM_REVDB_DB.reset ∧ (∀ t, t < 16 → r.fld (TLR_WDOG_US t) = 0)) ∧
    (∃ r, exec (.logicrst 0xD00D) s = .next r ∧ r.fld GLB_RSTCAUSE_CAUSE = 3 ∧ r.tellers = [] ∧ r.orders = [] ∧
      r.flag GLB_ROLE_CONFLICT = (s.fld GLB_ROLE_CONFLICT % 2 = 1) ∧
      (∀ t, t < 16 → r.fld (TLR_WDOG_US t) = s.fld (TLR_WDOG_US t) % 2 ^ 32) ∧
      r.role = s.role % 8 ∧ r.node = s.node % 32 ∧ r.fld GLB_TERM_TERM = s.fld GLB_TERM_TERM % 2 ^ 32 ∧
      ∀ a, a < 2 → r.brake a = { s.brake a with armReq := false, shadow := false }) ∧
    exec (.driverst 0xD00D) s = .next s.driveReset ∧
    (let r := s.driveReset
     r.pwr.drvReset = true ∧ r.pwr.linkUp = false ∧ r.pwr.hbLost = false ∧ r.plant.stale = [] ∧ r.plant.ilk = []) ∧
    (∀ a b, ∃ r, exec (.powerOnReset x a b) s = .next r ∧ r.fld GLB_RSTCAUSE_CAUSE = 0 ∧
      (r.pwr.coresHeld = true ↔ a = false ∧ b = false) ∧ r.flag PLL_REFSTAT_DEADA = (! a) ∧ r.flag PLL_REFSTAT_DEADB = (! b) ∧
      (a = false → r.fld (PLL_REFPPM_PPM 0) = 0x80000000) ∧ (b = false → r.fld (PLL_REFPPM_PPM 1) = 0x80000000)) ∧
    (∃ r, exec .supplyDrop s = .next r ∧ r.isOff = true) ∧
    (∃ r, exec (.driveDieSupplyChange true) s = .next r ∧ r.pwr.drvClamped = true ∧ r.pwr.linkUp = false) ∧
    exec (.driveDieSupplyChange false) s = .next { s with pwr := { s.pwr with drvClamped := false } } ∧
    (∀ vsw, s.pwr.drvClamped = true → exec (.driveLinkFrame vsw) s = .next s) ∧
    (∀ vsw, s.pwr.drvClamped = false → ∃ r, exec (.driveLinkFrame vsw) s = .next r ∧ r.pwr.linkUp = true ∧ r.pwr.drvReset = false ∧
      (∀ c, c < 52 → c < vsw.length → r.fld (GDR_VSW_VSW c) = min (vsw.getD c 0) 65535) ∧
      r.plant.stale = [] ∧ (s.pwr.hbLost = true → r.flag GLB_STATUS_DDHB = true) ∧
      ∀ a, a < 2 → (s.brake a).armReq = true → r.flag (GDR_BRKCTL_ARM a) = true) ∧
    (s.pwr.linkUp = false → exec .heartbeatLoss s = .next s) ∧
    (s.pwr.linkUp = true → ∃ r, exec .heartbeatLoss s = .next r ∧ r.flag GLB_DRVEN_OUTEN = false ∧ r.pwr.linkUp = false ∧
      r.pwr.hbLost = true ∧ r.lenPorts = [] ∧ .port "laserEnable" 0 [] ∈ r.out) ∧
    (s.pwr.linkUp = false ∨ s.pwr.drvClamped = true ∨ s.tap = 3 → ∀ c, s.chanLive c = false) ∧
    (s.pwr.linkUp = false ∨ s.role = 0 ∨ s.role = 2 ∨ s.role = 4 →
      exec (.outenWrite true) s = .next (s.setFld GLB_STATUS_ENERR 1)) ∧
    (s.pwr.linkUp = true → s.role = 1 ∨ s.role = 3 → exec (.outenWrite true) s = .next ((s.setFld GLB_DRVEN_OUTEN 1).interlock 52)) ∧
    (∃ r, exec (.outenWrite false) s = .next r ∧ r.flag GLB_DRVEN_OUTEN = false) ∧
    (∀ v, mapClash v = true ∨ s.isManager = true ∨ s.isStandby = true ∨ (∃ n, n < 4 ∧ s.portImaging n = true) →
      exec (.portmapWrite v) s = .next (s.setFld GLB_STATUS_MAPERR 1)) ∧
    (∀ v, mapClash v = false → s.isManager = false → s.isStandby = false → (∀ n, n < 4 → s.portImaging n = false) →
      exec (.portmapWrite v) s = .next (s.setFld GLB_PORTMAP_MAP v)) ∧
    (∀ v, mapClash v = true ↔ ∃ i j, i < j ∧ j < 4 ∧ 128 ≤ v / 256 ^ i % 256 ∧ v / 256 ^ i % 256 = v / 256 ^ j % 256) ∧
    (∀ m, s.flag (THM_MSTAT_SHUTPEND m) = false → exec (.thermalHardAction m) s = .next s) ∧
    (∀ m, m < 48 → s.flag (THM_MSTAT_SHUTPEND m) = true → s.runOver = true →
      exec (.thermalHardAction m) s = .next ((s.setShut m false).hardAction m)) ∧
    (∀ m, m < 2 → (s.hardAction m).isOff = true) ∧ (∀ i, i < 16 → (s.hardAction (6 + i)).axState i = axCoasting) ∧
    (∀ temps, exec (.thermalShutdownRelease temps) s = .next s) ∧
    (∃ r, exec .dormantEntry s = .next r ∧ r.pwr.dormantLow = true) ∧
    (s.dormantReady = false → exec .dormantSleep s = .next s) ∧
    (s.isManager = false → s.pwr.bcnStopped = false → s.role ≠ 0 → s.role ≠ 4 → exec .dormantSleep s = .next s) ∧
    (s.dormantReady = true → s.isManager = true ∨ s.pwr.bcnStopped = true ∨ s.role = 0 ∨ s.role = 4 → ∃ r, exec .dormantSleep s = .next r ∧
      r.isOff = true ∧ r.flag FLT_CTL_RUN = false ∧ r.flag GLB_DRVEN_OUTEN = false) ∧
    (∀ rtc, exec (.wake rtc) s =
      .next { s with pwr := { s.pwr with dormantLow := false, bcnStopped := false, asleep := false } }) ∧
    (∀ rtc, ∃ r, exec (.wake rtc) { s with pwr := { s.pwr with asleep := true } } = .next r ∧ r.isOff = false ∧
      r.time.rtcSec = rtc ∧ r.fld CLD_STATUS_SRC = 3 ∧ r.flag STO_STATUS_READY = false) ∧
    exec (.jtagInstruction 1) s = .next { s with tap := 1, out := s.out ++ [.port "tdo" 0 [0x10470A6B]] } ∧
    exec (.jtagInstruction 3) s = .next
      { s with tap := 3, out := s.out ++ [.port "outputs" 0 [0]] ++ [.port "laserEnable" 0 []] } ∧
    (∀ k, k < 6 → k ≠ 1 → k ≠ 3 → exec (.jtagInstruction k) s = .next (
      if s.tap = 3 then { s with tap := k }.lenOut else { s with tap := k })) ∧
    (∀ k, 6 ≤ k → exec (.jtagInstruction k) s = .next s)

/-- Every command ends in a next state, whatever the state: no command of this block stops it. Every command and every step
keeps program memory, data memory, DRAM and the ledger's table in canonical form. On a node that is off only
supplies, resets, the drive die, waking and the test access port act (R28, R280, R382, R390).
The model's own choices in it: log entry 3. -/
def Obligations.EveryCommandCompletes : Prop :=
  (∀ (c : Instr) (s : State), ∃ t, exec c s = .next t) ∧
  (∀ (c : Instr) (s t : State), s.memWf = true → exec c s = .next t → t.memWf = true) ∧ (∀ s : State, SafeStep s) ∧
  (∀ (c : Instr) (s : State), s.isOff = true → actsOff c = false → exec c s = .next s) ∧
  (∀ temps (s : State), s.pwr.thermalShut = true → s.pwr.held = false → s.pwr.asleep = false → temps.length = 2 →
    (∀ m, m < 2 → temps.getD m 0 < s.thmLevel thmShut m - (s.fld (THM_MTHR_HYST m) : Int)) →
    ∃ t, exec (.thermalShutdownRelease temps) s = .next t ∧ t.isOff = false)
end

