-- ==== Sys2Proof/Laws/Dispatch.lean ====
section
/-! SUPPORT. What the dispatch and the step do, said once: each command's arm is a call of its meaning. Proofs cite these
and never unfold the dispatch. -/

set_option Elab.async false

namespace Sys2Proof.Machine

variable (s : State)

/-- The command at the front of the queue runs on the rest. -/
theorem step_cons {c : Instr} {cs : List Instr} (h : s.pending = c :: cs) :
    step s = exec c { s with pending := cs } := by unfold step; rw [h]

/-- With no command waiting one teller cycle passes. -/
theorem step_nil (h : s.pending = []) : step s = .next s.clock := by unfold step; rw [h]

/-! The arms. -/

theorem exec_powerOnReset (x : Straps) (edgesA edgesB : Bool) : exec (.powerOnReset x edgesA edgesB) s = execPowerOnReset x edgesA edgesB s := rfl
theorem exec_supplyDrop : exec (.supplyDrop) s = execSupplyDrop s := rfl
theorem exec_resetN (x : Straps) : exec (.resetN x) s = execResetN x s := rfl
theorem exec_bootVerify (sfdp flash : List Byte) : exec (.bootVerify sfdp flash) s = execBootVerify sfdp flash s := rfl
theorem exec_chiprst (key : Nat) (x : Straps) : exec (.chiprst key x) s = execChiprst key x s := rfl
theorem exec_logicrst (key : Nat) : exec (.logicrst key) s = execLogicrst key s := rfl
theorem exec_driverst (key : Nat) : exec (.driverst key) s = execDriverst key s := rfl
theorem exec_registerWrite (bar a v be : Nat) : exec (.registerWrite bar a v be) s = execRegisterWrite bar a v be s := rfl
theorem exec_portmapWrite (v : Nat) : exec (.portmapWrite v) s = execPortmapWrite v s := rfl
theorem exec_outenWrite (on : Bool) : exec (.outenWrite on) s = execOutenWrite on s := rfl
theorem exec_driveLinkFrame (vsw : List Nat) : exec (.driveLinkFrame vsw) s = execDriveLinkFrame vsw s := rfl
theorem exec_heartbeatLoss : exec (.heartbeatLoss) s = execHeartbeatLoss s := rfl
theorem exec_roleConfirm : exec (.roleConfirm) s = execRoleConfirm s := rfl
theorem exec_encoderEdge (n : Nat) (e : EncEvent) (vel : Int) : exec (.encoderEdge n e vel) s = execEncoderEdge n e vel s := rfl
theorem exec_beaconSend : exec (.beaconSend) s = execBeaconSend s := rfl
theorem exec_beacon (h : Hdr) (b : Beacon) : exec (.beacon h b) s = execBeacon h b s := rfl
theorem exec_deadReckoning : exec (.deadReckoning) s = execDeadReckoning s := rfl
theorem exec_positionLost : exec (.positionLost) s = execPositionLost s := rfl
theorem exec_lineMasterEdge (interval : Nat) : exec (.lineMasterEdge interval) s = execLineMasterEdge interval s := rfl
theorem exec_lineMasterTimeout : exec (.lineMasterTimeout) s = execLineMasterTimeout s := rfl
theorem exec_timWposloRead : exec (.timWposloRead) s = execTimWposloRead s := rfl
theorem exec_timHwmloRead : exec (.timHwmloRead) s = execTimHwmloRead s := rfl
theorem exec_cldDateRead : exec (.cldDateRead) s = execCldDateRead s := rfl
theorem exec_cldWtloRead : exec (.cldWtloRead) s = execCldWtloRead s := rfl
theorem exec_cldCommit : exec (.cldCommit) s = execCldCommit s := rfl
theorem exec_secondRollover : exec (.secondRollover) s = execSecondRollover s := rfl
theorem exec_cldTimerArm (n : Nat) : exec (.cldTimerArm n) s = execCldTimerArm n s := rfl
theorem exec_cldTimerDisarm (n : Nat) : exec (.cldTimerDisarm n) s = execCldTimerDisarm n s := rfl
theorem exec_wallTimerFire (n : Nat) : exec (.wallTimerFire n) s = execWallTimerFire n s := rfl
theorem exec_ptpSync (offset : Int) (mpd : Nat) : exec (.ptpSync offset mpd) s = execPtpSync offset mpd s := rfl
theorem exec_ptpSyncLoss : exec (.ptpSyncLoss) s = execPtpSyncLoss s := rfl
theorem exec_add (t rd rs rt : Nat) : exec (.add t rd rs rt) s = execAdd t rd rs rt s := rfl
theorem exec_sub (t rd rs rt : Nat) : exec (.sub t rd rs rt) s = execSub t rd rs rt s := rfl
theorem exec_and (t rd rs rt : Nat) : exec (.and t rd rs rt) s = execAnd t rd rs rt s := rfl
theorem exec_or (t rd rs rt : Nat) : exec (.or t rd rs rt) s = execOr t rd rs rt s := rfl
theorem exec_xor (t rd rs rt : Nat) : exec (.xor t rd rs rt) s = execXor t rd rs rt s := rfl
theorem exec_sll (t rd rs rt : Nat) : exec (.sll t rd rs rt) s = execSll t rd rs rt s := rfl
theorem exec_srl (t rd rs rt : Nat) : exec (.srl t rd rs rt) s = execSrl t rd rs rt s := rfl
theorem exec_sra (t rd rs rt : Nat) : exec (.sra t rd rs rt) s = execSra t rd rs rt s := rfl
theorem exec_mul (t rd rs rt : Nat) : exec (.mul t rd rs rt) s = execMul t rd rs rt s := rfl
theorem exec_mulh (t rd rs rt : Nat) : exec (.mulh t rd rs rt) s = execMulh t rd rs rt s := rfl
theorem exec_mulhu (t rd rs rt : Nat) : exec (.mulhu t rd rs rt) s = execMulhu t rd rs rt s := rfl
theorem exec_divu (t rd rs rt : Nat) : exec (.divu t rd rs rt) s = execDivu t rd rs rt s := rfl
theorem exec_remu (t rd rs rt : Nat) : exec (.remu t rd rs rt) s = execRemu t rd rs rt s := rfl
theorem exec_div (t rd rs rt : Nat) : exec (.div t rd rs rt) s = execDiv t rd rs rt s := rfl
theorem exec_rem (t rd rs rt : Nat) : exec (.rem t rd rs rt) s = execRem t rd rs rt s := rfl
theorem exec_min (t rd rs rt : Nat) : exec (.min t rd rs rt) s = execMin t rd rs rt s := rfl
theorem exec_max (t rd rs rt : Nat) : exec (.max t rd rs rt) s = execMax t rd rs rt s := rfl
theorem exec_minu (t rd rs rt : Nat) : exec (.minu t rd rs rt) s = execMinu t rd rs rt s := rfl
theorem exec_maxu (t rd rs rt : Nat) : exec (.maxu t rd rs rt) s = execMaxu t rd rs rt s := rfl
theorem exec_adds (t rd rs rt : Nat) : exec (.adds t rd rs rt) s = execAdds t rd rs rt s := rfl
theorem exec_subs (t rd rs rt : Nat) : exec (.subs t rd rs rt) s = execSubs t rd rs rt s := rfl
theorem exec_sel (t n rd rs rt : Nat) : exec (.sel t n rd rs rt) s = execSel t n rd rs rt s := rfl
theorem exec_clz (t rd rs : Nat) : exec (.clz t rd rs) s = execClz t rd rs s := rfl
theorem exec_popc (t rd rs : Nat) : exec (.popc t rd rs) s = execPopc t rd rs s := rfl
theorem exec_xadd (t rd rs rt : Nat) : exec (.xadd t rd rs rt) s = execXadd t rd rs rt s := rfl
theorem exec_xswap (t rd rs rt : Nat) : exec (.xswap t rd rs rt) s = execXswap t rd rs rt s := rfl
theorem exec_cmpeq (t rd rs rt : Nat) : exec (.cmpeq t rd rs rt) s = execCmpeq t rd rs rt s := rfl
theorem exec_cmpne (t rd rs rt : Nat) : exec (.cmpne t rd rs rt) s = execCmpne t rd rs rt s := rfl
theorem exec_cmplt (t rd rs rt : Nat) : exec (.cmplt t rd rs rt) s = execCmplt t rd rs rt s := rfl
theorem exec_cmpge (t rd rs rt : Nat) : exec (.cmpge t rd rs rt) s = execCmpge t rd rs rt s := rfl
theorem exec_cmpltu (t rd rs rt : Nat) : exec (.cmpltu t rd rs rt) s = execCmpltu t rd rs rt s := rfl
theorem exec_cmpgeu (t rd rs rt : Nat) : exec (.cmpgeu t rd rs rt) s = execCmpgeu t rd rs rt s := rfl
theorem exec_qand (t rd rs rt : Nat) : exec (.qand t rd rs rt) s = execQand t rd rs rt s := rfl
theorem exec_qor (t rd rs rt : Nat) : exec (.qor t rd rs rt) s = execQor t rd rs rt s := rfl
theorem exec_qxor (t rd rs rt : Nat) : exec (.qxor t rd rs rt) s = execQxor t rd rs rt s := rfl
theorem exec_qnot (t rd rs : Nat) : exec (.qnot t rd rs) s = execQnot t rd rs s := rfl
theorem exec_pcmpeq (t rd rs rt : Nat) : exec (.pcmpeq t rd rs rt) s = execPcmpeq t rd rs rt s := rfl
theorem exec_pcmplt (t rd rs rt : Nat) : exec (.pcmplt t rd rs rt) s = execPcmplt t rd rs rt s := rfl
theorem exec_pcmpge (t rd rs rt : Nat) : exec (.pcmpge t rd rs rt) s = execPcmpge t rd rs rt s := rfl
theorem exec_padd (t rd rs rt : Nat) : exec (.padd t rd rs rt) s = execPadd t rd rs rt s := rfl
theorem exec_psub (t rd rs rt : Nat) : exec (.psub t rd rs rt) s = execPsub t rd rs rt s := rfl
theorem exec_pmov (t rd rs : Nat) : exec (.pmov t rd rs) s = execPmov t rd rs s := rfl
theorem exec_pmax (t rd rs rt : Nat) : exec (.pmax t rd rs rt) s = execPmax t rd rs rt s := rfl
theorem exec_mvgp (t rd rs rt : Nat) : exec (.mvgp t rd rs rt) s = execMvgp t rd rs rt s := rfl
theorem exec_mvpgl (t rd rs : Nat) : exec (.mvpgl t rd rs) s = execMvpgl t rd rs s := rfl
theorem exec_mvpgh (t rd rs : Nat) : exec (.mvpgh t rd rs) s = execMvpgh t rd rs s := rfl
theorem exec_paddi (t pd ps : Nat) (imm : BitVec 16) : exec (.paddi t pd ps imm) s = execPaddi t pd ps imm s := rfl
theorem exec_paddfi (t pd ps : Nat) (imm : BitVec 16) : exec (.paddfi t pd ps imm) s = execPaddfi t pd ps imm s := rfl
theorem exec_rdpos (t pd : Nat) : exec (.rdpos t pd) s = execRdpos t pd s := rfl
theorem exec_pstn (t pd ps station : Nat) : exec (.pstn t pd ps station) s = execPstn t pd ps station s := rfl
theorem exec_pwrt (t pd ps station : Nat) : exec (.pwrt t pd ps station) s = execPwrt t pd ps station s := rfl
theorem exec_waitpos (t ps : Nat) : exec (.waitpos t ps) s = execWaitpos t ps s := rfl
theorem exec_waitposResume (t : Nat) : exec (.waitposResume t) s = execWaitposResume t s := rfl
theorem exec_arm (t ps n : Nat) : exec (.arm t ps n) s = execArm t ps n s := rfl
theorem exec_disarm (t n : Nat) : exec (.disarm t n) s = execDisarm t n s := rfl
theorem exec_rdhwm (t pd : Nat) : exec (.rdhwm t pd) s = execRdhwm t pd s := rfl
theorem exec_addi (t rd rs : Nat) (imm : BitVec 16) : exec (.addi t rd rs imm) s = execAddi t rd rs imm s := rfl
theorem exec_andi (t rd rs : Nat) (imm : BitVec 16) : exec (.andi t rd rs imm) s = execAndi t rd rs imm s := rfl
theorem exec_ori (t rd rs : Nat) (imm : BitVec 16) : exec (.ori t rd rs imm) s = execOri t rd rs imm s := rfl
theorem exec_xori (t rd rs : Nat) (imm : BitVec 16) : exec (.xori t rd rs imm) s = execXori t rd rs imm s := rfl
theorem exec_ldhi (t rd : Nat) (imm : BitVec 16) : exec (.ldhi t rd imm) s = execLdhi t rd imm s := rfl
theorem exec_slli (t rd rs sh : Nat) : exec (.slli t rd rs sh) s = execSlli t rd rs sh s := rfl
theorem exec_srli (t rd rs sh : Nat) : exec (.srli t rd rs sh) s = execSrli t rd rs sh s := rfl
theorem exec_srai (t rd rs sh : Nat) : exec (.srai t rd rs sh) s = execSrai t rd rs sh s := rfl
theorem exec_lw (t rd rs : Nat) (imm : BitVec 16) : exec (.lw t rd rs imm) s = execLw t rd rs imm s := rfl
theorem exec_lh (t rd rs : Nat) (imm : BitVec 16) : exec (.lh t rd rs imm) s = execLh t rd rs imm s := rfl
theorem exec_lhu (t rd rs : Nat) (imm : BitVec 16) : exec (.lhu t rd rs imm) s = execLhu t rd rs imm s := rfl
theorem exec_lb (t rd rs : Nat) (imm : BitVec 16) : exec (.lb t rd rs imm) s = execLb t rd rs imm s := rfl
theorem exec_lbu (t rd rs : Nat) (imm : BitVec 16) : exec (.lbu t rd rs imm) s = execLbu t rd rs imm s := rfl
theorem exec_sw (t rt rs : Nat) (imm : BitVec 16) : exec (.sw t rt rs imm) s = execSw t rt rs imm s := rfl
theorem exec_sh (t rt rs : Nat) (imm : BitVec 16) : exec (.sh t rt rs imm) s = execSh t rt rs imm s := rfl
theorem exec_sb (t rt rs : Nat) (imm : BitVec 16) : exec (.sb t rt rs imm) s = execSb t rt rs imm s := rfl
theorem exec_rdr (t rd rs : Nat) (imm : BitVec 16) : exec (.rdr t rd rs imm) s = execRdr t rd rs imm s := rfl
theorem exec_wrr (t rt rs : Nat) (imm : BitVec 16) : exec (.wrr t rt rs imm) s = execWrr t rt rs imm s := rfl
theorem exec_wrrTakesEffect (t : Nat) : exec (.wrrTakesEffect t) s = execWrrTakesEffect t s := rfl
theorem exec_fabricTimeout (t : Nat) (rdr : Option Nat) : exec (.fabricTimeout t rdr) s = execFabricTimeout t rdr s := rfl
theorem exec_pld (t pd rs : Nat) (imm : BitVec 16) : exec (.pld t pd rs imm) s = execPld t pd rs imm s := rfl
theorem exec_pst (t rt rs : Nat) (imm : BitVec 16) : exec (.pst t rt rs imm) s = execPst t rt rs imm s := rfl
theorem exec_cmpeqi (t rd rs : Nat) (imm : BitVec 16) : exec (.cmpeqi t rd rs imm) s = execCmpeqi t rd rs imm s := rfl
theorem exec_cmplti (t rd rs : Nat) (imm : BitVec 16) : exec (.cmplti t rd rs imm) s = execCmplti t rd rs imm s := rfl
theorem exec_cmpltui (t rd rs : Nat) (imm : BitVec 16) : exec (.cmpltui t rd rs imm) s = execCmpltui t rd rs imm s := rfl
theorem exec_jmpr (t rd rs : Nat) (imm : BitVec 16) : exec (.jmpr t rd rs imm) s = execJmpr t rd rs imm s := rfl
theorem exec_b (t : Nat) (cond : Cond) (off : BitVec 22) : exec (.b t cond off) s = execB t cond off s := rfl
theorem exec_bl (t : Nat) (cond : Cond) (off : BitVec 22) : exec (.bl t cond off) s = execBl t cond off s := rfl
theorem exec_fence (t : Nat) : exec (.fence t) s = execFence t s := rfl
theorem exec_halt (t : Nat) : exec (.halt t) s = execHalt t s := rfl
theorem exec_trap (t k : Nat) : exec (.trap t k) s = execTrap t k s := rfl
theorem exec_eret (t : Nat) : exec (.eret t) s = execEret t s := rfl
theorem exec_brk (t : Nat) : exec (.brk t) s = execBrk t s := rfl
theorem exec_rdcyc (t rd : Nat) : exec (.rdcyc t rd) s = execRdcyc t rd s := rfl
theorem exec_tellerWatchdog (t : Nat) : exec (.tellerWatchdog t) s = execTellerWatchdog t s := rfl
theorem exec_waitev (t rd rs : Nat) : exec (.waitev t rd rs) s = execWaitev t rd rs s := rfl
theorem exec_waitevResume (t : Nat) : exec (.waitevResume t) s = execWaitevResume t s := rfl
theorem exec_tsig (t rd rs b : Nat) : exec (.tsig t rd rs b) s = execTsig t rd rs b s := rfl
theorem exec_evclr (t rs : Nat) : exec (.evclr t rs) s = execEvclr t rs s := rfl
theorem exec_claim (t rd rs : Nat) : exec (.claim t rd rs) s = execClaim t rd rs s := rfl
theorem exec_recv (t rd rt : Nat) : exec (.recv t rd rt) s = execRecv t rd rt s := rfl
theorem exec_commit (t rd rs : Nat) : exec (.commit t rd rs) s = execCommit t rd rs s := rfl
theorem exec_take (t rd rs rt : Nat) : exec (.take t rd rs rt) s = execTake t rd rs rt s := rfl
theorem exec_settle (t rd rs rt : Nat) : exec (.settle t rd rs rt) s = execSettle t rd rs rt s := rfl
theorem exec_lacq (t rd rs : Nat) : exec (.lacq t rd rs) s = execLacq t rd rs s := rfl
theorem exec_lrel (t rd rs : Nat) : exec (.lrel t rd rs) s = execLrel t rd rs s := rfl
theorem exec_mbpost (t rd rs rt : Nat) : exec (.mbpost t rd rs rt) s = execMbpost t rd rs rt s := rfl
theorem exec_evpost (t rd rs rt : Nat) : exec (.evpost t rd rs rt) s = execEvpost t rd rs rt s := rfl
theorem exec_dmakick (t rd rs : Nat) : exec (.dmakick t rd rs) s = execDmakick t rd rs s := rfl
theorem exec_audit (t rd rs pn : Nat) : exec (.audit t rd rs pn) s = execAudit t rd rs pn s := rfl
theorem exec_tlrGo (mask : Nat) : exec (.tlrGo mask) s = execTlrGo mask s := rfl
theorem exec_tlrStop (mask : Nat) : exec (.tlrStop mask) s = execTlrStop mask s := rfl
theorem exec_tlrRst (key mask : Nat) : exec (.tlrRst key mask) s = execTlrRst key mask s := rfl
theorem exec_comparatorCrossing : exec (.comparatorCrossing) s = execComparatorCrossing s := rfl
theorem exec_actionFabricAck : exec (.actionFabricAck) s = execActionFabricAck s := rfl
theorem exec_actionWriteTimeout : exec (.actionWriteTimeout) s = execActionWriteTimeout s := rfl
theorem exec_heldComparatorFire : exec (.heldComparatorFire) s = execHeldComparatorFire s := rfl
theorem exec_actionEntryWrite (who : Option Nat) (n word v : Nat) : exec (.actionEntryWrite who n word v) s = execActionEntryWrite who n word v s := rfl
theorem exec_p0clr (v : Nat) : exec (.p0clr v) s = execP0clr v s := rfl
theorem exec_orderEccError (h : Nat) : exec (.orderEccError h) s = execOrderEccError h s := rfl
theorem exec_run : exec (.run) s = execRun s := rfl
theorem exec_stop : exec (.stop) s = execStop s := rfl
theorem exec_commitAccept : exec (.commitAccept) s = execCommitAccept s := rfl
theorem exec_escrowClose : exec (.escrowClose) s = execEscrowClose s := rfl
theorem exec_close (h : Hdr) (c : CloseRec) : exec (.close h c) s = execClose h c s := rfl
theorem exec_slotRelease (slot stn : Nat) : exec (.slotRelease slot stn) s = execSlotRelease slot stn s := rfl
theorem exec_noclose (stn : Nat) : exec (.noclose stn) s = execNoclose stn s := rfl
theorem exec_endrun (h : Hdr) (slot ec : Nat) : exec (.endrun h slot ec) s = execEndrun h slot ec s := rfl
theorem exec_slotWindowStart (slot stn : Nat) : exec (.slotWindowStart slot stn) s = execSlotWindowStart slot stn s := rfl
theorem exec_slotComplete (slot : Nat) : exec (.slotComplete slot) s = execSlotComplete slot s := rfl
theorem exec_voidrep (h : Hdr) (v : VoidRec) : exec (.voidrep h v) s = execVoidrep h v s := rfl
theorem exec_void (h : Hdr) (v : VoidRec) : exec (.void h v) s = execVoid h v s := rfl
theorem exec_escVoidreq (slot : Nat) : exec (.escVoidreq slot) s = execEscVoidreq slot s := rfl
theorem exec_descriptorEccError (waiting : Bool) (i : Nat) : exec (.descriptorEccError waiting i) s = execDescriptorEccError waiting i s := rfl
theorem exec_sosEdge (n rise width phase pp : Nat) : exec (.sosEdge n rise width phase pp) s = execSosEdge n rise width phase pp s := rfl
theorem exec_eosEdge (n time pp width : Nat) : exec (.eosEdge n time pp width) s = execEosEdge n time pp width s := rfl
theorem exec_sosPredict (n phase : Nat) : exec (.sosPredict n phase) s = execSosPredict n phase s := rfl
theorem exec_sweepBoundary (n late : Nat) : exec (.sweepBoundary n late) s = execSweepBoundary n late s := rfl
theorem exec_plockEnable (n : Nat) (on : Bool) : exec (.plockEnable n on) s = execPlockEnable n on s := rfl
theorem exec_bandChange (n : Nat) : exec (.bandChange n) s = execBandChange n s := rfl
theorem exec_pllLossOfLock (n : Nat) : exec (.pllLossOfLock n) s = execPllLossOfLock n s := rfl
theorem exec_profileCommit (n : Nat) : exec (.profileCommit n) s = execProfileCommit n s := rfl
theorem exec_referenceWindow (a b : Int) : exec (.referenceWindow a b) s = execReferenceWindow a b s := rfl
theorem exec_referenceDead (r : Nat) : exec (.referenceDead r) s = execReferenceDead r s := rfl
theorem exec_referenceSwitch : exec (.referenceSwitch) s = execReferenceSwitch s := rfl
theorem exec_swreq : exec (.swreq) s = execSwreq s := rfl
theorem exec_norefTimeout : exec (.norefTimeout) s = execNorefTimeout s := rfl
theorem exec_linkTrainingStart (n : Nat) : exec (.linkTrainingStart n) s = execLinkTrainingStart n s := rfl
theorem exec_statusFrame (n frame : Nat) : exec (.statusFrame n frame) s = execStatusFrame n frame s := rfl
theorem exec_retryStart (n : Nat) : exec (.retryStart n) s = execRetryStart n s := rfl
theorem exec_missReportTimeout (n : Nat) : exec (.missReportTimeout n) s = execMissReportTimeout n s := rfl
theorem exec_trainingTimeout (n : Nat) : exec (.trainingTimeout n) s = execTrainingTimeout n s := rfl
theorem exec_overscanReportTimeout (n e : Nat) : exec (.overscanReportTimeout n e) s = execOverscanReportTimeout n e s := rfl
theorem exec_laneReturn (n : Nat) : exec (.laneReturn n) s = execLaneReturn n s := rfl
theorem exec_frameGapApply (n : Nat) : exec (.frameGapApply n) s = execFrameGapApply n s := rfl
theorem exec_deadclrAll (n : Nat) : exec (.deadclrAll n) s = execDeadclrAll n s := rfl
theorem exec_deadclrOne (n e : Nat) : exec (.deadclrOne n e) s = execDeadclrOne n e s := rfl
theorem exec_storeEnable (drives : List DriveId) (label : Option Label) : exec (.storeEnable drives label) s = execStoreEnable drives label s := rfl
theorem exec_stoFormat (key : Nat) : exec (.stoFormat key) s = execStoFormat key s := rfl
theorem exec_reserve (a : Nat) : exec (.reserve a) s = execReserve a s := rfl
theorem exec_release (a : Nat) : exec (.release a) s = execRelease a s := rfl
theorem exec_releaseComplete (ext : Nat) : exec (.releaseComplete ext) s = execReleaseComplete ext s := rfl
theorem exec_ingest (a : Nat) : exec (.ingest a) s = execIngest a s := rfl
theorem exec_cancel (a : Nat) : exec (.cancel a) s = execCancel a s := rfl
theorem exec_ingestDatagram (p : Nat) (bytes : List Byte) : exec (.ingestDatagram p bytes) s = execIngestDatagram p bytes s := rfl
theorem exec_ingestComplete (ext : Nat) : exec (.ingestComplete ext) s = execIngestComplete ext s := rfl
theorem exec_ingestTimeout (ext : Nat) : exec (.ingestTimeout ext) s = execIngestTimeout ext s := rfl
theorem exec_prefetchIssue : exec (.prefetchIssue) s = execPrefetchIssue s := rfl
theorem exec_nvmeCompletion (drive cid status : Nat) (data : List Byte) : exec (.nvmeCompletion drive cid status data) s = execNvmeCompletion drive cid status data s := rfl
theorem exec_nvmeTimeout (cid : Nat) : exec (.nvmeTimeout cid) s = execNvmeTimeout cid s := rfl
theorem exec_readDeadline (slot stn row : Nat) : exec (.readDeadline slot stn row) s = execReadDeadline slot stn row s := rfl
theorem exec_tileDecode (slot stn row col : Nat) : exec (.tileDecode slot stn row col) s = execTileDecode slot stn row col s := rfl
theorem exec_driveViolation (drive : Nat) (kind : DriveViol) : exec (.driveViolation drive kind) s = execDriveViolation drive kind s := rfl
theorem exec_dmaArm (n : Nat) : exec (.dmaArm n) s = execDmaArm n s := rfl
theorem exec_dmaAbort (n : Nat) : exec (.dmaAbort n) s = execDmaAbort n s := rfl
theorem exec_dmaPause (n : Nat) (on : Bool) : exec (.dmaPause n on) s = execDmaPause n on s := rfl
theorem exec_go (n : Nat) : exec (.go n) s = execGo n s := rfl
theorem exec_clrerr (n : Nat) : exec (.clrerr n) s = execClrerr n s := rfl
theorem exec_cont (n : Nat) : exec (.cont n) s = execCont n s := rfl
theorem exec_dmaTimerExpiry (k : Nat) : exec (.dmaTimerExpiry k) s = execDmaTimerExpiry k s := rfl
theorem exec_dmaTrigger (n : Nat) : exec (.dmaTrigger n) s = execDmaTrigger n s := rfl
theorem exec_dmaGrainStart (n : Nat) : exec (.dmaGrainStart n) s = execDmaGrainStart n s := rfl
theorem exec_descriptorFetch (n : Nat) (ok : Bool) (data : List Byte) : exec (.descriptorFetch n ok data) s = execDescriptorFetch n ok data s := rfl
theorem exec_dmaReadComplete (n : Nat) (ok : Bool) (data : List Byte) : exec (.dmaReadComplete n ok data) s = execDmaReadComplete n ok data s := rfl
theorem exec_dmaWriteComplete (n : Nat) : exec (.dmaWriteComplete n) s = execDmaWriteComplete n s := rfl
theorem exec_dmaTimeout (n what : Nat) : exec (.dmaTimeout n what) s = execDmaTimeout n what s := rfl
theorem exec_start (i : Nat) : exec (.start i) s = execStart i s := rfl
theorem exec_sensingEnd (i amp freq : Nat) (fwd : Bool) (ang : Nat) (vsw : List Nat) : exec (.sensingEnd i amp freq fwd ang vsw) s = execSensingEnd i amp freq fwd ang vsw s := rfl
theorem exec_alignEnd (i : Nat) : exec (.alignEnd i) s = execAlignEnd i s := rfl
theorem exec_stopCmd (i : Nat) : exec (.stopCmd i) s = execStopCmd i s := rfl
theorem exec_coast (i : Nat) : exec (.coast i) s = execCoast i s := rfl
theorem exec_move (i : Nat) : exec (.move i) s = execMove i s := rfl
theorem exec_pwmPeriod (i : Nat) (adc : List (Option Int)) : exec (.pwmPeriod i adc) s = execPwmPeriod i adc s := rfl
theorem exec_arcHoldEnd (h : Nat) : exec (.arcHoldEnd h) s = execArcHoldEnd h s := rfl
theorem exec_hvRegTimeout (h : Nat) : exec (.hvRegTimeout h) s = execHvRegTimeout h s := rfl
theorem exec_switchTransition (c : Nat) (hs : Bool) (start ns : Nat) : exec (.switchTransition c hs start ns) s = execSwitchTransition c hs start ns s := rfl
theorem exec_driverFault (f : DrvFault) (mv since : Nat) : exec (.driverFault f mv since) s = execDriverFault f mv since s := rfl
theorem exec_brakeComparator (a mv : Nat) : exec (.brakeComparator a mv) s = execBrakeComparator a mv s := rfl
theorem exec_brakeArmWrite (a : Nat) (v : Bool) : exec (.brakeArmWrite a v) s = execBrakeArmWrite a v s := rfl
theorem exec_coefficientCommit (l : Nat) : exec (.coefficientCommit l) s = execCoefficientCommit l s := rfl
theorem exec_rcClr (r : Nat) : exec (.rcClr r) s = execRcClr r s := rfl
theorem exec_hvEnable (h : Nat) (on : Bool) : exec (.hvEnable h on) s = execHvEnable h on s := rfl
theorem exec_acen (h : Nat) (on : Bool) : exec (.acen h on) s = execAcen h on s := rfl
theorem exec_zeroCrossing (half : Nat) : exec (.zeroCrossing half) s = execZeroCrossing half s := rfl
theorem exec_zeroCrossTimeout : exec (.zeroCrossTimeout) s = execZeroCrossTimeout s := rfl
theorem exec_zoneTempUpdate (z : Nat) (adc : List (Option Int)) : exec (.zoneTempUpdate z adc) s = execZoneTempUpdate z adc s := rfl
theorem exec_thermalModelUpdate (m p : Nat) (die : Option Int) (adc : List (Option Int)) : exec (.thermalModelUpdate m p die adc) s = execThermalModelUpdate m p die adc s := rfl
theorem exec_limitFactorStep (m : Nat) : exec (.limitFactorStep m) s = execLimitFactorStep m s := rfl
theorem exec_thermalHardAction (m : Nat) : exec (.thermalHardAction m) s = execThermalHardAction m s := rfl
theorem exec_req (n : Nat) : exec (.req n) s = execReq n s := rfl
theorem exec_reqd : exec (.reqd) s = execReqd s := rfl
theorem exec_calibrationStart (n : Nat) : exec (.calibrationStart n) s = execCalibrationStart n s := rfl
theorem exec_calibrationEnd (n : Nat) (m : CalMeas) : exec (.calibrationEnd n m) s = execCalibrationEnd n m s := rfl
theorem exec_calibrationAbandon (n : Nat) : exec (.calibrationAbandon n) s = execCalibrationAbandon n s := rfl
theorem exec_markEdge (n : Nat) : exec (.markEdge n) s = execMarkEdge n s := rfl
theorem exec_registrationCorrection (slot : Nat) : exec (.registrationCorrection slot) s = execRegistrationCorrection slot s := rfl
theorem exec_missedMark (slot stn : Nat) : exec (.missedMark slot stn) s = execMissedMark slot stn s := rfl
theorem exec_auditRequest (code : Nat) : exec (.auditRequest code) s = execAuditRequest code s := rfl
theorem exec_auditStart (i : Nat) : exec (.auditStart i) s = execAuditStart i s := rfl
theorem exec_auditSuspend (i : Nat) : exec (.auditSuspend i) s = execAuditSuspend i s := rfl
theorem exec_auditComplete (i : Nat) (r : AudResult) : exec (.auditComplete i r) s = execAuditComplete i r s := rfl
theorem exec_faultSourceEvent (b src : Nat) (given : Option Nat) : exec (.faultSourceEvent b src given) s = execFaultSourceEvent b src given s := rfl
theorem exec_graceExpiry (b : Nat) : exec (.graceExpiry b) s = execGraceExpiry b s := rfl
theorem exec_quietPeriodEnd (b : Nat) : exec (.quietPeriodEnd b) s = execQuietPeriodEnd b s := rfl
theorem exec_fltBlkrst (key b : Nat) : exec (.fltBlkrst key b) s = execFltBlkrst key b s := rfl
theorem exec_pinReadbackError (p n : Bool) : exec (.pinReadbackError p n) s = execPinReadbackError p n s := rfl
theorem exec_lsiOpen (aOpen bOpen : Bool) : exec (.lsiOpen aOpen bOpen) s = execLsiOpen aOpen bOpen s := rfl
theorem exec_lsiSettled : exec (.lsiSettled) s = execLsiSettled s := rfl
theorem exec_lsiDiscrepancy (aOpen : Bool) : exec (.lsiDiscrepancy aOpen) s = execLsiDiscrepancy aOpen s := rfl
theorem exec_rearm : exec (.rearm) s = execRearm s := rfl
theorem exec_fltRun : exec (.fltRun) s = execFltRun s := rfl
theorem exec_mirror (h : Hdr) (r : MirRec) : exec (.mirror h r) s = execMirror h r s := rfl
theorem exec_watermark (h : Hdr) (sent settled event : Nat) : exec (.watermark h sent settled event) s = execWatermark h sent settled event s := rfl
theorem exec_mirack (h : Hdr) (mseq : Nat) : exec (.mirack h mseq) s = execMirack h mseq s := rfl
theorem exec_mirreq (h : Hdr) (first last : Nat) : exec (.mirreq h first last) s = execMirreq h first last s := rfl
theorem exec_beaconMissing : exec (.beaconMissing) s = execBeaconMissing s := rfl
theorem exec_probe (h : Hdr) (seq : Nat) : exec (.probe h seq) s = execProbe h seq s := rfl
theorem exec_probeans (h : Hdr) (seq : Nat) : exec (.probeans h seq) s = execProbeans h seq s := rfl
theorem exec_probeTimeout : exec (.probeTimeout) s = execProbeTimeout s := rfl
theorem exec_enableSwapEnd : exec (.enableSwapEnd) s = execEnableSwapEnd s := rfl
theorem exec_relinquish (h : Hdr) : exec (.relinquish h) s = execRelinquish h s := rfl
theorem exec_relinq : exec (.relinq) s = execRelinq s := rfl
theorem exec_ownBeaconLoss : exec (.ownBeaconLoss) s = execOwnBeaconLoss s := rfl
theorem exec_swap : exec (.swap) s = execSwap s := rfl
theorem exec_swapreq (h : Hdr) (seq : Nat) : exec (.swapreq h seq) s = execSwapreq h seq s := rfl
theorem exec_swapack (h : Hdr) (seq : Nat) (agreed : Bool) : exec (.swapack h seq agreed) s = execSwapack h seq agreed s := rfl
theorem exec_swapBoundary : exec (.swapBoundary) s = execSwapBoundary s := rfl
theorem exec_nodelost (n : Nat) : exec (.nodelost n) s = execNodelost n s := rfl
theorem exec_accRst (key a : Nat) (vault : Bool) : exec (.accRst key a vault) s = execAccRst key a vault s := rfl
theorem exec_body (a : Nat) : exec (.body a) s = execBody a s := rfl
theorem exec_submit (a : Nat) : exec (.submit a) s = execSubmit a s := rfl
theorem exec_send (a : Nat) : exec (.send a) s = execSend a s := rfl
theorem exec_mbCommit (a : Nat) : exec (.mbCommit a) s = execMbCommit a s := rfl
theorem exec_mbLacq (a : Nat) : exec (.mbLacq a) s = execMbLacq a s := rfl
theorem exec_mbLrel (a : Nat) : exec (.mbLrel a) s = execMbLrel a s := rfl
theorem exec_load (a : Nat) (bytes : List Byte) : exec (.load a bytes) s = execLoad a bytes s := rfl
theorem exec_keyprov (a : Nat) : exec (.keyprov a) s = execKeyprov a s := rfl
theorem exec_keyrevoke (a : Nat) : exec (.keyrevoke a) s = execKeyrevoke a s := rfl
theorem exec_mailboxTimeout (a : Nat) : exec (.mailboxTimeout a) s = execMailboxTimeout a s := rfl
theorem exec_evqHeadWrite (a h : Nat) : exec (.evqHeadWrite a h) s = execEvqHeadWrite a h s := rfl
theorem exec_evqEnable (a : Nat) : exec (.evqEnable a) s = execEvqEnable a s := rfl
theorem exec_evqDisable (a : Nat) : exec (.evqDisable a) s = execEvqDisable a s := rfl
theorem exec_msixModerationExpiry (a : Nat) : exec (.msixModerationExpiry a) s = execMsixModerationExpiry a s := rfl
theorem exec_functionLevelReset : exec (.functionLevelReset) s = execFunctionLevelReset s := rfl
theorem exec_hostPerstN : exec (.hostPerstN) s = execHostPerstN s := rfl
theorem exec_ethernetFrame (p : Nat) (bytes : List Byte) (full : Bool) : exec (.ethernetFrame p bytes full) s = execEthernetFrame p bytes full s := rfl
theorem exec_linkctl (h : Hdr) (lseq : Nat) (nak : Bool) : exec (.linkctl h lseq nak) s = execLinkctl h lseq nak s := rfl
theorem exec_linkRetransmitTimeout (d : Nat) (long : Bool) : exec (.linkRetransmitTimeout d long) s = execLinkRetransmitTimeout d long s := rfl
theorem exec_msg (h : Hdr) (m : Msg) : exec (.msg h m) s = execMsg h m s := rfl
theorem exec_msgstat (h : Hdr) (status dst : Nat) : exec (.msgstat h status dst) s = execMsgstat h status dst s := rfl
theorem exec_msgTimeout (ep dst : Nat) : exec (.msgTimeout ep dst) s = execMsgTimeout ep dst s := rfl
theorem exec_stopreq (h : Hdr) (reason : Nat) : exec (.stopreq h reason) s = execStopreq h reason s := rfl
theorem exec_stopnow (h : Hdr) (incident reason : Nat) : exec (.stopnow h incident reason) s = execStopnow h incident reason s := rfl
theorem exec_now : exec (.now) s = execNow s := rfl
theorem exec_auxStopEdge (n : Nat) : exec (.auxStopEdge n) s = execAuxStopEdge n s := rfl
theorem exec_hello (h : Hdr) (serial strap role portmap dlyA dlyB : Nat) : exec (.hello h serial strap role portmap dlyA dlyB) s = execHello h serial strap role portmap dlyA dlyB s := rfl
theorem exec_assign (h : Hdr) (serial node role pathA pathB : Nat) : exec (.assign h serial node role pathA pathB) s = execAssign h serial node role pathA pathB s := rfl
theorem exec_config (h : Hdr) (pairs : List (Nat × Nat)) : exec (.config h pairs) s = execConfig h pairs s := rfl
theorem exec_dlyprobe (h : Hdr) (time : Nat) : exec (.dlyprobe h time) s = execDlyprobe h time s := rfl
theorem exec_dlyecho (h : Hdr) (time trip : Nat) : exec (.dlyecho h time trip) s = execDlyecho h time trip s := rfl
theorem exec_commitrb : exec (.commitrb) s = execCommitrb s := rfl
theorem exec_vltAliasdataWrite (v : Nat) : exec (.vltAliasdataWrite v) s = execVltAliasdataWrite v s := rfl
theorem exec_vltMembersWrite (h v : Nat) : exec (.vltMembersWrite h v) s = execVltMembersWrite h v s := rfl
theorem exec_dormantEntry : exec (.dormantEntry) s = execDormantEntry s := rfl
theorem exec_dormantSleep : exec (.dormantSleep) s = execDormantSleep s := rfl
theorem exec_wake (rtc : Nat) : exec (.wake rtc) s = execWake rtc s := rfl
theorem exec_i2cWrite (dev a v : Nat) : exec (.i2cWrite dev a v) s = execI2cWrite dev a v s := rfl
theorem exec_i2cRead (dev a : Nat) : exec (.i2cRead dev a) s = execI2cRead dev a s := rfl
theorem exec_jtagInstruction (i : Nat) : exec (.jtagInstruction i) s = execJtagInstruction i s := rfl
theorem exec_headLinkSlot (n : Nat) : exec (.headLinkSlot n) s = execHeadLinkSlot n s := rfl
theorem exec_referenceSwitchComplete : exec (.referenceSwitchComplete) s = execReferenceSwitchComplete s := rfl
theorem exec_pllLockAcquired (n : Nat) : exec (.pllLockAcquired n) s = execPllLockAcquired n s := rfl
theorem exec_referenceEdgeReturn (r : Nat) : exec (.referenceEdgeReturn r) s = execReferenceEdgeReturn r s := rfl
theorem exec_driveDieSupplyChange (low : Bool) : exec (.driveDieSupplyChange low) s = execDriveDieSupplyChange low s := rfl
theorem exec_thermalShutdownRelease (temps : List Int) : exec (.thermalShutdownRelease temps) s = execThermalShutdownRelease temps s := rfl
theorem exec_illegalWordFetch (t : Nat) : exec (.illegalWordFetch t) s = execIllegalWordFetch t s := rfl
theorem exec_tellerImageLoad : exec (.tellerImageLoad) s = execTellerImageLoad s := rfl
theorem exec_driveFatalStatus (drive : Nat) : exec (.driveFatalStatus drive) s = execDriveFatalStatus drive s := rfl
theorem exec_hostLinkDown : exec (.hostLinkDown) s = execHostLinkDown s := rfl
theorem exec_poisonedTlp : exec (.poisonedTlp) s = execPoisonedTlp s := rfl
theorem exec_ethernetLinkDown (p : Nat) : exec (.ethernetLinkDown p) s = execEthernetLinkDown p s := rfl
theorem exec_uncorrectableCodeword (p : Nat) : exec (.uncorrectableCodeword p) s = execUncorrectableCodeword p s := rfl
theorem exec_ringLinkUp (d : Nat) : exec (.ringLinkUp d) s = execRingLinkUp d s := rfl
theorem exec_acExcitationCycle (h : Nat) : exec (.acExcitationCycle h) s = execAcExcitationCycle h s := rfl

end Sys2Proof.Machine
end

