-- ==== Sys2Proof/Laws/Encoding.lean ====
section
/-! SUPPORT. The fields of the words the encoder builds: each field of R64 reads back what was put there. -/

namespace Sys2Proof

/-- Word of format A, I, P, S or B: its number, as a sum of its fields. -/
theorem encA_toNat {m rd rs rt f : Nat} (hm : m < 64) (hd : rd < 32) (hs : rs < 32) (ht : rt < 32) (hf : f < 2048) :
    (encA m rd rs rt f).toNat = m * 2 ^ 26 + rd * 2 ^ 21 + rs * 2 ^ 16 + rt * 2 ^ 11 + f := by
  simp only [encA, BitVec.toNat_ofNat]; omega

theorem encI_toNat {m rd rs : Nat} (imm : BitVec 16) (hm : m < 64) (hd : rd < 32) (hs : rs < 32) :
    (encI m rd rs imm).toNat = m * 2 ^ 26 + rd * 2 ^ 21 + rs * 2 ^ 16 + imm.toNat := by
  have := imm.isLt
  simp only [encI, BitVec.toNat_ofNat]; omega

theorem encP_toNat {pd ps sub imm : Nat} (hd : pd < 8) (hs : ps < 8) (hu : sub < 16) (hi : imm < 65536) :
    (encP pd ps sub imm).toNat = 0x28 * 2 ^ 26 + pd * 2 ^ 23 + ps * 2 ^ 20 + sub * 2 ^ 16 + imm := by
  simp only [encP, BitVec.toNat_ofNat]; omega

theorem encS_toNat {rd rs rt i sub : Nat} (hd : rd < 32) (hs : rs < 32) (ht : rt < 32) (hi : i < 32) (hu : sub < 64) :
    (encS rd rs rt i sub).toNat = 0x38 * 2 ^ 26 + rd * 2 ^ 21 + rs * 2 ^ 16 + rt * 2 ^ 11 + i * 2 ^ 6 + sub := by
  simp only [encS, BitVec.toNat_ofNat]; omega

theorem encB_toNat {m : Nat} {c : Cond} (off : BitVec 22) (hm : m < 64) (hc : encodeCond c < 16) :
    (encB m c off).toNat = m * 2 ^ 26 + encodeCond c * 2 ^ 22 + off.toNat := by
  have := off.isLt
  simp only [encB, BitVec.toNat_ofNat]; omega

/-- The fields of a word of format A. -/
theorem encA_fields {m rd rs rt f : Nat} (hm : m < 64) (hd : rd < 32) (hs : rs < 32) (ht : rt < 32) (hf : f < 2048) :
    let w := (encA m rd rs rt f).toNat
    fMajor w = m ∧ fRd w = rd ∧ fRs w = rs ∧ fRt w = rt ∧ fFunc w = f := by
  simp only [encA_toNat hm hd hs ht hf, fMajor, fRd, fRs, fRt, fFunc, bits]; omega

/-- The fields of a word of format I. -/
theorem encI_fields {m rd rs : Nat} (imm : BitVec 16) (hm : m < 64) (hd : rd < 32) (hs : rs < 32) :
    let w := (encI m rd rs imm).toNat
    fMajor w = m ∧ fRd w = rd ∧ fRs w = rs ∧ fImm w = imm := by
  have h := imm.isLt
  simp only [encI_toNat imm hm hd hs, fMajor, fRd, fRs, fImm, bits]
  refine ⟨by omega, by omega, by omega, BitVec.eq_of_toNat_eq ?_⟩
  simp only [BitVec.toNat_ofNat]; omega

/-- The fields of a word of format P. -/
theorem encP_fields {pd ps sub imm : Nat} (hd : pd < 8) (hs : ps < 8) (hu : sub < 16) (hi : imm < 65536) :
    let w := (encP pd ps sub imm).toNat
    fMajor w = 0x28 ∧ fPd w = pd ∧ fPs w = ps ∧ fPsub w = sub ∧ fImm w = BitVec.ofNat 16 imm := by
  simp only [encP_toNat hd hs hu hi, fMajor, fPd, fPs, fPsub, fImm, bits]
  refine ⟨by omega, by omega, by omega, by omega, BitVec.eq_of_toNat_eq ?_⟩
  simp only [BitVec.toNat_ofNat]; omega

/-- The fields of a word of format S. -/
theorem encS_fields {rd rs rt i sub : Nat} (hd : rd < 32) (hs : rs < 32) (ht : rt < 32) (hi : i < 32) (hu : sub < 64) :
    let w := (encS rd rs rt i sub).toNat
    fMajor w = 0x38 ∧ fRd w = rd ∧ fRs w = rs ∧ fRt w = rt ∧ fImm5 w = i ∧ fSub w = sub := by
  simp only [encS_toNat hd hs ht hi hu, fMajor, fRd, fRs, fRt, fImm5, fSub, bits]; omega

/-- The fields of a word of format B. -/
theorem encB_fields {m : Nat} {c : Cond} (off : BitVec 22) (hm : m < 64) (hc : encodeCond c < 16) :
    let w := (encB m c off).toNat
    fMajor w = m ∧ fCond w = encodeCond c ∧ fOff w = off := by
  have h := off.isLt
  simp only [encB_toNat off hm hc, fMajor, fCond, fOff, bits]
  refine ⟨by omega, by omega, BitVec.eq_of_toNat_eq ?_⟩
  simp only [BitVec.toNat_ofNat]; omega

/-- A condition's code stands for that condition. -/
theorem decodeCond_encodeCond {c : Cond} (h : c.wf = true) : decodeCond (encodeCond c) = some c ∧ encodeCond c < 16 := by
  cases c with
  | always => exact ⟨rfl, by decide⟩
  | q n =>
    have hn : n < 4 := by simpa [Cond.wf] using h
    interval_cases n <;> exact ⟨rfl, by decide⟩
  | nq n =>
    have hn : n < 4 := by simpa [Cond.wf] using h
    interval_cases n <;> exact ⟨rfl, by decide⟩

end Sys2Proof
end

