-- ==== Sys2Proof/Laws/PerInstr.lean ====
section
/-! SUPPORT. Statements about every command as syntax, one lemma per constructor. Encoded: a well-formed teller
instruction's word decodes to it (R64 to R77); a command that is no instruction has no word. -/

set_option Elab.async false

namespace Sys2Proof.Laws.Encoded

/-- The word of a well-formed instruction decodes to it, for a teller of the node. -/
def Statement (i : Instr) : Prop :=
  i.wf = true → ∀ w, encodeWord i = some w → ∃ t, t < 16 ∧ decodeWord t w = some i

theorem only_of {c : Bool} {i : Instr} (h : c = true) : only c i = some i := by simp [only, h]

/-- Major 0x00, from what its sub-decoder does with the fields. -/
theorem of_A0 {t rd rs rt f : Nat} {i : Instr} (hd : rd < 32) (hs : rs < 32) (ht : rt < 32) (hf : f < 2048)
    (h : ∀ w, fRd w = rd → fRs w = rs → fRt w = rt → fFunc w = f → decode00 t w = some i) :
    decodeWord t (encA 0 rd rs rt f) = some i := by
  obtain ⟨hM, h1, h2, h3, h4⟩ := encA_fields (m := 0) (by decide) hd hs ht hf
  simp only [decodeWord, hM, h _ h1 h2 h3 h4]

/-- Major 0x01, from what its sub-decoder does with the fields. -/
theorem of_A1 {t rd rs rt f : Nat} {i : Instr} (hd : rd < 32) (hs : rs < 32) (ht : rt < 32) (hf : f < 2048)
    (h : ∀ w, fRd w = rd → fRs w = rs → fRt w = rt → fFunc w = f → decode01 t w = some i) :
    decodeWord t (encA 1 rd rs rt f) = some i := by
  obtain ⟨hM, h1, h2, h3, h4⟩ := encA_fields (m := 1) (by decide) hd hs ht hf
  simp only [decodeWord, hM, h _ h1 h2 h3 h4]

/-- Major 0x02, from what its sub-decoder does with the fields. -/
theorem of_A2 {t rd rs rt f : Nat} {i : Instr} (hd : rd < 32) (hs : rs < 32) (ht : rt < 32) (hf : f < 2048)
    (h : ∀ w, fRd w = rd → fRs w = rs → fRt w = rt → fFunc w = f → decode02 t w = some i) :
    decodeWord t (encA 2 rd rs rt f) = some i := by
  obtain ⟨hM, h1, h2, h3, h4⟩ := encA_fields (m := 2) (by decide) hd hs ht hf
  simp only [decodeWord, hM, h _ h1 h2 h3 h4]

/-- Major 0x28. -/
theorem of_P {t pd ps sub imm : Nat} {i : Instr} (hd : pd < 8) (hs : ps < 8) (hu : sub < 16) (hi : imm < 65536)
    (h : ∀ w, fPd w = pd → fPs w = ps → fPsub w = sub → fImm w = BitVec.ofNat 16 imm → decode28 t w = some i) :
    decodeWord t (encP pd ps sub imm) = some i := by
  obtain ⟨hM, h1, h2, h3, h4⟩ := encP_fields hd hs hu hi
  simp only [decodeWord, hM, h _ h1 h2 h3 h4]

/-- Major 0x38. -/
theorem of_S {t rd rs rt k sub : Nat} {i : Instr} (hd : rd < 32) (hs : rs < 32) (ht : rt < 32) (hk : k < 32) (hu : sub < 64)
    (h : ∀ w, fRd w = rd → fRs w = rs → fRt w = rt → fImm5 w = k → fSub w = sub → decode38 t w = some i) :
    decodeWord t (encS rd rs rt k sub) = some i := by
  obtain ⟨hM, h1, h2, h3, h4, h5⟩ := encS_fields hd hs ht hk hu
  simp only [decodeWord, hM, h _ h1 h2 h3 h4 h5]

/-- A 16-bit operand written as a number reads back. -/
theorem imm_back {n : Nat} (h : n < 65536) : (BitVec.ofNat 16 n).toNat = n := by
  simp only [BitVec.toNat_ofNat]; omega

theorem powerOnReset (x : Straps) (edgesA edgesB : Bool) : Statement (.powerOnReset x edgesA edgesB) := by
  intro _ w hw
  cases hw

theorem supplyDrop : Statement (.supplyDrop) := by
  intro _ w hw
  cases hw

theorem resetN (x : Straps) : Statement (.resetN x) := by
  intro _ w hw
  cases hw

theorem bootVerify (sfdp flash : List Byte) : Statement (.bootVerify sfdp flash) := by
  intro _ w hw
  cases hw

theorem chiprst (key : Nat) (x : Straps) : Statement (.chiprst key x) := by
  intro _ w hw
  cases hw

theorem logicrst (key : Nat) : Statement (.logicrst key) := by
  intro _ w hw
  cases hw

theorem driverst (key : Nat) : Statement (.driverst key) := by
  intro _ w hw
  cases hw

theorem registerWrite (bar a v be : Nat) : Statement (.registerWrite bar a v be) := by
  intro _ w hw
  cases hw

theorem portmapWrite (v : Nat) : Statement (.portmapWrite v) := by
  intro _ w hw
  cases hw

theorem outenWrite (on : Bool) : Statement (.outenWrite on) := by
  intro _ w hw
  cases hw

theorem driveLinkFrame (vsw : List Nat) : Statement (.driveLinkFrame vsw) := by
  intro _ w hw
  cases hw

theorem heartbeatLoss : Statement (.heartbeatLoss) := by
  intro _ w hw
  cases hw

theorem roleConfirm : Statement (.roleConfirm) := by
  intro _ w hw
  cases hw

theorem encoderEdge (n : Nat) (e : EncEvent) (vel : Int) : Statement (.encoderEdge n e vel) := by
  intro _ w hw
  cases hw

theorem beaconSend : Statement (.beaconSend) := by
  intro _ w hw
  cases hw

theorem beacon (h : Hdr) (b : Beacon) : Statement (.beacon h b) := by
  intro _ w hw
  cases hw

theorem deadReckoning : Statement (.deadReckoning) := by
  intro _ w hw
  cases hw

theorem positionLost : Statement (.positionLost) := by
  intro _ w hw
  cases hw

theorem lineMasterEdge (interval : Nat) : Statement (.lineMasterEdge interval) := by
  intro _ w hw
  cases hw

theorem lineMasterTimeout : Statement (.lineMasterTimeout) := by
  intro _ w hw
  cases hw

theorem timWposloRead : Statement (.timWposloRead) := by
  intro _ w hw
  cases hw

theorem timHwmloRead : Statement (.timHwmloRead) := by
  intro _ w hw
  cases hw

theorem cldDateRead : Statement (.cldDateRead) := by
  intro _ w hw
  cases hw

theorem cldWtloRead : Statement (.cldWtloRead) := by
  intro _ w hw
  cases hw

theorem cldCommit : Statement (.cldCommit) := by
  intro _ w hw
  cases hw

theorem secondRollover : Statement (.secondRollover) := by
  intro _ w hw
  cases hw

theorem cldTimerArm (n : Nat) : Statement (.cldTimerArm n) := by
  intro _ w hw
  cases hw

theorem cldTimerDisarm (n : Nat) : Statement (.cldTimerDisarm n) := by
  intro _ w hw
  cases hw

theorem wallTimerFire (n : Nat) : Statement (.wallTimerFire n) := by
  intro _ w hw
  cases hw

theorem ptpSync (offset : Int) (mpd : Nat) : Statement (.ptpSync offset mpd) := by
  intro _ w hw
  cases hw

theorem ptpSyncLoss : Statement (.ptpSyncLoss) := by
  intro _ w hw
  cases hw

theorem add (t rd rs rt : Nat) : Statement (.add t rd rs rt) := by
  intro h w hw
  simp only [Instr.wf, Bool.and_eq_true, decide_eq_true_eq] at h
  cases hw
  refine ⟨t, by omega, of_A0 (by omega) (by omega) (by omega) (by decide) fun w h1 h2 h3 h4 => ?_⟩
  unfold decode00
  rw [h1, h2, h3, h4]
  rfl

theorem sub (t rd rs rt : Nat) : Statement (.sub t rd rs rt) := by
  intro h w hw
  simp only [Instr.wf, Bool.and_eq_true, decide_eq_true_eq] at h
  cases hw
  refine ⟨t, by omega, of_A0 (by omega) (by omega) (by omega) (by decide) fun w h1 h2 h3 h4 => ?_⟩
  unfold decode00
  rw [h1, h2, h3, h4]
  rfl

theorem and (t rd rs rt : Nat) : Statement (.and t rd rs rt) := by
  intro h w hw
  simp only [Instr.wf, Bool.and_eq_true, decide_eq_true_eq] at h
  cases hw
  refine ⟨t, by omega, of_A0 (by omega) (by omega) (by omega) (by decide) fun w h1 h2 h3 h4 => ?_⟩
  unfold decode00
  rw [h1, h2, h3, h4]
  rfl

theorem or (t rd rs rt : Nat) : Statement (.or t rd rs rt) := by
  intro h w hw
  simp only [Instr.wf, Bool.and_eq_true, decide_eq_true_eq] at h
  cases hw
  refine ⟨t, by omega, of_A0 (by omega) (by omega) (by omega) (by decide) fun w h1 h2 h3 h4 => ?_⟩
  unfold decode00
  rw [h1, h2, h3, h4]
  rfl

theorem xor (t rd rs rt : Nat) : Statement (.xor t rd rs rt) := by
  intro h w hw
  simp only [Instr.wf, Bool.and_eq_true, decide_eq_true_eq] at h
  cases hw
  refine ⟨t, by omega, of_A0 (by omega) (by omega) (by omega) (by decide) fun w h1 h2 h3 h4 => ?_⟩
  unfold decode00
  rw [h1, h2, h3, h4]
  rfl

theorem sll (t rd rs rt : Nat) : Statement (.sll t rd rs rt) := by
  intro h w hw
  simp only [Instr.wf, Bool.and_eq_true, decide_eq_true_eq] at h
  cases hw
  refine ⟨t, by omega, of_A0 (by omega) (by omega) (by omega) (by decide) fun w h1 h2 h3 h4 => ?_⟩
  unfold decode00
  rw [h1, h2, h3, h4]
  rfl

theorem srl (t rd rs rt : Nat) : Statement (.srl t rd rs rt) := by
  intro h w hw
  simp only [Instr.wf, Bool.and_eq_true, decide_eq_true_eq] at h
  cases hw
  refine ⟨t, by omega, of_A0 (by omega) (by omega) (by omega) (by decide) fun w h1 h2 h3 h4 => ?_⟩
  unfold decode00
  rw [h1, h2, h3, h4]
  rfl

theorem sra (t rd rs rt : Nat) : Statement (.sra t rd rs rt) := by
  intro h w hw
  simp only [Instr.wf, Bool.and_eq_true, decide_eq_true_eq] at h
  cases hw
  refine ⟨t, by omega, of_A0 (by omega) (by omega) (by omega) (by decide) fun w h1 h2 h3 h4 => ?_⟩
  unfold decode00
  rw [h1, h2, h3, h4]
  rfl

theorem mul (t rd rs rt : Nat) : Statement (.mul t rd rs rt) := by
  intro h w hw
  simp only [Instr.wf, Bool.and_eq_true, decide_eq_true_eq] at h
  cases hw
  refine ⟨t, by omega, of_A0 (by omega) (by omega) (by omega) (by decide) fun w h1 h2 h3 h4 => ?_⟩
  unfold decode00
  rw [h1, h2, h3, h4]
  rfl

theorem mulh (t rd rs rt : Nat) : Statement (.mulh t rd rs rt) := by
  intro h w hw
  simp only [Instr.wf, Bool.and_eq_true, decide_eq_true_eq] at h
  cases hw
  refine ⟨t, by omega, of_A0 (by omega) (by omega) (by omega) (by decide) fun w h1 h2 h3 h4 => ?_⟩
  unfold decode00
  rw [h1, h2, h3, h4]
  rfl

theorem mulhu (t rd rs rt : Nat) : Statement (.mulhu t rd rs rt) := by
  intro h w hw
  simp only [Instr.wf, Bool.and_eq_true, decide_eq_true_eq] at h
  cases hw
  refine ⟨t, by omega, of_A0 (by omega) (by omega) (by omega) (by decide) fun w h1 h2 h3 h4 => ?_⟩
  unfold decode00
  rw [h1, h2, h3, h4]
  rfl

theorem divu (t rd rs rt : Nat) : Statement (.divu t rd rs rt) := by
  intro h w hw
  simp only [Instr.wf, Bool.and_eq_true, decide_eq_true_eq] at h
  cases hw
  refine ⟨t, by omega, of_A0 (by omega) (by omega) (by omega) (by decide) fun w h1 h2 h3 h4 => ?_⟩
  unfold decode00
  rw [h1, h2, h3, h4]
  rfl

theorem remu (t rd rs rt : Nat) : Statement (.remu t rd rs rt) := by
  intro h w hw
  simp only [Instr.wf, Bool.and_eq_true, decide_eq_true_eq] at h
  cases hw
  refine ⟨t, by omega, of_A0 (by omega) (by omega) (by omega) (by decide) fun w h1 h2 h3 h4 => ?_⟩
  unfold decode00
  rw [h1, h2, h3, h4]
  rfl

theorem div (t rd rs rt : Nat) : Statement (.div t rd rs rt) := by
  intro h w hw
  simp only [Instr.wf, Bool.and_eq_true, decide_eq_true_eq] at h
  cases hw
  refine ⟨t, by omega, of_A0 (by omega) (by omega) (by omega) (by decide) fun w h1 h2 h3 h4 => ?_⟩
  unfold decode00
  rw [h1, h2, h3, h4]
  rfl

theorem rem (t rd rs rt : Nat) : Statement (.rem t rd rs rt) := by
  intro h w hw
  simp only [Instr.wf, Bool.and_eq_true, decide_eq_true_eq] at h
  cases hw
  refine ⟨t, by omega, of_A0 (by omega) (by omega) (by omega) (by decide) fun w h1 h2 h3 h4 => ?_⟩
  unfold decode00
  rw [h1, h2, h3, h4]
  rfl

theorem min (t rd rs rt : Nat) : Statement (.min t rd rs rt) := by
  intro h w hw
  simp only [Instr.wf, Bool.and_eq_true, decide_eq_true_eq] at h
  cases hw
  refine ⟨t, by omega, of_A0 (by omega) (by omega) (by omega) (by decide) fun w h1 h2 h3 h4 => ?_⟩
  unfold decode00
  rw [h1, h2, h3, h4]
  rfl

theorem max (t rd rs rt : Nat) : Statement (.max t rd rs rt) := by
  intro h w hw
  simp only [Instr.wf, Bool.and_eq_true, decide_eq_true_eq] at h
  cases hw
  refine ⟨t, by omega, of_A0 (by omega) (by omega) (by omega) (by decide) fun w h1 h2 h3 h4 => ?_⟩
  unfold decode00
  rw [h1, h2, h3, h4]
  rfl

theorem minu (t rd rs rt : Nat) : Statement (.minu t rd rs rt) := by
  intro h w hw
  simp only [Instr.wf, Bool.and_eq_true, decide_eq_true_eq] at h
  cases hw
  refine ⟨t, by omega, of_A0 (by omega) (by omega) (by omega) (by decide) fun w h1 h2 h3 h4 => ?_⟩
  unfold decode00
  rw [h1, h2, h3, h4]
  rfl

theorem maxu (t rd rs rt : Nat) : Statement (.maxu t rd rs rt) := by
  intro h w hw
  simp only [Instr.wf, Bool.and_eq_true, decide_eq_true_eq] at h
  cases hw
  refine ⟨t, by omega, of_A0 (by omega) (by omega) (by omega) (by decide) fun w h1 h2 h3 h4 => ?_⟩
  unfold decode00
  rw [h1, h2, h3, h4]
  rfl

theorem adds (t rd rs rt : Nat) : Statement (.adds t rd rs rt) := by
  intro h w hw
  simp only [Instr.wf, Bool.and_eq_true, decide_eq_true_eq] at h
  cases hw
  refine ⟨t, by omega, of_A0 (by omega) (by omega) (by omega) (by decide) fun w h1 h2 h3 h4 => ?_⟩
  unfold decode00
  rw [h1, h2, h3, h4]
  rfl

theorem subs (t rd rs rt : Nat) : Statement (.subs t rd rs rt) := by
  intro h w hw
  simp only [Instr.wf, Bool.and_eq_true, decide_eq_true_eq] at h
  cases hw
  refine ⟨t, by omega, of_A0 (by omega) (by omega) (by omega) (by decide) fun w h1 h2 h3 h4 => ?_⟩
  unfold decode00
  rw [h1, h2, h3, h4]
  rfl

theorem sel (t n rd rs rt : Nat) : Statement (.sel t n rd rs rt) := by
  intro h w hw
  simp only [Instr.wf, Bool.and_eq_true, decide_eq_true_eq] at h
  cases hw
  obtain ⟨⟨⟨⟨ht, hn⟩, h1⟩, h2⟩, h3⟩ := h
  refine ⟨t, ht, of_A0 h1 h2 h3 (by omega) fun w e1 e2 e3 e4 => ?_⟩
  unfold decode00
  rw [e1, e2, e3, e4]
  interval_cases n <;> rfl

theorem clz (t rd rs : Nat) : Statement (.clz t rd rs) := by
  intro h w hw
  simp only [Instr.wf, Bool.and_eq_true, decide_eq_true_eq] at h
  cases hw
  refine ⟨t, by omega, of_A0 (by omega) (by omega) (by omega) (by decide) fun w h1 h2 h3 h4 => ?_⟩
  unfold decode00
  rw [h1, h2, h3, h4]
  exact only_of (by grind)

theorem popc (t rd rs : Nat) : Statement (.popc t rd rs) := by
  intro h w hw
  simp only [Instr.wf, Bool.and_eq_true, decide_eq_true_eq] at h
  cases hw
  refine ⟨t, by omega, of_A0 (by omega) (by omega) (by omega) (by decide) fun w h1 h2 h3 h4 => ?_⟩
  unfold decode00
  rw [h1, h2, h3, h4]
  exact only_of (by grind)

theorem xadd (t rd rs rt : Nat) : Statement (.xadd t rd rs rt) := by
  intro h w hw
  simp only [Instr.wf, Bool.and_eq_true, decide_eq_true_eq] at h
  cases hw
  refine ⟨t, by omega, of_A0 (by omega) (by omega) (by omega) (by decide) fun w h1 h2 h3 h4 => ?_⟩
  unfold decode00
  rw [h1, h2, h3, h4]
  rfl

theorem xswap (t rd rs rt : Nat) : Statement (.xswap t rd rs rt) := by
  intro h w hw
  simp only [Instr.wf, Bool.and_eq_true, decide_eq_true_eq] at h
  cases hw
  refine ⟨t, by omega, of_A0 (by omega) (by omega) (by omega) (by decide) fun w h1 h2 h3 h4 => ?_⟩
  unfold decode00
  rw [h1, h2, h3, h4]
  rfl

theorem cmpeq (t rd rs rt : Nat) : Statement (.cmpeq t rd rs rt) := by
  intro h w hw
  simp only [Instr.wf, Bool.and_eq_true, decide_eq_true_eq] at h
  cases hw
  refine ⟨t, by omega, of_A1 (by omega) (by omega) (by omega) (by decide) fun w h1 h2 h3 h4 => ?_⟩
  unfold decode01
  rw [h1, h2, h3, h4]
  exact only_of (by grind)

theorem cmpne (t rd rs rt : Nat) : Statement (.cmpne t rd rs rt) := by
  intro h w hw
  simp only [Instr.wf, Bool.and_eq_true, decide_eq_true_eq] at h
  cases hw
  refine ⟨t, by omega, of_A1 (by omega) (by omega) (by omega) (by decide) fun w h1 h2 h3 h4 => ?_⟩
  unfold decode01
  rw [h1, h2, h3, h4]
  exact only_of (by grind)

theorem cmplt (t rd rs rt : Nat) : Statement (.cmplt t rd rs rt) := by
  intro h w hw
  simp only [Instr.wf, Bool.and_eq_true, decide_eq_true_eq] at h
  cases hw
  refine ⟨t, by omega, of_A1 (by omega) (by omega) (by omega) (by decide) fun w h1 h2 h3 h4 => ?_⟩
  unfold decode01
  rw [h1, h2, h3, h4]
  exact only_of (by grind)

theorem cmpge (t rd rs rt : Nat) : Statement (.cmpge t rd rs rt) := by
  intro h w hw
  simp only [Instr.wf, Bool.and_eq_true, decide_eq_true_eq] at h
  cases hw
  refine ⟨t, by omega, of_A1 (by omega) (by omega) (by omega) (by decide) fun w h1 h2 h3 h4 => ?_⟩
  unfold decode01
  rw [h1, h2, h3, h4]
  exact only_of (by grind)

theorem cmpltu (t rd rs rt : Nat) : Statement (.cmpltu t rd rs rt) := by
  intro h w hw
  simp only [Instr.wf, Bool.and_eq_true, decide_eq_true_eq] at h
  cases hw
  refine ⟨t, by omega, of_A1 (by omega) (by omega) (by omega) (by decide) fun w h1 h2 h3 h4 => ?_⟩
  unfold decode01
  rw [h1, h2, h3, h4]
  exact only_of (by grind)

theorem cmpgeu (t rd rs rt : Nat) : Statement (.cmpgeu t rd rs rt) := by
  intro h w hw
  simp only [Instr.wf, Bool.and_eq_true, decide_eq_true_eq] at h
  cases hw
  refine ⟨t, by omega, of_A1 (by omega) (by omega) (by omega) (by decide) fun w h1 h2 h3 h4 => ?_⟩
  unfold decode01
  rw [h1, h2, h3, h4]
  exact only_of (by grind)

theorem qand (t rd rs rt : Nat) : Statement (.qand t rd rs rt) := by
  intro h w hw
  simp only [Instr.wf, Bool.and_eq_true, decide_eq_true_eq] at h
  cases hw
  refine ⟨t, by omega, of_A1 (by omega) (by omega) (by omega) (by decide) fun w h1 h2 h3 h4 => ?_⟩
  unfold decode01
  rw [h1, h2, h3, h4]
  exact only_of (by grind)

theorem qor (t rd rs rt : Nat) : Statement (.qor t rd rs rt) := by
  intro h w hw
  simp only [Instr.wf, Bool.and_eq_true, decide_eq_true_eq] at h
  cases hw
  refine ⟨t, by omega, of_A1 (by omega) (by omega) (by omega) (by decide) fun w h1 h2 h3 h4 => ?_⟩
  unfold decode01
  rw [h1, h2, h3, h4]
  exact only_of (by grind)

theorem qxor (t rd rs rt : Nat) : Statement (.qxor t rd rs rt) := by
  intro h w hw
  simp only [Instr.wf, Bool.and_eq_true, decide_eq_true_eq] at h
  cases hw
  refine ⟨t, by omega, of_A1 (by omega) (by omega) (by omega) (by decide) fun w h1 h2 h3 h4 => ?_⟩
  unfold decode01
  rw [h1, h2, h3, h4]
  exact only_of (by grind)

theorem qnot (t rd rs : Nat) : Statement (.qnot t rd rs) := by
  intro h w hw
  simp only [Instr.wf, Bool.and_eq_true, decide_eq_true_eq] at h
  cases hw
  refine ⟨t, by omega, of_A1 (by omega) (by omega) (by omega) (by decide) fun w h1 h2 h3 h4 => ?_⟩
  unfold decode01
  rw [h1, h2, h3, h4]
  exact only_of (by grind)

theorem pcmpeq (t rd rs rt : Nat) : Statement (.pcmpeq t rd rs rt) := by
  intro h w hw
  simp only [Instr.wf, Bool.and_eq_true, decide_eq_true_eq] at h
  cases hw
  refine ⟨t, by omega, of_A1 (by omega) (by omega) (by omega) (by decide) fun w h1 h2 h3 h4 => ?_⟩
  unfold decode01
  rw [h1, h2, h3, h4]
  exact only_of (by grind)

theorem pcmplt (t rd rs rt : Nat) : Statement (.pcmplt t rd rs rt) := by
  intro h w hw
  simp only [Instr.wf, Bool.and_eq_true, decide_eq_true_eq] at h
  cases hw
  refine ⟨t, by omega, of_A1 (by omega) (by omega) (by omega) (by decide) fun w h1 h2 h3 h4 => ?_⟩
  unfold decode01
  rw [h1, h2, h3, h4]
  exact only_of (by grind)

theorem pcmpge (t rd rs rt : Nat) : Statement (.pcmpge t rd rs rt) := by
  intro h w hw
  simp only [Instr.wf, Bool.and_eq_true, decide_eq_true_eq] at h
  cases hw
  refine ⟨t, by omega, of_A1 (by omega) (by omega) (by omega) (by decide) fun w h1 h2 h3 h4 => ?_⟩
  unfold decode01
  rw [h1, h2, h3, h4]
  exact only_of (by grind)

theorem padd (t rd rs rt : Nat) : Statement (.padd t rd rs rt) := by
  intro h w hw
  simp only [Instr.wf, Bool.and_eq_true, decide_eq_true_eq] at h
  cases hw
  refine ⟨t, by omega, of_A2 (by omega) (by omega) (by omega) (by decide) fun w h1 h2 h3 h4 => ?_⟩
  unfold decode02
  rw [h1, h2, h3, h4]
  exact only_of (by grind)

theorem psub (t rd rs rt : Nat) : Statement (.psub t rd rs rt) := by
  intro h w hw
  simp only [Instr.wf, Bool.and_eq_true, decide_eq_true_eq] at h
  cases hw
  refine ⟨t, by omega, of_A2 (by omega) (by omega) (by omega) (by decide) fun w h1 h2 h3 h4 => ?_⟩
  unfold decode02
  rw [h1, h2, h3, h4]
  exact only_of (by grind)

theorem pmov (t rd rs : Nat) : Statement (.pmov t rd rs) := by
  intro h w hw
  simp only [Instr.wf, Bool.and_eq_true, decide_eq_true_eq] at h
  cases hw
  refine ⟨t, by omega, of_A2 (by omega) (by omega) (by omega) (by decide) fun w h1 h2 h3 h4 => ?_⟩
  unfold decode02
  rw [h1, h2, h3, h4]
  exact only_of (by grind)

theorem pmax (t rd rs rt : Nat) : Statement (.pmax t rd rs rt) := by
  intro h w hw
  simp only [Instr.wf, Bool.and_eq_true, decide_eq_true_eq] at h
  cases hw
  refine ⟨t, by omega, of_A2 (by omega) (by omega) (by omega) (by decide) fun w h1 h2 h3 h4 => ?_⟩
  unfold decode02
  rw [h1, h2, h3, h4]
  exact only_of (by grind)

theorem mvgp (t rd rs rt : Nat) : Statement (.mvgp t rd rs rt) := by
  intro h w hw
  simp only [Instr.wf, Bool.and_eq_true, decide_eq_true_eq] at h
  cases hw
  refine ⟨t, by omega, of_A2 (by omega) (by omega) (by omega) (by decide) fun w h1 h2 h3 h4 => ?_⟩
  unfold decode02
  rw [h1, h2, h3, h4]
  exact only_of (by grind)

theorem mvpgl (t rd rs : Nat) : Statement (.mvpgl t rd rs) := by
  intro h w hw
  simp only [Instr.wf, Bool.and_eq_true, decide_eq_true_eq] at h
  cases hw
  refine ⟨t, by omega, of_A2 (by omega) (by omega) (by omega) (by decide) fun w h1 h2 h3 h4 => ?_⟩
  unfold decode02
  rw [h1, h2, h3, h4]
  exact only_of (by grind)

theorem mvpgh (t rd rs : Nat) : Statement (.mvpgh t rd rs) := by
  intro h w hw
  simp only [Instr.wf, Bool.and_eq_true, decide_eq_true_eq] at h
  cases hw
  refine ⟨t, by omega, of_A2 (by omega) (by omega) (by omega) (by decide) fun w h1 h2 h3 h4 => ?_⟩
  unfold decode02
  rw [h1, h2, h3, h4]
  exact only_of (by grind)

theorem paddi (t pd ps : Nat) (imm : BitVec 16) : Statement (.paddi t pd ps imm) := by
  intro h w hw
  simp only [Instr.wf, Bool.and_eq_true, decide_eq_true_eq] at h
  cases hw
  refine ⟨t, by omega, of_P (by omega) (by omega) (by decide) (imm.isLt) fun w h1 h2 h3 h4 => ?_⟩
  unfold decode28
  rewrite [h1, h2, h3, h4]
  dsimp only
  rw [BitVec.ofNat_toNat, BitVec.setWidth_eq]
  rfl

theorem paddfi (t pd ps : Nat) (imm : BitVec 16) : Statement (.paddfi t pd ps imm) := by
  intro h w hw
  simp only [Instr.wf, Bool.and_eq_true, decide_eq_true_eq] at h
  cases hw
  refine ⟨t, by omega, of_P (by omega) (by omega) (by decide) (imm.isLt) fun w h1 h2 h3 h4 => ?_⟩
  unfold decode28
  rewrite [h1, h2, h3, h4]
  dsimp only
  rw [BitVec.ofNat_toNat, BitVec.setWidth_eq]
  rfl

theorem rdpos (t pd : Nat) : Statement (.rdpos t pd) := by
  intro h w hw
  simp only [Instr.wf, Bool.and_eq_true, decide_eq_true_eq] at h
  obtain rfl := Option.some.inj hw
  refine ⟨t, by omega, of_P (by omega) (by omega) (by decide) (by omega) fun w h1 h2 h3 h4 => ?_⟩
  unfold decode28
  rewrite [h1, h2, h3, h4]
  dsimp only
  exact only_of (by decide)

theorem pstn (t pd ps station : Nat) : Statement (.pstn t pd ps station) := by
  intro h w hw
  simp only [Instr.wf, Bool.and_eq_true, decide_eq_true_eq] at h
  cases hw
  refine ⟨t, by omega, of_P (by omega) (by omega) (by decide) (by omega) fun w h1 h2 h3 h4 => ?_⟩
  unfold decode28
  rewrite [h1, h2, h3, h4]
  dsimp only
  rw [imm_back (by omega)]
  exact only_of (by grind)

theorem pwrt (t pd ps station : Nat) : Statement (.pwrt t pd ps station) := by
  intro h w hw
  simp only [Instr.wf, Bool.and_eq_true, decide_eq_true_eq] at h
  cases hw
  refine ⟨t, by omega, of_P (by omega) (by omega) (by decide) (by omega) fun w h1 h2 h3 h4 => ?_⟩
  unfold decode28
  rewrite [h1, h2, h3, h4]
  dsimp only
  rw [imm_back (by omega)]
  exact only_of (by grind)

theorem waitpos (t ps : Nat) : Statement (.waitpos t ps) := by
  intro h w hw
  simp only [Instr.wf, Bool.and_eq_true, decide_eq_true_eq] at h
  obtain rfl := Option.some.inj hw
  refine ⟨t, by omega, of_P (by omega) (by omega) (by decide) (by omega) fun w h1 h2 h3 h4 => ?_⟩
  unfold decode28
  rewrite [h1, h2, h3, h4]
  dsimp only
  exact only_of (by decide)

theorem waitposResume (t : Nat) : Statement (.waitposResume t) := by
  intro _ w hw
  cases hw

theorem arm (t ps n : Nat) : Statement (.arm t ps n) := by
  intro h w hw
  simp only [Instr.wf, Bool.and_eq_true, decide_eq_true_eq] at h
  cases hw
  refine ⟨t, by omega, of_P (by omega) (by omega) (by decide) (by omega) fun w h1 h2 h3 h4 => ?_⟩
  unfold decode28
  rewrite [h1, h2, h3, h4]
  dsimp only
  rw [imm_back (by omega)]
  exact only_of (by grind)

theorem disarm (t n : Nat) : Statement (.disarm t n) := by
  intro h w hw
  simp only [Instr.wf, Bool.and_eq_true, decide_eq_true_eq] at h
  cases hw
  refine ⟨t, by omega, of_P (by omega) (by omega) (by decide) (by omega) fun w h1 h2 h3 h4 => ?_⟩
  unfold decode28
  rewrite [h1, h2, h3, h4]
  dsimp only
  rw [imm_back (by omega)]
  exact only_of (by grind)

theorem rdhwm (t pd : Nat) : Statement (.rdhwm t pd) := by
  intro h w hw
  simp only [Instr.wf, Bool.and_eq_true, decide_eq_true_eq] at h
  obtain rfl := Option.some.inj hw
  refine ⟨t, by omega, of_P (by omega) (by omega) (by decide) (by omega) fun w h1 h2 h3 h4 => ?_⟩
  unfold decode28
  rewrite [h1, h2, h3, h4]
  dsimp only
  exact only_of (by decide)

theorem addi (t rd rs : Nat) (imm : BitVec 16) : Statement (.addi t rd rs imm) := by
  intro h w hw
  simp only [Instr.wf, Bool.and_eq_true, decide_eq_true_eq] at h
  cases hw
  obtain ⟨hM, h1, h2, h3⟩ := encI_fields (m := 0x08) (rd := rd) (rs := rs) imm (by decide) (by omega) (by omega)
  refine ⟨t, by omega, ?_⟩
  unfold decodeWord
  dsimp only
  rw [hM, h1, h2, h3]
  rfl

theorem andi (t rd rs : Nat) (imm : BitVec 16) : Statement (.andi t rd rs imm) := by
  intro h w hw
  simp only [Instr.wf, Bool.and_eq_true, decide_eq_true_eq] at h
  cases hw
  obtain ⟨hM, h1, h2, h3⟩ := encI_fields (m := 0x09) (rd := rd) (rs := rs) imm (by decide) (by omega) (by omega)
  refine ⟨t, by omega, ?_⟩
  unfold decodeWord
  dsimp only
  rw [hM, h1, h2, h3]
  rfl

theorem ori (t rd rs : Nat) (imm : BitVec 16) : Statement (.ori t rd rs imm) := by
  intro h w hw
  simp only [Instr.wf, Bool.and_eq_true, decide_eq_true_eq] at h
  cases hw
  obtain ⟨hM, h1, h2, h3⟩ := encI_fields (m := 0x0A) (rd := rd) (rs := rs) imm (by decide) (by omega) (by omega)
  refine ⟨t, by omega, ?_⟩
  unfold decodeWord
  dsimp only
  rw [hM, h1, h2, h3]
  rfl

theorem xori (t rd rs : Nat) (imm : BitVec 16) : Statement (.xori t rd rs imm) := by
  intro h w hw
  simp only [Instr.wf, Bool.and_eq_true, decide_eq_true_eq] at h
  cases hw
  obtain ⟨hM, h1, h2, h3⟩ := encI_fields (m := 0x0B) (rd := rd) (rs := rs) imm (by decide) (by omega) (by omega)
  refine ⟨t, by omega, ?_⟩
  unfold decodeWord
  dsimp only
  rw [hM, h1, h2, h3]
  rfl

theorem ldhi (t rd : Nat) (imm : BitVec 16) : Statement (.ldhi t rd imm) := by
  intro h w hw
  simp only [Instr.wf, Bool.and_eq_true, decide_eq_true_eq] at h
  cases hw
  obtain ⟨hM, h1, h2, h3⟩ := encI_fields (m := 0x0C) (rd := rd) (rs := 0) imm (by decide) (by omega) (by omega)
  refine ⟨t, by omega, ?_⟩
  unfold decodeWord
  dsimp only
  rw [hM, h1, h2, h3]
  exact only_of (by decide)

theorem slli (t rd rs sh : Nat) : Statement (.slli t rd rs sh) := by
  intro h w hw
  simp only [Instr.wf, Bool.and_eq_true, decide_eq_true_eq] at h
  cases hw
  obtain ⟨hM, h1, h2, h3⟩ := encI_fields (m := 0x0D) (rd := rd) (rs := rs) (BitVec.ofNat 16 sh) (by decide) (by omega) (by omega)
  refine ⟨t, by omega, ?_⟩
  unfold decodeWord
  dsimp only
  rw [hM, h1, h2, h3]
  rw [imm_back (by omega)]
  exact only_of (by grind)

theorem srli (t rd rs sh : Nat) : Statement (.srli t rd rs sh) := by
  intro h w hw
  simp only [Instr.wf, Bool.and_eq_true, decide_eq_true_eq] at h
  cases hw
  obtain ⟨hM, h1, h2, h3⟩ := encI_fields (m := 0x0E) (rd := rd) (rs := rs) (BitVec.ofNat 16 sh) (by decide) (by omega) (by omega)
  refine ⟨t, by omega, ?_⟩
  unfold decodeWord
  dsimp only
  rw [hM, h1, h2, h3]
  rw [imm_back (by omega)]
  exact only_of (by grind)

theorem srai (t rd rs sh : Nat) : Statement (.srai t rd rs sh) := by
  intro h w hw
  simp only [Instr.wf, Bool.and_eq_true, decide_eq_true_eq] at h
  cases hw
  obtain ⟨hM, h1, h2, h3⟩ := encI_fields (m := 0x0F) (rd := rd) (rs := rs) (BitVec.ofNat 16 sh) (by decide) (by omega) (by omega)
  refine ⟨t, by omega, ?_⟩
  unfold decodeWord
  dsimp only
  rw [hM, h1, h2, h3]
  rw [imm_back (by omega)]
  exact only_of (by grind)

theorem lw (t rd rs : Nat) (imm : BitVec 16) : Statement (.lw t rd rs imm) := by
  intro h w hw
  simp only [Instr.wf, Bool.and_eq_true, decide_eq_true_eq] at h
  cases hw
  obtain ⟨hM, h1, h2, h3⟩ := encI_fields (m := 0x10) (rd := rd) (rs := rs) imm (by decide) (by omega) (by omega)
  refine ⟨t, by omega, ?_⟩
  unfold decodeWord
  dsimp only
  rw [hM, h1, h2, h3]
  rfl

theorem lh (t rd rs : Nat) (imm : BitVec 16) : Statement (.lh t rd rs imm) := by
  intro h w hw
  simp only [Instr.wf, Bool.and_eq_true, decide_eq_true_eq] at h
  cases hw
  obtain ⟨hM, h1, h2, h3⟩ := encI_fields (m := 0x11) (rd := rd) (rs := rs) imm (by decide) (by omega) (by omega)
  refine ⟨t, by omega, ?_⟩
  unfold decodeWord
  dsimp only
  rw [hM, h1, h2, h3]
  rfl

theorem lhu (t rd rs : Nat) (imm : BitVec 16) : Statement (.lhu t rd rs imm) := by
  intro h w hw
  simp only [Instr.wf, Bool.and_eq_true, decide_eq_true_eq] at h
  cases hw
  obtain ⟨hM, h1, h2, h3⟩ := encI_fields (m := 0x12) (rd := rd) (rs := rs) imm (by decide) (by omega) (by omega)
  refine ⟨t, by omega, ?_⟩
  unfold decodeWord
  dsimp only
  rw [hM, h1, h2, h3]
  rfl

theorem lb (t rd rs : Nat) (imm : BitVec 16) : Statement (.lb t rd rs imm) := by
  intro h w hw
  simp only [Instr.wf, Bool.and_eq_true, decide_eq_true_eq] at h
  cases hw
  obtain ⟨hM, h1, h2, h3⟩ := encI_fields (m := 0x13) (rd := rd) (rs := rs) imm (by decide) (by omega) (by omega)
  refine ⟨t, by omega, ?_⟩
  unfold decodeWord
  dsimp only
  rw [hM, h1, h2, h3]
  rfl

theorem lbu (t rd rs : Nat) (imm : BitVec 16) : Statement (.lbu t rd rs imm) := by
  intro h w hw
  simp only [Instr.wf, Bool.and_eq_true, decide_eq_true_eq] at h
  cases hw
  obtain ⟨hM, h1, h2, h3⟩ := encI_fields (m := 0x14) (rd := rd) (rs := rs) imm (by decide) (by omega) (by omega)
  refine ⟨t, by omega, ?_⟩
  unfold decodeWord
  dsimp only
  rw [hM, h1, h2, h3]
  rfl

theorem sw (t rt rs : Nat) (imm : BitVec 16) : Statement (.sw t rt rs imm) := by
  intro h w hw
  simp only [Instr.wf, Bool.and_eq_true, decide_eq_true_eq] at h
  cases hw
  obtain ⟨hM, h1, h2, h3⟩ := encI_fields (m := 0x18) (rd := rt) (rs := rs) imm (by decide) (by omega) (by omega)
  refine ⟨t, by omega, ?_⟩
  unfold decodeWord
  dsimp only
  rw [hM, h1, h2, h3]
  rfl

theorem sh (t rt rs : Nat) (imm : BitVec 16) : Statement (.sh t rt rs imm) := by
  intro h w hw
  simp only [Instr.wf, Bool.and_eq_true, decide_eq_true_eq] at h
  cases hw
  obtain ⟨hM, h1, h2, h3⟩ := encI_fields (m := 0x19) (rd := rt) (rs := rs) imm (by decide) (by omega) (by omega)
  refine ⟨t, by omega, ?_⟩
  unfold decodeWord
  dsimp only
  rw [hM, h1, h2, h3]
  rfl

theorem sb (t rt rs : Nat) (imm : BitVec 16) : Statement (.sb t rt rs imm) := by
  intro h w hw
  simp only [Instr.wf, Bool.and_eq_true, decide_eq_true_eq] at h
  cases hw
  obtain ⟨hM, h1, h2, h3⟩ := encI_fields (m := 0x1A) (rd := rt) (rs := rs) imm (by decide) (by omega) (by omega)
  refine ⟨t, by omega, ?_⟩
  unfold decodeWord
  dsimp only
  rw [hM, h1, h2, h3]
  rfl

theorem rdr (t rd rs : Nat) (imm : BitVec 16) : Statement (.rdr t rd rs imm) := by
  intro h w hw
  simp only [Instr.wf, Bool.and_eq_true, decide_eq_true_eq] at h
  cases hw
  obtain ⟨hM, h1, h2, h3⟩ := encI_fields (m := 0x1C) (rd := rd) (rs := rs) imm (by decide) (by omega) (by omega)
  refine ⟨t, by omega, ?_⟩
  unfold decodeWord
  dsimp only
  rw [hM, h1, h2, h3]
  rfl

theorem wrr (t rt rs : Nat) (imm : BitVec 16) : Statement (.wrr t rt rs imm) := by
  intro h w hw
  simp only [Instr.wf, Bool.and_eq_true, decide_eq_true_eq] at h
  cases hw
  obtain ⟨hM, h1, h2, h3⟩ := encI_fields (m := 0x1D) (rd := rt) (rs := rs) imm (by decide) (by omega) (by omega)
  refine ⟨t, by omega, ?_⟩
  unfold decodeWord
  dsimp only
  rw [hM, h1, h2, h3]
  rfl

theorem wrrTakesEffect (t : Nat) : Statement (.wrrTakesEffect t) := by
  intro _ w hw
  cases hw

theorem fabricTimeout (t : Nat) (rdr : Option Nat) : Statement (.fabricTimeout t rdr) := by
  intro _ w hw
  cases hw

theorem pld (t pd rs : Nat) (imm : BitVec 16) : Statement (.pld t pd rs imm) := by
  intro h w hw
  simp only [Instr.wf, Bool.and_eq_true, decide_eq_true_eq] at h
  cases hw
  obtain ⟨hM, h1, h2, h3⟩ := encI_fields (m := 0x1E) (rd := pd) (rs := rs) imm (by decide) (by omega) (by omega)
  refine ⟨t, by omega, ?_⟩
  unfold decodeWord
  dsimp only
  rw [hM, h1, h2, h3]
  exact only_of (by grind)

theorem pst (t rt rs : Nat) (imm : BitVec 16) : Statement (.pst t rt rs imm) := by
  intro h w hw
  simp only [Instr.wf, Bool.and_eq_true, decide_eq_true_eq] at h
  cases hw
  obtain ⟨hM, h1, h2, h3⟩ := encI_fields (m := 0x1F) (rd := rt) (rs := rs) imm (by decide) (by omega) (by omega)
  refine ⟨t, by omega, ?_⟩
  unfold decodeWord
  dsimp only
  rw [hM, h1, h2, h3]
  exact only_of (by grind)

theorem cmpeqi (t rd rs : Nat) (imm : BitVec 16) : Statement (.cmpeqi t rd rs imm) := by
  intro h w hw
  simp only [Instr.wf, Bool.and_eq_true, decide_eq_true_eq] at h
  cases hw
  obtain ⟨hM, h1, h2, h3⟩ := encI_fields (m := 0x20) (rd := rd) (rs := rs) imm (by decide) (by omega) (by omega)
  refine ⟨t, by omega, ?_⟩
  unfold decodeWord
  dsimp only
  rw [hM, h1, h2, h3]
  exact only_of (by grind)

theorem cmplti (t rd rs : Nat) (imm : BitVec 16) : Statement (.cmplti t rd rs imm) := by
  intro h w hw
  simp only [Instr.wf, Bool.and_eq_true, decide_eq_true_eq] at h
  cases hw
  obtain ⟨hM, h1, h2, h3⟩ := encI_fields (m := 0x21) (rd := rd) (rs := rs) imm (by decide) (by omega) (by omega)
  refine ⟨t, by omega, ?_⟩
  unfold decodeWord
  dsimp only
  rw [hM, h1, h2, h3]
  exact only_of (by grind)

theorem cmpltui (t rd rs : Nat) (imm : BitVec 16) : Statement (.cmpltui t rd rs imm) := by
  intro h w hw
  simp only [Instr.wf, Bool.and_eq_true, decide_eq_true_eq] at h
  cases hw
  obtain ⟨hM, h1, h2, h3⟩ := encI_fields (m := 0x22) (rd := rd) (rs := rs) imm (by decide) (by omega) (by omega)
  refine ⟨t, by omega, ?_⟩
  unfold decodeWord
  dsimp only
  rw [hM, h1, h2, h3]
  exact only_of (by grind)

theorem jmpr (t rd rs : Nat) (imm : BitVec 16) : Statement (.jmpr t rd rs imm) := by
  intro h w hw
  simp only [Instr.wf, Bool.and_eq_true, decide_eq_true_eq] at h
  cases hw
  obtain ⟨hM, h1, h2, h3⟩ := encI_fields (m := 0x24) (rd := rd) (rs := rs) imm (by decide) (by omega) (by omega)
  refine ⟨t, by omega, ?_⟩
  unfold decodeWord
  dsimp only
  rw [hM, h1, h2, h3]
  rfl

theorem b (t : Nat) (cond : Cond) (off : BitVec 22) : Statement (.b t cond off) := by
  intro h w hw
  simp only [Instr.wf, Bool.and_eq_true, decide_eq_true_eq] at h
  cases hw
  obtain ⟨hc, hl⟩ := decodeCond_encodeCond h.2
  obtain ⟨hM, h1, h2⟩ := encB_fields (m := 0x30) off (by decide) hl
  refine ⟨t, h.1, ?_⟩
  unfold decodeWord
  dsimp only
  rw [hM, h1, h2]
  show (decodeCond _).map _ = _
  rw [hc]
  rfl

theorem bl (t : Nat) (cond : Cond) (off : BitVec 22) : Statement (.bl t cond off) := by
  intro h w hw
  simp only [Instr.wf, Bool.and_eq_true, decide_eq_true_eq] at h
  cases hw
  obtain ⟨hc, hl⟩ := decodeCond_encodeCond h.2
  obtain ⟨hM, h1, h2⟩ := encB_fields (m := 0x31) off (by decide) hl
  refine ⟨t, h.1, ?_⟩
  unfold decodeWord
  dsimp only
  rw [hM, h1, h2]
  show (decodeCond _).map _ = _
  rw [hc]
  rfl

theorem fence (t : Nat) : Statement (.fence t) := by
  intro h w hw
  simp only [Instr.wf, decide_eq_true_eq] at h
  cases hw
  refine ⟨t, by omega, of_S (by omega) (by omega) (by omega) (by omega) (by decide) fun w h1 h2 h3 h4 h5 => ?_⟩
  unfold decode38
  rw [h1, h2, h3, h4, h5]
  exact only_of (by grind)

theorem halt (t : Nat) : Statement (.halt t) := by
  intro h w hw
  simp only [Instr.wf, decide_eq_true_eq] at h
  cases hw
  refine ⟨t, by omega, of_S (by omega) (by omega) (by omega) (by omega) (by decide) fun w h1 h2 h3 h4 h5 => ?_⟩
  unfold decode38
  rw [h1, h2, h3, h4, h5]
  exact only_of (by grind)

theorem trap (t k : Nat) : Statement (.trap t k) := by
  intro h w hw
  simp only [Instr.wf, Bool.and_eq_true, decide_eq_true_eq] at h
  cases hw
  refine ⟨t, by omega, of_S (by omega) (by omega) (by omega) (by omega) (by decide) fun w h1 h2 h3 h4 h5 => ?_⟩
  unfold decode38
  rw [h1, h2, h3, h4, h5]
  exact only_of (by grind)

theorem eret (t : Nat) : Statement (.eret t) := by
  intro h w hw
  simp only [Instr.wf, decide_eq_true_eq] at h
  cases hw
  refine ⟨t, by omega, of_S (by omega) (by omega) (by omega) (by omega) (by decide) fun w h1 h2 h3 h4 h5 => ?_⟩
  unfold decode38
  rw [h1, h2, h3, h4, h5]
  exact only_of (by grind)

theorem brk (t : Nat) : Statement (.brk t) := by
  intro h w hw
  simp only [Instr.wf, decide_eq_true_eq] at h
  cases hw
  refine ⟨t, by omega, of_S (by omega) (by omega) (by omega) (by omega) (by decide) fun w h1 h2 h3 h4 h5 => ?_⟩
  unfold decode38
  rw [h1, h2, h3, h4, h5]
  exact only_of (by grind)

theorem rdcyc (t rd : Nat) : Statement (.rdcyc t rd) := by
  intro h w hw
  simp only [Instr.wf, Bool.and_eq_true, decide_eq_true_eq] at h
  cases hw
  refine ⟨t, by omega, of_S (by omega) (by omega) (by omega) (by omega) (by decide) fun w h1 h2 h3 h4 h5 => ?_⟩
  unfold decode38
  rw [h1, h2, h3, h4, h5]
  exact only_of (by grind)

theorem tellerWatchdog (t : Nat) : Statement (.tellerWatchdog t) := by
  intro _ w hw
  cases hw

theorem waitev (t rd rs : Nat) : Statement (.waitev t rd rs) := by
  intro h w hw
  simp only [Instr.wf, Bool.and_eq_true, decide_eq_true_eq] at h
  cases hw
  refine ⟨t, by omega, of_S (by omega) (by omega) (by omega) (by omega) (by decide) fun w h1 h2 h3 h4 h5 => ?_⟩
  unfold decode38
  rw [h1, h2, h3, h4, h5]
  exact only_of (by grind)

theorem waitevResume (t : Nat) : Statement (.waitevResume t) := by
  intro _ w hw
  cases hw

theorem tsig (t rd rs b : Nat) : Statement (.tsig t rd rs b) := by
  intro h w hw
  simp only [Instr.wf, Bool.and_eq_true, decide_eq_true_eq] at h
  cases hw
  refine ⟨t, by omega, of_S (by omega) (by omega) (by omega) (by omega) (by decide) fun w h1 h2 h3 h4 h5 => ?_⟩
  unfold decode38
  rw [h1, h2, h3, h4, h5]
  exact only_of (by grind)

theorem evclr (t rs : Nat) : Statement (.evclr t rs) := by
  intro h w hw
  simp only [Instr.wf, Bool.and_eq_true, decide_eq_true_eq] at h
  cases hw
  refine ⟨t, by omega, of_S (by omega) (by omega) (by omega) (by omega) (by decide) fun w h1 h2 h3 h4 h5 => ?_⟩
  unfold decode38
  rw [h1, h2, h3, h4, h5]
  exact only_of (by grind)

theorem claim (t rd rs : Nat) : Statement (.claim t rd rs) := by
  intro h w hw
  simp only [Instr.wf, Bool.and_eq_true, decide_eq_true_eq] at h
  cases hw
  refine ⟨t, by omega, of_S (by omega) (by omega) (by omega) (by omega) (by decide) fun w h1 h2 h3 h4 h5 => ?_⟩
  unfold decode38
  rw [h1, h2, h3, h4, h5]
  exact only_of (by grind)

theorem recv (t rd rt : Nat) : Statement (.recv t rd rt) := by
  intro h w hw
  simp only [Instr.wf, Bool.and_eq_true, decide_eq_true_eq] at h
  cases hw
  refine ⟨t, by omega, of_S (by omega) (by omega) (by omega) (by omega) (by decide) fun w h1 h2 h3 h4 h5 => ?_⟩
  unfold decode38
  rw [h1, h2, h3, h4, h5]
  exact only_of (by grind)

theorem commit (t rd rs : Nat) : Statement (.commit t rd rs) := by
  intro h w hw
  simp only [Instr.wf, Bool.and_eq_true, decide_eq_true_eq] at h
  cases hw
  refine ⟨t, by omega, of_S (by omega) (by omega) (by omega) (by omega) (by decide) fun w h1 h2 h3 h4 h5 => ?_⟩
  unfold decode38
  rw [h1, h2, h3, h4, h5]
  exact only_of (by grind)

theorem take (t rd rs rt : Nat) : Statement (.take t rd rs rt) := by
  intro h w hw
  simp only [Instr.wf, Bool.and_eq_true, decide_eq_true_eq] at h
  cases hw
  refine ⟨t, by omega, of_S (by omega) (by omega) (by omega) (by omega) (by decide) fun w h1 h2 h3 h4 h5 => ?_⟩
  unfold decode38
  rw [h1, h2, h3, h4, h5]
  exact only_of (by grind)

theorem settle (t rd rs rt : Nat) : Statement (.settle t rd rs rt) := by
  intro h w hw
  simp only [Instr.wf, Bool.and_eq_true, decide_eq_true_eq] at h
  cases hw
  refine ⟨t, by omega, of_S (by omega) (by omega) (by omega) (by omega) (by decide) fun w h1 h2 h3 h4 h5 => ?_⟩
  unfold decode38
  rw [h1, h2, h3, h4, h5]
  exact only_of (by grind)

theorem lacq (t rd rs : Nat) : Statement (.lacq t rd rs) := by
  intro h w hw
  simp only [Instr.wf, Bool.and_eq_true, decide_eq_true_eq] at h
  cases hw
  refine ⟨t, by omega, of_S (by omega) (by omega) (by omega) (by omega) (by decide) fun w h1 h2 h3 h4 h5 => ?_⟩
  unfold decode38
  rw [h1, h2, h3, h4, h5]
  exact only_of (by grind)

theorem lrel (t rd rs : Nat) : Statement (.lrel t rd rs) := by
  intro h w hw
  simp only [Instr.wf, Bool.and_eq_true, decide_eq_true_eq] at h
  cases hw
  refine ⟨t, by omega, of_S (by omega) (by omega) (by omega) (by omega) (by decide) fun w h1 h2 h3 h4 h5 => ?_⟩
  unfold decode38
  rw [h1, h2, h3, h4, h5]
  exact only_of (by grind)

theorem mbpost (t rd rs rt : Nat) : Statement (.mbpost t rd rs rt) := by
  intro h w hw
  simp only [Instr.wf, Bool.and_eq_true, decide_eq_true_eq] at h
  cases hw
  refine ⟨t, by omega, of_S (by omega) (by omega) (by omega) (by omega) (by decide) fun w h1 h2 h3 h4 h5 => ?_⟩
  unfold decode38
  rw [h1, h2, h3, h4, h5]
  exact only_of (by grind)

theorem evpost (t rd rs rt : Nat) : Statement (.evpost t rd rs rt) := by
  intro h w hw
  simp only [Instr.wf, Bool.and_eq_true, decide_eq_true_eq] at h
  cases hw
  refine ⟨t, by omega, of_S (by omega) (by omega) (by omega) (by omega) (by decide) fun w h1 h2 h3 h4 h5 => ?_⟩
  unfold decode38
  rw [h1, h2, h3, h4, h5]
  exact only_of (by grind)

theorem dmakick (t rd rs : Nat) : Statement (.dmakick t rd rs) := by
  intro h w hw
  simp only [Instr.wf, Bool.and_eq_true, decide_eq_true_eq] at h
  cases hw
  refine ⟨t, by omega, of_S (by omega) (by omega) (by omega) (by omega) (by decide) fun w h1 h2 h3 h4 h5 => ?_⟩
  unfold decode38
  rw [h1, h2, h3, h4, h5]
  exact only_of (by grind)

theorem audit (t rd rs pn : Nat) : Statement (.audit t rd rs pn) := by
  intro h w hw
  simp only [Instr.wf, Bool.and_eq_true, decide_eq_true_eq] at h
  cases hw
  refine ⟨t, by omega, of_S (by omega) (by omega) (by omega) (by omega) (by decide) fun w h1 h2 h3 h4 h5 => ?_⟩
  unfold decode38
  rw [h1, h2, h3, h4, h5]
  exact only_of (by grind)

theorem tlrGo (mask : Nat) : Statement (.tlrGo mask) := by
  intro _ w hw
  cases hw

theorem tlrStop (mask : Nat) : Statement (.tlrStop mask) := by
  intro _ w hw
  cases hw

theorem tlrRst (key mask : Nat) : Statement (.tlrRst key mask) := by
  intro _ w hw
  cases hw

theorem comparatorCrossing : Statement (.comparatorCrossing) := by
  intro _ w hw
  cases hw

theorem actionFabricAck : Statement (.actionFabricAck) := by
  intro _ w hw
  cases hw

theorem actionWriteTimeout : Statement (.actionWriteTimeout) := by
  intro _ w hw
  cases hw

theorem heldComparatorFire : Statement (.heldComparatorFire) := by
  intro _ w hw
  cases hw

theorem actionEntryWrite (who : Option Nat) (n word v : Nat) : Statement (.actionEntryWrite who n word v) := by
  intro _ w hw
  cases hw

theorem p0clr (v : Nat) : Statement (.p0clr v) := by
  intro _ w hw
  cases hw

theorem orderEccError (h : Nat) : Statement (.orderEccError h) := by
  intro _ w hw
  cases hw

theorem run : Statement (.run) := by
  intro _ w hw
  cases hw

theorem stop : Statement (.stop) := by
  intro _ w hw
  cases hw

theorem commitAccept : Statement (.commitAccept) := by
  intro _ w hw
  cases hw

theorem escrowClose : Statement (.escrowClose) := by
  intro _ w hw
  cases hw

theorem close (h : Hdr) (c : CloseRec) : Statement (.close h c) := by
  intro _ w hw
  cases hw

theorem slotRelease (slot stn : Nat) : Statement (.slotRelease slot stn) := by
  intro _ w hw
  cases hw

theorem noclose (stn : Nat) : Statement (.noclose stn) := by
  intro _ w hw
  cases hw

theorem endrun (h : Hdr) (slot ec : Nat) : Statement (.endrun h slot ec) := by
  intro _ w hw
  cases hw

theorem slotWindowStart (slot stn : Nat) : Statement (.slotWindowStart slot stn) := by
  intro _ w hw
  cases hw

theorem slotComplete (slot : Nat) : Statement (.slotComplete slot) := by
  intro _ w hw
  cases hw

theorem voidrep (h : Hdr) (v : VoidRec) : Statement (.voidrep h v) := by
  intro _ w hw
  cases hw

theorem void (h : Hdr) (v : VoidRec) : Statement (.void h v) := by
  intro _ w hw
  cases hw

theorem escVoidreq (slot : Nat) : Statement (.escVoidreq slot) := by
  intro _ w hw
  cases hw

theorem descriptorEccError (waiting : Bool) (i : Nat) : Statement (.descriptorEccError waiting i) := by
  intro _ w hw
  cases hw

theorem sosEdge (n rise width phase pp : Nat) : Statement (.sosEdge n rise width phase pp) := by
  intro _ w hw
  cases hw

theorem eosEdge (n time pp width : Nat) : Statement (.eosEdge n time pp width) := by
  intro _ w hw
  cases hw

theorem sosPredict (n phase : Nat) : Statement (.sosPredict n phase) := by
  intro _ w hw
  cases hw

theorem sweepBoundary (n late : Nat) : Statement (.sweepBoundary n late) := by
  intro _ w hw
  cases hw

theorem plockEnable (n : Nat) (on : Bool) : Statement (.plockEnable n on) := by
  intro _ w hw
  cases hw

theorem bandChange (n : Nat) : Statement (.bandChange n) := by
  intro _ w hw
  cases hw

theorem pllLossOfLock (n : Nat) : Statement (.pllLossOfLock n) := by
  intro _ w hw
  cases hw

theorem profileCommit (n : Nat) : Statement (.profileCommit n) := by
  intro _ w hw
  cases hw

theorem referenceWindow (a b : Int) : Statement (.referenceWindow a b) := by
  intro _ w hw
  cases hw

theorem referenceDead (r : Nat) : Statement (.referenceDead r) := by
  intro _ w hw
  cases hw

theorem referenceSwitch : Statement (.referenceSwitch) := by
  intro _ w hw
  cases hw

theorem swreq : Statement (.swreq) := by
  intro _ w hw
  cases hw

theorem norefTimeout : Statement (.norefTimeout) := by
  intro _ w hw
  cases hw

theorem linkTrainingStart (n : Nat) : Statement (.linkTrainingStart n) := by
  intro _ w hw
  cases hw

theorem statusFrame (n frame : Nat) : Statement (.statusFrame n frame) := by
  intro _ w hw
  cases hw

theorem retryStart (n : Nat) : Statement (.retryStart n) := by
  intro _ w hw
  cases hw

theorem missReportTimeout (n : Nat) : Statement (.missReportTimeout n) := by
  intro _ w hw
  cases hw

theorem trainingTimeout (n : Nat) : Statement (.trainingTimeout n) := by
  intro _ w hw
  cases hw

theorem overscanReportTimeout (n e : Nat) : Statement (.overscanReportTimeout n e) := by
  intro _ w hw
  cases hw

theorem laneReturn (n : Nat) : Statement (.laneReturn n) := by
  intro _ w hw
  cases hw

theorem frameGapApply (n : Nat) : Statement (.frameGapApply n) := by
  intro _ w hw
  cases hw

theorem deadclrAll (n : Nat) : Statement (.deadclrAll n) := by
  intro _ w hw
  cases hw

theorem deadclrOne (n e : Nat) : Statement (.deadclrOne n e) := by
  intro _ w hw
  cases hw

theorem storeEnable (drives : List DriveId) (label : Option Label) : Statement (.storeEnable drives label) := by
  intro _ w hw
  cases hw

theorem stoFormat (key : Nat) : Statement (.stoFormat key) := by
  intro _ w hw
  cases hw

theorem reserve (a : Nat) : Statement (.reserve a) := by
  intro _ w hw
  cases hw

theorem release (a : Nat) : Statement (.release a) := by
  intro _ w hw
  cases hw

theorem releaseComplete (ext : Nat) : Statement (.releaseComplete ext) := by
  intro _ w hw
  cases hw

theorem ingest (a : Nat) : Statement (.ingest a) := by
  intro _ w hw
  cases hw

theorem cancel (a : Nat) : Statement (.cancel a) := by
  intro _ w hw
  cases hw

theorem ingestDatagram (p : Nat) (bytes : List Byte) : Statement (.ingestDatagram p bytes) := by
  intro _ w hw
  cases hw

theorem ingestComplete (ext : Nat) : Statement (.ingestComplete ext) := by
  intro _ w hw
  cases hw

theorem ingestTimeout (ext : Nat) : Statement (.ingestTimeout ext) := by
  intro _ w hw
  cases hw

theorem prefetchIssue : Statement (.prefetchIssue) := by
  intro _ w hw
  cases hw

theorem nvmeCompletion (drive cid status : Nat) (data : List Byte) : Statement (.nvmeCompletion drive cid status data) := by
  intro _ w hw
  cases hw

theorem nvmeTimeout (cid : Nat) : Statement (.nvmeTimeout cid) := by
  intro _ w hw
  cases hw

theorem readDeadline (slot stn row : Nat) : Statement (.readDeadline slot stn row) := by
  intro _ w hw
  cases hw

theorem tileDecode (slot stn row col : Nat) : Statement (.tileDecode slot stn row col) := by
  intro _ w hw
  cases hw

theorem driveViolation (drive : Nat) (kind : DriveViol) : Statement (.driveViolation drive kind) := by
  intro _ w hw
  cases hw

theorem dmaArm (n : Nat) : Statement (.dmaArm n) := by
  intro _ w hw
  cases hw

theorem dmaAbort (n : Nat) : Statement (.dmaAbort n) := by
  intro _ w hw
  cases hw

theorem dmaPause (n : Nat) (on : Bool) : Statement (.dmaPause n on) := by
  intro _ w hw
  cases hw

theorem go (n : Nat) : Statement (.go n) := by
  intro _ w hw
  cases hw

theorem clrerr (n : Nat) : Statement (.clrerr n) := by
  intro _ w hw
  cases hw

theorem cont (n : Nat) : Statement (.cont n) := by
  intro _ w hw
  cases hw

theorem dmaTimerExpiry (k : Nat) : Statement (.dmaTimerExpiry k) := by
  intro _ w hw
  cases hw

theorem dmaTrigger (n : Nat) : Statement (.dmaTrigger n) := by
  intro _ w hw
  cases hw

theorem dmaGrainStart (n : Nat) : Statement (.dmaGrainStart n) := by
  intro _ w hw
  cases hw

theorem descriptorFetch (n : Nat) (ok : Bool) (data : List Byte) : Statement (.descriptorFetch n ok data) := by
  intro _ w hw
  cases hw

theorem dmaReadComplete (n : Nat) (ok : Bool) (data : List Byte) : Statement (.dmaReadComplete n ok data) := by
  intro _ w hw
  cases hw

theorem dmaWriteComplete (n : Nat) : Statement (.dmaWriteComplete n) := by
  intro _ w hw
  cases hw

theorem dmaTimeout (n what : Nat) : Statement (.dmaTimeout n what) := by
  intro _ w hw
  cases hw

theorem start (i : Nat) : Statement (.start i) := by
  intro _ w hw
  cases hw

theorem sensingEnd (i amp freq : Nat) (fwd : Bool) (ang : Nat) (vsw : List Nat) : Statement (.sensingEnd i amp freq fwd ang vsw) := by
  intro _ w hw
  cases hw

theorem alignEnd (i : Nat) : Statement (.alignEnd i) := by
  intro _ w hw
  cases hw

theorem stopCmd (i : Nat) : Statement (.stopCmd i) := by
  intro _ w hw
  cases hw

theorem coast (i : Nat) : Statement (.coast i) := by
  intro _ w hw
  cases hw

theorem move (i : Nat) : Statement (.move i) := by
  intro _ w hw
  cases hw

theorem pwmPeriod (i : Nat) (adc : List (Option Int)) : Statement (.pwmPeriod i adc) := by
  intro _ w hw
  cases hw

theorem arcHoldEnd (h : Nat) : Statement (.arcHoldEnd h) := by
  intro _ w hw
  cases hw

theorem hvRegTimeout (h : Nat) : Statement (.hvRegTimeout h) := by
  intro _ w hw
  cases hw

theorem switchTransition (c : Nat) (hs : Bool) (start ns : Nat) : Statement (.switchTransition c hs start ns) := by
  intro _ w hw
  cases hw

theorem driverFault (f : DrvFault) (mv since : Nat) : Statement (.driverFault f mv since) := by
  intro _ w hw
  cases hw

theorem brakeComparator (a mv : Nat) : Statement (.brakeComparator a mv) := by
  intro _ w hw
  cases hw

theorem brakeArmWrite (a : Nat) (v : Bool) : Statement (.brakeArmWrite a v) := by
  intro _ w hw
  cases hw

theorem coefficientCommit (l : Nat) : Statement (.coefficientCommit l) := by
  intro _ w hw
  cases hw

theorem rcClr (r : Nat) : Statement (.rcClr r) := by
  intro _ w hw
  cases hw

theorem hvEnable (h : Nat) (on : Bool) : Statement (.hvEnable h on) := by
  intro _ w hw
  cases hw

theorem acen (h : Nat) (on : Bool) : Statement (.acen h on) := by
  intro _ w hw
  cases hw

theorem zeroCrossing (half : Nat) : Statement (.zeroCrossing half) := by
  intro _ w hw
  cases hw

theorem zeroCrossTimeout : Statement (.zeroCrossTimeout) := by
  intro _ w hw
  cases hw

theorem zoneTempUpdate (z : Nat) (adc : List (Option Int)) : Statement (.zoneTempUpdate z adc) := by
  intro _ w hw
  cases hw

theorem thermalModelUpdate (m p : Nat) (die : Option Int) (adc : List (Option Int)) : Statement (.thermalModelUpdate m p die adc) := by
  intro _ w hw
  cases hw

theorem limitFactorStep (m : Nat) : Statement (.limitFactorStep m) := by
  intro _ w hw
  cases hw

theorem thermalHardAction (m : Nat) : Statement (.thermalHardAction m) := by
  intro _ w hw
  cases hw

theorem req (n : Nat) : Statement (.req n) := by
  intro _ w hw
  cases hw

theorem reqd : Statement (.reqd) := by
  intro _ w hw
  cases hw

theorem calibrationStart (n : Nat) : Statement (.calibrationStart n) := by
  intro _ w hw
  cases hw

theorem calibrationEnd (n : Nat) (m : CalMeas) : Statement (.calibrationEnd n m) := by
  intro _ w hw
  cases hw

theorem calibrationAbandon (n : Nat) : Statement (.calibrationAbandon n) := by
  intro _ w hw
  cases hw

theorem markEdge (n : Nat) : Statement (.markEdge n) := by
  intro _ w hw
  cases hw

theorem registrationCorrection (slot : Nat) : Statement (.registrationCorrection slot) := by
  intro _ w hw
  cases hw

theorem missedMark (slot stn : Nat) : Statement (.missedMark slot stn) := by
  intro _ w hw
  cases hw

theorem auditRequest (code : Nat) : Statement (.auditRequest code) := by
  intro _ w hw
  cases hw

theorem auditStart (i : Nat) : Statement (.auditStart i) := by
  intro _ w hw
  cases hw

theorem auditSuspend (i : Nat) : Statement (.auditSuspend i) := by
  intro _ w hw
  cases hw

theorem auditComplete (i : Nat) (r : AudResult) : Statement (.auditComplete i r) := by
  intro _ w hw
  cases hw

theorem faultSourceEvent (b src : Nat) (given : Option Nat) : Statement (.faultSourceEvent b src given) := by
  intro _ w hw
  cases hw

theorem graceExpiry (b : Nat) : Statement (.graceExpiry b) := by
  intro _ w hw
  cases hw

theorem quietPeriodEnd (b : Nat) : Statement (.quietPeriodEnd b) := by
  intro _ w hw
  cases hw

theorem fltBlkrst (key b : Nat) : Statement (.fltBlkrst key b) := by
  intro _ w hw
  cases hw

theorem pinReadbackError (p n : Bool) : Statement (.pinReadbackError p n) := by
  intro _ w hw
  cases hw

theorem lsiOpen (aOpen bOpen : Bool) : Statement (.lsiOpen aOpen bOpen) := by
  intro _ w hw
  cases hw

theorem lsiSettled : Statement (.lsiSettled) := by
  intro _ w hw
  cases hw

theorem lsiDiscrepancy (aOpen : Bool) : Statement (.lsiDiscrepancy aOpen) := by
  intro _ w hw
  cases hw

theorem rearm : Statement (.rearm) := by
  intro _ w hw
  cases hw

theorem fltRun : Statement (.fltRun) := by
  intro _ w hw
  cases hw

theorem mirror (h : Hdr) (r : MirRec) : Statement (.mirror h r) := by
  intro _ w hw
  cases hw

theorem watermark (h : Hdr) (sent settled event : Nat) : Statement (.watermark h sent settled event) := by
  intro _ w hw
  cases hw

theorem mirack (h : Hdr) (mseq : Nat) : Statement (.mirack h mseq) := by
  intro _ w hw
  cases hw

theorem mirreq (h : Hdr) (first last : Nat) : Statement (.mirreq h first last) := by
  intro _ w hw
  cases hw

theorem beaconMissing : Statement (.beaconMissing) := by
  intro _ w hw
  cases hw

theorem probe (h : Hdr) (seq : Nat) : Statement (.probe h seq) := by
  intro _ w hw
  cases hw

theorem probeans (h : Hdr) (seq : Nat) : Statement (.probeans h seq) := by
  intro _ w hw
  cases hw

theorem probeTimeout : Statement (.probeTimeout) := by
  intro _ w hw
  cases hw

theorem enableSwapEnd : Statement (.enableSwapEnd) := by
  intro _ w hw
  cases hw

theorem relinquish (h : Hdr) : Statement (.relinquish h) := by
  intro _ w hw
  cases hw

theorem relinq : Statement (.relinq) := by
  intro _ w hw
  cases hw

theorem ownBeaconLoss : Statement (.ownBeaconLoss) := by
  intro _ w hw
  cases hw

theorem swap : Statement (.swap) := by
  intro _ w hw
  cases hw

theorem swapreq (h : Hdr) (seq : Nat) : Statement (.swapreq h seq) := by
  intro _ w hw
  cases hw

theorem swapack (h : Hdr) (seq : Nat) (agreed : Bool) : Statement (.swapack h seq agreed) := by
  intro _ w hw
  cases hw

theorem swapBoundary : Statement (.swapBoundary) := by
  intro _ w hw
  cases hw

theorem nodelost (n : Nat) : Statement (.nodelost n) := by
  intro _ w hw
  cases hw

theorem accRst (key a : Nat) (vault : Bool) : Statement (.accRst key a vault) := by
  intro _ w hw
  cases hw

theorem body (a : Nat) : Statement (.body a) := by
  intro _ w hw
  cases hw

theorem submit (a : Nat) : Statement (.submit a) := by
  intro _ w hw
  cases hw

theorem send (a : Nat) : Statement (.send a) := by
  intro _ w hw
  cases hw

theorem mbCommit (a : Nat) : Statement (.mbCommit a) := by
  intro _ w hw
  cases hw

theorem mbLacq (a : Nat) : Statement (.mbLacq a) := by
  intro _ w hw
  cases hw

theorem mbLrel (a : Nat) : Statement (.mbLrel a) := by
  intro _ w hw
  cases hw

theorem load (a : Nat) (bytes : List Byte) : Statement (.load a bytes) := by
  intro _ w hw
  cases hw

theorem keyprov (a : Nat) : Statement (.keyprov a) := by
  intro _ w hw
  cases hw

theorem keyrevoke (a : Nat) : Statement (.keyrevoke a) := by
  intro _ w hw
  cases hw

theorem mailboxTimeout (a : Nat) : Statement (.mailboxTimeout a) := by
  intro _ w hw
  cases hw

theorem evqHeadWrite (a h : Nat) : Statement (.evqHeadWrite a h) := by
  intro _ w hw
  cases hw

theorem evqEnable (a : Nat) : Statement (.evqEnable a) := by
  intro _ w hw
  cases hw

theorem evqDisable (a : Nat) : Statement (.evqDisable a) := by
  intro _ w hw
  cases hw

theorem msixModerationExpiry (a : Nat) : Statement (.msixModerationExpiry a) := by
  intro _ w hw
  cases hw

theorem functionLevelReset : Statement (.functionLevelReset) := by
  intro _ w hw
  cases hw

theorem hostPerstN : Statement (.hostPerstN) := by
  intro _ w hw
  cases hw

theorem ethernetFrame (p : Nat) (bytes : List Byte) (full : Bool) : Statement (.ethernetFrame p bytes full) := by
  intro _ w hw
  cases hw

theorem linkctl (h : Hdr) (lseq : Nat) (nak : Bool) : Statement (.linkctl h lseq nak) := by
  intro _ w hw
  cases hw

theorem linkRetransmitTimeout (d : Nat) (long : Bool) : Statement (.linkRetransmitTimeout d long) := by
  intro _ w hw
  cases hw

theorem msg (h : Hdr) (m : Msg) : Statement (.msg h m) := by
  intro _ w hw
  cases hw

theorem msgstat (h : Hdr) (status dst : Nat) : Statement (.msgstat h status dst) := by
  intro _ w hw
  cases hw

theorem msgTimeout (ep dst : Nat) : Statement (.msgTimeout ep dst) := by
  intro _ w hw
  cases hw

theorem stopreq (h : Hdr) (reason : Nat) : Statement (.stopreq h reason) := by
  intro _ w hw
  cases hw

theorem stopnow (h : Hdr) (incident reason : Nat) : Statement (.stopnow h incident reason) := by
  intro _ w hw
  cases hw

theorem now : Statement (.now) := by
  intro _ w hw
  cases hw

theorem auxStopEdge (n : Nat) : Statement (.auxStopEdge n) := by
  intro _ w hw
  cases hw

theorem hello (h : Hdr) (serial strap role portmap dlyA dlyB : Nat) : Statement (.hello h serial strap role portmap dlyA dlyB) := by
  intro _ w hw
  cases hw

theorem assign (h : Hdr) (serial node role pathA pathB : Nat) : Statement (.assign h serial node role pathA pathB) := by
  intro _ w hw
  cases hw

theorem config (h : Hdr) (pairs : List (Nat × Nat)) : Statement (.config h pairs) := by
  intro _ w hw
  cases hw

theorem dlyprobe (h : Hdr) (time : Nat) : Statement (.dlyprobe h time) := by
  intro _ w hw
  cases hw

theorem dlyecho (h : Hdr) (time trip : Nat) : Statement (.dlyecho h time trip) := by
  intro _ w hw
  cases hw

theorem commitrb : Statement (.commitrb) := by
  intro _ w hw
  cases hw

theorem vltAliasdataWrite (v : Nat) : Statement (.vltAliasdataWrite v) := by
  intro _ w hw
  cases hw

theorem vltMembersWrite (h v : Nat) : Statement (.vltMembersWrite h v) := by
  intro _ w hw
  cases hw

theorem dormantEntry : Statement (.dormantEntry) := by
  intro _ w hw
  cases hw

theorem dormantSleep : Statement (.dormantSleep) := by
  intro _ w hw
  cases hw

theorem wake (rtc : Nat) : Statement (.wake rtc) := by
  intro _ w hw
  cases hw

theorem i2cWrite (dev a v : Nat) : Statement (.i2cWrite dev a v) := by
  intro _ w hw
  cases hw

theorem i2cRead (dev a : Nat) : Statement (.i2cRead dev a) := by
  intro _ w hw
  cases hw

theorem jtagInstruction (i : Nat) : Statement (.jtagInstruction i) := by
  intro _ w hw
  cases hw

theorem headLinkSlot (n : Nat) : Statement (.headLinkSlot n) := by
  intro _ w hw
  cases hw

theorem referenceSwitchComplete : Statement (.referenceSwitchComplete) := by
  intro _ w hw
  cases hw

theorem pllLockAcquired (n : Nat) : Statement (.pllLockAcquired n) := by
  intro _ w hw
  cases hw

theorem referenceEdgeReturn (r : Nat) : Statement (.referenceEdgeReturn r) := by
  intro _ w hw
  cases hw

theorem driveDieSupplyChange (low : Bool) : Statement (.driveDieSupplyChange low) := by
  intro _ w hw
  cases hw

theorem thermalShutdownRelease (temps : List Int) : Statement (.thermalShutdownRelease temps) := by
  intro _ w hw
  cases hw

theorem illegalWordFetch (t : Nat) : Statement (.illegalWordFetch t) := by
  intro _ w hw
  cases hw

theorem tellerImageLoad : Statement (.tellerImageLoad) := by
  intro _ w hw
  cases hw

theorem driveFatalStatus (drive : Nat) : Statement (.driveFatalStatus drive) := by
  intro _ w hw
  cases hw

theorem hostLinkDown : Statement (.hostLinkDown) := by
  intro _ w hw
  cases hw

theorem poisonedTlp : Statement (.poisonedTlp) := by
  intro _ w hw
  cases hw

theorem ethernetLinkDown (p : Nat) : Statement (.ethernetLinkDown p) := by
  intro _ w hw
  cases hw

theorem uncorrectableCodeword (p : Nat) : Statement (.uncorrectableCodeword p) := by
  intro _ w hw
  cases hw

theorem ringLinkUp (d : Nat) : Statement (.ringLinkUp d) := by
  intro _ w hw
  cases hw

theorem acExcitationCycle (h : Nat) : Statement (.acExcitationCycle h) := by
  intro _ w hw
  cases hw

end Sys2Proof.Laws.Encoded
end

