-- ==== Sys2Proof/Laws/Ring.lean ====
section
/-! SUPPORT. What receiving a ring frame can do, said once: a frame out of turn is at most acknowledged again, one of a wrong form or a
lower TERM is a violation, a Manager that sees a higher TERM retires; else a broadcast goes on and acts, and a unicast
acts at its destination and goes on elsewhere (R325, R355 to R357). -/

namespace Sys2Proof.Machine

theorem rxFrame_deaf {s : State} {h : Hdr} {b : Bool} (hl : s.listens = false) : s.rxFrame h b = (s, false) := by
  cases ho : s.isOff <;> cases hr : s.ringRuns <;> simp_all [State.rxFrame, State.listens]

/-- A node that is off, or a ring that does not run, takes no frame. -/
theorem onFrame_deaf {s : State} {h : Hdr} {m : RingMsg} (body : State → State) (hl : s.listens = false) :
    s.onFrame h m body = s := by
  simp [State.onFrame, rxFrame_deaf hl]

theorem rxFrame_out_of_turn {s : State} {h : Hdr} {b : Bool} (hl : s.listens = true) (hc : h.err ≠ .crc)
    (hi : s.inTurn h = false) : s.rxFrame h b = (s.rxAgain h, false) := by
  cases ho : s.isOff <;> cases hr : s.ringRuns <;> simp_all [State.rxFrame, State.inTurn, State.listens]

/-- A good frame out of turn is at most acknowledged again. -/
theorem onFrame_out_of_turn {s : State} {h : Hdr} {m : RingMsg} (body : State → State) (hl : s.listens = true)
    (hc : h.err ≠ .crc) (hi : s.inTurn h = false) : s.onFrame h m body = s.rxAgain h := by
  simp [State.onFrame, rxFrame_out_of_turn hl hc hi]

/-- A frame with a wrong CRC. -/
theorem onFrame_bad {s : State} {h : Hdr} {m : RingMsg} (body : State → State) (hl : s.listens = true)
    (hc : h.err = .crc) : s.onFrame h m body = s.rxBad h := by
  simp [State.listens] at hl
  simp [State.onFrame, State.rxFrame, hl, hc]

/-- The checks on a frame in turn. -/
theorem rxFrame_in_turn {s : State} {h : Hdr} (b : Bool) (hi : s.inTurn h = true) : s.rxFrame h b =
    if formOk h = false then ((s.linkTook h).ringViolation h, false) else (s.linkTook h).rxTerm h b := by
  simp [State.inTurn, State.listens] at hi
  obtain ⟨⟨⟨ho, hr⟩, hc⟩, hl⟩ := hi
  have hw : formOk h = false ↔ h.err = .form ∨ 64 ≤ h.hops := by
    simp [formOk]
    by_cases e : h.err = .form <;> simp [e]
  unfold State.rxFrame
  by_cases he : h.lseq = 0xFFFF
  · simp [ho, hr, hc, he, hw, State.linkTook]
  · simp [ho, hr, hc, hw, State.linkTook, hl.resolve_left he]

/-- LINKCTL leaves every register as it was. -/
@[simp] theorem linkctlOut_fld (s : State) (d l : Nat) (n : Bool) (f : Field) : (s.linkctlOut d l n).fld f = s.fld f := by
  unfold State.linkctlOut
  split <;> rfl

/-- Taking a frame leaves every register as it was. -/
@[simp] theorem linkTook_fld (s : State) (h : Hdr) (f : Field) : (s.linkTook h).fld f = s.fld f := by
  unfold State.linkTook
  split
  · rfl
  · simp [linkctlOut_fld]; rfl

@[simp] theorem linkTook_isManager (s : State) (h : Hdr) : (s.linkTook h).isManager = s.isManager := by
  unfold State.isManager State.role
  rw [linkTook_fld]

@[simp] theorem linkTook_frameHere (s : State) (h : Hdr) : (s.linkTook h).frameHere h = s.frameHere h := by
  unfold State.frameHere State.role State.node
  simp only [linkTook_fld]

theorem onFrame_malformed {s : State} {h : Hdr} {m : RingMsg} (body : State → State) (hi : s.inTurn h = true)
    (hw : formOk h = false) : s.onFrame h m body = (s.linkTook h).ringViolation h := by
  simp [State.onFrame, rxFrame_in_turn _ hi, hw]

theorem onFrame_low_term {s : State} {h : Hdr} {m : RingMsg} (body : State → State) (hi : s.inTurn h = true)
    (hw : formOk h = true) (ht : h.term < s.fld GLB_TERM_TERM) :
    s.onFrame h m body = (s.linkTook h).ringViolation h := by
  simp [State.onFrame, rxFrame_in_turn _ hi, hw, State.rxTerm, ht]

theorem onFrame_high_term {s : State} {h : Hdr} {m : RingMsg} (body : State → State) (hi : s.inTurn h = true)
    (hw : formOk h = true) (hm : s.isManager = true) (ht : s.fld GLB_TERM_TERM < h.term) :
    s.onFrame h m body = (s.linkTook h).retire := by
  simp [State.onFrame, rxFrame_in_turn _ hi, hw, State.rxTerm, hm, ht, Nat.not_lt.mpr (Nat.le_of_lt ht)]

/-- A frame that passes every check is taken. -/
theorem rxFrame_hears {s : State} {h : Hdr} (hh : s.hears h = true) : s.rxFrame h false = (s.linkTook h, true) := by
  simp only [State.hears, Bool.and_eq_true, decide_eq_true_eq, Bool.not_eq_true', Bool.and_eq_false_iff,
    decide_eq_false_iff_not] at hh
  obtain ⟨⟨⟨hi, hw⟩, ht⟩, hm⟩ := hh
  have h1 : ¬ h.term < s.fld GLB_TERM_TERM := Nat.not_lt.mpr ht
  have h2 : ¬ (s.isManager = true ∧ s.fld GLB_TERM_TERM < h.term) := by
    rintro ⟨a, b⟩
    rcases hm with e | e
    · simp [a] at e
    · omega
  simp [rxFrame_in_turn _ hi, hw, State.rxTerm, h1, h2]

/-- A frame that the node acts on. -/
theorem onFrame_accepts {s : State} {h : Hdr} {m : RingMsg} (body : State → State) (ha : s.accepts h = true) :
    s.onFrame h m body = body (s.heard h m) := by
  simp only [State.accepts, Bool.and_eq_true] at ha
  simp only [State.onFrame, rxFrame_hears ha.1, State.heard, linkTook_frameHere, ha.2]
  by_cases hb : h.dst.isNone <;> simp [hb]

/-- A unicast that is not for this node goes on, or comes back to its source. -/
theorem onFrame_passes {s : State} {h : Hdr} {m : RingMsg} (body : State → State) (hh : s.hears h = true)
    (hf : s.frameHere h = false) : s.onFrame h m body =
      if (s.linkTook h).ownReturn h then (s.linkTook h).undelivered h m else (s.linkTook h).relay h m := by
  have hd : h.dst.isNone = false := by
    cases e : h.dst <;> simp_all [State.frameHere]
  simp [State.onFrame, rxFrame_hears hh, hd, hf]

/-- A frame for the neighbour. -/
theorem nearFrame_hears {s : State} {h : Hdr} (body : State → State) (hh : s.hears h = true) :
    s.nearFrame h body = body (s.linkTook h) := by
  simp [State.nearFrame, rxFrame_hears hh]

end Sys2Proof.Machine
end

