-- ==== Sys2Proof/Laws/Table.lean ====
section
/-! SUPPORT. Laws of the sparse table and of the byte memories: a read after a write, every other key unchanged, and the
canonical form kept by every operation. None of the read laws needs the canonical form. -/

namespace Sys2Proof.Machine

variable {α : Type}

/-- Dropping entries at or below `k` changes no read above `k`. -/
theorem tabGet_tabDrop_above (d : α) (k j : Nat) (h : k < j) : ∀ m : Tab α, tabGet d (tabDrop k m) j = tabGet d m j
  | [] => rfl
  | (k', v) :: m => by
    simp only [tabDrop]
    split
    · rw [tabGet_tabDrop_above d k j h m, tabGet, if_neg (by omega), if_neg (by omega)]
    · rfl

/-- Nothing at or below `k` is left. -/
theorem tabGet_tabDrop_below (d : α) (k j : Nat) (h : j ≤ k) : ∀ m : Tab α, tabGet d (tabDrop k m) j = d
  | [] => rfl
  | (k', v) :: m => by
    simp only [tabDrop]
    split
    · exact tabGet_tabDrop_below d k j h m
    · rw [tabGet, if_neg (by omega), if_pos (by omega)]

/-- A read of the key just written. -/
@[simp] theorem tabGet_tabSet_same [DecidableEq α] (d : α) (k : Nat) (v : α) :
    ∀ m : Tab α, tabGet d (tabSet d m k v) k = v
  | [] => by simp only [tabSet]; split <;> simp_all [tabGet]
  | (k', v') :: m => by
    simp only [tabSet]
    split
    · rw [tabGet, if_neg (by omega), if_neg (by omega), tabGet_tabSet_same d k v m]
    · split
      · rw [tabGet_tabDrop_below d k k (Nat.le_refl k)]; simp_all
      · rw [tabGet, if_pos rfl]

/-- A read of any other key, whatever default the reader uses. -/
theorem tabGet_tabSet_ne [DecidableEq α] (d e : α) (k j : Nat) (v : α) (h : j ≠ k) :
    ∀ m : Tab α, tabGet e (tabSet d m k v) j = tabGet e m j
  | [] => by
    simp only [tabSet]
    split
    · rfl
    · simp only [tabGet, if_neg h, ite_self]
  | (k', v') :: m => by
    have drop : ∀ hk : k ≤ k', tabGet e (tabDrop k ((k', v') :: m)) j = tabGet e ((k', v') :: m) j := by
      intro hk
      by_cases hj : k < j
      · exact tabGet_tabDrop_above e k j hj _
      · rw [tabGet_tabDrop_below e k j (by omega), tabGet, if_neg (by omega), if_pos (by omega)]
    simp only [tabSet]
    split
    · rw [tabGet, tabGet, tabGet_tabSet_ne d e k j v h m]
    · split
      · exact drop (by omega)
      · by_cases hj : j < k
        · rw [tabGet, if_neg h, if_pos hj, tabGet, if_neg (by omega), if_pos (by omega)]
        · rw [tabGet, if_neg h, if_neg hj]; exact drop (by omega)

/-! The canonical form. -/

theorem tabAbove_mono {k j : Nat} (h : j ≤ k) : ∀ m : Tab α, tabAbove k m = true → tabAbove j m = true
  | [], _ => rfl
  | (k', v) :: m, hk => by simp only [tabAbove, decide_eq_true_eq] at *; omega

theorem tabWf_tabDrop [DecidableEq α] (d : α) (k : Nat) :
    ∀ m : Tab α, tabWf d m = true → tabWf d (tabDrop k m) = true ∧ tabAbove k (tabDrop k m) = true
  | [], _ => ⟨rfl, rfl⟩
  | (k', v) :: m, h => by
    simp only [tabDrop]
    split
    · simp only [tabWf, Bool.and_eq_true] at h
      exact tabWf_tabDrop d k m h.2
    · exact ⟨h, by simp only [tabAbove, decide_eq_true_eq]; omega⟩

theorem tabAbove_tabSet [DecidableEq α] (d : α) {j k : Nat} (v : α) (hj : j < k) :
    ∀ m : Tab α, tabAbove j m = true → tabWf d m = true → tabAbove j (tabSet d m k v) = true
  | [], _, _ => by simp only [tabSet]; split <;> simp [tabAbove, hj]
  | (k', v') :: m, h, hw => by
    simp only [tabSet]
    split
    · exact h
    · split
      · exact tabAbove_mono (Nat.le_of_lt hj) _ (tabWf_tabDrop d k _ hw).2
      · simp [tabAbove, hj]

/-- A write keeps the canonical form. -/
theorem tabWf_tabSet [DecidableEq α] (d : α) (k : Nat) (v : α) :
    ∀ m : Tab α, tabWf d m = true → tabWf d (tabSet d m k v) = true
  | [], _ => by simp only [tabSet]; split <;> simp_all [tabWf, tabAbove]
  | (k', v') :: m, h => by
    have hd := tabWf_tabDrop d k _ h
    simp only [tabSet]
    split
    · simp only [tabWf, Bool.and_eq_true, decide_eq_true_eq] at h ⊢
      exact ⟨⟨h.1.1, tabAbove_tabSet d v (by assumption) m h.1.2 h.2⟩, tabWf_tabSet d k v m h.2⟩
    · split
      · exact hd.1
      · simp only [tabWf, Bool.and_eq_true, decide_eq_true_eq]
        exact ⟨⟨by assumption, hd.2⟩, hd.1⟩

/-! Byte memories. -/

@[simp] theorem memByte_memSet_same (m : Memory) (a : Nat) (b : Byte) : memByte (memSet m a b) a = b :=
  tabGet_tabSet_same 0 a b m

theorem memByte_memSet_ne (m : Memory) {a j : Nat} (b : Byte) (h : j ≠ a) : memByte (memSet m a b) j = memByte m j :=
  tabGet_tabSet_ne 0 0 a j b h m

theorem memWf_memSet {m : Memory} (a : Nat) (b : Byte) (h : m.wf = true) : (memSet m a b).wf = true :=
  tabWf_tabSet 0 a b m h

theorem memWf_memPut : ∀ (bs : List Byte) (m : Memory) (a : Nat), m.wf = true → (memPut m a bs).wf = true
  | [], _, _, h => h
  | b :: bs, m, a, h => memWf_memPut bs (memSet m a b) (a + 1) (memWf_memSet a b h)

theorem memWf_memStore {m : Memory} (a n v : Nat) (h : m.wf = true) : (memStore m a n v).wf = true :=
  memWf_memPut _ m a h

/-- A run of bytes written leaves every byte outside it. -/
theorem memByte_memPut_out {j : Nat} : ∀ (bs : List Byte) (m : Memory) (a : Nat), j < a ∨ a + bs.length ≤ j →
    memByte (memPut m a bs) j = memByte m j
  | [], _, _, _ => rfl
  | b :: bs, m, a, h => by
    simp only [List.length_cons] at h
    rw [memPut, memByte_memPut_out bs (memSet m a b) (a + 1) (by omega), memByte_memSet_ne m b (by omega)]

/-- A run of bytes written reads back. -/
theorem memByte_memPut_in : ∀ (bs : List Byte) (m : Memory) (a i : Nat), i < bs.length →
    memByte (memPut m a bs) (a + i) = bs.getD i 0
  | [], _, _, _, h => absurd h (by simp)
  | b :: bs, m, a, 0, _ => by
    rw [memPut, memByte_memPut_out bs (memSet m a b) (a + 1) (by omega)]; exact memByte_memSet_same m a b
  | b :: bs, m, a, i + 1, h => by
    simp only [List.length_cons] at h
    rw [memPut, show a + (i + 1) = a + 1 + i by omega, memByte_memPut_in bs (memSet m a b) (a + 1) i (by omega)]
    rfl

@[simp] theorem leBytes_length : ∀ n v : Nat, (leBytes n v).length = n
  | 0, _ => rfl
  | n + 1, v => by simp [leBytes, leBytes_length n]

/-- A store leaves every byte outside it. -/
theorem memByte_memStore_out {m : Memory} {a n v j : Nat} (h : j < a ∨ a + n ≤ j) :
    memByte (memStore m a n v) j = memByte m j := by
  rw [memStore, memByte_memPut_out _ _ _ (by simpa using h)]

theorem memBytes_memPut : ∀ (bs : List Byte) (m : Memory) (a : Nat), memBytes (memPut m a bs) a bs.length = bs
  | [], _, _ => rfl
  | b :: bs, m, a => by
    rw [List.length_cons, memBytes, memPut, memBytes_memPut bs (memSet m a b) (a + 1),
      memByte_memPut_out bs _ _ (by omega), memByte_memSet_same]

/-- The number of the bytes of a number. -/
theorem ofLe_leBytes : ∀ n v : Nat, ofLe (leBytes n v) = v % 256 ^ n
  | 0, v => by simp [leBytes, ofLe, Nat.mod_one]
  | n + 1, v => by
    have h : 256 ^ (n + 1) = 256 * 256 ^ n := by rw [Nat.pow_succ, Nat.mul_comm]
    rw [leBytes, ofLe, ofLe_leBytes n, BitVec.toNat_ofNat, h, Nat.mod_mul]

/-- A load after a store of the same bytes. -/
theorem memLoad_memStore (m : Memory) (a n v : Nat) : memLoad (memStore m a n v) a n = v % 256 ^ n := by
  have h := memBytes_memPut (leBytes n v) m a
  rw [leBytes_length] at h
  rw [memLoad, memStore, h, ofLe_leBytes]

end Sys2Proof.Machine
end

