-- ==== Sys2Proof/Laws/State.lean ====
section
/-! SUPPORT. One lemma per field of State and per update: the updated field's new value, every other field unchanged; and
the reads that go with each update. -/

set_option Elab.async false

namespace Sys2Proof.Machine

variable (s : State)

/-! State.setFld. -/

@[simp] theorem State.setFld_regs (f : Field) (v : Nat) : (s.setFld f v).regs = tabSet f.reset s.regs f.key (v % 2 ^ f.width) := rfl
@[simp] theorem State.setFld_tellers (f : Field) (v : Nat) : (s.setFld f v).tellers = s.tellers := rfl
@[simp] theorem State.setFld_pm (f : Field) (v : Nat) : (s.setFld f v).pm = s.pm := rfl
@[simp] theorem State.setFld_dm (f : Field) (v : Nat) : (s.setFld f v).dm = s.dm := rfl
@[simp] theorem State.setFld_pmErr (f : Field) (v : Nat) : (s.setFld f v).pmErr = s.pmErr := rfl
@[simp] theorem State.setFld_dmErr (f : Field) (v : Nat) : (s.setFld f v).dmErr = s.dmErr := rfl
@[simp] theorem State.setFld_cmps (f : Field) (v : Nat) : (s.setFld f v).cmps = s.cmps := rfl
@[simp] theorem State.setFld_armSeq (f : Field) (v : Nat) : (s.setFld f v).armSeq = s.armSeq := rfl
@[simp] theorem State.setFld_stream (f : Field) (v : Nat) : (s.setFld f v).stream = s.stream := rfl
@[simp] theorem State.setFld_wrrNow (f : Field) (v : Nat) : (s.setFld f v).wrrNow = s.wrrNow := rfl
@[simp] theorem State.setFld_orders (f : Field) (v : Nat) : (s.setFld f v).orders = s.orders := rfl
@[simp] theorem State.setFld_books (f : Field) (v : Nat) : (s.setFld f v).books = s.books := rfl
@[simp] theorem State.setFld_locks (f : Field) (v : Nat) : (s.setFld f v).locks = s.locks := rfl
@[simp] theorem State.setFld_esc (f : Field) (v : Nat) : (s.setFld f v).esc = s.esc := rfl
@[simp] theorem State.setFld_pos (f : Field) (v : Nat) : (s.setFld f v).pos = s.pos := rfl
@[simp] theorem State.setFld_time (f : Field) (v : Nat) : (s.setFld f v).time = s.time := rfl
@[simp] theorem State.setFld_held (f : Field) (v : Nat) : (s.setFld f v).held = s.held := rfl
@[simp] theorem State.setFld_modOpen (f : Field) (v : Nat) : (s.setFld f v).modOpen = s.modOpen := rfl
@[simp] theorem State.setFld_modPend (f : Field) (v : Nat) : (s.setFld f v).modPend = s.modPend := rfl
@[simp] theorem State.setFld_incidents (f : Field) (v : Nat) : (s.setFld f v).incidents = s.incidents := rfl
@[simp] theorem State.setFld_viols (f : Field) (v : Nat) : (s.setFld f v).viols = s.viols := rfl
@[simp] theorem State.setFld_links (f : Field) (v : Nat) : (s.setFld f v).links = s.links := rfl
@[simp] theorem State.setFld_peers (f : Field) (v : Nat) : (s.setFld f v).peers = s.peers := rfl
@[simp] theorem State.setFld_mirror (f : Field) (v : Nat) : (s.setFld f v).mirror = s.mirror := rfl
@[simp] theorem State.setFld_claims (f : Field) (v : Nat) : (s.setFld f v).claims = s.claims := rfl
@[simp] theorem State.setFld_inbox (f : Field) (v : Nat) : (s.setFld f v).inbox = s.inbox := rfl
@[simp] theorem State.setFld_posted (f : Field) (v : Nat) : (s.setFld f v).posted = s.posted := rfl
@[simp] theorem State.setFld_mbw (f : Field) (v : Nat) : (s.setFld f v).mbw = s.mbw := rfl
@[simp] theorem State.setFld_mbr (f : Field) (v : Nat) : (s.setFld f v).mbr = s.mbr := rfl
@[simp] theorem State.setFld_bodies (f : Field) (v : Nat) : (s.setFld f v).bodies = s.bodies := rfl
@[simp] theorem State.setFld_mbCmd (f : Field) (v : Nat) : (s.setFld f v).mbCmd = s.mbCmd := rfl
@[simp] theorem State.setFld_loading (f : Field) (v : Nat) : (s.setFld f v).loading = s.loading := rfl
@[simp] theorem State.setFld_pwr (f : Field) (v : Nat) : (s.setFld f v).pwr = s.pwr := rfl
@[simp] theorem State.setFld_scan (f : Field) (v : Nat) : (s.setFld f v).scan = s.scan := rfl
@[simp] theorem State.setFld_refs (f : Field) (v : Nat) : (s.setFld f v).refs = s.refs := rfl
@[simp] theorem State.setFld_head (f : Field) (v : Nat) : (s.setFld f v).head = s.head := rfl
@[simp] theorem State.setFld_expo (f : Field) (v : Nat) : (s.setFld f v).expo = s.expo := rfl
@[simp] theorem State.setFld_store (f : Field) (v : Nat) : (s.setFld f v).store = s.store := rfl
@[simp] theorem State.setFld_dma (f : Field) (v : Nat) : (s.setFld f v).dma = s.dma := rfl
@[simp] theorem State.setFld_dram (f : Field) (v : Nat) : (s.setFld f v).dram = s.dram := rfl
@[simp] theorem State.setFld_plant (f : Field) (v : Nat) : (s.setFld f v).plant = s.plant := rfl
@[simp] theorem State.setFld_keys (f : Field) (v : Nat) : (s.setFld f v).keys = s.keys := rfl
@[simp] theorem State.setFld_fwRollback (f : Field) (v : Nat) : (s.setFld f v).fwRollback = s.fwRollback := rfl
@[simp] theorem State.setFld_hellos (f : Field) (v : Nat) : (s.setFld f v).hellos = s.hellos := rfl
@[simp] theorem State.setFld_dly (f : Field) (v : Nat) : (s.setFld f v).dly = s.dly := rfl
@[simp] theorem State.setFld_fec (f : Field) (v : Nat) : (s.setFld f v).fec = s.fec := rfl
@[simp] theorem State.setFld_tap (f : Field) (v : Nat) : (s.setFld f v).tap = s.tap := rfl
@[simp] theorem State.setFld_flash (f : Field) (v : Nat) : (s.setFld f v).flash = s.flash := rfl
@[simp] theorem State.setFld_images (f : Field) (v : Nat) : (s.setFld f v).images = s.images := rfl
@[simp] theorem State.setFld_freeCtr (f : Field) (v : Nat) : (s.setFld f v).freeCtr = s.freeCtr := rfl
@[simp] theorem State.setFld_out (f : Field) (v : Nat) : (s.setFld f v).out = s.out := rfl
@[simp] theorem State.setFld_pending (f : Field) (v : Nat) : (s.setFld f v).pending = s.pending := rfl

/-! State.setTeller. -/

@[simp] theorem State.setTeller_regs (t : Nat) (x : Teller) : (s.setTeller t x).regs = s.regs := rfl
@[simp] theorem State.setTeller_tellers (t : Nat) (x : Teller) : (s.setTeller t x).tellers = tabSet Teller.init s.tellers t x := rfl
@[simp] theorem State.setTeller_pm (t : Nat) (x : Teller) : (s.setTeller t x).pm = s.pm := rfl
@[simp] theorem State.setTeller_dm (t : Nat) (x : Teller) : (s.setTeller t x).dm = s.dm := rfl
@[simp] theorem State.setTeller_pmErr (t : Nat) (x : Teller) : (s.setTeller t x).pmErr = s.pmErr := rfl
@[simp] theorem State.setTeller_dmErr (t : Nat) (x : Teller) : (s.setTeller t x).dmErr = s.dmErr := rfl
@[simp] theorem State.setTeller_cmps (t : Nat) (x : Teller) : (s.setTeller t x).cmps = s.cmps := rfl
@[simp] theorem State.setTeller_armSeq (t : Nat) (x : Teller) : (s.setTeller t x).armSeq = s.armSeq := rfl
@[simp] theorem State.setTeller_stream (t : Nat) (x : Teller) : (s.setTeller t x).stream = s.stream := rfl
@[simp] theorem State.setTeller_wrrNow (t : Nat) (x : Teller) : (s.setTeller t x).wrrNow = s.wrrNow := rfl
@[simp] theorem State.setTeller_orders (t : Nat) (x : Teller) : (s.setTeller t x).orders = s.orders := rfl
@[simp] theorem State.setTeller_books (t : Nat) (x : Teller) : (s.setTeller t x).books = s.books := rfl
@[simp] theorem State.setTeller_locks (t : Nat) (x : Teller) : (s.setTeller t x).locks = s.locks := rfl
@[simp] theorem State.setTeller_esc (t : Nat) (x : Teller) : (s.setTeller t x).esc = s.esc := rfl
@[simp] theorem State.setTeller_pos (t : Nat) (x : Teller) : (s.setTeller t x).pos = s.pos := rfl
@[simp] theorem State.setTeller_time (t : Nat) (x : Teller) : (s.setTeller t x).time = s.time := rfl
@[simp] theorem State.setTeller_held (t : Nat) (x : Teller) : (s.setTeller t x).held = s.held := rfl
@[simp] theorem State.setTeller_modOpen (t : Nat) (x : Teller) : (s.setTeller t x).modOpen = s.modOpen := rfl
@[simp] theorem State.setTeller_modPend (t : Nat) (x : Teller) : (s.setTeller t x).modPend = s.modPend := rfl
@[simp] theorem State.setTeller_incidents (t : Nat) (x : Teller) : (s.setTeller t x).incidents = s.incidents := rfl
@[simp] theorem State.setTeller_viols (t : Nat) (x : Teller) : (s.setTeller t x).viols = s.viols := rfl
@[simp] theorem State.setTeller_links (t : Nat) (x : Teller) : (s.setTeller t x).links = s.links := rfl
@[simp] theorem State.setTeller_peers (t : Nat) (x : Teller) : (s.setTeller t x).peers = s.peers := rfl
@[simp] theorem State.setTeller_mirror (t : Nat) (x : Teller) : (s.setTeller t x).mirror = s.mirror := rfl
@[simp] theorem State.setTeller_claims (t : Nat) (x : Teller) : (s.setTeller t x).claims = s.claims := rfl
@[simp] theorem State.setTeller_inbox (t : Nat) (x : Teller) : (s.setTeller t x).inbox = s.inbox := rfl
@[simp] theorem State.setTeller_posted (t : Nat) (x : Teller) : (s.setTeller t x).posted = s.posted := rfl
@[simp] theorem State.setTeller_mbw (t : Nat) (x : Teller) : (s.setTeller t x).mbw = s.mbw := rfl
@[simp] theorem State.setTeller_mbr (t : Nat) (x : Teller) : (s.setTeller t x).mbr = s.mbr := rfl
@[simp] theorem State.setTeller_bodies (t : Nat) (x : Teller) : (s.setTeller t x).bodies = s.bodies := rfl
@[simp] theorem State.setTeller_mbCmd (t : Nat) (x : Teller) : (s.setTeller t x).mbCmd = s.mbCmd := rfl
@[simp] theorem State.setTeller_loading (t : Nat) (x : Teller) : (s.setTeller t x).loading = s.loading := rfl
@[simp] theorem State.setTeller_pwr (t : Nat) (x : Teller) : (s.setTeller t x).pwr = s.pwr := rfl
@[simp] theorem State.setTeller_scan (t : Nat) (x : Teller) : (s.setTeller t x).scan = s.scan := rfl
@[simp] theorem State.setTeller_refs (t : Nat) (x : Teller) : (s.setTeller t x).refs = s.refs := rfl
@[simp] theorem State.setTeller_head (t : Nat) (x : Teller) : (s.setTeller t x).head = s.head := rfl
@[simp] theorem State.setTeller_expo (t : Nat) (x : Teller) : (s.setTeller t x).expo = s.expo := rfl
@[simp] theorem State.setTeller_store (t : Nat) (x : Teller) : (s.setTeller t x).store = s.store := rfl
@[simp] theorem State.setTeller_dma (t : Nat) (x : Teller) : (s.setTeller t x).dma = s.dma := rfl
@[simp] theorem State.setTeller_dram (t : Nat) (x : Teller) : (s.setTeller t x).dram = s.dram := rfl
@[simp] theorem State.setTeller_plant (t : Nat) (x : Teller) : (s.setTeller t x).plant = s.plant := rfl
@[simp] theorem State.setTeller_keys (t : Nat) (x : Teller) : (s.setTeller t x).keys = s.keys := rfl
@[simp] theorem State.setTeller_fwRollback (t : Nat) (x : Teller) : (s.setTeller t x).fwRollback = s.fwRollback := rfl
@[simp] theorem State.setTeller_hellos (t : Nat) (x : Teller) : (s.setTeller t x).hellos = s.hellos := rfl
@[simp] theorem State.setTeller_dly (t : Nat) (x : Teller) : (s.setTeller t x).dly = s.dly := rfl
@[simp] theorem State.setTeller_fec (t : Nat) (x : Teller) : (s.setTeller t x).fec = s.fec := rfl
@[simp] theorem State.setTeller_tap (t : Nat) (x : Teller) : (s.setTeller t x).tap = s.tap := rfl
@[simp] theorem State.setTeller_flash (t : Nat) (x : Teller) : (s.setTeller t x).flash = s.flash := rfl
@[simp] theorem State.setTeller_images (t : Nat) (x : Teller) : (s.setTeller t x).images = s.images := rfl
@[simp] theorem State.setTeller_freeCtr (t : Nat) (x : Teller) : (s.setTeller t x).freeCtr = s.freeCtr := rfl
@[simp] theorem State.setTeller_out (t : Nat) (x : Teller) : (s.setTeller t x).out = s.out := rfl
@[simp] theorem State.setTeller_pending (t : Nat) (x : Teller) : (s.setTeller t x).pending = s.pending := rfl

/-! State.emit. -/

@[simp] theorem State.emit_regs (o : Out) : (s.emit o).regs = s.regs := rfl
@[simp] theorem State.emit_tellers (o : Out) : (s.emit o).tellers = s.tellers := rfl
@[simp] theorem State.emit_pm (o : Out) : (s.emit o).pm = s.pm := rfl
@[simp] theorem State.emit_dm (o : Out) : (s.emit o).dm = s.dm := rfl
@[simp] theorem State.emit_pmErr (o : Out) : (s.emit o).pmErr = s.pmErr := rfl
@[simp] theorem State.emit_dmErr (o : Out) : (s.emit o).dmErr = s.dmErr := rfl
@[simp] theorem State.emit_cmps (o : Out) : (s.emit o).cmps = s.cmps := rfl
@[simp] theorem State.emit_armSeq (o : Out) : (s.emit o).armSeq = s.armSeq := rfl
@[simp] theorem State.emit_stream (o : Out) : (s.emit o).stream = s.stream := rfl
@[simp] theorem State.emit_wrrNow (o : Out) : (s.emit o).wrrNow = s.wrrNow := rfl
@[simp] theorem State.emit_orders (o : Out) : (s.emit o).orders = s.orders := rfl
@[simp] theorem State.emit_books (o : Out) : (s.emit o).books = s.books := rfl
@[simp] theorem State.emit_locks (o : Out) : (s.emit o).locks = s.locks := rfl
@[simp] theorem State.emit_esc (o : Out) : (s.emit o).esc = s.esc := rfl
@[simp] theorem State.emit_pos (o : Out) : (s.emit o).pos = s.pos := rfl
@[simp] theorem State.emit_time (o : Out) : (s.emit o).time = s.time := rfl
@[simp] theorem State.emit_held (o : Out) : (s.emit o).held = s.held := rfl
@[simp] theorem State.emit_modOpen (o : Out) : (s.emit o).modOpen = s.modOpen := rfl
@[simp] theorem State.emit_modPend (o : Out) : (s.emit o).modPend = s.modPend := rfl
@[simp] theorem State.emit_incidents (o : Out) : (s.emit o).incidents = s.incidents := rfl
@[simp] theorem State.emit_viols (o : Out) : (s.emit o).viols = s.viols := rfl
@[simp] theorem State.emit_links (o : Out) : (s.emit o).links = s.links := rfl
@[simp] theorem State.emit_peers (o : Out) : (s.emit o).peers = s.peers := rfl
@[simp] theorem State.emit_mirror (o : Out) : (s.emit o).mirror = s.mirror := rfl
@[simp] theorem State.emit_claims (o : Out) : (s.emit o).claims = s.claims := rfl
@[simp] theorem State.emit_inbox (o : Out) : (s.emit o).inbox = s.inbox := rfl
@[simp] theorem State.emit_posted (o : Out) : (s.emit o).posted = s.posted := rfl
@[simp] theorem State.emit_mbw (o : Out) : (s.emit o).mbw = s.mbw := rfl
@[simp] theorem State.emit_mbr (o : Out) : (s.emit o).mbr = s.mbr := rfl
@[simp] theorem State.emit_bodies (o : Out) : (s.emit o).bodies = s.bodies := rfl
@[simp] theorem State.emit_mbCmd (o : Out) : (s.emit o).mbCmd = s.mbCmd := rfl
@[simp] theorem State.emit_loading (o : Out) : (s.emit o).loading = s.loading := rfl
@[simp] theorem State.emit_pwr (o : Out) : (s.emit o).pwr = s.pwr := rfl
@[simp] theorem State.emit_scan (o : Out) : (s.emit o).scan = s.scan := rfl
@[simp] theorem State.emit_refs (o : Out) : (s.emit o).refs = s.refs := rfl
@[simp] theorem State.emit_head (o : Out) : (s.emit o).head = s.head := rfl
@[simp] theorem State.emit_expo (o : Out) : (s.emit o).expo = s.expo := rfl
@[simp] theorem State.emit_store (o : Out) : (s.emit o).store = s.store := rfl
@[simp] theorem State.emit_dma (o : Out) : (s.emit o).dma = s.dma := rfl
@[simp] theorem State.emit_dram (o : Out) : (s.emit o).dram = s.dram := rfl
@[simp] theorem State.emit_plant (o : Out) : (s.emit o).plant = s.plant := rfl
@[simp] theorem State.emit_keys (o : Out) : (s.emit o).keys = s.keys := rfl
@[simp] theorem State.emit_fwRollback (o : Out) : (s.emit o).fwRollback = s.fwRollback := rfl
@[simp] theorem State.emit_hellos (o : Out) : (s.emit o).hellos = s.hellos := rfl
@[simp] theorem State.emit_dly (o : Out) : (s.emit o).dly = s.dly := rfl
@[simp] theorem State.emit_fec (o : Out) : (s.emit o).fec = s.fec := rfl
@[simp] theorem State.emit_tap (o : Out) : (s.emit o).tap = s.tap := rfl
@[simp] theorem State.emit_flash (o : Out) : (s.emit o).flash = s.flash := rfl
@[simp] theorem State.emit_images (o : Out) : (s.emit o).images = s.images := rfl
@[simp] theorem State.emit_freeCtr (o : Out) : (s.emit o).freeCtr = s.freeCtr := rfl
@[simp] theorem State.emit_out (o : Out) : (s.emit o).out = s.out ++ [o] := rfl
@[simp] theorem State.emit_pending (o : Out) : (s.emit o).pending = s.pending := rfl

/-! State.setCmp. -/

@[simp] theorem State.setCmp_regs (n : Nat) (c : Cmp) : (s.setCmp n c).regs = s.regs := rfl
@[simp] theorem State.setCmp_tellers (n : Nat) (c : Cmp) : (s.setCmp n c).tellers = s.tellers := rfl
@[simp] theorem State.setCmp_pm (n : Nat) (c : Cmp) : (s.setCmp n c).pm = s.pm := rfl
@[simp] theorem State.setCmp_dm (n : Nat) (c : Cmp) : (s.setCmp n c).dm = s.dm := rfl
@[simp] theorem State.setCmp_pmErr (n : Nat) (c : Cmp) : (s.setCmp n c).pmErr = s.pmErr := rfl
@[simp] theorem State.setCmp_dmErr (n : Nat) (c : Cmp) : (s.setCmp n c).dmErr = s.dmErr := rfl
@[simp] theorem State.setCmp_cmps (n : Nat) (c : Cmp) : (s.setCmp n c).cmps = tabSet Cmp.init s.cmps n c := rfl
@[simp] theorem State.setCmp_armSeq (n : Nat) (c : Cmp) : (s.setCmp n c).armSeq = s.armSeq := rfl
@[simp] theorem State.setCmp_stream (n : Nat) (c : Cmp) : (s.setCmp n c).stream = s.stream := rfl
@[simp] theorem State.setCmp_wrrNow (n : Nat) (c : Cmp) : (s.setCmp n c).wrrNow = s.wrrNow := rfl
@[simp] theorem State.setCmp_orders (n : Nat) (c : Cmp) : (s.setCmp n c).orders = s.orders := rfl
@[simp] theorem State.setCmp_books (n : Nat) (c : Cmp) : (s.setCmp n c).books = s.books := rfl
@[simp] theorem State.setCmp_locks (n : Nat) (c : Cmp) : (s.setCmp n c).locks = s.locks := rfl
@[simp] theorem State.setCmp_esc (n : Nat) (c : Cmp) : (s.setCmp n c).esc = s.esc := rfl
@[simp] theorem State.setCmp_pos (n : Nat) (c : Cmp) : (s.setCmp n c).pos = s.pos := rfl
@[simp] theorem State.setCmp_time (n : Nat) (c : Cmp) : (s.setCmp n c).time = s.time := rfl
@[simp] theorem State.setCmp_held (n : Nat) (c : Cmp) : (s.setCmp n c).held = s.held := rfl
@[simp] theorem State.setCmp_modOpen (n : Nat) (c : Cmp) : (s.setCmp n c).modOpen = s.modOpen := rfl
@[simp] theorem State.setCmp_modPend (n : Nat) (c : Cmp) : (s.setCmp n c).modPend = s.modPend := rfl
@[simp] theorem State.setCmp_incidents (n : Nat) (c : Cmp) : (s.setCmp n c).incidents = s.incidents := rfl
@[simp] theorem State.setCmp_viols (n : Nat) (c : Cmp) : (s.setCmp n c).viols = s.viols := rfl
@[simp] theorem State.setCmp_links (n : Nat) (c : Cmp) : (s.setCmp n c).links = s.links := rfl
@[simp] theorem State.setCmp_peers (n : Nat) (c : Cmp) : (s.setCmp n c).peers = s.peers := rfl
@[simp] theorem State.setCmp_mirror (n : Nat) (c : Cmp) : (s.setCmp n c).mirror = s.mirror := rfl
@[simp] theorem State.setCmp_claims (n : Nat) (c : Cmp) : (s.setCmp n c).claims = s.claims := rfl
@[simp] theorem State.setCmp_inbox (n : Nat) (c : Cmp) : (s.setCmp n c).inbox = s.inbox := rfl
@[simp] theorem State.setCmp_posted (n : Nat) (c : Cmp) : (s.setCmp n c).posted = s.posted := rfl
@[simp] theorem State.setCmp_mbw (n : Nat) (c : Cmp) : (s.setCmp n c).mbw = s.mbw := rfl
@[simp] theorem State.setCmp_mbr (n : Nat) (c : Cmp) : (s.setCmp n c).mbr = s.mbr := rfl
@[simp] theorem State.setCmp_bodies (n : Nat) (c : Cmp) : (s.setCmp n c).bodies = s.bodies := rfl
@[simp] theorem State.setCmp_mbCmd (n : Nat) (c : Cmp) : (s.setCmp n c).mbCmd = s.mbCmd := rfl
@[simp] theorem State.setCmp_loading (n : Nat) (c : Cmp) : (s.setCmp n c).loading = s.loading := rfl
@[simp] theorem State.setCmp_pwr (n : Nat) (c : Cmp) : (s.setCmp n c).pwr = s.pwr := rfl
@[simp] theorem State.setCmp_scan (n : Nat) (c : Cmp) : (s.setCmp n c).scan = s.scan := rfl
@[simp] theorem State.setCmp_refs (n : Nat) (c : Cmp) : (s.setCmp n c).refs = s.refs := rfl
@[simp] theorem State.setCmp_head (n : Nat) (c : Cmp) : (s.setCmp n c).head = s.head := rfl
@[simp] theorem State.setCmp_expo (n : Nat) (c : Cmp) : (s.setCmp n c).expo = s.expo := rfl
@[simp] theorem State.setCmp_store (n : Nat) (c : Cmp) : (s.setCmp n c).store = s.store := rfl
@[simp] theorem State.setCmp_dma (n : Nat) (c : Cmp) : (s.setCmp n c).dma = s.dma := rfl
@[simp] theorem State.setCmp_dram (n : Nat) (c : Cmp) : (s.setCmp n c).dram = s.dram := rfl
@[simp] theorem State.setCmp_plant (n : Nat) (c : Cmp) : (s.setCmp n c).plant = s.plant := rfl
@[simp] theorem State.setCmp_keys (n : Nat) (c : Cmp) : (s.setCmp n c).keys = s.keys := rfl
@[simp] theorem State.setCmp_fwRollback (n : Nat) (c : Cmp) : (s.setCmp n c).fwRollback = s.fwRollback := rfl
@[simp] theorem State.setCmp_hellos (n : Nat) (c : Cmp) : (s.setCmp n c).hellos = s.hellos := rfl
@[simp] theorem State.setCmp_dly (n : Nat) (c : Cmp) : (s.setCmp n c).dly = s.dly := rfl
@[simp] theorem State.setCmp_fec (n : Nat) (c : Cmp) : (s.setCmp n c).fec = s.fec := rfl
@[simp] theorem State.setCmp_tap (n : Nat) (c : Cmp) : (s.setCmp n c).tap = s.tap := rfl
@[simp] theorem State.setCmp_flash (n : Nat) (c : Cmp) : (s.setCmp n c).flash = s.flash := rfl
@[simp] theorem State.setCmp_images (n : Nat) (c : Cmp) : (s.setCmp n c).images = s.images := rfl
@[simp] theorem State.setCmp_freeCtr (n : Nat) (c : Cmp) : (s.setCmp n c).freeCtr = s.freeCtr := rfl
@[simp] theorem State.setCmp_out (n : Nat) (c : Cmp) : (s.setCmp n c).out = s.out := rfl
@[simp] theorem State.setCmp_pending (n : Nat) (c : Cmp) : (s.setCmp n c).pending = s.pending := rfl

/-! State.setOrder. -/

@[simp] theorem State.setOrder_regs (h : Nat) (o : Option Order) : (s.setOrder h o).regs = s.regs := rfl
@[simp] theorem State.setOrder_tellers (h : Nat) (o : Option Order) : (s.setOrder h o).tellers = s.tellers := rfl
@[simp] theorem State.setOrder_pm (h : Nat) (o : Option Order) : (s.setOrder h o).pm = s.pm := rfl
@[simp] theorem State.setOrder_dm (h : Nat) (o : Option Order) : (s.setOrder h o).dm = s.dm := rfl
@[simp] theorem State.setOrder_pmErr (h : Nat) (o : Option Order) : (s.setOrder h o).pmErr = s.pmErr := rfl
@[simp] theorem State.setOrder_dmErr (h : Nat) (o : Option Order) : (s.setOrder h o).dmErr = s.dmErr := rfl
@[simp] theorem State.setOrder_cmps (h : Nat) (o : Option Order) : (s.setOrder h o).cmps = s.cmps := rfl
@[simp] theorem State.setOrder_armSeq (h : Nat) (o : Option Order) : (s.setOrder h o).armSeq = s.armSeq := rfl
@[simp] theorem State.setOrder_stream (h : Nat) (o : Option Order) : (s.setOrder h o).stream = s.stream := rfl
@[simp] theorem State.setOrder_wrrNow (h : Nat) (o : Option Order) : (s.setOrder h o).wrrNow = s.wrrNow := rfl
@[simp] theorem State.setOrder_orders (h : Nat) (o : Option Order) : (s.setOrder h o).orders = tabSet none s.orders h o := rfl
@[simp] theorem State.setOrder_books (h : Nat) (o : Option Order) : (s.setOrder h o).books = s.books := rfl
@[simp] theorem State.setOrder_locks (h : Nat) (o : Option Order) : (s.setOrder h o).locks = s.locks := rfl
@[simp] theorem State.setOrder_esc (h : Nat) (o : Option Order) : (s.setOrder h o).esc = s.esc := rfl
@[simp] theorem State.setOrder_pos (h : Nat) (o : Option Order) : (s.setOrder h o).pos = s.pos := rfl
@[simp] theorem State.setOrder_time (h : Nat) (o : Option Order) : (s.setOrder h o).time = s.time := rfl
@[simp] theorem State.setOrder_held (h : Nat) (o : Option Order) : (s.setOrder h o).held = s.held := rfl
@[simp] theorem State.setOrder_modOpen (h : Nat) (o : Option Order) : (s.setOrder h o).modOpen = s.modOpen := rfl
@[simp] theorem State.setOrder_modPend (h : Nat) (o : Option Order) : (s.setOrder h o).modPend = s.modPend := rfl
@[simp] theorem State.setOrder_incidents (h : Nat) (o : Option Order) : (s.setOrder h o).incidents = s.incidents := rfl
@[simp] theorem State.setOrder_viols (h : Nat) (o : Option Order) : (s.setOrder h o).viols = s.viols := rfl
@[simp] theorem State.setOrder_links (h : Nat) (o : Option Order) : (s.setOrder h o).links = s.links := rfl
@[simp] theorem State.setOrder_peers (h : Nat) (o : Option Order) : (s.setOrder h o).peers = s.peers := rfl
@[simp] theorem State.setOrder_mirror (h : Nat) (o : Option Order) : (s.setOrder h o).mirror = s.mirror := rfl
@[simp] theorem State.setOrder_claims (h : Nat) (o : Option Order) : (s.setOrder h o).claims = s.claims := rfl
@[simp] theorem State.setOrder_inbox (h : Nat) (o : Option Order) : (s.setOrder h o).inbox = s.inbox := rfl
@[simp] theorem State.setOrder_posted (h : Nat) (o : Option Order) : (s.setOrder h o).posted = s.posted := rfl
@[simp] theorem State.setOrder_mbw (h : Nat) (o : Option Order) : (s.setOrder h o).mbw = s.mbw := rfl
@[simp] theorem State.setOrder_mbr (h : Nat) (o : Option Order) : (s.setOrder h o).mbr = s.mbr := rfl
@[simp] theorem State.setOrder_bodies (h : Nat) (o : Option Order) : (s.setOrder h o).bodies = s.bodies := rfl
@[simp] theorem State.setOrder_mbCmd (h : Nat) (o : Option Order) : (s.setOrder h o).mbCmd = s.mbCmd := rfl
@[simp] theorem State.setOrder_loading (h : Nat) (o : Option Order) : (s.setOrder h o).loading = s.loading := rfl
@[simp] theorem State.setOrder_pwr (h : Nat) (o : Option Order) : (s.setOrder h o).pwr = s.pwr := rfl
@[simp] theorem State.setOrder_scan (h : Nat) (o : Option Order) : (s.setOrder h o).scan = s.scan := rfl
@[simp] theorem State.setOrder_refs (h : Nat) (o : Option Order) : (s.setOrder h o).refs = s.refs := rfl
@[simp] theorem State.setOrder_head (h : Nat) (o : Option Order) : (s.setOrder h o).head = s.head := rfl
@[simp] theorem State.setOrder_expo (h : Nat) (o : Option Order) : (s.setOrder h o).expo = s.expo := rfl
@[simp] theorem State.setOrder_store (h : Nat) (o : Option Order) : (s.setOrder h o).store = s.store := rfl
@[simp] theorem State.setOrder_dma (h : Nat) (o : Option Order) : (s.setOrder h o).dma = s.dma := rfl
@[simp] theorem State.setOrder_dram (h : Nat) (o : Option Order) : (s.setOrder h o).dram = s.dram := rfl
@[simp] theorem State.setOrder_plant (h : Nat) (o : Option Order) : (s.setOrder h o).plant = s.plant := rfl
@[simp] theorem State.setOrder_keys (h : Nat) (o : Option Order) : (s.setOrder h o).keys = s.keys := rfl
@[simp] theorem State.setOrder_fwRollback (h : Nat) (o : Option Order) : (s.setOrder h o).fwRollback = s.fwRollback := rfl
@[simp] theorem State.setOrder_hellos (h : Nat) (o : Option Order) : (s.setOrder h o).hellos = s.hellos := rfl
@[simp] theorem State.setOrder_dly (h : Nat) (o : Option Order) : (s.setOrder h o).dly = s.dly := rfl
@[simp] theorem State.setOrder_fec (h : Nat) (o : Option Order) : (s.setOrder h o).fec = s.fec := rfl
@[simp] theorem State.setOrder_tap (h : Nat) (o : Option Order) : (s.setOrder h o).tap = s.tap := rfl
@[simp] theorem State.setOrder_flash (h : Nat) (o : Option Order) : (s.setOrder h o).flash = s.flash := rfl
@[simp] theorem State.setOrder_images (h : Nat) (o : Option Order) : (s.setOrder h o).images = s.images := rfl
@[simp] theorem State.setOrder_freeCtr (h : Nat) (o : Option Order) : (s.setOrder h o).freeCtr = s.freeCtr := rfl
@[simp] theorem State.setOrder_out (h : Nat) (o : Option Order) : (s.setOrder h o).out = s.out := rfl
@[simp] theorem State.setOrder_pending (h : Nat) (o : Option Order) : (s.setOrder h o).pending = s.pending := rfl

/-! State.setBook. -/

@[simp] theorem State.setBook_regs (a b : Nat) (k : Book) : (s.setBook a b k).regs = s.regs := rfl
@[simp] theorem State.setBook_tellers (a b : Nat) (k : Book) : (s.setBook a b k).tellers = s.tellers := rfl
@[simp] theorem State.setBook_pm (a b : Nat) (k : Book) : (s.setBook a b k).pm = s.pm := rfl
@[simp] theorem State.setBook_dm (a b : Nat) (k : Book) : (s.setBook a b k).dm = s.dm := rfl
@[simp] theorem State.setBook_pmErr (a b : Nat) (k : Book) : (s.setBook a b k).pmErr = s.pmErr := rfl
@[simp] theorem State.setBook_dmErr (a b : Nat) (k : Book) : (s.setBook a b k).dmErr = s.dmErr := rfl
@[simp] theorem State.setBook_cmps (a b : Nat) (k : Book) : (s.setBook a b k).cmps = s.cmps := rfl
@[simp] theorem State.setBook_armSeq (a b : Nat) (k : Book) : (s.setBook a b k).armSeq = s.armSeq := rfl
@[simp] theorem State.setBook_stream (a b : Nat) (k : Book) : (s.setBook a b k).stream = s.stream := rfl
@[simp] theorem State.setBook_wrrNow (a b : Nat) (k : Book) : (s.setBook a b k).wrrNow = s.wrrNow := rfl
@[simp] theorem State.setBook_orders (a b : Nat) (k : Book) : (s.setBook a b k).orders = s.orders := rfl
@[simp] theorem State.setBook_books (a b : Nat) (k : Book) : (s.setBook a b k).books = tabSet ⟨0, 0, 0⟩ s.books (bookIx a b) k := rfl
@[simp] theorem State.setBook_locks (a b : Nat) (k : Book) : (s.setBook a b k).locks = s.locks := rfl
@[simp] theorem State.setBook_esc (a b : Nat) (k : Book) : (s.setBook a b k).esc = s.esc := rfl
@[simp] theorem State.setBook_pos (a b : Nat) (k : Book) : (s.setBook a b k).pos = s.pos := rfl
@[simp] theorem State.setBook_time (a b : Nat) (k : Book) : (s.setBook a b k).time = s.time := rfl
@[simp] theorem State.setBook_held (a b : Nat) (k : Book) : (s.setBook a b k).held = s.held := rfl
@[simp] theorem State.setBook_modOpen (a b : Nat) (k : Book) : (s.setBook a b k).modOpen = s.modOpen := rfl
@[simp] theorem State.setBook_modPend (a b : Nat) (k : Book) : (s.setBook a b k).modPend = s.modPend := rfl
@[simp] theorem State.setBook_incidents (a b : Nat) (k : Book) : (s.setBook a b k).incidents = s.incidents := rfl
@[simp] theorem State.setBook_viols (a b : Nat) (k : Book) : (s.setBook a b k).viols = s.viols := rfl
@[simp] theorem State.setBook_links (a b : Nat) (k : Book) : (s.setBook a b k).links = s.links := rfl
@[simp] theorem State.setBook_peers (a b : Nat) (k : Book) : (s.setBook a b k).peers = s.peers := rfl
@[simp] theorem State.setBook_mirror (a b : Nat) (k : Book) : (s.setBook a b k).mirror = s.mirror := rfl
@[simp] theorem State.setBook_claims (a b : Nat) (k : Book) : (s.setBook a b k).claims = s.claims := rfl
@[simp] theorem State.setBook_inbox (a b : Nat) (k : Book) : (s.setBook a b k).inbox = s.inbox := rfl
@[simp] theorem State.setBook_posted (a b : Nat) (k : Book) : (s.setBook a b k).posted = s.posted := rfl
@[simp] theorem State.setBook_mbw (a b : Nat) (k : Book) : (s.setBook a b k).mbw = s.mbw := rfl
@[simp] theorem State.setBook_mbr (a b : Nat) (k : Book) : (s.setBook a b k).mbr = s.mbr := rfl
@[simp] theorem State.setBook_bodies (a b : Nat) (k : Book) : (s.setBook a b k).bodies = s.bodies := rfl
@[simp] theorem State.setBook_mbCmd (a b : Nat) (k : Book) : (s.setBook a b k).mbCmd = s.mbCmd := rfl
@[simp] theorem State.setBook_loading (a b : Nat) (k : Book) : (s.setBook a b k).loading = s.loading := rfl
@[simp] theorem State.setBook_pwr (a b : Nat) (k : Book) : (s.setBook a b k).pwr = s.pwr := rfl
@[simp] theorem State.setBook_scan (a b : Nat) (k : Book) : (s.setBook a b k).scan = s.scan := rfl
@[simp] theorem State.setBook_refs (a b : Nat) (k : Book) : (s.setBook a b k).refs = s.refs := rfl
@[simp] theorem State.setBook_head (a b : Nat) (k : Book) : (s.setBook a b k).head = s.head := rfl
@[simp] theorem State.setBook_expo (a b : Nat) (k : Book) : (s.setBook a b k).expo = s.expo := rfl
@[simp] theorem State.setBook_store (a b : Nat) (k : Book) : (s.setBook a b k).store = s.store := rfl
@[simp] theorem State.setBook_dma (a b : Nat) (k : Book) : (s.setBook a b k).dma = s.dma := rfl
@[simp] theorem State.setBook_dram (a b : Nat) (k : Book) : (s.setBook a b k).dram = s.dram := rfl
@[simp] theorem State.setBook_plant (a b : Nat) (k : Book) : (s.setBook a b k).plant = s.plant := rfl
@[simp] theorem State.setBook_keys (a b : Nat) (k : Book) : (s.setBook a b k).keys = s.keys := rfl
@[simp] theorem State.setBook_fwRollback (a b : Nat) (k : Book) : (s.setBook a b k).fwRollback = s.fwRollback := rfl
@[simp] theorem State.setBook_hellos (a b : Nat) (k : Book) : (s.setBook a b k).hellos = s.hellos := rfl
@[simp] theorem State.setBook_dly (a b : Nat) (k : Book) : (s.setBook a b k).dly = s.dly := rfl
@[simp] theorem State.setBook_fec (a b : Nat) (k : Book) : (s.setBook a b k).fec = s.fec := rfl
@[simp] theorem State.setBook_tap (a b : Nat) (k : Book) : (s.setBook a b k).tap = s.tap := rfl
@[simp] theorem State.setBook_flash (a b : Nat) (k : Book) : (s.setBook a b k).flash = s.flash := rfl
@[simp] theorem State.setBook_images (a b : Nat) (k : Book) : (s.setBook a b k).images = s.images := rfl
@[simp] theorem State.setBook_freeCtr (a b : Nat) (k : Book) : (s.setBook a b k).freeCtr = s.freeCtr := rfl
@[simp] theorem State.setBook_out (a b : Nat) (k : Book) : (s.setBook a b k).out = s.out := rfl
@[simp] theorem State.setBook_pending (a b : Nat) (k : Book) : (s.setBook a b k).pending = s.pending := rfl

/-! State.setLock. -/

@[simp] theorem State.setLock_regs (l : Nat) (k : Lock) : (s.setLock l k).regs = s.regs := rfl
@[simp] theorem State.setLock_tellers (l : Nat) (k : Lock) : (s.setLock l k).tellers = s.tellers := rfl
@[simp] theorem State.setLock_pm (l : Nat) (k : Lock) : (s.setLock l k).pm = s.pm := rfl
@[simp] theorem State.setLock_dm (l : Nat) (k : Lock) : (s.setLock l k).dm = s.dm := rfl
@[simp] theorem State.setLock_pmErr (l : Nat) (k : Lock) : (s.setLock l k).pmErr = s.pmErr := rfl
@[simp] theorem State.setLock_dmErr (l : Nat) (k : Lock) : (s.setLock l k).dmErr = s.dmErr := rfl
@[simp] theorem State.setLock_cmps (l : Nat) (k : Lock) : (s.setLock l k).cmps = s.cmps := rfl
@[simp] theorem State.setLock_armSeq (l : Nat) (k : Lock) : (s.setLock l k).armSeq = s.armSeq := rfl
@[simp] theorem State.setLock_stream (l : Nat) (k : Lock) : (s.setLock l k).stream = s.stream := rfl
@[simp] theorem State.setLock_wrrNow (l : Nat) (k : Lock) : (s.setLock l k).wrrNow = s.wrrNow := rfl
@[simp] theorem State.setLock_orders (l : Nat) (k : Lock) : (s.setLock l k).orders = s.orders := rfl
@[simp] theorem State.setLock_books (l : Nat) (k : Lock) : (s.setLock l k).books = s.books := rfl
@[simp] theorem State.setLock_locks (l : Nat) (k : Lock) : (s.setLock l k).locks = tabSet ⟨none, false⟩ s.locks l k := rfl
@[simp] theorem State.setLock_esc (l : Nat) (k : Lock) : (s.setLock l k).esc = s.esc := rfl
@[simp] theorem State.setLock_pos (l : Nat) (k : Lock) : (s.setLock l k).pos = s.pos := rfl
@[simp] theorem State.setLock_time (l : Nat) (k : Lock) : (s.setLock l k).time = s.time := rfl
@[simp] theorem State.setLock_held (l : Nat) (k : Lock) : (s.setLock l k).held = s.held := rfl
@[simp] theorem State.setLock_modOpen (l : Nat) (k : Lock) : (s.setLock l k).modOpen = s.modOpen := rfl
@[simp] theorem State.setLock_modPend (l : Nat) (k : Lock) : (s.setLock l k).modPend = s.modPend := rfl
@[simp] theorem State.setLock_incidents (l : Nat) (k : Lock) : (s.setLock l k).incidents = s.incidents := rfl
@[simp] theorem State.setLock_viols (l : Nat) (k : Lock) : (s.setLock l k).viols = s.viols := rfl
@[simp] theorem State.setLock_links (l : Nat) (k : Lock) : (s.setLock l k).links = s.links := rfl
@[simp] theorem State.setLock_peers (l : Nat) (k : Lock) : (s.setLock l k).peers = s.peers := rfl
@[simp] theorem State.setLock_mirror (l : Nat) (k : Lock) : (s.setLock l k).mirror = s.mirror := rfl
@[simp] theorem State.setLock_claims (l : Nat) (k : Lock) : (s.setLock l k).claims = s.claims := rfl
@[simp] theorem State.setLock_inbox (l : Nat) (k : Lock) : (s.setLock l k).inbox = s.inbox := rfl
@[simp] theorem State.setLock_posted (l : Nat) (k : Lock) : (s.setLock l k).posted = s.posted := rfl
@[simp] theorem State.setLock_mbw (l : Nat) (k : Lock) : (s.setLock l k).mbw = s.mbw := rfl
@[simp] theorem State.setLock_mbr (l : Nat) (k : Lock) : (s.setLock l k).mbr = s.mbr := rfl
@[simp] theorem State.setLock_bodies (l : Nat) (k : Lock) : (s.setLock l k).bodies = s.bodies := rfl
@[simp] theorem State.setLock_mbCmd (l : Nat) (k : Lock) : (s.setLock l k).mbCmd = s.mbCmd := rfl
@[simp] theorem State.setLock_loading (l : Nat) (k : Lock) : (s.setLock l k).loading = s.loading := rfl
@[simp] theorem State.setLock_pwr (l : Nat) (k : Lock) : (s.setLock l k).pwr = s.pwr := rfl
@[simp] theorem State.setLock_scan (l : Nat) (k : Lock) : (s.setLock l k).scan = s.scan := rfl
@[simp] theorem State.setLock_refs (l : Nat) (k : Lock) : (s.setLock l k).refs = s.refs := rfl
@[simp] theorem State.setLock_head (l : Nat) (k : Lock) : (s.setLock l k).head = s.head := rfl
@[simp] theorem State.setLock_expo (l : Nat) (k : Lock) : (s.setLock l k).expo = s.expo := rfl
@[simp] theorem State.setLock_store (l : Nat) (k : Lock) : (s.setLock l k).store = s.store := rfl
@[simp] theorem State.setLock_dma (l : Nat) (k : Lock) : (s.setLock l k).dma = s.dma := rfl
@[simp] theorem State.setLock_dram (l : Nat) (k : Lock) : (s.setLock l k).dram = s.dram := rfl
@[simp] theorem State.setLock_plant (l : Nat) (k : Lock) : (s.setLock l k).plant = s.plant := rfl
@[simp] theorem State.setLock_keys (l : Nat) (k : Lock) : (s.setLock l k).keys = s.keys := rfl
@[simp] theorem State.setLock_fwRollback (l : Nat) (k : Lock) : (s.setLock l k).fwRollback = s.fwRollback := rfl
@[simp] theorem State.setLock_hellos (l : Nat) (k : Lock) : (s.setLock l k).hellos = s.hellos := rfl
@[simp] theorem State.setLock_dly (l : Nat) (k : Lock) : (s.setLock l k).dly = s.dly := rfl
@[simp] theorem State.setLock_fec (l : Nat) (k : Lock) : (s.setLock l k).fec = s.fec := rfl
@[simp] theorem State.setLock_tap (l : Nat) (k : Lock) : (s.setLock l k).tap = s.tap := rfl
@[simp] theorem State.setLock_flash (l : Nat) (k : Lock) : (s.setLock l k).flash = s.flash := rfl
@[simp] theorem State.setLock_images (l : Nat) (k : Lock) : (s.setLock l k).images = s.images := rfl
@[simp] theorem State.setLock_freeCtr (l : Nat) (k : Lock) : (s.setLock l k).freeCtr = s.freeCtr := rfl
@[simp] theorem State.setLock_out (l : Nat) (k : Lock) : (s.setLock l k).out = s.out := rfl
@[simp] theorem State.setLock_pending (l : Nat) (k : Lock) : (s.setLock l k).pending = s.pending := rfl

/-! State.setEsc. -/

@[simp] theorem State.setEsc_regs (e : Esc) : (s.setEsc e).regs = s.regs := rfl
@[simp] theorem State.setEsc_tellers (e : Esc) : (s.setEsc e).tellers = s.tellers := rfl
@[simp] theorem State.setEsc_pm (e : Esc) : (s.setEsc e).pm = s.pm := rfl
@[simp] theorem State.setEsc_dm (e : Esc) : (s.setEsc e).dm = s.dm := rfl
@[simp] theorem State.setEsc_pmErr (e : Esc) : (s.setEsc e).pmErr = s.pmErr := rfl
@[simp] theorem State.setEsc_dmErr (e : Esc) : (s.setEsc e).dmErr = s.dmErr := rfl
@[simp] theorem State.setEsc_cmps (e : Esc) : (s.setEsc e).cmps = s.cmps := rfl
@[simp] theorem State.setEsc_armSeq (e : Esc) : (s.setEsc e).armSeq = s.armSeq := rfl
@[simp] theorem State.setEsc_stream (e : Esc) : (s.setEsc e).stream = s.stream := rfl
@[simp] theorem State.setEsc_wrrNow (e : Esc) : (s.setEsc e).wrrNow = s.wrrNow := rfl
@[simp] theorem State.setEsc_orders (e : Esc) : (s.setEsc e).orders = s.orders := rfl
@[simp] theorem State.setEsc_books (e : Esc) : (s.setEsc e).books = s.books := rfl
@[simp] theorem State.setEsc_locks (e : Esc) : (s.setEsc e).locks = s.locks := rfl
@[simp] theorem State.setEsc_esc (e : Esc) : (s.setEsc e).esc = e := rfl
@[simp] theorem State.setEsc_pos (e : Esc) : (s.setEsc e).pos = s.pos := rfl
@[simp] theorem State.setEsc_time (e : Esc) : (s.setEsc e).time = s.time := rfl
@[simp] theorem State.setEsc_held (e : Esc) : (s.setEsc e).held = s.held := rfl
@[simp] theorem State.setEsc_modOpen (e : Esc) : (s.setEsc e).modOpen = s.modOpen := rfl
@[simp] theorem State.setEsc_modPend (e : Esc) : (s.setEsc e).modPend = s.modPend := rfl
@[simp] theorem State.setEsc_incidents (e : Esc) : (s.setEsc e).incidents = s.incidents := rfl
@[simp] theorem State.setEsc_viols (e : Esc) : (s.setEsc e).viols = s.viols := rfl
@[simp] theorem State.setEsc_links (e : Esc) : (s.setEsc e).links = s.links := rfl
@[simp] theorem State.setEsc_peers (e : Esc) : (s.setEsc e).peers = s.peers := rfl
@[simp] theorem State.setEsc_mirror (e : Esc) : (s.setEsc e).mirror = s.mirror := rfl
@[simp] theorem State.setEsc_claims (e : Esc) : (s.setEsc e).claims = s.claims := rfl
@[simp] theorem State.setEsc_inbox (e : Esc) : (s.setEsc e).inbox = s.inbox := rfl
@[simp] theorem State.setEsc_posted (e : Esc) : (s.setEsc e).posted = s.posted := rfl
@[simp] theorem State.setEsc_mbw (e : Esc) : (s.setEsc e).mbw = s.mbw := rfl
@[simp] theorem State.setEsc_mbr (e : Esc) : (s.setEsc e).mbr = s.mbr := rfl
@[simp] theorem State.setEsc_bodies (e : Esc) : (s.setEsc e).bodies = s.bodies := rfl
@[simp] theorem State.setEsc_mbCmd (e : Esc) : (s.setEsc e).mbCmd = s.mbCmd := rfl
@[simp] theorem State.setEsc_loading (e : Esc) : (s.setEsc e).loading = s.loading := rfl
@[simp] theorem State.setEsc_pwr (e : Esc) : (s.setEsc e).pwr = s.pwr := rfl
@[simp] theorem State.setEsc_scan (e : Esc) : (s.setEsc e).scan = s.scan := rfl
@[simp] theorem State.setEsc_refs (e : Esc) : (s.setEsc e).refs = s.refs := rfl
@[simp] theorem State.setEsc_head (e : Esc) : (s.setEsc e).head = s.head := rfl
@[simp] theorem State.setEsc_expo (e : Esc) : (s.setEsc e).expo = s.expo := rfl
@[simp] theorem State.setEsc_store (e : Esc) : (s.setEsc e).store = s.store := rfl
@[simp] theorem State.setEsc_dma (e : Esc) : (s.setEsc e).dma = s.dma := rfl
@[simp] theorem State.setEsc_dram (e : Esc) : (s.setEsc e).dram = s.dram := rfl
@[simp] theorem State.setEsc_plant (e : Esc) : (s.setEsc e).plant = s.plant := rfl
@[simp] theorem State.setEsc_keys (e : Esc) : (s.setEsc e).keys = s.keys := rfl
@[simp] theorem State.setEsc_fwRollback (e : Esc) : (s.setEsc e).fwRollback = s.fwRollback := rfl
@[simp] theorem State.setEsc_hellos (e : Esc) : (s.setEsc e).hellos = s.hellos := rfl
@[simp] theorem State.setEsc_dly (e : Esc) : (s.setEsc e).dly = s.dly := rfl
@[simp] theorem State.setEsc_fec (e : Esc) : (s.setEsc e).fec = s.fec := rfl
@[simp] theorem State.setEsc_tap (e : Esc) : (s.setEsc e).tap = s.tap := rfl
@[simp] theorem State.setEsc_flash (e : Esc) : (s.setEsc e).flash = s.flash := rfl
@[simp] theorem State.setEsc_images (e : Esc) : (s.setEsc e).images = s.images := rfl
@[simp] theorem State.setEsc_freeCtr (e : Esc) : (s.setEsc e).freeCtr = s.freeCtr := rfl
@[simp] theorem State.setEsc_out (e : Esc) : (s.setEsc e).out = s.out := rfl
@[simp] theorem State.setEsc_pending (e : Esc) : (s.setEsc e).pending = s.pending := rfl

/-! State.setPos. -/

@[simp] theorem State.setPos_regs (p : Posn) : (s.setPos p).regs = s.regs := rfl
@[simp] theorem State.setPos_tellers (p : Posn) : (s.setPos p).tellers = s.tellers := rfl
@[simp] theorem State.setPos_pm (p : Posn) : (s.setPos p).pm = s.pm := rfl
@[simp] theorem State.setPos_dm (p : Posn) : (s.setPos p).dm = s.dm := rfl
@[simp] theorem State.setPos_pmErr (p : Posn) : (s.setPos p).pmErr = s.pmErr := rfl
@[simp] theorem State.setPos_dmErr (p : Posn) : (s.setPos p).dmErr = s.dmErr := rfl
@[simp] theorem State.setPos_cmps (p : Posn) : (s.setPos p).cmps = s.cmps := rfl
@[simp] theorem State.setPos_armSeq (p : Posn) : (s.setPos p).armSeq = s.armSeq := rfl
@[simp] theorem State.setPos_stream (p : Posn) : (s.setPos p).stream = s.stream := rfl
@[simp] theorem State.setPos_wrrNow (p : Posn) : (s.setPos p).wrrNow = s.wrrNow := rfl
@[simp] theorem State.setPos_orders (p : Posn) : (s.setPos p).orders = s.orders := rfl
@[simp] theorem State.setPos_books (p : Posn) : (s.setPos p).books = s.books := rfl
@[simp] theorem State.setPos_locks (p : Posn) : (s.setPos p).locks = s.locks := rfl
@[simp] theorem State.setPos_esc (p : Posn) : (s.setPos p).esc = s.esc := rfl
@[simp] theorem State.setPos_pos (p : Posn) : (s.setPos p).pos = p := rfl
@[simp] theorem State.setPos_time (p : Posn) : (s.setPos p).time = s.time := rfl
@[simp] theorem State.setPos_held (p : Posn) : (s.setPos p).held = s.held := rfl
@[simp] theorem State.setPos_modOpen (p : Posn) : (s.setPos p).modOpen = s.modOpen := rfl
@[simp] theorem State.setPos_modPend (p : Posn) : (s.setPos p).modPend = s.modPend := rfl
@[simp] theorem State.setPos_incidents (p : Posn) : (s.setPos p).incidents = s.incidents := rfl
@[simp] theorem State.setPos_viols (p : Posn) : (s.setPos p).viols = s.viols := rfl
@[simp] theorem State.setPos_links (p : Posn) : (s.setPos p).links = s.links := rfl
@[simp] theorem State.setPos_peers (p : Posn) : (s.setPos p).peers = s.peers := rfl
@[simp] theorem State.setPos_mirror (p : Posn) : (s.setPos p).mirror = s.mirror := rfl
@[simp] theorem State.setPos_claims (p : Posn) : (s.setPos p).claims = s.claims := rfl
@[simp] theorem State.setPos_inbox (p : Posn) : (s.setPos p).inbox = s.inbox := rfl
@[simp] theorem State.setPos_posted (p : Posn) : (s.setPos p).posted = s.posted := rfl
@[simp] theorem State.setPos_mbw (p : Posn) : (s.setPos p).mbw = s.mbw := rfl
@[simp] theorem State.setPos_mbr (p : Posn) : (s.setPos p).mbr = s.mbr := rfl
@[simp] theorem State.setPos_bodies (p : Posn) : (s.setPos p).bodies = s.bodies := rfl
@[simp] theorem State.setPos_mbCmd (p : Posn) : (s.setPos p).mbCmd = s.mbCmd := rfl
@[simp] theorem State.setPos_loading (p : Posn) : (s.setPos p).loading = s.loading := rfl
@[simp] theorem State.setPos_pwr (p : Posn) : (s.setPos p).pwr = s.pwr := rfl
@[simp] theorem State.setPos_scan (p : Posn) : (s.setPos p).scan = s.scan := rfl
@[simp] theorem State.setPos_refs (p : Posn) : (s.setPos p).refs = s.refs := rfl
@[simp] theorem State.setPos_head (p : Posn) : (s.setPos p).head = s.head := rfl
@[simp] theorem State.setPos_expo (p : Posn) : (s.setPos p).expo = s.expo := rfl
@[simp] theorem State.setPos_store (p : Posn) : (s.setPos p).store = s.store := rfl
@[simp] theorem State.setPos_dma (p : Posn) : (s.setPos p).dma = s.dma := rfl
@[simp] theorem State.setPos_dram (p : Posn) : (s.setPos p).dram = s.dram := rfl
@[simp] theorem State.setPos_plant (p : Posn) : (s.setPos p).plant = s.plant := rfl
@[simp] theorem State.setPos_keys (p : Posn) : (s.setPos p).keys = s.keys := rfl
@[simp] theorem State.setPos_fwRollback (p : Posn) : (s.setPos p).fwRollback = s.fwRollback := rfl
@[simp] theorem State.setPos_hellos (p : Posn) : (s.setPos p).hellos = s.hellos := rfl
@[simp] theorem State.setPos_dly (p : Posn) : (s.setPos p).dly = s.dly := rfl
@[simp] theorem State.setPos_fec (p : Posn) : (s.setPos p).fec = s.fec := rfl
@[simp] theorem State.setPos_tap (p : Posn) : (s.setPos p).tap = s.tap := rfl
@[simp] theorem State.setPos_flash (p : Posn) : (s.setPos p).flash = s.flash := rfl
@[simp] theorem State.setPos_images (p : Posn) : (s.setPos p).images = s.images := rfl
@[simp] theorem State.setPos_freeCtr (p : Posn) : (s.setPos p).freeCtr = s.freeCtr := rfl
@[simp] theorem State.setPos_out (p : Posn) : (s.setPos p).out = s.out := rfl
@[simp] theorem State.setPos_pending (p : Posn) : (s.setPos p).pending = s.pending := rfl

/-! State.setIncident. -/

@[simp] theorem State.setIncident_regs (b : Nat) (k : Incident) : (s.setIncident b k).regs = s.regs := rfl
@[simp] theorem State.setIncident_tellers (b : Nat) (k : Incident) : (s.setIncident b k).tellers = s.tellers := rfl
@[simp] theorem State.setIncident_pm (b : Nat) (k : Incident) : (s.setIncident b k).pm = s.pm := rfl
@[simp] theorem State.setIncident_dm (b : Nat) (k : Incident) : (s.setIncident b k).dm = s.dm := rfl
@[simp] theorem State.setIncident_pmErr (b : Nat) (k : Incident) : (s.setIncident b k).pmErr = s.pmErr := rfl
@[simp] theorem State.setIncident_dmErr (b : Nat) (k : Incident) : (s.setIncident b k).dmErr = s.dmErr := rfl
@[simp] theorem State.setIncident_cmps (b : Nat) (k : Incident) : (s.setIncident b k).cmps = s.cmps := rfl
@[simp] theorem State.setIncident_armSeq (b : Nat) (k : Incident) : (s.setIncident b k).armSeq = s.armSeq := rfl
@[simp] theorem State.setIncident_stream (b : Nat) (k : Incident) : (s.setIncident b k).stream = s.stream := rfl
@[simp] theorem State.setIncident_wrrNow (b : Nat) (k : Incident) : (s.setIncident b k).wrrNow = s.wrrNow := rfl
@[simp] theorem State.setIncident_orders (b : Nat) (k : Incident) : (s.setIncident b k).orders = s.orders := rfl
@[simp] theorem State.setIncident_books (b : Nat) (k : Incident) : (s.setIncident b k).books = s.books := rfl
@[simp] theorem State.setIncident_locks (b : Nat) (k : Incident) : (s.setIncident b k).locks = s.locks := rfl
@[simp] theorem State.setIncident_esc (b : Nat) (k : Incident) : (s.setIncident b k).esc = s.esc := rfl
@[simp] theorem State.setIncident_pos (b : Nat) (k : Incident) : (s.setIncident b k).pos = s.pos := rfl
@[simp] theorem State.setIncident_time (b : Nat) (k : Incident) : (s.setIncident b k).time = s.time := rfl
@[simp] theorem State.setIncident_held (b : Nat) (k : Incident) : (s.setIncident b k).held = s.held := rfl
@[simp] theorem State.setIncident_modOpen (b : Nat) (k : Incident) : (s.setIncident b k).modOpen = s.modOpen := rfl
@[simp] theorem State.setIncident_modPend (b : Nat) (k : Incident) : (s.setIncident b k).modPend = s.modPend := rfl
@[simp] theorem State.setIncident_incidents (b : Nat) (k : Incident) : (s.setIncident b k).incidents = tabSet Incident.none s.incidents b k := rfl
@[simp] theorem State.setIncident_viols (b : Nat) (k : Incident) : (s.setIncident b k).viols = s.viols := rfl
@[simp] theorem State.setIncident_links (b : Nat) (k : Incident) : (s.setIncident b k).links = s.links := rfl
@[simp] theorem State.setIncident_peers (b : Nat) (k : Incident) : (s.setIncident b k).peers = s.peers := rfl
@[simp] theorem State.setIncident_mirror (b : Nat) (k : Incident) : (s.setIncident b k).mirror = s.mirror := rfl
@[simp] theorem State.setIncident_claims (b : Nat) (k : Incident) : (s.setIncident b k).claims = s.claims := rfl
@[simp] theorem State.setIncident_inbox (b : Nat) (k : Incident) : (s.setIncident b k).inbox = s.inbox := rfl
@[simp] theorem State.setIncident_posted (b : Nat) (k : Incident) : (s.setIncident b k).posted = s.posted := rfl
@[simp] theorem State.setIncident_mbw (b : Nat) (k : Incident) : (s.setIncident b k).mbw = s.mbw := rfl
@[simp] theorem State.setIncident_mbr (b : Nat) (k : Incident) : (s.setIncident b k).mbr = s.mbr := rfl
@[simp] theorem State.setIncident_bodies (b : Nat) (k : Incident) : (s.setIncident b k).bodies = s.bodies := rfl
@[simp] theorem State.setIncident_mbCmd (b : Nat) (k : Incident) : (s.setIncident b k).mbCmd = s.mbCmd := rfl
@[simp] theorem State.setIncident_loading (b : Nat) (k : Incident) : (s.setIncident b k).loading = s.loading := rfl
@[simp] theorem State.setIncident_pwr (b : Nat) (k : Incident) : (s.setIncident b k).pwr = s.pwr := rfl
@[simp] theorem State.setIncident_scan (b : Nat) (k : Incident) : (s.setIncident b k).scan = s.scan := rfl
@[simp] theorem State.setIncident_refs (b : Nat) (k : Incident) : (s.setIncident b k).refs = s.refs := rfl
@[simp] theorem State.setIncident_head (b : Nat) (k : Incident) : (s.setIncident b k).head = s.head := rfl
@[simp] theorem State.setIncident_expo (b : Nat) (k : Incident) : (s.setIncident b k).expo = s.expo := rfl
@[simp] theorem State.setIncident_store (b : Nat) (k : Incident) : (s.setIncident b k).store = s.store := rfl
@[simp] theorem State.setIncident_dma (b : Nat) (k : Incident) : (s.setIncident b k).dma = s.dma := rfl
@[simp] theorem State.setIncident_dram (b : Nat) (k : Incident) : (s.setIncident b k).dram = s.dram := rfl
@[simp] theorem State.setIncident_plant (b : Nat) (k : Incident) : (s.setIncident b k).plant = s.plant := rfl
@[simp] theorem State.setIncident_keys (b : Nat) (k : Incident) : (s.setIncident b k).keys = s.keys := rfl
@[simp] theorem State.setIncident_fwRollback (b : Nat) (k : Incident) : (s.setIncident b k).fwRollback = s.fwRollback := rfl
@[simp] theorem State.setIncident_hellos (b : Nat) (k : Incident) : (s.setIncident b k).hellos = s.hellos := rfl
@[simp] theorem State.setIncident_dly (b : Nat) (k : Incident) : (s.setIncident b k).dly = s.dly := rfl
@[simp] theorem State.setIncident_fec (b : Nat) (k : Incident) : (s.setIncident b k).fec = s.fec := rfl
@[simp] theorem State.setIncident_tap (b : Nat) (k : Incident) : (s.setIncident b k).tap = s.tap := rfl
@[simp] theorem State.setIncident_flash (b : Nat) (k : Incident) : (s.setIncident b k).flash = s.flash := rfl
@[simp] theorem State.setIncident_images (b : Nat) (k : Incident) : (s.setIncident b k).images = s.images := rfl
@[simp] theorem State.setIncident_freeCtr (b : Nat) (k : Incident) : (s.setIncident b k).freeCtr = s.freeCtr := rfl
@[simp] theorem State.setIncident_out (b : Nat) (k : Incident) : (s.setIncident b k).out = s.out := rfl
@[simp] theorem State.setIncident_pending (b : Nat) (k : Incident) : (s.setIncident b k).pending = s.pending := rfl

/-! State.setLink. -/

@[simp] theorem State.setLink_regs (d : Nat) (l : Link) : (s.setLink d l).regs = s.regs := rfl
@[simp] theorem State.setLink_tellers (d : Nat) (l : Link) : (s.setLink d l).tellers = s.tellers := rfl
@[simp] theorem State.setLink_pm (d : Nat) (l : Link) : (s.setLink d l).pm = s.pm := rfl
@[simp] theorem State.setLink_dm (d : Nat) (l : Link) : (s.setLink d l).dm = s.dm := rfl
@[simp] theorem State.setLink_pmErr (d : Nat) (l : Link) : (s.setLink d l).pmErr = s.pmErr := rfl
@[simp] theorem State.setLink_dmErr (d : Nat) (l : Link) : (s.setLink d l).dmErr = s.dmErr := rfl
@[simp] theorem State.setLink_cmps (d : Nat) (l : Link) : (s.setLink d l).cmps = s.cmps := rfl
@[simp] theorem State.setLink_armSeq (d : Nat) (l : Link) : (s.setLink d l).armSeq = s.armSeq := rfl
@[simp] theorem State.setLink_stream (d : Nat) (l : Link) : (s.setLink d l).stream = s.stream := rfl
@[simp] theorem State.setLink_wrrNow (d : Nat) (l : Link) : (s.setLink d l).wrrNow = s.wrrNow := rfl
@[simp] theorem State.setLink_orders (d : Nat) (l : Link) : (s.setLink d l).orders = s.orders := rfl
@[simp] theorem State.setLink_books (d : Nat) (l : Link) : (s.setLink d l).books = s.books := rfl
@[simp] theorem State.setLink_locks (d : Nat) (l : Link) : (s.setLink d l).locks = s.locks := rfl
@[simp] theorem State.setLink_esc (d : Nat) (l : Link) : (s.setLink d l).esc = s.esc := rfl
@[simp] theorem State.setLink_pos (d : Nat) (l : Link) : (s.setLink d l).pos = s.pos := rfl
@[simp] theorem State.setLink_time (d : Nat) (l : Link) : (s.setLink d l).time = s.time := rfl
@[simp] theorem State.setLink_held (d : Nat) (l : Link) : (s.setLink d l).held = s.held := rfl
@[simp] theorem State.setLink_modOpen (d : Nat) (l : Link) : (s.setLink d l).modOpen = s.modOpen := rfl
@[simp] theorem State.setLink_modPend (d : Nat) (l : Link) : (s.setLink d l).modPend = s.modPend := rfl
@[simp] theorem State.setLink_incidents (d : Nat) (l : Link) : (s.setLink d l).incidents = s.incidents := rfl
@[simp] theorem State.setLink_viols (d : Nat) (l : Link) : (s.setLink d l).viols = s.viols := rfl
@[simp] theorem State.setLink_links (d : Nat) (l : Link) : (s.setLink d l).links = tabSet Link.init s.links d l := rfl
@[simp] theorem State.setLink_peers (d : Nat) (l : Link) : (s.setLink d l).peers = s.peers := rfl
@[simp] theorem State.setLink_mirror (d : Nat) (l : Link) : (s.setLink d l).mirror = s.mirror := rfl
@[simp] theorem State.setLink_claims (d : Nat) (l : Link) : (s.setLink d l).claims = s.claims := rfl
@[simp] theorem State.setLink_inbox (d : Nat) (l : Link) : (s.setLink d l).inbox = s.inbox := rfl
@[simp] theorem State.setLink_posted (d : Nat) (l : Link) : (s.setLink d l).posted = s.posted := rfl
@[simp] theorem State.setLink_mbw (d : Nat) (l : Link) : (s.setLink d l).mbw = s.mbw := rfl
@[simp] theorem State.setLink_mbr (d : Nat) (l : Link) : (s.setLink d l).mbr = s.mbr := rfl
@[simp] theorem State.setLink_bodies (d : Nat) (l : Link) : (s.setLink d l).bodies = s.bodies := rfl
@[simp] theorem State.setLink_mbCmd (d : Nat) (l : Link) : (s.setLink d l).mbCmd = s.mbCmd := rfl
@[simp] theorem State.setLink_loading (d : Nat) (l : Link) : (s.setLink d l).loading = s.loading := rfl
@[simp] theorem State.setLink_pwr (d : Nat) (l : Link) : (s.setLink d l).pwr = s.pwr := rfl
@[simp] theorem State.setLink_scan (d : Nat) (l : Link) : (s.setLink d l).scan = s.scan := rfl
@[simp] theorem State.setLink_refs (d : Nat) (l : Link) : (s.setLink d l).refs = s.refs := rfl
@[simp] theorem State.setLink_head (d : Nat) (l : Link) : (s.setLink d l).head = s.head := rfl
@[simp] theorem State.setLink_expo (d : Nat) (l : Link) : (s.setLink d l).expo = s.expo := rfl
@[simp] theorem State.setLink_store (d : Nat) (l : Link) : (s.setLink d l).store = s.store := rfl
@[simp] theorem State.setLink_dma (d : Nat) (l : Link) : (s.setLink d l).dma = s.dma := rfl
@[simp] theorem State.setLink_dram (d : Nat) (l : Link) : (s.setLink d l).dram = s.dram := rfl
@[simp] theorem State.setLink_plant (d : Nat) (l : Link) : (s.setLink d l).plant = s.plant := rfl
@[simp] theorem State.setLink_keys (d : Nat) (l : Link) : (s.setLink d l).keys = s.keys := rfl
@[simp] theorem State.setLink_fwRollback (d : Nat) (l : Link) : (s.setLink d l).fwRollback = s.fwRollback := rfl
@[simp] theorem State.setLink_hellos (d : Nat) (l : Link) : (s.setLink d l).hellos = s.hellos := rfl
@[simp] theorem State.setLink_dly (d : Nat) (l : Link) : (s.setLink d l).dly = s.dly := rfl
@[simp] theorem State.setLink_fec (d : Nat) (l : Link) : (s.setLink d l).fec = s.fec := rfl
@[simp] theorem State.setLink_tap (d : Nat) (l : Link) : (s.setLink d l).tap = s.tap := rfl
@[simp] theorem State.setLink_flash (d : Nat) (l : Link) : (s.setLink d l).flash = s.flash := rfl
@[simp] theorem State.setLink_images (d : Nat) (l : Link) : (s.setLink d l).images = s.images := rfl
@[simp] theorem State.setLink_freeCtr (d : Nat) (l : Link) : (s.setLink d l).freeCtr = s.freeCtr := rfl
@[simp] theorem State.setLink_out (d : Nat) (l : Link) : (s.setLink d l).out = s.out := rfl
@[simp] theorem State.setLink_pending (d : Nat) (l : Link) : (s.setLink d l).pending = s.pending := rfl

/-! State.setMirror. -/

@[simp] theorem State.setMirror_regs (m : Mirror) : (s.setMirror m).regs = s.regs := rfl
@[simp] theorem State.setMirror_tellers (m : Mirror) : (s.setMirror m).tellers = s.tellers := rfl
@[simp] theorem State.setMirror_pm (m : Mirror) : (s.setMirror m).pm = s.pm := rfl
@[simp] theorem State.setMirror_dm (m : Mirror) : (s.setMirror m).dm = s.dm := rfl
@[simp] theorem State.setMirror_pmErr (m : Mirror) : (s.setMirror m).pmErr = s.pmErr := rfl
@[simp] theorem State.setMirror_dmErr (m : Mirror) : (s.setMirror m).dmErr = s.dmErr := rfl
@[simp] theorem State.setMirror_cmps (m : Mirror) : (s.setMirror m).cmps = s.cmps := rfl
@[simp] theorem State.setMirror_armSeq (m : Mirror) : (s.setMirror m).armSeq = s.armSeq := rfl
@[simp] theorem State.setMirror_stream (m : Mirror) : (s.setMirror m).stream = s.stream := rfl
@[simp] theorem State.setMirror_wrrNow (m : Mirror) : (s.setMirror m).wrrNow = s.wrrNow := rfl
@[simp] theorem State.setMirror_orders (m : Mirror) : (s.setMirror m).orders = s.orders := rfl
@[simp] theorem State.setMirror_books (m : Mirror) : (s.setMirror m).books = s.books := rfl
@[simp] theorem State.setMirror_locks (m : Mirror) : (s.setMirror m).locks = s.locks := rfl
@[simp] theorem State.setMirror_esc (m : Mirror) : (s.setMirror m).esc = s.esc := rfl
@[simp] theorem State.setMirror_pos (m : Mirror) : (s.setMirror m).pos = s.pos := rfl
@[simp] theorem State.setMirror_time (m : Mirror) : (s.setMirror m).time = s.time := rfl
@[simp] theorem State.setMirror_held (m : Mirror) : (s.setMirror m).held = s.held := rfl
@[simp] theorem State.setMirror_modOpen (m : Mirror) : (s.setMirror m).modOpen = s.modOpen := rfl
@[simp] theorem State.setMirror_modPend (m : Mirror) : (s.setMirror m).modPend = s.modPend := rfl
@[simp] theorem State.setMirror_incidents (m : Mirror) : (s.setMirror m).incidents = s.incidents := rfl
@[simp] theorem State.setMirror_viols (m : Mirror) : (s.setMirror m).viols = s.viols := rfl
@[simp] theorem State.setMirror_links (m : Mirror) : (s.setMirror m).links = s.links := rfl
@[simp] theorem State.setMirror_peers (m : Mirror) : (s.setMirror m).peers = s.peers := rfl
@[simp] theorem State.setMirror_mirror (m : Mirror) : (s.setMirror m).mirror = m := rfl
@[simp] theorem State.setMirror_claims (m : Mirror) : (s.setMirror m).claims = s.claims := rfl
@[simp] theorem State.setMirror_inbox (m : Mirror) : (s.setMirror m).inbox = s.inbox := rfl
@[simp] theorem State.setMirror_posted (m : Mirror) : (s.setMirror m).posted = s.posted := rfl
@[simp] theorem State.setMirror_mbw (m : Mirror) : (s.setMirror m).mbw = s.mbw := rfl
@[simp] theorem State.setMirror_mbr (m : Mirror) : (s.setMirror m).mbr = s.mbr := rfl
@[simp] theorem State.setMirror_bodies (m : Mirror) : (s.setMirror m).bodies = s.bodies := rfl
@[simp] theorem State.setMirror_mbCmd (m : Mirror) : (s.setMirror m).mbCmd = s.mbCmd := rfl
@[simp] theorem State.setMirror_loading (m : Mirror) : (s.setMirror m).loading = s.loading := rfl
@[simp] theorem State.setMirror_pwr (m : Mirror) : (s.setMirror m).pwr = s.pwr := rfl
@[simp] theorem State.setMirror_scan (m : Mirror) : (s.setMirror m).scan = s.scan := rfl
@[simp] theorem State.setMirror_refs (m : Mirror) : (s.setMirror m).refs = s.refs := rfl
@[simp] theorem State.setMirror_head (m : Mirror) : (s.setMirror m).head = s.head := rfl
@[simp] theorem State.setMirror_expo (m : Mirror) : (s.setMirror m).expo = s.expo := rfl
@[simp] theorem State.setMirror_store (m : Mirror) : (s.setMirror m).store = s.store := rfl
@[simp] theorem State.setMirror_dma (m : Mirror) : (s.setMirror m).dma = s.dma := rfl
@[simp] theorem State.setMirror_dram (m : Mirror) : (s.setMirror m).dram = s.dram := rfl
@[simp] theorem State.setMirror_plant (m : Mirror) : (s.setMirror m).plant = s.plant := rfl
@[simp] theorem State.setMirror_keys (m : Mirror) : (s.setMirror m).keys = s.keys := rfl
@[simp] theorem State.setMirror_fwRollback (m : Mirror) : (s.setMirror m).fwRollback = s.fwRollback := rfl
@[simp] theorem State.setMirror_hellos (m : Mirror) : (s.setMirror m).hellos = s.hellos := rfl
@[simp] theorem State.setMirror_dly (m : Mirror) : (s.setMirror m).dly = s.dly := rfl
@[simp] theorem State.setMirror_fec (m : Mirror) : (s.setMirror m).fec = s.fec := rfl
@[simp] theorem State.setMirror_tap (m : Mirror) : (s.setMirror m).tap = s.tap := rfl
@[simp] theorem State.setMirror_flash (m : Mirror) : (s.setMirror m).flash = s.flash := rfl
@[simp] theorem State.setMirror_images (m : Mirror) : (s.setMirror m).images = s.images := rfl
@[simp] theorem State.setMirror_freeCtr (m : Mirror) : (s.setMirror m).freeCtr = s.freeCtr := rfl
@[simp] theorem State.setMirror_out (m : Mirror) : (s.setMirror m).out = s.out := rfl
@[simp] theorem State.setMirror_pending (m : Mirror) : (s.setMirror m).pending = s.pending := rfl

/-! State.setPwr. -/

@[simp] theorem State.setPwr_regs (p : Pwr) : (s.setPwr p).regs = s.regs := rfl
@[simp] theorem State.setPwr_tellers (p : Pwr) : (s.setPwr p).tellers = s.tellers := rfl
@[simp] theorem State.setPwr_pm (p : Pwr) : (s.setPwr p).pm = s.pm := rfl
@[simp] theorem State.setPwr_dm (p : Pwr) : (s.setPwr p).dm = s.dm := rfl
@[simp] theorem State.setPwr_pmErr (p : Pwr) : (s.setPwr p).pmErr = s.pmErr := rfl
@[simp] theorem State.setPwr_dmErr (p : Pwr) : (s.setPwr p).dmErr = s.dmErr := rfl
@[simp] theorem State.setPwr_cmps (p : Pwr) : (s.setPwr p).cmps = s.cmps := rfl
@[simp] theorem State.setPwr_armSeq (p : Pwr) : (s.setPwr p).armSeq = s.armSeq := rfl
@[simp] theorem State.setPwr_stream (p : Pwr) : (s.setPwr p).stream = s.stream := rfl
@[simp] theorem State.setPwr_wrrNow (p : Pwr) : (s.setPwr p).wrrNow = s.wrrNow := rfl
@[simp] theorem State.setPwr_orders (p : Pwr) : (s.setPwr p).orders = s.orders := rfl
@[simp] theorem State.setPwr_books (p : Pwr) : (s.setPwr p).books = s.books := rfl
@[simp] theorem State.setPwr_locks (p : Pwr) : (s.setPwr p).locks = s.locks := rfl
@[simp] theorem State.setPwr_esc (p : Pwr) : (s.setPwr p).esc = s.esc := rfl
@[simp] theorem State.setPwr_pos (p : Pwr) : (s.setPwr p).pos = s.pos := rfl
@[simp] theorem State.setPwr_time (p : Pwr) : (s.setPwr p).time = s.time := rfl
@[simp] theorem State.setPwr_held (p : Pwr) : (s.setPwr p).held = s.held := rfl
@[simp] theorem State.setPwr_modOpen (p : Pwr) : (s.setPwr p).modOpen = s.modOpen := rfl
@[simp] theorem State.setPwr_modPend (p : Pwr) : (s.setPwr p).modPend = s.modPend := rfl
@[simp] theorem State.setPwr_incidents (p : Pwr) : (s.setPwr p).incidents = s.incidents := rfl
@[simp] theorem State.setPwr_viols (p : Pwr) : (s.setPwr p).viols = s.viols := rfl
@[simp] theorem State.setPwr_links (p : Pwr) : (s.setPwr p).links = s.links := rfl
@[simp] theorem State.setPwr_peers (p : Pwr) : (s.setPwr p).peers = s.peers := rfl
@[simp] theorem State.setPwr_mirror (p : Pwr) : (s.setPwr p).mirror = s.mirror := rfl
@[simp] theorem State.setPwr_claims (p : Pwr) : (s.setPwr p).claims = s.claims := rfl
@[simp] theorem State.setPwr_inbox (p : Pwr) : (s.setPwr p).inbox = s.inbox := rfl
@[simp] theorem State.setPwr_posted (p : Pwr) : (s.setPwr p).posted = s.posted := rfl
@[simp] theorem State.setPwr_mbw (p : Pwr) : (s.setPwr p).mbw = s.mbw := rfl
@[simp] theorem State.setPwr_mbr (p : Pwr) : (s.setPwr p).mbr = s.mbr := rfl
@[simp] theorem State.setPwr_bodies (p : Pwr) : (s.setPwr p).bodies = s.bodies := rfl
@[simp] theorem State.setPwr_mbCmd (p : Pwr) : (s.setPwr p).mbCmd = s.mbCmd := rfl
@[simp] theorem State.setPwr_loading (p : Pwr) : (s.setPwr p).loading = s.loading := rfl
@[simp] theorem State.setPwr_pwr (p : Pwr) : (s.setPwr p).pwr = p := rfl
@[simp] theorem State.setPwr_scan (p : Pwr) : (s.setPwr p).scan = s.scan := rfl
@[simp] theorem State.setPwr_refs (p : Pwr) : (s.setPwr p).refs = s.refs := rfl
@[simp] theorem State.setPwr_head (p : Pwr) : (s.setPwr p).head = s.head := rfl
@[simp] theorem State.setPwr_expo (p : Pwr) : (s.setPwr p).expo = s.expo := rfl
@[simp] theorem State.setPwr_store (p : Pwr) : (s.setPwr p).store = s.store := rfl
@[simp] theorem State.setPwr_dma (p : Pwr) : (s.setPwr p).dma = s.dma := rfl
@[simp] theorem State.setPwr_dram (p : Pwr) : (s.setPwr p).dram = s.dram := rfl
@[simp] theorem State.setPwr_plant (p : Pwr) : (s.setPwr p).plant = s.plant := rfl
@[simp] theorem State.setPwr_keys (p : Pwr) : (s.setPwr p).keys = s.keys := rfl
@[simp] theorem State.setPwr_fwRollback (p : Pwr) : (s.setPwr p).fwRollback = s.fwRollback := rfl
@[simp] theorem State.setPwr_hellos (p : Pwr) : (s.setPwr p).hellos = s.hellos := rfl
@[simp] theorem State.setPwr_dly (p : Pwr) : (s.setPwr p).dly = s.dly := rfl
@[simp] theorem State.setPwr_fec (p : Pwr) : (s.setPwr p).fec = s.fec := rfl
@[simp] theorem State.setPwr_tap (p : Pwr) : (s.setPwr p).tap = s.tap := rfl
@[simp] theorem State.setPwr_flash (p : Pwr) : (s.setPwr p).flash = s.flash := rfl
@[simp] theorem State.setPwr_images (p : Pwr) : (s.setPwr p).images = s.images := rfl
@[simp] theorem State.setPwr_freeCtr (p : Pwr) : (s.setPwr p).freeCtr = s.freeCtr := rfl
@[simp] theorem State.setPwr_out (p : Pwr) : (s.setPwr p).out = s.out := rfl
@[simp] theorem State.setPwr_pending (p : Pwr) : (s.setPwr p).pending = s.pending := rfl

/-! State.setScan. -/

@[simp] theorem State.setScan_regs (n : Nat) (c : Scan) : (s.setScan n c).regs = s.regs := rfl
@[simp] theorem State.setScan_tellers (n : Nat) (c : Scan) : (s.setScan n c).tellers = s.tellers := rfl
@[simp] theorem State.setScan_pm (n : Nat) (c : Scan) : (s.setScan n c).pm = s.pm := rfl
@[simp] theorem State.setScan_dm (n : Nat) (c : Scan) : (s.setScan n c).dm = s.dm := rfl
@[simp] theorem State.setScan_pmErr (n : Nat) (c : Scan) : (s.setScan n c).pmErr = s.pmErr := rfl
@[simp] theorem State.setScan_dmErr (n : Nat) (c : Scan) : (s.setScan n c).dmErr = s.dmErr := rfl
@[simp] theorem State.setScan_cmps (n : Nat) (c : Scan) : (s.setScan n c).cmps = s.cmps := rfl
@[simp] theorem State.setScan_armSeq (n : Nat) (c : Scan) : (s.setScan n c).armSeq = s.armSeq := rfl
@[simp] theorem State.setScan_stream (n : Nat) (c : Scan) : (s.setScan n c).stream = s.stream := rfl
@[simp] theorem State.setScan_wrrNow (n : Nat) (c : Scan) : (s.setScan n c).wrrNow = s.wrrNow := rfl
@[simp] theorem State.setScan_orders (n : Nat) (c : Scan) : (s.setScan n c).orders = s.orders := rfl
@[simp] theorem State.setScan_books (n : Nat) (c : Scan) : (s.setScan n c).books = s.books := rfl
@[simp] theorem State.setScan_locks (n : Nat) (c : Scan) : (s.setScan n c).locks = s.locks := rfl
@[simp] theorem State.setScan_esc (n : Nat) (c : Scan) : (s.setScan n c).esc = s.esc := rfl
@[simp] theorem State.setScan_pos (n : Nat) (c : Scan) : (s.setScan n c).pos = s.pos := rfl
@[simp] theorem State.setScan_time (n : Nat) (c : Scan) : (s.setScan n c).time = s.time := rfl
@[simp] theorem State.setScan_held (n : Nat) (c : Scan) : (s.setScan n c).held = s.held := rfl
@[simp] theorem State.setScan_modOpen (n : Nat) (c : Scan) : (s.setScan n c).modOpen = s.modOpen := rfl
@[simp] theorem State.setScan_modPend (n : Nat) (c : Scan) : (s.setScan n c).modPend = s.modPend := rfl
@[simp] theorem State.setScan_incidents (n : Nat) (c : Scan) : (s.setScan n c).incidents = s.incidents := rfl
@[simp] theorem State.setScan_viols (n : Nat) (c : Scan) : (s.setScan n c).viols = s.viols := rfl
@[simp] theorem State.setScan_links (n : Nat) (c : Scan) : (s.setScan n c).links = s.links := rfl
@[simp] theorem State.setScan_peers (n : Nat) (c : Scan) : (s.setScan n c).peers = s.peers := rfl
@[simp] theorem State.setScan_mirror (n : Nat) (c : Scan) : (s.setScan n c).mirror = s.mirror := rfl
@[simp] theorem State.setScan_claims (n : Nat) (c : Scan) : (s.setScan n c).claims = s.claims := rfl
@[simp] theorem State.setScan_inbox (n : Nat) (c : Scan) : (s.setScan n c).inbox = s.inbox := rfl
@[simp] theorem State.setScan_posted (n : Nat) (c : Scan) : (s.setScan n c).posted = s.posted := rfl
@[simp] theorem State.setScan_mbw (n : Nat) (c : Scan) : (s.setScan n c).mbw = s.mbw := rfl
@[simp] theorem State.setScan_mbr (n : Nat) (c : Scan) : (s.setScan n c).mbr = s.mbr := rfl
@[simp] theorem State.setScan_bodies (n : Nat) (c : Scan) : (s.setScan n c).bodies = s.bodies := rfl
@[simp] theorem State.setScan_mbCmd (n : Nat) (c : Scan) : (s.setScan n c).mbCmd = s.mbCmd := rfl
@[simp] theorem State.setScan_loading (n : Nat) (c : Scan) : (s.setScan n c).loading = s.loading := rfl
@[simp] theorem State.setScan_pwr (n : Nat) (c : Scan) : (s.setScan n c).pwr = s.pwr := rfl
@[simp] theorem State.setScan_scan (n : Nat) (c : Scan) : (s.setScan n c).scan = tabSet Scan.init s.scan n c := rfl
@[simp] theorem State.setScan_refs (n : Nat) (c : Scan) : (s.setScan n c).refs = s.refs := rfl
@[simp] theorem State.setScan_head (n : Nat) (c : Scan) : (s.setScan n c).head = s.head := rfl
@[simp] theorem State.setScan_expo (n : Nat) (c : Scan) : (s.setScan n c).expo = s.expo := rfl
@[simp] theorem State.setScan_store (n : Nat) (c : Scan) : (s.setScan n c).store = s.store := rfl
@[simp] theorem State.setScan_dma (n : Nat) (c : Scan) : (s.setScan n c).dma = s.dma := rfl
@[simp] theorem State.setScan_dram (n : Nat) (c : Scan) : (s.setScan n c).dram = s.dram := rfl
@[simp] theorem State.setScan_plant (n : Nat) (c : Scan) : (s.setScan n c).plant = s.plant := rfl
@[simp] theorem State.setScan_keys (n : Nat) (c : Scan) : (s.setScan n c).keys = s.keys := rfl
@[simp] theorem State.setScan_fwRollback (n : Nat) (c : Scan) : (s.setScan n c).fwRollback = s.fwRollback := rfl
@[simp] theorem State.setScan_hellos (n : Nat) (c : Scan) : (s.setScan n c).hellos = s.hellos := rfl
@[simp] theorem State.setScan_dly (n : Nat) (c : Scan) : (s.setScan n c).dly = s.dly := rfl
@[simp] theorem State.setScan_fec (n : Nat) (c : Scan) : (s.setScan n c).fec = s.fec := rfl
@[simp] theorem State.setScan_tap (n : Nat) (c : Scan) : (s.setScan n c).tap = s.tap := rfl
@[simp] theorem State.setScan_flash (n : Nat) (c : Scan) : (s.setScan n c).flash = s.flash := rfl
@[simp] theorem State.setScan_images (n : Nat) (c : Scan) : (s.setScan n c).images = s.images := rfl
@[simp] theorem State.setScan_freeCtr (n : Nat) (c : Scan) : (s.setScan n c).freeCtr = s.freeCtr := rfl
@[simp] theorem State.setScan_out (n : Nat) (c : Scan) : (s.setScan n c).out = s.out := rfl
@[simp] theorem State.setScan_pending (n : Nat) (c : Scan) : (s.setScan n c).pending = s.pending := rfl

/-! State.setHead. -/

@[simp] theorem State.setHead_regs (n : Nat) (h : Head) : (s.setHead n h).regs = s.regs := rfl
@[simp] theorem State.setHead_tellers (n : Nat) (h : Head) : (s.setHead n h).tellers = s.tellers := rfl
@[simp] theorem State.setHead_pm (n : Nat) (h : Head) : (s.setHead n h).pm = s.pm := rfl
@[simp] theorem State.setHead_dm (n : Nat) (h : Head) : (s.setHead n h).dm = s.dm := rfl
@[simp] theorem State.setHead_pmErr (n : Nat) (h : Head) : (s.setHead n h).pmErr = s.pmErr := rfl
@[simp] theorem State.setHead_dmErr (n : Nat) (h : Head) : (s.setHead n h).dmErr = s.dmErr := rfl
@[simp] theorem State.setHead_cmps (n : Nat) (h : Head) : (s.setHead n h).cmps = s.cmps := rfl
@[simp] theorem State.setHead_armSeq (n : Nat) (h : Head) : (s.setHead n h).armSeq = s.armSeq := rfl
@[simp] theorem State.setHead_stream (n : Nat) (h : Head) : (s.setHead n h).stream = s.stream := rfl
@[simp] theorem State.setHead_wrrNow (n : Nat) (h : Head) : (s.setHead n h).wrrNow = s.wrrNow := rfl
@[simp] theorem State.setHead_orders (n : Nat) (h : Head) : (s.setHead n h).orders = s.orders := rfl
@[simp] theorem State.setHead_books (n : Nat) (h : Head) : (s.setHead n h).books = s.books := rfl
@[simp] theorem State.setHead_locks (n : Nat) (h : Head) : (s.setHead n h).locks = s.locks := rfl
@[simp] theorem State.setHead_esc (n : Nat) (h : Head) : (s.setHead n h).esc = s.esc := rfl
@[simp] theorem State.setHead_pos (n : Nat) (h : Head) : (s.setHead n h).pos = s.pos := rfl
@[simp] theorem State.setHead_time (n : Nat) (h : Head) : (s.setHead n h).time = s.time := rfl
@[simp] theorem State.setHead_held (n : Nat) (h : Head) : (s.setHead n h).held = s.held := rfl
@[simp] theorem State.setHead_modOpen (n : Nat) (h : Head) : (s.setHead n h).modOpen = s.modOpen := rfl
@[simp] theorem State.setHead_modPend (n : Nat) (h : Head) : (s.setHead n h).modPend = s.modPend := rfl
@[simp] theorem State.setHead_incidents (n : Nat) (h : Head) : (s.setHead n h).incidents = s.incidents := rfl
@[simp] theorem State.setHead_viols (n : Nat) (h : Head) : (s.setHead n h).viols = s.viols := rfl
@[simp] theorem State.setHead_links (n : Nat) (h : Head) : (s.setHead n h).links = s.links := rfl
@[simp] theorem State.setHead_peers (n : Nat) (h : Head) : (s.setHead n h).peers = s.peers := rfl
@[simp] theorem State.setHead_mirror (n : Nat) (h : Head) : (s.setHead n h).mirror = s.mirror := rfl
@[simp] theorem State.setHead_claims (n : Nat) (h : Head) : (s.setHead n h).claims = s.claims := rfl
@[simp] theorem State.setHead_inbox (n : Nat) (h : Head) : (s.setHead n h).inbox = s.inbox := rfl
@[simp] theorem State.setHead_posted (n : Nat) (h : Head) : (s.setHead n h).posted = s.posted := rfl
@[simp] theorem State.setHead_mbw (n : Nat) (h : Head) : (s.setHead n h).mbw = s.mbw := rfl
@[simp] theorem State.setHead_mbr (n : Nat) (h : Head) : (s.setHead n h).mbr = s.mbr := rfl
@[simp] theorem State.setHead_bodies (n : Nat) (h : Head) : (s.setHead n h).bodies = s.bodies := rfl
@[simp] theorem State.setHead_mbCmd (n : Nat) (h : Head) : (s.setHead n h).mbCmd = s.mbCmd := rfl
@[simp] theorem State.setHead_loading (n : Nat) (h : Head) : (s.setHead n h).loading = s.loading := rfl
@[simp] theorem State.setHead_pwr (n : Nat) (h : Head) : (s.setHead n h).pwr = s.pwr := rfl
@[simp] theorem State.setHead_scan (n : Nat) (h : Head) : (s.setHead n h).scan = s.scan := rfl
@[simp] theorem State.setHead_refs (n : Nat) (h : Head) : (s.setHead n h).refs = s.refs := rfl
@[simp] theorem State.setHead_head (n : Nat) (h : Head) : (s.setHead n h).head = tabSet Head.init s.head n h := rfl
@[simp] theorem State.setHead_expo (n : Nat) (h : Head) : (s.setHead n h).expo = s.expo := rfl
@[simp] theorem State.setHead_store (n : Nat) (h : Head) : (s.setHead n h).store = s.store := rfl
@[simp] theorem State.setHead_dma (n : Nat) (h : Head) : (s.setHead n h).dma = s.dma := rfl
@[simp] theorem State.setHead_dram (n : Nat) (h : Head) : (s.setHead n h).dram = s.dram := rfl
@[simp] theorem State.setHead_plant (n : Nat) (h : Head) : (s.setHead n h).plant = s.plant := rfl
@[simp] theorem State.setHead_keys (n : Nat) (h : Head) : (s.setHead n h).keys = s.keys := rfl
@[simp] theorem State.setHead_fwRollback (n : Nat) (h : Head) : (s.setHead n h).fwRollback = s.fwRollback := rfl
@[simp] theorem State.setHead_hellos (n : Nat) (h : Head) : (s.setHead n h).hellos = s.hellos := rfl
@[simp] theorem State.setHead_dly (n : Nat) (h : Head) : (s.setHead n h).dly = s.dly := rfl
@[simp] theorem State.setHead_fec (n : Nat) (h : Head) : (s.setHead n h).fec = s.fec := rfl
@[simp] theorem State.setHead_tap (n : Nat) (h : Head) : (s.setHead n h).tap = s.tap := rfl
@[simp] theorem State.setHead_flash (n : Nat) (h : Head) : (s.setHead n h).flash = s.flash := rfl
@[simp] theorem State.setHead_images (n : Nat) (h : Head) : (s.setHead n h).images = s.images := rfl
@[simp] theorem State.setHead_freeCtr (n : Nat) (h : Head) : (s.setHead n h).freeCtr = s.freeCtr := rfl
@[simp] theorem State.setHead_out (n : Nat) (h : Head) : (s.setHead n h).out = s.out := rfl
@[simp] theorem State.setHead_pending (n : Nat) (h : Head) : (s.setHead n h).pending = s.pending := rfl

/-! State.setExpo. -/

@[simp] theorem State.setExpo_regs (n : Nat) (x : Expo) : (s.setExpo n x).regs = s.regs := rfl
@[simp] theorem State.setExpo_tellers (n : Nat) (x : Expo) : (s.setExpo n x).tellers = s.tellers := rfl
@[simp] theorem State.setExpo_pm (n : Nat) (x : Expo) : (s.setExpo n x).pm = s.pm := rfl
@[simp] theorem State.setExpo_dm (n : Nat) (x : Expo) : (s.setExpo n x).dm = s.dm := rfl
@[simp] theorem State.setExpo_pmErr (n : Nat) (x : Expo) : (s.setExpo n x).pmErr = s.pmErr := rfl
@[simp] theorem State.setExpo_dmErr (n : Nat) (x : Expo) : (s.setExpo n x).dmErr = s.dmErr := rfl
@[simp] theorem State.setExpo_cmps (n : Nat) (x : Expo) : (s.setExpo n x).cmps = s.cmps := rfl
@[simp] theorem State.setExpo_armSeq (n : Nat) (x : Expo) : (s.setExpo n x).armSeq = s.armSeq := rfl
@[simp] theorem State.setExpo_stream (n : Nat) (x : Expo) : (s.setExpo n x).stream = s.stream := rfl
@[simp] theorem State.setExpo_wrrNow (n : Nat) (x : Expo) : (s.setExpo n x).wrrNow = s.wrrNow := rfl
@[simp] theorem State.setExpo_orders (n : Nat) (x : Expo) : (s.setExpo n x).orders = s.orders := rfl
@[simp] theorem State.setExpo_books (n : Nat) (x : Expo) : (s.setExpo n x).books = s.books := rfl
@[simp] theorem State.setExpo_locks (n : Nat) (x : Expo) : (s.setExpo n x).locks = s.locks := rfl
@[simp] theorem State.setExpo_esc (n : Nat) (x : Expo) : (s.setExpo n x).esc = s.esc := rfl
@[simp] theorem State.setExpo_pos (n : Nat) (x : Expo) : (s.setExpo n x).pos = s.pos := rfl
@[simp] theorem State.setExpo_time (n : Nat) (x : Expo) : (s.setExpo n x).time = s.time := rfl
@[simp] theorem State.setExpo_held (n : Nat) (x : Expo) : (s.setExpo n x).held = s.held := rfl
@[simp] theorem State.setExpo_modOpen (n : Nat) (x : Expo) : (s.setExpo n x).modOpen = s.modOpen := rfl
@[simp] theorem State.setExpo_modPend (n : Nat) (x : Expo) : (s.setExpo n x).modPend = s.modPend := rfl
@[simp] theorem State.setExpo_incidents (n : Nat) (x : Expo) : (s.setExpo n x).incidents = s.incidents := rfl
@[simp] theorem State.setExpo_viols (n : Nat) (x : Expo) : (s.setExpo n x).viols = s.viols := rfl
@[simp] theorem State.setExpo_links (n : Nat) (x : Expo) : (s.setExpo n x).links = s.links := rfl
@[simp] theorem State.setExpo_peers (n : Nat) (x : Expo) : (s.setExpo n x).peers = s.peers := rfl
@[simp] theorem State.setExpo_mirror (n : Nat) (x : Expo) : (s.setExpo n x).mirror = s.mirror := rfl
@[simp] theorem State.setExpo_claims (n : Nat) (x : Expo) : (s.setExpo n x).claims = s.claims := rfl
@[simp] theorem State.setExpo_inbox (n : Nat) (x : Expo) : (s.setExpo n x).inbox = s.inbox := rfl
@[simp] theorem State.setExpo_posted (n : Nat) (x : Expo) : (s.setExpo n x).posted = s.posted := rfl
@[simp] theorem State.setExpo_mbw (n : Nat) (x : Expo) : (s.setExpo n x).mbw = s.mbw := rfl
@[simp] theorem State.setExpo_mbr (n : Nat) (x : Expo) : (s.setExpo n x).mbr = s.mbr := rfl
@[simp] theorem State.setExpo_bodies (n : Nat) (x : Expo) : (s.setExpo n x).bodies = s.bodies := rfl
@[simp] theorem State.setExpo_mbCmd (n : Nat) (x : Expo) : (s.setExpo n x).mbCmd = s.mbCmd := rfl
@[simp] theorem State.setExpo_loading (n : Nat) (x : Expo) : (s.setExpo n x).loading = s.loading := rfl
@[simp] theorem State.setExpo_pwr (n : Nat) (x : Expo) : (s.setExpo n x).pwr = s.pwr := rfl
@[simp] theorem State.setExpo_scan (n : Nat) (x : Expo) : (s.setExpo n x).scan = s.scan := rfl
@[simp] theorem State.setExpo_refs (n : Nat) (x : Expo) : (s.setExpo n x).refs = s.refs := rfl
@[simp] theorem State.setExpo_head (n : Nat) (x : Expo) : (s.setExpo n x).head = s.head := rfl
@[simp] theorem State.setExpo_expo (n : Nat) (x : Expo) : (s.setExpo n x).expo = tabSet Expo.init s.expo n x := rfl
@[simp] theorem State.setExpo_store (n : Nat) (x : Expo) : (s.setExpo n x).store = s.store := rfl
@[simp] theorem State.setExpo_dma (n : Nat) (x : Expo) : (s.setExpo n x).dma = s.dma := rfl
@[simp] theorem State.setExpo_dram (n : Nat) (x : Expo) : (s.setExpo n x).dram = s.dram := rfl
@[simp] theorem State.setExpo_plant (n : Nat) (x : Expo) : (s.setExpo n x).plant = s.plant := rfl
@[simp] theorem State.setExpo_keys (n : Nat) (x : Expo) : (s.setExpo n x).keys = s.keys := rfl
@[simp] theorem State.setExpo_fwRollback (n : Nat) (x : Expo) : (s.setExpo n x).fwRollback = s.fwRollback := rfl
@[simp] theorem State.setExpo_hellos (n : Nat) (x : Expo) : (s.setExpo n x).hellos = s.hellos := rfl
@[simp] theorem State.setExpo_dly (n : Nat) (x : Expo) : (s.setExpo n x).dly = s.dly := rfl
@[simp] theorem State.setExpo_fec (n : Nat) (x : Expo) : (s.setExpo n x).fec = s.fec := rfl
@[simp] theorem State.setExpo_tap (n : Nat) (x : Expo) : (s.setExpo n x).tap = s.tap := rfl
@[simp] theorem State.setExpo_flash (n : Nat) (x : Expo) : (s.setExpo n x).flash = s.flash := rfl
@[simp] theorem State.setExpo_images (n : Nat) (x : Expo) : (s.setExpo n x).images = s.images := rfl
@[simp] theorem State.setExpo_freeCtr (n : Nat) (x : Expo) : (s.setExpo n x).freeCtr = s.freeCtr := rfl
@[simp] theorem State.setExpo_out (n : Nat) (x : Expo) : (s.setExpo n x).out = s.out := rfl
@[simp] theorem State.setExpo_pending (n : Nat) (x : Expo) : (s.setExpo n x).pending = s.pending := rfl

/-! State.setStore. -/

@[simp] theorem State.setStore_regs (x : Store) : (s.setStore x).regs = s.regs := rfl
@[simp] theorem State.setStore_tellers (x : Store) : (s.setStore x).tellers = s.tellers := rfl
@[simp] theorem State.setStore_pm (x : Store) : (s.setStore x).pm = s.pm := rfl
@[simp] theorem State.setStore_dm (x : Store) : (s.setStore x).dm = s.dm := rfl
@[simp] theorem State.setStore_pmErr (x : Store) : (s.setStore x).pmErr = s.pmErr := rfl
@[simp] theorem State.setStore_dmErr (x : Store) : (s.setStore x).dmErr = s.dmErr := rfl
@[simp] theorem State.setStore_cmps (x : Store) : (s.setStore x).cmps = s.cmps := rfl
@[simp] theorem State.setStore_armSeq (x : Store) : (s.setStore x).armSeq = s.armSeq := rfl
@[simp] theorem State.setStore_stream (x : Store) : (s.setStore x).stream = s.stream := rfl
@[simp] theorem State.setStore_wrrNow (x : Store) : (s.setStore x).wrrNow = s.wrrNow := rfl
@[simp] theorem State.setStore_orders (x : Store) : (s.setStore x).orders = s.orders := rfl
@[simp] theorem State.setStore_books (x : Store) : (s.setStore x).books = s.books := rfl
@[simp] theorem State.setStore_locks (x : Store) : (s.setStore x).locks = s.locks := rfl
@[simp] theorem State.setStore_esc (x : Store) : (s.setStore x).esc = s.esc := rfl
@[simp] theorem State.setStore_pos (x : Store) : (s.setStore x).pos = s.pos := rfl
@[simp] theorem State.setStore_time (x : Store) : (s.setStore x).time = s.time := rfl
@[simp] theorem State.setStore_held (x : Store) : (s.setStore x).held = s.held := rfl
@[simp] theorem State.setStore_modOpen (x : Store) : (s.setStore x).modOpen = s.modOpen := rfl
@[simp] theorem State.setStore_modPend (x : Store) : (s.setStore x).modPend = s.modPend := rfl
@[simp] theorem State.setStore_incidents (x : Store) : (s.setStore x).incidents = s.incidents := rfl
@[simp] theorem State.setStore_viols (x : Store) : (s.setStore x).viols = s.viols := rfl
@[simp] theorem State.setStore_links (x : Store) : (s.setStore x).links = s.links := rfl
@[simp] theorem State.setStore_peers (x : Store) : (s.setStore x).peers = s.peers := rfl
@[simp] theorem State.setStore_mirror (x : Store) : (s.setStore x).mirror = s.mirror := rfl
@[simp] theorem State.setStore_claims (x : Store) : (s.setStore x).claims = s.claims := rfl
@[simp] theorem State.setStore_inbox (x : Store) : (s.setStore x).inbox = s.inbox := rfl
@[simp] theorem State.setStore_posted (x : Store) : (s.setStore x).posted = s.posted := rfl
@[simp] theorem State.setStore_mbw (x : Store) : (s.setStore x).mbw = s.mbw := rfl
@[simp] theorem State.setStore_mbr (x : Store) : (s.setStore x).mbr = s.mbr := rfl
@[simp] theorem State.setStore_bodies (x : Store) : (s.setStore x).bodies = s.bodies := rfl
@[simp] theorem State.setStore_mbCmd (x : Store) : (s.setStore x).mbCmd = s.mbCmd := rfl
@[simp] theorem State.setStore_loading (x : Store) : (s.setStore x).loading = s.loading := rfl
@[simp] theorem State.setStore_pwr (x : Store) : (s.setStore x).pwr = s.pwr := rfl
@[simp] theorem State.setStore_scan (x : Store) : (s.setStore x).scan = s.scan := rfl
@[simp] theorem State.setStore_refs (x : Store) : (s.setStore x).refs = s.refs := rfl
@[simp] theorem State.setStore_head (x : Store) : (s.setStore x).head = s.head := rfl
@[simp] theorem State.setStore_expo (x : Store) : (s.setStore x).expo = s.expo := rfl
@[simp] theorem State.setStore_store (x : Store) : (s.setStore x).store = x := rfl
@[simp] theorem State.setStore_dma (x : Store) : (s.setStore x).dma = s.dma := rfl
@[simp] theorem State.setStore_dram (x : Store) : (s.setStore x).dram = s.dram := rfl
@[simp] theorem State.setStore_plant (x : Store) : (s.setStore x).plant = s.plant := rfl
@[simp] theorem State.setStore_keys (x : Store) : (s.setStore x).keys = s.keys := rfl
@[simp] theorem State.setStore_fwRollback (x : Store) : (s.setStore x).fwRollback = s.fwRollback := rfl
@[simp] theorem State.setStore_hellos (x : Store) : (s.setStore x).hellos = s.hellos := rfl
@[simp] theorem State.setStore_dly (x : Store) : (s.setStore x).dly = s.dly := rfl
@[simp] theorem State.setStore_fec (x : Store) : (s.setStore x).fec = s.fec := rfl
@[simp] theorem State.setStore_tap (x : Store) : (s.setStore x).tap = s.tap := rfl
@[simp] theorem State.setStore_flash (x : Store) : (s.setStore x).flash = s.flash := rfl
@[simp] theorem State.setStore_images (x : Store) : (s.setStore x).images = s.images := rfl
@[simp] theorem State.setStore_freeCtr (x : Store) : (s.setStore x).freeCtr = s.freeCtr := rfl
@[simp] theorem State.setStore_out (x : Store) : (s.setStore x).out = s.out := rfl
@[simp] theorem State.setStore_pending (x : Store) : (s.setStore x).pending = s.pending := rfl

/-! State.setDma. -/

@[simp] theorem State.setDma_regs (n : Nat) (d : Dma) : (s.setDma n d).regs = s.regs := rfl
@[simp] theorem State.setDma_tellers (n : Nat) (d : Dma) : (s.setDma n d).tellers = s.tellers := rfl
@[simp] theorem State.setDma_pm (n : Nat) (d : Dma) : (s.setDma n d).pm = s.pm := rfl
@[simp] theorem State.setDma_dm (n : Nat) (d : Dma) : (s.setDma n d).dm = s.dm := rfl
@[simp] theorem State.setDma_pmErr (n : Nat) (d : Dma) : (s.setDma n d).pmErr = s.pmErr := rfl
@[simp] theorem State.setDma_dmErr (n : Nat) (d : Dma) : (s.setDma n d).dmErr = s.dmErr := rfl
@[simp] theorem State.setDma_cmps (n : Nat) (d : Dma) : (s.setDma n d).cmps = s.cmps := rfl
@[simp] theorem State.setDma_armSeq (n : Nat) (d : Dma) : (s.setDma n d).armSeq = s.armSeq := rfl
@[simp] theorem State.setDma_stream (n : Nat) (d : Dma) : (s.setDma n d).stream = s.stream := rfl
@[simp] theorem State.setDma_wrrNow (n : Nat) (d : Dma) : (s.setDma n d).wrrNow = s.wrrNow := rfl
@[simp] theorem State.setDma_orders (n : Nat) (d : Dma) : (s.setDma n d).orders = s.orders := rfl
@[simp] theorem State.setDma_books (n : Nat) (d : Dma) : (s.setDma n d).books = s.books := rfl
@[simp] theorem State.setDma_locks (n : Nat) (d : Dma) : (s.setDma n d).locks = s.locks := rfl
@[simp] theorem State.setDma_esc (n : Nat) (d : Dma) : (s.setDma n d).esc = s.esc := rfl
@[simp] theorem State.setDma_pos (n : Nat) (d : Dma) : (s.setDma n d).pos = s.pos := rfl
@[simp] theorem State.setDma_time (n : Nat) (d : Dma) : (s.setDma n d).time = s.time := rfl
@[simp] theorem State.setDma_held (n : Nat) (d : Dma) : (s.setDma n d).held = s.held := rfl
@[simp] theorem State.setDma_modOpen (n : Nat) (d : Dma) : (s.setDma n d).modOpen = s.modOpen := rfl
@[simp] theorem State.setDma_modPend (n : Nat) (d : Dma) : (s.setDma n d).modPend = s.modPend := rfl
@[simp] theorem State.setDma_incidents (n : Nat) (d : Dma) : (s.setDma n d).incidents = s.incidents := rfl
@[simp] theorem State.setDma_viols (n : Nat) (d : Dma) : (s.setDma n d).viols = s.viols := rfl
@[simp] theorem State.setDma_links (n : Nat) (d : Dma) : (s.setDma n d).links = s.links := rfl
@[simp] theorem State.setDma_peers (n : Nat) (d : Dma) : (s.setDma n d).peers = s.peers := rfl
@[simp] theorem State.setDma_mirror (n : Nat) (d : Dma) : (s.setDma n d).mirror = s.mirror := rfl
@[simp] theorem State.setDma_claims (n : Nat) (d : Dma) : (s.setDma n d).claims = s.claims := rfl
@[simp] theorem State.setDma_inbox (n : Nat) (d : Dma) : (s.setDma n d).inbox = s.inbox := rfl
@[simp] theorem State.setDma_posted (n : Nat) (d : Dma) : (s.setDma n d).posted = s.posted := rfl
@[simp] theorem State.setDma_mbw (n : Nat) (d : Dma) : (s.setDma n d).mbw = s.mbw := rfl
@[simp] theorem State.setDma_mbr (n : Nat) (d : Dma) : (s.setDma n d).mbr = s.mbr := rfl
@[simp] theorem State.setDma_bodies (n : Nat) (d : Dma) : (s.setDma n d).bodies = s.bodies := rfl
@[simp] theorem State.setDma_mbCmd (n : Nat) (d : Dma) : (s.setDma n d).mbCmd = s.mbCmd := rfl
@[simp] theorem State.setDma_loading (n : Nat) (d : Dma) : (s.setDma n d).loading = s.loading := rfl
@[simp] theorem State.setDma_pwr (n : Nat) (d : Dma) : (s.setDma n d).pwr = s.pwr := rfl
@[simp] theorem State.setDma_scan (n : Nat) (d : Dma) : (s.setDma n d).scan = s.scan := rfl
@[simp] theorem State.setDma_refs (n : Nat) (d : Dma) : (s.setDma n d).refs = s.refs := rfl
@[simp] theorem State.setDma_head (n : Nat) (d : Dma) : (s.setDma n d).head = s.head := rfl
@[simp] theorem State.setDma_expo (n : Nat) (d : Dma) : (s.setDma n d).expo = s.expo := rfl
@[simp] theorem State.setDma_store (n : Nat) (d : Dma) : (s.setDma n d).store = s.store := rfl
@[simp] theorem State.setDma_dma (n : Nat) (d : Dma) : (s.setDma n d).dma = tabSet Dma.init s.dma n d := rfl
@[simp] theorem State.setDma_dram (n : Nat) (d : Dma) : (s.setDma n d).dram = s.dram := rfl
@[simp] theorem State.setDma_plant (n : Nat) (d : Dma) : (s.setDma n d).plant = s.plant := rfl
@[simp] theorem State.setDma_keys (n : Nat) (d : Dma) : (s.setDma n d).keys = s.keys := rfl
@[simp] theorem State.setDma_fwRollback (n : Nat) (d : Dma) : (s.setDma n d).fwRollback = s.fwRollback := rfl
@[simp] theorem State.setDma_hellos (n : Nat) (d : Dma) : (s.setDma n d).hellos = s.hellos := rfl
@[simp] theorem State.setDma_dly (n : Nat) (d : Dma) : (s.setDma n d).dly = s.dly := rfl
@[simp] theorem State.setDma_fec (n : Nat) (d : Dma) : (s.setDma n d).fec = s.fec := rfl
@[simp] theorem State.setDma_tap (n : Nat) (d : Dma) : (s.setDma n d).tap = s.tap := rfl
@[simp] theorem State.setDma_flash (n : Nat) (d : Dma) : (s.setDma n d).flash = s.flash := rfl
@[simp] theorem State.setDma_images (n : Nat) (d : Dma) : (s.setDma n d).images = s.images := rfl
@[simp] theorem State.setDma_freeCtr (n : Nat) (d : Dma) : (s.setDma n d).freeCtr = s.freeCtr := rfl
@[simp] theorem State.setDma_out (n : Nat) (d : Dma) : (s.setDma n d).out = s.out := rfl
@[simp] theorem State.setDma_pending (n : Nat) (d : Dma) : (s.setDma n d).pending = s.pending := rfl

/-! State.setPlant. -/

@[simp] theorem State.setPlant_regs (p : Plant) : (s.setPlant p).regs = s.regs := rfl
@[simp] theorem State.setPlant_tellers (p : Plant) : (s.setPlant p).tellers = s.tellers := rfl
@[simp] theorem State.setPlant_pm (p : Plant) : (s.setPlant p).pm = s.pm := rfl
@[simp] theorem State.setPlant_dm (p : Plant) : (s.setPlant p).dm = s.dm := rfl
@[simp] theorem State.setPlant_pmErr (p : Plant) : (s.setPlant p).pmErr = s.pmErr := rfl
@[simp] theorem State.setPlant_dmErr (p : Plant) : (s.setPlant p).dmErr = s.dmErr := rfl
@[simp] theorem State.setPlant_cmps (p : Plant) : (s.setPlant p).cmps = s.cmps := rfl
@[simp] theorem State.setPlant_armSeq (p : Plant) : (s.setPlant p).armSeq = s.armSeq := rfl
@[simp] theorem State.setPlant_stream (p : Plant) : (s.setPlant p).stream = s.stream := rfl
@[simp] theorem State.setPlant_wrrNow (p : Plant) : (s.setPlant p).wrrNow = s.wrrNow := rfl
@[simp] theorem State.setPlant_orders (p : Plant) : (s.setPlant p).orders = s.orders := rfl
@[simp] theorem State.setPlant_books (p : Plant) : (s.setPlant p).books = s.books := rfl
@[simp] theorem State.setPlant_locks (p : Plant) : (s.setPlant p).locks = s.locks := rfl
@[simp] theorem State.setPlant_esc (p : Plant) : (s.setPlant p).esc = s.esc := rfl
@[simp] theorem State.setPlant_pos (p : Plant) : (s.setPlant p).pos = s.pos := rfl
@[simp] theorem State.setPlant_time (p : Plant) : (s.setPlant p).time = s.time := rfl
@[simp] theorem State.setPlant_held (p : Plant) : (s.setPlant p).held = s.held := rfl
@[simp] theorem State.setPlant_modOpen (p : Plant) : (s.setPlant p).modOpen = s.modOpen := rfl
@[simp] theorem State.setPlant_modPend (p : Plant) : (s.setPlant p).modPend = s.modPend := rfl
@[simp] theorem State.setPlant_incidents (p : Plant) : (s.setPlant p).incidents = s.incidents := rfl
@[simp] theorem State.setPlant_viols (p : Plant) : (s.setPlant p).viols = s.viols := rfl
@[simp] theorem State.setPlant_links (p : Plant) : (s.setPlant p).links = s.links := rfl
@[simp] theorem State.setPlant_peers (p : Plant) : (s.setPlant p).peers = s.peers := rfl
@[simp] theorem State.setPlant_mirror (p : Plant) : (s.setPlant p).mirror = s.mirror := rfl
@[simp] theorem State.setPlant_claims (p : Plant) : (s.setPlant p).claims = s.claims := rfl
@[simp] theorem State.setPlant_inbox (p : Plant) : (s.setPlant p).inbox = s.inbox := rfl
@[simp] theorem State.setPlant_posted (p : Plant) : (s.setPlant p).posted = s.posted := rfl
@[simp] theorem State.setPlant_mbw (p : Plant) : (s.setPlant p).mbw = s.mbw := rfl
@[simp] theorem State.setPlant_mbr (p : Plant) : (s.setPlant p).mbr = s.mbr := rfl
@[simp] theorem State.setPlant_bodies (p : Plant) : (s.setPlant p).bodies = s.bodies := rfl
@[simp] theorem State.setPlant_mbCmd (p : Plant) : (s.setPlant p).mbCmd = s.mbCmd := rfl
@[simp] theorem State.setPlant_loading (p : Plant) : (s.setPlant p).loading = s.loading := rfl
@[simp] theorem State.setPlant_pwr (p : Plant) : (s.setPlant p).pwr = s.pwr := rfl
@[simp] theorem State.setPlant_scan (p : Plant) : (s.setPlant p).scan = s.scan := rfl
@[simp] theorem State.setPlant_refs (p : Plant) : (s.setPlant p).refs = s.refs := rfl
@[simp] theorem State.setPlant_head (p : Plant) : (s.setPlant p).head = s.head := rfl
@[simp] theorem State.setPlant_expo (p : Plant) : (s.setPlant p).expo = s.expo := rfl
@[simp] theorem State.setPlant_store (p : Plant) : (s.setPlant p).store = s.store := rfl
@[simp] theorem State.setPlant_dma (p : Plant) : (s.setPlant p).dma = s.dma := rfl
@[simp] theorem State.setPlant_dram (p : Plant) : (s.setPlant p).dram = s.dram := rfl
@[simp] theorem State.setPlant_plant (p : Plant) : (s.setPlant p).plant = p := rfl
@[simp] theorem State.setPlant_keys (p : Plant) : (s.setPlant p).keys = s.keys := rfl
@[simp] theorem State.setPlant_fwRollback (p : Plant) : (s.setPlant p).fwRollback = s.fwRollback := rfl
@[simp] theorem State.setPlant_hellos (p : Plant) : (s.setPlant p).hellos = s.hellos := rfl
@[simp] theorem State.setPlant_dly (p : Plant) : (s.setPlant p).dly = s.dly := rfl
@[simp] theorem State.setPlant_fec (p : Plant) : (s.setPlant p).fec = s.fec := rfl
@[simp] theorem State.setPlant_tap (p : Plant) : (s.setPlant p).tap = s.tap := rfl
@[simp] theorem State.setPlant_flash (p : Plant) : (s.setPlant p).flash = s.flash := rfl
@[simp] theorem State.setPlant_images (p : Plant) : (s.setPlant p).images = s.images := rfl
@[simp] theorem State.setPlant_freeCtr (p : Plant) : (s.setPlant p).freeCtr = s.freeCtr := rfl
@[simp] theorem State.setPlant_out (p : Plant) : (s.setPlant p).out = s.out := rfl
@[simp] theorem State.setPlant_pending (p : Plant) : (s.setPlant p).pending = s.pending := rfl

/-! State.setBody. -/

@[simp] theorem State.setBody_regs (a : Nat) (b : List Byte) : (s.setBody a b).regs = s.regs := rfl
@[simp] theorem State.setBody_tellers (a : Nat) (b : List Byte) : (s.setBody a b).tellers = s.tellers := rfl
@[simp] theorem State.setBody_pm (a : Nat) (b : List Byte) : (s.setBody a b).pm = s.pm := rfl
@[simp] theorem State.setBody_dm (a : Nat) (b : List Byte) : (s.setBody a b).dm = s.dm := rfl
@[simp] theorem State.setBody_pmErr (a : Nat) (b : List Byte) : (s.setBody a b).pmErr = s.pmErr := rfl
@[simp] theorem State.setBody_dmErr (a : Nat) (b : List Byte) : (s.setBody a b).dmErr = s.dmErr := rfl
@[simp] theorem State.setBody_cmps (a : Nat) (b : List Byte) : (s.setBody a b).cmps = s.cmps := rfl
@[simp] theorem State.setBody_armSeq (a : Nat) (b : List Byte) : (s.setBody a b).armSeq = s.armSeq := rfl
@[simp] theorem State.setBody_stream (a : Nat) (b : List Byte) : (s.setBody a b).stream = s.stream := rfl
@[simp] theorem State.setBody_wrrNow (a : Nat) (b : List Byte) : (s.setBody a b).wrrNow = s.wrrNow := rfl
@[simp] theorem State.setBody_orders (a : Nat) (b : List Byte) : (s.setBody a b).orders = s.orders := rfl
@[simp] theorem State.setBody_books (a : Nat) (b : List Byte) : (s.setBody a b).books = s.books := rfl
@[simp] theorem State.setBody_locks (a : Nat) (b : List Byte) : (s.setBody a b).locks = s.locks := rfl
@[simp] theorem State.setBody_esc (a : Nat) (b : List Byte) : (s.setBody a b).esc = s.esc := rfl
@[simp] theorem State.setBody_pos (a : Nat) (b : List Byte) : (s.setBody a b).pos = s.pos := rfl
@[simp] theorem State.setBody_time (a : Nat) (b : List Byte) : (s.setBody a b).time = s.time := rfl
@[simp] theorem State.setBody_held (a : Nat) (b : List Byte) : (s.setBody a b).held = s.held := rfl
@[simp] theorem State.setBody_modOpen (a : Nat) (b : List Byte) : (s.setBody a b).modOpen = s.modOpen := rfl
@[simp] theorem State.setBody_modPend (a : Nat) (b : List Byte) : (s.setBody a b).modPend = s.modPend := rfl
@[simp] theorem State.setBody_incidents (a : Nat) (b : List Byte) : (s.setBody a b).incidents = s.incidents := rfl
@[simp] theorem State.setBody_viols (a : Nat) (b : List Byte) : (s.setBody a b).viols = s.viols := rfl
@[simp] theorem State.setBody_links (a : Nat) (b : List Byte) : (s.setBody a b).links = s.links := rfl
@[simp] theorem State.setBody_peers (a : Nat) (b : List Byte) : (s.setBody a b).peers = s.peers := rfl
@[simp] theorem State.setBody_mirror (a : Nat) (b : List Byte) : (s.setBody a b).mirror = s.mirror := rfl
@[simp] theorem State.setBody_claims (a : Nat) (b : List Byte) : (s.setBody a b).claims = s.claims := rfl
@[simp] theorem State.setBody_inbox (a : Nat) (b : List Byte) : (s.setBody a b).inbox = s.inbox := rfl
@[simp] theorem State.setBody_posted (a : Nat) (b : List Byte) : (s.setBody a b).posted = s.posted := rfl
@[simp] theorem State.setBody_mbw (a : Nat) (b : List Byte) : (s.setBody a b).mbw = s.mbw := rfl
@[simp] theorem State.setBody_mbr (a : Nat) (b : List Byte) : (s.setBody a b).mbr = s.mbr := rfl
@[simp] theorem State.setBody_bodies (a : Nat) (b : List Byte) : (s.setBody a b).bodies = tabSet [] s.bodies a b := rfl
@[simp] theorem State.setBody_mbCmd (a : Nat) (b : List Byte) : (s.setBody a b).mbCmd = s.mbCmd := rfl
@[simp] theorem State.setBody_loading (a : Nat) (b : List Byte) : (s.setBody a b).loading = s.loading := rfl
@[simp] theorem State.setBody_pwr (a : Nat) (b : List Byte) : (s.setBody a b).pwr = s.pwr := rfl
@[simp] theorem State.setBody_scan (a : Nat) (b : List Byte) : (s.setBody a b).scan = s.scan := rfl
@[simp] theorem State.setBody_refs (a : Nat) (b : List Byte) : (s.setBody a b).refs = s.refs := rfl
@[simp] theorem State.setBody_head (a : Nat) (b : List Byte) : (s.setBody a b).head = s.head := rfl
@[simp] theorem State.setBody_expo (a : Nat) (b : List Byte) : (s.setBody a b).expo = s.expo := rfl
@[simp] theorem State.setBody_store (a : Nat) (b : List Byte) : (s.setBody a b).store = s.store := rfl
@[simp] theorem State.setBody_dma (a : Nat) (b : List Byte) : (s.setBody a b).dma = s.dma := rfl
@[simp] theorem State.setBody_dram (a : Nat) (b : List Byte) : (s.setBody a b).dram = s.dram := rfl
@[simp] theorem State.setBody_plant (a : Nat) (b : List Byte) : (s.setBody a b).plant = s.plant := rfl
@[simp] theorem State.setBody_keys (a : Nat) (b : List Byte) : (s.setBody a b).keys = s.keys := rfl
@[simp] theorem State.setBody_fwRollback (a : Nat) (b : List Byte) : (s.setBody a b).fwRollback = s.fwRollback := rfl
@[simp] theorem State.setBody_hellos (a : Nat) (b : List Byte) : (s.setBody a b).hellos = s.hellos := rfl
@[simp] theorem State.setBody_dly (a : Nat) (b : List Byte) : (s.setBody a b).dly = s.dly := rfl
@[simp] theorem State.setBody_fec (a : Nat) (b : List Byte) : (s.setBody a b).fec = s.fec := rfl
@[simp] theorem State.setBody_tap (a : Nat) (b : List Byte) : (s.setBody a b).tap = s.tap := rfl
@[simp] theorem State.setBody_flash (a : Nat) (b : List Byte) : (s.setBody a b).flash = s.flash := rfl
@[simp] theorem State.setBody_images (a : Nat) (b : List Byte) : (s.setBody a b).images = s.images := rfl
@[simp] theorem State.setBody_freeCtr (a : Nat) (b : List Byte) : (s.setBody a b).freeCtr = s.freeCtr := rfl
@[simp] theorem State.setBody_out (a : Nat) (b : List Byte) : (s.setBody a b).out = s.out := rfl
@[simp] theorem State.setBody_pending (a : Nat) (b : List Byte) : (s.setBody a b).pending = s.pending := rfl

end Sys2Proof.Machine
end

