-- ==== Sys2Proof/Laws/Teller.lean ====
section
/-! SUPPORT. What the shared operations of the teller instructions do, said once: reads after writes of tellers and
register fields, an instruction of a teller that runs, an access that no trap stops. -/

namespace Sys2Proof.Machine

/-! Tellers and register fields. -/

@[simp] theorem teller_setTeller_same (s : State) (t : Nat) (x : Teller) : (s.setTeller t x).teller t = x :=
  tabGet_tabSet_same _ t x s.tellers

theorem teller_setTeller_ne (s : State) {t u : Nat} (x : Teller) (h : u ≠ t) : (s.setTeller t x).teller u = s.teller u :=
  tabGet_tabSet_ne _ _ t u x h s.tellers

@[simp] theorem teller_mapTeller_same (s : State) (t : Nat) (f : Teller → Teller) :
    (s.mapTeller t f).teller t = f (s.teller t) := teller_setTeller_same s t _

theorem teller_mapTeller_ne (s : State) {t u : Nat} (f : Teller → Teller) (h : u ≠ t) :
    (s.mapTeller t f).teller u = s.teller u := teller_setTeller_ne s _ h

@[simp] theorem teller_setFld (s : State) (f : Field) (v t : Nat) : (s.setFld f v).teller t = s.teller t := rfl

@[simp] theorem fld_setTeller (s : State) (t : Nat) (x : Teller) (f : Field) : (s.setTeller t x).fld f = s.fld f := rfl

@[simp] theorem fld_mapTeller (s : State) (t : Nat) (g : Teller → Teller) (f : Field) :
    (s.mapTeller t g).fld f = s.fld f := rfl

/-- A field just written holds the value cut to its width. -/
@[simp] theorem fld_setFld_same (s : State) (f : Field) (v : Nat) : (s.setFld f v).fld f = v % 2 ^ f.width :=
  tabGet_tabSet_same _ _ _ s.regs

/-- A field at another place keeps its value. -/
theorem fld_setFld_ne (s : State) {f g : Field} (v : Nat) (h : g.key ≠ f.key) : (s.setFld f v).fld g = s.fld g :=
  tabGet_tabSet_ne _ _ _ _ _ h s.regs

@[simp] theorem fld_emit (s : State) (o : Out) (f : Field) : (s.emit o).fld f = s.fld f := rfl
@[simp] theorem teller_emit (s : State) (o : Out) (t : Nat) : (s.emit o).teller t = s.teller t := rfl

/-! General registers (R60). -/

@[simp] theorem getG_zero (x : Teller) : x.getG 0 = 0 := rfl
@[simp] theorem setG_zero (x : Teller) (v : Word) : x.setG 0 v = x := rfl

theorem getG_setG_same (x : Teller) {r : Nat} (v : Word) (h : r ≠ 0) : (x.setG r v).getG r = v := by
  simp only [Teller.setG, Teller.getG, if_neg h, tabGet_tabSet_same]

theorem getG_setG_ne (x : Teller) {r u : Nat} (v : Word) (h : u ≠ r) : (x.setG r v).getG u = x.getG u := by
  unfold Teller.setG Teller.getG
  split
  · rfl
  · split
    · rfl
    · exact tabGet_tabSet_ne _ _ _ _ _ h _

@[simp] theorem getG_adv (x : Teller) (c r : Nat) : (x.adv c).getG r = x.getG r := rfl
@[simp] theorem getP_adv (x : Teller) (c r : Nat) : (x.adv c).getP r = x.getP r := rfl
@[simp] theorem getQ_adv (x : Teller) (c r : Nat) : (x.adv c).getQ r = x.getQ r := rfl

theorem getP_setP_same (x : Teller) (r : Nat) (v : Pos) : (x.setP r v).getP r = v := tabGet_tabSet_same _ _ _ _
theorem getP_setP_ne (x : Teller) {r u : Nat} (v : Pos) (h : u ≠ r) : (x.setP r v).getP u = x.getP u :=
  tabGet_tabSet_ne _ _ _ _ _ h _
theorem getQ_setQ_same (x : Teller) (r : Nat) (v : Bool) : (x.setQ r v).getQ r = v := tabGet_tabSet_same _ _ _ _
theorem getQ_setQ_ne (x : Teller) {r u : Nat} (v : Bool) (h : u ≠ r) : (x.setQ r v).getQ u = x.getQ u :=
  tabGet_tabSet_ne _ _ _ _ _ h _

/-! Instructions of a teller that runs. -/

theorem runs_iff (s : State) (t : Nat) : s.runs t = true ↔ t < 16 ∧ (s.teller t).st = .running ∧ (s.teller t).wait = .none ∧
    (s.teller t).pc.toNat < pmSize ∧ s.isOff = false ∧ tabGet 0 s.pmErr ((s.teller t).pc.toNat / 4) = 0 := by
  simp [State.runs, and_assoc]

/-- A teller that runs executes its instruction, no fetch error intervening. -/
theorem execI_of_runs {s : State} {t : Nat} (h : s.runs t = true) (body : State → State) : s.execI t body = body s := by
  obtain ⟨h1, h2, h3, h4, h5, h6⟩ := (runs_iff s t).mp h
  have hc : t < 16 ∧ (s.teller t).st = .running ∧ (s.teller t).wait = .none ∧ (s.teller t).pc.toNat < pmSize ∧ ¬ s.isOff = true :=
    ⟨h1, h2, h3, h4, by simp [h5]⟩
  simp only [State.execI, if_pos hc, h6]
  rfl

theorem execR_of_runs {s : State} {t : Nat} (h : s.runs t = true) (f : Teller → Teller) :
    s.execR t f = s.mapTeller t f := execI_of_runs h _

/-- An instruction that waits for earlier writes, on a teller that has none outstanding or failed. -/
theorem execD_of_settled {s : State} {t : Nat} (h : s.runs t = true) (hs : s.settled t = true)
    (c : State → Option (Nat × Nat)) (body : State → State) : s.execD t c body = s.withTrap t (c s) body := by
  have hs' : (s.teller t).wrrq = [] ∧ (s.teller t).busErr = none := by simpa [State.settled] using hs
  simp only [State.execD, execI_of_runs h, hs'.1, hs'.2, ne_eq, not_true_eq_false, if_false]

/-! Data memory. -/

theorem dmBad_of_clean {s : State} : ∀ (n a : Nat), (∀ i, i < n → tabGet 0 s.dmErr (a / 4 + i) = 0) → a % 4 = 0 →
    s.dmBad a n = false
  | 0, _, _, _ => rfl
  | n + 1, a, h, ha => by
    have h0 := h 0 (by omega)
    rw [Nat.add_zero] at h0
    have := dmBad_of_clean n (a + 4) (fun i hi => by rw [show (a + 4) / 4 + i = a / 4 + (i + 1) by omega]; exact h _ (by omega)) (by omega)
    simp [State.dmBad, h0, this]

theorem dmCorrected_of_clean {s : State} : ∀ (n a : Nat), (∀ i, i < n → tabGet 0 s.dmErr (a / 4 + i) = 0) → a % 4 = 0 →
    s.dmCorrected a n = s
  | 0, _, _, _ => rfl
  | n + 1, a, h, ha => by
    have h0 := h 0 (by omega)
    rw [Nat.add_zero] at h0
    have := dmCorrected_of_clean n (a + 4) (fun i hi => by rw [show (a + 4) / 4 + i = a / 4 + (i + 1) by omega]; exact h _ (by omega)) (by omega)
    simp [State.dmCorrected, h0, this]

/-- An access that no trap stops runs its body on the state as it is. -/
theorem access_of_clean {s : State} {a align len : Nat} (h : s.clean a align len = true) (t : Nat) (reads : Bool)
    (body : State → State) : s.access t a align len reads body = body s := by
  simp only [State.clean, Bool.and_eq_true, decide_eq_true_eq, List.all_eq_true, List.mem_range] at h
  obtain ⟨⟨h1, h2⟩, h3⟩ := h
  have hd : dataTrap a align len = none := by
    unfold dataTrap
    rw [if_neg (by omega), if_neg (by omega)]
  have e : a / 4 * 4 / 4 = a / 4 := by omega
  have hb := dmBad_of_clean ((a % 4 + len + 3) / 4) (a / 4 * 4) (s := s) (by rw [e]; exact h3) (by omega)
  have hc := dmCorrected_of_clean ((a % 4 + len + 3) / 4) (a / 4 * 4) (s := s) (by rw [e]; exact h3) (by omega)
  simp only [State.access, State.withTrap, hd, hb, hc, and_false, Bool.false_eq_true, if_false, ite_self]

/-- A store changes data memory alone: its bytes, and the check bits of its words. -/
theorem dmFresh_dm : ∀ (n a : Nat) (s : State), (s.dmFresh a n).dm = s.dm
  | 0, _, _ => rfl
  | n + 1, a, _ => dmFresh_dm n (a + 4) _

theorem dmFresh_rest : ∀ (n a : Nat) (s : State) (e : Tab Nat), { s.dmFresh a n with dmErr := e } = { s with dmErr := e }
  | 0, _, _, _ => rfl
  | n + 1, a, _, e => dmFresh_rest n (a + 4) _ e

@[simp] theorem dmStore_dm (s : State) (a n v : Nat) : (s.dmStore a n v).dm = memStore s.dm a n v := dmFresh_dm _ _ _

@[simp] theorem dmStore_teller (s : State) (a n v t : Nat) : (s.dmStore a n v).teller t = s.teller t := by
  have h := congrArg State.tellers (dmFresh_rest ((n + 3) / 4) (a / 4 * 4) { s with dm := memStore s.dm a n v } s.dmErr)
  exact congrArg (fun m => tabGet Teller.init m t) h

theorem dmStore_rest (s : State) (a n v : Nat) : { s.dmStore a n v with dm := s.dm, dmErr := s.dmErr } = s := by
  have h := dmFresh_rest ((n + 3) / 4) (a / 4 * 4) { s with dm := memStore s.dm a n v } s.dmErr
  exact congrArg (fun x : State => { x with dm := s.dm }) h

/-- Every store keeps data memory canonical. -/
theorem dmStore_wf {s : State} (a n v : Nat) (h : s.dm.wf = true) : (s.dmStore a n v).dm.wf = true := by
  rw [dmStore_dm]; exact memWf_memStore a n v h

theorem dmPut_wf {s : State} (a : Nat) (bs : List Byte) (h : s.dm.wf = true) : (s.dmPut a bs).dm.wf = true := by
  rw [State.dmPut, dmFresh_dm]; exact memWf_memPut bs s.dm a h

end Sys2Proof.Machine
end

