-- ==== Sys2Proof/Tests/Slice0.lean ====
section
/-! SUPPORT. Tests: an ill-formed term for each check of `WellFormed`, worked values of the manual, and for each statement
with hypotheses a state and operands that meet them. -/

set_option Elab.async false
set_option maxRecDepth 20000

namespace Sys2Proof.Tests

open Sys2Proof Sys2Proof.Machine

/-- A broadcast on direction A from node 0 in TERM 0, not numbered. -/
def h0 : Hdr := ⟨0, none, 0, 0, 0xFFFF, 0, false, .none⟩

/-- An empty message. -/
def m0 : Msg := ⟨0, [], 0, 0, 0⟩

/-- A header that is no direction. -/
theorem test_hdr_direction : ({ h0 with dir := 2 } : Hdr).wf = false := by decide

theorem test_ill_formed_1 : (
  [.encoderEdge 4 .illegal 0, .beacon { h0 with dir := 2 } ⟨0, 0, 0, 0, false⟩, .cldTimerArm 8, .cldTimerDisarm 8,
    .wallTimerFire 8, .add 16 0 0 0, .add 0 32 0 0, .add 0 0 32 0, .add 0 0 0 32, .sub 16 0 0 0, .sub 0 32 0 0,
    .sub 0 0 32 0, .sub 0 0 0 32, .and 16 0 0 0, .and 0 32 0 0, .and 0 0 32 0, .and 0 0 0 32, .or 16 0 0 0,
    .or 0 32 0 0, .or 0 0 32 0, .or 0 0 0 32, .xor 16 0 0 0, .xor 0 32 0 0, .xor 0 0 32 0, .xor 0 0 0 32,
    .sll 16 0 0 0, .sll 0 32 0 0, .sll 0 0 32 0, .sll 0 0 0 32, .srl 16 0 0 0, .srl 0 32 0 0, .srl 0 0 32 0,
    .srl 0 0 0 32, .sra 16 0 0 0, .sra 0 32 0 0, .sra 0 0 32 0, .sra 0 0 0 32, .mul 16 0 0 0, .mul 0 32 0 0,
    .mul 0 0 32 0, .mul 0 0 0 32, .mulh 16 0 0 0, .mulh 0 32 0 0, .mulh 0 0 32 0, .mulh 0 0 0 32, .mulhu 16 0 0 0,
    .mulhu 0 32 0 0, .mulhu 0 0 32 0, .mulhu 0 0 0 32, .divu 16 0 0 0, .divu 0 32 0 0, .divu 0 0 32 0,
    .divu 0 0 0 32, .remu 16 0 0 0, .remu 0 32 0 0, .remu 0 0 32 0, .remu 0 0 0 32, .div 16 0 0 0, .div 0 32 0 0,
    .div 0 0 32 0, .div 0 0 0 32, .rem 16 0 0 0, .rem 0 32 0 0, .rem 0 0 32 0] : List Instr).all (fun i => ! i.wf) = true := by
  decide

theorem test_ill_formed_2 : (
  [.rem 0 0 0 32, .min 16 0 0 0, .min 0 32 0 0, .min 0 0 32 0, .min 0 0 0 32, .max 16 0 0 0, .max 0 32 0 0,
    .max 0 0 32 0, .max 0 0 0 32, .minu 16 0 0 0, .minu 0 32 0 0, .minu 0 0 32 0, .minu 0 0 0 32, .maxu 16 0 0 0,
    .maxu 0 32 0 0, .maxu 0 0 32 0, .maxu 0 0 0 32, .adds 16 0 0 0, .adds 0 32 0 0, .adds 0 0 32 0, .adds 0 0 0 32,
    .subs 16 0 0 0, .subs 0 32 0 0, .subs 0 0 32 0, .subs 0 0 0 32, .sel 16 0 0 0 0, .sel 0 4 0 0 0,
    .sel 0 0 32 0 0, .sel 0 0 0 32 0, .sel 0 0 0 0 32, .clz 16 0 0, .clz 0 32 0, .clz 0 0 32, .popc 16 0 0,
    .popc 0 32 0, .popc 0 0 32, .xadd 16 0 0 0, .xadd 0 32 0 0, .xadd 0 0 32 0, .xadd 0 0 0 32, .xswap 16 0 0 0,
    .xswap 0 32 0 0, .xswap 0 0 32 0, .xswap 0 0 0 32, .cmpeq 16 0 0 0, .cmpeq 0 4 0 0, .cmpeq 0 0 32 0,
    .cmpeq 0 0 0 32, .cmpne 16 0 0 0, .cmpne 0 4 0 0, .cmpne 0 0 32 0, .cmpne 0 0 0 32, .cmplt 16 0 0 0,
    .cmplt 0 4 0 0, .cmplt 0 0 32 0, .cmplt 0 0 0 32, .cmpge 16 0 0 0, .cmpge 0 4 0 0, .cmpge 0 0 32 0,
    .cmpge 0 0 0 32, .cmpltu 16 0 0 0, .cmpltu 0 4 0 0, .cmpltu 0 0 32 0, .cmpltu 0 0 0 32] : List Instr).all (fun i => ! i.wf) = true := by
  decide

theorem test_ill_formed_3 : (
  [.cmpgeu 16 0 0 0, .cmpgeu 0 4 0 0, .cmpgeu 0 0 32 0, .cmpgeu 0 0 0 32, .qand 16 0 0 0, .qand 0 4 0 0,
    .qand 0 0 4 0, .qand 0 0 0 4, .qor 16 0 0 0, .qor 0 4 0 0, .qor 0 0 4 0, .qor 0 0 0 4, .qxor 16 0 0 0,
    .qxor 0 4 0 0, .qxor 0 0 4 0, .qxor 0 0 0 4, .qnot 16 0 0, .qnot 0 4 0, .qnot 0 0 4, .pcmpeq 16 0 0 0,
    .pcmpeq 0 4 0 0, .pcmpeq 0 0 8 0, .pcmpeq 0 0 0 8, .pcmplt 16 0 0 0, .pcmplt 0 4 0 0, .pcmplt 0 0 8 0,
    .pcmplt 0 0 0 8, .pcmpge 16 0 0 0, .pcmpge 0 4 0 0, .pcmpge 0 0 8 0, .pcmpge 0 0 0 8, .padd 16 0 0 0,
    .padd 0 8 0 0, .padd 0 0 8 0, .padd 0 0 0 8, .psub 16 0 0 0, .psub 0 8 0 0, .psub 0 0 8 0, .psub 0 0 0 8,
    .pmov 16 0 0, .pmov 0 8 0, .pmov 0 0 8, .pmax 16 0 0 0, .pmax 0 8 0 0, .pmax 0 0 8 0, .pmax 0 0 0 8,
    .mvgp 16 0 0 0, .mvgp 0 8 0 0, .mvgp 0 0 32 0, .mvgp 0 0 0 32, .mvpgl 16 0 0, .mvpgl 0 32 0, .mvpgl 0 0 8,
    .mvpgh 16 0 0, .mvpgh 0 32 0, .mvpgh 0 0 8, .paddi 16 0 0 0, .paddi 0 8 0 0, .paddi 0 0 8 0, .paddfi 16 0 0 0,
    .paddfi 0 8 0 0, .paddfi 0 0 8 0, .rdpos 16 0, .rdpos 0 8] : List Instr).all (fun i => ! i.wf) = true := by
  decide

theorem test_ill_formed_4 : (
  [.pstn 16 0 0 0, .pstn 0 8 0 0, .pstn 0 0 8 0, .pstn 0 0 0 16, .pwrt 16 0 0 0, .pwrt 0 8 0 0, .pwrt 0 0 8 0,
    .pwrt 0 0 0 16, .waitpos 16 0, .waitpos 0 8, .waitposResume 16, .arm 16 0 0, .arm 0 8 0, .arm 0 0 4096,
    .disarm 16 0, .disarm 0 4096, .rdhwm 16 0, .rdhwm 0 8, .addi 16 0 0 0, .addi 0 32 0 0, .addi 0 0 32 0,
    .andi 16 0 0 0, .andi 0 32 0 0, .andi 0 0 32 0, .ori 16 0 0 0, .ori 0 32 0 0, .ori 0 0 32 0, .xori 16 0 0 0,
    .xori 0 32 0 0, .xori 0 0 32 0, .ldhi 16 0 0, .ldhi 0 32 0, .slli 16 0 0 0, .slli 0 32 0 0, .slli 0 0 32 0,
    .slli 0 0 0 32, .srli 16 0 0 0, .srli 0 32 0 0, .srli 0 0 32 0, .srli 0 0 0 32, .srai 16 0 0 0, .srai 0 32 0 0,
    .srai 0 0 32 0, .srai 0 0 0 32, .lw 16 0 0 0, .lw 0 32 0 0, .lw 0 0 32 0, .lh 16 0 0 0, .lh 0 32 0 0,
    .lh 0 0 32 0, .lhu 16 0 0 0, .lhu 0 32 0 0, .lhu 0 0 32 0, .lb 16 0 0 0, .lb 0 32 0 0, .lb 0 0 32 0,
    .lbu 16 0 0 0, .lbu 0 32 0 0, .lbu 0 0 32 0, .sw 16 0 0 0, .sw 0 32 0 0, .sw 0 0 32 0, .sh 16 0 0 0,
    .sh 0 32 0 0] : List Instr).all (fun i => ! i.wf) = true := by
  decide

theorem test_ill_formed_5 : (
  [.sh 0 0 32 0, .sb 16 0 0 0, .sb 0 32 0 0, .sb 0 0 32 0, .rdr 16 0 0 0, .rdr 0 32 0 0, .rdr 0 0 32 0,
    .wrr 16 0 0 0, .wrr 0 32 0 0, .wrr 0 0 32 0, .wrrTakesEffect 16, .fabricTimeout 16 none, .pld 16 0 0 0,
    .pld 0 8 0 0, .pld 0 0 32 0, .pst 16 0 0 0, .pst 0 8 0 0, .pst 0 0 32 0, .cmpeqi 16 0 0 0, .cmpeqi 0 4 0 0,
    .cmpeqi 0 0 32 0, .cmplti 16 0 0 0, .cmplti 0 4 0 0, .cmplti 0 0 32 0, .cmpltui 16 0 0 0, .cmpltui 0 4 0 0,
    .cmpltui 0 0 32 0, .jmpr 16 0 0 0, .jmpr 0 32 0 0, .jmpr 0 0 32 0, .b 16 .always 0, .b 0 (.q 4) 0,
    .b 0 (.nq 4) 0, .bl 16 .always 0, .bl 0 (.q 4) 0, .bl 0 (.nq 4) 0, .fence 16, .halt 16, .trap 16 0, .trap 0 32,
    .eret 16, .brk 16, .rdcyc 16 0, .rdcyc 0 32, .tellerWatchdog 16, .waitev 16 0 0, .waitev 0 32 0,
    .waitev 0 0 32, .waitevResume 16, .tsig 16 0 0 0, .tsig 0 32 0 0, .tsig 0 0 32 0, .tsig 0 0 0 32, .evclr 16 0,
    .evclr 0 32, .claim 16 0 0, .claim 0 32 0, .claim 0 0 32, .recv 16 0 0, .recv 0 32 0, .recv 0 0 32,
    .commit 16 0 0, .commit 0 32 0, .commit 0 0 32] : List Instr).all (fun i => ! i.wf) = true := by
  decide

theorem test_ill_formed_6 : (
  [.take 16 0 0 0, .take 0 32 0 0, .take 0 0 32 0, .take 0 0 0 32, .settle 16 0 0 0, .settle 0 32 0 0,
    .settle 0 0 32 0, .settle 0 0 0 32, .lacq 16 0 0, .lacq 0 32 0, .lacq 0 0 32, .lrel 16 0 0, .lrel 0 32 0,
    .lrel 0 0 32, .mbpost 16 0 0 0, .mbpost 0 32 0 0, .mbpost 0 0 32 0, .mbpost 0 0 0 32, .evpost 16 0 0 0,
    .evpost 0 32 0 0, .evpost 0 0 32 0, .evpost 0 0 0 32, .dmakick 16 0 0, .dmakick 0 32 0, .dmakick 0 0 32,
    .audit 16 0 0 0, .audit 0 32 0 0, .audit 0 0 32 0, .audit 0 0 0 8, .actionEntryWrite none 4096 0 0,
    .actionEntryWrite none 0 4 0, .orderEccError 4096, .close { h0 with dir := 2 } ⟨0, 1, 0, 0, 0, Desc.void 0 0⟩,
    .slotRelease 64 0, .slotRelease 0 16, .noclose 16, .endrun { h0 with dir := 2 } 0 0, .endrun h0 64 0,
    .slotWindowStart 64 0, .slotWindowStart 0 16, .slotComplete 64, .voidrep { h0 with dir := 2 } ⟨0, 0, 0, 0, 0⟩,
    .void { h0 with dir := 2 } ⟨0, 0, 0, 0, 0⟩, .escVoidreq 64, .sosEdge 4 0 0 0 0, .sosEdge 0 0 51201 0 0,
    .eosEdge 4 0 0 0, .sosPredict 4 0, .sweepBoundary 4 0, .plockEnable 4 false, .bandChange 4, .pllLossOfLock 4,
    .profileCommit 4, .referenceDead 2, .linkTrainingStart 4, .statusFrame 4 0, .retryStart 4,
    .missReportTimeout 4, .trainingTimeout 4, .overscanReportTimeout 4 0, .overscanReportTimeout 0 256,
    .laneReturn 4, .frameGapApply 4, .deadclrAll 4] : List Instr).all (fun i => ! i.wf) = true := by
  decide

theorem test_ill_formed_7 : (
  [.deadclrOne 4 0, .deadclrOne 0 256, .reserve 1024, .release 1024, .releaseComplete 65536, .ingest 1024,
    .cancel 1024, .ingestDatagram 2 [], .ingestComplete 65536, .ingestTimeout 65536, .nvmeCompletion 16 0 0 [],
    .readDeadline 64 0 0, .readDeadline 0 16 0, .tileDecode 64 0 0 0, .tileDecode 0 16 0 0,
    .driveViolation 16 .badTlp, .dmaArm 64, .dmaAbort 64, .dmaPause 64 false, .go 64, .clrerr 64, .cont 64,
    .dmaTimerExpiry 8, .dmaTrigger 64, .dmaGrainStart 64, .descriptorFetch 64 false [],
    .dmaReadComplete 64 false [], .dmaWriteComplete 64, .dmaTimeout 64 0, .dmaTimeout 0 3, .start 16,
    .sensingEnd 12 0 0 false 0 [], .alignEnd 12, .stopCmd 16, .coast 16, .move 16, .pwmPeriod 16 [],
    .arcHoldEnd 16, .hvRegTimeout 16, .switchTransition 52 false 0 0, .brakeComparator 2 0, .brakeArmWrite 2 false,
    .coefficientCommit 128, .rcClr 16, .hvEnable 16 false, .acen 16 false, .zoneTempUpdate 24 [],
    .thermalModelUpdate 48 0 none [], .limitFactorStep 48, .thermalHardAction 48, .req 4, .calibrationStart 5,
    .calibrationEnd 5 ⟨[], []⟩, .calibrationAbandon 5, .markEdge 16, .registrationCorrection 64, .missedMark 64 0,
    .missedMark 0 16, .auditStart 16, .auditSuspend 16, .auditComplete 16 .counted, .faultSourceEvent 24 0 none,
    .graceExpiry 24, .quietPeriodEnd 24] : List Instr).all (fun i => ! i.wf) = true := by
  decide

theorem test_ill_formed_8 : (
  [.fltBlkrst 0 24, .mirror { h0 with dir := 2 } ⟨0, 0, 0, 0, 0, 0, .reserved 9⟩,
    .watermark { h0 with dir := 2 } 0 0 0, .mirack { h0 with dir := 2 } 0, .mirreq { h0 with dir := 2 } 0 0,
    .probe { h0 with dir := 2 } 0, .probeans { h0 with dir := 2 } 0, .relinquish { h0 with dir := 2 },
    .swapreq { h0 with dir := 2 } 0, .swapack { h0 with dir := 2 } 0 false, .nodelost 32, .accRst 0 1024 false,
    .body 1024, .submit 1024, .send 1024, .mbCommit 1024, .mbLacq 1024, .mbLrel 1024, .load 1024 [], .keyprov 1024,
    .keyrevoke 1024, .mailboxTimeout 1024, .evqHeadWrite 1024 0, .evqEnable 1024, .evqDisable 1024,
    .msixModerationExpiry 1024, .ethernetFrame 2 [] false, .linkctl { h0 with dir := 2 } 0 false,
    .linkRetransmitTimeout 2 false, .msg { h0 with dir := 2 } m0, .msgstat { h0 with dir := 2 } 0 0,
    .stopreq { h0 with dir := 2 } 0, .stopnow { h0 with dir := 2 } 0 0, .hello { h0 with dir := 2 } 0 0 0 0 0 0,
    .assign { h0 with dir := 2 } 0 0 0 0 0, .config { h0 with dir := 2 } [], .dlyprobe { h0 with dir := 2 } 0,
    .dlyecho { h0 with dir := 2 } 0 0, .vltMembersWrite 2 0, .jtagInstruction 6, .headLinkSlot 4,
    .pllLockAcquired 4, .referenceEdgeReturn 2, .illegalWordFetch 16, .driveFatalStatus 16, .ethernetLinkDown 2,
    .uncorrectableCodeword 2, .ringLinkUp 2, .acExcitationCycle 16] : List Instr).all (fun i => ! i.wf) = true := by
  decide

/-! Worked values of the manual. -/

/-- R56's neighbours: the calendar of R53 over the century rule (R54). -/
theorem test_calendar_2100_is_no_leap_year : dateOf 36583 = (2100, 2, 7, 28) ∧ dateOf 36584 = (2100, 3, 1, 1) := by decide

/-- R22: the port map of the reference Worker is accepted, one that names a station position twice is not. -/
theorem test_port_map_clash : mapClash 0x9B9A9998 = false ∧ mapClash 0x98989898 = true := by decide

/-- R240: a transition of 300 ns at a target of 200 ns raises the step, one of 100 ns lowers it, within the limits; one
that ends more than 2 × TARGET + 100 ns after the turn-on changes nothing. -/
theorem test_adapt_step : adaptStep 2 9 200 20 5 0 300 = 6 ∧ adaptStep 2 9 200 20 2 0 100 = 2 ∧
    adaptStep 2 9 200 20 9 0 300 = 9 ∧ adaptStep 2 9 200 20 5 201 300 = 5 := by decide

/-- R68: the corners of signed division. -/
theorem test_division_corners : divS 0x80000000 0xFFFFFFFF = 0x7FFFFFFF ∧ remS 0x80000000 0xFFFFFFFF = 0 ∧
    divS 7 0 = 0 ∧ divS (BitVec.ofInt 32 (-7)) 2 = BitVec.ofInt 32 (-3) := by decide

/-- R153: the reference press runs in band N = 2 at 9,826,752 Hz. -/
theorem test_reference_band : bandOf 9826752 = 1 := by decide

/-! Witnesses: for each statement with hypotheses, a state and operands that meet them, clause by clause. -/

/-- A node with teller 1 running at address 0. -/
def run1 : State := State.reset.setTeller 1 { Teller.init with st := .running }

/-- The same, with some general and position registers. -/
def run1g (gs : List (Nat × Word)) (ps : List (Nat × Pos)) : State :=
  run1.mapTeller 1 fun x => ps.foldl (fun x e => x.setP e.1 e.2) (gs.foldl (fun x e => x.setG e.1 e.2) x)

/-- A node in a role of GLB_ROLE: 1 Manager, 2 Standby, 3 Worker, 4 Retired. -/
def inRole (r : Nat) : State := State.reset.setFld GLB_ROLE_ROLE r

/-- The same with teller 1 running. -/
def run1In (r : Nat) (gs : List (Nat × Word)) : State := (run1g gs []).setFld GLB_ROLE_ROLE r

theorem test_witness_EmptyQueuePassesTime : State.reset.pending = [] ∧
    (State.reset.setPwr { State.reset.pwr with asleep := true }).isOff = true := by decide

theorem test_witness_DecodeOfEncode : (Instr.addi 3 5 0 100).wf = true ∧ encodeWord (.addi 3 5 0 100) = some 0x20A00064 := by
  decide

theorem test_witness_EncodeOfDecode : decodeWord 15 0xE0860008 = some (.waitev 15 4 6) := by decide

theorem test_witness_IntegerResults : run1.runs 1 = true := by decide

theorem test_witness_DivideSelectAndCount : run1.runs 1 = true ∧ (32 - (0 : Nat) ≤ 32 ∧ (0 : Nat) < 32) := by decide

theorem test_witness_PredicateResults : (run1g [(3, 5)] []).runs 1 = true := by decide

theorem test_witness_ImmediateResults : run1.runs 1 = true ∧ 31 < 32 := by decide

theorem test_witness_PositionResults : (run1g [] [(2, 0xFFFFFFFFFFFF0000)]).runs 1 = true ∧ 15 < 16 := by decide

theorem test_witness_RegisterFrameAndZero : regOnly (.add 1 2 3 4) = some (1, .g 2) ∧ run1.runs 1 = true ∧
    (∃ s', exec (.add 1 2 3 4) run1 = .next s') := ⟨by decide, by decide, _, rfl⟩

theorem test_witness_LoadResults : run1.runs 1 = true ∧ run1.clean 0xFFFFC 4 4 = true ∧ run1.clean 0xFFFFE 2 2 = true ∧
    run1.clean 0xFFFFF 1 1 = true ∧ run1.clean 0xFFFF8 8 8 = true := by decide

theorem test_witness_StoreAndAtomicResults : run1.runs 1 = true ∧ run1.clean 0 4 4 = true ∧ run1.clean 0 2 2 = true ∧
    run1.clean 0xFFFFF 1 1 = true ∧ run1.clean 0xFFFF8 8 8 = true := by decide

theorem test_witness_DataAddressTraps : run1.runs 1 = true ∧ 0xFFFFE % 4 ≠ 0 ∧ (0x100000 % 4 = 0 ∧ dmSize < 0x100000 + 4) ∧
    (0xFFFFF % 2 ≠ 0) ∧ dmSize < 0x100000 + 1 := by decide

theorem test_witness_BranchesAndJumps : run1.runs 1 = true ∧ condHolds (run1.teller 1) .always = true ∧
    condHolds (run1.teller 1) (.q 0) = false ∧ (4 < pmSize ∧ 4 % 4 = 0) ∧
    ¬ ((run1.teller 1).pc + (BitVec.ofNat 22 0x100000).signExtend 32 * 4).toNat < pmSize := by decide

theorem test_witness_TrapEntry : 1 < 16 ∧ 15 < 2 ^ (TLR_CAUSE_VALUE 1).width ∧ (run1.teller 1).tm = false ∧
    run1.flag (TLR_TVEC_EN 1) = false ∧ (run1.setFld (TLR_TVEC_EN 1) 1).flag (TLR_TVEC_EN 1) = true ∧
    ((run1.mapTeller 1 fun x => { x with tm := true }).teller 1).tm = true := by decide

theorem test_witness_SystemResults : (run1.setFld (TLR_TVEC_EN 1) 1).runs 1 = true ∧
    (run1.setFld (TLR_TVEC_EN 1) 1).flag (TLR_TVEC_EN 1) = true ∧ (run1.teller 1).tm = false ∧
    ((run1.mapTeller 1 fun x => { x with tm := true }).teller 1).tm = true ∧
    decodeWord 1 (({ run1 with pm := memPut [] 0 (leBytes 4 0xFC000000) } : State).pmWord 0) = none ∧
    pmSize ≤ ((run1.mapTeller 1 fun x => { x with pc := 0x400000 }).teller 1).pc.toNat := by decide

theorem test_witness_WaitsAndSignals : run1.settled 1 = true ∧ (0 ≤ run1.wpos ∧ run1.wpos < 1) ∧
    ((run1.setTev 1 5).teller 1).tev &&& 0x20 ≠ 0 ∧ (run1.teller 1).tev &&& 0x20 = 0 ∧ (15 ≤ 15 ∧ 15 < 16) ∧
    ((run1.setTeller 1 { Teller.init with st := .waiting, wait := .pos 0 }).teller 1).wait = .pos 0 ∧
    ((run1.setFld (TLR_WDOG_US 1) 9).fld (TLR_WDOG_US 1)) ≠ 0 := by decide

theorem test_witness_TellerReach : run1.runs 1 = true ∧ run1.settled 1 = true ∧
    run1.tellerMay 1 0x100000 false = run1.fbit (TLR_AMASK_WIN 1) 1 ∧ run1.tellerMay 1 0x100002 false = false ∧
    run1.tellerMay 1 0xD00000 false = false ∧ run1.tellerMay 1 0x210000 false = false := by decide

theorem test_witness_RegisterInstructions :
    let s := run1.setFld (TLR_AMASK_WIN 1) 0xFFFF
    s.runs 1 = true ∧ s.settled 1 = true ∧ s.tellerMay 1 0x100000 false = true ∧ s.tellerMay 1 0x100060 true = true ∧
    (s.teller 1).wrrq.length < 8 ∧
    8 ≤ ((s.mapTeller 1 fun x => { x with wrrq := List.replicate 8 (0x100060, 0) }).teller 1).wrrq.length ∧
    s.tellerMay 1 0x800000 false = true ∧ ((s.mapTeller 1 fun x => { x with wrrq := [(4, 5)] }).teller 1).rstReq = false := by
  decide

theorem test_witness_HostAndI2cAccesses : State.reset.isOff = false ∧ 14 % 16 ≠ 15 ∧ 15 < 16 ∧ (0xFFFFFC % 4 = 0 ∧
    0xFFFFFC < 0x1000000) ∧ 0x31 % 4 ≠ 0 ∧ 0x34 ≠ 0x30 ∧ 15 < 16 ∧ 0xACC00001 / 2 ^ 16 % 2 ^ 16 ≠ 0xD00D := by decide

theorem test_witness_CapturingReads : State.reset.isOff = false ∧ (∃ t, exec .timWposloRead State.reset = .next t) ∧
    (∃ t, exec .timHwmloRead State.reset = .next t) ∧ (∃ t, exec .cldWtloRead State.reset = .next t) ∧
    (∃ t, exec .cldDateRead State.reset = .next t) := ⟨by decide, ⟨_, rfl⟩, ⟨_, rfl⟩, ⟨_, rfl⟩, ⟨_, rfl⟩⟩

/-- One armed comparator. -/
def oneCmp (n : Nat) (c : Cmp) : State := { run1 with cmps := [(n, c)] }

theorem test_witness_ArmAndDisarm : run1.runs 1 = true ∧ run1.settled 1 = true ∧ 256 / 256 = 1 ∧ 511 / 256 = 1 ∧ 512 / 256 ≠ 1 ∧
    (run1.cmp 256).armed = false ∧
    ((oneCmp 256 ⟨0, 0, true, true, false, false, false, false, false⟩).cmp 256).armed = true := by decide

theorem test_witness_ActionTable : State.reset.isOff = false ∧ (4095 < 4096 ∧ 3 < 4) ∧ (State.reset.cmp 4095).armed = false ∧
    4095 / 256 = 15 ∧ 4095 / 256 ≠ 14 ∧ (State.reset.setFld (TLR_AMASK_WIN 15) 4).fbit (TLR_AMASK_WIN 15) 2 = true ∧
    ¬ (State.reset.setFld (TLR_AMASK_WIN 15) 0).fbit (TLR_AMASK_WIN 15) 2 = true ∧ (run1.teller 1).st = .running ∧ 0x9C11 * 65536 / 2 ^ 16 % 2 ^ 16 ≠ 0x9C10 ∧ 4 < 5 ∧
    (⟨5, 1, 0x600000, 0, false⟩ : Act).slow = true := by decide

theorem test_witness_ComparatorOutcomes :
    let c : Cmp := ⟨0, 0, true, true, false, false, false, false, false⟩
    let s := oneCmp 256 c
    let f : Field := ⟨0x290000 + 16 * 256, 0, 32, .rw, 0, .any⟩
    s.isOff = false ∧ s.stream = [] ∧ c.armed = true ∧ c.held = false ∧ c.target ≤ s.wpos ∧ s.fld f = 0 ∧
    (s.setFld f 0x80).fld f = 0x80 ∧ (s.setFld f 0x40).fld f = 0x40 ∧ (s.setFld f 0x10).fld f = 0x10 ∧
    s.inhibit = false ∧ (s.setFld TIM_STATUS_INHIBIT 1).inhibit = true ∧
    (∀ k, k = 1 ∨ k = 2 ∨ k = 3 → s.fld ⟨0x290000 + 16 * 256 + 4 * k, 0, 32, .rw, 0, .any⟩ = 0) ∧ 256 < 4096 :=
  ⟨by decide, rfl, rfl, rfl, by decide, by decide, by decide, by decide, by decide, by decide, by decide,
    by rintro k (rfl | rfl | rfl) <;> decide, by decide⟩

theorem test_witness_TellerControl : State.reset.isOff = false ∧ (0x7E10 : Nat) ≠ 0x7E11 := by decide

theorem test_witness_TellerReset :
    let s := run1.mapTeller 2 fun x => { x with wrrq := [(4, 5)] }
    s.isOff = false ∧ (1 < 16 ∧ Nat.testBit 6 1 = true ∧ (s.teller 1).wrrq = []) ∧ (Nat.testBit 6 2 = true ∧ (s.teller 2).wrrq ≠ []) ∧
    Nat.testBit 6 3 = false ∧ (2 : Nat) = 2 ^ 1 := by decide

/-- A body of zeros. -/
def body0 : List Byte := List.replicate 64 0

/-- An order of account 0, book 0, not taken. -/
def order0 (taker : Option Nat) : Order := ⟨0, 0, 0, none, body0, taker, false, false⟩

theorem test_witness_LockInstructions :
    let s := run1g [(3, 255), (4, 256)] []
    let held := s.setLock 255 ⟨some (.teller 1 0), false⟩
    let other := s.setLock 255 ⟨some (.host 7), true⟩
    s.runs 1 = true ∧ s.settled 1 = true ∧ 255 < ((s.teller 1).getG 4).toNat ∧ ((s.teller 1).getG 3).toNat ≤ 255 ∧
    (held.lock 255).holder = some (.teller 1 0) ∧ (other.lock 255).holder ≠ none ∧ (s.lock 255).holder = none ∧
    held.locks = [(255, ⟨some (.teller 1 0), false⟩)] ∧ s.locks = [] := by decide

theorem test_witness_TakeAndSettle :
    let s := run1In 1 [(3, 0), (4, 0xFFFBC), (5, 2), (6, 0xFFFC0), (7, 0x4000)]
    let one := s.setOrder 0 (some (order0 none))
    let two := s.setOrder 0 (some (order0 (some 1)))
    s.runs 1 = true ∧ s.settled 1 = true ∧ s.isStandby = false ∧ (s.teller 1).doneOps = [] ∧ 2 % 4 ≠ 0 ∧ (0xFFFC0 % 4 = 0 ∧ dmSize < 0xFFFC0 + 68) ∧
    (0xFFFBC % 4 = 0 ∧ 0xFFFBC + 68 ≤ dmSize) ∧ ¬ 0x4000 < 2 ^ 14 ∧ s.oldestUntaken 0 0 = none ∧
    one.oldestUntaken 0 0 = some (0, order0 none) ∧ one.takeable (order0 none) = true ∧
    (one.setOrder 0 (some { order0 none with pred := some 5 })).takeable { order0 none with pred := some 5 } = false ∧
    s.order 0 = none ∧ one.order 0 = some (order0 none) ∧ two.order 0 = some (order0 (some 1)) ∧
    (order0 (some 1)).bseq = (two.book 0 0).head ∧ ((two.setBook 0 0 ⟨1, 1, 0⟩).book 0 0).head ≠ (order0 (some 1)).bseq := by
  decide

theorem test_witness_SystemOperations :
    let s := run1In 1 [(3, 0xF00), (4, 0xEFF), (5, 0x4000), (6, 7), (7, 0x58D), (8, 0x1001)]
    let mine : State := { s with claims := [(0xF00, 2)] }
    let his : State := { s with claims := [(0xF00, 1)] }
    s.runs 1 = true ∧ s.settled 1 = true ∧ s.isStandby = false ∧ (s.teller 1).doneOps = [] ∧ (0xEFF < 0xF00) ∧ (0xF00 ≤ 0xF00 ∧ 0xFFF ≤ 0xFFF) ∧
    tabGet 0 s.claims 0xF00 = 0 ∧ tabGet 0 mine.claims 0xF00 = 2 ∧ (tabGet 0 his.claims 0xF00 ≠ 0 ∧ tabGet 0 his.claims 0xF00 ≠ 2) ∧
    0x4000 + 68 ≤ dmSize ∧ takeMsg s.claims 1 s.inbox = none ∧
    takeMsg mine.claims 1 [(0xF00, ⟨0, body0, 0, 0, 0⟩)] = some (⟨0, body0, 0, 0, 0⟩, []) ∧ s.clean 0x4000 4 12 = true ∧
    6 ≠ s.fld (TLR_ACCT_ACCT 1) ∧ (0 = s.fld (TLR_ACCT_ACCT 1) ∧ s.evBusy 0 = false) ∧
    0x8000 ≤ memLoad (memPut [] 0x4000 (leBytes 4 0x8000)) 0x4000 4 ∧ (0x58D = s.node * 4096 + 0x58D ∧ s.clean 0x4000 4 72 = true) ∧
    (s.submitCheck 0 16 0 ≠ 0 ∧ s.submitCheck 0 0 0 = 0) ∧ (0x1001 < 2 ^ 17 ∧ 0x1001 / 4096 ≠ s.node ∧ 0x1001 % 4096 ≠ 0x58D) ∧
    ((s.teller 1).outb.length < 4 ∧ s.inbox.length < 64 ∧ 0x590 ≤ 0xF00 % 4096 ∧ 0xF00 / 4096 = s.node) ∧ (s.audRequest 6 (some 1) 0).1 ≠ 2 ∧ (run1In 3 []).isManager = false ∧ s.isManager = true ∧
    s.clean 0x4000 64 64 = true := by decide

theorem test_witness_ShadowedOperations :
    let s := run1In 2 [(3, 0x4000)]
    let r : MirRec := ⟨0, 0, 1, 0, 1, 0, .tellerOp []⟩
    let t := s.mapTeller 1 fun x => { x with doneOps := [r] }
    s.runs 1 = true ∧ s.settled 1 = true ∧ s.isStandby = true ∧ (s.teller 1).doneOps = [] ∧
    (t.teller 1).doneOps.find? (fun r => r.inst = ((t.teller 1).inst + 1) % 2 ^ 32) = some r ∧ 0x4000 + 68 ≤ dmSize ∧
    (run1In 1 []).isManager = true ∧ s.clean 0x4000 64 64 = true ∧ s.clean 0x4000 4 12 = true ∧ (0x4000 < 2 ^ 17 ∧ 0x4000 % 4096 ≠ 0x58D) := by decide

theorem test_witness_LedgerOrders :
    (run1.setOrder 0 (some (order0 none))).oldestUntaken 0 0 = some (0, order0 none) ∧ 1023 < 1024 ∧
    State.reset.submitCheck 1023 15 0 = 0 ∧ (run1.setOrder 0 (some (order0 none))).order 0 = some (order0 none) ∧
    run1.isOff = false := by decide

/-- A node whose firmware runs, with a command of account 5 captured and taken. -/
def mbNode (role code : Nat) (ws : List Nat) : State :=
  { ((inRole role).setFld ACC_BOOT_STAT 1).setFld (MBCTL_TAKEN 5) 1 with mbCmd := [(5, code :: ws)] }

theorem test_witness_MailboxCommands :
    let z := List.replicate 16 0
    (∀ c, c ∈ [1, 2, 3, 4, 5, 6, 8, 9, 10, 11, 16, 17, 18] → (mbNode 1 c z).mbOldest 5 = some (c, z)) ∧
    (mbNode 1 1 z).isOff = false ∧ (mbNode 1 1 z).fwRuns = true ∧ (mbNode 1 1 z).isManager = true ∧
    (mbNode 3 1 z).isWorker = true ∧ (∀ v, v ∈ z.drop 1 → v = 0) ∧ ¬ (∀ v, v ∈ [0, 0, 7].drop 2 → v = 0) ∧
    (mbNode 1 3 z).bodyOf 5 = [] ∧ (({ mbNode 1 3 z with bodies := [(5, body0)] } : State).bodyOf 5) ≠ [] ∧
    (0x1001 / 4096 ≠ (mbNode 1 3 z).node ∧ 0x1001 % 4096 ≠ 0x58D) ∧ (0x158D / 4096 ≠ (mbNode 1 3 z).node ∧ 0x158D % 4096 = 0x58D) ∧
    (0x58C / 4096 = (mbNode 3 3 z).node ∧ 0x58C % 4096 < 0x58D) ∧ (0x590 / 4096 = (mbNode 3 3 z).node ∧ 0x590 ≤ 0x590 % 4096) ∧
    (0x58D / 4096 = (mbNode 3 3 z).node ∧ (mbNode 3 3 z).isManager = false) ∧
    255 < 256 ∧ (mbNode 1 4 z).esc.port = [] ∧ ((mbNode 1 17 (4 :: z)).setFld (VLT_MEMBERS_ACCTS 0) 32).isVault 5 = true ∧
    (1 ≤ 4 ∧ 4 ≤ 4) ∧ (mbNode 1 17 z).fbit VLT_KEYSTAT_WRITTEN 3 = false ∧
    ((mbNode 1 17 z).setFbit VLT_KEYSTAT_WRITTEN 3).fbit VLT_KEYSTAT_WRITTEN 3 = true := by decide

theorem test_witness_EventsAndReplies :
    let s := State.reset.setFld (EVQ_CFG_EN 1023) 1
    let t := s.setFld (EVQ_TAIL_TAIL 1023) 5
    s.isOff = false ∧ 1023 < 1024 ∧ (5 + 2 ^ 32 - 0) % 2 ^ 32 ≤ (t.fld (EVQ_TAIL_TAIL 1023) + 2 ^ 32 - 0) % 2 ^ 32 ∧
    (t.fld (EVQ_TAIL_TAIL 1023) + 2 ^ 32 - 0) % 2 ^ 32 < (6 + 2 ^ 32 - 0) % 2 ^ 32 ∧ State.reset.flag (EVQ_CFG_EN 1023) = false ∧
    tabGet false [(1023, true)] 1023 = true ∧ tabGet false s.modPend 1023 = false ∧ s.hasStandby = false ∧ [10].length ≤ 4 ∧
    (tabGet [] (mbNode 1 1 (List.replicate 16 0)).mbCmd 5).length ≤ 17 ∧
    (State.reset.setFld (MBCTL_GO 1023) 1).flag (MBCTL_GO 1023) = true ∧ s.flag (EVQ_CFG_EN 1023) = true ∧
    s.fld (EVQ_PEND_LOSTPEND 1023) = 0 ∧ s.heldOf 1023 = [] ∧ s.pwr.hostDown = false ∧ s.evqUsed 1023 < s.evqSize 1023 := by decide

theorem test_witness_AccountsVaultAndBoot :
    let v := State.reset.setFld (VLT_MEMBERS_ACCTS 1) 0x80000000
    let g := (State.reset.setFld (MBCTL_GO 5) 1).setFld (MBCTL_TAKEN 5) 1
    v.isOff = false ∧ 63 < 1024 ∧ (0xACC1 : Nat) ≠ 0xACC0 ∧ v.isVault 63 = true ∧ State.reset.isVault 63 = false ∧
    (g.flag (MBCTL_GO 5) = true ∧ g.flag (MBCTL_TAKEN 5) = true ∧ g.mirror.held = []) ∧ State.reset.flag (MBCTL_GO 5) = false ∧
    (1 < 2 ∧ Nat.testBit (State.reset.fld (VLT_MEMBERS_ACCTS 1) ^^^ (0x80000000 % 2 ^ 32)) 31 = true ∧
      (State.reset.setFld (ACC_CFG_EN 63) 1).flag (ACC_CFG_EN 63) = true ∧ State.reset.flag (ACC_CFG_EN 63) = false) ∧
    (State.reset.fld ACC_BOOT_STAT = 0 ∧ State.reset.pwr.coresHeld = false) ∧ State.reset.mbCmd = [] ∧
    (flashImages [] 1).find? (fun bs => State.reset.envOk bs 1) = none ∧ leAt [] 0 4 ≠ 0x50444653 ∧
    (State.reset.setFld ACC_BOOT_STAT 1).fwRuns = true ∧ ({ State.reset with images := [[]] } : State).images = [[]] ∧
    State.reset.envOk [] 2 = false := by decide

/-- A Manager with a station and an origin, so that a run can open; and the same with the run open. -/
def mgrRun : State :=
  (((inRole 1).setFld ESC_STMAP_STN 1).setFld ESC_ORIGINLO_LINE 1000000).setFld ESC_DEFGAP_LINES 94

/-- A run with its close position at line `ec`. -/
def openRun (ec : Nat) : State := mgrRun.setEsc { mgrRun.esc with runOpen := true, x := ec + 100, ec := ec }

theorem test_witness_EscrowRun :
    let d := Desc.void 4096 94
    let again := (openRun 0).setEsc { (openRun 0).esc with prev := some (1, { d with flags := 6 }) }
    mgrRun.isOff = false ∧ (inRole 3).isManager = false ∧ mgrRun.isManager = true ∧ mgrRun.esc.runOpen = false ∧
    (inRole 1).fld ESC_STMAP_STN = 0 ∧ (mgrRun.fld ESC_STMAP_STN ≠ 0 ∧ mgrRun.fld ESC_LEAD_LINES ≤ mgrRun.fld ESC_DEFLEN_LINES ∧
      mgrRun.wpos / 2 ^ 16 + mgrRun.fld ESC_DEFGAP_LINES + mgrRun.fld ESC_LEAD_LINES < mgrRun.origin) ∧
    (openRun 500).esc.runOpen = true ∧ mgrRun.esc.port = [] ∧
    ((run1.setTeller 1 { Teller.init with st := .running, wait := .port }).teller 1).wait = .port ∧
    (openRun 500).wpos < (openRun 500).esc.ec * 2 ^ 16 ∧ (openRun 0).esc.ec * 2 ^ 16 ≤ (openRun 0).wpos ∧
    (openRun 0).esc.stopReq = false ∧ (openRun 0).esc.ahead = [] ∧ (openRun 0).esc.prev = none ∧
    ({ d with flags := 6 } : Desc).repeatable = true ∧ again.fallback = 2 ∧ (1 : Nat) ≠ 3 ∧
    (mbNode 1 4 (List.replicate 16 0)).mbOldest 5 = some (4, List.replicate 16 0) := by decide

theorem test_witness_LeadStation : 0 < 16 ∧ mgrRun.fbit ESC_STMAP_STN 0 = true ∧ mgrRun.inRun = false ∧
    ((mgrRun.setFld ESC_STMAP_STN 0x8000).fbit ESC_STMAP_STN 15 = true) := by decide

/-- A frame on direction B from node 0, in turn. -/
def hB : Hdr := { h0 with dir := 1 }

/-- A slot of close position 0 that nothing has voided. -/
def slot0 (d : Desc) (x released : Nat) : SlotRec := ⟨1, d, x, 0, none, released, 0, 0, [], [], Geo.none, 0⟩

/-- A slot in flight, on a Worker whose port 0 serves station 3. -/
def worker3 : State := ((inRole 3).setFld GLB_PORTMAP_MAP 0x98).setSlot 7 (slot0 (Desc.void 4096 94) 0 0)

theorem test_witness_SlotCommands :
    let far := ((inRole 3).setFld GLB_PORTMAP_MAP 0x98).setSlot 7 { slot0 (Desc.void 0 0) 0 0 with ec := 500 }
    let w := worker3.setEsc { worker3.esc with expect := some (8, 0, 4096, 94) }
    let rel := worker3.setSlot 7 (slot0 (Desc.void 4096 94) 0 (2 ^ 3))
    worker3.isOff = false ∧ worker3.isWorker = true ∧ worker3.inFlight 7 = true ∧ 3 ∈ worker3.served ∧
    (worker3.slot 7).released.testBit 3 = false ∧ ((worker3.slot 7).ec + (worker3.slot 7).geo.lag 3) * 2 ^ 16 ≤ worker3.wpos ∧
    (worker3.slot 7).voided = none ∧ (worker3.slot 7).kind ≠ 3 ∧
    far.wpos < ((far.slot 7).ec + (far.slot 7).geo.lag 3) * 2 ^ 16 ∧ far.inFlight 7 = true ∧ 3 ∈ far.served ∧
    (rel.windowsDue.slot 7).released.testBit 3 = true ∧ (rel.windowsDue.slot 7).begun.testBit 3 = false ∧
    rel.windowsDue.inFlight 7 = true ∧ 3 ∈ rel.windowsDue.served ∧ rel.windowsDue.isWorker = true ∧
    ((rel.windowsDue.slot 7).x + (rel.windowsDue.slot 7).geo.lag 3) * 2 ^ 16 ≤ rel.windowsDue.wpos ∧
    w.esc.expect = some (8, 0, 4096, 94) ∧ w.inFlight 8 = false ∧ (0 + w.lag 3) * 2 ^ 16 ≤ w.wpos := by decide

/-- The Manager's and the Standby's share of the slot commands, and the ring's records. -/
theorem test_witness_slot_end_and_records :
    let m := (inRole 1).setSlot 7 (slot0 (Desc.void 0 0) 0 0)
    let b := (inRole 2).setSlot 7 (slot0 (Desc.void 0 0) 0 0)
    m.isManager = true ∧ m.inFlight 7 = true ∧ ((m.slot 7).x + (m.slot 7).geo.maxLag + (m.slot 7).desc.length) * 2 ^ 16 ≤ m.wpos ∧
    b.isStandby = true ∧ b.inFlight 7 = true ∧ ((b.slot 7).x + (b.slot 7).geo.maxLag + (b.slot 7).desc.length) * 2 ^ 16 ≤ b.wpos ∧
    m.inFlight 9 = false ∧ 0 < [(⟨Desc.void 0 0, none⟩ : Waiting)].length ∧
    m.accepts hB = true ∧ worker3.accepts hB = true ∧ b.accepts hB = true ∧
    (worker3.heard hB (.endrun 7 0)).isWorker = true ∧ (b.heard hB (.endrun 7 0)).isStandby = true ∧
    (m.heard hB (.endrun 7 0)).isWorker = false ∧ (m.heard hB (.endrun 7 0)).isStandby = false := by decide

/-- A slot whose descriptor names a table at station 3, in and out of a SEALED extent. -/
theorem test_witness_table_read :
    let d := { Desc.void 4096 94 with tables := List.replicate 16 4 }
    d.table 3 = 4 ∧ worker3.inSealed (4 * unitBytes) (worker3.tableLen d 3) = false ∧
    (worker3.setExtent 5 ⟨4, 1, 3, 0, 0⟩).inSealed (4 * unitBytes) (worker3.tableLen d 3) = true := by decide
theorem test_witness_EncoderInputs :
    let s := (inRole 1).setFld (TIM_ENCCFG_EN 0) 1
    let t := (inRole 1).setFld (TIM_ENCCFG_EN 3) 1
    let c := t.setFld (TIM_ENCCFG_TYPE 3) 1
    let lost := c.setPos { c.pos with ampFault := [(3, some 100)] }
    s.isOff = false ∧ 4 ≤ 4 ∧ (inRole 1).flag (TIM_ENCCFG_EN 3) = false ∧
    (s.flag (TIM_ENCCFG_EN 0) = true ∧ 0 = s.fld TIM_CFG_MASTER ∧ s.flag (TIM_ENCCFG_TYPE 0) = false ∧ s.isManager = true) ∧
    (t.flag (TIM_ENCCFG_EN 3) = true ∧ 3 ≠ t.fld TIM_CFG_MASTER ∧ t.flag (TIM_ENCCFG_TYPE 3) = false) ∧
    (c.flag (TIM_ENCCFG_EN 3) = true ∧ c.flag (TIM_ENCCFG_TYPE 3) = true ∧ tabGet none c.pos.ampFault 3 = none) ∧
    (lost.flag (TIM_ENCCFG_TYPE 3) = true ∧ tabGet none lost.pos.ampFault 3 = some 100 ∧ 3 ≠ lost.fld TIM_CFG_MASTER) := by decide

theorem test_witness_PublishedPosition :
    let s := (inRole 1).setPos { (inRole 1).pos with out := 1, extrap := 0 }
    let e (lines : Nat) : Int := ((lines : Nat) : Int) * 2 ^ 24 - State.reset.pos.est
    s.isManager = true ∧ s.rawPos < s.pos.out ∧ 2 ^ 38 < (e (2 ^ 15)).natAbs ∧ (e (2 ^ 14)).natAbs ≤ 2 ^ 38 := by decide

theorem test_witness_BeaconsAndLineMaster :
    let s := inRole 1
    let c : Beacon := ⟨0, 0, 0, 0, false⟩
    let u (r : Nat) : State := { inRole r with freeCtr := 1 }.heard hB (.beacon c)
    s.isOff = false ∧ s.isManager = true ∧ s.pwr.bcnStopped = false ∧ s.hasStandby = false ∧ (inRole 3).isManager = false ∧
    s.ringRuns = true ∧ s.flag RNG_STATUS_WRAPA = false ∧ s.flag RNG_STATUS_WRAPB = false ∧
    ((inRole 3).setFld TIM_STATUS_SRC 2).fld TIM_STATUS_SRC = 2 ∧ ((inRole 3).setFld TIM_STATUS_SRC 3).fld TIM_STATUS_SRC = 3 ∧
    s.pwr.dormantLow = false ∧ (1 : Nat) ≠ 0 ∧ (s.setFld TIM_LMCFG_EN 1).flag TIM_LMCFG_EN = true ∧ s.accepts hB = true ∧
    (inRole 2).accepts hB = true ∧ (inRole 3).accepts hB = true ∧ (u 1).isManager = true ∧ (u 2).isStandby = true ∧
    (u 3).isWorker = true := by decide

theorem test_witness_WallTime :
    let s := ((State.reset.setFld CLD_SDATE_YEAR 2399).setFld CLD_SDATE_MONTH 12).setFld CLD_SDATE_DAY 31
    let a := (State.reset.setFld CLD_TMRCTL_ARM 0x80).setFld (CLD_TMRLO_DL 7) 5
    let p := State.reset.setFld PTP_CFG_EN 1
    let now : State := { s with time := { s.time with commitAt := some s.time.cycles } }
    s.isOff = false ∧ (State.reset.setFld CLD_STATUS_SRC 2).fld CLD_STATUS_SRC = 2 ∧ s.fld CLD_STATUS_SRC ≠ 2 ∧
    dateOk 2399 12 31 0 0 0 0 = true ∧ ¬ 2000 ≤ (s.setFld CLD_SDATE_YEAR 1999).fld CLD_SDATE_YEAR ∧ now.time.commitAt = some now.time.cycles ∧
    s.time.commitAt ≠ some s.time.cycles ∧ 7 < 8 ∧
    (a.timerArmed 7 = true ∧ a.wall < a.fld (CLD_TMRHI_DL 7) * 2 ^ 32 + a.fld (CLD_TMRLO_DL 7)) ∧ 5 < secCycle * 1000000000 ∧
    a.timerArmed 6 = false ∧ (0 ≤ a.wall ∧ (∀ k, k < 8 → k ≠ 7 → a.timerArmed k = false)) ∧ State.reset.flag PTP_CFG_EN = false ∧
    (State.reset.setFld PTP_STAT_STATE 4).fld PTP_STAT_STATE = 4 ∧ p.flag PTP_CFG_EN = true ∧ p.fld PTP_STAT_STATE ≠ 4 ∧
    (Int.natAbs 1000 ≤ 1000 ∧ 1000 < Int.natAbs (-1001)) ∧ (p.setFld CLD_STATUS_SRC 2).fld CLD_STATUS_SRC = 2 ∧
    p.fld CLD_STATUS_SRC ≠ 2 := by decide

theorem test_witness_ScanTimingAndBands :
    let s := inRole 3
    let l := s.setFld (SCN_STAT_LOCKED 3) 1
    let e := s.setFld (PLL_CTL_EN 3) 1
    s.isOff = false ∧ 3 < 4 ∧ 51200 < 51201 ∧ l.flag (SCN_STAT_LOCKED 3) = true ∧
    l.fld (SCN_WIN_SOSWIN 3) * 2 ^ 16 < ((60000 * 2 ^ 16 : Int) - l.fld (PLL_PPS_VALUE 3)).natAbs ∧
    s.flag (SCN_STAT_LOCKED 3) = false ∧ (s.setFld (SCN_CFG_FACETSRC 3) 1).flag (SCN_CFG_FACETSRC 3) = true ∧
    s.flag (SCN_CFG_FACETSRC 3) = false ∧ (s.setFld (SCN_CFG_EOSEN 3) 1).flag (SCN_CFG_EOSEN 3) = true ∧
    (((s.fld (SCN_WIN_EOSEXP 3) * 2 ^ 16 : Int) - (s.fld (SCN_WIN_EOSEXP 3) * 2 ^ 16 : Nat)).natAbs ≤ s.fld (SCN_WIN_SOSWIN 3) * 2 ^ 16) ∧
    ((s.setScan 3 { s.scanP 3 with lastTime := some 9 }).scanP 3).lastTime = some 9 ∧
    (l.setFld (SCN_STAT_PRED 3) 7).fld (SCN_CFG_SOSBUD 3) ≤ (l.setFld (SCN_STAT_PRED 3) 7).fld (SCN_STAT_PRED 3) ∧
    l.fld (SCN_STAT_PRED 3) < l.fld (SCN_CFG_SOSBUD 3) ∧ s.flag (SCN_CTL_PLOCKEN 3) = false ∧ s.bindOk (s.scanLoops 3) = false ∧
    (s.setFld (CTL_LCFG_FMT 0) 1).bindOk ((s.setFld (CTL_LCFG_FMT 0) 1).scanLoops 3) = true ∧ s.inhibit = false ∧
    (s.setFld TIM_STATUS_INHIBIT 1).inhibit = true ∧ s.role = 3 ∧ (inRole 2).role = 2 ∧
    e.flag (PLL_CTL_EN 3) = true ∧ s.flag (PLL_CTL_EN 3) = false ∧ s.portImaging 3 = false ∧
    bandOf (s.pixelHz 3) ≠ (s.setFld (SCN_STAT_BAND 3) 2).fld (SCN_STAT_BAND 3) ∧ (s.setFld (HLK_CTL_EN 3) 1).flag (HLK_CTL_EN 3) = true ∧
    ((s.setScan 3 { s.scanP 3 with recent := [[(SCN_CTL_SWPT 3, 1)]] }).scanP 3).recent = [(SCN_CTL_SWPT 3, 1)] :: [] ∧
    (s.setFld (SCN_CTL_SWPEN 3) 1).flag (SCN_CTL_SWPEN 3) = true ∧ (bandOf 9826752 < 5 ∧ bandOf 0 = 7) := by decide

theorem test_witness_profile_forms : profileOk (State.reset.stagedProfile 3 264) 264 = true ∧
    profileOk [(0, 2 ^ 40)] 264 = false := by decide

theorem test_witness_ReferenceClocks :
    let s := inRole 1
    let d := s.setFld (refDead 1) 1
    let h := s.setFld PLL_REFSTAT_STATE 2
    let sw : State := { s.setFld PLL_REFSTAT_STATE 3 with refs := { s.refs with target := some 1 } }
    s.isOff = false ∧ 1 < 2 ∧ d.flag (refDead 1) = true ∧ s.flag (refDead 1) = false ∧ s.fld PLL_REFSTAT_STATE = 0 ∧
    0 = s.fld PLL_REFSTAT_SEL ∧ h.fld PLL_REFSTAT_STATE = 2 ∧ sw.fld PLL_REFSTAT_STATE = 3 ∧ sw.refs.target = some 1 ∧
    (openRun 0).isManager = true ∧ ((openRun 0).setFld PLL_REFSTAT_STATE 1).fld PLL_REFSTAT_STATE = 1 ∧
    (openRun 0).esc.runOpen = true ∧ (openRun 0).srcMasked 6 8 = false ∧ ((openRun 0).incident 6).escd.contains 8 = false ∧
    (s.setFld PLL_FMASK_SRC 0x100).srcMasked 6 8 = true := by decide

/-- A node whose selected reference A is dead and whose reference B is healthy and armed. -/
def refB : State :=
  (((State.reset.setFld (refDead 0) 1).setFld (refHealthy 0) 0).setFld (refHealthy 1) 1).setFld (refArm 1) 1

theorem test_witness_reference_switch : refB.refTarget = some 1 ∧ (refB.setFld PLL_REFSTAT_STATE 1).refTarget = some 1 ∧
    refB.refUsable (1 - refB.fld PLL_REFSTAT_SEL) = true ∧ (refB.setFld (refArm 1) 0).refTarget = none ∧
    (refB.setFld (refArm 1) 0).refUsable 1 = false ∧ refB.switchInstant = true := by decide

/-- A Worker in a run, whose enabled port 0 at station 3 waits in a gap of 900 lines before its next window. -/
theorem test_witness_switch_in_a_gap :
    let w := (((inRole 3).setFld GLB_PORTMAP_MAP 0x98).setFld TIM_VEL_VEL 1).setSlot 7 (slot0 (Desc.void 4096 94) 900 0) |>.setFld (FRM_PHASE_PHASE 0) 1
    w.portEn 0 = true ∧ w.portIdle 0 = false ∧ w.portImaging 0 = false ∧ w.switchInstant = true ∧
    (w.gapLeft (w.portStn 0)).isSome = true := by decide

theorem test_witness_HeadLinkCommands :
    let s := inRole 3
    let k : Nak := ⟨3, 0, 0, 0, none⟩
    let e := (s.setFld (HLK_CTL_EN 3) 1).setFld (HLK_STAT_STATE 3) 1
    s.isOff = false ∧ (3 < 4 ∧ 255 < 256) ∧ s.role = 3 ∧ (inRole 1).role = 1 ∧ s.flag (HLK_CTL_EN 3) = false ∧
    e.flag (HLK_CTL_EN 3) = true ∧ e.fld (HLK_STAT_STATE 3) = 1 ∧ s.fld (HLK_STAT_STATE 3) = 0 ∧ (e.headP 3).running = none ∧
    (e.headP 3).naks = [] ∧ (e.headP 3).hist = [] ∧
    ((s.setHead 3 { s.headP 3 with pp := 7 }).headP 3).pp % 8 ≠ 0 ∧
    ((e.setHead 3 { e.headP 3 with naks := [k], slot := 8 }).headP 3).naks.find? (fun k => k.start.isNone) = some k ∧
    (k.slot + 4 ≤ 8 ∧ 8 ≤ k.slot + 6) ∧ (s.headP 3).expect = [] ∧ ((e.setHead 3 { e.headP 3 with expect := [k] }).headP 3).expect = [k] ∧
    [(255, 0)].any (fun x => x.1 = 255) = true ∧ s.dead 3 255 = false ∧ ((s.setFld (HLK_STAT_SPLANE 3) 4).fld (HLK_STAT_SPLANE 3)) ≠ 15 ∧
    ((s.setHead 3 { s.headP 3 with laneOk := true }).headP 3).laneOk = true ∧ s.blk 7 = 0 ∧ s.portImaging 3 = false ∧
    (s.expoP 3).clr = 0 ∧ ((s.setExpo 3 { s.expoP 3 with clr := 2 ^ 255 }).expoP 3).clr ≠ 0 := by decide

theorem test_witness_StoreAndIngest :
    let s := inRole 3
    let e := s.setFld STO_CTL_EN 1
    let up := ((e.setFld STO_STATUS_READY 1).setFld (STO_DRV_STATE 0) 1).setFld (STO_DRV_QUEUES 0) 1
    let k : TileKey := ⟨7, 3, 0, 0, false⟩
    let f : Fetch := ⟨k, 0, 2 ^ 24, 64, 0, false⟩
    let w := up.setStore { up.store with fetches := [f] }
    let c : Nvme := ⟨.read, 0, 2 ^ 24, 64, [(k, 0)], 0, 0, [], 0, 0, false⟩
    let q := w.setNvme 9 (some c)
    s.isOff = false ∧ s.fld STO_CTL_NDRV ≤ 16 ∧ s.flag STO_CTL_EN = false ∧
    (e.flag STO_STATUS_READY = false ∧ e.flag STO_STATUS_LABELERR = false) ∧ (0xF04C : Nat) ≠ 0xF04D ∧
    e.flag STO_CTL_EN = true ∧ e.store.extents = [] ∧ ((e.setExtent 5 ⟨1, 2, 4, 0, 0⟩).extent 5).state = 4 ∧
    (e.setExtent 5 ⟨1, 2, 4, 0, 0⟩).extBusy 5 (fun o => o ≠ .read) = false ∧ (e.extent 5).state ≠ 4 ∧
    firstPiece (e.store.fetches.filter fun f => ! f.sent) = none ∧ firstPiece (w.store.fetches.filter fun f => ! f.sent) = some f ∧ w.flag STO_CTL_MIRROR = false ∧
    w.driveOn (w.driveOf f.addr) = true ∧ w.mayGo c = true ∧ e.nvme 9 = none ∧ q.nvme 9 = some c ∧ c.late = false ∧
    (e.setNvme 9 (some { c with late := true })).nvme 9 = some { c with late := true } ∧ (1 : Nat) ≠ c.drive ∧
    c.retries = 0 ∧ (2 : Nat) ≠ 0 ∧ (15 < 16 ∧ (e.setFld (STO_DRV_STATE 15) 2).fld (STO_DRV_STATE 15) ≠ 0) := by decide

theorem test_witness_reads_at_their_deadline :
    let s := inRole 3
    let k : TileKey := ⟨7, 3, 0, 0, false⟩
    let f : Fetch := ⟨k, 0, 2 ^ 24, 64, 0, false⟩
    let w := s.setStore { s.store with fetches := [f] }
    let t : Tile := ⟨k, 0, 2 ^ 24, 16, .coming, [], []⟩
    let u : Tile := { t with parts := [(0, 0, 16)] }
    let b := s.setStore { s.store with tiles := [u] }
    (f.key.slot = 7 ∧ f.key.stn = 3 ∧ f.key.row = 0 ∧ f.deadline * 2 ^ 16 ≤ w.wpos ∧ f.sent = false) ∧
    (w.readsWith fun p => [f].any fun f => f.key = p.1 && f.off = p.2) = [] ∧ s.store.fetches = [] ∧
    ((s.setStore { s.store with tiles := [t] }).tileAt 7 3 0 0 = some t ∧ t.whole = false) ∧
    (b.tileAt 7 3 0 0 = some u ∧ u.st = .coming ∧ u.whole = true ∧
      decodeTile (b.tileBytes u) (u.len / 16) (b.slot 7).desc.frame 3 0 0 = none) := by decide

theorem test_witness_ingest :
    let s := (inRole 3).setFld (NET_CTL_EN 1) 1
    let g : Ingest := ⟨5, 0, 100, 0, 1, 0, 0, true, 5, 0, 0, [], [], 0, 0, [], [], .lines⟩
    let n := s.setStore { s.store with ingests := [(4, some g), (6, some { g with at_ := .flush })] }
    1 < 2 ∧ (inRole 3).flag (NET_CTL_EN 1) = false ∧ n.flag (NET_CTL_EN 1) = true ∧ n.ingestBy 5 = some (4, g) ∧
    n.ingestBy 7 = none ∧ tabGet none n.store.ingests 4 = some g ∧ (g.at_ = .lines ∧ g.line ≠ g.length) ∧
    (tabGet none n.store.ingests 6 = some { g with at_ := .flush } ∧ n.writesDone 6 = true) ∧
    (({ g with line := 100 } : Ingest).line = g.length ∧ g.rows = []) ∧ tabGet none n.store.ingests 5 = none := by decide

theorem test_witness_reserve : (((inRole 3).setFld STO_CTL_EN 1 |>.setFld STO_STATUS_READY 1 |>.setFld STO_CAPUNITS_UNITS 100
    |>.setFld STO_FREEUNITS_UNITS 99).reserveDo 5 4 0).1 = 0 := by decide

theorem test_witness_MintLineRoundTrip : (List.replicate 4096 (3 : Nat)).length = 4096 ∧ ∀ v, v ∈ [(3 : Nat)] → v < 16 :=
  ⟨List.length_replicate .., by decide⟩

/-- DMA channel 63 armed, in a state, with triggers pending. -/
def dmaIn (st pend : Nat) (c : Dma) : State :=
  ((((State.reset.setFld (DMA_CTL_ARM 63) 1).setFld (DMA_CHSTAT_STATE 63) st).setFld (DMA_CHSTAT_PEND 63) pend).setFld
    (DMA_HOPLIM_HOPLIM 63) 4).setDma 63 c

theorem test_witness_DmaChannels :
    let d := dmaDesc 0 0 (List.replicate 32 0)
    let a := dmaIn 1 255 Dma.init
    let off := State.reset.setFld (DMA_CHSTAT_STATE 63) 5
    State.reset.isOff = false ∧ 63 < 64 ∧ a.dmaArmed 63 = true ∧ State.reset.dmaArmed 63 = false ∧
    State.reset.dmaCycle 63 63 65 = false ∧ State.reset.dmaSt 63 ≠ 5 ∧ (off.dmaSt 63 = 5 ∧ off.dmaArmed 63 = false) ∧
    (a.dmaSt 63 = 1 ∧ (dmaIn 5 0 Dma.init).dmaSt 63 = 5 ∧ (dmaIn 2 0 Dma.init).dmaSt 63 = 2 ∧
      (dmaIn 4 0 Dma.init).dmaSt 63 = 4) ∧ (254 < 255 ∧ ¬ 255 < 255) ∧ (State.reset.setFld (DMA_TMR_PERIOD 7) 1).fld (DMA_TMR_PERIOD 7) ≠ 0 ∧
    ((dmaIn 5 0 { Dma.init with errDesc := true }).dmaCh 63).errDesc = true ∧ 1 ≤ a.fld (DMA_HOPLIM_HOPLIM 63) ∧
    a.flag (DMA_CTL_PAUSE 63) = false ∧ a.fld (DMA_CFG_GRAIN 63) = 0 ∧ (a.dmaCh 63).fetching = none ∧
    ((dmaIn 2 0 { Dma.init with fetching := some (0, 0) }).dmaCh 63).fetching = some (0, 0) ∧ d.bad = true ∧
    ((dmaIn 2 0 { Dma.init with desc := some d, rd := [0], wr := [(0, [0])] }).dmaCh 63).rd = [0] ∧
    ((dmaIn 2 0 { Dma.init with desc := some d, rd := [0], wr := [(0, [0])] }).dmaCh 63).wr = [(0, [0])] ∧
    a.dmaMemErr 0 0 32 = false := by decide

/-- Descriptors that pass the checks, name themselves as next, and lie outside DRAM. -/
theorem test_witness_dma_descriptor :
    let d (dst next : Nat) := dmaDesc 96 0 (leBytes 8 0 ++ leBytes 8 dst ++ leBytes 4 16 ++ leBytes 4 0x18C00000 ++ leBytes 8 next)
    ((d 64 128).bad = false ∧ (d 64 128).outOfRange = false ∧ (d 64 128).last = false ∧ (d 64 128).next ≠ 96) ∧
    ((d 64 96).bad = false ∧ (d 64 96).next = 96 ∧ nextSpace (d 64 96).nsp = 0) ∧
    ((d (2 ^ 63) 128).bad = false ∧ (d (2 ^ 63) 128).outOfRange = true) ∧ ((d 64 128).dsp = 0 ∧ (d 64 128).ssp ≠ 2) := by decide

/-- A cycle of completion triggers through channel 63 alone. -/
theorem test_witness_dma_cycle :
    ((State.reset.setFld (DMA_CFG_KIND 63) 3).setFld (DMA_CFG_SRC 63) 63).dmaCycle 63 63 65 = true := by decide

/-- An axis enabled with legal limits, in a state. -/
def axisIn (i st : Nat) : State :=
  ((((State.reset.setFld (MOT_CFG_EN i) 1).setFld (MOT_VMAX_VALUE i) 1).setFld (MOT_AMAX_VALUE i) 1).setFld (MOT_JMAX_VALUE i)
    1).setAxState i st

theorem test_witness_MotionAxes :
    let moves := (axisIn 15 axRunning).setFld (MOT_CFG_MODE 15) 1
    let shut := (axisIn 11 axOff).setBlk 13 1
    State.reset.isOff = false ∧ (15 < 16 ∧ 11 < 12) ∧ State.reset.flag (MOT_CFG_EN 11) = false ∧
    ((axisIn 11 axOff).axisIdle 11 = true ∧ (axisIn 11 axOff).axisFaulty 11 = false ∧ (axisIn 11 axOff).flag (MOT_CFG_EN 11) = true) ∧
    (axisIn 11 axOff).blk 13 = 0 ∧ shut.blk 13 ≠ 0 ∧
    (axisChannels 11).any ({ shut with plant := { shut.plant with chOff := 2 ^ 52 - 1 } } : State).plant.chOff.testBit = true ∧
    (axisIn 11 axSensing).axState 11 = axSensing ∧ (axisIn 11 axAligning).axState 11 = axAligning ∧
    (axisIn 15 axHolding).axState 15 = axHolding ∧ (axisIn 11 axRunning).axState 11 = axRunning ∧
    (axisIn 15 axOff).flag (MOT_STAT_MOVING 15) = false ∧ moves.fld (MOT_CFG_MODE 15) = 1 ∧ moves.axState 15 = axRunning ∧
    (moves.setFld (MOT_STAT_MOVING 15) 1).flag (MOT_STAT_MOVING 15) = true ∧
    0 < ((axisIn 11 axSensing).setFld (MOT_SYNCC_VSTILL 11) 1).fld (MOT_SYNCC_VSTILL 11) * 10 ∧ ((axisIn 11 axSensing).axisP 11).reps < 50 ∧
    ((axisIn 15 axCoasting).axState 15 = axCoasting ∧ axRunning ≠ axOff ∧ axRunning ≠ axCoasting ∧ axRunning ≠ axSensing) ∧
    ((axisIn 15 axRunning).axisP 15).pos ≤ (axisIn 15 axRunning).target 15 := by decide

theorem test_witness_DriveAndBrakes :
    let up := State.reset.setPwr { State.reset.pwr with linkUp := true, drvReset := false }
    let on := ((up.setFld (GDR_CHCFG_MODE 51) 3).setFld (GDR_PWM_DUTY 51) 3).setFld GLB_DRVEN_OUTEN 1
    (2 ≤ 5 ∧ 5 ≤ 9 ∧ ¬ 0 + 501 ≤ 2 * 200 + 100 ∧ 200 + 20 < 221 ∧ 179 + 20 < 200) ∧ State.reset.isOff = false ∧ (51 < 52 ∧ 1 < 2) ∧
    State.reset.dieUp = false ∧ up.dieUp = true ∧ up.gateOut 51 true = .off ∧ (6999 < 7000 ∧ 8999 < 9000 ∧ 9500 < 9501) ∧
    up.pwr.linkUp = true ∧ State.reset.isStandby = false ∧ (inRole 2).isStandby = true ∧ ((on.setFld (GDR_PWM_DUTY 51) 1).gateOut 51 false ≠ .off ∧ (on.setFld (GDR_PWM_DUTY 51) 2).gateOut 51 true ≠ .off) ∧
    (State.reset.setFld (GDR_BRKCTL_ARM 1) 1).flag (GDR_BRKCTL_ARM 1) = true ∧ State.reset.flag (GDR_BRKCTL_ARM 1) = false := by decide

theorem test_witness_ControlHvFuserHeat :
    let s := inRole 1
    let z := s.setFld (FUS_ZCFG_EN 23) 1
    let ac (v : Nat) : State := s.setHv 13 { s.hvP 13 with ac := v }
    s.isOff = false ∧ (127 < 128 ∧ 15 < 16 ∧ 23 < 24 ∧ 47 < 48) ∧
    coefSetOk (s.isBfp 127) (s.flag (CTL_LCFG_ORDER 127)) (s.staged 127) = true ∧ s.hvState 13 = hvOff ∧
    (s.setFld (HVS_STATE_STATE 13) hvEscalated).hvState 13 = hvEscalated ∧ (s.setFld (HVS_STATE_STATE 13) hvArcHold).hvState 13 = hvArcHold ∧
    (s.setFld (HVS_STATE_STATE 13) hvRegulating).hvState 13 = hvRegulating ∧ (s.setFld (HVS_RAMP_RAMP 13) 0).fld (HVS_RAMP_RAMP 13) = 0 ∧
    (14 % 4 ≠ 1 ∧ 13 % 4 = 1) ∧ s.hvBound 13 = true ∧ (s.hvP 13).ac = 0 ∧ ((ac 1).hvP 13).ac = 1 ∧ ((ac 2).hvP 13).ac = 2 ∧ ((ac 3).hvP 13).ac = 3 ∧
    ((s.setHv 13 { s.hvP 13 with err := true }).hvP 13).err = true ∧ (inRole 3).isWorker = true ∧ s.isWorker = false ∧
    z.flag (FUS_ZCFG_EN 23) = true ∧ (ofTwos 16 (z.fld (FUS_ZSETR_ZMAX 23)) < 40000) ∧ (s.setFld (THM_MCFG_EN 47) 0).flag (THM_MCFG_EN 47) = false ∧
    (s.flag (THM_MCFG_EN 0) = true ∧ s.thmApplies 0 = true) ∧ ([] : List (Option Nat)).getD 0 none = none ∧
    ((s.setTherm 47 { s.thermP 47 with thr := true }).thermP 47).thr = true ∧ (s.thermP 47).thr = false := by decide

theorem test_witness_hv_enable : (inRole 1).hvMayEnable 0 = false ∧
    coefSetOk true true ((List.replicate 11 0).map fun _ => 0xFFFFFFFF) = false := by decide

theorem test_witness_CalibrationAndAudits :
    let s := (inRole 3).setFld GLB_PORTMAP_MAP 0x98
    let run := s.setCal 0 { s.cal 0 with st := 2 }
    let trig := s.setCal 0 { s.cal 0 with st := 1 }
    let m := s.setMarks 7 { Marks.init with x := 9, mask := 8 }
    let a := (inRole 1).setFld (AUD_STATE_STATE 15) 1
    let b := ((inRole 1).setFld (AUD_STATE_STATE 15) 2).setFld (AUD_CODE_CODE 15) (codeCal 4)
    s.isOff = false ∧ s.portEn 3 = false ∧ s.portEn 0 = true ∧ (s.cal 0).st ≠ 2 ∧ (run.cal 0).st = 2 ∧ (trig.cal 0).st = 1 ∧
    trig.emitTest 0 = none ∧ trig.portEn 0 = true ∧ (s.cal 0).st = 0 ∧ s.calMeasured 0 = false ∧
    (s.cal 4).st ≠ 2 ∧ ((s.setCal 4 { s.cal 4 with st := 2 }).cal 4).st = 2 ∧ (m.marks 7) ≠ Marks.init ∧ s.marks 7 = Marks.init ∧
    (m.marks 7).mask.testBit 3 = true ∧ s.registers = false ∧ s.edgeBar = none ∧ tabGet none (m.marks 7).first 3 = none ∧ 15 < 16 ∧
    s.audCodeOk 0xFFFFFFFF = false ∧ a.fld (AUD_STATE_STATE 15) = 1 ∧ a.audGapNow 0xFFFFFFFF = a.audGapNow 0xFFFFFFFF ∧
    (b.fld (AUD_STATE_STATE 15) = 2 ∧ audPort (codeCal 4) = none) := by decide

/-- A Manager that registers, with the marks of one slot expected at station 3. -/
def marked : State :=
  (((inRole 1).setFld CLB_MKCFG_EN 1).setFld CLB_REGGAIN_MWIN 100).setMarks 7 { Marks.init with x := 0, mask := 8 }

theorem test_witness_registering : marked.registers = true ∧ (inRole 3).registers = false ∧
    (let at3 := marked.setPos { marked.pos with out := (marked.markPos 0 3).toNat * 2 ^ 40 }
     at3.edgeBar.isSome = true) ∧ (marked.fld CLB_MKCFG_INPUT = 0) ∧ (marked.marks 7) ≠ Marks.init := by decide

theorem test_witness_FaultScheme :
    let s := State.reset
    let b (n : Nat) : State := (s.setFld (FLT_BLKSTAT_STATE 23) n)
    s.isOff = false ∧ 23 < 24 ∧ sourceOk 23 31 = false ∧ sourceOk 23 0 = true ∧ s.srcMasked 23 0 = false ∧
    (s.setFld MBX_FMASK_SRC 1).srcMasked 23 0 = true ∧ (b 0).blk 23 = 0 ∧ (b 1).blk 23 = 1 ∧ (b 2).blk 23 = 2 ∧ (b 3).blk 23 = 3 ∧
    (b 4).blk 23 = 4 ∧ (s.setFld (FLT_ROUTE_TELLERS 23) 2).fbit (FLT_ROUTE_TELLERS 23) 1 = true ∧
    (s.setFld FLT_INCNEXT_VALUE 2047).fld FLT_INCNEXT_VALUE % 2048 = 2047 ∧ (b 1).incident 23 = Incident.none ∧
    ((b 4).incident 23).srcs = [] ∧ (0xB10D : Nat) ≠ 0xB10C := by decide

theorem test_witness_LaserInterlock :
    let s := State.reset
    let w := s.setFld FLT_LSISTAT_WAITREARM 1
    (true || false) = true ∧ (∀ n, n < 4 → s.imagingSlot n = none) ∧ (s.setFld FLT_LSISTAT_DISC 1).flag FLT_LSISTAT_DISC = true ∧
    (s.setFld FLT_LSISTAT_DISC 0).flag FLT_LSISTAT_DISC = false ∧ (s.setFld FLT_LSISTAT_LENOK 0).flag FLT_LSISTAT_LENOK = false ∧
    w.isOff = false ∧ w.flag FLT_LSISTAT_WAITREARM = true ∧ (s.setFld FLT_LSISTAT_WAITREARM 0).flag FLT_LSISTAT_WAITREARM = false ∧
    s.pwr.straps.testEn = false ∧ s.fld ACC_BOOT_STAT ≠ 3 ∧ (s.setFld ACC_BOOT_STAT 3).fld ACC_BOOT_STAT = 3 := by decide

/-- A broadcast numbered with the first LSEQ of its link. -/
def hSeq : Hdr := { h0 with lseq := 0 }

/-- A unicast for node 5. -/
def hTo5 : Hdr := { h0 with dst := some (5 * 4096 + 0x58F) }

theorem test_witness_FrameReception :
    let s := inRole 1
    let behind := s.setFld GLB_TERM_TERM 1
    frameOf (.relinquish hSeq) = some (hSeq, .relinquish) ∧ (s.setFld RNG_CTL_EN 0).listens = false ∧ s.listens = true ∧
    ({ h0 with err := .crc } : Hdr).err = .crc ∧ s.inTurn hSeq = true ∧ s.inTurn { hSeq with lseq := 5 } = false ∧ hSeq.lseq ≠ 0xFFFF ∧
    h0.lseq = 0xFFFF ∧ formOk { h0 with err := .form } = false ∧ s.inTurn { h0 with err := .form } = true ∧ formOk h0 = true ∧
    (behind.inTurn h0 = true ∧ h0.term < behind.fld GLB_TERM_TERM) ∧ s.isManager = true ∧
    s.fld GLB_TERM_TERM < ({ h0 with term := 9 } : Hdr).term ∧ s.hears hTo5 = true ∧ s.frameHere hTo5 = false := by decide

theorem test_witness_PairCommands :
    let m := inRole 1
    let b := inRole 2
    let armed := b.setFld FLT_MIRSTAT_TKARMED 1
    let probing := b.setMirror { b.mirror with probing := true, probeOk := true }
    let r : MirRec := ⟨0, 0, 1, 0, 1, 0, .tellerOp []⟩
    let on (s : State) (x : RingMsg) : State := s.heard h0 x
    m.isOff = false ∧ b.accepts h0 = true ∧ m.accepts h0 = true ∧ (inRole 3).accepts h0 = true ∧
    (on b (.mirror r)).isStandby = true ∧ (on m (.mirror r)).isStandby = false ∧ r.term = (on b (.mirror r)).fld GLB_TERM_TERM ∧
    (1 : Nat) ≠ (on b (.mirror r)).fld GLB_TERM_TERM ∧ (on m (.mirack 5)).isManager = true ∧ (on b (.mirack 5)).isManager = false ∧
    (on m (.mirreq 0 0)).hasStandby = false ∧ (on (inRole 3) (.probe 5)).isWorker = true ∧
    (on probing (.probeans 5)).mirror.probing = true ∧ h0.src ≠ (on (probing.setMirror { probing.mirror with mgrNode := 1 }) (.probeans 5)).mirror.mgrNode ∧
    h0.src = (on probing (.probeans 5)).mirror.mgrNode ∧ (on armed .relinquish).flag FLT_MIRSTAT_TKARMED = true ∧
    (h0.src ≠ (on { m with regs := (m.setFld GLB_ROLE_NODE 1).regs } (.swapreq 5)).node ∨ h0.src = (on m (.swapreq 5)).node) ∧
    (on m (.swapreq 5)).swapOwn = none ∧ (on m (.swapreq 5)).swapReady = false ∧ m.pwr.dormantLow = false ∧ armed.mirror.probing = false ∧
    (on (m.setMirror { m.mirror with swapSeq := some 5 }) (.swapack 5 true)).mirror.swapSeq = some 5 ∧ m.mirror.boundary = none ∧
    (probing.mirror.probeOk = true ∧ probing.mirror.probeLater = false ∧ probing.mirror.probeMgr = false) ∧
    (m.setMirror { m.mirror with swapping := true }).mirror.swapping = true ∧ m.mirror.swapping = false ∧ m.swapReady = false ∧
    seqUpTo 0 m.pos.bcnSeq = true ∧ seqUpTo 1 (b.mirror.lastBeacon + 1) = true ∧
    (tabGet Peer.none m.peers 5).present = false ∧ (tabGet Peer.none [(5, { Peer.none with present := true })] 5).present = true ∧
    5 ≠ m.node ∧ m.esc.slots = [] ∧ m.esc.runOpen = false := by decide

/-- A Manager that knows a Standby, with the takeover armed. -/
def paired : State :=
  { (inRole 1).setMirror { (inRole 1).mirror with snapshot := true } with peers := [(1, ⟨1, 1, 2, 0, true, 1, 0, 0⟩)] }

/-- A SWAPREQ that comes from the Standby, at node 1. -/
def hFrom1 : Hdr := { h0 with src := 1 }

theorem test_witness_swap_and_hand_over :
    let u := paired.heard hFrom1 (.swapreq 5)
    paired.hasStandby = true ∧ paired.standbyArmed = true ∧ paired.swapReady = true ∧ paired.swapOwn = none ∧
    paired.accepts hFrom1 = true ∧ hFrom1.src ≠ u.node ∧ u.isManager = true ∧ hFrom1.term = u.fld GLB_TERM_TERM ∧ u.swapReady = true ∧
    (paired.heard h0 (.mirreq 0 0)).hasStandby = true ∧
    ((inRole 2).setMirror { (inRole 2).mirror with markSeq := some 5 }).mirror.markSeq = some 5 ∧ seqUpTo (5 + 1) 6 = true := by decide

theorem test_witness_RingTraffic :
    let s := State.reset
    let f : RingFrame := ⟨none, 0, 0, 0, false, 0, .relinquish⟩
    let l := s.setLink 1 { s.link 1 with unacked := [f] }
    let c : State := { inRole 3 with claims := [(0x5A0, 2)] }
    let h : Hdr := { h0 with dst := some 0x5A0 }
    let u := c.heard h (.msg m0)
    let hm : State := (s.setFld GLB_ROLE_STRAP 2).setFld ACC_BOOT_STAT 1
    let other : Peer := { Peer.none with strap := 2 }
    s.isOff = false ∧ 1 < 2 ∧ h0.dir = 1 - 1 ∧ h0.err = .none ∧ s.ringRuns = true ∧ (s.setFld RNG_CTL_EN 0).ringRuns = false ∧
    (s.link 1).unacked = [] ∧ (l.link 1).unacked ≠ [] ∧ f.lseq = 0 ∧ (l.link 1).failures < 2 ∧
    s.pwr.dormantLow = false ∧ (s.setFld RNG_CTL_EN 0).flag RNG_CTL_EN = false ∧ (s.setFld RNG_CTL_EN 1).flag RNG_CTL_EN = true ∧
    s.fld ACC_BOOT_STAT ≠ 3 ∧ c.accepts h = true ∧ tabGet 0 u.claims (h.dst.getD 0 % 4096) ≠ 0 ∧ u.inbox.length < 64 ∧
    tabGet 0 u.claims 0x5A1 = 0 ∧ 64 ≤ (List.replicate 64 (0x5A0, m0)).length ∧ (0x590 ≤ 0x5A0 ∧ 0x58C < 0x590 ∧ 0x58C ≠ 0x58D) ∧
    (m0.src % 4096 < 1024 ∧ u.isManager = false ∧ (inRole 1).submitCheck 0 0 0 = 0) ∧ (inRole 1).isManager = true ∧
    u.ownReturn h = true ∧ c.ownReturn hFrom1 = false ∧ (tabGet (0, 0) u.dly 1).1 < 256 ∧ 256 ≤ (tabGet (0, 0) [(1, (256, 9))] 1).1 ∧
    (s.role = 0 ∧ s.pwr.straps.testEn = false ∧ s.fld GLB_ROLE_STRAP = 0 ∧ s.hears h0 = true ∧ s.accepts h0 = true ∧ 31 < 32) ∧
    (s.setFld RNG_STOPCFG_EN 1).flag RNG_STOPCFG_EN = true ∧ s.fld RNG_STOPCFG_AUXIN = 0 ∧ s.fwRuns = false ∧
    (hm.fwRuns = true ∧ hm.fld GLB_ROLE_STRAP = 2 ∧ hm.hellos = [] ∧ hm.flag GLB_ROLE_CONFLICT = false ∧ hm.inTurn h0 = true) ∧
    (other.strap = 2 ∧ other.role ≠ 1) ∧ formOk h0 = true ∧ s.store.ingests = [] ∧ s.flag (NET_CTL_EN 1) = false ∧
    (s.setFld (NET_CTL_EN 1) 1).flag (NET_CTL_EN 1) = true ∧ 9212 < 9213 := by decide

theorem test_witness_PowerAndResets :
    let s := State.reset
    let up := s.setPwr { s.pwr with linkUp := true }
    let pend := s.setFld (THM_MSTAT_SHUTPEND 47) 1
    s.isOff = false ∧ (0xD00C : Nat) ≠ 0xD00D ∧ 7 < 8 ∧ (s.setPwr { s.pwr with drvClamped := true }).pwr.drvClamped = true ∧
    s.pwr.drvClamped = false ∧ (s.setPwr { s.pwr with hbLost := true }).pwr.hbLost = true ∧ s.pwr.linkUp = false ∧ up.pwr.linkUp = true ∧
    (inRole 4).role = 4 ∧ (inRole 3).role = 3 ∧ mapClash 0x98989898 = true ∧ mapClash 0 = false ∧ (inRole 3).isManager = false ∧
    (inRole 3).isStandby = false ∧ (∀ n, n < 4 → (inRole 3).portImaging n = false) ∧ s.flag (THM_MSTAT_SHUTPEND 47) = false ∧
    pend.flag (THM_MSTAT_SHUTPEND 47) = true ∧ pend.runOver = true ∧ (inRole 1).isManager = true ∧ s.dormantReady = false ∧
    ((inRole 3).pwr.bcnStopped = false ∧ (inRole 3).role ≠ 0 ∧ (inRole 3).role ≠ 4) ∧ (5 < 6 ∧ 5 ≠ 1 ∧ 5 ≠ 3) := by decide

theorem test_witness_dormant :
    let s := (inRole 1).setPwr { (inRole 1).pwr with dormantLow := true, bcnStopped := true }
    s.dormantReady = true ∧ s.isManager = true := by decide

theorem test_witness_EveryCommandCompletes :
    let off := State.reset.setPwr { State.reset.pwr with held := true }
    let hot := State.reset.setPwr { State.reset.pwr with thermalShut := true }
    off.isOff = true ∧ actsOff (.tlrGo 0) = false ∧ hot.pwr.thermalShut = true ∧ hot.pwr.held = false ∧ hot.pwr.asleep = false ∧
    (∀ m, m < 2 → [(-640 : Int), -640].getD m 0 < hot.thmLevel thmShut m - (hot.fld (THM_MTHR_HYST m) : Int)) := by decide

theorem test_witness_StepRunsTheFrontCommand : step { State.reset with pending := [.tlrGo 2] } = exec (.tlrGo 2) State.reset := rfl


/-! Witnesses for the clauses on memory errors, the kinds of actions, shadowed turns and the other widened statements. -/

theorem test_witness_time_passes : State.reset.pending = [] ∧ State.reset.isOff = false ∧ State.reset.stream = [] := by decide

/-- Teller 1 running, with errors of data memory words. -/
def errs (e : List (Nat × Nat)) : State := { run1g [(3, 0x4000), (4, 0x4000)] [] with dmErr := e }

theorem test_witness_data_errors :
    (errs [(0, 1)]).runs 1 = true ∧ (errs [(0, 2)]).runs 1 = true ∧ tabGet 0 (errs [(0, 1)]).dmErr 0 = 1 ∧
    tabGet 0 (errs [(0, 2)]).dmErr 0 = 2 ∧ tabGet 0 (errs [(1, 2)]).dmErr 1 = 2 ∧ (8 % 8 = 0 ∧ 8 + 8 ≤ dmSize) ∧
    (0xFFFFF % 1 = 0 ∧ 0xFFFFF + 1 ≤ dmSize) ∧ tabGet 0 (errs []).dmErr 0 ≠ 2 := by decide

theorem test_witness_fetch_errors :
    let s (e : Nat) : State := { run1 with pmErr := [(0, e)] }
    ({ s 2 with pmErr := tabSet 0 (s 2).pmErr 0 0 } : State).runs 1 = true ∧ tabGet 0 (s 2).pmErr 0 = 2 ∧
    ({ s 1 with pmErr := tabSet 0 (s 1).pmErr 0 0 } : State).runs 1 = true ∧ tabGet 0 (s 1).pmErr 0 = 1 ∧
    tellerOf (.trap 1 0) = some 1 ∧ regOnly (.add 1 2 3 4) = some (1, .g 2) ∧
    (∃ v, exec (.add 1 2 3 4) (({ s 1 with pmErr := [] } : State).inc TLR_ECCCNT_PROG) = .next v) :=
  ⟨by decide, by decide, by decide, by decide, by decide, by decide, _, rfl⟩

theorem test_witness_i2c_address : 0x55 ≠ 0x54 + State.reset.pwr.straps.i2cAddr % 4 := by decide

/-- Word `k` of entry `n` of the action table. -/
def actWord (n k : Nat) : Field := ⟨0x290000 + 16 * n + 4 * k, 0, 32, .rw, 0, .any⟩

/-- One crossed comparator of teller 15's bank, whose entry holds three words. -/
def crossing (w0 w1 w2 : Nat) : State :=
  ((({ run1 with cmps := [(4095, ⟨0, 0, true, true, false, false, false, false, false⟩)] } : State).setFld (TLR_AMASK_WIN 15)
    0xFFFF).setFld (actWord 4095 0) w0 |>.setFld (actWord 4095 1) w1).setFld (actWord 4095 2) w2

theorem test_witness_action_kinds :
    (crossing 1 0x510000 0).fld (actWord 4095 0) = 1 ∧ (crossing 1 0x510000 0).fld (actWord 4095 3) = 0 ∧
    (crossing 1 0x510000 0).fbit (TLR_AMASK_WIN 15) (0x510000 / 0x100000) = true ∧ fastWrite 0x510000 = false ∧
    fastWrite 0x100000 = true ∧ (crossing 1 0x100000 0).wrrNow = [] ∧ (crossing 1 0x100000 0).inhibit = false ∧
    (crossing 0x8 0 0).fld (actWord 4095 0) / 8 % 2 ≠ 0 ∧ (crossing 0 1 0).fld (actWord 4095 1) ≠ 0 ∧
    (crossing 1 2 0).fld (actWord 4095 1) % 4 ≠ 0 ∧ (crossing (2 + 2 ^ 12 * 15 + 2 ^ 16 * 15) 0 0).fld (actWord 4095 0) = 0xFF002 ∧
    (crossing (3 + 2 ^ 8 + 2 ^ 12 * 15 + 2 ^ 16 * 15) 63 0).fld (actWord 4095 0) = 0xFF103 ∧ 0xFFFFFF &&& p0Range 4 = 0xFFFFFF ∧
    (crossing (4 + 2 ^ 9) 4 0xFFFFFF).fld (actWord 4095 0) = 0x204 ∧ (crossing 4 4 1).fld (actWord 4095 2) = 1 := by decide

/-- Two crossed comparators of teller 1's bank, both entries alike. -/
def crossing2 (w0 w1 : Nat) (c d : Nat × Nat) : State :=
  let s : State := { run1 with cmps := [(256, ⟨c.1, c.2, true, true, false, false, false, false, false⟩),
    (257, ⟨d.1, d.2, true, true, false, false, false, false, false⟩)] }
  [256, 257].foldl (fun s n => (s.setFld (actWord n 0) w0).setFld (actWord n 1) w1) (s.setFld (TLR_AMASK_WIN 1) 0xFFFF)

theorem test_witness_two_crossings :
    let s := crossing2 1 0x510000 (0, 1) (0, 0)
    let p := crossing2 4 4 (0, 0) (0, 1)
    s.cmps = [(256, ⟨0, 1, true, true, false, false, false, false, false⟩), (257, ⟨0, 0, true, true, false, false, false, false,
      false⟩)] ∧ s.isOff = false ∧ s.inhibit = false ∧ 0 ≤ s.wpos ∧ s.fld (actWord 256 0) = 1 ∧ s.fld (actWord 257 0) = 1 ∧
    s.fld (actWord 256 1) = 0x510000 ∧ s.fld (actWord 257 3) = 0 ∧ s.fbit (TLR_AMASK_WIN (257 / 256)) 5 = true ∧ s.stream = [] ∧
    (p.fld (actWord 256 0) = 4 ∧ p.fld (actWord 257 0) = 4 ∧ p.fld (actWord 256 1) = p.fld (actWord 257 1) ∧
      p.fld (actWord 256 1) < 5 ∧ p.stream = []) := by decide

theorem test_witness_damaged_operations :
    let s := (errs [(0x1002, 2)]).setFld GLB_ROLE_ROLE 1
    let c := (errs [(0x1002, 1)]).setFld GLB_ROLE_ROLE 1
    s.runs 1 = true ∧ s.settled 1 = true ∧ s.isManager = true ∧ 0x4000 % 64 = 0 ∧ 0x4000 + 80 ≤ dmSize ∧
    tabGet 0 s.dmErr (0x4000 / 4 + 2) = 2 ∧ (∀ i, i < 16 → tabGet 0 c.dmErr (0x4000 / 4 + i) ≠ 2) ∧ (s.teller 1).doneOps = [] ∧
    (0x4000 % 4096 ≠ 0x58D ∧ 0x58D % 4096 = 0x58D) := by decide

/-- A Standby whose teller 1 has applied the Manager's record of its next operation, with status 0 and data. -/
def turned (data : List Byte) (os : List (Nat × Option Order)) : State :=
  let r : MirRec := ⟨0, 0, 1, 0, 1, 0, .tellerOp data⟩
  let s : State := { run1In 2 [(3, 0), (4, 0x4000), (5, 0x58D), (6, 0xF00)] with orders := os }
  (s.mapTeller 1 fun x => { x with doneOps := [r] }).setMirror { s.mirror with todo := [⟨r, none⟩] }

theorem test_witness_shadowed_turn :
    let r (data : List Byte) : MirRec := ⟨0, 0, 1, 0, 1, 0, .tellerOp data⟩
    let z : List Byte := List.replicate 68 0
    (turned [] []).runs 1 = true ∧ (turned [] []).settled 1 = true ∧ (turned [] []).isStandby = true ∧
    ((turned [] []).teller 1).doneOps.find? (fun r => r.inst = (((turned [] []).teller 1).inst + 1) % 2 ^ 32) = some (r []) ∧
    (turned [] []).mirror.todo = [⟨r [], none⟩] ∧ (turned z [(0, some (order0 none))]).order (ofLe (z.drop 64)) = some (order0 none) ∧
    z.length = 68 ∧ (turned [] []).mirror.early.contains (Desc.ofBytes (memBytes (turned [] []).dm 0 64)).frame = false ∧
    (turned [] [(0, some (order0 (some 1)))]).order 0 = some (order0 (some 1)) ∧
    (order0 (some 1)).bseq = ((turned [] [(0, some (order0 (some 1)))]).book 0 0).head ∧
    (0x58D < 2 ^ 17 ∧ 0x58D = (turned [] []).node * 4096 + 0x58D ∧ (turned [] []).clean 0x4000 4 72 = true) ∧
    (turned (List.replicate 8 0) []).order (ofLe ((List.replicate 8 0).take 4)) = none ∧ paired.hasStandby = true ∧
    (turned [] []).clean 0 64 64 = true ∧ (turned [] []).clean 0x4000 4 12 = true := by decide

theorem test_witness_damaged_orders :
    let s (t : Option Nat) : State := run1.setOrder 4095 (some (order0 t))
    tabWf none (s none).orders = true ∧ (s none).order 4095 = some (order0 none) ∧ (order0 none).taker = none ∧
    (order0 none).bseq = ((s none).book 0 0).head ∧ (order0 (some 1)).taker ≠ none ∧ tabWf none (s (some 1)).orders = true ∧
    (s none).orders = [(4095, some (order0 none))] ∧ (run1.setOrder 0 (some (order0 none))).nextHandle = 1 := by decide

theorem test_witness_load :
    let s : State := { mbNode 1 16 (List.replicate 16 0) with loading := some 5 }
    s.loading = some 5 ∧ (mbNode 1 16 (List.replicate 16 0)).loading ≠ some 5 ∧ 4194304 + 192 < 4194497 ∧ ([] : List Byte).length = 0 ∧
    s.envOk [] 2 = false ∧ ({ s with loading := some 4 } : State).loading ≠ some 5 := by decide

theorem test_witness_withdrawn_command :
    let g := ({ mbNode 1 1 (List.replicate 16 0) with loading := none } : State).setFld (MBCTL_GO 5) 1
    let w := (g.setFld (MBCTL_TAKEN 5) 0).setFld (ACC_CFG_EN 5) 1
    w.flag (MBCTL_GO 5) = true ∧ w.flag (MBCTL_TAKEN 5) = false ∧ w.flag (ACC_CFG_EN 5) = true ∧
    (tabGet [] w.mbCmd 5).length = 17 ∧ State.reset.pwr.held = false := by decide

theorem test_witness_release_without_store : worker3.flag STO_STATUS_READY = false ∧
    (worker3.setFld STO_STATUS_READY 1).flag STO_STATUS_READY = true := by decide

theorem test_witness_position_holds : State.reset.mayRestart (.tlrGo 2) = false ∧ (∃ t, exec (.tlrGo 2) State.reset = .next t) ∧
    State.reset.pending = [] ∧ State.reset.stream = [] := ⟨by decide, ⟨_, rfl⟩, by decide, by decide⟩

theorem test_witness_second_copy :
    let c : Beacon := ⟨5, 100, 0, 0, false⟩
    let s := inRole 3
    let got := s.setPos { s.pos with last := some (5, 100 * 2 ^ 24, 0, 0) }
    let far := s.setPos { s.pos with last := some (5, 0, 0, 0) }
    h0.term ≤ s.fld GLB_TERM_TERM ∧ s.pos.copyB = none ∧ h0.dir = 0 ∧ hB.dir ≠ 0 ∧ s.firstCopy 5 = none ∧
    got.firstCopy 5 = some (5, 100 * 2 ^ 24, 0, 0) ∧ (got.predOf 0 c - (100 * 2 ^ 24 : Int)).natAbs ≤ 2 ^ 32 ∧
    2 ^ 32 < ((far.predOf 0 { c with wpos := 1000 }) - (0 : Int)).natAbs ∧
    ((s.setPwr { s.pwr with dormantLow := true }).setFld TIM_STATUS_SRC 2).pwr.dormantLow = true := by decide

theorem test_witness_late_writes :
    let s := inRole 3
    let p := s.stagedProfile 3 264
    let l := s.setScan 3 { s.scanP 3 with recent := [[]], commits := [(p, false)] }
    (l.scanP 3).recent = [] :: [] ∧ (l.scanP 3).commits = (p, false) :: [] ∧ l.role = 3 ∧ (inRole 1).role = 1 := by decide

theorem test_witness_failed_command :
    let s := (inRole 3).setFld STO_CTL_EN 1
    let k : TileKey := ⟨7, 3, 0, 0, false⟩
    let f : Fetch := ⟨k, 0, 2 ^ 24, 64, 0, true⟩
    let c : Nvme := ⟨.read, 15, 2 ^ 24, 64, [(k, 0)], 0, 0, [], 0, 7, false⟩
    let w := s.setStore { s.store with fetches := [{ f with deadline := 2 ^ 40 }] }
    let on := (((w.setFld STO_STATUS_READY 1).setFld (STO_DRV_STATE 15) 1).setFld (STO_DRV_QUEUES 15) 1).setFld STO_RETRY_VALUE 2
    let u := on.driveFailed 15 7
    c.drive < 16 ∧ on.withIncident c = (c, on) ∧ u.wanted c = true ∧ (s.driveFailed 15 7).wanted c = false ∧
    c.retries < on.fld STO_RETRY_VALUE ∧ u.pastDeadline c = false ∧ u.driveOn 15 = true ∧ u.mayGo { c with retries := 1 } = true ∧
    u.readBehind { c with retries := 1 } = false ∧ ¬ 2 < on.fld STO_RETRY_VALUE ∧
    (s.setFld STO_DRVFAIL_VALUE 1).fld STO_DRVFAIL_VALUE ≤ 0 + 1 ∧
    ((s.setStore { s.store with fetches := [{ f with sent := false }] }).store.fetches.filter fun f => ! f.sent) = [{ f with sent := false }] ∧
    (on.setStore { on.store with fetches := [{ f with sent := false }, f], waiting := [c] }).store.waiting.any
      (fun x => (on.setStore { on.store with fetches := [{ f with sent := false, deadline := 5 }, { f with off := 0 }] }).readBefore x
        { f with deadline := 9 }) = true := by decide

theorem test_witness_ingest_gap :
    let g : Ingest := ⟨5, 0, 100, 0, 1, 0, 0, true, 5, 0, 0, [], [], 0, 0, [], [], .lines⟩
    let n := ((inRole 3).setFld (NET_CTL_EN 1) 1).setStore { (inRole 3).store with ingests := [(4, some g)] }
    tabGet none n.store.ingests 4 = some g ∧ n.ingestBy 5 = some (4, g) ∧ (1 : Nat) ≠ g.dseq := by decide

theorem test_witness_dma_again :
    let h := dmaIn 5 0 Dma.init
    let off := (State.reset.setFld (DMA_CHSTAT_STATE 63) 5)
    let g (k : Nat) : State := (dmaIn 5 0 Dma.init).setFld (DMA_CFG_GRAIN 63) k
    (off.dmaArmed 63 = false ∧ off.dmaCycle 63 63 65 = false ∧ off.dmaSt 63 = 5) ∧ (h.dmaSt 63 = 5 ∧ h.dmaArmed 63 = true ∧
    (h.dmaCh 63).errDesc = false ∧ (h.dmaCh 63).beats = 0) ∧ (g 2).fld (DMA_CFG_GRAIN 63) = 2 ∧ (g 1).fld (DMA_CFG_GRAIN 63) ≠ 2 ∧
    (g 1).flag (DMA_CTL_PAUSE 63) = false ∧ ((dmaIn 2 0 { Dma.init with curSp := 3 }).dmaCh 63).curSp = 3 := by decide

theorem test_witness_axis_and_brake :
    let s := axisIn 11 axStopping
    let up := State.reset.setPwr { State.reset.pwr with linkUp := true, drvReset := false }
    let b := up.setBrake 1 { up.brake 1 with sense := 0xFFF }
    s.axState 11 = axStopping ∧ ((s.limitVel 11 0).axisP 11).vel = 0 ∧ ((s.limitVel 11 0).axisP 11).acc = 0 ∧
    b.dieUp = true ∧ b.pwr.linkUp = true ∧ (b.brake 1).above = false ∧
    (b.setFld (GDR_BRKCTL_TRIP 1) 0xFFE).drvFld (GDR_BRKCTL_TRIP 1) < (b.brake 1).sense := by decide

theorem test_witness_high_voltage_and_heat :
    let s := inRole 1
    let live := ((s.setFld (HVS_STATE_STATE 15) hvRegulating).setFld (HVS_CHCTL_EN 15) 1).setFld (HVS_RAMP_RAMP 15) 5
    let warm := s.setTherm 47 { s.thermP 47 with t1 := 40000 * tU }
    live.flag (HVS_CHCTL_EN 15) = true ∧ live.hvLive 15 = true ∧ live.fld (HVS_RAMP_RAMP 15) ≠ 0 ∧ live.hvState 15 ≠ hvArcHold ∧
    (live.setFld (HVS_RAMP_RAMP 15) 0).fld (HVS_RAMP_RAMP 15) = 0 ∧ s.hvMayEnable 15 = false ∧
    ((s.setFld (HVS_CHCFG_OUTKIND 15) 0).flag (HVS_CHCTL_EN 15) = false) ∧ (inRole 3).thmApplies 45 = false ∧
    s.thmApplies 47 = true ∧ (s.thermP 47).forced = false ∧
    (s.thermP 47).t1 / tU < s.thmLevel thmThr 47 - (s.fld (THM_MTHR_HYST 47) : Int) ∧
    ¬ (warm.thermP 47).t1 / tU < warm.thmLevel thmThr 47 - (warm.fld (THM_MTHR_HYST 47) : Int) := by decide

theorem test_witness_audit_in_a_gap :
    let s := (inRole 3).setFld GLB_PORTMAP_MAP 0x98
    let q := (s.setFld (AUD_STATE_STATE 15) 1).setFld (AUD_CODE_CODE 15) 0x02000000
    q.fld (AUD_STATE_STATE 15) = 1 ∧ (q.aud 15).known = false ∧ worker3.gapNext 0x02000000 = some (4096 + 0) := by decide

theorem test_witness_muted_sources :
    let d := State.reset.setPwr { State.reset.pwr with dormantLow := true }
    d.dormantMute 21 2 = true ∧ d.dormantMute 0 3 = true ∧ d.dormantMute 21 3 = false ∧ State.reset.pwr.dormantLow = false ∧
    sourceOk 21 2 = true := by decide

theorem test_witness_interlock_states :
    let s := inRole 3
    let wait := s.setPlant { s.plant with lsi := { s.plant.lsi with wait := true } }
    let lit := (((s.setPlant { s.plant with lsi := { s.plant.lsi with ok := true } }).setPwr { s.pwr with linkUp := true }).setFld
      (HLK_CTL_LEN 3) 1).setFld (FRM_PHASE_PHASE 3) phImaging
    s.plant.lsi.wait = false ∧ wait.plant.lsi.wait = true ∧ wait.isOff = false ∧ s.engineReady = false ∧ 3 ∈ lit.lenPorts ∧
    lit.imagingSlot 3 = some 0xFFFFFFFF ∧ s.plant.lsi.ok = false ∧ (s.setPwr { s.pwr with asleep := true }).isOff = true := by decide

theorem test_witness_engine_ready :
    let s := (((inRole 1).setFld ACC_BOOT_STAT 1).setPwr { (inRole 1).pwr with linkUp := true, drvReset := false }).setFld
      GLB_DRVEN_OUTEN 1
    s.engineReady = true ∧ s.pwr.straps.testEn = false ∧ s.fld ACC_BOOT_STAT ≠ 3 ∧ s.isOff = false := by decide

theorem test_witness_repeat_and_bytes :
    let s := State.reset
    let f : RingFrame := ⟨none, 255, 2 ^ 32 - 1, 63, true, 0xFFFF, .relinquish⟩
    (s.listens = true ∧ s.inTurn { h0 with lseq := 0xFFFE } = false ∧ 1 ≤ (0 + 0xFFFF - 0xFFFE) % 0xFFFF) ∧
    (s.inTurn { h0 with lseq := 1 } = false ∧ 0x8000 ≤ (0 + 0xFFFF - 1) % 0xFFFF) ∧
    ((msgPayload 0 f.m).length % 4 = 0 ∧ (msgPayload 0 f.m).length ≤ 128 ∧ readMsg (msgType f.m) 0 (msgPayload 0 f.m) = some f.m) ∧
    frameCrcOk [] = false := by decide

theorem test_witness_mirror_stream :
    let b := (inRole 2).setMirror { (inRole 2).mirror with expect := 5, probing := true, probeOk := true }
    let r : MirRec := ⟨5, 0, 1, 0, 1, 0, .tellerOp []⟩
    let u := b.heard h0 (.mirror r)
    let armed := b.setFld FLT_MIRSTAT_TKARMED 1
    b.accepts h0 = true ∧ u.isStandby = true ∧ u.mirror.expect ≠ unsynced ∧ r.mseq = u.mirror.expect ∧ u.mirror.ahead = [] ∧
    2 ^ 31 ≤ (4 + 2 ^ 32 - u.mirror.expect) % 2 ^ 32 ∧ armed.flag FLT_MIRSTAT_TKARMED = true ∧ armed.pwr.dormantLow = false ∧
    b.flag FLT_MIRSTAT_TKARMED = false ∧ b.mirror.todo = [] ∧ b.mirror.markSeq = none ∧ (inRole 1).isManager = true ∧ 4 < 5 := by
  decide

theorem test_witness_link_and_messages :
    let s := State.reset
    let p : State := { s with posted := [(0, 5)] }
    (h0.dir = 1 - 1 ∧ s.ringRuns = true ∧ formOk h0 = true ∧ s.fld GLB_TERM_TERM ≤ h0.term ∧ s.isManager = false) ∧
    (h0.dir < 2 ∧ formOk { h0 with hops := 64 } = false) ∧ h0.term < (s.setFld GLB_TERM_TERM 1).fld GLB_TERM_TERM ∧
    ((inRole 1).isManager = true ∧ (inRole 1).fld GLB_TERM_TERM < ({ h0 with term := 1 } : Hdr).term) ∧ h0.err ≠ .crc ∧
    p.posted.contains (0, 5) = true ∧ s.posted.contains (0, 5) = false := by decide

/-- An Ethernet frame to the reset port's address, which is zero: a type, and what follows. -/
def ether (kind : Nat) (body : List Byte) : List Byte := List.replicate 12 0 ++ beBytes 2 kind ++ body

/-- An IPv4 packet from and to 0.0.0.0. -/
def ip (proto : Nat) (data : List Byte) : List Byte :=
  let h (sum : Nat) : List Byte := beBytes 2 0x4500 ++ beBytes 2 (20 + data.length) ++ beBytes 4 0 ++ beBytes 2 (0x4000 + proto)
    ++ beBytes 2 sum ++ List.replicate 8 0
  h (0xFFFF - onesSum 0 (h 0)) ++ data

/-- A UDP datagram without a checksum. -/
def udp (port : Nat) (data : List Byte) : List Byte := beBytes 4 port ++ beBytes 2 (8 + data.length) ++ beBytes 2 0 ++ data

theorem test_witness_ethernet :
    let s := (State.reset.setFld (NET_CTL_EN 1) 1).setFld ACC_BOOT_STAT 1
    let port := s.fld (NET_UDPPORT_UDPPORT 1)
    let arp := beBytes 8 0x0001080006040001 ++ List.replicate 20 0
    let strm := leBytes 2 0x494B ++ leBytes 2 1 ++ leBytes 4 5 ++ List.replicate 12 0
    let d := udp port strm
    let echo := beBytes 2 0x0800 ++ beBytes 2 0xF7FF
    let dropsTo (bs : List Byte) : Prop := netAt bs 0 6 = s.netMac 1 ∧ 14 ≤ bs.length ∧ bs.length ≤ 9212
    dropsTo (ether 0x86DD []) ∧ (netAt (ether 0x86DD []) 12 2 = 0x86DD) ∧ s.fwRuns = true ∧ State.reset.fwRuns = false ∧
    (28 ≤ arp.length ∧ netAt arp 0 2 = 1 ∧ netAt arp 2 2 = 0x800 ∧ netAt arp 4 2 = 0x0604 ∧ netAt arp 6 2 = 1 ∧
      netAt arp 24 4 = s.fld (NET_IPV4_IPV4 1)) ∧
    (netAt (ip 17 d) 0 1 = 0x45 ∧ 20 ≤ netAt (ip 17 d) 2 2 ∧ netAt (ip 17 d) 2 2 ≤ (ip 17 d).length ∧
      onesSum 0 ((ip 17 d).take 20) = 0xFFFF ∧ netAt (ip 17 d) 6 2 % 0x4000 = 0 ∧ netAt (ip 17 d) 9 1 = 17 ∧
      netAt (ip 17 d) 16 4 = s.fld (NET_IPV4_IPV4 1)) ∧
    (netAt d 4 2 = d.length ∧ 8 ≤ d.length ∧ udpOk ((ip 17 d).take 20) d = true ∧ netAt d 2 2 = port) ∧
    udpOk ((ip 17 d).take 20) (beBytes 4 port ++ beBytes 2 8 ++ beBytes 2 1) = false ∧ s.flag PTP_CFG_EN = false ∧
    netAt (ip 1 echo) 9 1 = 1 ∧ (netAt echo 0 2 = 0x0800 ∧ onesSum 0 echo = 0xFFFF) ∧ (s.echoAnswer 1 0 [] echo).isSome = true ∧
    s.echoAnswer 1 0 [] [] = none ∧ netAt (ip 17 d) 22 2 = port ∧ (ip 17 d).drop 28 = strm ∧
    (20 ≤ strm.length ∧ ofLe ((strm.drop 0).take 2) = 0x494B ∧ ofLe ((strm.drop 2).take 1) = 1) := by decide

theorem test_witness_drive_link_and_sleep :
    let s := State.reset
    s.pwr.drvClamped = false ∧ (51 < 52 ∧ 51 < (List.replicate 52 70000).length) ∧ s.pwr.linkUp = false ∧
    ({ s with tap := 3 } : State).tap = 3 := by decide
end Sys2Proof.Tests
end

namespace Sys2Proof.Machine

/-! Position registers: what each shape of position instruction leaves of a teller that runs (R61, R69 to R71). -/

section PositionShapes

variable {s : State} {t : Nat} (h : s.runs t = true)
include h

/-- A register-only instruction takes its operands from the teller as it stands when it executes. -/
theorem execR_eq_mapTeller {f g : Teller → Teller} (hfg : f (s.teller t) = g (s.teller t)) :
    s.execR t f = s.mapTeller t g :=
  (execR_of_runs h f).trans (congrArg (s.setTeller t) hfg)

theorem posOp_of_runs (pd ps pt : Nat) (f : Pos → Pos → Pos) :
    posOp t pd ps pt f s = .next (s.putP t pd (f ((s.teller t).getP ps) ((s.teller t).getP pt)) 1) :=
  congrArg Host.Outcome.next (execR_eq_mapTeller h rfl)

theorem posImm_of_runs (pd ps : Nat) (f : Pos → Pos) :
    posImm t pd ps f s = .next (s.putP t pd (f ((s.teller t).getP ps)) 1) :=
  congrArg Host.Outcome.next (execR_eq_mapTeller h rfl)

theorem cmpP_of_runs (qd ps pt : Nat) (f : Pos → Pos → Bool) :
    cmpP t qd ps pt f s = .next (s.putQ t qd (f ((s.teller t).getP ps) ((s.teller t).getP pt))) :=
  congrArg Host.Outcome.next (execR_eq_mapTeller h rfl)

/-! The moves between the two register files (R70). -/

theorem execMvgp_of_runs (pd rs rt : Nat) :
    execMvgp t pd rs rt s = .next (s.putP t pd ((s.teller t).getG rt ++ (s.teller t).getG rs) 1) :=
  congrArg Host.Outcome.next (execR_eq_mapTeller h rfl)

theorem execMvpgl_of_runs (rd ps : Nat) :
    execMvpgl t rd ps s = .next (s.putG t rd (((s.teller t).getP ps).extractLsb' 0 32) 1) := by
  rw [← BitVec.setWidth_eq_extractLsb' (by decide)]
  exact congrArg Host.Outcome.next (execR_eq_mapTeller h rfl)

theorem execMvpgh_of_runs (rd ps : Nat) :
    execMvpgh t rd ps s = .next (s.putG t rd (((s.teller t).getP ps).extractLsb' 32 32) 1) :=
  congrArg Host.Outcome.next (execR_eq_mapTeller h rfl)

end PositionShapes

theorem ite_toNat_lt_eq_ite_ult (a b : Pos) :
    (if a.toNat < b.toNat then b else a) = if a.ult b then b else a := by
  simp only [BitVec.ult, decide_eq_true_eq]

theorem decide_toNat_le_eq_not_ult (a b : Pos) : decide (b.toNat ≤ a.toNat) = ! a.ult b :=
  BitVec.ule_eq_not_ult ..

theorem sext16P_shiftLeft_16 (imm : BitVec 16) : sext16P imm <<< 16 = imm.signExtend 64 * 65536 :=
  BitVec.shiftLeft_eq_mul_twoPow ..

/-- Settles O11: each position instruction has one of the shapes above, with its own function of the operands; the model
spells some of these functions otherwise than the statement. A station position is WPOS less the station's offset modulo
2⁶⁴, so adding the offset gives WPOS back below zero as well (R61, R71). -/
theorem positionResults : Obligations.PositionResults := by
  unfold Obligations.PositionResults
  intro s t d rs rt st imm hrun _
  extract_lets x a b lines gives
  have padd : gives (.padd t d rs rt) (a + b) := posOp_of_runs hrun d rs rt (· + ·)
  have psub : gives (.psub t d rs rt) (a - b) := posOp_of_runs hrun d rs rt (· - ·)
  have pmov : gives (.pmov t d rs) a := posOp_of_runs hrun d rs rs fun p _ => p
  have pmax : gives (.pmax t d rs rt) (if a.ult b then b else a) :=
    ite_toNat_lt_eq_ite_ult a b ▸ posOp_of_runs hrun d rs rt fun p q => if p.toNat < q.toNat then q else p
  have pcmpeq : exec (.pcmpeq t d rs rt) s = .next (s.putQ t d (a == b)) :=
    cmpP_of_runs hrun d rs rt fun p q => decide (p = q)
  have pcmplt : exec (.pcmplt t d rs rt) s = .next (s.putQ t d (a.ult b)) :=
    cmpP_of_runs hrun d rs rt fun p q => decide (p.toNat < q.toNat)
  have pcmpge : exec (.pcmpge t d rs rt) s = .next (s.putQ t d (! a.ult b)) :=
    decide_toNat_le_eq_not_ult a b ▸ cmpP_of_runs hrun d rs rt fun p q => decide (q.toNat ≤ p.toNat)
  have paddi : gives (.paddi t d rs imm) (a + imm.signExtend 64 * 65536) :=
    sext16P_shiftLeft_16 imm ▸ posImm_of_runs hrun d rs (· + sext16P imm <<< 16)
  have paddfi : gives (.paddfi t d rs imm) (a + imm.signExtend 64) := posImm_of_runs hrun d rs (· + sext16P imm)
  have rdpos : gives (.rdpos t d) (BitVec.ofNat 64 s.wpos) := posImm_of_runs hrun d 0 fun _ => BitVec.ofNat 64 s.wpos
  have rdhwm : gives (.rdhwm t d) (if s.isWorker then 0 else BitVec.ofNat 64 s.hwm) :=
    posImm_of_runs hrun d 0 fun _ => if s.isWorker then 0 else BitVec.ofNat 64 s.hwm
  have pstn : gives (.pstn t d rs st) (a + lines (s.fld (TIM_STOFF_LINES st))) :=
    posImm_of_runs hrun d rs (· + lines (s.fld (TIM_STOFF_LINES st)))
  have pwrt : gives (.pwrt t d rs st) (a + lines (s.fld (TIM_STOFF_LINES st)) - lines (s.fld (TIM_DRUMARC_LINES st))) :=
    posImm_of_runs hrun d rs (· + lines (s.fld (TIM_STOFF_LINES st)) - lines (s.fld (TIM_DRUMARC_LINES st)))
  have stationPosition (w : Pos) (hw : a = w - lines (s.fld (TIM_STOFF_LINES st))) : gives (.pstn t d rs st) w := by
    rwa [hw, BitVec.sub_add_cancel] at pstn
  exact ⟨padd, psub, pmov, pmax, pcmpeq, pcmplt, pcmpge, stationPosition, execMvgp_of_runs hrun d rs rt,
    execMvpgl_of_runs hrun d rs, execMvpgh_of_runs hrun d rs, paddi, paddfi, rdpos, rdhwm, pstn, pwrt⟩

end Sys2Proof.Machine

namespace Sys2Proof.Machine

/-! The lock unit: which locks rank a requester, what LACQ and LREL answer, whom a release wakes (R118 to R120). -/

theorem countsFor_teller_iff (t acct u a : Nat) : countsFor (some t) acct (.teller u a) = true ↔ u = t ∨ a = acct := by
  simp [countsFor, eq_comm (a := t)]

theorem countsFor_host_iff (t : Option Nat) (acct a : Nat) : countsFor t acct (.host a) = true ↔ a = acct := by
  simp [countsFor]

/-- The highest lock that counts for a requester is at or above lock `l` just when some lock that counts is. -/
theorem succ_le_rankOf_iff (t : Option Nat) (acct l : Nat) (locks : Tab Lock) :
    l + 1 ≤ rankOf t acct locks ↔ ∃ m k h, (m, k) ∈ locks ∧ l ≤ m ∧ k.holder = some h ∧ countsFor t acct h = true := by
  induction locks with
  | nil => simp [rankOf]
  | cons e rest ih =>
    obtain ⟨m, k⟩ := e
    cases hk : k.holder with
    | none => simp [rankOf, hk, ih, or_and_right, exists_or]
    | some h =>
      by_cases hc : countsFor t acct h = true <;> simp [rankOf, hk, hc, ih, or_and_right, exists_or]

/-! The decision of R118, step by step. -/

section LacqStatus

variable {s : State} {t : Option Nat} {acct l : Nat}

theorem lacqStatus_of_gt (hl : 255 < l) : s.lacqStatus t acct l = stBadArg := if_pos hl

theorem lacqStatus_of_rank (hl : l ≤ 255) (hr : l + 1 ≤ rankOf t acct s.locks) : s.lacqStatus t acct l = stRank := by
  rw [State.lacqStatus, if_neg (Nat.not_lt.mpr hl), if_pos hr]

theorem lacqStatus_of_held (hl : l ≤ 255) (hr : ¬ l + 1 ≤ rankOf t acct s.locks) (hh : (s.lock l).holder ≠ none) :
    s.lacqStatus t acct l = stBusy := by
  rw [State.lacqStatus, if_neg (Nat.not_lt.mpr hl), if_neg hr, if_pos (Option.isSome_iff_ne_none.mpr hh)]

theorem lacqStatus_of_free (hl : l ≤ 255) (hr : ¬ l + 1 ≤ rankOf t acct s.locks) (hh : (s.lock l).holder = none) :
    s.lacqStatus t acct l = if (s.lock l).aband then stAbandoned else stOk := by
  rw [State.lacqStatus, if_neg (Nat.not_lt.mpr hl), if_neg hr, if_neg (by simp [hh])]

end LacqStatus

/-! The two instructions on a teller whose earlier writes have taken effect. -/

section LockInstructions

variable {s : State} {t : Nat} (h : s.runs t = true) (hs : s.settled t = true) (rd rs : Nat)
include h hs

/-- An answer that neither grants the lock nor has it remembered changes only gd, PC and CYC. -/
theorem execLacq_of_refused {st : Nat} (hst : s.lacqStatus (some t) (s.fld (TLR_ACCT_ACCT t)) (s.gval t rs) = st)
    (hg : ¬ (st = stOk ∨ st = stAbandoned)) (hb : st ≠ stBusy) :
    execLacq t rd rs s = .next (s.putG t rd (BitVec.ofNat 32 st) 4) := by
  subst hst
  simp only [execLacq, execD_of_settled h hs, State.withTrap, if_neg hg, if_neg hb]
  rfl

theorem execLacq_of_busy (hst : s.lacqStatus (some t) (s.fld (TLR_ACCT_ACCT t)) (s.gval t rs) = stBusy) :
    execLacq t rd rs s =
      .next ((s.setTeller t { s.teller t with lckWait := some (s.gval t rs) }).putG t rd (BitVec.ofNat 32 stBusy) 4) := by
  simp only [execLacq, execD_of_settled h hs, State.withTrap, hst]
  rfl

theorem execLacq_of_granted {st : Nat} (hst : s.lacqStatus (some t) (s.fld (TLR_ACCT_ACCT t)) (s.gval t rs) = st)
    (hg : st = stOk ∨ st = stAbandoned) :
    execLacq t rd rs s =
      .next ((s.lacqDo (s.gval t rs) (.teller t (s.fld (TLR_ACCT_ACCT t)))).putG t rd (BitVec.ofNat 32 st) 4) := by
  subst hst
  simp only [execLacq, execD_of_settled h hs, State.withTrap, if_pos hg]
  rfl

theorem execLrel_of_gt (hl : 255 < s.gval t rs) :
    execLrel t rd rs s = .next (s.putG t rd (BitVec.ofNat 32 stBadArg) 4) := by
  simp only [execLrel, execD_of_settled h hs, State.withTrap, if_pos hl]
  rfl

theorem execLrel_of_own {a : Nat} (hl : s.gval t rs ≤ 255) (hh : (s.lock (s.gval t rs)).holder = some (.teller t a)) :
    execLrel t rd rs s = .next ((s.lrelDo (s.gval t rs)).putG t rd (BitVec.ofNat 32 stOk) 4) := by
  simp only [execLrel, execD_of_settled h hs, State.withTrap, if_neg (Nat.not_lt.mpr hl), hh, if_true]
  rfl

/-- A free lock, a host's and another teller's are all not this teller's. -/
theorem execLrel_of_not_own (hl : s.gval t rs ≤ 255) (hh : ∀ a, (s.lock (s.gval t rs)).holder ≠ some (.teller t a)) :
    execLrel t rd rs s = .next (s.putG t rd (BitVec.ofNat 32 stNotHeld) 4) := by
  simp only [execLrel, execD_of_settled h hs, State.withTrap, if_neg (Nat.not_lt.mpr hl)]
  cases hk : (s.lock (s.gval t rs)).holder with
  | none => rfl
  | some holder =>
    cases holder with
    | host a => rfl
    | teller u a =>
      have hu : u ≠ t := fun hu => hh a (hu ▸ hk)
      simp only [if_neg hu]
      rfl

end LockInstructions

/-- A release wakes, of the first `n` tellers, each one that remembers the lock, and no other. -/
theorem teller_wakeLock (l u : Nat) : ∀ (n : Nat) (s : State), (s.wakeLock l n).teller u =
    if u < n ∧ (s.teller u).lckWait = some l then
      { s.teller u with tev := (s.teller u).tev ||| 0x100000, lckWait := none } else s.teller u
  | 0, s => by simp [State.wakeLock]
  | n + 1, s => by
    rw [State.wakeLock, teller_wakeLock l u n]
    by_cases hu : u = n
    · subst hu
      by_cases hw : (s.teller u).lckWait = some l
      · simp [hw, State.setTev, tevLck]
      · simp [hw]
    · have hlt : u < n + 1 ↔ u < n := by omega
      have hsame : (if (s.teller n).lckWait = some l then
          (s.setTev n tevLck).mapTeller n fun x => { x with lckWait := none } else s).teller u = s.teller u := by
        split
        · rw [teller_mapTeller_ne _ _ hu, State.setTev, teller_mapTeller_ne _ _ hu]
        · rfl
      simp only [hsame, hlt]

/-- Settles O29: LACQ by the four steps of R118, its rank being that of the locks that count for the teller; LREL by who
holds the lock (R119); a release wakes exactly the tellers that remember the lock. -/
theorem lockInstructions : Obligations.LockInstructions := by
  unfold Obligations.LockInstructions
  intro s t rd rs hrun hset
  extract_lets x l acct lacq lrel ranked mine
  have hrank : ranked ↔ l + 1 ≤ rankOf (some t) acct s.locks := by
    rw [succ_le_rankOf_iff]
    refine exists_congr fun m => exists_congr fun k => exists_congr fun h => ?_
    cases h with
    | teller u a => rw [countsFor_teller_iff]
    | host a => rw [countsFor_host_iff]
  refine ⟨fun hl => ⟨?_, execLrel_of_gt hrun hset rd rs hl⟩, fun hl hr => ?_, fun hl hr hh => ?_, fun hl hr hh => ?_,
    fun hl ⟨a, ha⟩ => execLrel_of_own hrun hset rd rs hl ha,
    fun hl hn => execLrel_of_not_own hrun hset rd rs hl fun a ha => hn ⟨a, ha⟩, fun u => teller_wakeLock l u 16 s⟩
  · exact execLacq_of_refused hrun hset rd rs (lacqStatus_of_gt hl) (by decide) (by decide)
  · exact execLacq_of_refused hrun hset rd rs (lacqStatus_of_rank hl (hrank.mp hr)) (by decide) (by decide)
  · exact execLacq_of_busy hrun hset rd rs (lacqStatus_of_held hl (mt hrank.mpr hr) hh)
  · have hst := lacqStatus_of_free hl (mt hrank.mpr hr) hh
    have granted := execLacq_of_granted hrun hset rd rs hst (by split <;> simp)
    rwa [apply_ite (BitVec.ofNat 32)] at granted

end Sys2Proof.Machine

namespace Sys2Proof.Machine

/-! Event records (R320, R342 to R346): what posting one leaves unchanged. -/

/-- The places an event record and its mirror record may write: FLT_MSEQ, FLT_STBYDROP, the registers of the event
queues and the pending bits of MSI-X. -/
def eventKey (k : Nat) : Prop :=
  k = FLT_MSEQ_MSEQ.key ∨ k = FLT_STBYDROP_COUNT.key ∨ (EVQ_BASELO_BASE 0).key ≤ k ∧ k < (EVQ_BASELO_BASE 1024).key ∨
    (MSIX_PBA_PENDING 0).key ≤ k

/-- The places of `eventKey` in numbers, 32 to a register offset. -/
theorem eventKey_iff (k : Nat) : eventKey k ↔ k = 0xC00044 * 32 ∨ k = 0xC00058 * 32 ∨
    0xD80000 * 32 ≤ k ∧ k < 0xD88000 * 32 ∨ 0x20008000 * 32 ≤ k := Iff.rfl

/-- `u` has the tellers and the incidents of `s`, and every register field that event records do not write. -/
structure EventFrame (s u : State) : Prop where
  tellers : u.tellers = s.tellers
  incidents : u.incidents = s.incidents
  fld : ∀ f : Field, ¬ eventKey f.key → u.fld f = s.fld f

namespace EventFrame

variable {s u v : State}

theorem refl (s : State) : EventFrame s s := ⟨rfl, rfl, fun _ _ => rfl⟩

theorem trans (h : EventFrame s u) (k : EventFrame u v) : EventFrame s v where
  tellers := k.tellers.trans h.tellers
  incidents := k.incidents.trans h.incidents
  fld f hf := (k.fld f hf).trans (h.fld f hf)

theorem setFld (h : EventFrame s u) {f : Field} (v : Nat) (hf : eventKey f.key) : EventFrame s (u.setFld f v) where
  tellers := h.tellers
  incidents := h.incidents
  fld g hg := (fld_setFld_ne u v fun hk : g.key = f.key => hg (hk ▸ hf)).trans (h.fld g hg)

theorem ite {c : Prop} [Decidable c] (h : EventFrame s u) (k : EventFrame s v) :
    EventFrame s (if c then u else v) := by
  split
  · exact h
  · exact k

/-- An update of fields of the state that the frame does not speak of. -/
theorem of_eq (hr : u.regs = s.regs) (ht : u.tellers = s.tellers) (hi : u.incidents = s.incidents) :
    EventFrame s u where
  tellers := ht
  incidents := hi
  fld f _ := congrArg (tabGet f.reset · f.key) hr

end EventFrame

/-- The fields of an account's event queue that records write. -/
theorem eventKey_evq {a : Nat} (ha : a < 1024) : eventKey (EVQ_TAIL_TAIL a).key ∧ eventKey (EVQ_PEND_HELD a).key ∧
    eventKey (EVQ_PEND_LOSTPEND a).key ∧ eventKey (EVQ_DROP_DROP a).key := by
  simp only [eventKey_iff, Field.key, EVQ_TAIL_TAIL, EVQ_PEND_HELD, EVQ_PEND_LOSTPEND, EVQ_DROP_DROP]
  omega

theorem eventFrame_msix (s : State) (vec : Nat) : EventFrame s (s.msix vec) :=
  have pending : eventKey (MSIX_PBA_PENDING (vec / 32)).key := by
    simp only [eventKey_iff, Field.key, MSIX_PBA_PENDING]
    omega
  .ite (.setFld (.refl s) _ pending) (.of_eq rfl rfl rfl)

theorem eventFrame_recordWritten (s : State) (a : Nat) : EventFrame s (s.recordWritten a) :=
  .ite (eventFrame_msix s _) (.ite (.of_eq rfl rfl rfl) ((eventFrame_msix s _).trans (.of_eq rfl rfl rfl)))

theorem eventFrame_writeRecord (s : State) (a : Nat) (r : EventRec) : EventFrame s (s.writeRecord a r) :=
  .ite (.of_eq rfl rfl rfl)
    (.trans (u := s.emit (.hostRecord (s.evqAddr a r.seq) r)) (.of_eq rfl rfl rfl) (eventFrame_recordWritten _ a))

theorem eventFrame_frameOut (s : State) (d : Nat) (f : RingFrame) : EventFrame s (s.frameOut d f) :=
  .ite (.refl s) (.of_eq rfl rfl rfl)

theorem eventFrame_ringBoth (s : State) (dst : Option Nat) (m : RingMsg) : EventFrame s (s.ringBoth dst m) :=
  (eventFrame_frameOut s 0 _).trans (eventFrame_frameOut _ 1 _)

theorem eventFrame_mirrorSend (s : State) (teller status inst aux : Nat) (d : MirData) :
    EventFrame s (s.mirrorSend teller status inst aux d) := by
  unfold State.mirrorSend
  refine .ite (.trans (.setFld ?_ _ (.inl rfl)) (eventFrame_ringBoth _ _ _)) (.refl s)
  exact .of_eq rfl rfl rfl

section Queue

variable {a : Nat} (ha : a < 1024)
include ha

theorem eventFrame_setHeld (s : State) (l : List EventRec) : EventFrame s (s.setHeld a l) := by
  obtain ⟨-, held, -, -⟩ := eventKey_evq ha
  refine .setFld ?_ _ held
  exact .of_eq rfl rfl rfl

theorem eventFrame_appendRecord (s : State) (mk : Nat → Nat → EventRec) : EventFrame s (s.appendRecord a mk) := by
  obtain ⟨tail, -, -, -⟩ := eventKey_evq ha
  dsimp only [State.appendRecord]
  have sent (r : EventRec) := ((EventFrame.refl s).setFld (s.fld (EVQ_TAIL_TAIL a) + 1) tail).trans
    (eventFrame_mirrorSend _ 0xFF 0 0 a (.event r))
  exact .ite ((sent _).trans (eventFrame_setHeld ha _ _)) ((sent _).trans (eventFrame_writeRecord _ _ _))

theorem eventFrame_postAt (s : State) (type detail sub incident wpos : Nat) (stby : Bool) :
    EventFrame s (s.postAt a type detail sub incident wpos stby) := by
  obtain ⟨-, -, lostpend, drop⟩ := eventKey_evq ha
  unfold State.postAt
  have reported (mk : Nat → Nat → EventRec) := (eventFrame_appendRecord ha s mk).setFld 0 lostpend
  refine .ite (.setFld (.refl s) _ drop) (.ite (.setFld (.refl s) _ lostpend) ?_)
  exact .trans (.ite (.refl s) (reported _)) (eventFrame_appendRecord ha _ _)

end Queue

theorem eventFrame_post (s : State) (a type detail sub incident : Nat) :
    EventFrame s (s.post a type detail sub incident) := by
  have account (n : Nat) : n % 1024 < 1024 := Nat.mod_lt n (by decide)
  exact .ite (.ite (eventFrame_postAt (account _) s _ _ _ _ _ _) (.setFld (.refl s) _ (.inr (.inl rfl))))
    (eventFrame_postAt (account _) s _ _ _ _ _ _)

theorem eventFrame_postFault (s : State) (b type detail : Nat) : EventFrame s (s.postFault b type detail) :=
  .ite (eventFrame_post s _ _ _ _ _) (.refl s)

/-! TEV bits (R80): which tellers a mask reaches. -/

theorem teller_setTevMask (mask bit t : Nat) : ∀ (n : Nat) (s : State), (s.setTevMask mask bit n).teller t =
    if t < n ∧ mask.testBit t = true then
      { s.teller t with tev := (s.teller t).tev ||| BitVec.ofNat 32 (2 ^ bit) } else s.teller t
  | 0, s => by simp [State.setTevMask]
  | n + 1, s => by
    rw [State.setTevMask, teller_setTevMask mask bit t n]
    by_cases ht : t = n
    · subst ht
      by_cases hm : mask.testBit t = true <;> simp [hm, State.setTev]
    · have hlt : t < n + 1 ↔ t < n := by omega
      have hsame : (if mask.testBit n then s.setTev n bit else s).teller t = s.teller t := by
        split
        · exact teller_mapTeller_ne s _ ht
        · rfl
      simp only [hsame, hlt]

/-- TEV bits are set in the tellers and nowhere else. -/
theorem setTevMask_rest (mask bit : Nat) : ∀ (n : Nat) (s : State),
    (s.setTevMask mask bit n).regs = s.regs ∧ (s.setTevMask mask bit n).incidents = s.incidents
  | 0, _ => ⟨rfl, rfl⟩
  | n + 1, s => by
    obtain ⟨hr, hi⟩ := setTevMask_rest mask bit n (if mask.testBit n then s.setTev n bit else s)
    constructor
    · rw [State.setTevMask, hr]
      split <;> rfl
    · rw [State.setTevMask, hi]
      split <;> rfl

@[simp] theorem fld_setTevMask (s : State) (mask bit n : Nat) (f : Field) : (s.setTevMask mask bit n).fld f = s.fld f :=
  congrArg (tabGet f.reset · f.key) (setTevMask_rest mask bit n s).1

@[simp] theorem incident_setTevMask (s : State) (mask bit n b : Nat) :
    (s.setTevMask mask bit n).incident b = s.incident b :=
  congrArg (tabGet Incident.none · b) (setTevMask_rest mask bit n s).2

/-! The state of a block and its incident: reads after writes. -/

@[simp] theorem incident_setIncident_same (s : State) (b : Nat) (i : Incident) : (s.setIncident b i).incident b = i :=
  tabGet_tabSet_same _ _ _ s.incidents

@[simp] theorem incident_setFld (s : State) (f : Field) (v b : Nat) : (s.setFld f v).incident b = s.incident b := rfl

@[simp] theorem fld_setIncident (s : State) (b : Nat) (i : Incident) (f : Field) :
    (s.setIncident b i).fld f = s.fld f := rfl

@[simp] theorem blk_setIncident (s : State) (b c : Nat) (i : Incident) : (s.setIncident c i).blk b = s.blk b := rfl

theorem blk_setBlk (s : State) (b : Nat) {v : Nat} (hv : v < 8) : (s.setBlk b v).blk b = v :=
  (fld_setFld_same s _ v).trans (Nat.mod_eq_of_lt hv)

theorem blk_setFld_ne (s : State) {f : Field} (v b : Nat) (h : (FLT_BLKSTAT_STATE b).key ≠ f.key) :
    (s.setFld f v).blk b = s.blk b := fld_setFld_ne s v h

theorem blk_syncDefer (s : State) (b : Nat) : (s.syncDefer b).blk b = s.blk b :=
  blk_setFld_ne s _ b (by simp [Field.key, FLT_BLKSTAT_STATE, FLT_BLKSTAT_DEFER])

/-- A bit set within a field's width reads back. -/
theorem fbit_setFbit_same (s : State) {f : Field} {i : Nat} (hi : i < f.width) : (s.setFbit f i).fbit f i = true := by
  simp [State.setFbit, State.fbit, Nat.testBit_mod_two_pow, hi]

/-! Sources and their status words (R307). -/

/-- Where status words lie: above GLB, apart from every register of FLT but FLT_FSTAT, and from the event queues. -/
def fstatKey (k : Nat) : Prop :=
  0x100000 * 32 ≤ k ∧ (k < 0xC00000 * 32 ∨ k = 0xC00020 * 32 ∨ 0xD40000 * 32 ≤ k ∧ k < 0xD80000 * 32 ∨
    0xE00000 * 32 ≤ k ∧ k < 0x1000000 * 32)

theorem lt_of_sourceOk {b src : Nat} (h : sourceOk b src = true) : b < 24 := by
  simp only [sourceOk, Bool.and_eq_true, decide_eq_true_eq] at h
  obtain ⟨⟨hb, -⟩, -⟩ := h
  exact hb

/-- A source's status word is that of the first source in it. -/
theorem fstatOf_word (b src : Nat) : fstatOf b src = fstatOf b (32 * (src / 32)) := by
  have hd : 32 * (src / 32) / 32 = src / 32 := by omega
  have h1 : 32 * (src / 32) < 32 ↔ src < 32 := by omega
  have h2 : 32 * (src / 32) < 64 ↔ src < 64 := by omega
  simp only [fstatOf, hd, h1, h2]

theorem fstatKey_fstatOf {b src : Nat} (h : sourceOk b src = true) : fstatKey (fstatOf b src).key := by
  have words : ∀ b < 24, ∀ w < 3, fstatKey (fstatOf b (32 * w)).key := by unfold fstatKey; decide
  simp only [sourceOk, Bool.and_eq_true, decide_eq_true_eq] at h
  obtain ⟨⟨hb, hsrc⟩, -⟩ := h
  rw [fstatOf_word]
  refine words b hb (src / 32) ?_
  split at hsrc
  · omega
  · split at hsrc <;> omega

/-- A status word is none of the places event records write. -/
theorem fstatKey.not_eventKey {k : Nat} (h : fstatKey k) : ¬ eventKey k := by
  rw [eventKey_iff]
  unfold fstatKey at h
  omega

section Marked

variable (s : State) {b src : Nat} (h : sourceOk b src = true)
include h

/-- A source's own bit reads back once it is set. -/
theorem srcSet_setFbit : (s.setFbit (fstatOf b src) (src % 32)).srcSet b src = true := by
  simp only [sourceOk, Bool.and_eq_true, decide_eq_true_eq] at h
  obtain ⟨-, hwidth⟩ := h
  exact fbit_setFbit_same s hwidth

/-- Setting a source's bit changes no field outside the status words. -/
theorem fld_setFbit_fstatOf {g : Field} (hg : ¬ fstatKey g.key) :
    (s.setFbit (fstatOf b src) (src % 32)).fld g = s.fld g :=
  fld_setFld_ne s _ fun hk => hg (hk ▸ fstatKey_fstatOf h)

end Marked

/-! Opening an incident (R307, R313). -/

/-- The registers of block `b` in FLT, in numbers. -/
theorem blkKey_eq (b : Nat) : (FLT_BLKSTAT_STATE b).key = 0xC00100 * 32 + 512 * b ∧
    (FLT_BLKINC_INCIDENT b).key = 0xC00104 * 32 + 512 * b := by
  simp only [Field.key, FLT_BLKSTAT_STATE, FLT_BLKINC_INCIDENT]
  omega

/-- A block opens an incident of a given number. -/
def State.openNumbered (s : State) (b src n : Nat) : State :=
  ((((s.setFld (FLT_BLKINC_INCIDENT b) n).setIncident b { Incident.none with srcs := [src] }).setTevMask
    (s.fld (FLT_ROUTE_TELLERS b)) tevFlt 16).postFault b 0x350 (b * 65536 + src)).setBlk b 1

/-- A new number changes the count alone. -/
theorem fld_newIncident_ne (s : State) {f : Field} (h : f.key ≠ FLT_INCNEXT_VALUE.key) :
    s.newIncident.2.fld f = s.fld f := fld_setFld_ne s _ h

theorem openIncident_some (s : State) (b src n : Nat) : s.openIncident b src (some n) = s.openNumbered b src n := rfl

theorem openIncident_none (s : State) (b src : Nat) :
    s.openIncident b src none = s.newIncident.2.openNumbered b src s.newIncident.1 := by
  have hroute : s.newIncident.2.fld (FLT_ROUTE_TELLERS b) = s.fld (FLT_ROUTE_TELLERS b) :=
    fld_newIncident_ne s (by simp only [Field.key, FLT_ROUTE_TELLERS, FLT_INCNEXT_VALUE]; omega)
  rw [State.openNumbered, hroute]
  rfl

/-- A block opens an incident of some number, on a state that has at most drawn one. -/
theorem openIncident_eq (s : State) (b src : Nat) (given : Option Nat) : ∃ (n : Nat) (u : State),
    s.openIncident b src given = u.openNumbered b src n ∧ u.tellers = s.tellers ∧
      ∀ f : Field, f.key ≠ FLT_INCNEXT_VALUE.key → u.fld f = s.fld f := by
  cases given with
  | some n => exact ⟨n, s, openIncident_some s b src n, rfl, fun _ _ => rfl⟩
  | none => exact ⟨_, _, openIncident_none s b src, rfl, fun _ => fld_newIncident_ne s⟩

theorem blk_openNumbered (s : State) (b src n : Nat) : (s.openNumbered b src n).blk b = 1 :=
  blk_setBlk _ b (by decide)

theorem incident_openNumbered (s : State) (b src n : Nat) :
    ((s.openNumbered b src n).incident b).srcs = [src] := by
  have hpost : ∀ u : State, (u.postFault b 0x350 (b * 65536 + src)).incident b = u.incident b := fun u =>
    congrArg (tabGet Incident.none · b) (eventFrame_postFault u b _ _).incidents
  simp [State.openNumbered, State.setBlk, hpost]

/-- Every teller routed has TEV.FLT. -/
theorem tev_openNumbered (s : State) (b src n : Nat) {t : Nat} (ht : t < 16)
    (hr : s.fbit (FLT_ROUTE_TELLERS b) t = true) : ((s.openNumbered b src n).teller t).tev.getLsbD 19 = true := by
  have hpost : ∀ u : State, (u.postFault b 0x350 (b * 65536 + src)).teller t = u.teller t := fun u =>
    congrArg (tabGet Teller.init · t) (eventFrame_postFault u b _ _).tellers
  have hm : (s.fld (FLT_ROUTE_TELLERS b)).testBit t = true := hr
  simp [State.openNumbered, State.setBlk, hpost, teller_setTevMask, ht, hm, tevFlt]

/-- Of the register fields, an opening changes the block's state, its incident number and what event records write. -/
theorem fld_openNumbered_ne (s : State) (b src n : Nat) {f : Field} (he : ¬ eventKey f.key)
    (hst : f.key ≠ (FLT_BLKSTAT_STATE b).key) (hinc : f.key ≠ (FLT_BLKINC_INCIDENT b).key) :
    (s.openNumbered b src n).fld f = s.fld f := by
  rw [State.openNumbered, State.setBlk, fld_setFld_ne _ _ hst, (eventFrame_postFault _ b _ _).fld f he, fld_setTevMask,
    fld_setIncident, fld_setFld_ne _ _ hinc]

theorem fld_openNumbered_incident (s : State) {b : Nat} (src n : Nat) (hb : b < 24) :
    (s.openNumbered b src n).fld (FLT_BLKINC_INCIDENT b) = n % 2 ^ 16 := by
  obtain ⟨hst, hinc⟩ := blkKey_eq b
  have he : ¬ eventKey (FLT_BLKINC_INCIDENT b).key := by rw [eventKey_iff]; omega
  rw [State.openNumbered, State.setBlk, fld_setFld_ne _ _ (by omega), (eventFrame_postFault _ b _ _).fld _ he,
    fld_setTevMask, fld_setIncident, fld_setFld_same]
  rfl

/-- The count of incident numbers runs 1 to 2,047 (R313). -/
theorem fld_newIncident_count (s : State) : s.newIncident.2.fld FLT_INCNEXT_VALUE % 2048 =
    if s.fld FLT_INCNEXT_VALUE % 2048 = 2047 then 1 else s.fld FLT_INCNEXT_VALUE % 2048 + 1 := by
  have hn : s.newIncident.2.fld FLT_INCNEXT_VALUE = (s.node * 2048 +
      if s.fld FLT_INCNEXT_VALUE % 2048 ≥ 2047 then 1 else s.fld FLT_INCNEXT_VALUE % 2048 + 1) % 2 ^ 16 :=
    fld_setFld_same s _ _
  rw [hn]
  split <;> split <;> omega

/-- A status word keeps its value while its block opens an incident. -/
theorem srcSet_openIncident (s : State) {b src : Nat} (given : Option Nat) (h : sourceOk b src = true) :
    (s.openIncident b src given).srcSet b src = s.srcSet b src := by
  obtain ⟨n, u, hopen, -, hfld⟩ := openIncident_eq s b src given
  have hk := fstatKey_fstatOf h
  obtain ⟨hst, hinc⟩ := blkKey_eq b
  have hb := lt_of_sourceOk h
  have hnext : FLT_INCNEXT_VALUE.key = 0xC00018 * 32 := rfl
  have hne := hk.not_eventKey
  unfold fstatKey at hk
  rw [hopen, State.srcSet, State.fbit, fld_openNumbered_ne _ _ _ _ hne (by omega) (by omega), hfld _ (by omega)]
  rfl

/-! A source event, by the state of its block (R307, R308, R310, R312). -/

section SourceEvent

variable {s : State} {b src : Nat} (given : Option Nat)

theorem raiseWith_of_mute (h : s.dormantMute b src = true) : s.raiseWith b src given = s := if_pos h

section Heard

variable (hd : s.dormantMute b src = false)
include hd

theorem raiseWith_of_masked (hm : s.srcMasked b src = true) :
    s.raiseWith b src given = s.setFbit (fstatOf b src) (src % 32) := by
  simp [State.raiseWith, hd, hm]

variable (hm : s.srcMasked b src = false)
include hm

theorem raiseWith_of_normal (h : s.blk b = 0) :
    s.raiseWith b src given = (s.setFbit (fstatOf b src) (src % 32)).openIncident b src given := by
  simp [State.raiseWith, hd, hm, h]

theorem raiseWith_of_joining (h : s.blk b = 1 ∨ s.blk b = 4) :
    s.raiseWith b src given = (s.setFbit (fstatOf b src) (src % 32)).setIncident b
      { s.incident b with srcs := insertNat src (s.incident b).srcs } := by
  have h0 : s.blk b ≠ 0 := by omega
  simp [State.raiseWith, hd, hm, h0, h]

theorem raiseWith_of_auditing (h0 : s.blk b ≠ 0) (h : ¬ (s.blk b = 1 ∨ s.blk b = 4)) :
    s.raiseWith b src given = ((s.setFbit (fstatOf b src) (src % 32)).setIncident b { s.incident b with
      srcs := insertNat src (s.incident b).srcs
      audits := if (s.incident b).audits.contains ⟨src, 0, false⟩ then (s.incident b).audits
        else (s.incident b).audits ++ [⟨src, 0, false⟩] }).setBlk b 2 := by
  have hw : (s.incident b).audits ++ (if (s.incident b).audits.contains ⟨src, 0, false⟩ then [] else [⟨src, 0, false⟩])
      = if (s.incident b).audits.contains ⟨src, 0, false⟩ then (s.incident b).audits
        else (s.incident b).audits ++ [⟨src, 0, false⟩] := by
    split
    · exact List.append_nil _
    · rfl
  rw [← hw]
  simp only [State.raiseWith, hd, hm, if_neg h0, if_neg h, Bool.false_eq_true, if_false]

end Heard

/-- An event that is not muted leaves its source set, whatever the state of its block. -/
theorem srcSet_raiseWith (h : sourceOk b src = true) (hd : s.dormantMute b src = false) :
    (s.raiseWith b src given).srcSet b src = true := by
  have hset := srcSet_setFbit s h
  cases hm : s.srcMasked b src with
  | true => rw [raiseWith_of_masked given hd hm]; exact hset
  | false =>
    by_cases h0 : s.blk b = 0
    · rw [raiseWith_of_normal given hd hm h0, srcSet_openIncident _ given h]
      exact hset
    · by_cases hj : s.blk b = 1 ∨ s.blk b = 4
      · rw [raiseWith_of_joining given hd hm hj]
        exact hset
      · rw [raiseWith_of_auditing given hd hm h0 hj]
        have hk := fstatKey_fstatOf h
        obtain ⟨hst, -⟩ := blkKey_eq b
        have hb := lt_of_sourceOk h
        unfold fstatKey at hk
        rw [State.srcSet, State.fbit, State.setBlk, fld_setFld_ne _ _ (by omega)]
        exact hset

end SourceEvent

/-! The end of an incident (R309 to R312). -/

theorem blk_closeIncident (s : State) (b : Nat) : (s.closeIncident b).blk b = 0 :=
  (blk_syncDefer _ b).trans (blk_setBlk _ b (by decide))

theorem incident_closeIncident (s : State) (b : Nat) : (s.closeIncident b).incident b = Incident.none :=
  incident_setIncident_same _ b _

theorem flag_esc_closeIncident (s : State) (b : Nat) : (s.closeIncident b).flag (FLT_BLKSTAT_ESC b) = false := by
  have hdefer : (FLT_BLKSTAT_ESC b).key ≠ (FLT_BLKSTAT_DEFER b).key := by
    simp [Field.key, FLT_BLKSTAT_ESC, FLT_BLKSTAT_DEFER]
  have hstate : (FLT_BLKSTAT_ESC b).key ≠ (FLT_BLKSTAT_STATE b).key := by
    simp [Field.key, FLT_BLKSTAT_ESC, FLT_BLKSTAT_STATE]
  have hesc : (s.closeIncident b).fld (FLT_BLKSTAT_ESC b) = 0 := by
    rw [State.closeIncident, State.syncDefer, State.setBool, fld_setFld_ne _ _ hdefer, fld_setIncident, State.setBlk,
      fld_setFld_ne _ _ hstate, State.setOff, fld_setFld_same, Nat.zero_mod]
  simp [State.flag, hesc]

/-- Once every audit has passed, a block in AUDIT clears. -/
theorem blk_auditsPassed_of_audit {s : State} {b : Nat} (h : s.blk b = 2) : (s.auditsPassed b).blk b = 3 := by
  have h4 : s.blk b ≠ 4 := by omega
  rw [State.auditsPassed, if_neg h4, if_pos h, blk_syncDefer, blk_setBlk _ b (by decide)]

/-- Once every audit has passed, a LASTING block is NORMAL. -/
theorem blk_auditsPassed_of_lasting {s : State} {b : Nat} (h : s.blk b = 4) : (s.auditsPassed b).blk b = 0 := by
  rw [State.auditsPassed, if_pos h, blk_closeIncident]

/-- A grace period that ends with every source masked has nothing to audit. -/
theorem blk_graceEnd_of_masked {s : State} {b : Nat} (h : ∀ x, x ∈ (s.incident b).srcs → s.srcMasked b x = true) :
    (s.graceEnd b).blk b = 3 := by
  have hleft : (s.incident b).srcs.filter (fun x => ! s.srcMasked b x) = [] := by
    rw [List.filter_eq_nil_iff]
    intro x hx
    simp [h x hx]
  have hhold : (s.setIncident b { s.incident b with srcs := [] }).norefHolds b = false := by
    by_cases hb : b = 6
    · subst hb
      simp [State.norefHolds]
    · simp [State.norefHolds, hb]
  simp only [State.graceEnd, hleft, hhold]
  exact blk_auditsPassed_of_audit (blk_setBlk _ b (by decide))

/-- FLT_BLKRST of a LASTING block whose incident has no source left to audit ends its incident. -/
theorem blk_blkRst_of_lasting {s : State} {b : Nat} (hb : b < 24) (h : s.blk b = 4) (hs : (s.incident b).srcs = []) :
    (s.blkRst 0xB10C b).blk b = 0 := by
  have hle : ¬ b > 23 := by omega
  simp only [State.blkRst, if_neg hle, h, hs, ne_eq, not_true_eq_false, if_false, if_true]
  exact blk_auditsPassed_of_lasting h

/-! The commands of the scheme on a node that is not off. -/

section Commands

variable {s : State} (hoff : s.isOff = false)
include hoff

theorem exec_faultSourceEvent_of_on (b src : Nat) (given : Option Nat) : exec (.faultSourceEvent b src given) s =
    .next (if sourceOk b src then s.raiseWith b src given else s) := by
  simp [exec_faultSourceEvent, execFaultSourceEvent, hoff]

theorem exec_graceExpiry_of_on {b : Nat} (hb : b < 24) :
    exec (.graceExpiry b) s = .next (if s.blk b = 1 then s.graceEnd b else s) := by
  simp [exec_graceExpiry, execGraceExpiry, hoff, hb]

theorem exec_quietPeriodEnd_of_on {b : Nat} (hb : b < 24) :
    exec (.quietPeriodEnd b) s = .next (if s.blk b = 3 then s.quietEnd b else s) := by
  simp [exec_quietPeriodEnd, execQuietPeriodEnd, hoff, hb]

theorem exec_fltBlkrst_of_on (key b : Nat) : exec (.fltBlkrst key b) s = .next (s.blkRst key b) := by
  simp [exec_fltBlkrst, execFltBlkrst, hoff]

theorem exec_pinReadbackError_of_on (p n : Bool) : exec (.pinReadbackError p n) s = .next
    (if p ≠ s.healthy ∨ n = s.healthy then ({ s with pwr := { s.pwr with pin := some (p, n) } } : State).raise 18 0
      else { s with pwr := { s.pwr with pin := none } }) := by
  simp [exec_pinReadbackError, execPinReadbackError, hoff]

end Commands

/-- What a source event of a NORMAL block leaves (R307, R313). -/
theorem opens_of_normal {s : State} {b src : Nat} (given : Option Nat) (hok : sourceOk b src = true)
    (hd : s.dormantMute b src = false) (hm : s.srcMasked b src = false) (h0 : s.blk b = 0) :
    let s' := s.raiseWith b src given
    s'.srcSet b src = true ∧ s'.blk b = 1 ∧ (s'.incident b).srcs = [src] ∧
      (∀ t, t < 16 → s.fbit (FLT_ROUTE_TELLERS b) t = true → (s'.teller t).tev.getLsbD 19 = true) ∧
      (given = none → s'.fld (FLT_BLKINC_INCIDENT b) = (s.node * 2048 + s.fld FLT_INCNEXT_VALUE % 2048) % 2 ^ 16 ∧
        s'.fld FLT_INCNEXT_VALUE % 2048 =
          if s.fld FLT_INCNEXT_VALUE % 2048 = 2047 then 1 else s.fld FLT_INCNEXT_VALUE % 2048 + 1) := by
  intro s'
  have hb := lt_of_sourceOk hok
  obtain ⟨hst, hinc⟩ := blkKey_eq b
  have hs' : s' = (s.setFbit (fstatOf b src) (src % 32)).openIncident b src given :=
    raiseWith_of_normal given hd hm h0
  have route : (FLT_ROUTE_TELLERS b).key = 0xC0010C * 32 + 512 * b + 16 := by
    simp only [Field.key, FLT_ROUTE_TELLERS]; omega
  have next : FLT_INCNEXT_VALUE.key = 0xC00018 * 32 := rfl
  have marked_fld {g : Field} (hg : ¬ fstatKey g.key) := fld_setFbit_fstatOf s hok hg
  obtain ⟨n, u, hopen, -, hfld⟩ := openIncident_eq (s.setFbit (fstatOf b src) (src % 32)) b src given
  refine ⟨srcSet_raiseWith given hok hd, ?_, ?_, fun t ht hr => ?_, fun hg => ?_⟩
  · rw [hs', hopen, blk_openNumbered]
  · rw [hs', hopen, incident_openNumbered]
  · rw [hs', hopen]
    refine tev_openNumbered u b src n ht ?_
    rwa [State.fbit, hfld _ (by omega), marked_fld (by unfold fstatKey; omega)]
  · subst hg
    have hcount := marked_fld (g := FLT_INCNEXT_VALUE) (by unfold fstatKey; omega)
    have hnode : (s.setFbit (fstatOf b src) (src % 32)).node = s.node :=
      marked_fld (g := GLB_ROLE_NODE) (by unfold fstatKey; decide)
    rw [hs', openIncident_none]
    constructor
    · rw [fld_openNumbered_incident _ src _ hb, State.newIncident, hcount, hnode]
    · rw [fld_openNumbered_ne _ b src _ (by rw [eventKey_iff]; omega) (by omega) (by omega),
        fld_newIncident_count, hcount]

/-- Settles O54: a source event acts by the state of its block, and what its event records write leaves the opened
incident as it is; each way out of fault handling goes through `auditsPassed` or `closeIncident`. -/
theorem faultScheme : Obligations.FaultScheme := by
  unfold Obligations.FaultScheme
  intro s b src given hoff hb c marked i
  have event := exec_faultSourceEvent_of_on hoff b src given
  have grace := exec_graceExpiry_of_on hoff hb
  have quiet := exec_quietPeriodEnd_of_on hoff hb
  have blkrst := exec_fltBlkrst_of_on hoff
  have pin := exec_pinReadbackError_of_on hoff
  refine ⟨fun hbad => ?_, fun hmute => ?_, fun hlow => ?_, fun hok hd hm => ?_, fun hok hd hm => ⟨fun h0 => ?_,
    fun hj => ?_, fun ha => ?_⟩, fun h1 => ?_, fun h1 => ?_, fun h1 hall => ?_, fun h3 => ?_, fun h3 => ?_,
    fun key hkey => ?_, fun h4 => ?_, fun b' hb' => ?_, fun h4 hs => ?_, ?_, fun p n hpn => ?_⟩
  · rw [event, hbad]; rfl
  · rw [event, raiseWith_of_mute given hmute, ite_self]
  · simp [State.dormantMute, hlow]
  · rw [event, if_pos hok, raiseWith_of_masked given hd hm]
  · rw [if_pos hok] at event
    exact ⟨_, event, opens_of_normal given hok hd hm h0⟩
  · rw [event, if_pos hok, raiseWith_of_joining given hd hm hj]
  · rw [event, if_pos hok, raiseWith_of_auditing given hd hm (by omega) (by omega)]
  · rw [grace, if_neg h1]
  · rw [grace, if_pos h1]
  · rw [if_pos h1] at grace
    exact ⟨_, grace, blk_graceEnd_of_masked hall⟩
  · rw [quiet, if_neg h3]
  · rw [if_pos h3] at quiet
    exact ⟨_, quiet, blk_closeIncident _ b, flag_esc_closeIncident _ b,
      incident_closeIncident _ b⟩
  · rw [blkrst, State.blkRst, if_pos hkey]; rfl
  · rw [blkrst, State.blkRst, if_neg (by decide), if_neg (by omega), if_pos h4]; rfl
  · rw [blkrst, State.blkRst, if_neg (by decide), if_pos hb']; rfl
  · exact ⟨_, blkrst _ _, blk_blkRst_of_lasting hb h4 hs⟩
  · rw [pin, if_neg (by simp)]
  · exact ⟨_, pin p n, by rw [if_pos hpn]; exact srcSet_raiseWith none rfl (by simp [State.dormantMute])⟩

end Sys2Proof.Machine

namespace Sys2Proof

/-- A word of an instruction decodes to it; a command that is no instruction has no word. -/
theorem encoded_statement (i : Instr) : Laws.Encoded.Statement i := by
  cases i
  case add => apply Laws.Encoded.add
  case sub => apply Laws.Encoded.sub
  case and => apply Laws.Encoded.and
  case or => apply Laws.Encoded.or
  case xor => apply Laws.Encoded.xor
  case sll => apply Laws.Encoded.sll
  case srl => apply Laws.Encoded.srl
  case sra => apply Laws.Encoded.sra
  case mul => apply Laws.Encoded.mul
  case mulh => apply Laws.Encoded.mulh
  case mulhu => apply Laws.Encoded.mulhu
  case divu => apply Laws.Encoded.divu
  case remu => apply Laws.Encoded.remu
  case div => apply Laws.Encoded.div
  case rem => apply Laws.Encoded.rem
  case min => apply Laws.Encoded.min
  case max => apply Laws.Encoded.max
  case minu => apply Laws.Encoded.minu
  case maxu => apply Laws.Encoded.maxu
  case adds => apply Laws.Encoded.adds
  case subs => apply Laws.Encoded.subs
  case xadd => apply Laws.Encoded.xadd
  case xswap => apply Laws.Encoded.xswap
  case sel => apply Laws.Encoded.sel
  case clz => apply Laws.Encoded.clz
  case popc => apply Laws.Encoded.popc
  case cmpeq => apply Laws.Encoded.cmpeq
  case cmpne => apply Laws.Encoded.cmpne
  case cmplt => apply Laws.Encoded.cmplt
  case cmpge => apply Laws.Encoded.cmpge
  case cmpltu => apply Laws.Encoded.cmpltu
  case cmpgeu => apply Laws.Encoded.cmpgeu
  case qand => apply Laws.Encoded.qand
  case qor => apply Laws.Encoded.qor
  case qxor => apply Laws.Encoded.qxor
  case pcmpeq => apply Laws.Encoded.pcmpeq
  case pcmplt => apply Laws.Encoded.pcmplt
  case pcmpge => apply Laws.Encoded.pcmpge
  case qnot => apply Laws.Encoded.qnot
  case padd => apply Laws.Encoded.padd
  case psub => apply Laws.Encoded.psub
  case pmax => apply Laws.Encoded.pmax
  case pmov => apply Laws.Encoded.pmov
  case mvgp => apply Laws.Encoded.mvgp
  case mvpgl => apply Laws.Encoded.mvpgl
  case mvpgh => apply Laws.Encoded.mvpgh
  case paddi => apply Laws.Encoded.paddi
  case paddfi => apply Laws.Encoded.paddfi
  case rdpos => apply Laws.Encoded.rdpos
  case pstn => apply Laws.Encoded.pstn
  case pwrt => apply Laws.Encoded.pwrt
  case waitpos => apply Laws.Encoded.waitpos
  case arm => apply Laws.Encoded.arm
  case disarm => apply Laws.Encoded.disarm
  case rdhwm => apply Laws.Encoded.rdhwm
  case addi => apply Laws.Encoded.addi
  case andi => apply Laws.Encoded.andi
  case ori => apply Laws.Encoded.ori
  case xori => apply Laws.Encoded.xori
  case lw => apply Laws.Encoded.lw
  case lh => apply Laws.Encoded.lh
  case lhu => apply Laws.Encoded.lhu
  case lb => apply Laws.Encoded.lb
  case lbu => apply Laws.Encoded.lbu
  case rdr => apply Laws.Encoded.rdr
  case jmpr => apply Laws.Encoded.jmpr
  case sw => apply Laws.Encoded.sw
  case sh => apply Laws.Encoded.sh
  case sb => apply Laws.Encoded.sb
  case wrr => apply Laws.Encoded.wrr
  case cmpeqi => apply Laws.Encoded.cmpeqi
  case cmplti => apply Laws.Encoded.cmplti
  case cmpltui => apply Laws.Encoded.cmpltui
  case pld => apply Laws.Encoded.pld
  case pst => apply Laws.Encoded.pst
  case ldhi => apply Laws.Encoded.ldhi
  case slli => apply Laws.Encoded.slli
  case srli => apply Laws.Encoded.srli
  case srai => apply Laws.Encoded.srai
  case b => apply Laws.Encoded.b
  case bl => apply Laws.Encoded.bl
  case fence => apply Laws.Encoded.fence
  case halt => apply Laws.Encoded.halt
  case trap => apply Laws.Encoded.trap
  case eret => apply Laws.Encoded.eret
  case brk => apply Laws.Encoded.brk
  case rdcyc => apply Laws.Encoded.rdcyc
  case waitev => apply Laws.Encoded.waitev
  case tsig => apply Laws.Encoded.tsig
  case evclr => apply Laws.Encoded.evclr
  case claim => apply Laws.Encoded.claim
  case recv => apply Laws.Encoded.recv
  case commit => apply Laws.Encoded.commit
  case take => apply Laws.Encoded.take
  case settle => apply Laws.Encoded.settle
  case lacq => apply Laws.Encoded.lacq
  case lrel => apply Laws.Encoded.lrel
  case mbpost => apply Laws.Encoded.mbpost
  case evpost => apply Laws.Encoded.evpost
  case dmakick => apply Laws.Encoded.dmakick
  case audit => apply Laws.Encoded.audit
  all_goals exact fun _ _ hw => nomatch hw

/-- Settles O5: one lemma per instruction says that its word decodes to it. -/
theorem decodeOfEncode : Obligations.DecodeOfEncode := encoded_statement

/-! The fields of any word (R64): each is cut from its bits, and a word is the sum of its fields. -/

theorem only_eq_some {c : Bool} {i j : Instr} : only c i = some j ↔ i = j ∧ c = true := by
  cases c <;> simp [only]

section Fields

variable (w : Nat)

theorem fRd_lt : fRd w < 32 := by unfold fRd bits; omega
theorem fRs_lt : fRs w < 32 := by unfold fRs bits; omega
theorem fRt_lt : fRt w < 32 := by unfold fRt bits; omega
theorem fPd_lt : fPd w < 8 := by unfold fPd bits; omega
theorem fPs_lt : fPs w < 8 := by unfold fPs bits; omega
theorem fImm5_lt : fImm5 w < 32 := by unfold fImm5 bits; omega

end Fields

section Words

variable {w : Word}

/-- A word is what its fields encode, in each of the formats. -/
theorem encA_of_fields {m f : Nat} (hm : fMajor w.toNat = m) (hf : fFunc w.toNat = f) :
    encA m (fRd w.toNat) (fRs w.toNat) (fRt w.toNat) f = w := by
  subst hm hf
  apply BitVec.eq_of_toNat_eq
  have h := w.isLt
  simp only [encA, fMajor, fRd, fRs, fRt, fFunc, bits, BitVec.toNat_ofNat]
  omega

theorem encI_of_fields {m : Nat} (hm : fMajor w.toNat = m) :
    encI m (fRd w.toNat) (fRs w.toNat) (fImm w.toNat) = w := by
  subst hm
  apply BitVec.eq_of_toNat_eq
  have h := w.isLt
  simp only [encI, fMajor, fRd, fRs, fImm, bits, BitVec.toNat_ofNat]
  omega

theorem encP_of_fields {sub : Nat} (hm : fMajor w.toNat = 0x28) (hs : fPsub w.toNat = sub) :
    encP (fPd w.toNat) (fPs w.toNat) sub (fImm w.toNat).toNat = w := by
  subst hs
  apply BitVec.eq_of_toNat_eq
  have h := w.isLt
  simp only [fMajor, bits] at hm
  simp only [encP, fPd, fPs, fPsub, fImm, bits, BitVec.toNat_ofNat]
  omega

theorem encS_of_fields {sub : Nat} (hm : fMajor w.toNat = 0x38) (hs : fSub w.toNat = sub) :
    encS (fRd w.toNat) (fRs w.toNat) (fRt w.toNat) (fImm5 w.toNat) sub = w := by
  subst hs
  apply BitVec.eq_of_toNat_eq
  have h := w.isLt
  simp only [fMajor, bits] at hm
  simp only [encS, fRd, fRs, fRt, fImm5, fSub, bits, BitVec.toNat_ofNat]
  omega

theorem encB_of_fields {m : Nat} {c : Cond} (hm : fMajor w.toNat = m) (hc : encodeCond c = fCond w.toNat) :
    encB m c (fOff w.toNat) = w := by
  subst hm
  apply BitVec.eq_of_toNat_eq
  have h := w.isLt
  simp only [encB, hc, fMajor, fCond, fOff, bits, BitVec.toNat_ofNat]
  omega

/-- A code that stands for a condition is that condition's (R66). -/
theorem encodeCond_of_decodeCond {n : Nat} {c : Cond} (h : decodeCond n = some c) :
    c.wf = true ∧ encodeCond c = n := by
  unfold decodeCond at h
  split at h
  all_goals cases h
  all_goals exact ⟨rfl, rfl⟩

end Words

/-! What each sub-decoder reads is well formed and has the word it was read from. -/

section Decoders

variable {t : Nat} (ht : t < 16) {w : Word} {i : Instr}
include ht

theorem decode00_sound (hm : fMajor w.toNat = 0) (h : decode00 t w.toNat = some i) :
    i.wf = true ∧ encodeWord i = some w := by
  have := fRd_lt w.toNat
  have := fRs_lt w.toNat
  have := fRt_lt w.toNat
  unfold decode00 at h
  dsimp only at h
  split at h
  all_goals simp only [only_eq_some, Option.some.injEq, reduceCtorEq] at h
  all_goals
    rename_i hf
    have hw := encA_of_fields hm hf
    rcases h with ⟨rfl, hc⟩
    simp_all [Instr.wf, encodeWord]

theorem decode01_sound (hm : fMajor w.toNat = 1) (h : decode01 t w.toNat = some i) :
    i.wf = true ∧ encodeWord i = some w := by
  have := fRd_lt w.toNat
  have := fRs_lt w.toNat
  have := fRt_lt w.toNat
  unfold decode01 at h
  dsimp only at h
  split at h
  all_goals simp only [only_eq_some, reduceCtorEq] at h
  all_goals
    rename_i hf
    have hw := encA_of_fields hm hf
    rcases h with ⟨rfl, hc⟩
    simp_all [Instr.wf, encodeWord]

theorem decode02_sound (hm : fMajor w.toNat = 2) (h : decode02 t w.toNat = some i) :
    i.wf = true ∧ encodeWord i = some w := by
  have := fRd_lt w.toNat
  have := fRs_lt w.toNat
  have := fRt_lt w.toNat
  unfold decode02 at h
  dsimp only at h
  split at h
  all_goals simp only [only_eq_some, reduceCtorEq] at h
  all_goals
    rename_i hf
    have hw := encA_of_fields hm hf
    rcases h with ⟨rfl, hc⟩
    simp_all [Instr.wf, encodeWord]

theorem decode28_sound (hm : fMajor w.toNat = 0x28) (h : decode28 t w.toNat = some i) :
    i.wf = true ∧ encodeWord i = some w := by
  have := fPd_lt w.toNat
  have := fPs_lt w.toNat
  unfold decode28 at h
  dsimp only at h
  split at h
  all_goals simp only [only_eq_some, Option.some.injEq, reduceCtorEq] at h
  all_goals
    rename_i hf
    have hw := encP_of_fields hm hf
    rcases h with ⟨rfl, hc⟩
    simp_all [Instr.wf, encodeWord]

theorem decode38_sound (hm : fMajor w.toNat = 0x38) (h : decode38 t w.toNat = some i) :
    i.wf = true ∧ encodeWord i = some w := by
  have := fRd_lt w.toNat
  have := fRs_lt w.toNat
  have := fRt_lt w.toNat
  have := fImm5_lt w.toNat
  unfold decode38 at h
  dsimp only at h
  split at h
  all_goals simp only [only_eq_some, reduceCtorEq] at h
  all_goals
    rename_i hf
    have hw := encS_of_fields hm hf
    rcases h with ⟨rfl, hc⟩
    simp_all [Instr.wf, encodeWord]

/-- Each sub-decoder is sound; the majors without one are those of formats I and B. -/
theorem decodeWord_sound (h : decodeWord t w = some i) : i.wf = true ∧ encodeWord i = some w := by
  have := fRd_lt w.toNat
  have := fRs_lt w.toNat
  unfold decodeWord at h
  dsimp only at h
  split at h
  all_goals rename_i hm
  case h_1 => exact decode00_sound ht hm h
  case h_2 => exact decode01_sound ht hm h
  case h_3 => exact decode02_sound ht hm h
  case h_28 => exact decode28_sound ht hm h
  case h_31 => exact decode38_sound ht hm h
  case h_29 | h_30 =>
    obtain ⟨c, hc, rfl⟩ := Option.map_eq_some_iff.mp h
    obtain ⟨hwf, he⟩ := encodeCond_of_decodeCond hc
    simp [Instr.wf, encodeWord, ht, hwf, encB_of_fields hm he]
  all_goals simp only [only_eq_some, Option.some.injEq, reduceCtorEq] at h
  all_goals
    have hw := encI_of_fields hm
    rcases h with ⟨rfl, hc⟩
    simp_all [Instr.wf, encodeWord]

end Decoders

/-- Settles O6: what a word decodes to is well formed and has that word. -/
theorem encodeOfDecode : Obligations.EncodeOfDecode := fun _ ht _ _ => decodeWord_sound ht

end Sys2Proof

namespace Sys2Proof.Machine

/-! The Mint codec (R204, R205): a token the coder writes is read back, and the runs it names are runs of the line. -/

/-- A token's header byte, and the length byte of a long run, give its operation and its length. -/
theorem tokenHead_reads {op n : Nat} (hop : op < 4) (hn : 1 ≤ n) (hmax : n ≤ 4096) (bs : List Byte) :
    ∃ (t : Byte) (more : List Byte), tokenHead op n ++ bs = t :: more ∧ t.toNat / 64 = op ∧
      tokenLen t.toNat more = some (n, bs) := by
  unfold tokenHead
  split
  next hshort =>
    have ht : (BitVec.ofNat 8 (op * 64 + (n - 1))).toNat = op * 64 + (n - 1) := by
      rw [BitVec.toNat_ofNat]; omega
    refine ⟨_, bs, rfl, by omega, ?_⟩
    unfold tokenLen
    rw [ht, if_pos (by omega)]
    congr 2
    omega
  next hlong =>
    have ht : (BitVec.ofNat 8 (op * 64 + 32 + (n - 1) / 256)).toNat = op * 64 + 32 + (n - 1) / 256 := by
      rw [BitVec.toNat_ofNat]; omega
    have hl : (BitVec.ofNat 8 ((n - 1) % 256)).toNat = (n - 1) % 256 := by
      rw [BitVec.toNat_ofNat]; omega
    refine ⟨_, BitVec.ofNat 8 ((n - 1) % 256) :: bs, rfl, by omega, ?_⟩
    unfold tokenLen
    rw [ht, if_neg (by omega)]
    simp only [hl]
    congr 2
    omega

theorem copyRun_le_length : ∀ cur prev : List Nat, copyRun cur prev ≤ cur.length
  | [], _ => Nat.zero_le _
  | _ :: _, [] => Nat.zero_le _
  | a :: as, b :: bs => by
    have := copyRun_le_length as bs
    simp only [copyRun, List.length_cons]
    split <;> omega

/-- A COPY run repeats the line above. -/
theorem take_copyRun : ∀ cur prev : List Nat, prev.take (copyRun cur prev) = cur.take (copyRun cur prev)
  | [], _ => rfl
  | _ :: _, [] => rfl
  | a :: as, b :: bs => by
    simp only [copyRun]
    split
    next h => rw [List.take_succ_cons, List.take_succ_cons, take_copyRun as bs, h]
    next => rfl

theorem sameRun_le_length (v : Nat) : ∀ l : List Nat, sameRun v l ≤ l.length
  | [] => Nat.zero_le _
  | a :: as => by
    have := sameRun_le_length v as
    simp only [sameRun, List.length_cons]
    split <;> omega

theorem take_sameRun (v : Nat) : ∀ l : List Nat, l.take (sameRun v l) = List.replicate (sameRun v l) v
  | [] => rfl
  | a :: as => by
    simp only [sameRun]
    split
    next h => rw [List.take_succ_cons, take_sameRun v as, List.replicate_succ, h]
    next => rfl

theorem repeatRun_le_length : ∀ l : List Nat, repeatRun l ≤ l.length
  | [] => Nat.zero_le _
  | a :: as => Nat.succ_le_succ (sameRun_le_length a as)

/-- A REPEAT run repeats its first level. -/
theorem take_repeatRun : ∀ l : List Nat, l.take (repeatRun l) = List.replicate (repeatRun l) (l.headD 0)
  | [] => rfl
  | a :: as => by
    rw [repeatRun, List.take_succ_cons, take_sameRun, List.replicate_succ]
    rfl

theorem literalRun_le_length : ∀ cur prev : List Nat, literalRun cur prev ≤ cur.length
  | [], _ => Nat.zero_le _
  | _ :: _, [] => Nat.zero_le _
  | a :: as, b :: bs => by
    have := literalRun_le_length as bs
    simp only [literalRun, List.length_cons]
    split <;> omega

/-- Where neither run reaches 4 a LITERAL takes at least one pixel. -/
theorem literalRun_pos {cur prev : List Nat} (hc : copyRun cur prev < 4) (hr : repeatRun cur < 4) (h0 : cur ≠ [])
    (hlen : cur.length = prev.length) : 1 ≤ literalRun cur prev := by
  cases cur with
  | nil => exact absurd rfl h0
  | cons a as =>
    cases prev with
    | nil => simp at hlen
    | cons b bs => rw [literalRun, if_neg (by omega)]; omega

/-! Packed levels (R202). -/

theorem length_packLevels : ∀ ls : List Nat, (packLevels ls).length = (ls.length + 1) / 2
  | [] => rfl
  | [_] => by simp [packLevels]
  | a :: b :: ls => by
    simp only [packLevels, List.length_cons, length_packLevels ls]
    omega

/-- Unpacking gives the packed levels back, with a 0 behind an odd number of them. -/
theorem unpackLevels_packLevels : ∀ ls : List Nat, (∀ v, v ∈ ls → v < 16) →
    unpackLevels (packLevels ls) = ls ++ List.replicate (ls.length % 2) 0
  | [], _ => rfl
  | [a], h => by
    have ha := h a (by simp)
    have hb : (BitVec.ofNat 8 (a % 16)).toNat = a := by rw [BitVec.toNat_ofNat]; omega
    rw [packLevels, unpackLevels, hb, Nat.mod_eq_of_lt ha, Nat.div_eq_of_lt ha]
    rfl
  | a :: b :: ls, h => by
    have ha := h a (by simp)
    have hb := h b (by simp)
    have hv : (BitVec.ofNat 8 (a % 16 + 16 * (b % 16))).toNat = a + 16 * b := by rw [BitVec.toNat_ofNat]; omega
    have ih := unpackLevels_packLevels ls fun v hm => h v (by simp [hm])
    have hlen : (a :: b :: ls).length % 2 = ls.length % 2 := by simp only [List.length_cons]; omega
    rw [packLevels, unpackLevels, hv, ih, hlen, show (a + 16 * b) % 16 = a by omega, show (a + 16 * b) / 16 = b by omega]
    rfl

/-- A LITERAL reads back the levels that were packed. -/
theorem literal_packLevels {ls : List Nat} (h : ∀ v, v ∈ ls → v < 16) (bs : List Byte) :
    literal ls.length (packLevels ls ++ bs) = some (ls, bs) := by
  have hk : (packLevels ls).length = (ls.length + 1) / 2 := length_packLevels ls
  have hpad : ls.length % 2 = 1 → (ls ++ List.replicate (ls.length % 2) 0).getD ls.length 0 = 0 := by
    intro hodd
    simp [List.getD, hodd]
  simp only [literal]
  rw [if_neg (by rw [List.length_append]; omega), ← hk, List.take_left, List.drop_left, unpackLevels_packLevels ls h,
    if_neg (by rintro ⟨hodd, hne⟩; exact hne (hpad hodd)), List.take_left]

/-! One token of each operation (R204). -/

section Tokens

variable {prev : List Nat} {x n : Nat} (hn : 1 ≤ n) (hx : x + n ≤ 4096) (bs : List Byte)
include hn hx

theorem token_copy : token prev x (tokenHead 0 n ++ bs) = some ((prev.drop x).take n, bs) := by
  obtain ⟨t, more, hhead, hop, hlen⟩ := tokenHead_reads (op := 0) (by decide) hn (by omega) bs
  rw [hhead, token, hlen]
  simp only [hop]
  rw [if_neg (by omega), if_pos trivial]

theorem token_repeat {v : Nat} (hv : v < 16) :
    token prev x (tokenHead 1 n ++ BitVec.ofNat 8 v :: bs) = some (List.replicate n v, bs) := by
  obtain ⟨t, more, hhead, hop, hlen⟩ := tokenHead_reads (op := 1) (by decide) hn (by omega) (BitVec.ofNat 8 v :: bs)
  have hb : (BitVec.ofNat 8 v).toNat = v := by rw [BitVec.toNat_ofNat]; omega
  rw [hhead, token, hlen]
  simp only [hop, hb]
  rw [if_neg (by omega), if_neg (by decide), if_pos trivial, if_neg (by omega)]

theorem token_literal : token prev x (tokenHead 2 n ++ bs) = literal n bs := by
  obtain ⟨t, more, hhead, hop, hlen⟩ := tokenHead_reads (op := 2) (by decide) hn (by omega) bs
  rw [hhead, token, hlen]
  simp only [hop]
  rw [if_neg (by omega), if_neg (by decide), if_neg (by decide)]

end Tokens

/-- A token that gives the first `n` levels of a line, before a body that gives the others, gives the line. -/
theorem decodeLine_of_token {prev cur : List Nat} {x n fuel : Nat} {bs more rest : List Byte} (hx : x + cur.length = 4096)
    (hn : 1 ≤ n) (hle : n ≤ cur.length) (htok : token prev x bs = some (cur.take n, more))
    (hmore : decodeLine prev (x + n) more fuel = some (cur.drop n, rest)) :
    decodeLine prev x bs (fuel + 1) = some (cur, rest) := by
  have hlen : (cur.take n).length = n := List.length_take_of_le hle
  rw [decodeLine, if_neg (by omega), htok]
  simp only [hlen, hmore, List.take_append_drop]

/-- The rest of a line, coded against the rest of the line above from pixel `x`, decodes to itself: each token gives the
run it was written for, and the induction goes on behind it. -/
theorem decodeLine_codeLine (prev : List Nat) (rest : List Byte) (hprev : prev.length = 4096) :
    ∀ (fuel : Nat) (cur : List Nat) (x : Nat), x + cur.length = 4096 → cur.length ≤ fuel → (∀ v, v ∈ cur → v < 16) →
      decodeLine prev x (codeLine cur (prev.drop x) fuel ++ rest) fuel = some (cur, rest)
  | 0, cur, x, hx, hf, _ => by
    obtain rfl : cur = [] := List.length_eq_zero_iff.mp (by omega)
    rw [decodeLine, if_pos (by simpa using hx)]
    rfl
  | fuel + 1, cur, x, hx, hf, hlev => by
    by_cases h0 : cur = []
    · subst h0
      rw [decodeLine, if_pos (by simpa using hx)]
      rfl
    have go (n : Nat) (hn : 1 ≤ n) (hle : n ≤ cur.length) :
        decodeLine prev (x + n) (codeLine (cur.drop n) ((prev.drop x).drop n) fuel ++ rest) fuel = some (cur.drop n, rest) := by
      rw [List.drop_drop]
      exact decodeLine_codeLine prev rest hprev fuel (cur.drop n) (x + n) (by rw [List.length_drop]; omega)
        (by rw [List.length_drop]; omega) fun v hv => hlev v (List.mem_of_mem_drop hv)
    have hlen : cur.length = (prev.drop x).length := by rw [List.length_drop]; omega
    simp only [codeLine]
    rw [if_neg h0]
    split
    next hcopy =>
      have hle := copyRun_le_length cur (prev.drop x)
      refine decodeLine_of_token hx (by omega) hle ?_ (go _ (by omega) hle)
      rw [List.append_assoc, token_copy (by omega) (by omega), take_copyRun]
    next hcopy =>
      split
      next hrep =>
        have hle := repeatRun_le_length cur
        have hhead : cur.headD 0 < 16 := by
          cases cur with
          | nil => exact absurd rfl h0
          | cons a as => exact hlev a (by simp)
        refine decodeLine_of_token hx (by omega) hle ?_ (go _ (by omega) hle)
        rw [List.append_assoc, List.cons_append, token_repeat (by omega) (by omega) _ hhead, take_repeatRun]
      next hrep =>
        have hle := literalRun_le_length cur (prev.drop x)
        have hpos : 1 ≤ literalRun cur (prev.drop x) := literalRun_pos (by omega) (by omega) h0 hlen
        refine decodeLine_of_token hx hpos hle ?_ (go _ hpos hle)
        have hlit := literal_packLevels (ls := cur.take (literalRun cur (prev.drop x)))
          (fun v hv => hlev v (List.mem_of_mem_take hv))
        rw [List.length_take_of_le hle] at hlit
        rw [List.append_assoc, List.append_assoc, token_literal hpos (by omega), hlit]

/-- Settles O48: the whole line is the rest of it from pixel 0. -/
theorem mintLineRoundTrip : Obligations.MintLineRoundTrip := by
  intro cur prev rest hcur hprev hlev
  exact decodeLine_codeLine prev rest hprev 4096 cur 0 (by omega) (by omega) hlev

end Sys2Proof.Machine

namespace Sys2Proof.Machine

/-! The integer, compare and immediate instructions: the shapes they share, and their results in the statement's spelling
(R68, R69, R74). -/

section IntegerShapes

variable {s : State} {t : Nat} (h : s.runs t = true)
include h

theorem alu_of_runs (rd rs rt c : Nat) (f : Word → Word → Word) :
    alu t rd rs rt c f s = .next (s.putG t rd (f ((s.teller t).getG rs) ((s.teller t).getG rt)) c) :=
  congrArg Host.Outcome.next (execR_eq_mapTeller h rfl)

theorem aluImm_of_runs (rd rs : Nat) (f : Word → Word) :
    aluImm t rd rs f s = .next (s.putG t rd (f ((s.teller t).getG rs)) 1) :=
  congrArg Host.Outcome.next (execR_eq_mapTeller h rfl)

theorem cmpG_of_runs (qd rs rt : Nat) (f : Word → Word → Bool) :
    cmpG t qd rs rt f s = .next (s.putQ t qd (f ((s.teller t).getG rs) ((s.teller t).getG rt))) :=
  congrArg Host.Outcome.next (execR_eq_mapTeller h rfl)

theorem cmpImm_of_runs (qd rs : Nat) (f : Word → Bool) :
    cmpImm t qd rs f s = .next (s.putQ t qd (f ((s.teller t).getG rs))) :=
  congrArg Host.Outcome.next (execR_eq_mapTeller h rfl)

theorem predOp_of_runs (qd qs qt : Nat) (f : Bool → Bool → Bool) :
    predOp t qd qs qt f s = .next (s.putQ t qd (f ((s.teller t).getQ qs) ((s.teller t).getQ qt))) :=
  congrArg Host.Outcome.next (execR_eq_mapTeller h rfl)

/-- A division counts a zero divisor and writes its result all the same. -/
theorem aluDiv_of_runs (rd rs rt : Nat) (f : Word → Word → Word) :
    aluDiv t rd rs rt f s = .next ((if (s.teller t).getG rt = 0 then s.inc (TLR_DIVZ_COUNT t) else s).putG t rd
      (f ((s.teller t).getG rs) ((s.teller t).getG rt)) 18) := by
  simp only [aluDiv, execI_of_runs h]
  split <;> rfl

end IntegerShapes

/-! Minima, maxima and saturation. -/

section Results

variable (a b : Word)

theorem minS_eq : minS a b = if a.slt b then a else b := by
  simp only [minS, BitVec.slt, decide_eq_true_eq]
  split <;> split
  · rfl
  · exact BitVec.eq_of_toInt_eq (by omega)
  · omega
  · rfl

theorem maxS_eq : maxS a b = if a.slt b then b else a := by
  simp only [maxS, BitVec.slt, decide_eq_true_eq]
  split <;> split
  · rfl
  · exact BitVec.eq_of_toInt_eq (by omega)
  · omega
  · rfl

theorem minU_eq : minU a b = if a.ult b then a else b := by
  simp only [minU, BitVec.ult, decide_eq_true_eq]
  split <;> split
  · rfl
  · exact BitVec.eq_of_toNat_eq (by omega)
  · omega
  · rfl

theorem maxU_eq : maxU a b = if a.ult b then b else a := by
  simp only [maxU, BitVec.ult, decide_eq_true_eq]
  split <;> split
  · rfl
  · exact BitVec.eq_of_toNat_eq (by omega)
  · omega
  · rfl

/-- A clamped value is one of the ends, or the value itself. -/
theorem ofInt_clampS_32 (x : Int) : BitVec.ofInt 32 (clampS 32 x) =
    if x > 0x7FFFFFFF then 0x7FFFFFFF else if x < -0x80000000 then 0x80000000 else BitVec.ofInt 32 x := by
  simp only [clampS]
  split
  · rw [if_neg (by omega), if_pos (by omega)]; rfl
  · split
    · rw [if_pos (by omega)]; rfl
    · rw [if_neg (by omega), if_neg (by omega)]

theorem addSat_eq : addSat a b = if a.toInt + b.toInt > 0x7FFFFFFF then 0x7FFFFFFF
    else if a.toInt + b.toInt < -0x80000000 then 0x80000000 else a + b := by
  rw [addSat, ofInt_clampS_32, BitVec.ofInt_add, BitVec.ofInt_toInt, BitVec.ofInt_toInt]

theorem subSat_eq : subSat a b = if a.toInt - b.toInt > 0x7FFFFFFF then 0x7FFFFFFF
    else if a.toInt - b.toInt < -0x80000000 then 0x80000000 else a - b := by
  have hsub : BitVec.ofInt 32 (a.toInt - b.toInt) = a - b :=
    BitVec.eq_of_toInt_eq (by rw [BitVec.toInt_ofInt, BitVec.toInt_sub])
  rw [subSat, ofInt_clampS_32, hsub]

/-! Division. -/

theorem divU_eq : divU a b = if b = 0 then 0 else BitVec.ofNat 32 (a.toNat / b.toNat) := by
  split
  next h => simp [divU, h]
  next => rfl

/-- The one signed quotient that does not fit 32 bits is that of the least number and −1. -/
theorem tdiv_le_of_ne (h : ¬ (a = 0x80000000 ∧ b = 0xFFFFFFFF)) :
    -0x80000000 ≤ a.toInt.tdiv b.toInt ∧ a.toInt.tdiv b.toInt ≤ 0x7FFFFFFF := by
  have hlo := BitVec.le_toInt a
  have hhi := BitVec.toInt_lt (x := a)
  have hq : (a.toInt.tdiv b.toInt).natAbs = a.toInt.natAbs / b.toInt.natAbs := Int.natAbs_tdiv ..
  have hle : a.toInt.natAbs / b.toInt.natAbs ≤ a.toInt.natAbs := Nat.div_le_self ..
  refine ⟨by omega, ?_⟩
  by_contra hbig
  have hone : b.toInt.natAbs = 1 := by
    by_contra hb
    have : a.toInt.natAbs / b.toInt.natAbs ≤ a.toInt.natAbs / 2 := by
      rcases Nat.eq_zero_or_pos b.toInt.natAbs with h0 | h0
      · rw [h0, Nat.div_zero]; omega
      · exact Nat.div_le_div_left (by omega) (by decide)
    omega
  rcases Int.natAbs_eq b.toInt with hb | hb <;> rw [hone] at hb <;> rw [hb] at hbig
  · rw [Int.natCast_one, Int.tdiv_one] at hbig
    omega
  · rw [Int.natCast_one, Int.tdiv_neg, Int.tdiv_one] at hbig
    exact h ⟨BitVec.eq_of_toInt_eq (by rw [show (0x80000000 : Word).toInt = -0x80000000 by decide]; omega),
      BitVec.eq_of_toInt_eq (by rw [hb]; decide)⟩

theorem divS_eq : divS a b = if b = 0 then 0 else if a = 0x80000000 ∧ b = 0xFFFFFFFF then 0x7FFFFFFF
    else BitVec.ofInt 32 (a.toInt.tdiv b.toInt) := by
  unfold divS
  split
  · rfl
  · split
    next h => obtain ⟨rfl, rfl⟩ := h; decide
    next h =>
      have := tdiv_le_of_ne a b h
      rw [ofInt_clampS_32, if_neg (by omega), if_neg (by omega)]

end Results

/-! Counting bits. -/

/-- Below the leading zeros of the low `n` bits stands a 1. -/
theorem clzN_spec (v : Nat) : ∀ n, clzN v n ≤ n ∧ (∀ i, n - clzN v n ≤ i → i < n → v.testBit i = false) ∧
    (clzN v n < n → v.testBit (n - 1 - clzN v n) = true)
  | 0 => ⟨Nat.le_refl 0, fun _ _ h => absurd h (Nat.not_lt_zero _), fun h => absurd h (Nat.not_lt_zero _)⟩
  | n + 1 => by
    obtain ⟨hle, hzero, hone⟩ := clzN_spec v n
    cases hb : v.testBit n with
    | true =>
      have hc : clzN v (n + 1) = 0 := by simp [clzN, hb]
      rw [hc]
      exact ⟨Nat.zero_le _, fun i h1 h2 => by omega, fun _ => hb⟩
    | false =>
      have hc : clzN v (n + 1) = clzN v n + 1 := by simp [clzN, hb]
      rw [hc]
      refine ⟨by omega, fun i h1 h2 => ?_, fun h => ?_⟩
      · rcases Nat.lt_succ_iff_lt_or_eq.mp h2 with h | rfl
        · exact hzero i (by omega) h
        · exact hb
      · rw [show n + 1 - 1 - (clzN v n + 1) = n - 1 - clzN v n by omega]
        exact hone (by omega)

theorem clz_spec (a : Word) : (clz a).toNat ≤ 32 ∧ (∀ i, 32 - (clz a).toNat ≤ i → a.getLsbD i = false) ∧
    ((clz a).toNat < 32 → a.getLsbD (31 - (clz a).toNat) = true) := by
  obtain ⟨hle, hzero, hone⟩ := clzN_spec a.toNat 32
  have hc : (clz a).toNat = clzN a.toNat 32 := by rw [clz, BitVec.toNat_ofNat]; omega
  rw [hc]
  refine ⟨hle, fun i hi => ?_, hone⟩
  by_cases h : i < 32
  · exact hzero i hi h
  · exact BitVec.getLsbD_of_ge a i (by omega)

theorem popN_eq_length_filter (v : Nat) : ∀ n, popN v n = ((List.range n).filter fun i => v.testBit i).length
  | 0 => rfl
  | n + 1 => by
    rw [popN, popN_eq_length_filter v n, List.range_succ, List.filter_append, List.length_append, Nat.add_comm]
    cases hb : v.testBit n <;> simp [hb]

/-- Settles O7: each instruction has the shape `alu`, with the function of its operands that R68 gives. -/
theorem integerResults : Obligations.IntegerResults := by
  unfold Obligations.IntegerResults
  intro s t rd rs rt hrun a b gives
  have shape (c : Nat) (f : Word → Word → Word) : alu t rd rs rt c f s = .next (s.putG t rd (f a b) c) :=
    alu_of_runs hrun rd rs rt c f
  refine ⟨shape 1 _, shape 1 _, shape 1 _, shape 1 _, shape 1 _, shape 1 shl, shape 1 shr, shape 1 sar, shape 2 _,
    shape 2 mulhS, shape 2 mulhU, ?_, ?_, ?_, ?_, ?_, ?_⟩
  · exact minS_eq a b ▸ shape 1 minS
  · exact maxS_eq a b ▸ shape 1 maxS
  · exact minU_eq a b ▸ shape 1 minU
  · exact maxU_eq a b ▸ shape 1 maxU
  · exact addSat_eq a b ▸ shape 1 addSat
  · exact subSat_eq a b ▸ shape 1 subSat

/-- Settles O8: the divisions have the shape `aluDiv`; CLZ and POPC by the bits they count. -/
theorem divideSelectAndCount : Obligations.DivideSelectAndCount := by
  unfold Obligations.DivideSelectAndCount
  refine ⟨fun s t rd rs rt hrun => ?_, fun s t n rd rs rt hrun => ?_⟩
  · intro a b counted gives
    have shape (f : Word → Word → Word) : aluDiv t rd rs rt f s = .next (counted.putG t rd (f a b) 18) :=
      aluDiv_of_runs hrun rd rs rt f
    exact ⟨divU_eq a b ▸ shape divU, shape remU, divS_eq a b ▸ shape divS, shape remS⟩
  · intro x a
    refine ⟨congrArg Host.Outcome.next (execR_eq_mapTeller hrun rfl),
      ⟨clz a, aluImm_of_runs hrun rd rs clz, clz_spec a⟩, ?_⟩
    exact popN_eq_length_filter a.toNat 32 ▸ aluImm_of_runs hrun rd rs popc

theorem decide_ne_eq_bne (a b : Word) : decide (a ≠ b) = (a != b) := by
  by_cases h : a = b <;> simp [h]

/-- Settles O9: each compare has one of the shapes above. -/
theorem predicateResults : Obligations.PredicateResults := by
  unfold Obligations.PredicateResults
  intro s t qd rs rt imm hrun x a b u v gives
  have cmp (f : Word → Word → Bool) : cmpG t qd rs rt f s = .next (s.putQ t qd (f a b)) := cmpG_of_runs hrun qd rs rt f
  have pcmp (f : Pos → Pos → Bool) : cmpP t qd rs rt f s = .next (s.putQ t qd (f u v)) := cmpP_of_runs hrun qd rs rt f
  have pred := predOp_of_runs hrun qd rs rt
  have imm' (f : Word → Bool) : cmpImm t qd rs f s = .next (s.putQ t qd (f a)) := cmpImm_of_runs hrun qd rs f
  refine ⟨cmp fun a b => decide (a = b), ?_, cmp ltS, cmp fun a b => ! ltS a b,
    cmp ltU, cmp fun a b => ! ltU a b, pred _, pred _, pred _,
    predOp_of_runs hrun qd rs rs fun a _ => ! a, pcmp fun a b => decide (a = b), pcmp fun a b => decide (a.toNat < b.toNat), ?_,
    imm' fun a => decide (a = sext16 imm), imm' fun a => ltS a (sext16 imm), imm' fun a => ltU a (zext16 imm)⟩
  · exact decide_ne_eq_bne a b ▸ cmp fun a b => decide (a ≠ b)
  · exact decide_toNat_le_eq_not_ult u v ▸ pcmp fun a b => decide (b.toNat ≤ a.toNat)

/-- LDHI's value: the immediate over 16 zero bits. -/
theorem zext16_shiftLeft_16 (imm : BitVec 16) : zext16 imm <<< 16 = imm ++ (0 : BitVec 16) := by
  apply BitVec.eq_of_toNat_eq
  have := imm.isLt
  rw [BitVec.toNat_shiftLeft, BitVec.toNat_append]
  simp [zext16, Nat.shiftLeft_eq]
  omega

/-- Settles O10: each immediate form has the shape `aluImm`; a shift amount below 32 is its own low five bits. -/
theorem immediateResults : Obligations.ImmediateResults := by
  unfold Obligations.ImmediateResults
  intro s t rd rs sh imm hrun hsh a gives
  have shape (f : Word → Word) : aluImm t rd rs f s = .next (s.putG t rd (f a) 1) := aluImm_of_runs hrun rd rs f
  have amount : (BitVec.ofNat 32 sh).toNat % 32 = sh := by rw [BitVec.toNat_ofNat]; omega
  have shifted (f : Word → Nat → Word) : aluImm t rd rs (fun a => f a ((BitVec.ofNat 32 sh).toNat % 32)) s
      = .next (s.putG t rd (f a sh) 1) := by rw [amount]; exact shape fun a => f a sh
  exact ⟨shape (· + sext16 imm), shape (· &&& zext16 imm), shape (· ||| zext16 imm), shape (· ^^^ zext16 imm),
    zext16_shiftLeft_16 imm ▸ aluImm_of_runs hrun rd 0 fun _ => zext16 imm <<< 16,
    shifted fun a n => a <<< n, shifted fun a n => a >>> n, shifted BitVec.sshiftRight⟩

/-! What a register-only instruction does, said once: its teller's destination takes some value, PC and CYC go on. -/

/-- `y` is the teller `x` with at most the destination written. -/
def Dest.Written (x y : Teller) : Dest → Prop
  | .g r => ∃ v, y = x.setG r v
  | .p r => ∃ v, y = x.setP r v
  | .q r => ∃ v, y = x.setQ r v

theorem exec_regOnly {s : State} {i : Instr} {t : Nat} {d : Dest} (hi : regOnly i = some (t, d)) (hrun : s.runs t = true) :
    ∃ y c, d.Written (s.teller t) y ∧ exec i s = .next (s.setTeller t (y.adv c)) := by
  unfold regOnly at hi
  split at hi
  all_goals cases hi
  all_goals exact ⟨_, _, ⟨_, rfl⟩, congrArg Host.Outcome.next (execR_of_runs hrun _)⟩

/-- A destination written leaves every other register and the rest of the teller. -/
theorem Dest.Written.frame {x y : Teller} {d : Dest} (h : d.Written x y) :
    (∀ r, d ≠ .g r → y.getG r = x.getG r) ∧ (∀ r, d ≠ .p r → y.getP r = x.getP r) ∧
    (∀ r, d ≠ .q r → y.getQ r = x.getQ r) ∧ y.pc = x.pc ∧ y.cyc = x.cyc ∧ { y with g := x.g, p := x.p, q := x.q } = x := by
  cases d with
  | g n =>
    obtain ⟨v, rfl⟩ := h
    by_cases h0 : n = 0
    · subst h0; simp
    · refine ⟨fun r hr => getG_setG_ne x v fun e => hr (by rw [e]), ?_⟩
      simp [Teller.setG, h0, Teller.getP, Teller.getQ]
  | p n =>
    obtain ⟨v, rfl⟩ := h
    exact ⟨fun _ _ => rfl, fun r hr => getP_setP_ne x v fun e => hr (by rw [e]), fun _ _ => rfl, rfl, rfl, rfl⟩
  | q n =>
    obtain ⟨v, rfl⟩ := h
    exact ⟨fun _ _ => rfl, fun _ _ => rfl, fun r hr => getQ_setQ_ne x v fun e => hr (by rw [e]), rfl, rfl, rfl⟩

/-- Settles O12: a register-only instruction sets one teller, whose destination alone is written. -/
theorem registerFrameAndZero : Obligations.RegisterFrameAndZero := by
  unfold Obligations.RegisterFrameAndZero
  refine ⟨fun s s' i t d hi hrun hs' => ?_, fun x r u v =>
    ⟨getG_zero x, setG_zero x v, fun hr => ⟨getG_setG_same x v hr, getG_setG_ne x v⟩⟩⟩
  obtain ⟨y, c, hy, hexec⟩ := exec_regOnly hi hrun
  obtain ⟨hg, hp, hq, hpc, hcyc, hrest⟩ := hy.frame
  obtain rfl : s.setTeller t (y.adv c) = s' := Host.Outcome.next.inj (hexec.symm.trans hs')
  refine ⟨rfl, fun u hu => teller_setTeller_ne s _ hu, ?_⟩
  simp only [teller_setTeller_same, getG_adv, getP_adv, getQ_adv]
  refine ⟨hg, hp, hq, congrArg (· + 4) hpc, ?_⟩
  rw [← hpc, ← hcyc] 
  exact hrest

end Sys2Proof.Machine

namespace Sys2Proof.Machine

/-! Frames: what an operation leaves of the memories, the orders and the published position. -/

/-- The memories with their check bits, the ledger's orders and the published position: what few operations write. -/
structure Kept where
  pm : Memory
  dm : Memory
  dram : Memory
  pmErr : Tab Nat
  dmErr : Tab Nat
  orders : Tab (Option Order)
  out : Nat

def State.kept (s : State) : Kept := ⟨s.pm, s.dm, s.dram, s.pmErr, s.dmErr, s.orders, s.pos.out⟩

/-- The command ends in a next state that has them as they were. -/
def Calm (s : State) (o : Host.Outcome State Fault Refusal) : Prop := ∃ u, o = .next u ∧ u.kept = s.kept

@[simp] theorem calm_next {s u : State} : Calm s (.next u) ↔ u.kept = s.kept := by simp [Calm]

@[simp] theorem kept_mk {regs tellers pm dm pmErr dmErr cmps armSeq stream wrrNow orders books locks esc pos time held modOpen modPend incidents viols links peers mirror claims inbox posted mbw mbr bodies mbCmd loading pwr scan refs head expo store dma dram plant keys fwRollback hellos dly fec tap flash images freeCtr out pending} : (State.mk regs tellers pm dm pmErr dmErr cmps armSeq stream wrrNow orders books locks esc pos time held modOpen modPend incidents viols links peers mirror claims inbox posted mbw mbr bodies mbCmd loading pwr scan refs head expo store dma dram plant keys fwRollback hellos dly fec tap flash images freeCtr out pending).kept = ⟨pm, dm, dram, pmErr, dmErr, orders, pos.out⟩ := rfl

@[simp] theorem kept_fold (s : State) : Kept.mk s.pm s.dm s.dram s.pmErr s.dmErr s.orders s.pos.out = s.kept := rfl

@[simp] theorem kept_ite (c : Prop) [Decidable c] (s t : State) : (if c then s else t).kept = if c then s.kept else t.kept := apply_ite _ c s t

@[simp] theorem kept_foldl {α : Type} {f : State → α → State} (h : ∀ u a, (f u a).kept = u.kept) (l : List α) (s : State) :
    (l.foldl f s).kept = s.kept := by
  induction l generalizing s with
  | nil => rfl
  | cons a l ih => rw [List.foldl_cons, ih, h]

@[simp] theorem kept_setFld (s : State) (f : Field) (v : Nat) : (s.setFld f v).kept = s.kept := by
  simp [State.setFld]

@[simp] theorem kept_setOn (s : State) (f : Field) : (s.setOn f).kept = s.kept := by
  simp [State.setOn]

@[simp] theorem kept_setOff (s : State) (f : Field) : (s.setOff f).kept = s.kept := by
  simp [State.setOff]

@[simp] theorem kept_setBool (s : State) (f : Field) (b : Bool) : (s.setBool f b).kept = s.kept := by
  simp [State.setBool]

@[simp] theorem kept_inc (s : State) (f : Field) : (s.inc f).kept = s.kept := by
  simp [State.inc]

@[simp] theorem kept_incBy (s : State) (f : Field) (n : Nat) : (s.incBy f n).kept = s.kept := by
  simp [State.incBy]

@[simp] theorem kept_incWrap (s : State) (f : Field) : (s.incWrap f).kept = s.kept := by
  simp [State.incWrap]

@[simp] theorem kept_setFbit (s : State) (f : Field) (i : Nat) : (s.setFbit f i).kept = s.kept := by
  simp [State.setFbit]

@[simp] theorem kept_clrFbit (s : State) (f : Field) (i : Nat) : (s.clrFbit f i).kept = s.kept := by
  simp [State.clrFbit]

@[simp] theorem kept_emit (s : State) (o : Out) : (s.emit o).kept = s.kept := by
  simp [State.emit]

@[simp] theorem kept_badAcc (s : State) : s.badAcc.kept = s.kept := by
  simp [State.badAcc]

@[simp] theorem kept_atReg (s : State) (a : Nat) (f : State → State) (hf : ∀ u, (f u).kept = u.kept) : (s.atReg a f).kept = s.kept := by
  unfold State.atReg
  (repeat' split) <;> simp_all

@[simp] theorem kept_inBlock (s : State) (a : Nat) (f : State → State) (hf : ∀ u, (f u).kept = u.kept) : (s.inBlock a f).kept = s.kept := by
  unfold State.inBlock
  (repeat' split) <;> simp_all

@[simp] theorem kept_ball (s : State) (o : Out) : (s.ball o).kept = s.kept := by
  simp [State.ball]

@[simp] theorem kept_setTeller (s : State) (t : Nat) (x : Teller) : (s.setTeller t x).kept = s.kept := by
  simp [State.setTeller]

@[simp] theorem kept_mapTeller (s : State) (t : Nat) (f : Teller → Teller) : (s.mapTeller t f).kept = s.kept := by
  simp [State.mapTeller]

@[simp] theorem kept_setTev (s : State) (t bit : Nat) : (s.setTev t bit).kept = s.kept := by
  simp [State.setTev]

@[simp] theorem kept_setTevMask (s : State) (mask bit : Nat) (n : Nat) : (s.setTevMask mask bit n).kept = s.kept := by
  induction n generalizing s with
  | zero => simp [State.setTevMask]
  | succ n ih => simp [State.setTevMask, ih]

@[simp] theorem kept_free (s : State) (m : Nat) : (s.free m).2.kept = s.kept := by
  simp [State.free]

@[simp] theorem kept_msix (s : State) (vec : Nat) : (s.msix vec).kept = s.kept := by
  simp [State.msix]

@[simp] theorem kept_recordWritten (s : State) (a : Nat) : (s.recordWritten a).kept = s.kept := by
  simp [State.recordWritten]

@[simp] theorem kept_mbIrq (s : State) (a : Nat) : (s.mbIrq a).kept = s.kept := by
  simp [State.mbIrq]

@[simp] theorem kept_hostDo (s : State) (x : HostItem) : (s.hostDo x).kept = s.kept := by
  unfold State.hostDo
  split <;> simp

@[simp] theorem kept_setLink (s : State) (d : Nat) (l : Link) : (s.setLink d l).kept = s.kept := by
  simp [State.setLink]

@[simp] theorem kept_frameOut (s : State) (d : Nat) (f : RingFrame) : (s.frameOut d f).kept = s.kept := by
  simp [State.frameOut]

@[simp] theorem kept_rawOut (s : State) (d : Nat) (f : RingFrame) : (s.rawOut d f).kept = s.kept := by
  simp [State.rawOut]

@[simp] theorem kept_ringSend1 (s : State) (d : Nat) (dst : Option Nat) (m : RingMsg) : (s.ringSend1 d dst m).kept = s.kept := by
  simp [State.ringSend1]

@[simp] theorem kept_ringBoth (s : State) (dst : Option Nat) (m : RingMsg) : (s.ringBoth dst m).kept = s.kept := by
  simp [State.ringBoth]

@[simp] theorem kept_beaconOut (s : State) (b : Beacon) : (s.beaconOut b).kept = s.kept := by
  simp [State.beaconOut]

@[simp] theorem kept_linkctlOut (s : State) (d lseq : Nat) (nak : Bool) : (s.linkctlOut d lseq nak).kept = s.kept := by
  simp [State.linkctlOut]

@[simp] theorem kept_ringUni (s : State) (ep : Nat) (m : RingMsg) : (s.ringUni ep m).kept = s.kept := by
  simp [State.ringUni]

@[simp] theorem kept_mirrorSend (s : State) (teller status inst aux : Nat) (d : MirData) : (s.mirrorSend teller status inst aux d).kept = s.kept := by
  simp [State.mirrorSend]

@[simp] theorem kept_hostOut (s : State) (i : HostItem) : (s.hostOut i).kept = s.kept := by
  simp [State.hostOut]

@[simp] theorem kept_writeRecord (s : State) (a : Nat) (r : EventRec) : (s.writeRecord a r).kept = s.kept := by
  simp [State.writeRecord]

@[simp] theorem kept_setHeld (s : State) (a : Nat) (l : List EventRec) : (s.setHeld a l).kept = s.kept := by
  simp [State.setHeld]

@[simp] theorem kept_appendRecord (s : State) (a : Nat) (mk : Nat → Nat → EventRec) : (s.appendRecord a mk).kept = s.kept := by
  simp [State.appendRecord]

@[simp] theorem kept_postAt (s : State) (a type detail sub incident wpos : Nat) (stby : Bool) : (s.postAt a type detail sub incident wpos stby).kept = s.kept := by
  simp [State.postAt]

@[simp] theorem kept_postW (s : State) (a type detail sub incident wpos : Nat) : (s.postW a type detail sub incident wpos).kept = s.kept := by
  simp [State.postW]

@[simp] theorem kept_post (s : State) (a type detail sub incident : Nat) : (s.post a type detail sub incident).kept = s.kept := by
  simp [State.post]

@[simp] theorem kept_postIf (s : State) (en acct : Field) (type detail sub incident : Nat) : (s.postIf en acct type detail sub incident).kept = s.kept := by
  simp [State.postIf]

@[simp] theorem kept_msgPosted (s : State) (src dst : Nat) : (s.msgPosted src dst).kept = s.kept := by
  simp [State.msgPosted]

@[simp] theorem kept_msgDone (s : State) (src dst : Nat) : (s.msgDone src dst).kept = s.kept := by
  simp [State.msgDone]

@[simp] theorem kept_msgFail (s : State) (src dst status : Nat) : (s.msgFail src dst status).kept = s.kept := by
  simp [State.msgFail]

@[simp] theorem kept_drainHeld (s : State) (a : Nat) (n : Nat) : (s.drainHeld a n).kept = s.kept := by
  induction n generalizing s with
  | zero => rfl
  | succ n ih =>
    unfold State.drainHeld
    split
    · rfl
    · split
      · rfl
      · rw [ih]; simp

@[simp] theorem kept_setBlk (s : State) (b v : Nat) : (s.setBlk b v).kept = s.kept := by
  simp [State.setBlk]

@[simp] theorem kept_setIncident (s : State) (b : Nat) (i : Incident) : (s.setIncident b i).kept = s.kept := by
  simp [State.setIncident]

@[simp] theorem kept_newIncident (s : State) : s.newIncident.2.kept = s.kept := by
  simp [State.newIncident]

@[simp] theorem kept_postFault (s : State) (b type detail : Nat) : (s.postFault b type detail).kept = s.kept := by
  simp [State.postFault]

@[simp] theorem kept_openIncident (s : State) (b src : Nat) (given : Option Nat) : (s.openIncident b src given).kept = s.kept := by
  unfold State.openIncident
  dsimp only
  split <;> simp

@[simp] theorem kept_raiseWith (s : State) (b src : Nat) (given : Option Nat) : (s.raiseWith b src given).kept = s.kept := by
  simp [State.raiseWith]

@[simp] theorem kept_raise (s : State) (b src : Nat) : (s.raise b src).kept = s.kept := by
  simp [State.raise]

@[simp] theorem kept_violation (s : State) (iface : Nat) (en : Bool) (acct : Nat) : (s.violation iface en acct).kept = s.kept := by
  simp [State.violation]

@[simp] theorem kept_violDue (s : State) (iface : Nat) : (s.violDue iface).kept = s.kept := by
  unfold State.violDue
  dsimp only
  split <;> simp

@[simp] theorem kept_violsDue (s : State) : s.violsDue.kept = s.kept := by
  simp [State.violsDue]

@[simp] theorem kept_trapHalt (s : State) (t : Nat) (epc : Word) : (s.trapHalt t epc).kept = s.kept := by
  simp [State.trapHalt]

@[simp] theorem kept_trapWith (s : State) (t cause value : Nat) (after : Bool) : (s.trapWith t cause value after).kept = s.kept := by
  simp [State.trapWith]

@[simp] theorem kept_trap (s : State) (t cause value : Nat) : (s.trap t cause value).kept = s.kept := by
  simp [State.trap]

@[simp] theorem kept_dmCorrected (s : State) (a : Nat) (n : Nat) : (s.dmCorrected a n).kept = s.kept := by
  induction n generalizing s a with
  | zero => rfl
  | succ n ih => rw [State.dmCorrected, ih]; simp

/-! Each component of what is kept. -/

section
variable {s u : State} (h : u.kept = s.kept)
include h

theorem pm_of_kept : u.pm = s.pm := congrArg Kept.pm h
theorem dm_of_kept : u.dm = s.dm := congrArg Kept.dm h
theorem dram_of_kept : u.dram = s.dram := congrArg Kept.dram h
theorem pmErr_of_kept : u.pmErr = s.pmErr := congrArg Kept.pmErr h
theorem dmErr_of_kept : u.dmErr = s.dmErr := congrArg Kept.dmErr h
theorem orders_of_kept : u.orders = s.orders := congrArg Kept.orders h
theorem out_of_kept : u.pos.out = s.pos.out := congrArg Kept.out h

end

end Sys2Proof.Machine

namespace Sys2Proof.Machine

/-! Data memory under the teller's accesses: the words an access touches, what a store writes, and the loads, stores and
atomic operations in the statements' spelling (R62, R68, R74, R88). -/

/-! Addresses. -/

theorem dataTrap_of_misaligned {a n : Nat} (h : a % n ≠ 0) : dataTrap a n n = some (trDalign, a) := if_pos h

theorem dataTrap_of_outside {a n : Nat} (h : a % n = 0) (ho : dmSize < a + n) : dataTrap a n n = some (trDrange, a) := by
  simp [dataTrap, h, ho]

theorem dataTrap_of_fits {a n : Nat} (h : a % n = 0 ∧ a + n ≤ dmSize) : dataTrap a n n = none := by
  simp [dataTrap, h.1, h.2]

section Access

variable (s : State) (t : Nat) {a n : Nat} (body : State → State)

theorem access_of_misaligned (reads : Bool) (h : a % n ≠ 0) : s.access t a n n reads body = s.trap t trDalign a := by
  simp only [State.access, State.withTrap, dataTrap_of_misaligned h]

theorem access_of_outside (reads : Bool) (h : a % n = 0) (ho : dmSize < a + n) :
    s.access t a n n reads body = s.trap t trDrange a := by
  simp only [State.access, State.withTrap, dataTrap_of_outside h ho]

/-- A write that does not read its words first happens whatever their errors. -/
theorem access_blind (h : a % n = 0 ∧ a + n ≤ dmSize) : s.access t a n n false body = body s := by
  simp [State.access, State.withTrap, dataTrap_of_fits h]

/-- The state after the corrected error of a data word, if it has one, is counted. -/
def State.counted (s : State) (w : Nat) : State := if tabGet 0 s.dmErr w = 1 then s.inc TLR_ECCCNT_DATA else s

@[simp] theorem kept_counted (w : Nat) : (s.counted w).kept = s.kept := by simp [State.counted]

@[simp] theorem counted_dm (w : Nat) : (s.counted w).dm = s.dm := dm_of_kept (kept_counted s w)
@[simp] theorem counted_dmErr (w : Nat) : (s.counted w).dmErr = s.dmErr := dmErr_of_kept (kept_counted s w)
@[simp] theorem counted_tellers (w : Nat) : (s.counted w).tellers = s.tellers := by
  unfold State.counted; split <;> rfl
@[simp] theorem counted_teller (w u : Nat) : (s.counted w).teller u = s.teller u := by
  simp [State.teller]

theorem access_of_error {reads : Bool} (h : a % n = 0 ∧ a + n ≤ dmSize) (hr : reads = true)
    (hb : s.dmBad (a / 4 * 4) ((a % 4 + n + 3) / 4) = true) :
    s.access t a n n reads body = (s.raise 1 srcDmecc).trap t trMemerr a := by
  simp [State.access, State.withTrap, dataTrap_of_fits h, hr, hb]

theorem access_of_readable {reads : Bool} (h : a % n = 0 ∧ a + n ≤ dmSize) (hr : reads = true)
    (hb : s.dmBad (a / 4 * 4) ((a % 4 + n + 3) / 4) = false) :
    s.access t a n n reads body = body (s.dmCorrected (a / 4 * 4) ((a % 4 + n + 3) / 4)) := by
  simp [State.access, State.withTrap, dataTrap_of_fits h, hr, hb]

/-- An access within one word: its error decides. -/
theorem access_word {reads : Bool} (h : a % n = 0 ∧ a + n ≤ dmSize) (hr : reads = true) (hw : a % 4 + n ≤ 4) (hn : 0 < n) :
    s.access t a n n reads body =
      if tabGet 0 s.dmErr (a / 4) = 2 then (s.raise 1 srcDmecc).trap t trMemerr a else body (s.counted (a / 4)) := by
  have e : (a % 4 + n + 3) / 4 = 1 := by omega
  split
  case isTrue he => exact access_of_error s t body h hr (by simp [e, State.dmBad, he])
  case isFalse he => rw [access_of_readable s t body h hr (by simp [e, State.dmBad, he]), e]; simp [State.dmCorrected, State.counted]

/-- An access of two words: the error of either stops it. -/
theorem access_pair (h : a % 8 = 0 ∧ a + 8 ≤ dmSize) :
    s.access t a 8 8 true body =
      if tabGet 0 s.dmErr (a / 4) = 2 ∨ tabGet 0 s.dmErr (a / 4 + 1) = 2 then (s.raise 1 srcDmecc).trap t trMemerr a
      else body ((s.counted (a / 4)).counted (a / 4 + 1)) := by
  have e : (a % 4 + 8 + 3) / 4 = 2 := by omega
  have e1 : (a / 4 * 4 + 4) / 4 = a / 4 + 1 := by omega
  have hb : s.dmBad (a / 4 * 4) 2 = decide (tabGet 0 s.dmErr (a / 4) = 2 ∨ tabGet 0 s.dmErr (a / 4 + 1) = 2) := by
    simp [State.dmBad, e1]
  split
  case isTrue he => exact access_of_error s t body h rfl (by rw [e, hb]; exact decide_eq_true he)
  case isFalse he =>
    rw [access_of_readable s t body h rfl (by rw [e, hb]; exact decide_eq_false he), e]
    simp only [State.dmCorrected, e1, State.counted, Nat.mul_div_cancel _ (show 0 < 4 by decide)]
    rfl

end Access

/-! What a store writes. -/

theorem toNat_leBytes : ∀ (n v k : Nat) (h : k < (leBytes n v).length), ((leBytes n v)[k]).toNat = v / 2 ^ (8 * k) % 2 ^ 8
  | n + 1, v, 0, _ => by simp [leBytes]
  | n + 1, v, k + 1, h => by
    simp only [leBytes, List.getElem_cons_succ]
    rw [toNat_leBytes n (v / 256) k, Nat.div_div_eq_div_mul, show 8 * (k + 1) = 8 + 8 * k by omega, Nat.pow_add]

theorem toNat_memByte_memStore (m : Memory) (a v : Nat) {n k : Nat} (h : k < n) :
    (memByte (memStore m a n v) (a + k)).toNat = v / 2 ^ (8 * k) % 2 ^ 8 := by
  have hl : k < (leBytes n v).length := by simpa using h
  rw [memStore, memByte_memPut_in _ _ _ _ hl]
  rw [List.getD_eq_getElem _ _ hl, toNat_leBytes n v k hl]

theorem tabGet_dmFresh (w : Nat) : ∀ (n a : Nat) (s : State), a % 4 = 0 →
    tabGet 0 (s.dmFresh a n).dmErr w = if a / 4 ≤ w ∧ w < a / 4 + n then 0 else tabGet 0 s.dmErr w
  | 0, a, s, _ => by
    rw [Nat.add_zero, if_neg (by omega)]; rfl
  | n + 1, a, s, ha => by
    rw [State.dmFresh, tabGet_dmFresh w n (a + 4) _ (by omega), show (a + 4) / 4 = a / 4 + 1 by omega]
    by_cases hw : w = a / 4
    · subst hw; simp
    · simp only [tabGet_tabSet_ne _ _ _ _ _ hw]
      exact if_congr (by omega) rfl rfl

/-- The words of an aligned store have fresh check bits, the others the ones they had. -/
theorem tabGet_dmStore_dmErr (s : State) (v w : Nat) {a n : Nat} (hn : a % 4 + n ≤ 4 ∨ a % 4 = 0) (h0 : 0 < n) :
    tabGet 0 (s.dmStore a n v).dmErr w = if a / 4 ≤ w ∧ w ≤ (a + n - 1) / 4 then 0 else tabGet 0 s.dmErr w := by
  rw [State.dmStore, tabGet_dmFresh _ _ _ _ (by omega)]
  exact if_congr (by omega) rfl rfl

/-! Loads. -/

theorem memLoad_succ (m : Memory) (a n : Nat) : memLoad m a (n + 1) = (memByte m a).toNat + 256 * memLoad m (a + 1) n := rfl
@[simp] theorem memLoad_zero (m : Memory) (a : Nat) : memLoad m a 0 = 0 := rfl

theorem memLoad_byte (m : Memory) (a : Nat) : memLoad m a 1 = (memByte m a).toNat := by simp [memLoad_succ]

theorem memLoad_half (m : Memory) (a : Nat) :
    memLoad m a 2 = (memByte m (a + 0)).toNat + 2 ^ 8 * (memByte m (a + 1)).toNat := by simp [memLoad_succ]

theorem memLoad_word (m : Memory) (a : Nat) : memLoad m a 4 = (memByte m (a + 0)).toNat + 2 ^ 8 * (memByte m (a + 1)).toNat
    + 2 ^ 16 * (memByte m (a + 2)).toNat + 2 ^ 24 * (memByte m (a + 3)).toNat := by
  simp only [memLoad_succ, memLoad_zero, Nat.add_assoc, Nat.reduceAdd, Nat.add_zero]
  omega

theorem memLoad_double (m : Memory) (a : Nat) : memLoad m a 8 = memLoad m a 4 + 2 ^ 32 * memLoad m (a + 4) 4 := by
  simp only [memLoad_succ, memLoad_zero, Nat.add_assoc, Nat.reduceAdd]
  omega

theorem ofNat_memLoad_byte (m : Memory) (a : Nat) : BitVec.ofNat 8 (memLoad m a 1) = memByte m a := by
  rw [memLoad_byte, BitVec.ofNat_toNat, BitVec.setWidth_eq]

/-- A half-word fits in 16 bits, so that extending it with zeros keeps its number. -/
theorem zeroExtend_half (m : Memory) (a : Nat) :
    (BitVec.ofNat 16 (memLoad m a 2)).zeroExtend 32 = BitVec.ofNat 32 (memLoad m a 2) := by
  have h0 := (memByte m a).isLt
  have h1 := (memByte m (a + 1)).isLt
  have h : memLoad m a 2 < 2 ^ 16 := by rw [memLoad_half, Nat.add_zero]; omega
  apply BitVec.eq_of_toNat_eq
  simp only [BitVec.truncate_eq_setWidth, BitVec.toNat_setWidth, BitVec.toNat_ofNat, Nat.mod_eq_of_lt h]

section Instructions

variable {s : State} {t : Nat} (h : s.runs t = true)
include h

theorem loadG_of_runs (rd rs : Nat) {n : Nat} (imm : BitVec 16) (ext : Nat → Word) {a : Nat} (ha : (s.teller t).ea rs imm = a)
    (hf : a % n = 0 ∧ a + n ≤ dmSize) (hw : a % 4 + n ≤ 4) (hn : 0 < n) :
    loadG t rd rs n imm ext s = .next (if tabGet 0 s.dmErr (a / 4) = 2 then (s.raise 1 srcDmecc).trap t trMemerr a
      else (s.counted (a / 4)).putG t rd (ext (memLoad s.dm a n)) 2) := by
  simp only [loadG, execI_of_runs h, ha, access_word s t _ hf rfl hw hn, counted_dm]
  rfl

theorem execPld_of_runs (pd rs : Nat) (imm : BitVec 16) {a : Nat} (ha : (s.teller t).ea rs imm = a)
    (hf : a % 8 = 0 ∧ a + 8 ≤ dmSize) :
    execPld t pd rs imm s = .next (if tabGet 0 s.dmErr (a / 4) = 2 ∨ tabGet 0 s.dmErr (a / 4 + 1) = 2
      then (s.raise 1 srcDmecc).trap t trMemerr a
      else ((s.counted (a / 4)).counted (a / 4 + 1)).putP t pd (BitVec.ofNat 64 (memLoad s.dm a 8)) 3) := by
  simp only [execPld, execI_of_runs h, ha, access_pair s t _ hf, counted_dm]
  rfl

theorem storeG_of_runs (rt rs c : Nat) {n : Nat} (imm : BitVec 16) {a : Nat} (ha : (s.teller t).ea rs imm = a)
    (hf : a % n = 0 ∧ a + n ≤ dmSize) (hw : a % 4 + n ≤ 4) (hn : 0 < n) (h4 : n < 4) :
    storeG t rt rs n c imm s = .next (if tabGet 0 s.dmErr (a / 4) = 2 then (s.raise 1 srcDmecc).trap t trMemerr a
      else ((s.counted (a / 4)).dmStore a n ((s.teller t).getG rt).toNat).mapTeller t fun x => x.adv c) := by
  simp only [storeG, execI_of_runs h, ha, access_word s t _ hf (decide_eq_true h4) hw hn, counted_teller]

theorem execSw_of_runs (rt rs : Nat) (imm : BitVec 16) {a : Nat} (ha : (s.teller t).ea rs imm = a)
    (hf : a % 4 = 0 ∧ a + 4 ≤ dmSize) :
    execSw t rt rs imm s = .next ((s.dmStore a 4 ((s.teller t).getG rt).toNat).mapTeller t fun x => x.adv 1) := by
  simp only [execSw, storeG, execI_of_runs h, ha, Nat.lt_irrefl, decide_false, access_blind s t _ hf]

theorem execPst_of_runs (rt rs : Nat) (imm : BitVec 16) {a : Nat} (ha : (s.teller t).ea rs imm = a)
    (hf : a % 8 = 0 ∧ a + 8 ≤ dmSize) :
    execPst t rt rs imm s = .next ((s.dmStore a 8 ((s.teller t).getP rt).toNat).mapTeller t fun x => x.adv 2) := by
  simp only [execPst, execI_of_runs h, ha, access_blind s t _ hf]

theorem atomicOp_of_runs (rd rs rt : Nat) (f : Word → Word → Word) {a : Nat} (ha : ((s.teller t).getG rs).toNat = a)
    (hf : a % 4 = 0 ∧ a + 4 ≤ dmSize) :
    atomicOp t rd rs rt f s = .next (if tabGet 0 s.dmErr (a / 4) = 2 then (s.raise 1 srcDmecc).trap t trMemerr a
      else ((s.counted (a / 4)).dmStore a 4 (f (BitVec.ofNat 32 (memLoad s.dm a 4)) ((s.teller t).getG rt)).toNat).mapTeller t
        fun x => (x.setG rd (BitVec.ofNat 32 (memLoad s.dm a 4))).adv 3) := by
  simp only [atomicOp, execI_of_runs h, ha, access_word s t _ hf rfl (by omega) (by omega), counted_teller, counted_dm]

end Instructions

/-- Settles O13: the loads' words are the little-endian bytes, and the errors of the words they touch decide. -/
theorem loadResults : Obligations.LoadResults := by
  unfold Obligations.LoadResults
  intro s t d rs imm h a b fits err once twice loads
  have ha : (s.teller t).ea rs imm = a := rfl
  have load (i : Instr) (n : Nat) (v : Word) (ext : Nat → Word) (hi : exec i s = loadG t d rs n imm ext s)
      (hv : ext (memLoad s.dm a n) = v) (hn : 0 < n) (hw : a % n = 0 → a % 4 + n ≤ 4) : loads i n v := by
    intro hf
    rw [hi, loadG_of_runs h d rs imm ext ha hf (hw hf.1) hn, hv]
    exact ⟨fun he => congrArg _ (if_neg he), fun he => congrArg _ (if_pos he)⟩
  have hp := execPld_of_runs h d rs imm ha
  have hd : memLoad s.dm a 8 = b 0 + 2 ^ 8 * b 1 + 2 ^ 16 * b 2 + 2 ^ 24 * b 3
      + 2 ^ 32 * (b 4 + 2 ^ 8 * b 5 + 2 ^ 16 * b 6 + 2 ^ 24 * b 7) := by
    rw [memLoad_double, memLoad_word, memLoad_word]
  have htwice : (s.counted (a / 4)).counted (a / 4 + 1) = twice := by
    rw [State.counted, counted_dmErr]; rfl
  refine ⟨load _ 4 _ (fun v => BitVec.ofNat 32 v) (exec_lw ..) ?_ (by omega) (by omega),
    load _ 2 _ (fun v => (BitVec.ofNat 16 v).signExtend 32) (exec_lh ..) ?_ (by omega) (by omega),
    load _ 2 _ (fun v => (BitVec.ofNat 16 v).zeroExtend 32) (exec_lhu ..) ?_ (by omega) (by omega),
    load _ 1 _ (fun v => (BitVec.ofNat 8 v).signExtend 32) (exec_lb ..) ?_ (by omega) (by omega),
    load _ 1 _ (fun v => (BitVec.ofNat 8 v).zeroExtend 32) (exec_lbu ..) ?_ (by omega) (by omega),
    fun hf h0 h1 => ?_, fun hf he => ?_⟩
  · exact congrArg _ (memLoad_word s.dm a)
  · exact congrArg (fun v => (BitVec.ofNat 16 v).signExtend 32) (memLoad_half s.dm a)
  · rw [zeroExtend_half]; exact congrArg _ (memLoad_half s.dm a)
  · exact congrArg (fun v : Byte => v.signExtend 32) (ofNat_memLoad_byte s.dm a)
  · exact congrArg (fun v : Byte => v.zeroExtend 32) (ofNat_memLoad_byte s.dm a)
  · rw [exec_pld, hp hf]
    exact congrArg _ ((if_neg (not_or.mpr ⟨h0, h1⟩)).trans (by rw [htwice, hd]))
  · rw [exec_pld, hp hf]
    exact congrArg _ (if_pos he)

/-! Stores. -/

theorem mapTeller_rest (s : State) (t : Nat) (f : Teller → Teller) : { s.mapTeller t f with tellers := s.tellers } = s := rfl

/-- What a store of `n` bytes leaves, its teller aside: the bytes and their check bits written, all else as in `base`. -/
def Stored (s s' : State) (t a n v : Nat) (x' : Teller) (base : State) : Prop :=
  (∀ k, k < n → (memByte s'.dm (a + k)).toNat = v / 2 ^ (8 * k) % 2 ^ 8) ∧
  (∀ j, j < a ∨ a + n ≤ j → memByte s'.dm j = memByte s.dm j) ∧
  (∀ w, tabGet 0 s'.dmErr w = if a / 4 ≤ w ∧ w ≤ (a + n - 1) / 4 then 0 else tabGet 0 s.dmErr w) ∧
  s'.teller t = x' ∧ (∀ u, u ≠ t → s'.teller u = s.teller u) ∧
  { s' with dm := s.dm, dmErr := s.dmErr, tellers := s.tellers } = base

/-- A store that may have counted a corrected error before it, then moves its teller on. -/
theorem stored_dmStore {s base : State} (t v : Nat) (f : Teller → Teller) {a n : Nat} (hm : base.dm = s.dm)
    (he : base.dmErr = s.dmErr) (ht : base.tellers = s.tellers) (hw : a % 4 + n ≤ 4 ∨ a % 4 = 0) (hn : 0 < n) :
    Stored s ((base.dmStore a n v).mapTeller t f) t a n v (f (s.teller t)) base := by
  have hteller (u : Nat) : base.teller u = s.teller u := congrArg (fun m => tabGet Teller.init m u) ht
  refine ⟨fun k hk => ?_, fun j hj => ?_, fun w => ?_, ?_, fun u hu => ?_, ?_⟩
  · rw [dm_of_kept (kept_mapTeller ..), dmStore_dm]; exact toNat_memByte_memStore _ _ _ hk
  · rw [dm_of_kept (kept_mapTeller ..), dmStore_dm, hm]; exact memByte_memStore_out hj
  · rw [dmErr_of_kept (kept_mapTeller ..), tabGet_dmStore_dmErr _ _ _ hw hn, he]
  · rw [teller_mapTeller_same, dmStore_teller, hteller]
  · rw [teller_mapTeller_ne _ _ hu, dmStore_teller, hteller]
  · rw [← hm, ← he, ← ht]
    exact congrArg (fun x : State => { x with tellers := base.tellers }) (dmStore_rest base a n v)

theorem counted_stored (s : State) (t v w : Nat) (f : Teller → Teller) {a n : Nat} (hw : a % 4 + n ≤ 4 ∨ a % 4 = 0)
    (hn : 0 < n) :
    Stored s (((s.counted w).dmStore a n v).mapTeller t f) t a n v (f (s.teller t)) (s.counted w) :=
  stored_dmStore t v f (counted_dm s w) (counted_dmErr s w) (counted_tellers s w) hw hn

/-- Settles O14: each store is a store of its bytes on the state with its corrected error counted. -/
theorem storeAndAtomicResults : Obligations.StoreAndAtomicResults := by
  unfold Obligations.StoreAndAtomicResults
  intro s t rd rt rs imm h x err counted stored fits a damaged
  have ha : (s.teller t).ea rs imm = a := rfl
  have trapped (i : Instr) (m : Nat) (u : State) (he : err m = 2)
      (hi : exec i s = .next (if tabGet 0 s.dmErr (m / 4) = 2 then (s.raise 1 srcDmecc).trap t trMemerr m else u)) :
      damaged i m := by
    have hk : ((s.raise 1 srcDmecc).trap t trMemerr m).kept = s.kept := by simp
    exact ⟨_, hi.trans (congrArg _ (if_pos he)), rfl, dm_of_kept hk, dmErr_of_kept hk⟩
  have wrote (i : Instr) (m n v : Nat) (f : Teller → Teller) (u : State) (hw : m % 4 + n ≤ 4) (hn : 0 < n) (he : err m ≠ 2)
      (hi : exec i s = .next (if tabGet 0 s.dmErr (m / 4) = 2 then u
        else ((s.counted (m / 4)).dmStore m n v).mapTeller t f)) : stored i m n v (f x) (counted m) :=
    ⟨_, hi.trans (congrArg _ (if_neg he)), counted_stored s t v (m / 4) f (.inl hw) hn⟩
  refine ⟨fun hf => ?_, fun hf => ?_, fun hf => ?_, fun hf => ?_, ?_⟩
  · exact ⟨_, execSw_of_runs h rt rs imm ha hf, stored_dmStore t _ _ rfl rfl rfl (.inr hf.1) (by decide)⟩
  · exact ⟨_, execPst_of_runs h rt rs imm ha hf, stored_dmStore t _ _ rfl rfl rfl (.inr (by have := hf.1; omega)) (by decide)⟩
  · have hw : a % 4 + 2 ≤ 4 := by have := hf.1; omega
    have hi := storeG_of_runs h rt rs 2 imm ha hf hw (by decide) (by decide)
    exact ⟨fun he => wrote (.sh t rt rs imm) _ _ _ _ _ hw (by decide) he hi, fun he => trapped (.sh t rt rs imm) _ _ he hi⟩
  · have hw : a % 4 + 1 ≤ 4 := by omega
    have hi := storeG_of_runs h rt rs 2 imm ha hf hw (by decide) (by decide)
    exact ⟨fun he => wrote (.sb t rt rs imm) _ _ _ _ _ hw (by decide) he hi, fun he => trapped (.sb t rt rs imm) _ _ he hi⟩
  · intro m old x' hf
    have hw : m % 4 + 4 ≤ 4 := by have := hf.1; omega
    have hadd := (exec_xadd (s := s) t rd rs rt).trans (atomicOp_of_runs h rd rs rt (fun old v => old + v) (a := m) rfl hf)
    have hswap := (exec_xswap (s := s) t rd rs rt).trans (atomicOp_of_runs h rd rs rt (fun _ v => v) (a := m) rfl hf)
    exact ⟨fun he => ⟨wrote _ _ _ _ _ _ hw (by decide) he hadd, wrote _ _ _ _ _ _ hw (by decide) he hswap⟩,
      fun he => ⟨trapped _ _ _ he hadd, trapped _ _ _ he hswap⟩⟩

/-- Settles O15: the address decides before the words are looked at. -/
theorem dataAddressTraps : Obligations.DataAddressTraps := by
  unfold Obligations.DataAddressTraps
  intro s t r rs rt imm h a g traps
  have acc (i : Instr) (m n : Nat) (reads : Bool) (body : State → State)
      (hi : exec i s = .next (s.access t m n n reads body)) : traps i m n :=
    ⟨fun hm => by rw [hi, access_of_misaligned s t body reads hm]; rfl,
      fun hm ho => by rw [hi, access_of_outside s t body reads hm ho]; rfl⟩
  have next (body : State → State) : Host.Outcome.next (s.execI t body) = (.next (body s) : Host.Outcome State Fault Refusal) :=
    congrArg _ (execI_of_runs h body)
  exact ⟨acc _ _ _ _ _ (next _), acc _ _ _ _ _ (next _), acc _ _ _ _ _ (next _), acc _ _ _ _ _ (next _),
    acc _ _ _ _ _ (next _), acc _ _ _ _ _ (next _), acc _ _ _ _ _ (next _), acc _ _ _ _ _ (next _),
    acc _ _ _ _ _ (next _), acc _ _ _ _ _ (next _), acc _ _ _ _ _ (next _), acc _ _ _ _ _ (next _)⟩

end Sys2Proof.Machine

namespace Sys2Proof.Machine

/-! Control flow, traps, the system operations of one teller, and its waits (R62, R72, R75, R77, R81, R82, R88, R89). -/

/-! Trap entry. -/

section TrapEntry

variable (s : State) (t cause value : Nat)

/-- The trap registers after an entry; all three lie at different places. -/
def State.trapRegs (s : State) (t cause value : Nat) (epc : Word) : State :=
  ((s.setFld (TLR_EPC_VALUE t) epc.toNat).setFld (TLR_CAUSE_VALUE t) cause).setFld (TLR_TVAL_VALUE t) value

theorem trapRegs_fld (epc : Word) (hc : cause < 2 ^ 32) (hv : value < 2 ^ 32) :
    (s.trapRegs t cause value epc).fld (TLR_EPC_VALUE t) = epc.toNat ∧
    (s.trapRegs t cause value epc).fld (TLR_CAUSE_VALUE t) = cause ∧
    (s.trapRegs t cause value epc).fld (TLR_TVAL_VALUE t) = value := by
  have hec : (TLR_EPC_VALUE t).key ≠ (TLR_CAUSE_VALUE t).key := by simp only [Field.key, TLR_EPC_VALUE, TLR_CAUSE_VALUE]; omega
  have hev : (TLR_EPC_VALUE t).key ≠ (TLR_TVAL_VALUE t).key := by simp only [Field.key, TLR_EPC_VALUE, TLR_TVAL_VALUE]; omega
  have hcv : (TLR_CAUSE_VALUE t).key ≠ (TLR_TVAL_VALUE t).key := by simp only [Field.key, TLR_CAUSE_VALUE, TLR_TVAL_VALUE]; omega
  refine ⟨?_, ?_, ?_⟩
  · rw [State.trapRegs, fld_setFld_ne _ _ hev, fld_setFld_ne _ _ hec, fld_setFld_same]
    exact Nat.mod_eq_of_lt epc.isLt
  · rw [State.trapRegs, fld_setFld_ne _ _ hcv, fld_setFld_same]
    exact Nat.mod_eq_of_lt hc
  · rw [State.trapRegs, fld_setFld_same]
    exact Nat.mod_eq_of_lt hv

/-- Entry at the vector, with the saved address of this instruction or of the next. -/
theorem trapWith_of_vector (after : Bool) (htm : (s.teller t).tm = false) (hen : s.flag (TLR_TVEC_EN t) = true) :
    s.trapWith t cause value after =
      (s.trapRegs t cause value (if after then (s.teller t).pc + 4 else (s.teller t).pc)).mapTeller t fun x => { x with
        tm := true, st := .running, wait := .none, pc := BitVec.ofNat 32 (s.fld (TLR_TVEC_ADDR t) * 4), cyc := x.cyc + 4 } := by
  simp only [State.trapWith, htm, hen, Bool.false_eq_true, not_true_eq_false, or_self, if_false]
  rfl

/-- Entry without one: the teller trap-halts at the saved address. -/
theorem trap_of_halt (h : (s.teller t).tm = true ∨ s.flag (TLR_TVEC_EN t) = false) :
    s.trap t cause value = (s.trapRegs t cause value (s.teller t).pc).trapHalt t (s.teller t).pc := by
  have hc : (s.teller t).tm = true ∨ ¬ s.flag (TLR_TVEC_EN t) = true := h.imp_right (by simp)
  simp only [State.trap, State.trapWith, if_pos hc]
  rfl

end TrapEntry

/-- Settles O17. -/
theorem trapEntry : Obligations.TrapEntry := by
  unfold Obligations.TrapEntry
  intro s t cause value _ hc hv x
  refine ⟨fun htm hen => ?_, fun h => trap_of_halt s t cause value h⟩
  intro s'
  have hs : s' = _ := trapWith_of_vector s t cause value false htm hen
  obtain ⟨hepc, hcause, htval⟩ := trapRegs_fld s t cause value x.pc hc hv
  rw [hs]
  exact ⟨hepc, hcause, htval, teller_mapTeller_same .., rfl, rfl, fun u hu => teller_mapTeller_ne _ _ hu⟩

/-! Branches and jumps. -/

theorem badTarget_iff (w : Word) : badTarget w = true ↔ ¬ (w.toNat < pmSize ∧ w.toNat % 4 = 0) := by
  simp [badTarget]
  omega

theorem badTarget_eq_false {w : Word} (h : w.toNat < pmSize ∧ w.toNat % 4 = 0) : badTarget w = false := by
  rw [Bool.eq_false_iff, ne_eq, badTarget_iff, not_not]
  exact h

section Jumps

variable {s : State} {t : Nat} (h : s.runs t = true)
include h

theorem branch_untaken (c : Cond) (off : BitVec 22) (link : Bool) (hc : condHolds (s.teller t) c = false) :
    branch t c off link s = .next (s.mapTeller t fun x => x.adv 1) := by
  simp only [branch, execI_of_runs h, hc, Bool.false_eq_true, not_false_eq_true, if_true]

theorem branch_taken (c : Cond) (off : BitVec 22) (link : Bool) (hc : condHolds (s.teller t) c = true)
    (hb : badTarget ((s.teller t).pc + sext22 off * 4) = false) :
    branch t c off link s = .next (s.mapTeller t fun x =>
      (if link then x.setG 31 (x.pc + 4) else x).jump ((s.teller t).pc + sext22 off * 4)) := by
  simp only [branch, execI_of_runs h, hc, hb, not_true_eq_false, Bool.false_eq_true, if_false]

theorem branch_bad (c : Cond) (off : BitVec 22) (link : Bool) (hc : condHolds (s.teller t) c = true)
    (hb : badTarget ((s.teller t).pc + sext22 off * 4) = true) :
    branch t c off link s = .next (s.trap t trPaddr ((s.teller t).pc + sext22 off * 4).toNat) := by
  simp only [branch, execI_of_runs h, hc, hb, not_true_eq_false, if_false, if_true]

theorem execJmpr_of_runs (rd rs : Nat) (imm : BitVec 16) :
    execJmpr t rd rs imm s = .next (if badTarget ((s.teller t).getG rs + sext16 imm)
      then s.trap t trPaddr ((s.teller t).getG rs + sext16 imm).toNat
      else s.mapTeller t fun x => (x.setG rd (x.pc + 4)).jump ((s.teller t).getG rs + sext16 imm)) := by
  simp only [execJmpr, execI_of_runs h]

end Jumps

/-- A link register written keeps CYC, which the jump then counts from. -/
theorem jump_setG (x : Teller) (r : Nat) (v w : Word) : (x.setG r v).jump w = { x.setG r v with pc := w, cyc := x.cyc + 4 } := by
  unfold Teller.setG
  split <;> rfl

/-- Settles O16. -/
theorem branchesAndJumps : Obligations.BranchesAndJumps := by
  unfold Obligations.BranchesAndJumps
  intro s t rd rs c off imm h x to' jr good went
  have went_setG (r : Nat) (v w : Word) : (s.mapTeller t fun x => (x.setG r v).jump w) = went (x.setG r v) w :=
    congrArg (s.setTeller t) (jump_setG x r v w)
  refine ⟨fun hc => ⟨branch_untaken h c off false hc, branch_untaken h c off true hc⟩, fun hc hg => ⟨?_, ?_⟩,
    fun hc hg => ⟨branch_bad h c off false hc ((badTarget_iff _).mpr hg), branch_bad h c off true hc ((badTarget_iff _).mpr hg)⟩,
    fun hg => ?_, fun hg => ?_⟩
  · exact branch_taken h c off false hc (badTarget_eq_false hg)
  · exact (branch_taken h c off true hc (badTarget_eq_false hg)).trans (congrArg _ (went_setG 31 _ to'))
  · have hb : badTarget (x.getG rs + sext16 imm) = false := badTarget_eq_false hg
    rw [exec_jmpr, execJmpr_of_runs h, hb]
    exact congrArg _ (went_setG rd _ jr)
  · exact (execJmpr_of_runs h rd rs imm).trans (congrArg _ (if_pos ((badTarget_iff _).mpr hg)))

/-! Errors of the fetched word. -/

/-- Every instruction of a teller begins with its fetch. -/
theorem exec_execI {i : Instr} {t : Nat} (hi : tellerOf i = some t) (s : State) :
    ∃ body, exec i s = .next (s.execI t body) := by
  unfold tellerOf at hi
  split at hi
  all_goals cases hi
  case h_93 =>
    rw [exec_commit, execCommit]
    split
    all_goals exact ⟨_, rfl⟩
  all_goals exact ⟨_, rfl⟩

/-- The error aside, the teller executes its instruction. -/
def State.fetches (s : State) (t : Nat) : Prop :=
  t < 16 ∧ (s.teller t).st = .running ∧ (s.teller t).wait = .none ∧ (s.teller t).pc.toNat < pmSize ∧ ¬ s.isOff = true

theorem fetches_of_repaired {s : State} {t w : Nat} (h : { s with pmErr := tabSet 0 s.pmErr w 0 }.runs t = true) :
    s.fetches t := by
  obtain ⟨ht, hst, hwait, hpc, hoff, -⟩ := (runs_iff _ t).mp h
  exact ⟨ht, hst, hwait, hpc, Bool.eq_false_iff.mp hoff⟩

theorem execI_of_fetchError {s : State} {t : Nat} (h : s.fetches t) (body : State → State)
    (he : tabGet 0 s.pmErr ((s.teller t).pc.toNat / 4) = 2) :
    s.execI t body = (s.raise 1 srcPmecc).trap t trMemerr (s.teller t).pc.toNat := by
  unfold State.fetches at h
  simp only [State.execI, if_pos h, he, if_true]

theorem execI_of_corrected {s : State} {t : Nat} (h : s.fetches t) (body : State → State)
    (he : tabGet 0 s.pmErr ((s.teller t).pc.toNat / 4) = 1) : s.execI t body = body (s.inc TLR_ECCCNT_PROG) := by
  unfold State.fetches at h
  simp only [State.execI, if_pos h, he]
  rfl

/-- The positions a register-only instruction reads lie in no counter of corrected errors. -/
theorem fld_inc_ecccnt (s : State) {f : Field} (hf : f.key ≠ TLR_ECCCNT_PROG.key) : (s.inc TLR_ECCCNT_PROG).fld f = s.fld f :=
  fld_setFld_ne s _ hf

theorem stoff_key_ne (n : Nat) : (TIM_STOFF_LINES n).key ≠ TLR_ECCCNT_PROG.key := by
  simp only [Field.key, TIM_STOFF_LINES, TLR_ECCCNT_PROG]; omega

theorem drumarc_key_ne (n : Nat) : (TIM_DRUMARC_LINES n).key ≠ TLR_ECCCNT_PROG.key := by
  simp only [Field.key, TIM_DRUMARC_LINES, TLR_ECCCNT_PROG]; omega

/-- A register-only instruction is one map of its teller, whatever the check bits of program memory and the counts of
their errors. -/
theorem exec_regOnly_counted {i : Instr} {t : Nat} {d : Dest} (hi : regOnly i = some (t, d)) (s : State) (e : Tab Nat) :
    ∃ f, exec i s = .next (s.execR t f) ∧
      exec i ({ s with pmErr := e }.inc TLR_ECCCNT_PROG) = .next (({ s with pmErr := e }.inc TLR_ECCCNT_PROG).execR t f) := by
  have hfld {f : Field} (hf : f.key ≠ TLR_ECCCNT_PROG.key) : ({ s with pmErr := e }.inc TLR_ECCCNT_PROG).fld f = s.fld f :=
    fld_inc_ecccnt _ hf
  unfold regOnly at hi
  split at hi
  case h_40 t' pd ps n =>
    cases hi
    refine ⟨_, rfl, ?_⟩
    rw [exec_pstn, execPstn, hfld (stoff_key_ne n)]
    rfl
  case h_41 t' pd ps n =>
    cases hi
    refine ⟨_, rfl, ?_⟩
    rw [exec_pwrt, execPwrt, hfld (stoff_key_ne n), hfld (drumarc_key_ne n)]
    rfl
  case h_42 t' pd =>
    cases hi
    refine ⟨_, rfl, ?_⟩
    rw [exec_rdhwm, execRdhwm, State.isWorker, State.role, State.hwm, hfld (by decide), hfld (by decide), hfld (by decide)]
    rfl
  all_goals cases hi
  all_goals exact ⟨_, rfl, rfl⟩

/-! System operations. -/

/-- Settles O18: the fetched word's error comes first, then what the operation does. -/
theorem systemResults : Obligations.SystemResults := by
  unfold Obligations.SystemResults
  intro s t rd k h hk x
  have next (body : State → State) : Host.Outcome.next (s.execI t body) = (.next (body s) : Host.Outcome State Fault Refusal) :=
    congrArg _ (execI_of_runs h body)
  refine ⟨fun htm hen => ⟨_, next _, ?_⟩, next _, fun htm => ?_, fun htm => ?_, next _, next _, fun hd => ?_,
    fun s2 hoff hst hwait hpc ht => ?_, ?_⟩
  · have hv : k % 32 < 2 ^ 32 := by omega
    obtain ⟨hepc, hcause, htval⟩ := trapRegs_fld s t trTrap (k % 32) (x.pc + 4) (by decide) hv
    rw [trapWith_of_vector s t _ _ true htm hen, teller_mapTeller_same]
    exact ⟨hepc, hcause, htval.trans (Nat.mod_eq_of_lt hk), rfl, rfl⟩
  · exact (next _).trans (congrArg _ (if_pos htm))
  · exact (next _).trans (congrArg _ (if_neg (Bool.eq_false_iff.mp htm)))
  · obtain ⟨-, -, -, -, hoff, -⟩ := (runs_iff s t).mp h
    obtain ⟨-, -, -, hpc, -, -⟩ := (runs_iff s t).mp h
    have hin : ¬ (t < 16 ∧ x.st = .running ∧ x.wait = .none ∧ x.pc.toNat ≥ pmSize) := fun hc => absurd hpc (Nat.not_lt.mpr hc.2.2.2)
    rw [exec_illegalWordFetch, execIllegalWordFetch]
    simp only [hoff, Bool.false_eq_true, if_false]
    rw [if_neg hin, execI_of_runs h]
    exact congrArg _ (if_pos (by rw [hd]; rfl))
  · rw [exec_illegalWordFetch, execIllegalWordFetch]
    simp only [hoff, Bool.false_eq_true, if_false]
    exact congrArg _ (if_pos ⟨ht, hst, hwait, hpc⟩)
  · intro s2 w good hgood
    have hfetch : s2.fetches t := fetches_of_repaired hgood
    refine ⟨fun he i hi => ?_, fun he i d v hi hv => ?_⟩
    · obtain ⟨body, hbody⟩ := exec_execI hi s2
      rw [hbody, execI_of_fetchError hfetch body he]
      rfl
    obtain ⟨f, hbad, hcounted⟩ := exec_regOnly_counted hi s2 (tabSet 0 s2.pmErr w 0)
    have hruns : (good.inc TLR_ECCCNT_PROG).runs t = true := hgood
    have hgv : v = (good.inc TLR_ECCCNT_PROG).mapTeller t f := by
      have := hv.symm.trans hcounted
      rw [execR_of_runs hruns] at this
      exact Host.Outcome.next.inj this
    rw [hbad, State.execR, execI_of_corrected hfetch _ he, hgv]
    rfl

/-! Waiting and signals. -/

theorem and_not_and (x m : Word) : x &&& ~~~(x &&& m) = x &&& ~~~m := by
  ext i hi
  simp only [BitVec.getElem_and, BitVec.getElem_not]
  cases x[i] <;> simp

/-- The capture of WAITEV: the masked bits go to gd and leave TEV; the rest of the teller stays. -/
theorem capture_getG (x : Teller) {rd : Nat} (mask : Word) (h : rd ≠ 0) : (x.capture rd mask).getG rd = x.tev &&& mask :=
  getG_setG_same x _ h

theorem capture_tev (x : Teller) (rd : Nat) (mask : Word) : (x.capture rd mask).tev = x.tev &&& ~~~mask :=
  and_not_and x.tev mask

theorem capture_pc (x : Teller) (rd : Nat) (mask : Word) : (x.capture rd mask).pc = x.pc := by
  unfold Teller.capture Teller.setG
  split <;> rfl

theorem capture_st (x : Teller) (rd : Nat) (mask : Word) : (x.capture rd mask).st = x.st := by
  unfold Teller.capture Teller.setG
  split <;> rfl

/-- Settles O19. -/
theorem waitsAndSignals : Obligations.WaitsAndSignals := by
  unfold Obligations.WaitsAndSignals
  refine ⟨fun s t rd rs b h hs => ?_, fun s t rd target mask hoff => ?_⟩
  · intro x target mask
    have next (body : State → State) :
        Host.Outcome.next (s.execD t (fun _ => none) body) = (.next (body s) : Host.Outcome State Fault Refusal) :=
      congrArg _ (execD_of_settled h hs _ body)
    refine ⟨fun hp => ?_, fun hp => ?_, fun hm => ⟨s.mapTeller t fun x => (x.capture rd mask).adv 1,
      ?_, fun hrd => ?_, ?_, ?_⟩, fun h0 hm => ?_, ?_, fun hu hb => ?_,
      fun hbad => ?_, next _⟩
    · exact (next _).trans (congrArg _ (if_pos hp))
    · exact (next _).trans (congrArg _ (if_neg (Nat.not_le.mpr hp)))
    · exact (next _).trans (congrArg _ (if_pos hm))
    · rw [teller_mapTeller_same]; exact capture_getG x mask hrd
    · rw [teller_mapTeller_same]; exact capture_tev x rd mask
    · rw [teller_mapTeller_same]; exact congrArg (· + 4) (capture_pc x rd mask)
    · exact (next _).trans (congrArg _ (if_neg (not_or.mpr ⟨not_not_intro h0, hm⟩)))
    · exact congrArg _ (execR_of_runs h _)
    · exact (next _).trans (congrArg _ (if_neg (not_or.mpr ⟨Nat.not_lt.mpr hu, Nat.not_lt.mpr hb⟩)))
    · exact (next _).trans (congrArg _ (if_pos hbad))
  · intro x
    have on (c u : State) : (if s.isOff = true then c else u) = u := if_neg (by simp [hoff])
    refine ⟨fun hw hp => ?_, fun hw hm => ⟨s.mapTeller t fun x => ({ x with st := .running, wait := .none }.capture rd mask).adv 2,
      ?_, ?_, fun hrd => ?_, ?_, ?_⟩, fun hst hus => ?_⟩
    · rw [exec_waitposResume, execWaitposResume, on]
      have hx : (s.teller t).wait = .pos target := hw
      rw [hx]
      exact congrArg _ (if_pos hp)
    · rw [exec_waitevResume, execWaitevResume, on]
      have hx : (s.teller t).wait = .ev rd mask := hw
      rw [hx]
      exact congrArg _ (if_pos hm)
    · rw [teller_mapTeller_same]; exact capture_st _ rd mask
    · rw [teller_mapTeller_same]; exact capture_getG _ mask hrd
    · rw [teller_mapTeller_same]; exact capture_tev _ rd mask
    · rw [teller_mapTeller_same]; exact congrArg (· + 4) (capture_pc _ rd mask)
    · rw [exec_tellerWatchdog, execTellerWatchdog, on]
      exact congrArg _ (if_pos ⟨hst, hus⟩)

end Sys2Proof.Machine

namespace Sys2Proof.Machine

/-! Steps, reset and the words of the manual. -/

/-- Settles O1. -/
theorem stepRunsTheFrontCommand : Obligations.StepRunsTheFrontCommand := by
  unfold Obligations.StepRunsTheFrontCommand
  exact fun c cs s => step_cons { s with pending := c :: cs } rfl

/-- An empty table answers its default everywhere: this is what reset leaves. -/
theorem fld_reset (f : Field) : State.reset.fld f = f.reset := rfl
theorem teller_reset (t : Nat) : State.reset.teller t = Teller.init := rfl

theorem getG_init (r : Nat) : Teller.init.getG r = 0 := by
  unfold Teller.getG
  split <;> rfl

/-- Settles O3: every table of the reset state is empty. -/
theorem resetState : Obligations.ResetState := by
  unfold Obligations.ResetState
  refine ⟨fld_reset, fun t => ?_, fun a => ⟨rfl, rfl⟩, fun n => rfl, fun h => rfl, rfl, rfl⟩
  rw [teller_reset]
  exact ⟨rfl, rfl, rfl, getG_init⟩

/-- Settles O4. -/
theorem wordsOfTheManual : Obligations.WordsOfTheManual := by
  unfold Obligations.WordsOfTheManual
  refine ⟨⟨?_, ?_, ?_, ?_, ?_, ?_, ?_, ?_, ?_, ?_⟩, ?_, ?_⟩
  all_goals decide +kernel

end Sys2Proof.Machine

namespace Sys2Proof.Machine

/-! A second write of one key replaces the first. None of this needs the canonical form. -/

section Tables

variable {α : Type}

theorem tabDrop_tabDrop (k : Nat) : ∀ m : Tab α, tabDrop k (tabDrop k m) = tabDrop k m
  | [] => rfl
  | (k', v) :: m => by
    by_cases h : k' ≤ k
    · simp only [tabDrop, if_pos h, tabDrop_tabDrop k m]
    · simp only [tabDrop, if_neg h]

theorem tabSet_tabDrop [DecidableEq α] (d : α) (k : Nat) (v : α) : ∀ m : Tab α,
    tabSet d (tabDrop k m) k v = if v = d then tabDrop k m else (k, v) :: tabDrop k m
  | [] => rfl
  | (k', v') :: m => by
    by_cases h : k' ≤ k
    · simp only [tabDrop, if_pos h, tabSet_tabDrop d k v m]
    · simp only [tabDrop, if_neg h, tabSet, if_neg (show ¬ k' < k by omega)]

theorem tabSet_tabSet [DecidableEq α] (d : α) (k : Nat) (u v : α) : ∀ m : Tab α,
    tabSet d (tabSet d m k u) k v = tabSet d m k v
  | [] => by
    by_cases h : u = d
    · simp only [tabSet, if_pos h]
    · simp only [tabSet, if_neg h, Nat.lt_irrefl, if_false, tabDrop, if_pos (Nat.le_refl k)]
  | (k', v') :: m => by
    by_cases hk : k' < k
    · simp only [tabSet, if_pos hk, tabSet_tabSet d k u v m]
    · by_cases h : u = d
      · simp only [tabSet, if_neg hk, if_pos h, tabSet_tabDrop]
      · rw [tabSet, if_neg hk, if_neg h, tabSet, if_neg (Nat.lt_irrefl k), tabSet, if_neg hk, tabDrop,
          if_pos (Nat.le_refl k), tabDrop_tabDrop]

end Tables

@[simp] theorem setTeller_setTeller (s : State) (t : Nat) (x y : Teller) : (s.setTeller t x).setTeller t y = s.setTeller t y := by
  simp only [State.setTeller, tabSet_tabSet]

@[simp] theorem setFld_setFld (s : State) (f : Field) (v w : Nat) : (s.setFld f v).setFld f w = s.setFld f w := by
  simp only [State.setFld, tabSet_tabSet]

/-! The tellers' register accesses: reach, RDR and WRR, the write queue and BUSERR (R74, R83, R84). -/

theorem tellerMay_iff (s : State) (t a : Nat) (write : Bool) : s.tellerMay t a write = true ↔
    (a % 4 = 0 ∧ a < 0xD00000 ∧ s.fbit (TLR_AMASK_WIN t) (a / 0x100000) = true ∧ ¬ (0x210000 ≤ a ∧ a < 0x230000)) ∧
    (write = true → 0x100000 ≤ a ∧ a ≠ 0x20000C ∧ a ≠ 0x200014 ∧ a ≠ 0x200018 ∧ a ≠ 0x200020 ∧ a ≠ 0x200024 ∧
      ¬ (0x201000 ≤ a ∧ a < 0x202000 ∧ (a % 0x100 = 0x08 ∨ a % 0x100 = 0x28))) := by
  simp only [State.tellerMay, inTlrMem, tellerNoWrite, decide_eq_true_eq, not_and, not_or, Nat.not_lt, and_assoc]

theorem tellerDomain_iff (a : Nat) : tellerDomain a = true ↔ 0x100000 ≤ a ∧ a < 0x508000 := by simp [tellerDomain]

section Accesses

variable {s : State} {t : Nat} (h : s.runs t = true)
include h

/-- RDR out of reach is refused, in reach it reads. -/
theorem execRdr_of_settled (hs : s.settled t = true) (rd rs : Nat) (imm : BitVec 16) :
    execRdr t rd rs imm s = .next (s.withTrap t (s.accessTrap t ((s.teller t).ea rs imm) false) fun s =>
      let r := s.bar0Read (.teller t) ((s.teller t).ea rs imm)
      if tellerDomain ((s.teller t).ea rs imm) then r.2.putG t rd (BitVec.ofNat 32 r.1) 6
      else (r.2.free 1600).2.putG t rd (BitVec.ofNat 32 r.1) ((r.2.free 1600).1 + 1)) :=
  congrArg _ (execD_of_settled h hs _ _)

theorem execWrr_of_runs (rd rs : Nat) (imm : BitVec 16) :
    execWrr t rd rs imm s = .next (s.withTrap t (s.accessTrap t ((s.teller t).ea rs imm) true) fun s =>
      if (s.teller t).wrrq.length ≥ 8 then s
      else s.mapTeller t fun x => { x with wrrq := x.wrrq ++ [((s.teller t).ea rs imm, (s.teller t).getG rd)] }.adv 1) :=
  congrArg _ (execI_of_runs h _)

end Accesses

theorem accessTrap_of_may {s : State} {t a : Nat} {write : Bool} (h : s.tellerMay t a write = true) :
    s.accessTrap t a write = none := if_pos h

theorem accessTrap_of_not {s : State} {t a : Nat} {write : Bool} (h : ¬ s.tellerMay t a write = true) :
    s.accessTrap t a write = some (trAccess, a) := if_neg h

/-- Settles O20. -/
theorem tellerReach : Obligations.TellerReach := by
  unfold Obligations.TellerReach
  intro s t r rs imm h hs a reach written
  have hread : s.tellerMay t a false = true ↔ reach := by rw [tellerMay_iff]; simp [reach]
  have hwrite : s.tellerMay t a true = true ↔ reach ∧ written := by rw [tellerMay_iff]; simp only [forall_const]; rfl
  have rdr (hno : ¬ reach) : exec (.rdr t r rs imm) s = .next (s.trap t 5 a) := by
    have ht : s.accessTrap t ((s.teller t).ea rs imm) false = some (trAccess, a) := accessTrap_of_not (hno ∘ hread.mp)
    rw [exec_rdr, execRdr_of_settled h hs, ht]
    rfl
  have wrr (hno : ¬ (reach ∧ written)) : exec (.wrr t r rs imm) s = .next (s.trap t 5 a) := by
    have ht : s.accessTrap t ((s.teller t).ea rs imm) true = some (trAccess, a) := accessTrap_of_not (hno ∘ hwrite.mp)
    rw [exec_wrr, execWrr_of_runs h, ht]
    rfl
  exact ⟨fun hno => ⟨rdr hno, wrr (hno ∘ And.left)⟩, fun hno => wrr (hno ∘ And.right),
    fun hr => ⟨hread.mpr hr, fun hw => hwrite.mpr ⟨hr, hw⟩⟩⟩

/-- Settles O21. -/
theorem registerInstructions : Obligations.RegisterInstructions := by
  unfold Obligations.RegisterInstructions
  intro s t rd rs imm h x a r
  obtain ⟨ht, -, -, -, hoff, -⟩ := (runs_iff s t).mp h
  refine ⟨fun hs hmay => ?_, fun hmay => ?_, fun b v q hq => ?_, fun hs b => ?_, fun b v q hq hrst => ?_⟩
  · have hn : s.accessTrap t ((s.teller t).ea rs imm) false = none := accessTrap_of_may hmay
    rw [exec_rdr, execRdr_of_settled h hs, hn]
    refine ⟨fun hd => ?_, fun hd => ?_⟩
    · have hd' : tellerDomain ((s.teller t).ea rs imm) = true := (tellerDomain_iff _).mpr hd
      exact congrArg _ (if_pos hd')
    · have hd' : ¬ tellerDomain ((s.teller t).ea rs imm) = true := fun hc => hd ((tellerDomain_iff _).mp hc)
      refine ⟨(r.2.free 1600).1 + 1, by omega, ?_, congrArg _ (if_neg hd')⟩
      exact Nat.mod_lt _ (by decide)
  · have hn : s.accessTrap t ((s.teller t).ea rs imm) true = none := accessTrap_of_may hmay
    rw [exec_wrr, execWrr_of_runs h, hn]
    exact ⟨fun hl => congrArg _ (if_neg (Nat.not_le.mpr hl)), fun hl => congrArg _ (if_pos hl)⟩
  · have hx : (s.teller t).wrrq = (b, v) :: q := hq
    have hc : ¬ (t ≥ 16 ∨ s.isOff = true) := by simp [ht, hoff]
    rw [exec_wrrTakesEffect, execWrrTakesEffect, if_neg hc, hx]
    rfl
  · have hc : ¬ s.isOff = true := by simp [hoff]
    rw [exec_fabricTimeout, execFabricTimeout, if_neg hc]
    exact congrArg _ (execD_of_settled h hs _ _)
  · intro s1
    have hx : (s.teller t).wrrq = (b, v) :: q := hq
    have hs1 : s1.teller t = { x with wrrq := [], busErr := some b } := teller_setTeller_same ..
    have hr1 : s1.runs t = true := by
      rw [runs_iff] at h ⊢
      rw [hs1]
      exact h
    have hc : ¬ s.isOff = true := by simp [hoff]
    refine ⟨?_, ?_⟩
    · rw [exec_fabricTimeout, execFabricTimeout, if_neg hc, hx]
      refine congrArg _ (if_neg fun hreq => ?_)
      have hreq1 : (s1.teller t).rstReq = true := hreq.1
      rw [hs1] at hreq1
      exact absurd (hrst.symm.trans hreq1) Bool.false_ne_true
    · have hbody : s1.execD t (fun _ => none) (fun s => s.mapTeller t fun x => x.adv 1) =
          (s1.mapTeller t fun x => { x with busErr := none }).trap t trBuserr b := by
        rw [State.execD, execI_of_runs hr1, hs1]
        rfl
      have hset : (s1.mapTeller t fun x => { x with busErr := none }) =
          s.setTeller t { x with wrrq := [], busErr := none } := by
        rw [State.mapTeller, hs1]
        exact setTeller_setTeller s t _ _
      rw [exec_fence, execFence, hbody, hset]
      rfl

end Sys2Proof.Machine

namespace Sys2Proof.Machine

/-! Accesses through the register map: a plain register written, read-only windows aside (R5, R7, R26, R28). -/

/-- A register of the map with no behaviour of its own, outside blocks held in reset: its fields are written. -/
theorem regSpaceWrite_plain {s : State} {o : Origin} {a v : Nat} {fs : List Field} (hr : s.heldInReset a = false)
    (hw : roWindow a = false) (hm : regAt (windowMap a) a = some (.plain, fs)) (hb : blockRule a = false)
    (hp : pixelPort a = none) (ht : a ≠ TIM_REREG_LINES.addr) : s.regSpaceWrite o a v = s.regWrite a v fs := by
  have hc : ¬ (s.heldInReset a = true ∨ roWindow a = true) := by simp [hr, hw]
  simp only [State.regSpaceWrite, if_neg hc, hm, State.noteWrite, hp, State.mapWrite, hb, Bool.false_eq_true, if_false, if_neg ht]

theorem bar0Write_regSpace {s : State} {o : Origin} {a v : Nat} (ha : a % 4 = 0) (hlt : a < 0x1000000) :
    s.bar0Write o a v = s.regSpaceWrite o a (v % 2 ^ 32) := by
  rw [State.bar0Write, if_neg (not_not_intro ha), if_pos hlt]

/-- The blocks of the registers that stay in reset in some role lie in three ranges (R19). -/
theorem heldInReset_eq_false (s : State) {a : Nat} (h : a < 0x508100) : s.heldInReset a = false := by
  have h1 : decide (0x508100 ≤ a) = false := decide_eq_false (by omega)
  have h2 : decide (0x600000 ≤ a) = false := decide_eq_false (by omega)
  have h3 : decide (0xA80000 ≤ a) = false := decide_eq_false (by omega)
  simp [State.heldInReset, h1, h2, h3]

theorem hostWrite_bar0 (s : State) {a : Nat} (v : Nat) (h : a < 0x2000000) : s.hostWrite 0 a v = s.bar0Write .host a v :=
  if_pos h

section HostWrites

variable {s : State} (hoff : s.isOff = false)
include hoff

theorem execRegisterWrite_whole (bar a v : Nat) : execRegisterWrite bar a v 15 s = .next (s.hostAlive.hostWrite bar a v) := by
  simp [execRegisterWrite, hoff]

theorem execRegisterWrite_partial (bar a v : Nat) {be : Nat} (hbe : be % 16 ≠ 15) :
    execRegisterWrite bar a v be s = .next s.hostAlive := by
  simp [execRegisterWrite, hoff, hbe]

/-- A whole write of a plain register below the pixel domains' blocks. -/
theorem execRegisterWrite_plain {a v : Nat} {fs : List Field} (ha : a % 4 = 0) (hlt : a < 0x500000)
    (hw : roWindow a = false) (hm : regAt (windowMap a) a = some (.plain, fs)) (hb : blockRule a = false)
    (hp : pixelPort a = none) (ht : a ≠ TIM_REREG_LINES.addr) :
    execRegisterWrite 0 a v 15 s = .next (s.hostAlive.regWrite a (v % 2 ^ 32) fs) := by
  rw [execRegisterWrite_whole hoff, hostWrite_bar0 _ _ (by omega), bar0Write_regSpace ha (by omega),
    regSpaceWrite_plain (heldInReset_eq_false _ (by omega)) hw hm hb hp ht]

end HostWrites

/-! Values cut to the width of a field. -/

theorem part_word (f : Field) (v : Nat) (h : f.lo + f.width ≤ 32) : f.part (v % 2 ^ 32) = f.part v := by
  have hd : v % 2 ^ 32 / 2 ^ f.lo = v / 2 ^ f.lo % 2 ^ (32 - f.lo) := by
    rw [show 2 ^ 32 = 2 ^ f.lo * 2 ^ (32 - f.lo) by rw [← Nat.pow_add]; congr 1; omega, Nat.mod_mul_right_div_self]
  rw [Field.part, Field.part, hd]
  exact Nat.mod_mod_of_dvd _ (Nat.pow_dvd_pow 2 (by omega))

theorem setFld_mod (s : State) (f : Field) (v : Nat) : s.setFld f (v % 2 ^ f.width) = s.setFld f v := by
  rw [State.setFld, Nat.mod_mod]; rfl

section RegWrites

variable (s : State) (a v : Nat) {f : Field}

/-- A register of one field without a range. -/
theorem regWrite_any (hacc : f.acc = .rw) (hchk : f.chk = .any) : s.regWrite a v [f] = s.setFld f (f.part v) := by
  simp [State.regWrite, Field.bad, State.putField, hacc, hchk]

/-- A register of one field that is clamped. -/
theorem regWrite_clamp {lo hi : Nat} (hacc : f.acc = .rw) (hchk : f.chk = .clamp lo hi) :
    s.regWrite a v [f] = s.setFld f (clampN lo hi (f.part v)) := by
  simp [State.regWrite, Field.bad, State.putField, hacc, hchk]

end RegWrites

/-- A field of 16 bits clamped below by 256. -/
theorem clampN_eq_max (v : Nat) : clampN 256 0xFFFF (TIM_REVDB_DB.part v) = max 256 (v % 2 ^ 16) := by
  simp only [clampN, Field.part, TIM_REVDB_DB, Nat.pow_zero, Nat.div_one]
  have h := Nat.mod_lt v (show 0 < 2 ^ 16 by decide)
  split
  · omega
  · rw [if_neg (by omega)]; omega

/-- The watchdog register of each teller is a register of the map. -/
theorem regAt_wdog {k : Nat} (hk : k < 16) :
    regAt (windowMap (0x20100C + 0x100 * k)) (0x20100C + 0x100 * k) = some (.plain, [TLR_WDOG_US k]) := by
  interval_cases k <;> rfl

theorem pixelPort_eq_none {a : Nat} (h : a < 0x500100) : pixelPort a = none := by
  unfold pixelPort
  rw [if_neg (by omega), if_neg (by omega), if_neg (by omega), if_neg (by omega), if_neg (by omega), if_neg (by omega)]

theorem blockRule_eq_false {a : Nat} (h : a < 0x400000) : blockRule a = false := by
  simp only [blockRule, Bool.or_eq_false_iff, Bool.and_eq_false_iff, decide_eq_false_iff_not]
  omega

theorem roWindow_eq_false {a : Nat} (h : a < 0x2A0000) : roWindow a = false := by
  simp only [roWindow, Bool.or_eq_false_iff, Bool.and_eq_false_iff, decide_eq_false_iff_not]
  omega

/-! The I²C port. -/

theorem i2cAcks_iff {s : State} (hoff : s.isOff = false) (dev : Nat) :
    s.i2cAcks dev = true ↔ dev = 0x54 + s.pwr.straps.i2cAddr % 4 := by simp [State.i2cAcks, hoff]

/-- The key of a write of GLB_RESET is in its upper half. -/
theorem resetKey_part (v : Nat) : v % 2 ^ 32 / 2 ^ 16 = v / 2 ^ 16 % 2 ^ 16 := by omega

theorem keyed_of_wrong {key : Nat} (h : key ≠ 0xD00D) (s : State) (f : State → State) :
    s.keyed key f = s.setFld GLB_STATUS_KEYERR 1 := if_neg h

/-- Settles O22. -/
theorem hostAndI2cAccesses : Obligations.HostAndI2cAccesses := by
  unfold Obligations.HostAndI2cAccesses
  intro s a v be k dev hoff h here
  have hhere : s.i2cAcks here = true := (i2cAcks_iff hoff here).mpr rfl
  have plain {a : Nat} {fs : List Field} (ha : a % 4 = 0) (hlt : a < 0x2A0000) (ht : a ≠ 0x10005C)
      (hm : regAt (windowMap a) a = some (.plain, fs)) : exec (.registerWrite 0 a v 15) s = .next (h.regWrite a (v % 2 ^ 32) fs) :=
    execRegisterWrite_plain hoff ha (by omega) (roWindow_eq_false hlt) hm (blockRule_eq_false (by omega))
      (pixelPort_eq_none (by omega)) ht
  refine ⟨fun hbe bar a => execRegisterWrite_partial hoff bar a v hbe, fun bar a => execRegisterWrite_whole hoff bar a v,
    ?_, fun hk => ?_, ?_, ?_, ?_, fun ha hlt => ?_, fun hbad => ?_, fun ha => ?_, fun hkey => ?_, ?_, fun hdev => ?_⟩
  · rw [plain (by decide) (by decide) (by decide) (show _ = some (RegKind.plain, [TIM_REVDB_DB]) from rfl),
      regWrite_clamp _ _ _ rfl rfl, part_word _ _ (by decide), clampN_eq_max]
  · rw [plain (by omega) (by omega) (by omega) (regAt_wdog hk)]
    rw [regWrite_any _ _ _ rfl rfl, part_word _ _ (by simp only [TLR_WDOG_US]; decide)]
    exact congrArg _ ((setFld_mod _ _ _).trans (congrArg _ (Nat.div_one v)))
  · rw [plain (by decide) (by decide) (by decide)
      (show _ = some (RegKind.plain, [GLB_STATUS_ENERR, GLB_STATUS_DDHB, GLB_STATUS_KEYERR, GLB_STATUS_MAPERR]) from rfl)]
    simp only [State.regWrite, List.any_cons, List.any_nil, Field.bad, GLB_STATUS_ENERR, GLB_STATUS_DDHB, GLB_STATUS_KEYERR,
      GLB_STATUS_MAPERR, Bool.or_false, Bool.false_eq_true, if_false, List.foldl_cons, List.foldl_nil, State.putField]
    simp only [part_word, Nat.reduceAdd, Nat.reduceLeDiff]
    rfl
  · exact execRegisterWrite_whole hoff 0 0x1400000 v
  · rw [exec_vltAliasdataWrite, execVltAliasdataWrite, hoff]
    rfl
  · have hc : ¬ (a % 4 ≠ 0 ∨ a ≥ 0x1000000) := by omega
    rw [exec_i2cRead, execI2cRead, hhere, if_neg hc]
    rfl
  · rw [exec_i2cRead, execI2cRead, hhere, if_pos hbad]
    rfl
  · rw [exec_i2cWrite, execI2cWrite, hhere]
    exact congrArg _ (if_neg ha)
  · rw [exec_i2cWrite, execI2cWrite, hhere]
    have hk : v % 2 ^ 32 / 2 ^ 16 ≠ 0xD00D := resetKey_part v ▸ hkey
    exact congrArg _ (keyed_of_wrong hk s fun s => _)
  · rw [exec_i2cWrite, execI2cWrite, hhere]
    rfl
  · have hno : s.i2cAcks dev = false := Bool.eq_false_iff.mpr fun hc => hdev ((i2cAcks_iff hoff dev).mp hc)
    rw [exec_i2cRead, execI2cRead, exec_i2cWrite, execI2cWrite, hno]
    exact ⟨rfl, rfl⟩

/-! Reads that capture. -/

/-- A register of TIM and CLD that its block shows reads what the block shows. -/
theorem bar0Read_tim {s : State} {o : Origin} {a : Nat} {r : Nat × State} (ha : a % 4 = 0) (hb : a / 0x100000 = 1)
    (hm : (regAt (windowMap a) a).isSome = true) (ht : s.timRead a = some r) : s.bar0Read o a = r := by
  obtain ⟨x, hx⟩ := Option.isSome_iff_exists.mp hm
  have hv : s.viewRead o a = some r := by rw [State.viewRead, hb]; exact ht
  rw [State.bar0Read, if_neg (not_not_intro ha), if_pos (by omega), State.regSpaceRead, hx]
  simp only [heldInReset_eq_false s (show a < 0x508100 by omega), Bool.false_eq_true, if_false, hv, Option.getD_some]

section CapturedReads

variable (s : State) (o : Origin)

theorem bar0Read_wposHi : s.bar0Read o 0x100004 = (s.pos.capWpos, s) := bar0Read_tim rfl rfl (by decide) rfl
theorem bar0Read_hwmHi : s.bar0Read o 0x100054 = (s.pos.capHwm, s) := bar0Read_tim rfl rfl (by decide) rfl
theorem bar0Read_calTime : s.bar0Read o 0x108004 = (s.pos.capDate.2.1, s) := bar0Read_tim rfl rfl (by decide) rfl
theorem bar0Read_calNs : s.bar0Read o 0x108008 = (s.pos.capDate.2.2, s) := bar0Read_tim rfl rfl (by decide) rfl
theorem bar0Read_wallHi : s.bar0Read o 0x10802C = (s.pos.capWall, s) := bar0Read_tim rfl rfl (by decide) rfl

end CapturedReads

/-- A read that captures into the position's record `p` and answers `v`. -/
theorem answerRead_setPos (s : State) (a v : Nat) (p : Posn) :
    s.answerRead a (v, s.setPos p) = { s with pos := p, out := s.out ++ [.port "read" a [v]] } := rfl

/-- The wall time stays one number here: unfolded it is a sum of a very large product. -/
theorem answerRead_readWall (s : State) : s.answerRead CLD_WTLO_WT.addr s.readWall =
    { s with
      pos := { s.pos with capWall := s.wall / 2 ^ 32 % 2 ^ 32 }
      out := s.out ++ [.port "read" 0x108028 [s.wall % 2 ^ 32]] } := by
  rw [State.readWall, answerRead_setPos]
  rfl

/-- Settles O23: each read answers and captures at once, and the high registers show what was captured. -/
theorem capturingReads : Obligations.CapturingReads := by
  unfold Obligations.CapturingReads
  intro s hoff answers
  have next {x u : State} (h : (.next (if s.isOff = true then s else x) : Host.Outcome State Fault Refusal) = .next u) : u = x := by
    rw [hoff] at h
    exact (Host.Outcome.next.inj h).symm
  have done (x : State) : (.next (if s.isOff = true then s else x) : Host.Outcome State Fault Refusal) = .next x := by
    rw [hoff]; rfl
  refine ⟨done _, done _, (done _).trans (congrArg _ (answerRead_readWall s)), ⟨done _, fun t ht => ?_⟩, fun t ht => ?_, fun t ht => ?_, fun t ht => ?_⟩
  · rw [next ht, bar0Read_calTime, bar0Read_calNs]
    exact ⟨rfl, rfl⟩
  · rw [next ht, bar0Read_wposHi]
    rfl
  · rw [next ht, bar0Read_hwmHi]
    rfl
  · rw [next ht, bar0Read_wallHi, answerRead_readWall]

end Sys2Proof.Machine

namespace Sys2Proof.Machine

/-! ARM and DISARM (R73, R97). -/

section Comparators

variable (s : State) (n : Nat)

@[simp] theorem cmp_setCmp_same (c : Cmp) : (s.setCmp n c).cmp n = c := tabGet_tabSet_same _ _ _ _

theorem cmp_setCmp_ne (c : Cmp) {m : Nat} (h : m ≠ n) : (s.setCmp n c).cmp m = s.cmp m := tabGet_tabSet_ne _ _ _ _ _ h _

theorem cmp_armCmp_same (target : Nat) :
    (s.armCmp n target).cmp n = ⟨target, s.armSeq, true, true, false, false, false, false, false⟩ := tabGet_tabSet_same _ _ _ _

theorem cmp_armCmp_ne (target : Nat) {m : Nat} (h : m ≠ n) : (s.armCmp n target).cmp m = s.cmp m :=
  tabGet_tabSet_ne _ _ _ _ _ h _

theorem disarmCmp_of_disarmed (h : (s.cmp n).armed = false) : s.disarmCmp n = s := by simp [State.disarmCmp, h]

theorem disarmCmp_of_armed (h : (s.cmp n).armed = true) :
    s.disarmCmp n = s.setCmp n { s.cmp n with armed := false, held := false } := by simp [State.disarmCmp, h]

end Comparators

/-- Settles O24. -/
theorem armAndDisarm : Obligations.ArmAndDisarm := by
  unfold Obligations.ArmAndDisarm
  intro s t ps n h hs x target
  refine ⟨fun hn => ?_, fun hn => ?_⟩
  · have harm : exec (.arm t ps n) s = .next ((s.armCmp n target).mapTeller t fun x => x.adv 2) := by
      rw [exec_arm, execArm, execD_of_settled h hs, if_pos hn]
      rfl
    have hdis : exec (.disarm t n) s = .next ((s.disarmCmp n).mapTeller t fun x => x.adv 2) := by
      rw [exec_disarm, execDisarm, execD_of_settled h hs, if_pos hn]
      rfl
    refine ⟨⟨_, harm, cmp_armCmp_same s n target, rfl, fun m hm => cmp_armCmp_ne s n target hm, teller_mapTeller_same .., rfl⟩,
      fun ha => ?_, fun ha => ?_⟩
    · rw [hdis, disarmCmp_of_disarmed s n ha]
      rfl
    · rw [disarmCmp_of_armed s n ha] at hdis
      exact ⟨_, hdis, congrArg Cmp.armed (cmp_setCmp_same s n _), fun m hm => cmp_setCmp_ne s n _ hm, teller_mapTeller_same .., rfl⟩
  · have refused (body : State → State) :
        s.execD t (fun _ => if n / 256 = t then none else some (trAccess, n)) body = s.trap t 5 n := by
      rw [execD_of_settled h hs, if_neg hn]
      rfl
    exact ⟨congrArg _ (refused _), congrArg _ (refused _)⟩

/-! The action stream where a WRR of the same teller cycle meets the action. -/

/-- A fabric write of STO_FORMAT that waits at the front of the stream, in a cycle in which a WRR has written the register. -/
def yieldingState : State :=
  { State.reset with stream := [⟨0, 1, STO_FORMAT_KEY.addr, 0, false⟩], wrrNow := [(1, STO_FORMAT_KEY.addr, 0)] }

theorem yieldingState_yields : yieldingState.actYields ⟨0, 1, STO_FORMAT_KEY.addr, 0, false⟩ = true := by decide +kernel

/-- The acknowledgement leaves the action at the front, acknowledged, for the next cycle. -/
theorem actionFabricAck_of_yields {s : State} {a : Act} {rest : List Act} (hs : s.stream = a :: rest) (hoff : s.isOff = false)
    (hslow : a.slow = true) (hy : s.actYields a = true) :
    execActionFabricAck s = .next { s with stream := { a with acked := true } :: rest } := by
  have hc : ¬ (s.isOff = true ∨ ¬ a.slow = true) := by simp [hoff, hslow]
  rw [execActionFabricAck, hs]
  simp only [if_neg hc, hy, if_true]

/-- Refutes O25: an acknowledged action yields to a WRR of the same cycle at a register that acts as it is written (R87), and
stays in the stream, where the statement has it take effect. -/
theorem not_actionTable : ¬ Obligations.ActionTable := by
  unfold Obligations.ActionTable
  intro h
  obtain ⟨-, -, -, -, -, -, hack⟩ := h yieldingState 0 0 0 0 0 (by decide) (by decide) (by decide)
  obtain ⟨hack, -⟩ := hack ⟨0, 1, STO_FORMAT_KEY.addr, 0, false⟩ [] rfl (by decide)
  have hleft := actionFabricAck_of_yields (s := yieldingState) rfl (by decide) (by decide) yieldingState_yields
  have hnone : ((({ yieldingState with stream := [] }.act ⟨0, 1, STO_FORMAT_KEY.addr, 0, false⟩).drainStream).stream).length = 0 := by
    decide +kernel
  have heq := Host.Outcome.next.inj (hleft.symm.trans hack)
  rw [← heq] at hnone
  exact absurd hnone (by decide)

/-! Two comparators that force one output. -/

theorem gdr_ilkcnt_key_ne (c k : Nat) (hk : k < 5) : (TAU_P0EN_BITS k).key ≠ (GDR_ILKCNT_ILKCNT c).key := by
  simp only [Field.key, TAU_P0EN_BITS, GDR_ILKCNT_ILKCNT]; omega

theorem gdr_ilk_key_ne (k : Nat) (hk : k < 5) : (TAU_P0EN_BITS k).key ≠ GDR_STATUS_ILK.key := by
  simp only [Field.key, TAU_P0EN_BITS, GDR_STATUS_ILK]; omega

/-- The interlock counts its events, and forces no gate. -/
theorem p0en_interlock (k : Nat) (hk : k < 5) : ∀ (n : Nat) (s : State),
    (s.interlock n).fld (TAU_P0EN_BITS k) = s.fld (TAU_P0EN_BITS k)
  | 0, _ => rfl
  | n + 1, s => by
    have hevent : (s.ilkEvent n).fld (TAU_P0EN_BITS k) = s.fld (TAU_P0EN_BITS k) := by
      rw [State.ilkEvent, State.setOn, fld_setFld_ne _ _ (gdr_ilk_key_ne k hk), State.inc,
        fld_setFld_ne _ _ (gdr_ilkcnt_key_ne n k hk)]
    rw [State.interlock, p0en_interlock k hk n, State.ilkCheck]
    split
    · exact hevent
    · rfl
    · rfl

/-- Two comparators whose entries force no output of group 0, crossed together; the stored value of TAU_P0EN0 has a bit
beyond the register's 32, which its next write drops. -/
def wideForceState : State :=
  { State.reset with
    regs := [((TAU_P0EN_BITS 0).key, 2 ^ 32), ((TAU_ENTCTL_CTL 0).key, 4), ((TAU_ENTCTL_CTL 1).key, 4)]
    cmps := [(0, ⟨0, 0, true, false, false, false, false, false, false⟩), (1, ⟨0, 1, true, false, false, false, false, false, false⟩)] }

theorem wideForceState_crossing : ∃ u, exec .comparatorCrossing wideForceState = .next u ∧ u.fld (TAU_P0EN_BITS 0) = 0 :=
  ⟨_, rfl, by decide +kernel⟩

/-- Refutes O26: the statement's second part keeps every bit of the enable mask before, on every state; a force writes the
register's 32 bits alone. -/
theorem not_comparatorOutcomes : ¬ Obligations.ComparatorOutcomes := by
  unfold Obligations.ComparatorOutcomes
  rintro ⟨-, h⟩
  obtain ⟨-, hforce⟩ := h wideForceState 0 1 _ _ rfl rfl (by decide) (by decide) rfl rfl rfl rfl rfl rfl (by decide) (by decide) rfl
  obtain ⟨s0, hexec, hen, -⟩ := hforce (by decide) (by decide) (by decide) (by decide) rfl (by rintro k (rfl | rfl) <;> decide)
  obtain ⟨u, hu, hzero⟩ := wideForceState_crossing
  have heq := Host.Outcome.next.inj (hu.symm.trans hexec)
  have hkeeps : s0.fld (TAU_P0EN_BITS 0) = 0 := by
    rw [← p0en_interlock 0 (by decide) 52 s0, ← heq]
    exact hzero
  have hwide : s0.fld (TAU_P0EN_BITS 0) = 2 ^ 32 := hen
  omega

end Sys2Proof.Machine

namespace Sys2Proof.Machine

/-! Operations on each teller of a mask (R90, R95). -/

/-- `u` is `s` with every teller mapped, and nothing else changed. -/
def TellersMapped (s u : State) (f : Nat → Teller → Teller) : Prop :=
  (∀ t, u.teller t = f t (s.teller t)) ∧ { u with tellers := s.tellers } = s

theorem tellersMapped_of_setTeller (s : State) (t : Nat) (x : Teller) :
    TellersMapped s (s.setTeller t x) fun u y => if u = t then x else y := by
  refine ⟨fun u => ?_, rfl⟩
  by_cases hu : u = t
  · subst hu
    simp
  · simp only [teller_setTeller_ne _ _ hu, if_neg hu]

theorem TellersMapped.trans {s u v : State} {f g : Nat → Teller → Teller} (h : TellersMapped s u f) (k : TellersMapped u v g) :
    TellersMapped s v fun t x => g t (f t x) := by
  refine ⟨fun t => (k.1 t).trans (congrArg _ (h.1 t)), ?_⟩
  calc { v with tellers := s.tellers } = { { v with tellers := u.tellers } with tellers := s.tellers } := rfl
    _ = { u with tellers := s.tellers } := by rw [k.2]
    _ = s := h.2

theorem TellersMapped.congr {s u : State} {f g : Nat → Teller → Teller} (h : TellersMapped s u f)
    (hg : ∀ t, f t (s.teller t) = g t (s.teller t)) : TellersMapped s u g := ⟨fun t => (h.1 t).trans (hg t), h.2⟩

/-- An operation that maps one teller, on each teller of a mask below `n`. -/
theorem eachTeller_mapped {op : Nat → State → State} {f : Teller → Teller}
    (hop : ∀ t s, TellersMapped s (op t s) fun u x => if u = t then f x else x) (mask : Nat) (s : State) : ∀ n,
    TellersMapped s (s.eachTeller op mask n) fun u x => if u < n ∧ mask.testBit u = true then f x else x
  | 0 => ⟨fun _ => rfl, rfl⟩
  | n + 1 => by
    have ih := eachTeller_mapped hop mask s n
    by_cases hb : mask.testBit n = true
    · rw [State.eachTeller, if_pos hb]
      refine (ih.trans (hop n _)).congr fun u => ?_
      by_cases hu : u = n
      · subst hu
        simp [hb]
      · simp only [hu, if_false, Nat.lt_succ_iff_lt_or_eq, or_false]
    · rw [State.eachTeller, if_neg hb]
      refine ih.congr fun u => ?_
      by_cases hu : u = n
      · subst hu
        simp [hb]
      · simp only [Nat.lt_succ_iff_lt_or_eq, hu, or_false]

/-- A teller mapped where a condition on it holds, and the node unchanged where it does not. -/
theorem tellersMapped_ite (s : State) (t : Nat) (c : Prop) [Decidable c] (f : Teller → Teller) :
    TellersMapped s (if c then s.mapTeller t f else s) fun u x => if u = t then (if c then f x else x) else x := by
  split
  case isTrue hc =>
    refine (tellersMapped_of_setTeller s t (f (s.teller t))).congr fun u => ?_
    by_cases hu : u = t
    · rw [hu]
    · simp only [if_neg hu]
  case isFalse hc => exact ⟨fun u => by simp, rfl⟩

theorem isHalted_iff (x : Teller) : x.isHalted = true ↔ x.st = .halted ∨ x.st = .trapHalted := by simp [Teller.isHalted]

/-- A halted teller with no reset due runs from its PC. -/
def Teller.gone (x : Teller) : Teller :=
  if (x.st = .halted ∨ x.st = .trapHalted) ∧ x.rstReq = false then { x with st := .running, wait := .none } else x

/-- A teller that is not halted halts, or asks for it while it is at the commit port. -/
def Teller.stopped (x : Teller) : Teller :=
  if x.st = .halted ∨ x.st = .trapHalted then x
  else if x.wait = .port then { x with stopReq := true }
  else { x with st := .halted, wait := .none, stopReq := false }

theorem tellerGo_mapped (t : Nat) (s : State) : TellersMapped s (s.tellerGo t) fun u x => if u = t then x.gone else x := by
  refine (tellersMapped_ite s t _ _).congr fun u => ?_
  by_cases hu : u = t
  · simp only [hu, if_true, Teller.gone, isHalted_iff, Bool.not_eq_true]
  · simp only [if_neg hu]

theorem tellerStop_mapped (t : Nat) (s : State) : TellersMapped s (s.tellerStop t) fun u x => if u = t then x.stopped else x := by
  have hset (x : Teller) (hx : (s.teller t).stopped = x) :
      TellersMapped s (s.setTeller t x) fun u x => if u = t then x.stopped else x :=
    (tellersMapped_of_setTeller s t x).congr fun u => by
      by_cases hu : u = t
      · simp only [hu, if_true, hx]
      · simp only [if_neg hu]
  unfold State.tellerStop
  dsimp only
  split
  case isTrue hh =>
    have hx : (s.teller t).stopped = s.teller t := if_pos ((isHalted_iff _).mp hh)
    refine ⟨fun u => ?_, rfl⟩
    by_cases hu : u = t
    · simp only [hu, if_true, hx]
    · simp only [if_neg hu]
  case isFalse hh =>
    have hn : ¬ ((s.teller t).st = .halted ∨ (s.teller t).st = .trapHalted) := mt (isHalted_iff _).mpr hh
    split
    case isTrue hw => exact hset _ (by rw [Teller.stopped, if_neg hn, if_pos hw])
    case isFalse hw => exact hset _ (by rw [Teller.stopped, if_neg hn, if_neg hw])

/-- Settles O27. -/
theorem tellerControl : Obligations.TellerControl := by
  unfold Obligations.TellerControl
  intro s mask hoff each
  have on {u : State} : Host.Outcome.next (if s.isOff = true then s else u) = (.next u : Host.Outcome State Fault Refusal) :=
    congrArg _ (if_neg (by simp [hoff]))
  refine ⟨⟨_, on, eachTeller_mapped tellerGo_mapped mask s 16⟩, ⟨_, on, eachTeller_mapped tellerStop_mapped mask s 16⟩,
    fun key hkey => on.trans (congrArg _ (if_neg hkey))⟩

end Sys2Proof.Machine

namespace Sys2Proof.Machine

/-! What events, messages and mirror records leave alone: the node but for its registers and what leaves it, and its
tellers but for TEV. -/

/-- The node without registers, outputs, event and ring queues, incidents and tellers, and its tellers without TEV. -/
structure Quiet where
  node : State
  tellers : Nat → Teller

/-- A teller, TEV aside, and the tellers of a table. -/
def Teller.sansTev (x : Teller) : Teller := { x with tev := 0 }

def sansTev (m : Tab Teller) (t : Nat) : Teller := (tabGet Teller.init m t).sansTev

def State.quiet (s : State) : Quiet :=
  ⟨{ s with
      regs := [], tellers := [], out := [], links := [], held := [], modOpen := [], modPend := [], mirror := Mirror.init
      incidents := [], posted := [], mbr := [], freeCtr := 0 },
    sansTev s.tellers⟩

@[simp] theorem quiet_mk {regs tellers pm dm pmErr dmErr cmps armSeq stream wrrNow orders books locks esc pos time held modOpen modPend incidents viols links peers mirror claims inbox posted mbw mbr bodies mbCmd loading pwr scan refs head expo store dma dram plant keys fwRollback hellos dly fec tap flash images freeCtr out pending} :
    (State.mk regs tellers pm dm pmErr dmErr cmps armSeq stream wrrNow orders books locks esc pos time held modOpen modPend incidents viols links peers mirror claims inbox posted mbw mbr bodies mbCmd loading pwr scan refs head expo store dma dram plant keys fwRollback hellos dly fec tap flash images freeCtr out pending).quiet =
      ⟨State.mk [] [] pm dm pmErr dmErr cmps armSeq stream wrrNow orders books locks esc pos time [] [] [] [] viols [] peers Mirror.init claims inbox [] mbw [] bodies mbCmd loading pwr scan refs head expo store dma dram plant keys fwRollback hellos dly fec tap flash images 0 [] pending,
        sansTev tellers⟩ := rfl

@[simp] theorem quiet_fold (s : State) :
    Quiet.mk (State.mk [] [] s.pm s.dm s.pmErr s.dmErr s.cmps s.armSeq s.stream s.wrrNow s.orders s.books s.locks s.esc s.pos s.time [] [] [] [] s.viols [] s.peers Mirror.init s.claims s.inbox [] s.mbw [] s.bodies s.mbCmd s.loading s.pwr s.scan s.refs s.head s.expo s.store s.dma s.dram s.plant s.keys s.fwRollback s.hellos s.dly s.fec s.tap s.flash s.images 0 [] s.pending)
      (sansTev s.tellers) = s.quiet := rfl

/-- A teller set that differs from the old one in TEV alone. -/
theorem quiet_setTeller {s : State} {t : Nat} {x : Teller} (h : x.sansTev = (s.teller t).sansTev) :
    (s.setTeller t x).quiet = s.quiet := by
  have ht : sansTev (s.setTeller t x).tellers = sansTev s.tellers := by
    funext u
    by_cases hu : u = t
    · subst hu
      exact (congrArg Teller.sansTev (teller_setTeller_same s u x)).trans h
    · exact congrArg Teller.sansTev (teller_setTeller_ne s x hu)
  exact congrArg (Quiet.mk _) ht

@[simp] theorem quiet_ite (c : Prop) [Decidable c] (s t : State) : (if c then s else t).quiet = if c then s.quiet else t.quiet := apply_ite _ c s t

@[simp] theorem quiet_foldl {α : Type} {f : State → α → State} (h : ∀ u a, (f u a).quiet = u.quiet) (l : List α) (s : State) :
    (l.foldl f s).quiet = s.quiet := by
  induction l generalizing s with
  | nil => rfl
  | cons a l ih => rw [List.foldl_cons, ih, h]

@[simp] theorem quiet_setFld (s : State) (f : Field) (v : Nat) : (s.setFld f v).quiet = s.quiet := by
  simp [State.setFld]

@[simp] theorem quiet_setOn (s : State) (f : Field) : (s.setOn f).quiet = s.quiet := by
  simp [State.setOn]

@[simp] theorem quiet_setOff (s : State) (f : Field) : (s.setOff f).quiet = s.quiet := by
  simp [State.setOff]

@[simp] theorem quiet_setBool (s : State) (f : Field) (b : Bool) : (s.setBool f b).quiet = s.quiet := by
  simp [State.setBool]

@[simp] theorem quiet_inc (s : State) (f : Field) : (s.inc f).quiet = s.quiet := by
  simp [State.inc]

@[simp] theorem quiet_incBy (s : State) (f : Field) (n : Nat) : (s.incBy f n).quiet = s.quiet := by
  simp [State.incBy]

@[simp] theorem quiet_incWrap (s : State) (f : Field) : (s.incWrap f).quiet = s.quiet := by
  simp [State.incWrap]

@[simp] theorem quiet_setFbit (s : State) (f : Field) (i : Nat) : (s.setFbit f i).quiet = s.quiet := by
  simp [State.setFbit]

@[simp] theorem quiet_clrFbit (s : State) (f : Field) (i : Nat) : (s.clrFbit f i).quiet = s.quiet := by
  simp [State.clrFbit]

@[simp] theorem quiet_emit (s : State) (o : Out) : (s.emit o).quiet = s.quiet := by
  simp [State.emit]

@[simp] theorem quiet_badAcc (s : State) : s.badAcc.quiet = s.quiet := by
  simp [State.badAcc]

@[simp] theorem quiet_ball (s : State) (o : Out) : (s.ball o).quiet = s.quiet := by
  simp [State.ball]

@[simp] theorem quiet_setTev (s : State) (t bit : Nat) : (s.setTev t bit).quiet = s.quiet := quiet_setTeller rfl

@[simp] theorem quiet_setTevMask (s : State) (mask bit : Nat) (n : Nat) : (s.setTevMask mask bit n).quiet = s.quiet := by
  induction n generalizing s with
  | zero => simp [State.setTevMask]
  | succ n ih => simp [State.setTevMask, ih]

@[simp] theorem quiet_free (s : State) (m : Nat) : (s.free m).2.quiet = s.quiet := by
  simp [State.free]

@[simp] theorem quiet_msix (s : State) (vec : Nat) : (s.msix vec).quiet = s.quiet := by
  simp [State.msix]

@[simp] theorem quiet_recordWritten (s : State) (a : Nat) : (s.recordWritten a).quiet = s.quiet := by
  simp [State.recordWritten]

@[simp] theorem quiet_mbIrq (s : State) (a : Nat) : (s.mbIrq a).quiet = s.quiet := by
  simp [State.mbIrq]

@[simp] theorem quiet_hostDo (s : State) (x : HostItem) : (s.hostDo x).quiet = s.quiet := by
  unfold State.hostDo
  split <;> simp

@[simp] theorem quiet_setLink (s : State) (d : Nat) (l : Link) : (s.setLink d l).quiet = s.quiet := by
  simp [State.setLink]

@[simp] theorem quiet_frameOut (s : State) (d : Nat) (f : RingFrame) : (s.frameOut d f).quiet = s.quiet := by
  simp [State.frameOut]

@[simp] theorem quiet_rawOut (s : State) (d : Nat) (f : RingFrame) : (s.rawOut d f).quiet = s.quiet := by
  simp [State.rawOut]

@[simp] theorem quiet_ringSend1 (s : State) (d : Nat) (dst : Option Nat) (m : RingMsg) : (s.ringSend1 d dst m).quiet = s.quiet := by
  simp [State.ringSend1]

@[simp] theorem quiet_ringBoth (s : State) (dst : Option Nat) (m : RingMsg) : (s.ringBoth dst m).quiet = s.quiet := by
  simp [State.ringBoth]

@[simp] theorem quiet_beaconOut (s : State) (b : Beacon) : (s.beaconOut b).quiet = s.quiet := by
  simp [State.beaconOut]

@[simp] theorem quiet_linkctlOut (s : State) (d lseq : Nat) (nak : Bool) : (s.linkctlOut d lseq nak).quiet = s.quiet := by
  simp [State.linkctlOut]

@[simp] theorem quiet_ringUni (s : State) (ep : Nat) (m : RingMsg) : (s.ringUni ep m).quiet = s.quiet := by
  simp [State.ringUni]

@[simp] theorem quiet_mirrorSend (s : State) (teller status inst aux : Nat) (d : MirData) : (s.mirrorSend teller status inst aux d).quiet = s.quiet := by
  simp [State.mirrorSend]

@[simp] theorem quiet_hostOut (s : State) (i : HostItem) : (s.hostOut i).quiet = s.quiet := by
  simp [State.hostOut]

@[simp] theorem quiet_writeRecord (s : State) (a : Nat) (r : EventRec) : (s.writeRecord a r).quiet = s.quiet := by
  simp [State.writeRecord]

@[simp] theorem quiet_setHeld (s : State) (a : Nat) (l : List EventRec) : (s.setHeld a l).quiet = s.quiet := by
  simp [State.setHeld]

@[simp] theorem quiet_appendRecord (s : State) (a : Nat) (mk : Nat → Nat → EventRec) : (s.appendRecord a mk).quiet = s.quiet := by
  simp [State.appendRecord]

@[simp] theorem quiet_postAt (s : State) (a type detail sub incident wpos : Nat) (stby : Bool) : (s.postAt a type detail sub incident wpos stby).quiet = s.quiet := by
  simp [State.postAt]

@[simp] theorem quiet_postW (s : State) (a type detail sub incident wpos : Nat) : (s.postW a type detail sub incident wpos).quiet = s.quiet := by
  simp [State.postW]

@[simp] theorem quiet_post (s : State) (a type detail sub incident : Nat) : (s.post a type detail sub incident).quiet = s.quiet := by
  simp [State.post]

@[simp] theorem quiet_postIf (s : State) (en acct : Field) (type detail sub incident : Nat) : (s.postIf en acct type detail sub incident).quiet = s.quiet := by
  simp [State.postIf]

@[simp] theorem quiet_msgPosted (s : State) (src dst : Nat) : (s.msgPosted src dst).quiet = s.quiet := by
  simp [State.msgPosted]

@[simp] theorem quiet_msgDone (s : State) (src dst : Nat) : (s.msgDone src dst).quiet = s.quiet := by
  simp [State.msgDone]

@[simp] theorem quiet_msgFail (s : State) (src dst status : Nat) : (s.msgFail src dst status).quiet = s.quiet := by
  simp [State.msgFail]

@[simp] theorem quiet_drainHeld (s : State) (a : Nat) (n : Nat) : (s.drainHeld a n).quiet = s.quiet := by
  induction n generalizing s with
  | zero => rfl
  | succ n ih =>
    unfold State.drainHeld
    split
    · rfl
    · split
      · rfl
      · rw [ih]; simp

@[simp] theorem quiet_setBlk (s : State) (b v : Nat) : (s.setBlk b v).quiet = s.quiet := by
  simp [State.setBlk]

@[simp] theorem quiet_setIncident (s : State) (b : Nat) (i : Incident) : (s.setIncident b i).quiet = s.quiet := by
  simp [State.setIncident]

@[simp] theorem quiet_newIncident (s : State) : s.newIncident.2.quiet = s.quiet := by
  simp [State.newIncident]

@[simp] theorem quiet_postFault (s : State) (b type detail : Nat) : (s.postFault b type detail).quiet = s.quiet := by
  simp [State.postFault]

@[simp] theorem quiet_openIncident (s : State) (b src : Nat) (given : Option Nat) : (s.openIncident b src given).quiet = s.quiet := by
  unfold State.openIncident
  dsimp only
  split <;> simp

@[simp] theorem quiet_raiseWith (s : State) (b src : Nat) (given : Option Nat) : (s.raiseWith b src given).quiet = s.quiet := by
  simp [State.raiseWith]

@[simp] theorem quiet_raise (s : State) (b src : Nat) : (s.raise b src).quiet = s.quiet := by
  simp [State.raise]

@[simp] theorem quiet_setMirror (s : State) (m : Mirror) : (s.setMirror m).quiet = s.quiet := rfl

@[simp] theorem quiet_wakeBook (s : State) (a b : Nat) : ∀ n, (s.wakeBook a b n).quiet = s.quiet := by
  intro n
  induction n generalizing s with
  | zero => rfl
  | succ n ih =>
    rw [State.wakeBook, ih]
    split
    · exact quiet_setTev s n _
    · rfl

/-! What it keeps, by name. -/

section

variable {s u : State} (h : u.quiet = s.quiet)
include h

theorem node_of_quiet {α : Type} (f : State → α) : f u.quiet.node = f s.quiet.node := congrArg (fun q => f q.node) h

theorem orders_of_quiet : u.orders = s.orders := node_of_quiet h State.orders
theorem books_of_quiet : u.books = s.books := node_of_quiet h State.books
theorem claims_of_quiet : u.claims = s.claims := node_of_quiet h State.claims
theorem inbox_of_quiet : u.inbox = s.inbox := node_of_quiet h State.inbox
theorem cmps_of_quiet : u.cmps = s.cmps := node_of_quiet h State.cmps
theorem stream_of_quiet : u.stream = s.stream := node_of_quiet h State.stream
theorem dm_of_quiet : u.dm = s.dm := node_of_quiet h State.dm
theorem dmErr_of_quiet : u.dmErr = s.dmErr := node_of_quiet h State.dmErr
theorem esc_of_quiet : u.esc = s.esc := node_of_quiet h State.esc

theorem teller_of_quiet (t : Nat) : (u.teller t).sansTev = (s.teller t).sansTev := congrFun (congrArg Quiet.tellers h) t

theorem getG_of_quiet (t r : Nat) : (u.teller t).getG r = (s.teller t).getG r := by
  have ht := teller_of_quiet h t
  exact (congrArg (Teller.getG · r) ht : (u.teller t).sansTev.getG r = (s.teller t).sansTev.getG r)

theorem pc_of_quiet (t : Nat) : (u.teller t).pc = (s.teller t).pc := by
  have ht := teller_of_quiet h t
  exact (congrArg Teller.pc ht : (u.teller t).sansTev.pc = (s.teller t).sansTev.pc)

theorem st_of_quiet (t : Nat) : (u.teller t).st = (s.teller t).st := by
  have ht := teller_of_quiet h t
  exact (congrArg Teller.st ht : (u.teller t).sansTev.st = (s.teller t).sansTev.st)

end

end Sys2Proof.Machine

namespace Sys2Proof.Machine

/-! The entries of a table. -/

section Entries

variable {α : Type}

theorem mem_of_mem_tabDrop {x : Nat × α} {k : Nat} : ∀ {m : Tab α}, x ∈ tabDrop k m → x ∈ m
  | [], h => h
  | (k', v) :: m, h => by
    rw [tabDrop] at h
    split at h
    · exact List.mem_cons_of_mem _ (mem_of_mem_tabDrop h)
    · exact h

/-- A write brings its own entry and no other. -/
theorem mem_of_mem_tabSet [DecidableEq α] {d v : α} {x : Nat × α} {k : Nat} : ∀ {m : Tab α}, x ∈ tabSet d m k v →
    (x = (k, v) ∧ v ≠ d) ∨ x ∈ m
  | [], h => by
    rw [tabSet] at h
    split at h
    case isTrue => simp at h
    case isFalse hv => exact .inl ⟨List.mem_singleton.mp h, hv⟩
  | (k', v') :: m, h => by
    rw [tabSet] at h
    split at h
    · rcases List.mem_cons.mp h with h | h
      · exact .inr (h ▸ List.mem_cons_self ..)
      · exact (mem_of_mem_tabSet h).imp_right (List.mem_cons_of_mem _)
    · split at h
      case isTrue => exact .inr (mem_of_mem_tabDrop h)
      case isFalse hv =>
        rcases List.mem_cons.mp h with h | h
        · exact .inl ⟨h, hv⟩
        · exact .inr (mem_of_mem_tabDrop h)

theorem mem_of_tabGet {d v : α} {k : Nat} : ∀ {m : Tab α}, tabGet d m k = v → v ≠ d → (k, v) ∈ m
  | [], h, hv => absurd h.symm hv
  | (k', v') :: m, h, hv => by
    rw [tabGet] at h
    split at h
    case isTrue hk => rw [hk, h]; exact List.mem_cons_self ..
    case isFalse =>
      split at h
      · exact absurd h.symm hv
      · exact List.mem_cons_of_mem _ (mem_of_tabGet h hv)

theorem lt_of_mem_above [DecidableEq α] {d : α} {k j : Nat} {v : α} : ∀ {m : Tab α}, tabAbove k m = true → tabWf d m = true →
    (j, v) ∈ m → k < j
  | (k', v') :: m, ha, hw, h => by
    simp only [tabAbove, decide_eq_true_eq] at ha
    simp only [tabWf, Bool.and_eq_true] at hw
    rcases List.mem_cons.mp h with h | h
    · cases h; exact ha
    · exact Nat.lt_trans ha (lt_of_mem_above hw.1.2 hw.2 h)

/-- In a canonical table every entry is what its key reads, and none is the default. -/
theorem tabGet_of_mem [DecidableEq α] {d : α} {k : Nat} {v : α} : ∀ {m : Tab α}, tabWf d m = true → (k, v) ∈ m →
    tabGet d m k = v ∧ v ≠ d
  | (k', v') :: m, hw, h => by
    simp only [tabWf, Bool.and_eq_true, decide_eq_true_eq] at hw
    obtain ⟨⟨hv, habove⟩, hrest⟩ := hw
    rcases List.mem_cons.mp h with h | h
    · cases h; exact ⟨if_pos rfl, hv⟩
    · have hk := lt_of_mem_above habove hrest h
      rw [tabGet, if_neg (by omega), if_neg (by omega)]
      exact tabGet_of_mem hrest h

end Entries

/-! Books: their orders, the oldest of them, and the lowest free handle (R111, R113). -/

section Orders

variable {s : State}

@[simp] theorem order_setOrder_same (h : Nat) (o : Option Order) : (s.setOrder h o).order h = o := tabGet_tabSet_same _ _ _ _

theorem order_setOrder_ne {h k : Nat} (o : Option Order) (hk : k ≠ h) : (s.setOrder h o).order k = s.order k :=
  tabGet_tabSet_ne _ _ _ _ _ hk _

@[simp] theorem book_setBook_same (a b : Nat) (k : Book) : (s.setBook a b k).book a b = k := tabGet_tabSet_same _ _ _ _

theorem mem_inBook {a b : Nat} {e : Nat × Order} :
    e ∈ s.inBook a b ↔ (e.1, some e.2) ∈ s.orders ∧ e.2.acct = a ∧ e.2.book = b := by
  rw [State.inBook, List.mem_filterMap]
  constructor
  · rintro ⟨⟨k, o⟩, hmem, hsel⟩
    cases o with
    | none => exact absurd hsel (by simp)
    | some o =>
      simp only at hsel
      split at hsel
      case isTrue hab => cases hsel; exact ⟨hmem, hab⟩
      case isFalse => exact absurd hsel (by simp)
  · rintro ⟨hmem, hab⟩
    exact ⟨_, hmem, by simp [hab]⟩

/-- The oldest of some orders is one of them and no other is nearer to the head. -/
theorem oldestOf_spec : ∀ {l : List (Nat × Order)} {e : Nat × Order}, oldestOf s l = some e →
    e ∈ l ∧ ∀ e' ∈ l, s.pastHead e.2 ≤ s.pastHead e'.2
  | [], _, h => absurd h (by simp [oldestOf])
  | x :: l, e, h => by
    rw [oldestOf] at h
    cases hr : oldestOf s l with
    | none =>
      have hl : l = [] := by
        cases l with
        | nil => rfl
        | cons y l =>
          rw [oldestOf] at hr
          split at hr
          · exact absurd hr (by simp)
          · split at hr <;> exact absurd hr (by simp)
      rw [hr] at h
      cases h
      subst hl
      simp
    | some y =>
      obtain ⟨hy, hmin⟩ := oldestOf_spec hr
      rw [hr] at h
      simp only at h
      split at h
      case isTrue hle =>
        cases h
        refine ⟨List.mem_cons_self .., fun e' he' => ?_⟩
        rcases List.mem_cons.mp he' with rfl | he'
        · exact Nat.le_refl _
        · exact Nat.le_trans hle (hmin e' he')
      case isFalse hle =>
        cases h
        refine ⟨List.mem_cons_of_mem _ hy, fun e' he' => ?_⟩
        rcases List.mem_cons.mp he' with rfl | he'
        · exact Nat.le_of_lt (Nat.lt_of_not_le hle)
        · exact hmin e' he'

theorem oldestUntaken_spec {a b h : Nat} {o : Order} (ho : s.oldestUntaken a b = some (h, o)) :
    (h, some o) ∈ s.orders ∧ o.acct = a ∧ o.book = b ∧ o.taker = none ∧ o.bad = false ∧
    ∀ k p, (k, some p) ∈ s.orders → p.acct = a → p.book = b → p.taker = none → p.bad = false →
      s.pastHead o ≤ s.pastHead p := by
  obtain ⟨hmem, hmin⟩ := oldestOf_spec ho
  obtain ⟨hbook, hfree⟩ := List.mem_filter.mp hmem
  obtain ⟨hord, ha, hb⟩ := mem_inBook.mp hbook
  have hf : o.taker = none ∧ o.bad = false := by simpa using hfree
  refine ⟨hord, ha, hb, hf.1, hf.2, fun k p hp hpa hpb hpt hpbad => hmin (k, p) (List.mem_filter.mpr ⟨?_, ?_⟩)⟩
  · exact mem_inBook.mpr ⟨hp, hpa, hpb⟩
  · simp [hpt, hpbad]

theorem lowestFree_le : ∀ (m : Tab (Option Order)) (n : Nat), n ≤ lowestFree m n
  | [], n => Nat.le_refl n
  | (k, _) :: m, n => by
    rw [lowestFree]
    split
    · exact Nat.le_of_succ_le (lowestFree_le m (n + 1))
    · split
      · exact lowestFree_le m n
      · exact Nat.le_refl n

theorem tabGet_lowestFree : ∀ (m : Tab (Option Order)) (n : Nat), tabGet none m (lowestFree m n) = none
  | [], _ => rfl
  | (k, v) :: m, n => by
    rw [lowestFree]
    split
    case isTrue hk =>
      have := lowestFree_le m (n + 1)
      rw [tabGet, if_neg (by omega), if_neg (by omega), tabGet_lowestFree m]
    case isFalse hk =>
      split
      case isTrue hlt =>
        have := lowestFree_le m n
        rw [tabGet, if_neg (by omega), if_neg (by omega), tabGet_lowestFree m]
      case isFalse hlt => rw [tabGet, if_neg (by omega), if_pos (by omega)]

/-- Below the lowest free handle of a canonical table every handle from `n` up is taken. -/
theorem tabGet_below_lowestFree : ∀ {m : Tab (Option Order)} {n : Nat}, tabWf none m = true → ∀ k, n ≤ k → k < lowestFree m n →
    tabGet none m k ≠ none
  | [], n, _, k, hn, hk => absurd hk (by rw [lowestFree]; omega)
  | (j, v) :: m, n, hw, k, hn, hk => by
    simp only [tabWf, Bool.and_eq_true, decide_eq_true_eq] at hw
    obtain ⟨⟨hv, habove⟩, hrest⟩ := hw
    rw [lowestFree] at hk
    split at hk
    case isTrue hj =>
      by_cases hkj : k = j
      · rw [tabGet, if_pos hkj]; exact hv
      · rw [tabGet, if_neg hkj, if_neg (by omega)]
        exact tabGet_below_lowestFree hrest k (by omega) hk
    case isFalse hj =>
      split at hk
      case isTrue hlt =>
        rw [tabGet, if_neg (by omega), if_neg (by omega)]
        exact tabGet_below_lowestFree hrest k hn hk
      case isFalse hlt => omega

end Orders

/-! Submission and settlement. -/

section

variable (s : State) {u : State}

theorem order_of_quiet (h : u.quiet = s.quiet) (k : Nat) : u.order k = s.order k :=
  congrArg (fun m => tabGet none m k) (orders_of_quiet h)

theorem book_of_quiet (h : u.quiet = s.quiet) (a b : Nat) : u.book a b = s.book a b :=
  congrArg (fun m => tabGet (⟨0, 0, 0⟩ : Book) m (bookIx a b)) (books_of_quiet h)

@[simp] theorem fld_setTev (t bit : Nat) (f : Field) : (s.setTev t bit).fld f = s.fld f := rfl

@[simp] theorem fld_wakeBook (a b : Nat) (f : Field) : ∀ n, (s.wakeBook a b n).fld f = s.fld f := by
  intro n
  induction n generalizing s with
  | zero => rfl
  | succ n ih =>
    rw [State.wakeBook, ih]
    split <;> rfl

/-- The order an accepted submission enters. -/
def submittedOrder (n a word pred : Nat) (body : List Byte) : Order :=
  { acct := a, book := bits word 3 0, bseq := n, pred := if bits word 31 31 = 1 then some (pred % 2 ^ 32) else none,
    body := body, taker := none, aband := false, bad := false }

/-- A submission, before the tellers that wait for it are woken. -/
def State.submitted (s : State) (h n a word pred : Nat) (body : List Byte) : State :=
  (((s.setOrder h (some (submittedOrder n a word pred body))).setBook a (bits word 3 0)
    { s.book a (bits word 3 0) with next := (n + 1) % 2 ^ 32 }).setFld LDG_COUNT_ORDERS (s.fld LDG_COUNT_ORDERS + 1)).setFld
    (LDG_QUOTA_COUNT a) (s.fld (LDG_QUOTA_COUNT a) + 1)

theorem submitAt_eq (h n a word pred : Nat) (body : List Byte) :
    s.submitAt h n a word pred body = s.submitted h n a word pred body ∨
    s.submitAt h n a word pred body = (s.submitted h n a word pred body).wakeBook a (bits word 3 0) 16 := by
  by_cases ht : (s.submitted h n a word pred body).takeable (submittedOrder n a word pred body) = true
  · exact .inr (if_pos ht)
  · exact .inl (if_neg ht)

theorem quiet_submitAt (h n a word pred : Nat) (body : List Byte) :
    (s.submitAt h n a word pred body).quiet = (s.submitted h n a word pred body).quiet := by
  rcases submitAt_eq s h n a word pred body with he | he
  · rw [he]
  · rw [he, quiet_wakeBook]

theorem fld_submitAt (h n a word pred : Nat) (body : List Byte) (f : Field) :
    (s.submitAt h n a word pred body).fld f = (s.submitted h n a word pred body).fld f := by
  rcases submitAt_eq s h n a word pred body with he | he
  · rw [he]
  · rw [he, fld_wakeBook]

theorem order_submitAt_same (h n a word pred : Nat) (body : List Byte) :
    (s.submitAt h n a word pred body).order h = some (submittedOrder n a word pred body) :=
  (order_of_quiet _ (quiet_submitAt ..) h).trans (order_setOrder_same h _)

theorem order_submitAt_ne (h n a word pred : Nat) (body : List Byte) {k : Nat} (hk : k ≠ h) :
    (s.submitAt h n a word pred body).order k = s.order k :=
  (order_of_quiet _ (quiet_submitAt ..) k).trans (order_setOrder_ne _ hk)

theorem book_submitAt (h n a word pred : Nat) (body : List Byte) :
    (s.submitAt h n a word pred body).book a (bits word 3 0) = { s.book a (bits word 3 0) with next := (n + 1) % 2 ^ 32 } :=
  (book_of_quiet _ (quiet_submitAt ..) a _).trans (book_setBook_same ..)

/-- A settlement, before the tellers that wait for a successor are woken. -/
def State.settled1 (s : State) (h : Nat) (o : Order) (result : Nat) : State :=
  (((s.setOrder h none).setBook o.acct o.book
    { s.book o.acct o.book with head := (o.bseq + 1) % 2 ^ 32, last := result }).setFld LDG_COUNT_ORDERS
    (s.fld LDG_COUNT_ORDERS - 1)).setFld (LDG_QUOTA_COUNT o.acct) (s.fld (LDG_QUOTA_COUNT o.acct) - 1)

theorem quiet_settleDo (h : Nat) (o : Order) (result : Nat) : (s.settleDo h o result).quiet = (s.settled1 h o result).quiet := by
  unfold State.settleDo
  dsimp only
  split
  · exact quiet_wakeBook ..
  · rfl

theorem quiet_settle (h : Nat) (o : Order) (result incident : Nat) :
    (s.settle h o result incident).quiet = (s.settled1 h o result).quiet :=
  (quiet_post ..).trans (quiet_settleDo ..)

/-- What a settlement of order `o` at handle `h` leaves of orders and of its book. -/
structure Settled (s u : State) (h : Nat) (o : Order) (result : Nat) : Prop where
  orders : u.orders = tabSet none s.orders h none
  book : u.book o.acct o.book = { s.book o.acct o.book with head := (o.bseq + 1) % 2 ^ 32, last := result }

variable {s}

theorem settled_of_quiet {h : Nat} {o : Order} {result : Nat} (hq : u.quiet = (s.settled1 h o result).quiet) :
    Settled s u h o result :=
  ⟨orders_of_quiet hq, (book_of_quiet _ hq ..).trans (book_setBook_same ..)⟩

theorem Settled.order_same {h : Nat} {o : Order} {result : Nat} (hs : Settled s u h o result) : u.order h = none :=
  (congrArg (fun m => tabGet none m h) hs.orders).trans (tabGet_tabSet_same ..)

theorem Settled.order_ne {h k : Nat} {o : Order} {result : Nat} (hs : Settled s u h o result) (hk : k ≠ h) :
    u.order k = s.order k :=
  (congrArg (fun m => tabGet none m k) hs.orders).trans (tabGet_tabSet_ne _ _ _ _ _ hk _)

/-- No order of a settled state is new. -/
theorem Settled.mem_orders {h : Nat} {o : Order} {result : Nat} (hs : Settled s u h o result) {e : Nat × Option Order}
    (he : e ∈ u.orders) : e ∈ s.orders := by
  rw [hs.orders] at he
  rcases mem_of_mem_tabSet he with ⟨-, hn⟩ | he
  · exact absurd rfl hn
  · exact he

/-- With no damaged order of a book at its head and untaken, the ledger settles none. -/
theorem settleDamaged_of_sound {a b : Nat} (h : ∀ k o, (k, some o) ∈ s.orders → o.acct = a → o.book = b → o.bad = true →
    o.taker = none → s.isHead o = true → False) (n : Nat) : s.settleDamaged a b n = s := by
  cases n with
  | zero => rfl
  | succ n =>
    have hf : ((s.inBook a b).find? fun e => s.isHead e.2 && e.2.bad && e.2.taker.isNone) = none := by
      rw [List.find?_eq_none]
      intro e he hsel
      obtain ⟨hmem, ha, hb⟩ := mem_inBook.mp he
      obtain ⟨⟨hhead, hbad⟩, htaker⟩ : (s.isHead e.2 = true ∧ e.2.bad = true) ∧ e.2.taker = none := by simpa using hsel
      exact h e.1 e.2 hmem ha hb hbad htaker hhead
    rw [State.settleDamaged, hf]

end

theorem submitCheck_count {s : State} {a word pred : Nat} (h : s.submitCheck a word pred = 0) : s.fld LDG_COUNT_ORDERS < 4096 := by
  by_contra hc
  unfold State.submitCheck at h
  dsimp only at h
  split at h
  · exact absurd h (by decide)
  · split at h
    · exact absurd h (by decide)
    · rw [if_pos (.inl (Nat.le_of_not_lt hc))] at h
      exact absurd h (by decide)

/-- The order of a submission in the spelling of the manual's bits. -/
theorem submittedOrder_eq (n a word pred : Nat) (body : List Byte) : submittedOrder n a word pred body =
    ⟨a, word % 16, n, if word / 2 ^ 31 % 2 = 1 then some (pred % 2 ^ 32) else none, body, none, false, false⟩ := by
  have hb : bits word 3 0 = word % 16 := by simp [bits]
  rw [submittedOrder, hb]
  rfl

/-- An order damaged while others are sound: the book's only candidate for the ledger's own settlement. -/
theorem damaged_only {s u : State} {h : Nat} {o : Order} (ho : u.orders = tabSet none s.orders h (some { o with bad := true }))
    (hsound : ∀ k p, (k, some p) ∈ s.orders → k ≠ h → p.bad = false) (hw : tabWf none s.orders = true) {k : Nat} {p : Order}
    (hp : (k, some p) ∈ u.orders) (hbad : p.bad = true) : k = h ∧ p = { o with bad := true } := by
  have hw' : tabWf none u.orders = true := ho ▸ tabWf_tabSet none h _ _ hw
  have hget := (tabGet_of_mem hw' hp).1
  by_cases hk : k = h
  · refine ⟨hk, ?_⟩
    rw [ho, hk, tabGet_tabSet_same] at hget
    exact (Option.some.inj hget).symm
  · rw [ho, tabGet_tabSet_ne _ _ _ _ _ hk] at hget
    exact absurd (hsound k p (mem_of_tabGet hget (by simp)) hk) (by simp [hbad])

/-- The one damaged order of a book, at its head and untaken, is settled by the ledger, and nothing else. -/
theorem settleDamaged_of_one {u : State} {h : Nat} {o : Order} (n : Nat) (hw : tabWf none u.orders = true)
    (ho : (h, some o) ∈ u.orders) (hbad : o.bad = true) (htaker : o.taker = none) (hhead : u.isHead o = true)
    (only : ∀ {k p}, (k, some p) ∈ u.orders → p.bad = true → k = h ∧ p = o) :
    u.settleDamaged o.acct o.book (n + 1) = u.settle h o 0xFFFFFFFF (u.incOf 3) := by
  have hf : ((u.inBook o.acct o.book).find? fun e => u.isHead e.2 && e.2.bad && e.2.taker.isNone) = some (h, o) := by
    cases hf : (u.inBook o.acct o.book).find? fun e => u.isHead e.2 && e.2.bad && e.2.taker.isNone with
    | none =>
      have hno := List.find?_eq_none.mp hf (h, o) (mem_inBook.mpr ⟨ho, rfl, rfl⟩)
      exact absurd (by simp [hhead, hbad, htaker]) hno
    | some e =>
      have hsel := List.find?_some hf
      obtain ⟨hmem, -, -⟩ := mem_inBook.mp (List.mem_of_find?_eq_some hf)
      have hb : e.2.bad = true := by simp only [Bool.and_eq_true] at hsel; exact hsel.1.2
      obtain ⟨hk, hp⟩ := only hmem hb
      exact congrArg some (Prod.ext hk hp)
  have hs : Settled u (u.settle h o 0xFFFFFFFF (u.incOf 3)) h o 0xFFFFFFFF := settled_of_quiet (quiet_settle ..)
  have hw' : tabWf none (u.settle h o 0xFFFFFFFF (u.incOf 3)).orders = true := hs.orders ▸ tabWf_tabSet none h _ _ hw
  rw [State.settleDamaged, hf]
  refine settleDamaged_of_sound (fun k p hp _ _ hb _ _ => ?_) n
  obtain ⟨rfl, -⟩ := only (hs.mem_orders hp) hb
  exact absurd (hs.order_same.symm.trans (tabGet_of_mem hw' hp).1) (by simp)

/-- Settles O33. -/
theorem ledgerOrders : Obligations.LedgerOrders := by
  unfold Obligations.LedgerOrders
  refine ⟨fun s a b h o ho => oldestUntaken_spec ho, fun s a word pred body ha hok => ?_, fun s h o hoff ho => ?_⟩
  · intro s' h b
    have hb : bits word 3 0 = b := by simp [bits, b]
    have hs' : s' = s.submitAt h (s.book a b).next a word pred body := by rw [← hb]; rfl
    have hbook := book_submitAt s h (s.book a b).next a word pred body
    have hcount := submitCheck_count hok
    have hkey : LDG_COUNT_ORDERS.key ≠ (LDG_QUOTA_COUNT a).key := by simp only [Field.key, LDG_COUNT_ORDERS, LDG_QUOTA_COUNT]; omega
    rw [hb] at hbook
    rw [hs', ← submittedOrder_eq, hbook, fld_submitAt, fld_submitAt]
    refine ⟨tabGet_lowestFree s.orders 0, fun hw k hk => tabGet_below_lowestFree hw k (Nat.zero_le k) hk,
      order_submitAt_same .., fun k hk => order_submitAt_ne (hk := hk) .., rfl, rfl, ?_, fld_setFld_same ..⟩
    rw [State.submitted, fld_setFld_ne _ _ hkey, fld_setFld_same]
    exact Nat.mod_eq_of_lt (Nat.lt_of_lt_of_le (Nat.succ_lt_succ hcount) (by decide))
  · have hexec : exec (.orderEccError h) s =
        .next (((s.setOrder h (some { o with bad := true })).raise 3 0).settleDamaged o.acct o.book 4096) := by
      rw [exec_orderEccError, execOrderEccError, hoff, ho]
      rfl
    refine ⟨hexec, fun hw hsound => ?_⟩
    let u : State := (s.setOrder h (some { o with bad := true })).raise 3 0
    have hq : u.quiet = (s.setOrder h (some { o with bad := true })).quiet := quiet_raise ..
    have horders : u.orders = tabSet none s.orders h (some { o with bad := true }) := orders_of_quiet hq
    have hbook (a b : Nat) : u.book a b = s.book a b := book_of_quiet _ hq a b
    have only {k : Nat} {p : Order} (hp : (k, some p) ∈ u.orders) (hbad : p.bad = true) :=
      damaged_only horders hsound hw hp hbad
    refine ⟨fun hno => ?_, fun htaker hhead => ?_⟩
    · rw [hexec, settleDamaged_of_sound]
      intro k p hp _ _ hbad hpt hph
      obtain ⟨-, rfl⟩ := only hp hbad
      rcases hno with hno | hno
      · exact hno hpt
      · have hph' : o.bseq = (u.book o.acct o.book).head := by simpa [State.isHead] using hph
        exact hno (hph'.trans (congrArg Book.head (hbook ..)))
    · have hmem : (h, some { o with bad := true }) ∈ u.orders :=
        mem_of_tabGet (horders ▸ tabGet_tabSet_same ..) (by simp)
      have hhead' : u.isHead { o with bad := true } = true := by
        have hb := congrArg Book.head (hbook o.acct o.book)
        simp [State.isHead, hhead, hb]
      have hone := settleDamaged_of_one 4095 (horders ▸ tabWf_tabSet none h _ _ hw) hmem rfl htaker hhead' only
      have hs : Settled u (u.settle h { o with bad := true } 0xFFFFFFFF (u.incOf 3)) h { o with bad := true } 0xFFFFFFFF :=
        settled_of_quiet (quiet_settle ..)
      refine ⟨_, hexec.trans (congrArg _ hone), hs.order_same, fun k hk => ?_, congrArg Book.head hs.book, congrArg Book.last hs.book⟩
      exact (hs.order_ne hk).trans ((order_of_quiet _ hq k).trans (order_setOrder_ne _ hk))

end Sys2Proof.Machine

namespace Sys2Proof.Machine

/-! MBPOST to another node. -/

/-- Teller 1 runs on node 0, with customer endpoint 0xF00 of node 1 in g2. -/
def postingState : State :=
  State.reset.setTeller 1 (({ Teller.init with st := .running }).setG 2 0x1F00)

/-- A message to another node stays noted at its source until it is answered (R361). -/
theorem postingState_mbpost : ∃ u, exec (.mbpost 1 0 2 0) postingState = .next u ∧ u.posted.length = 1 :=
  ⟨_, rfl, by decide +kernel⟩

/-- Refutes O31: the statement's MBPOST to another node leaves the note of the message's source and destination out, by which
MSG_TIMEOUT finds it. -/
theorem not_systemOperations : ¬ Obligations.SystemOperations := by
  unfold Obligations.SystemOperations
  intro h
  obtain ⟨-, -, -, -, -, -, hpost, -⟩ := h postingState 1 0 2 0 0 (by decide) (by decide) (by decide) (by decide +kernel)
  obtain ⟨-, hpost⟩ := hpost (by decide) (by decide) (by decide) (by decide +kernel)
  obtain ⟨u, hu, hnoted⟩ := postingState_mbpost
  have heq := Host.Outcome.next.inj (hu.symm.trans (hpost (by decide)))
  rw [heq] at hnoted
  exact absurd hnoted (by decide +kernel)

end Sys2Proof.Machine

namespace Sys2Proof.Machine

/-! TAKE and SETTLE as a teller runs them outside the Standby (R113, R114, R116). -/

section

variable {s : State} {t : Nat}

/-- With no mirror record of its number the operation runs. -/
theorem shadowOp_live (sub rd rs rt : Nat) (live : State → State) (hsb : s.isStandby = false)
    (hops : ∀ r, r ∈ (s.teller t).doneOps → r.inst ≠ ((s.teller t).inst + 1) % 2 ^ 32) :
    s.shadowOp t sub rd rs rt live = live s := by
  have hf : ((s.teller t).doneOps.find? fun r => r.inst = ((s.teller t).inst + 1) % 2 ^ 32) = none := by
    rw [List.find?_eq_none]
    intro r hr
    simpa using hops r hr
  rw [State.shadowOp, hf, hsb]
  rfl

/-- A shadowed instruction's outcome counts it in its teller, and changes nothing else that is not on its way out. -/
theorem quiet_shadowed (s : State) (t status : Nat) (data : List Byte) :
    (s.shadowed t status data).quiet = (s.mapTeller t fun x => { x with inst := ((s.teller t).inst + 1) % 2 ^ 32 }).quiet :=
  quiet_mirrorSend ..

theorem orders_shadowed (s : State) (t status : Nat) (data : List Byte) : (s.shadowed t status data).orders = s.orders :=
  (orders_of_quiet (quiet_shadowed s t status data)).trans rfl

theorem book_shadowed (s : State) (t status : Nat) (data : List Byte) (a b : Nat) : (s.shadowed t status data).book a b = s.book a b :=
  (book_of_quiet _ (quiet_shadowed s t status data) a b).trans rfl

theorem dm_shadowed (s : State) (t status : Nat) (data : List Byte) : (s.shadowed t status data).dm = s.dm :=
  (dm_of_quiet (quiet_shadowed s t status data)).trans rfl

theorem pc_shadowed (s : State) (t status : Nat) (data : List Byte) : ((s.shadowed t status data).teller t).pc = (s.teller t).pc := by
  rw [pc_of_quiet (quiet_shadowed ..), teller_mapTeller_same]

end

/-! Bytes put into data memory. -/

theorem memBytes_add (m : Memory) (k : Nat) : ∀ (n a : Nat), memBytes m a (n + k) = memBytes m a n ++ memBytes m (a + n) k
  | 0, a => by rw [Nat.zero_add]; rfl
  | n + 1, a => by
    rw [Nat.succ_add, memBytes, memBytes, memBytes_add m k n (a + 1), List.cons_append, show a + 1 + n = a + (n + 1) by omega]

@[simp] theorem memBytes_length (m : Memory) : ∀ (n a : Nat), (memBytes m a n).length = n
  | 0, _ => rfl
  | n + 1, a => by rw [memBytes, List.length_cons, memBytes_length m n]

/-- Two runs of bytes put one behind the other read back each at its place. -/
theorem memBytes_memPut_append (m : Memory) (a : Nat) (xs ys : List Byte) :
    memBytes (memPut m a (xs ++ ys)) a xs.length = xs ∧ memBytes (memPut m a (xs ++ ys)) (a + xs.length) ys.length = ys := by
  have h := memBytes_memPut (xs ++ ys) m a
  rw [List.length_append, memBytes_add] at h
  exact List.append_inj h (by simp)

@[simp] theorem body64_length (bs : List Byte) : (body64 bs).length = 64 := by simp [body64]

/-- A body and a handle put at `gt`: both read back, and every byte outside them stays. -/
theorem memPut_body_handle (m : Memory) (gt h : Nat) (bs : List Byte) :
    memBytes (memPut m gt (body64 bs ++ leBytes 4 h)) gt 64 = body64 bs ∧
    memLoad (memPut m gt (body64 bs ++ leBytes 4 h)) (gt + 64) 4 = h % 2 ^ 32 ∧
    ∀ j, j < gt ∨ gt + 68 ≤ j → memByte (memPut m gt (body64 bs ++ leBytes 4 h)) j = memByte m j := by
  obtain ⟨hbody, hhandle⟩ := memBytes_memPut_append m gt (body64 bs) (leBytes 4 h)
  rw [body64_length] at hbody hhandle
  rw [leBytes_length] at hhandle
  refine ⟨hbody, ?_, fun j hj => memByte_memPut_out _ _ _ (by simpa using hj)⟩
  rw [memLoad, hhandle, ofLe_leBytes, show 256 ^ 4 = 2 ^ 32 from rfl]

theorem dmPut_dm (s : State) (a : Nat) (bs : List Byte) : (s.dmPut a bs).dm = memPut s.dm a bs := dmFresh_dm _ _ _

theorem dmFresh_of_rest {α : Type} (f : State → α) (hf : ∀ (s : State) (e : Tab Nat), f { s with dmErr := e } = f s) (s : State)
    (a n : Nat) : f (s.dmFresh a n) = f s := by
  have h := congrArg f (dmFresh_rest n a s s.dmErr)
  rwa [hf, hf] at h

theorem dmPut_orders (s : State) (a : Nat) (bs : List Byte) : (s.dmPut a bs).orders = s.orders :=
  dmFresh_of_rest State.orders (fun _ _ => rfl) _ _ _

theorem dmPut_teller (s : State) (a : Nat) (bs : List Byte) (t : Nat) : (s.dmPut a bs).teller t = s.teller t :=
  dmFresh_of_rest (State.teller · t) (fun _ _ => rfl) _ _ _

/-! The two instructions. -/

section

variable {s : State} {t : Nat} (h : s.runs t = true) (hs : s.settled t = true) (hsb : s.isStandby = false)
  (hops : ∀ r, r ∈ (s.teller t).doneOps → r.inst ≠ ((s.teller t).inst + 1) % 2 ^ 32)
include h hs

theorem execTake_of_trap (rd rs rt : Nat) {c v : Nat} (hc : dataTrap (s.gval t rt) 4 68 = some (c, v)) :
    execTake t rd rs rt s = .next (s.trap t c v) := by
  rw [execTake, execD_of_settled h hs, hc]
  rfl

include hsb hops

theorem execTake_live (rd rs rt : Nat) (hc : dataTrap (s.gval t rt) 4 68 = none) :
    execTake t rd rs rt s = .next (s.takeLive t rd (s.gval t rs) (s.gval t rt)) := by
  rw [execTake, execD_of_settled h hs, hc]
  exact congrArg _ (shadowOp_live 0x11 rd rs rt (fun s => s.takeLive t rd (s.gval t rs) (s.gval t rt)) hsb hops)

theorem execSettle_live (rd rs rt : Nat) :
    execSettle t rd rs rt s = .next (s.settleLive t rd (s.gval t rs) (s.gval t rt)) := by
  rw [execSettle, execD_of_settled h hs]
  exact congrArg _ (shadowOp_live 0x12 rd rs rt (fun s => s.settleLive t rd (s.gval t rs) (s.gval t rt)) hsb hops)

end

theorem adv_pc (x : Teller) (c : Nat) : (x.adv c).pc = x.pc + 4 := rfl

theorem setG_pc (x : Teller) (r : Nat) (v : Word) : (x.setG r v).pc = x.pc := by
  unfold Teller.setG
  split <;> rfl

/-- What an answer leaves in its teller. -/
theorem teller_answer (s : State) (t rd st c : Nat) :
    (rd ≠ 0 → ((s.answer t rd st c).teller t).getG rd = BitVec.ofNat 32 st) ∧
    ((s.answer t rd st c).teller t).pc = (s.teller t).pc + 4 := by
  rw [State.answer, teller_mapTeller_same]
  exact ⟨fun hrd => getG_setG_same _ _ hrd, by rw [adv_pc, setG_pc]⟩

/-- A TAKE that succeeds: the order is the teller's, its body and handle stand at `gt`. -/
theorem takeLive_of_takeable {s : State} {t rd gs gt h : Nat} {o : Order}
    (hmay : ¬ (gs ≥ 2 ^ 14 ∨ (s.isVault (gs / 16 % 1024) = true ∧ gs / 16 % 1024 ≠ s.fld (TLR_ACCT_ACCT t))))
    (ho : s.oldestUntaken (gs / 16 % 1024) (gs % 16) = some (h, o)) (htake : s.takeable o = true) :
    s.takeLive t rd gs gt = ((((s.shadowed t (if o.aband then stAbandoned else stOk) (body64 o.body ++ leBytes 4 h)).takeDo t h o).dmPut
      gt (body64 o.body ++ leBytes 4 h)).answer t rd (if o.aband then stAbandoned else stOk) 24) := by
  rw [State.takeLive]
  simp only [if_neg hmay, ho, htake, if_true]

/-- A TAKE that finds no order it may take. -/
theorem takeLive_of_none {s : State} {t rd gs gt : Nat}
    (hmay : ¬ (gs ≥ 2 ^ 14 ∨ (s.isVault (gs / 16 % 1024) = true ∧ gs / 16 % 1024 ≠ s.fld (TLR_ACCT_ACCT t))))
    (hnone : ∀ h o, s.oldestUntaken (gs / 16 % 1024) (gs % 16) = some (h, o) → s.takeable o = false) :
    s.takeLive t rd gs gt = s.report t rd stNone 24 := by
  rw [State.takeLive]
  cases ho : s.oldestUntaken (gs / 16 % 1024) (gs % 16) with
  | none => simp only [if_neg hmay]
  | some e => simp only [if_neg hmay, hnone e.1 e.2 ho, Bool.false_eq_true, if_false]

/-- What a TAKE that succeeds leaves. -/
theorem taken_facts (s : State) (t rd gt h st : Nat) (o : Order) (data : List Byte) :
    let s' := (((s.shadowed t st data).takeDo t h o).dmPut gt data).answer t rd st 24
    s'.orders = tabSet none s.orders h (some { o with taker := some t, aband := false }) ∧ s'.dm = memPut s.dm gt data ∧
    (rd ≠ 0 → (s'.teller t).getG rd = BitVec.ofNat 32 st) ∧ (s'.teller t).pc = (s.teller t).pc + 4 := by
  intro s'
  obtain ⟨hg, hpc⟩ := teller_answer (((s.shadowed t st data).takeDo t h o).dmPut gt data) t rd st 24
  refine ⟨?_, ?_, hg, hpc.trans (congrArg (· + 4) ?_)⟩
  · refine (dmPut_orders ((s.shadowed t st data).takeDo t h o) gt data).trans ?_
    rw [State.takeDo, State.setOrder, orders_shadowed]
  · refine (dmPut_dm ((s.shadowed t st data).takeDo t h o) gt data).trans ?_
    exact congrArg (fun m => memPut m gt data) (dm_shadowed s t st data)
  · rw [dmPut_teller]
    exact pc_shadowed s t st data

theorem settleNoted_quiet (s : State) (h : Nat) (o : Order) (result : Nat) :
    (s.settleNoted h o result).quiet = (s.settled1 h o result).quiet := by
  unfold State.settleNoted
  dsimp only
  split
  · exact quiet_settle ..
  · exact quiet_settle ..

/-- A SETTLE of the teller's own order at the head of its book, no order being damaged. -/
theorem settleLive_facts {s : State} {t rd h result : Nat} {o : Order} (ho : s.order h = some o) (ht : o.taker = some t)
    (hhead : s.isHead o = true) (hsound : ∀ k p, (k, some p) ∈ s.orders → p.bad = false) :
    ∃ u, s.settleLive t rd h result = u.answer t rd stOk 8 ∧ Settled s u h o result := by
  have hk : (s.shadowed t stOk []).orders = s.orders := orders_shadowed ..
  have hset : Settled (s.shadowed t stOk []) ((s.shadowed t stOk []).settleNoted h o result) h o result :=
    settled_of_quiet (settleNoted_quiet ..)
  have hnone : ((s.shadowed t stOk []).settleNoted h o result).settleDamaged o.acct o.book 4096 =
      (s.shadowed t stOk []).settleNoted h o result :=
    settleDamaged_of_sound (fun k p hp _ _ hbad _ _ => absurd (hsound k p (hk ▸ hset.mem_orders hp)) (by simp [hbad])) _
  refine ⟨(s.shadowed t stOk []).settleNoted h o result, ?_, hk ▸ hset.orders, ?_⟩
  · rw [State.settleLive, ho]
    simp only [ht, ne_eq, not_true_eq_false, if_false, hhead, hnone]
  · rw [hset.book, book_shadowed]

/-- Settles O30. -/
theorem takeAndSettle : Obligations.TakeAndSettle := by
  unfold Obligations.TakeAndSettle
  intro s t rd rs rt h hs hsb hops gs gt a c fails may
  have hmay : may ↔ ¬ (gs ≥ 2 ^ 14 ∨ (s.isVault a = true ∧ a ≠ s.fld (TLR_ACCT_ACCT t))) := by
    simp only [may, not_or, not_and, ge_iff_le, Nat.not_le, ne_eq, not_not, ← Bool.not_eq_true, imp_iff_not_or]
  refine ⟨fun ha => ?_, fun ha ho => ?_, fun ha hin => ?_, ?_⟩
  · exact execTake_of_trap h hs rd rs rt (if_pos ha)
  · exact execTake_of_trap h hs rd rs rt ((if_neg (not_not_intro ha)).trans (if_pos ho))
  · have live : exec c s = .next (s.takeLive t rd gs gt) :=
      execTake_live h hs hsb hops rd rs rt ((if_neg (not_not_intro ha)).trans (if_neg (Nat.not_lt.mpr hin)))
    refine ⟨fun hno => ?_, fun hm hnone => ?_, fun hm k o ho htake => ?_⟩
    · exact live.trans (congrArg _ (if_pos (not_not.mp (mt hmay.mpr hno))))
    · exact live.trans (congrArg _ (takeLive_of_none (hmay.mp hm) hnone))
    · obtain ⟨hord, hdm, hg, hpc⟩ := taken_facts s t rd gt k (if o.aband then stAbandoned else stOk) o (body64 o.body ++ leBytes 4 k)
      obtain ⟨hbody, hhandle, hout⟩ := memPut_body_handle s.dm gt k o.body
      refine ⟨_, live.trans (congrArg _ (takeLive_of_takeable (hmay.mp hm) ho htake)), ?_, fun j hj => ?_, ?_, ?_, ?_, fun hrd => ?_, hpc⟩
      · rw [State.order, hord, tabGet_tabSet_same]
      · rw [State.order, hord, tabGet_tabSet_ne _ _ _ _ _ hj]
        rfl
      · rw [hdm, hbody]
      · rw [hdm, hhandle]
      · rw [hdm]; exact hout
      · rw [hg hrd]
        split <;> rfl
  · intro e
    have live : exec e s = .next (s.settleLive t rd gs gt) := execSettle_live h hs hsb hops rd rs rt
    refine ⟨fun ho => ?_, fun o ho => ⟨fun ht => ?_, fun ht hno => ?_, fun ht hhead hsound => ?_⟩⟩
    · refine live.trans (congrArg _ ?_)
      rw [State.settleLive, ho]
      rfl
    · refine live.trans (congrArg _ ?_)
      rw [State.settleLive, ho]
      exact if_pos ht
    · refine live.trans (congrArg _ ?_)
      have hh : ¬ s.isHead o = true := by simpa [State.isHead] using hno
      rw [State.settleLive, ho]
      exact (if_neg (not_not_intro ht)).trans (if_pos hh)
    · obtain ⟨u, hu, hset⟩ := settleLive_facts (rd := rd) (result := gt) ho ht (by simpa [State.isHead] using hhead) hsound
      refine ⟨u.answer t rd stOk 8, live.trans (congrArg _ hu), hset.order_same, fun k hk => hset.order_ne hk,
        congrArg Book.head hset.book, congrArg Book.last hset.book, (teller_answer u t rd stOk 8).1⟩

end Sys2Proof.Machine

namespace Sys2Proof.Machine

/-! What mirror records leave alone as they take effect: data memory, and the tellers but for TEV and the lock last refused. -/

/-- A teller without TEV and the lock last refused. -/
def Teller.sansSignals (x : Teller) : Teller := { x with tev := 0, lckWait := none }

def tellersSeen (m : Tab Teller) (t : Nat) : Teller := (tabGet Teller.init m t).sansSignals

/-- Data memory, and what the tellers are aside from their signals. -/
structure Seen where
  dm : Memory
  tellers : Nat → Teller

def State.seen (s : State) : Seen := ⟨s.dm, tellersSeen s.tellers⟩

@[simp] theorem seen_mk {regs tellers pm dm pmErr dmErr cmps armSeq stream wrrNow orders books locks esc pos time held modOpen modPend incidents viols links peers mirror claims inbox posted mbw mbr bodies mbCmd loading pwr scan refs head expo store dma dram plant keys fwRollback hellos dly fec tap flash images freeCtr out pending} :
    (State.mk regs tellers pm dm pmErr dmErr cmps armSeq stream wrrNow orders books locks esc pos time held modOpen modPend incidents viols links peers mirror claims inbox posted mbw mbr bodies mbCmd loading pwr scan refs head expo store dma dram plant keys fwRollback hellos dly fec tap flash images freeCtr out pending).seen = ⟨dm, tellersSeen tellers⟩ := rfl

@[simp] theorem seen_fold (s : State) : Seen.mk s.dm (tellersSeen s.tellers) = s.seen := rfl

@[simp] theorem seen_ite (c : Prop) [Decidable c] (s t : State) : (if c then s else t).seen = if c then s.seen else t.seen :=
  apply_ite _ c s t

@[simp] theorem seen_foldl {α : Type} {f : State → α → State} (h : ∀ u a, (f u a).seen = u.seen) (l : List α) (s : State) :
    (l.foldl f s).seen = s.seen := by
  induction l generalizing s with
  | nil => rfl
  | cons a l ih => rw [List.foldl_cons, ih, h]

/-- A teller set that differs from the old one in its signals alone. -/
theorem seen_setTeller {s : State} {t : Nat} {x : Teller} (h : x.sansSignals = (s.teller t).sansSignals) :
    (s.setTeller t x).seen = s.seen := by
  have ht : tellersSeen (s.setTeller t x).tellers = tellersSeen s.tellers := by
    funext u
    by_cases hu : u = t
    · subst hu
      exact (congrArg Teller.sansSignals (teller_setTeller_same s u x)).trans h
    · exact congrArg Teller.sansSignals (teller_setTeller_ne s x hu)
  exact congrArg (Seen.mk _) ht

/-- What is quiet is not seen either. -/
theorem seen_of_quiet {s u : State} (h : u.quiet = s.quiet) : u.seen = s.seen := by
  have ht : tellersSeen u.tellers = tellersSeen s.tellers := funext fun t =>
    congrArg (fun x : Teller => { x with lckWait := none }) (teller_of_quiet h t)
  rw [State.seen, State.seen, dm_of_quiet h, ht]

@[simp] theorem seen_setFld (s : State) (f : Field) (v : Nat) : (s.setFld f v).seen = s.seen := seen_of_quiet (quiet_setFld ..)

@[simp] theorem seen_setOn (s : State) (f : Field) : (s.setOn f).seen = s.seen := seen_of_quiet (quiet_setOn ..)

@[simp] theorem seen_setBool (s : State) (f : Field) (b : Bool) : (s.setBool f b).seen = s.seen := seen_of_quiet (quiet_setBool ..)

@[simp] theorem seen_inc (s : State) (f : Field) : (s.inc f).seen = s.seen := seen_of_quiet (quiet_inc ..)

@[simp] theorem seen_incWrap (s : State) (f : Field) : (s.incWrap f).seen = s.seen := seen_of_quiet (quiet_incWrap ..)

@[simp] theorem seen_setTev (s : State) (t bit : Nat) : (s.setTev t bit).seen = s.seen := seen_of_quiet (quiet_setTev ..)

@[simp] theorem seen_setTevMask (s : State) (mask bit : Nat) (n : Nat) : (s.setTevMask mask bit n).seen = s.seen := seen_of_quiet (quiet_setTevMask ..)

@[simp] theorem seen_postW (s : State) (a type detail sub incident wpos : Nat) : (s.postW a type detail sub incident wpos).seen = s.seen := seen_of_quiet (quiet_postW ..)

@[simp] theorem seen_post (s : State) (a type detail sub incident : Nat) : (s.post a type detail sub incident).seen = s.seen := seen_of_quiet (quiet_post ..)

@[simp] theorem seen_setOrder (s : State) (h : Nat) (o : Option Order) : (s.setOrder h o).seen = s.seen := by
  simp [State.setOrder]

@[simp] theorem seen_setBook (s : State) (a b : Nat) (k : Book) : (s.setBook a b k).seen = s.seen := by
  simp [State.setBook]

@[simp] theorem seen_wakeBook (s : State) (a b : Nat) (n : Nat) : (s.wakeBook a b n).seen = s.seen := seen_of_quiet (quiet_wakeBook ..)

@[simp] theorem seen_submitAt (s : State) (h n a word pred : Nat) (body : List Byte) : (s.submitAt h n a word pred body).seen = s.seen := by
  simp [State.submitAt]

@[simp] theorem seen_settleDo (s : State) (h : Nat) (o : Order) (result : Nat) : (s.settleDo h o result).seen = s.seen := by
  simp [State.settleDo]

@[simp] theorem seen_submitMirrored (s : State) (h n a word pred : Nat) (body : List Byte) : (s.submitMirrored h n a word pred body).seen = s.seen := by
  unfold State.submitMirrored
  split <;> simp

@[simp] theorem seen_settle (s : State) (h : Nat) (o : Order) (result incident : Nat) : (s.settle h o result incident).seen = s.seen := by
  simp [State.settle]

@[simp] theorem seen_settleDamaged (s : State) (a b : Nat) (n : Nat) : (s.settleDamaged a b n).seen = s.seen := by
  induction n generalizing s with
  | zero => simp [State.settleDamaged]
  | succ n ih =>
    rw [State.settleDamaged]
    split <;> simp [ih]

@[simp] theorem seen_setLock (s : State) (l : Nat) (k : Lock) : (s.setLock l k).seen = s.seen := by
  simp [State.setLock]

@[simp] theorem seen_lacqDo (s : State) (l : Nat) (h : Holder) : (s.lacqDo l h).seen = s.seen := by
  simp [State.lacqDo]

@[simp] theorem seen_wakeLock (s : State) (l : Nat) (n : Nat) : (s.wakeLock l n).seen = s.seen := by
  induction n generalizing s with
  | zero => rfl
  | succ n ih =>
    rw [State.wakeLock, ih]
    split
    · refine (seen_setTeller ?_).trans (seen_setTev s n tevLck)
      rfl
    · rfl

@[simp] theorem seen_lrelDo (s : State) (l : Nat) : (s.lrelDo l).seen = s.seen := by
  simp [State.lrelDo]

@[simp] theorem seen_setEsc (s : State) (e : Esc) : (s.setEsc e).seen = s.seen := by
  simp [State.setEsc]

@[simp] theorem seen_fixGeo (s : State) : s.fixGeo.seen = s.seen := by
  simp [State.fixGeo]

@[simp] theorem seen_setSlot (s : State) (k : Nat) (r : SlotRec) : (s.setSlot k r).seen = s.seen := by
  simp [State.setSlot]

@[simp] theorem seen_escSync (s : State) : s.escSync.seen = s.seen := by
  simp [State.escSync]

@[simp] theorem seen_escCount (s : State) (f : Field) : (s.escCount f).seen = s.seen := by
  simp [State.escCount]

@[simp] theorem seen_tevEscMask (s : State) : s.tevEscMask.seen = s.seen := by
  simp [State.tevEscMask]

@[simp] theorem seen_frameRecord (s : State) (type frame sub incident x : Nat) : (s.frameRecord type frame sub incident x).seen = s.seen := by
  simp [State.frameRecord]

@[simp] theorem seen_setMarks (s : State) (k : Nat) (m : Marks) : (s.setMarks k m).seen = s.seen := by
  simp [State.setMarks]

@[simp] theorem seen_voidRecord (s : State) (k : Nat) (r : SlotRec) (reason station incident : Nat) : (s.voidRecord k r reason station incident).seen = s.seen := by
  unfold State.voidRecord
  split <;> simp

@[simp] theorem seen_commitStands (s : State) (d : Desc) (bad : Option Nat) : (s.commitStands d bad).seen = s.seen := by
  simp [State.commitStands]

@[simp] theorem seen_commitAccept (s : State) (d : Desc) (late : Bool) : (s.commitAccept d late).seen = s.seen := by
  simp [State.commitAccept]

@[simp] theorem seen_nextSlot (s : State) (k : Nat) : (s.nextSlot k).seen = s.seen := by
  simp [State.nextSlot]

@[simp] theorem seen_closeApply (s0 : State) (c : CloseRec) : (s0.closeApply c).seen = s0.seen := by
  simp [State.closeApply]

@[simp] theorem seen_setMirror (s : State) (m : Mirror) : (s.setMirror m).seen = s.seen := seen_of_quiet (quiet_setMirror ..)

@[simp] theorem seen_setBody (s : State) (a : Nat) (b : List Byte) : (s.setBody a b).seen = s.seen := by
  simp [State.setBody]

@[simp] theorem seen_takeDo (s : State) (t h : Nat) (o : Order) : (s.takeDo t h o).seen = s.seen := by
  simp [State.takeDo]

@[simp] theorem seen_commitMirrored (s : State) (d : Desc) (late : Bool) : (s.commitMirrored d late).seen = s.seen := by
  simp [State.commitMirrored]

@[simp] theorem seen_hostEffect (s : State) (a code : Nat) (ws : List Nat) (reply : Nat) : (s.hostEffect a code ws reply).seen = s.seen := by
  simp [State.hostEffect]

@[simp] theorem seen_settleBefore (s : State) (o : Order) : (s.settleBefore o).seen = s.seen := by
  simp [State.settleBefore]

@[simp] theorem seen_settleMirrored (s : State) (t h result : Nat) : (s.settleMirrored t h result).seen = s.seen := by
  unfold State.settleMirrored
  split <;> simp

@[simp] theorem seen_eventSettle (s : State) (e : EventRec) : (s.eventSettle e).seen = s.seen := by
  unfold State.eventSettle
  dsimp only
  (repeat' split) <;> simp

@[simp] theorem seen_mirrorClose (s : State) (c : CloseRec) : (s.mirrorClose c).seen = s.seen := by
  simp [State.mirrorClose]

@[simp] theorem seen_mirrorVoid (s : State) (v : VoidRec) : (s.mirrorVoid v).seen = s.seen := by
  simp [State.mirrorVoid]

@[simp] theorem seen_shadowEffect (s : State) (t : Nat) (op : ShadowOp) (status : Nat) (data : List Byte) : (s.shadowEffect t op status data).seen = s.seen := by
  unfold State.shadowEffect
  dsimp only
  (repeat' split) <;> simp

@[simp] theorem seen_setTodo (s : State) (l : List Todo) : (s.setTodo l).seen = s.seen := by
  simp [State.setTodo]

@[simp] theorem seen_todoApply (s : State) (e : Todo) : (s.todoApply e).seen = s.seen := by
  unfold State.todoApply
  (repeat' split) <;> simp

@[simp] theorem seen_runTodo (s : State) (n : Nat) : (s.runTodo n).seen = s.seen := by
  induction n generalizing s with
  | zero => simp [State.runTodo]
  | succ n ih =>
    rw [State.runTodo]
    split <;> simp [ih]

@[simp] theorem seen_todoKnow (s : State) (r : MirRec) (op : ShadowOp) : (s.todoKnow r op).seen = s.seen := by
  simp [State.todoKnow]

end Sys2Proof.Machine

namespace Sys2Proof.Machine

/-! A reset through the vault's data register. -/

/-- A node at position 1, its host link trained, whose vault registers point at GLB_RESET. -/
def aliasedResetState : State :=
  ((State.reset.setFld VLT_ALIASADDR_ADDR 0x30).setOn PCH_LINK_UP).setPos { Posn.init with out := 1 }

/-- LOGICRST, with its key, written to VLT_ALIASDATA at its place in BAR2, starts the position anew (R28, R373). -/
theorem aliasedResetState_write :
    ∃ u, exec (.registerWrite 2 0x40014 (resetKey * 2 ^ 16 + 2) 15) aliasedResetState = .next u ∧ u.pos.out = 0 :=
  ⟨_, rfl, by decide +kernel⟩

/-- Refutes O41: a host write to VLT_ALIASDATA in BAR2 reaches GLB_RESET when VLT_ALIASADDR names it; `State.mayRestart` counts
the writes of BAR0 alone among the resets. -/
theorem not_publishedPosition : ¬ Obligations.PublishedPosition := by
  unfold Obligations.PublishedPosition
  rintro ⟨-, -, -, hnever, -⟩
  obtain ⟨u, hu, hzero⟩ := aliasedResetState_write
  have hrise := hnever _ _ _ (by decide) hu
  rw [hzero] at hrise
  exact absurd hrise (by decide)

end Sys2Proof.Machine

namespace Sys2Proof.Machine

/-! A void on the Standby. -/

/-- The Standby holds slot 0; the stored value of ESC_VOIDCNT has a bit beyond the register's 32. -/
def wideVoidcntState : State :=
  { State.reset with
    regs := [(GLB_ROLE_ROLE.key, 2), (ESC_VOIDCNT_COUNT.key, 2 ^ 32)]
    esc := { Esc.init with slots := [(0, { SlotRec.none with kind := 1 })] } }

theorem wideVoidcntState_voidSlot : (wideVoidcntState.voidSlot 0 10 0 0).fld ESC_VOIDCNT_COUNT = 2 ^ 32 := by decide +kernel

/-- Refutes O39: the Standby leaves ESC_VOIDCNT to the Manager and so keeps every bit of its stored value, where the statement, on every
state, has it taken modulo 2^32. -/
theorem not_slotCommands : ¬ Obligations.SlotCommands := by
  unfold Obligations.SlotCommands
  rintro ⟨-, h⟩
  obtain ⟨-, -, hcount, -⟩ := h wideVoidcntState 0 10 0 0 (by decide)
  have hwide : (2 : Nat) ^ 32 = 0 := wideVoidcntState_voidSlot.symm.trans (hcount.trans (by decide))
  exact absurd hwide (by decide)

end Sys2Proof.Machine

namespace Sys2Proof.Machine

/-! The slot before a head port's line rate is sent to its synthesizer. -/

/-- Head link 0 is off, and its next slot has a number that 8 divides. -/
def slotBeforeEighth : State := State.reset.setHead 0 { Head.init with pp := 7 }

/-- That slot, though the link is off, brings the pixel synthesizer its word. -/
theorem slotBeforeEighth_sends :
    ∃ u, exec (.headLinkSlot 0) slotBeforeEighth = .next u ∧ u.out.length = 1 :=
  ⟨_, rfl, by decide +kernel⟩

/-- Refutes O46: the pixel synthesizer's word goes out with the slot whose number, counted after it, 8 divides; the statement
excludes the slots whose number before it 8 divides. -/
theorem not_headLinkCommands : ¬ Obligations.HeadLinkCommands := by
  unfold Obligations.HeadLinkCommands
  intro h
  obtain ⟨-, -, -, -, -, hoff, -⟩ := h slotBeforeEighth 0 0 0 (by decide) (by decide) (by decide)
  obtain ⟨s', hnext, -, -, -, sent, hout, hsent⟩ := hoff (.inl (by decide)) (by decide) (by decide) (.inl (by decide))
  obtain ⟨u, hu, hone⟩ := slotBeforeEighth_sends
  rw [Host.Outcome.next.inj (hu.symm.trans hnext), hout, hsent] at hone
  exact absurd hone (by decide)

end Sys2Proof.Machine

/-! Ring frames: what the checks of a received frame lead to, and the bytes of a frame read back (O56). -/

namespace Sys2Proof.Machine

/-! Reading fields of concatenated bytes. -/

theorem fieldAt_append_right (a b : List Byte) {k : Nat} (n : Nat) (h : a.length ≤ k) :
    fieldAt (a ++ b) k n = fieldAt b (k - a.length) n := by
  simp [fieldAt, List.drop_append, List.drop_eq_nil_of_le h]

theorem fieldAt_append_left (a b : List Byte) {k n : Nat} (h : k + n ≤ a.length) :
    fieldAt (a ++ b) k n = fieldAt a k n := by
  have h1 : n - (a.length - k) = 0 := by omega
  simp [fieldAt, List.drop_append, List.take_append, h1]

/-- A number written in `n` bytes is read back where it stands. -/
theorem fieldAt_leBytes_append (n v : Nat) (b : List Byte) : fieldAt (leBytes n v ++ b) 0 n = v % 256 ^ n := by
  rw [fieldAt_append_left _ _ (by simp)]
  simp [fieldAt, List.take_of_length_le, ofLe_leBytes]

theorem fieldAt_leBytes (n v : Nat) : fieldAt (leBytes n v) 0 n = v % 256 ^ n := by
  simpa using fieldAt_leBytes_append n v []

theorem ofLe_drop_append_leBytes (a : List Byte) (n v : Nat) :
    ofLe ((a ++ leBytes n v).drop a.length) = v % 256 ^ n := by
  simp [ofLe_leBytes]

/-! Payloads. -/

theorem beacon_roundTrip (b : Beacon) (hs : b.seq < 2 ^ 32) (hw : b.wpos < 2 ^ 64) (hv : b.vel < 2 ^ 32)
    (hr : b.resid < 2 ^ 16) :
    (beaconBytes b).length = 20 ∧ readMsg 0x01 0 (beaconBytes b) = some (.beacon b) := by
  have hl : (beaconBytes b).length = 20 := by simp [beaconBytes]
  refine ⟨hl, ?_⟩
  have hi : b.inhibit.toNat < 2 := Bool.toNat_lt _
  simp only [Nat.reducePow] at hs hw hv hr
  simp only [readMsg, readBeacon, hl]
  simp [beaconBytes, fieldAt_append_right, fieldAt_leBytes_append, fieldAt_leBytes, given, Nat.mod_eq_of_lt, hs, hw, hv,
    hr, Nat.mod_eq_of_lt (Nat.lt_trans hi (by decide : 2 < 256)), hi]

theorem void_roundTrip (v : VoidRec) (hs : v.slot < 2 ^ 32) (hr : v.reason < 256) (hn : v.station < 256)
    (hi : v.incident < 2 ^ 16) (hf : v.frame < 2 ^ 32) :
    (voidBytes v).length = 12 ∧ readMsg 0x04 0 (voidBytes v) = some (.void v) := by
  have hl : (voidBytes v).length = 12 := by simp [voidBytes]
  refine ⟨hl, ?_⟩
  simp only [Nat.reducePow] at hs hi hf
  simp only [readMsg, readVoid, hl]
  simp [voidBytes, fieldAt_append_right, fieldAt_leBytes_append, fieldAt_leBytes, given, Nat.mod_eq_of_lt, hs, hr, hn, hi,
    hf]

theorem hello_roundTrip {serial n role map a b : Nat} (hs : serial < 2 ^ 64) (hn : n < 256) (hr : role < 256)
    (hm : map < 2 ^ 32) (ha : a < 2 ^ 32) (hb : b < 2 ^ 32) :
    (msgPayload 0 (.hello serial n role map a b)).length = 24 ∧
      readMsg 0x20 0 (msgPayload 0 (.hello serial n role map a b)) = some (.hello serial n role map a b) := by
  have hl : (msgPayload 0 (.hello serial n role map a b)).length = 24 := by simp [msgPayload]
  refine ⟨hl, ?_⟩
  simp only [Nat.reducePow] at hs hm ha hb
  simp only [readMsg, hl]
  simp [msgPayload, fieldAt_append_right, fieldAt_leBytes_append, fieldAt_leBytes, given, Nat.mod_eq_of_lt, hs, hn, hr, hm,
    ha, hb]

theorem assign_roundTrip {serial n role a b : Nat} (hs : serial < 2 ^ 64) (hn : n < 256) (hr : role < 256)
    (ha : a < 2 ^ 32) (hb : b < 2 ^ 32) :
    (msgPayload 0 (.assign serial n role a b)).length = 20 ∧
      readMsg 0x21 0 (msgPayload 0 (.assign serial n role a b)) = some (.assign serial n role a b) := by
  have hl : (msgPayload 0 (.assign serial n role a b)).length = 20 := by simp [msgPayload]
  refine ⟨hl, ?_⟩
  simp only [Nat.reducePow] at hs ha hb
  simp only [readMsg, hl]
  simp [msgPayload, fieldAt_append_right, fieldAt_leBytes_append, fieldAt_leBytes, given, Nat.mod_eq_of_lt, hs, hn, hr, ha,
    hb]

/-! A whole frame. -/

theorem msgType_lt (m : RingMsg) : msgType m < 256 := by cases m <;> simp [msgType]

/-- The CRC that a frame carries is the one its bytes have. -/
theorem frameCrcOk_frameBytes (f : RingFrame) : frameCrcOk (frameBytes f) = true := by
  have hl : (frameBytes f).length - 4 = (frameBody f).length := by simp [frameBytes]
  have hc : crc32c (frameBody f) < 256 ^ 4 := by
    exact BitVec.isLt _
  have h20 : 20 ≤ (frameBytes f).length := by simp [frameBytes, frameBody]; omega
  rw [frameCrcOk, hl]
  simp only [Bool.and_eq_true, decide_eq_true_eq]
  refine ⟨h20, ?_⟩
  rw [frameBytes, List.take_left, ofLe_drop_append_leBytes, Nat.mod_eq_of_lt hc]

/-- The flags of a header. -/
theorem flags_bits (a b : Bool) : a.toNat + 2 * b.toNat < 4 ∧ (a.toNat + 2 * b.toNat).testBit 0 = a ∧
    (a.toNat + 2 * b.toNat).testBit 1 = b := by
  cases a <;> cases b <;> decide

/-- The 16 bytes before the payload (R354). -/
def frameHeader (f : RingFrame) : List Byte :=
  leBytes 1 (msgType f.m) ++ leBytes 1 (f.dst.isNone.toNat + 2 * f.wrapped.toNat) ++ leBytes 1 f.hops
    ++ leBytes 1 ((msgPayload (f.dst.getD 0) f.m).length / 4) ++ leBytes 4 f.term ++ leBytes 3 (f.dst.getD 0)
    ++ leBytes 1 f.src ++ leBytes 2 f.lseq ++ leBytes 2 0

theorem frameHeader_length (f : RingFrame) : (frameHeader f).length = 16 := by simp [frameHeader]

theorem frameBytes_eq (f : RingFrame) : frameBytes f =
    frameHeader f ++ (msgPayload (f.dst.getD 0) f.m ++ leBytes 4 (crc32c (frameBody f))) := by
  simp [frameBytes, frameBody, frameHeader]

theorem frameBytes_length (f : RingFrame) :
    (frameBytes f).length = 20 + (msgPayload (f.dst.getD 0) f.m).length := by
  simp [frameBytes_eq, frameHeader_length]
  omega

theorem frameBytes_payload (f : RingFrame) :
    ((frameBytes f).drop 16).take ((frameBytes f).length - 20) = msgPayload (f.dst.getD 0) f.m := by
  rw [frameBytes_length, Nat.add_sub_cancel_left, frameBytes_eq, List.drop_left' (frameHeader_length f), List.take_left]

/-- A field of the header stands where the header has it. -/
theorem frameBytes_fieldAt (f : RingFrame) {k n : Nat} (h : k + n ≤ 16) :
    fieldAt (frameBytes f) k n = fieldAt (frameHeader f) k n := by
  rw [frameBytes_eq, fieldAt_append_left _ _ (by rwa [frameHeader_length])]

theorem frameHeader_fields (f : RingFrame) :
    fieldAt (frameHeader f) 0 1 = msgType f.m ∧
      fieldAt (frameHeader f) 1 1 = f.dst.isNone.toNat + 2 * f.wrapped.toNat ∧
      fieldAt (frameHeader f) 2 1 = f.hops % 256 ∧
      fieldAt (frameHeader f) 3 1 = (msgPayload (f.dst.getD 0) f.m).length / 4 % 256 ∧
      fieldAt (frameHeader f) 4 4 = f.term % 2 ^ 32 ∧ fieldAt (frameHeader f) 8 3 = f.dst.getD 0 % 2 ^ 24 ∧
      fieldAt (frameHeader f) 11 1 = f.src % 256 ∧ fieldAt (frameHeader f) 12 2 = f.lseq % 2 ^ 16 ∧
      fieldAt (frameHeader f) 14 2 = 0 := by
  have ht := Nat.mod_eq_of_lt (msgType_lt f.m)
  have hf := Nat.mod_eq_of_lt (Nat.lt_trans (flags_bits f.dst.isNone f.wrapped).1 (by decide : 4 < 256))
  simp [frameHeader, fieldAt_append_right, fieldAt_leBytes_append, fieldAt_leBytes, ht, hf]

/-- What is read from the bytes of a frame whose numbers fit their fields and whose payload reads back. -/
theorem readFrame_frameBytes (f : RingFrame) (d : Nat) (hd : ∀ x, f.dst = some x → x < 2 ^ 17) (hs : f.src < 256)
    (ht : f.term < 2 ^ 32) (hh : f.hops < 256) (hl : f.lseq < 2 ^ 16)
    (h4 : (msgPayload (f.dst.getD 0) f.m).length % 4 = 0) (h128 : (msgPayload (f.dst.getD 0) f.m).length ≤ 128)
    (hm : readMsg (msgType f.m) (f.dst.getD 0) (msgPayload (f.dst.getD 0) f.m) = some f.m) :
    readFrame d (frameBytes f) =
      ({ dir := d, dst := f.dst, term := f.term, src := f.src, lseq := f.lseq, hops := f.hops, wrapped := f.wrapped,
         err := .none }, some f.m) := by
  obtain ⟨e0, e1, e2, e3, e4, e8, e11, e12, e14⟩ := frameHeader_fields f
  obtain ⟨hf4, hb0, hb1⟩ := flags_bits f.dst.isNone f.wrapped
  have hx : f.dst.getD 0 < 2 ^ 17 := by
    cases e : f.dst with
    | none => decide
    | some x => exact hd x e
  have hx24 : f.dst.getD 0 % 2 ^ 24 = f.dst.getD 0 := Nat.mod_eq_of_lt (Nat.lt_trans hx (by decide))
  have hp : (msgPayload (f.dst.getD 0) f.m).length / 4 % 256 = (msgPayload (f.dst.getD 0) f.m).length / 4 := by omega
  have hdst : (if f.dst.isNone then none else some (f.dst.getD 0)) = f.dst := by cases f.dst <;> rfl
  have hhdr : readHdr d (frameBytes f) =
      { dir := d, dst := f.dst, term := f.term, src := f.src, lseq := f.lseq, hops := f.hops, wrapped := f.wrapped,
        err := .none } := by
    rw [readHdr]
    simp only [frameBytes_fieldAt f (by decide : 1 + 1 ≤ 16), frameBytes_fieldAt f (by decide : 8 + 3 ≤ 16),
      frameBytes_fieldAt f (by decide : 4 + 4 ≤ 16), frameBytes_fieldAt f (by decide : 11 + 1 ≤ 16),
      frameBytes_fieldAt f (by decide : 12 + 2 ≤ 16), frameBytes_fieldAt f (by decide : 2 + 1 ≤ 16), e1, e2, e4, e8, e11,
      e12, hb0, hb1, hx24, Nat.mod_eq_of_lt hx, Nat.mod_eq_of_lt hs, Nat.mod_eq_of_lt ht, Nat.mod_eq_of_lt hh,
      Nat.mod_eq_of_lt hl, hdst]
  have hfits : hdrFits (frameBytes f) = true := by
    have hbroad : f.dst.isNone = false ∨ f.dst.getD 0 = 0 := by cases f.dst <;> simp
    simp only [hdrFits, frameBytes_fieldAt f (by decide : 1 + 1 ≤ 16), frameBytes_fieldAt f (by decide : 8 + 3 ≤ 16),
      frameBytes_fieldAt f (by decide : 14 + 2 ≤ 16), frameBytes_fieldAt f (by decide : 3 + 1 ≤ 16), e1, e3, e8, e14, hb0,
      hx24, hp, frameBytes_length, Bool.and_eq_true, decide_eq_true_eq, Bool.or_eq_true, Bool.not_eq_true']
    refine ⟨⟨⟨⟨⟨hf4, hx⟩, trivial⟩, hbroad⟩, by omega⟩, by omega⟩
  have hread : readMsg (fieldAt (frameBytes f) 0 1) (f.dst.getD 0)
      (((frameBytes f).drop 16).take ((frameBytes f).length - 20)) = some f.m := by
    rw [frameBytes_payload, frameBytes_fieldAt f (by decide : 0 + 1 ≤ 16), e0, hm]
  simp only [readFrame, frameCrcOk_frameBytes, hhdr, hfits, if_true, hread, Bool.not_true, Bool.false_eq_true, if_false]

theorem readFrame_badCrc (d : Nat) {bs : List Byte} (h : frameCrcOk bs = false) :
    readFrame d bs = ({ readHdr d bs with err := .crc }, none) := by
  simp [readFrame, h]

/-! The commands that are frames. -/

/-- A frame's command receives it: what it does once it is accepted is its own. -/
theorem exec_of_frameOf {c : Instr} {h : Hdr} {m : RingMsg} (hc : frameOf c = some (h, m)) :
    ∃ body : State → State, ∀ s, exec c s = .next (s.onFrame h m body) := by
  cases c <;> simp only [frameOf, Option.some.injEq, Prod.mk.injEq, reduceCtorEq] at hc <;> obtain ⟨rfl, rfl⟩ := hc <;>
    exact ⟨_, fun _ => rfl⟩

/-- A link that takes a numbered frame expects the next LSEQ. -/
theorem link_linkTook (s : State) {h : Hdr} (hn : h.lseq ≠ 0xFFFF) :
    ((s.linkTook h).link h.dir).nextIn = ((s.link h.dir).nextIn + 1) % 0xFFFF := by
  have hk (t : State) (d l : Nat) (n : Bool) (e : Nat) : (t.linkctlOut d l n).link e = t.link e := by
    rw [State.linkctlOut]; split <;> rfl
  simp only [State.linkTook, hn, if_false, hk]
  simp [State.link, State.setLink]

theorem retire_role (s : State) : s.retire.role = 4 := by
  rw [State.retire, State.role, State.setOff, fld_setFld_ne _ _ (by decide), fld_setFld_same]
  decide

theorem retire_outen (s : State) : s.retire.flag GLB_DRVEN_OUTEN = false := by
  rw [State.retire, State.flag, State.setOff, fld_setFld_ne _ _ (by decide), fld_setFld_ne _ _ (by decide), State.setOff,
    fld_setFld_same]
  decide

theorem rxAgain_of_back {s : State} {h : Hdr} (hb : 1 ≤ ((s.link h.dir).nextIn + 0xFFFF - h.lseq) % 0xFFFF)
    (ha : ((s.link h.dir).nextIn + 0xFFFF - h.lseq) % 0xFFFF < 0x8000) :
    s.rxAgain h = s.linkctlOut (1 - h.dir) h.lseq false := by
  rw [State.rxAgain]; exact if_pos ⟨hb, ha⟩

theorem rxAgain_of_not_back {s : State} {h : Hdr} (hb : ((s.link h.dir).nextIn + 0xFFFF - h.lseq) % 0xFFFF = 0 ∨
    0x8000 ≤ ((s.link h.dir).nextIn + 0xFFFF - h.lseq) % 0xFFFF) : s.rxAgain h = s := by
  rw [State.rxAgain]; exact if_neg (by omega)

/-- Settles O56, from the rules for `onFrame` and the reading back of each field. -/
theorem frameReception : Obligations.FrameReception := by
  intro c h m s hc
  obtain ⟨body, hx⟩ := exec_of_frameOf hc
  simp only [hx]
  refine ⟨fun hl => by rw [onFrame_deaf _ hl], fun hl he => by rw [onFrame_bad _ hl he],
    fun hn => by rw [State.rxBad]; exact if_pos hn, fun hl he hi => by rw [onFrame_out_of_turn _ hl he hi],
    ⟨fun h1 h2 => rxAgain_of_back h1 h2, rxAgain_of_not_back⟩, fun hi hw => by rw [onFrame_malformed _ hi hw],
    fun hi hw ht => by rw [onFrame_low_term _ hi hw ht], fun hi hw hm ht => by rw [onFrame_high_term _ hi hw hm ht],
    fun hh hf => by rw [onFrame_passes _ hh hf], fun hn => link_linkTook s hn,
    fun hn => by rw [State.linkTook]; exact if_pos hn, retire_role s, retire_outen s, ?_, fun d bs hb => readFrame_badCrc d hb,
    fun b => beacon_roundTrip b, fun v => void_roundTrip v, ?_⟩
  · intro f d hd hs ht hh hl h4 h128 hm
    exact readFrame_frameBytes f d hd hs ht hh hl h4 h128 hm
  · intro serial n role map a b hs hn hr hm ha hb
    exact ⟨hello_roundTrip hs hn hr hm ha hb, assign_roundTrip hs hn hr ha hb⟩

end Sys2Proof.Machine

/-! What a fault source, a partner violation and an event record leave unchanged of the registers. -/

namespace Sys2Proof.Machine

/-- A command that a node that is off ignores, on a node that is not. -/
theorem next_on {s t : State} (h : s.isOff = false) :
    (.next (if s.isOff then s else t) : Host.Outcome State Fault Refusal) = .next t := by
  rw [h]; rfl

/-- The places a source event of block `b` may write: its own status word, the state and the incident number of its
block, the next incident number, and what an event record writes. -/
def raiseKey (b src k : Nat) : Prop :=
  k = (fstatOf b src).key ∨ k = (FLT_BLKSTAT_STATE b).key ∨ k = (FLT_BLKINC_INCIDENT b).key ∨ k = FLT_INCNEXT_VALUE.key ∨
    eventKey k

theorem eventFrame_violation (s : State) (iface : Nat) (en : Bool) (acct : Nat) :
    EventFrame s (s.violation iface en acct) :=
  .ite (.trans (u := { s with viols := tabSet Viol.init s.viols iface ⟨some s.time.cycles, 0, acct, en⟩ }) (.of_eq rfl rfl rfl)
    (.ite (eventFrame_post _ acct evProtocolViol 1 0 0) (.refl _))) (.of_eq rfl rfl rfl)

section Registers

variable (s : State) {f : Field}

theorem fld_post {a type detail sub incident : Nat} (hf : ¬ eventKey f.key) :
    (s.post a type detail sub incident).fld f = s.fld f := (eventFrame_post s a type detail sub incident).fld f hf

theorem fld_postIf {en acct : Field} {type detail sub incident : Nat} (hf : ¬ eventKey f.key) :
    (s.postIf en acct type detail sub incident).fld f = s.fld f := by
  rw [State.postIf]
  split
  · exact fld_post s hf
  · rfl

theorem fld_violation {iface acct : Nat} {en : Bool} (hf : ¬ eventKey f.key) :
    (s.violation iface en acct).fld f = s.fld f := (eventFrame_violation s iface en acct).fld f hf

theorem fld_openIncident {b src : Nat} {given : Option Nat} (hf : ¬ raiseKey b src f.key) :
    (s.openIncident b src given).fld f = s.fld f := by
  obtain ⟨n, u, hopen, -, hfld⟩ := openIncident_eq s b src given
  simp only [raiseKey, not_or] at hf
  obtain ⟨-, hst, hinc, hnext, he⟩ := hf
  rw [hopen, fld_openNumbered_ne _ _ _ _ he hst hinc, hfld _ hnext]

/-- A source event leaves every register it has no reason to write. -/
theorem fld_raiseWith {b src : Nat} {given : Option Nat} (hf : ¬ raiseKey b src f.key) :
    (s.raiseWith b src given).fld f = s.fld f := by
  have hset : (s.setFbit (fstatOf b src) (src % 32)).fld f = s.fld f := fld_setFld_ne s _ fun h => hf (.inl h)
  have hblk (u : State) (v : Nat) : (u.setBlk b v).fld f = u.fld f := fld_setFld_ne u _ fun h => hf (.inr (.inl h))
  cases hd : s.dormantMute b src with
  | true => rw [raiseWith_of_mute given hd]
  | false =>
    cases hm : s.srcMasked b src with
    | true => rw [raiseWith_of_masked given hd hm, hset]
    | false =>
      by_cases h0 : s.blk b = 0
      · rw [raiseWith_of_normal given hd hm h0, fld_openIncident _ hf, hset]
      · by_cases hj : s.blk b = 1 ∨ s.blk b = 4
        · rw [raiseWith_of_joining given hd hm hj, fld_setIncident, hset]
        · rw [raiseWith_of_auditing given hd hm h0 hj, hblk, fld_setIncident, hset]

theorem fld_raise {b src : Nat} (hf : ¬ raiseKey b src f.key) : (s.raise b src).fld f = s.fld f := fld_raiseWith s hf

end Registers

theorem srcSet_raise {s : State} {b src : Nat} (h : sourceOk b src = true) (hd : s.dormantMute b src = false) :
    (s.raise b src).srcSet b src = true := srcSet_raiseWith none h hd

/-- A source's bit keeps its value where its status word is left alone. -/
theorem srcSet_of_fld {s u : State} {b src : Nat} (h : u.fld (fstatOf b src) = s.fld (fstatOf b src)) :
    u.srcSet b src = s.srcSet b src := by
  rw [State.srcSet, State.fbit, h]; rfl

theorem flag_of_fld {s u : State} {f : Field} (h : u.fld f = s.fld f) : u.flag f = s.flag f := by
  rw [State.flag, h]; rfl

/-- A partner violation counts in its own record and posts at most one event. -/
theorem violation_cases (s : State) (iface : Nat) (en : Bool) (acct : Nat) : ∃ v,
    s.violation iface en acct = { s with viols := v } ∨
    s.violation iface en acct = State.post { s with viols := v } acct evProtocolViol 1 0 0 := by
  by_cases hc : (match (tabGet Viol.init s.viols iface).lastAt with
      | none => true
      | some t => s.violOld t) = true ∧ (tabGet Viol.init s.viols iface).count = 0
  · cases en with
    | true => exact ⟨_, .inr (if_pos hc)⟩
    | false => exact ⟨_, .inl (if_pos hc)⟩
  · exact ⟨_, .inl (if_neg hc)⟩

/-- Parts of the node that neither a violation's record nor an event touches. -/
theorem of_violation {α : Type} {p : State → α} (hv : ∀ u v, p { u with viols := v } = p u)
    (hp : ∀ u a b c d e, p (u.post a b c d e) = p u) (s : State) (iface : Nat) (en : Bool) (acct : Nat) :
    p (s.violation iface en acct) = p s := by
  obtain ⟨v, h | h⟩ := violation_cases s iface en acct
  · rw [h, hv]
  · rw [h, hp, hv]

theorem pos_violation (s : State) (iface : Nat) (en : Bool) (acct : Nat) : (s.violation iface en acct).pos = s.pos :=
  of_violation (p := State.pos) (fun _ _ => rfl) (fun u a b c d e => congrArg (fun q => q.node.pos) (quiet_post u a b c d e)) s
    iface en acct

theorem pos_raise (s : State) (b src : Nat) : (s.raise b src).pos = s.pos := congrArg (fun q => q.node.pos) (quiet_raise s b src)

/-! The exact places of event records. -/

/-- What an event record and its mirror record may write: FLT_MSEQ, FLT_STBYDROP, four fields of an event queue, and the
pending bits of MSI-X. -/
def noticeKey (k : Nat) : Prop :=
  k = FLT_MSEQ_MSEQ.key ∨ k = FLT_STBYDROP_COUNT.key ∨ (∃ v, k = (MSIX_PBA_PENDING v).key) ∨
    ∃ a, k = (EVQ_TAIL_TAIL a).key ∨ k = (EVQ_PEND_HELD a).key ∨ k = (EVQ_PEND_LOSTPEND a).key ∨ k = (EVQ_DROP_DROP a).key

section Exact

variable (s : State) {f : Field} (hf : ¬ noticeKey f.key)
include hf

theorem fld_msix_exact (v : Nat) : (s.msix v).fld f = s.fld f := by
  rw [State.msix]
  split
  · exact fld_setFld_ne s _ fun h => hf (.inr (.inr (.inl ⟨_, h⟩)))
  · rfl

theorem fld_recordWritten_exact (a : Nat) : (s.recordWritten a).fld f = s.fld f := by
  rw [State.recordWritten]
  split
  · exact fld_msix_exact s hf _
  · split
    · rfl
    · exact fld_msix_exact s hf _

omit hf in
theorem fld_frameOut (d : Nat) (m : RingFrame) : (s.frameOut d m).fld f = s.fld f := by
  rw [State.frameOut]; split <;> rfl

omit hf in
theorem fld_ringBoth (dst : Option Nat) (m : RingMsg) : (s.ringBoth dst m).fld f = s.fld f :=
  (fld_frameOut _ 1 _).trans (fld_frameOut s 0 _)

theorem fld_mirrorSend_exact (t st i x : Nat) (d : MirData) : (s.mirrorSend t st i x d).fld f = s.fld f := by
  rw [State.mirrorSend]
  split
  · exact (fld_ringBoth _ _ _).trans (fld_setFld_ne _ _ fun h => hf (.inl h))
  · rfl

theorem fld_writeRecord_exact (a : Nat) (r : EventRec) : (s.writeRecord a r).fld f = s.fld f := by
  rw [State.writeRecord, State.hostOut]
  split
  · rfl
  · exact fld_recordWritten_exact _ hf a

theorem fld_setHeld_exact (a : Nat) (l : List EventRec) : (s.setHeld a l).fld f = s.fld f :=
  fld_setFld_ne _ _ fun h => hf (.inr (.inr (.inr ⟨a, .inr (.inl h)⟩)))

theorem fld_appendRecord_exact (a : Nat) (mk : Nat → Nat → EventRec) : (s.appendRecord a mk).fld f = s.fld f := by
  have hsend (v : Nat) (r : EventRec) :
      ((s.setFld (EVQ_TAIL_TAIL a) v).mirrorSend 0xFF 0 0 a (.event r)).fld f = s.fld f := by
    rw [fld_mirrorSend_exact _ hf]
    exact fld_setFld_ne _ _ fun h => hf (.inr (.inr (.inr ⟨a, .inl h⟩)))
  simp only [State.appendRecord]
  split
  · exact (fld_setHeld_exact _ hf a _).trans (hsend _ _)
  · exact (fld_writeRecord_exact _ hf a _).trans (hsend _ _)

theorem fld_postAt_exact (a type detail sub incident w : Nat) (stby : Bool) :
    (s.postAt a type detail sub incident w stby).fld f = s.fld f := by
  have hlost (u : State) (v : Nat) : (u.setFld (EVQ_PEND_LOSTPEND a) v).fld f = u.fld f :=
    fld_setFld_ne _ _ fun h => hf (.inr (.inr (.inr ⟨a, .inr (.inr (.inl h))⟩)))
  simp only [State.postAt]
  split
  · exact fld_setFld_ne _ _ fun h => hf (.inr (.inr (.inr ⟨a, .inr (.inr (.inr h))⟩)))
  · split
    · split
      · exact hlost _ _
      · exact fld_appendRecord_exact s hf _ _
    · split
      · exact hlost _ _
      · rw [fld_appendRecord_exact _ hf, hlost, fld_appendRecord_exact _ hf]

theorem fld_postW_exact (a type detail sub incident w : Nat) :
    (s.postW a type detail sub incident w).fld f = s.fld f := by
  rw [State.postW]
  split
  · split
    · exact fld_postAt_exact s hf _ _ _ _ _ _ _
    · exact fld_setFld_ne _ _ fun h => hf (.inr (.inl h))
  · exact fld_postAt_exact s hf _ _ _ _ _ _ _

end Exact

end Sys2Proof.Machine

/-! Scan timing of a port, its profiles and pixel PLL, and the choice of a band (O44). -/

namespace Sys2Proof.Machine

/-! Which roles hold the scan blocks in reset (R19). -/

theorem heldInReset_of_live {s : State} (h : s.role = 0 ∨ s.role = 3) {a : Nat} (ha : a < 0xA80000) :
    s.heldInReset a = false := by
  have h1 : ¬ (s.role = 1 ∨ s.role = 2 ∨ s.role = 4) := by omega
  have h2 : ¬ 0xA80000 ≤ a := by omega
  simp_all [State.heldInReset]

theorem heldInReset_of_held {s : State} (h : s.role = 1 ∨ s.role = 2 ∨ s.role = 4) {a : Nat} (ha : 0x508100 ≤ a)
    (hb : a < 0x510000) : s.heldInReset a = true := by
  have h1 : (decide (s.role = 1) || decide (s.role = 2) || decide (s.role = 4)) = true := by simpa [or_assoc] using h
  simp [State.heldInReset, h1, ha, hb]

/-! SOS and EOS pulses. -/

theorem edgeTime_eq (s : State) (n rise width : Nat) : s.edgeTime n rise width =
    if s.fld (SCN_CFG_EDGE n) = 1 then rise else if s.fld (SCN_CFG_EDGE n) = 2 then rise + width
    else rise + width / 2 := by
  rw [State.edgeTime]
  split
  · next h => rw [if_pos h]
  · next h => rw [if_neg (by omega), if_pos h]
  · next h1 h2 => rw [if_neg h1, if_neg h2]

theorem inSosWin_iff (s : State) (n pp place : Nat) : s.inSosWin n pp place = true ↔
    ((pp * 2 ^ 16 : Int) - place).natAbs ≤ s.fld (SCN_WIN_SOSWIN n) * 2 ^ 16 := by
  rw [State.inSosWin, decide_eq_true_eq]

section Port

variable {s : State} (hoff : s.isOff = false) {n : Nat} (hn : n < 4)
include hoff hn

section SosEdge

variable {rise width phase pp : Nat}

omit hn in
theorem execSosEdge_of_long (h : 51200 < width) : execSosEdge n rise width phase pp s = .next s := by
  simp [execSosEdge, hoff, h]

theorem execSosEdge_of_outside (hw : width ≤ 51200) (hl : s.flag (SCN_STAT_LOCKED n) = true)
    (ho : ¬ s.inSosWin n pp (s.fld (PLL_PPS_VALUE n)) = true) :
    execSosEdge n rise width phase pp s = .next (s.inc SCN_VIOL_COUNT) := by
  have h4 : ¬ (n ≥ 4 ∨ width > 51200) := by omega
  simp [execSosEdge, hoff, h4, hl, ho]

theorem execSosEdge_of_accepted (hw : width ≤ 51200)
    (ho : ¬ (s.flag (SCN_STAT_LOCKED n) = true ∧ ¬ s.inSosWin n pp (s.fld (PLL_PPS_VALUE n)) = true)) :
    execSosEdge n rise width phase pp s = .next ((((((s.eosTally n).sosRecord n (s.edgeTime n rise width) width).setFld
      (SCN_STAT_PRED n) 0).mapScan n fun c => { c with predInc := none }).sosStrobe n phase 0).sosPhase n s.wpos) := by
  have h4 : ¬ (n ≥ 4 ∨ width > 51200) := by omega
  rw [execSosEdge, if_neg (by simp [hoff]), if_neg h4, if_neg ho]

end SosEdge

section EosEdge

variable {time pp width : Nat}

theorem execEosEdge_of_index (h : s.flag (SCN_CFG_FACETSRC n) = true) :
    execEosEdge n time pp width s = .next (s.setScan n { s.scanP n with index := true }) := by
  rw [execEosEdge, if_neg (by simp [hoff]), if_neg (by omega), if_pos h, State.mapScan]

variable (hf : s.flag (SCN_CFG_FACETSRC n) = false) (he : s.flag (SCN_CFG_EOSEN n) = true)
include hf he

theorem execEosEdge_of_outside (ho : ¬ s.inSosWin n pp (s.fld (SCN_WIN_EOSEXP n) * 2 ^ 16) = true) :
    execEosEdge n time pp width s = .next (s.inc SCN_VIOL_COUNT) := by
  rw [execEosEdge, if_neg (by simp [hoff]), if_neg (by omega), if_neg (by simp [hf]), if_neg (by simp [he]), if_pos ho]

theorem execEosEdge_of_near (ho : s.inSosWin n pp (s.fld (SCN_WIN_EOSEXP n) * 2 ^ 16) = true) {t : Nat}
    (ht : (s.scanP n).lastTime = some t) : execEosEdge n time pp width s =
      .next (((s.setScan n { s.scanP n with eosSeen := true }).calWidth (4 + n) width).setFld (SCN_EOSDUR_VALUE n)
        ((time + 2 ^ 32 - t % 2 ^ 32) % 2 ^ 32)) := by
  simp only [execEosEdge, hoff, hf, he, ho, ht, Nat.not_le.mpr hn, Bool.false_eq_true, not_true_eq_false,
    if_false, State.mapScan]

end EosEdge

/-! Prediction, phase lock, profiles. -/

omit hn in
theorem execSosPredict_of_unlocked {phase : Nat} (h : s.flag (SCN_STAT_LOCKED n) = false) :
    execSosPredict n phase s = .next s := by
  simp [execSosPredict, hoff, h]

theorem execSosPredict_of_locked {phase : Nat} (h : s.flag (SCN_STAT_LOCKED n) = true) : execSosPredict n phase s =
    .next (if s.fld (SCN_STAT_PRED n) ≥ s.fld (SCN_CFG_SOSBUD n) then s.sosLost n
      else (((((((s.setFld (SCN_STAT_PRED n) (s.fld (SCN_STAT_PRED n) + 1)).inc (SCN_PREDCNT_COUNT n)).predictNumber
        n).eosTally n).predictTime n).nextFacet n).sosStrobe n phase (s.fld (SCN_WIN_SOSWIN n))).sosPhase n
          (s.predictedAt n)) := by
  rw [execSosPredict, if_neg (by simp [hoff]), if_neg (by simp [h]; omega)]

theorem execPlockEnable_eq (on : Bool) : execPlockEnable n on s = .next (s.plockWrite n on) := by
  rw [execPlockEnable, if_neg (by simp [hoff]), if_pos hn]

theorem execProfileCommit_eq : execProfileCommit n s =
    .next (s.atReg (PLL_PROFCTL_COMMIT n).addr fun s => s.profileCommit n) := by
  rw [execProfileCommit, if_neg (by simp [hoff]), if_pos hn]

/-! The pixel PLL. -/

theorem execPll_of_idle (h : s.flag (PLL_CTL_EN n) = false ∨ s.role = 1 ∨ s.role = 2 ∨ s.role = 4) :
    execPllLossOfLock n s = .next s ∧ execPllLockAcquired n s = .next s := by
  have hc : ¬ (n < 4 ∧ s.flag (PLL_CTL_EN n) = true ∧ ¬ s.heldInReset (PLL_CTL_EN n).addr = true) := by
    rintro ⟨-, he, hr⟩
    rcases h with h | h
    · simp [h] at he
    · exact hr (heldInReset_of_held h (by simp only [PLL_CTL_EN]; omega) (by simp only [PLL_CTL_EN]; omega))
  constructor
  · rw [execPllLossOfLock, if_neg (by simp [hoff]), if_neg hc]
  · rw [execPllLockAcquired, if_neg (by simp [hoff]), if_neg hc]

section LivePll

variable (he : s.flag (PLL_CTL_EN n) = true) (hr : s.role = 0 ∨ s.role = 3)
include he hr

omit hoff in
theorem pll_live : n < 4 ∧ s.flag (PLL_CTL_EN n) = true ∧ ¬ s.heldInReset (PLL_CTL_EN n).addr = true :=
  ⟨hn, he, by rw [heldInReset_of_live hr (by simp only [PLL_CTL_EN]; omega)]; simp⟩

theorem execPllLossOfLock_live : execPllLossOfLock n s =
    .next ((((s.setFld (PLL_CTL_LOCK n) 0).inc (PLL_LOLCNT_COUNT n)).raise 6 n).voidFromNext n 7
      ((((s.setFld (PLL_CTL_LOCK n) 0).inc (PLL_LOLCNT_COUNT n)).raise 6 n).incOf 6)) := by
  rw [execPllLossOfLock, if_neg (by simp [hoff]), if_pos (pll_live hn he hr)]
  rfl

theorem execPllLockAcquired_live : execPllLockAcquired n s =
    .next ((s.setFld (PLL_CTL_LOCK n) 1).setScan n { s.scanP n with
      bandBusy := (s.scanP n).bandBusy && (s.flag (HLK_CTL_EN n) && ! s.linkUp n) }) := by
  rw [execPllLockAcquired, if_neg (by simp [hoff]), if_pos (pll_live hn he hr)]
  rfl

end LivePll

end Port

/-! Bands. -/

theorem bandHolds_iff (hz b : Nat) : bandHolds hz b = true ↔ 1875000000 ≤ 160 * hz * 2 ^ b ∧
    160 * hz * 2 ^ b ≤ 3846000000 := by
  rw [bandHolds, Bool.and_eq_true, decide_eq_true_eq, decide_eq_true_eq]

theorem bandHolds_eq_false_iff (hz b : Nat) : bandHolds hz b = false ↔ ¬ (1875000000 ≤ 160 * hz * 2 ^ b ∧
    160 * hz * 2 ^ b ≤ 3846000000) := by
  rw [← bandHolds_iff, Bool.not_eq_true]

/-- The chain of tests that `bandOf` is. -/
theorem bandOf_cases (hz : Nat) : (∃ b, b < 5 ∧ bandOf hz = b ∧ bandHolds hz b = true ∧ ∀ a, a < b → bandHolds hz a = false) ∨
    (bandOf hz = 7 ∧ ∀ b, b < 5 → bandHolds hz b = false) := by
  have below {k : Nat} (ha : ∀ a, a < k → bandHolds hz a = false) (hk : bandHolds hz k = false) :
      ∀ a, a < k + 1 → bandHolds hz a = false := fun a h =>
    (Nat.lt_succ_iff_lt_or_eq.mp h).elim (ha a) fun e => e ▸ hk
  have none : ∀ a, a < 0 → bandHolds hz a = false := fun a h => absurd h (Nat.not_lt_zero a)
  by_cases h0 : bandHolds hz 0 = true
  · exact .inl ⟨0, by decide, by simp [bandOf, h0], h0, none⟩
  have n0 := below none (by simpa using h0)
  by_cases h1 : bandHolds hz 1 = true
  · exact .inl ⟨1, by decide, by simp [bandOf, h0, h1], h1, n0⟩
  have n1 := below n0 (by simpa using h1)
  by_cases h2 : bandHolds hz 2 = true
  · exact .inl ⟨2, by decide, by simp [bandOf, h0, h1, h2], h2, n1⟩
  have n2 := below n1 (by simpa using h2)
  by_cases h3 : bandHolds hz 3 = true
  · exact .inl ⟨3, by decide, by simp [bandOf, h0, h1, h2, h3], h3, n2⟩
  have n3 := below n2 (by simpa using h3)
  by_cases h4 : bandHolds hz 4 = true
  · exact .inl ⟨4, by decide, by simp [bandOf, h0, h1, h2, h3, h4], h4, n3⟩
  have n4 := below n3 (by simpa using h4)
  exact .inr ⟨by simp [bandOf, h0, h1, h2, h3, h4], n4⟩

theorem bandOf_lt_eight (hz : Nat) : bandOf hz < 8 := by
  rcases bandOf_cases hz with ⟨b, hb, h, -⟩ | ⟨h, -⟩ <;> omega

section BandChange

variable (s : State) {n b : Nat}

theorem fld_calLost (f : Field) : (s.calLost n).fld f = s.fld f := by
  rw [State.calLost]; split <;> rfl

theorem fld_trainStart_ne {st : Nat} {f : Field} (h : f.key ≠ (HLK_STAT_STATE n).key) :
    (s.trainStart n st).fld f = s.fld f := by
  have hc : (if s.linkUp n = true then s.calLost n else s).fld f = s.fld f := by
    split
    · exact fld_calLost s f
    · rfl
  exact (fld_setFld_ne _ st h).trans hc

theorem fld_trainStart_state {st : Nat} (h : st < 4) : (s.trainStart n st).fld (HLK_STAT_STATE n) = st :=
  (fld_setFld_same _ _ _).trans (Nat.mod_eq_of_lt h)

theorem key_band_pll : (SCN_STAT_BAND n).key ≠ (PLL_CTL_LOCK n).key ∧ (PLL_CTL_BAND n).key ≠ (PLL_CTL_LOCK n).key ∧
    (SCN_STAT_BAND n).key ≠ (PLL_CTL_BAND n).key ∧ (HLK_CTL_EN n).key ≠ (PLL_CTL_LOCK n).key ∧
    (HLK_CTL_EN n).key ≠ (PLL_CTL_BAND n).key ∧ (HLK_CTL_EN n).key ≠ (SCN_STAT_BAND n).key := by
  simp only [Field.key, SCN_STAT_BAND, PLL_CTL_LOCK, PLL_CTL_BAND, HLK_CTL_EN]
  omega

end BandChange

/-- A port outside an imaging window takes the band of its rate, relocks its PLL and trains its head link anew. -/
theorem execBandChange_of_gap {s : State} {n : Nat} (hoff : s.isOff = false) (hn : n < 4) (hr : s.role = 0 ∨ s.role = 3)
    (hp : s.portImaging n = false) (hb : bandOf (s.pixelHz n) ≠ s.fld (SCN_STAT_BAND n)) :
    ∃ s', execBandChange n s = .next s' ∧ s'.fld (SCN_STAT_BAND n) = bandOf (s.pixelHz n) ∧
      s'.fld (PLL_CTL_BAND n) = bandOf (s.pixelHz n) ∧ s'.flag (PLL_CTL_LOCK n) = false ∧
      (s.flag (HLK_CTL_EN n) = true → s'.fld (HLK_STAT_STATE n) = 1) := by
  obtain ⟨k1, k2, k3, k4, k5, k6⟩ := key_band_pll (n := n)
  obtain ⟨t1, t2, t3⟩ : (SCN_STAT_BAND n).key ≠ (HLK_STAT_STATE n).key ∧ (PLL_CTL_BAND n).key ≠ (HLK_STAT_STATE n).key ∧
      (PLL_CTL_LOCK n).key ≠ (HLK_STAT_STATE n).key := by
    simp only [Field.key, SCN_STAT_BAND, PLL_CTL_BAND, PLL_CTL_LOCK, HLK_STAT_STATE]
    omega
  have hlt : bandOf (s.pixelHz n) % 2 ^ 3 = bandOf (s.pixelHz n) := Nat.mod_eq_of_lt (bandOf_lt_eight _)
  have hc : n < 4 ∧ s.portGap n = true ∧ ¬ s.heldInReset 0x508100 = true ∧
      bandOf (s.pixelHz n) ≠ s.fld (SCN_STAT_BAND n) :=
    ⟨hn, by simp [State.portGap, hp], by simp [heldInReset_of_live hr], hb⟩
  rw [execBandChange, if_neg (by simp [hoff]), if_pos hc]
  generalize bandOf (s.pixelHz n) = b at *
  have fld_map (f : Field) (g : Scan → Scan) (u : State) : (u.mapScan n g).fld f = u.fld f := rfl
  have e1 : ((s.setBand n b).setOff (PLL_CTL_LOCK n)).fld (SCN_STAT_BAND n) = b := by
    rw [State.setOff, fld_setFld_ne _ _ k1, State.setBand, fld_setFld_ne _ _ k3, fld_setFld_same]; exact hlt
  have e2 : ((s.setBand n b).setOff (PLL_CTL_LOCK n)).fld (PLL_CTL_BAND n) = b := by
    rw [State.setOff, fld_setFld_ne _ _ k2, State.setBand, fld_setFld_same]; exact hlt
  have e3 : ((s.setBand n b).setOff (PLL_CTL_LOCK n)).fld (PLL_CTL_LOCK n) = 0 := by
    rw [State.setOff, fld_setFld_same]; exact Nat.zero_mod _
  have e4 : ((s.setBand n b).setOff (PLL_CTL_LOCK n)).fld (HLK_CTL_EN n) = s.fld (HLK_CTL_EN n) := by
    rw [State.setOff, fld_setFld_ne _ _ k4, State.setBand, fld_setFld_ne _ _ k5, fld_setFld_ne _ _ k6]
  refine ⟨_, rfl, ?_⟩
  simp only [State.flag, fld_map, e4]
  split
  · next h =>
    rw [fld_trainStart_ne _ t1, fld_trainStart_ne _ t2, fld_trainStart_ne _ t3, fld_trainStart_state _ (by decide)]
    simp only [fld_map, e1, e2, e3]
    simp
  · next h =>
    simp only [fld_map, e1, e2, e3]
    simp_all

/-! The sweep boundary. -/

/-- What TEV.SWEEP reaches. -/
theorem tev_sweepEvent (s : State) (n u : Nat) : ((s.sweepEvent n).teller u).tev =
    if s.flag (SCN_CTL_SWPEN n) = true ∧ u = s.fld (SCN_CTL_SWPT n) then (s.teller u).tev ||| 0x1000000
    else (s.teller u).tev := by
  rw [State.sweepEvent]
  by_cases he : s.flag (SCN_CTL_SWPEN n) = true
  · by_cases hu : u = s.fld (SCN_CTL_SWPT n)
    · subst hu
      simp [he, State.setTev, tevSweep]
    · simp [he, hu, State.setTev, teller_mapTeller_ne]
  · simp [he]

theorem setScan_setScan (s : State) (n : Nat) (c d : Scan) : (s.setScan n c).setScan n d = s.setScan n d := by
  simp [State.setScan, tabSet_tabSet]

theorem scanP_setScan (s : State) (n : Nat) (c : Scan) : (s.setScan n c).scanP n = c := by
  simp [State.setScan, State.scanP]

section Cross

variable (s : State) {n : Nat}

theorem sweepCross_zero : s.sweepCross n 0 =
    let u := (s.setScan n { s.scanP n with recent := [] }).sweepBoundary n
    u.setScan n { u.scanP n with commits := [] } := by
  simp [State.sweepCross, State.putBack, State.mapScan]

/-- One late write of a field: the boundary sees the value before it. -/
theorem sweepCross_write {f : Field} {v : Nat} {rest : List (List (Field × Nat))}
    (h : (s.scanP n).recent = [(f, v)] :: rest) : s.sweepCross n 1 =
      let u := (((s.setFld f v).setScan n { s.scanP n with recent := [] }).sweepBoundary n).setFld f (s.fld f)
      u.setScan n { u.scanP n with commits := [] } := by
  have hp : (s.setFld f v).scanP n = s.scanP n := rfl
  simp [State.sweepCross, State.putBack, State.mapScan, h, hp]

/-- One late commit: it waits for the next boundary. -/
theorem sweepCross_commit {rest : List (List (Field × Nat))} {p : Tab Nat × Bool} {older : List (Tab Nat × Bool)}
    (h : (s.scanP n).recent = [] :: rest) (hc : (s.scanP n).commits = p :: older) : s.sweepCross n 1 =
      let u := (s.setScan n { s.scanP n with recent := [], commits := older }).sweepBoundary n
      (u.setScan n { u.scanP n with commits := [p] }).setFld (PLL_PROFCTL_PEND n) 1 := by
  simp [State.sweepCross, State.putBack, State.mapScan, State.setOn, h, hc]

end Cross

theorem execSweepBoundary_live {s : State} {n : Nat} (hoff : s.isOff = false) (hn : n < 4) (hr : s.role = 0 ∨ s.role = 3)
    (late : Nat) : execSweepBoundary n late s = .next (s.sweepCross n late) := by
  rw [execSweepBoundary, if_neg (by simp [hoff, heldInReset_of_live hr]), if_pos hn]

theorem execSweepBoundary_held {s : State} {n : Nat} (hr : s.role = 1 ∨ s.role = 2 ∨ s.role = 4) (late : Nat) :
    execSweepBoundary n late s = .next s := by
  rw [execSweepBoundary, if_pos (.inr (heldInReset_of_held hr (by decide) (by decide)))]

/-- Settles O44: each clause is one branch of its command; the band is the first of the chain that holds. -/
theorem scanTimingAndBands : Obligations.ScanTimingAndBands := by
  refine ⟨fun s n rise width phase pp time hoff hn => ?_, fun hz => ?_⟩
  · intro near outside edge eosNear interval live held discarded
    have hedge : s.edgeTime n rise width = edge := edgeTime_eq s n rise width
    have hout : outside ↔ s.flag (SCN_STAT_LOCKED n) = true ∧ ¬ s.inSosWin n pp (s.fld (PLL_PPS_VALUE n)) = true := by
      rw [inSosWin_iff]
    have heos : eosNear ↔ s.inSosWin n pp (s.fld (SCN_WIN_EOSEXP n) * 2 ^ 16) = true := by
      rw [inSosWin_iff]
    have hprof (u : State) (f : State → State) (hr : u.role = 0 ∨ u.role = 3) :
        u.atReg (PLL_PROFCTL_COMMIT n).addr f = f u := by
      rw [State.atReg, heldInReset_of_live hr (by simp only [PLL_PROFCTL_COMMIT]; omega)]; rfl
    refine ⟨fun h => execSosEdge_of_long hoff h, fun hw ho => execSosEdge_of_outside hoff hn hw ho.1 (hout.mp ho).2,
      fun hw ho => ?_, fun h => execEosEdge_of_index hoff hn h, fun hf he => ⟨fun ho => ?_, fun ho t ht => ?_⟩,
      fun h => execSosPredict_of_unlocked hoff h, fun hl hb => ?_, fun hl hb => ?_, fun hp hb hi => ?_, fun hp hb hi => ?_,
      fun hp hb => ?_, ?_, ⟨fun hr hp => ?_, fun hr hp => ?_, fun hr => ?_⟩,
      fun he hr => ⟨execPllLossOfLock_live hoff hn he hr, execPllLockAcquired_live hoff hn he hr⟩,
      fun h => execPll_of_idle hoff hn h, fun hr hp hb => execBandChange_of_gap hoff hn hr hp hb,
      ⟨fun hr => ⟨?_, fun f v rest hc => ?_, fun rest p older hc hk => ?_⟩, fun hr => ?_⟩, tev_sweepEvent s n⟩
    · rw [← hedge]; exact execSosEdge_of_accepted hoff hn hw (fun h => ho (hout.mpr h))
    · exact execEosEdge_of_outside hoff hn hf he fun h => ho (heos.mpr h)
    · exact execEosEdge_of_near hoff hn hf he (heos.mp ho) ht
    · exact (execSosPredict_of_locked hoff hn hl).trans (by rw [if_pos hb])
    · exact (execSosPredict_of_locked hoff hn hl).trans (by rw [if_neg (Nat.not_le.mpr hb)])
    · exact (execPlockEnable_eq hoff hn true).trans (by simp [State.plockWrite, State.setBool, hp, hb, hi])
    · exact (execPlockEnable_eq hoff hn true).trans (by simp [State.plockWrite, State.setBool, hp, hb, hi])
    · exact (execPlockEnable_eq hoff hn true).trans (by simp [State.plockWrite, State.setOn, hp, hb])
    · exact (execPlockEnable_eq hoff hn false).trans (by simp [State.plockWrite, State.setBool])
    · refine (execProfileCommit_eq hoff hn).trans ?_
      rw [hprof _ _ hr, State.profileCommit, if_pos hp]; rfl
    · refine (execProfileCommit_eq hoff hn).trans ?_
      rw [hprof _ _ hr, State.profileCommit, if_neg (by simp [hp])]; rfl
    · refine (execProfileCommit_eq hoff hn).trans ?_
      rw [State.atReg, heldInReset_of_held hr (by simp only [PLL_PROFCTL_COMMIT]; omega)
        (by simp only [PLL_PROFCTL_COMMIT]; omega)]
      rfl
    · exact (execSweepBoundary_live hoff hn hr 0).trans (by rw [sweepCross_zero])
    · exact (execSweepBoundary_live hoff hn hr 1).trans (by rw [sweepCross_write s hc]; rfl)
    · refine (execSweepBoundary_live hoff hn hr 1).trans ?_
      rw [sweepCross_commit s hc hk]
      simp only [setScan_setScan, scanP_setScan]
    · exact execSweepBoundary_held hr 0
  · intro holds
    have hno {b : Nat} : bandHolds hz b = false ↔ ¬ holds b := bandHolds_eq_false_iff hz b
    rcases bandOf_cases hz with ⟨b, hb, h, hh, hl⟩ | ⟨h, hl⟩
    · rw [h]
      refine ⟨?_, ⟨fun h7 => by omega, fun hall => absurd ((bandHolds_iff hz b).mp hh) (hall b hb)⟩, .inl hb⟩
      rintro c rfl -
      exact ⟨(bandHolds_iff hz b).mp hh, fun a ha => hno.mp (hl a ha)⟩
    · rw [h]
      refine ⟨fun c hc h5 => by omega, ⟨fun _ b hb => hno.mp (hl b hb), fun _ => rfl⟩, .inr rfl⟩

end Sys2Proof.Machine

/-! The mailbox commands: the checks before each command, and what it answers (O34). -/

namespace Sys2Proof.Machine

/-! An answer writes nothing below the mailbox pages but what event records write. -/

section AnswerFrame

variable (s : State) {f : Field} (he : ¬ eventKey f.key) (hf : f.key < 0x1000000 * 32)
include he hf

theorem fld_reply (a : Nat) (ws : List Nat) : (s.hostDo (.reply a ws)).fld f = s.fld f := by
  have hgo : f.key ≠ (MBCTL_GO a).key := by simp only [Field.key, MBCTL_GO] at *; omega
  have hdone : f.key ≠ (MBCTL_DONE a).key := by simp only [Field.key, MBCTL_DONE] at *; omega
  rw [State.hostDo]
  split
  · have hirq (u : State) : (u.mbIrq a).fld f = u.fld f := by
      rw [State.mbIrq]
      split
      · exact (eventFrame_msix u _).fld f he
      · rfl
    rw [hirq, State.setOff, fld_setFld_ne _ _ hgo, State.setOn, fld_setFld_ne _ _ hdone]
    rfl
  · rfl

theorem fld_hostOut_reply (a : Nat) (ws : List Nat) : (s.hostOut (.reply a ws)).fld f = s.fld f := by
  rw [State.hostOut]
  split
  · rfl
  · exact fld_reply s he hf a ws

theorem fld_mbAnswer (a code : Nat) (ws reply : List Nat) : (s.mbAnswer a code ws reply).fld f = s.fld f := by
  have hm (u : State) (p q r x : Nat) (d : MirData) : (u.mirrorSend p q r x d).fld f = u.fld f :=
    (eventFrame_mirrorSend u p q r x d).fld f he
  simp only [State.mbAnswer]
  split
  · rw [fld_hostOut_reply _ he hf, hm]; rfl
  · rw [fld_post _ he, hm]; rfl

/-- The effect of a SEND is on the account's body alone. -/
theorem fld_mbDo_send (a : Nat) (ws reply : List Nat) : (s.mbDo a 3 ws reply).fld f = s.fld f := by
  have hb (u : State) (st : Nat) : (u.hostEffect a 3 ws st).fld f = u.fld f := by
    simp only [State.hostEffect]
    by_cases h : st % 256 = stOk
    · simp [h]; rfl
    · simp [h]
  rw [State.mbDo, hb, fld_mbAnswer s he hf]

end AnswerFrame

theorem node_mbDo_send (s : State) (a : Nat) (ws reply : List Nat) : (s.mbDo a 3 ws reply).node = s.node :=
  fld_mbDo_send s (f := GLB_ROLE_NODE) (by rw [eventKey_iff]; decide) (by decide) a ws reply

theorem isManager_mbDo_send (s : State) (a : Nat) (ws reply : List Nat) :
    (s.mbDo a 3 ws reply).isManager = s.isManager := by
  rw [State.isManager, State.role, fld_mbDo_send s (by rw [eventKey_iff]; decide) (by decide)]
  rfl

/-! The checks (R339). -/

section Checks

variable {s : State} {a code : Nat} {ws : List Nat} (hfw : s.fwRuns = true) (ho : s.mbOldest a = some (code, ws))
  {role : Bool} {ok : List Nat → Bool} {run : List Nat → State}
include hfw ho

theorem mbRun_eq : s.mbRun a code role ok run = if ¬ role then s.mbAnswer a code ws [stNotRole]
    else if ¬ ok ws then s.mbBad a code ws else run ws := by
  simp [State.mbRun, ho, hfw]

theorem mbRun_of_role (h : role = false) : s.mbRun a code role ok run = s.mbAnswer a code ws [11] := by
  rw [mbRun_eq hfw ho, if_pos (by simp [h])]
  rfl

theorem mbRun_of_form (hr : role = true) (h : ok ws = false) :
    s.mbRun a code role ok run = (s.mbAnswer a code ws [10]).mbxViol a 2 := by
  rw [mbRun_eq hfw ho, if_neg (by simp [hr]), if_pos (by simp [h])]
  rfl

theorem mbRun_of_ok (hr : role = true) (h : ok ws = true) : s.mbRun a code role ok run = run ws := by
  rw [mbRun_eq hfw ho, if_neg (by simp [hr]), if_neg (by simp [h])]

end Checks

theorem zeroFrom_iff (k : Nat) (ws : List Nat) : zeroFrom k ws = true ↔ ∀ v, v ∈ ws.drop k → v = 0 := by
  simp [zeroFrom]

/-- A command whose checks are `role` and `form`, with its three results. -/
theorem mbRun_results {s : State} {a code : Nat} {ws : List Nat} (hfw : s.fwRuns = true)
    (ho : s.mbOldest a = some (code, ws)) {role : Bool} {ok : List Nat → Bool} {run : List Nat → State} {P Q : Prop}
    (hp : role = true ↔ P) (hq : ok ws = true ↔ Q) :
    (¬ P → s.mbRun a code role ok run = s.mbAnswer a code ws [11]) ∧
    (P ∧ ¬ Q → s.mbRun a code role ok run = (s.mbAnswer a code ws [10]).mbxViol a 2) ∧
    (P ∧ Q → s.mbRun a code role ok run = run ws) := by
  refine ⟨fun h => mbRun_of_role hfw ho (by rw [← Bool.not_eq_true, hp]; exact h), fun h => mbRun_of_form hfw ho (hp.mpr h.1) ?_,
    fun h => mbRun_of_ok hfw ho (hp.mpr h.1) (hq.mpr h.2)⟩
  rw [← Bool.not_eq_true, hq]; exact h.2

/-! A SEND (R339, R361). -/

section Send

variable {s : State} {a w : Nat}

theorem sendMsg_plain (h : w % 4096 ≠ 0x58D) : s.sendMsg a w = (⟨s.node * 4096 + a, s.bodyOf a, 0, 0, a⟩, s) :=
  if_neg h

theorem sendOut_other (m : Msg) (h : w / 4096 ≠ s.node) : s.sendOut w m = (stOk, s.msgOut w m) := if_neg h

theorem sendOut_inert (m : Msg) (h : w / 4096 = s.node) (hi : w % 4096 < 0x590) (hl : w % 4096 ≠ 0x58D) :
    s.sendOut w m = (stOk, s.msgPosted m.src w) := by
  have h1 : ¬ w % 4096 = epLedger := hl
  have h2 : inertEp (w % 4096) = true := by simp [inertEp, hi, h1]
  rw [State.sendOut, if_pos h, if_neg h1, if_pos h2]

theorem sendOut_deliver (m : Msg) (h : w / 4096 = s.node) (hi : 0x590 ≤ w % 4096) :
    s.sendOut w m = s.deliverTo (w % 4096) m := by
  have h1 : ¬ w % 4096 = epLedger := by simp only [epLedger]; omega
  have h2 : ¬ inertEp (w % 4096) = true := by simp [inertEp, Nat.not_lt.mpr hi]
  rw [State.sendOut, if_pos h, if_neg h1, if_neg h2]

/-- A host account's submission to the own ledger outside the Manager is refused. -/
theorem sendOut_ledger (m : Msg) (h : w / 4096 = s.node) (hl : w % 4096 = 0x58D) (hm : msgFromHost m = true)
    (hr : s.isManager = false) : s.sendOut w m = (stOk, s.msgFail m.src w 11) := by
  have h1 : w % 4096 = epLedger := hl
  have h2 : s.submitMsg m = (11, s) := by
    simp only [State.submitMsg, hm, hr]
    rfl
  rw [State.sendOut, if_pos h, if_pos h1, h2]
  rfl

/-- What a SEND that passes its checks runs. -/
def State.sendRun (s : State) (a : Nat) (ws : List Nat) : State :=
  let ep := ws.getD 0 0
  if s.bodyOf a = [] then s.mbDo a 0x03 ws [stBadArg]
  else
    let (m, s1) := s.sendMsg a ep
    let st := (s1.sendOut ep m).1
    let s2 := s1.mbDo a 0x03 ws [st]
    if st = stOk then (s2.sendOut ep m).2 else s2

/-- The reply with the status of the message, then the message itself. -/
def State.sendSteps (s : State) (a : Nat) (ws : List Nat) (ep : Nat) (m : Msg) : State :=
  let st := (s.sendOut ep m).1
  let s1 := s.mbDo a 0x03 ws [st]
  if st = stOk then (s1.sendOut ep m).2 else s1

theorem sendSteps_of_ok {ws : List Nat} {m : Msg} (h : (s.sendOut w m).1 = stOk) :
    s.sendSteps a ws w m = ((s.mbDo a 3 ws [0]).sendOut w m).2 := by
  simp only [State.sendSteps, h, if_pos]
  rfl

section Steps

variable {ws : List Nat} {m : Msg}

theorem sendSteps_other (h : w / 4096 ≠ s.node) : s.sendSteps a ws w m = (s.mbDo a 3 ws [0]).msgOut w m := by
  rw [sendSteps_of_ok (by rw [sendOut_other _ h]), sendOut_other _ (by rwa [node_mbDo_send])]

theorem sendSteps_inert (h : w / 4096 = s.node) (hi : w % 4096 < 0x590) (hl : w % 4096 ≠ 0x58D) :
    s.sendSteps a ws w m = (s.mbDo a 3 ws [0]).msgPosted m.src w := by
  rw [sendSteps_of_ok (by rw [sendOut_inert _ h hi hl]), sendOut_inert _ (by rwa [node_mbDo_send]) hi hl]

theorem sendSteps_deliver (h : w / 4096 = s.node) (hi : 0x590 ≤ w % 4096) : s.sendSteps a ws w m =
    let st := (s.deliverTo (w % 4096) m).1
    let s1 := s.mbDo a 3 ws [st]
    if st = 0 then (s1.deliverTo (w % 4096) m).2 else s1 := by
  rw [State.sendSteps, sendOut_deliver _ h hi, sendOut_deliver _ (by rwa [node_mbDo_send]) hi]
  rfl

theorem sendSteps_ledger (h : w / 4096 = s.node) (hl : w % 4096 = 0x58D) (hm : msgFromHost m = true)
    (hr : s.isManager = false) : s.sendSteps a ws w m = (s.mbDo a 3 ws [0]).msgFail m.src w 11 := by
  rw [sendSteps_of_ok (by rw [sendOut_ledger _ h hl hm hr]),
    sendOut_ledger _ (by rwa [node_mbDo_send]) hl hm (by rwa [isManager_mbDo_send])]

end Steps

section SendRun

variable {ws : List Nat}

theorem sendRun_of_empty (h : s.bodyOf a = []) : s.sendRun a ws = s.mbDo a 3 ws [10] := if_pos h

variable (hb : s.bodyOf a ≠ [])
include hb

theorem sendRun_plain (hl : ws.getD 0 0 % 4096 ≠ 0x58D) :
    s.sendRun a ws = s.sendSteps a ws (ws.getD 0 0) ⟨s.node * 4096 + a, s.bodyOf a, 0, 0, a⟩ := by
  rw [State.sendRun, if_neg hb, sendMsg_plain hl]
  rfl

/-- To a ledger the submission words are free values. -/
theorem sendRun_ledger (hl : ws.getD 0 0 % 4096 = 0x58D) : ∃ word pred, s.sendRun a ws =
    State.sendSteps { s with freeCtr := s.freeCtr + 2 } a ws (ws.getD 0 0)
      ⟨s.node * 4096 + a, s.bodyOf a, word, pred, a⟩ := by
  have he : ws.getD 0 0 % 4096 = epLedger := hl
  rw [State.sendRun, if_neg hb, State.sendMsg, if_pos he]
  exact ⟨_, _, rfl⟩

end SendRun

end Send

/-- The reply of a SUBMIT in the numbers of its statement. -/
theorem submitReply_eq (s : State) (a w pred : Nat) : s.submitReply a w pred =
    if s.bodyOf a = [] then [10]
    else if s.submitCheck a w pred = 0 then [s.nextHandle * 65536, (s.book a (w % 16)).next]
    else [s.submitCheck a w pred] := by
  have hw : bits w 3 0 = w % 16 := by simp [bits]
  rw [State.submitReply]
  by_cases hb : s.bodyOf a = []
  · simp [hb, stBadArg, stOk]
  · simp [hb, hw, stOk]

theorem lrelStatus_eq (s : State) (a l : Nat) :
    s.lrelStatus a l = if (s.lock l).holder = some (.host a) then 0 else 12 := by
  rw [State.lrelStatus]
  cases (s.lock l).holder with
  | none => rfl
  | some h => cases h <;> simp [stOk, stNotHeld]

/-! The commands. -/

section Commands

variable {s : State} {a code : Nat} {ws : List Nat} (hfw : s.fwRuns = true) {c : Instr} {role : Bool}
  {ok : List Nat → Bool} {run : List Nat → State} {P Q : Prop} (hx : exec c s = .next (s.mbRun a code role ok run))
  (hp : role = true ↔ P) (hq : ok ws = true ↔ Q)
include hfw hx hp hq

/-- The refusals of a command: its role first, then the form of its operands. -/
theorem exec_refusals :
    (s.mbOldest a = some (code, ws) → ¬ P → exec c s = .next (s.mbAnswer a code ws [11])) ∧
    (s.mbOldest a = some (code, ws) → P ∧ ¬ Q → exec c s = .next ((s.mbAnswer a code ws [10]).mbxViol a 2)) :=
  ⟨fun ho h => by rw [hx, (mbRun_results hfw ho hp hq).1 h], fun ho h => by rw [hx, (mbRun_results hfw ho hp hq).2.1 h]⟩

theorem exec_accepted (ho : s.mbOldest a = some (code, ws)) (h1 : P) (h2 : Q) : exec c s = .next (run ws) := by
  rw [hx, (mbRun_results hfw ho hp hq).2.2 ⟨h1, h2⟩]

end Commands

/-- Settles O34: every command goes through the same checks, and its own result is what it runs after them. -/
theorem mailboxCommands : Obligations.MailboxCommands := by
  intro s a ws bytes hoff hfw w zero gives badArg lock send slot forms manager worker m
  have htrue : (true = true) ↔ True := iff_of_true rfl trivial
  have hz (k : Nat) : zeroFrom k ws = true ↔ zero k := zeroFrom_iff k ws
  have hsend : (zeroFrom 1 ws && decide (w < 2 ^ 17)) = true ↔ send := by
    rw [Bool.and_eq_true, hz, decide_eq_true_eq]
  have hlock : (zeroFrom 1 ws && decide (w < 256)) = true ↔ lock := by
    rw [Bool.and_eq_true, hz, decide_eq_true_eq]
  have hslot : slotOk ws = true ↔ 1 ≤ w ∧ w ≤ 4 := by
    rw [slotOk, Bool.and_eq_true, decide_eq_true_eq, decide_eq_true_eq]
  have hprov : (s.isVault a && slotOk ws && zeroFrom 1 (ws.take 8)) = true ↔ slot := by
    rw [Bool.and_eq_true, Bool.and_eq_true, hslot, zeroFrom_iff, and_assoc, and_assoc]
  have hrevoke : (s.isVault a && slotOk ws && zeroFrom 1 ws) = true ↔ s.isVault a = true ∧ 1 ≤ w ∧ w ≤ 4 ∧ zero 1 := by
    rw [Bool.and_eq_true, Bool.and_eq_true, hslot, hz, and_assoc, and_assoc]
  have xbody : exec (.body a) s = .next (s.mbRun a 1 _ _ _) := next_on hoff
  have xsubmit : exec (.submit a) s = .next (s.mbRun a 2 _ _ _) := next_on hoff
  have xsend : exec (.send a) s = .next (s.mbRun a 3 _ _ (s.sendRun a)) := next_on hoff
  have xcommit : exec (.mbCommit a) s = .next (s.mbRun a 4 _ _ _) := next_on hoff
  have xlacq : exec (.mbLacq a) s = .next (s.mbRun a 5 _ _ _) := next_on hoff
  have xlrel : exec (.mbLrel a) s = .next (s.mbRun a 6 _ _ _) := next_on hoff
  have xreserve : exec (.reserve a) s = .next (s.mbRun a 8 _ _ _) := next_on hoff
  have xrelease : exec (.release a) s = .next (s.mbRun a 9 _ _ _) := next_on hoff
  have xingest : exec (.ingest a) s = .next (s.mbRun a 10 _ _ _) := next_on hoff
  have xcancel : exec (.cancel a) s = .next (s.mbRun a 11 _ _ _) := next_on hoff
  have xload : exec (.load a bytes) s = .next (s.mbRun a 16 _ _ _) := next_on hoff
  have xprov : exec (.keyprov a) s = .next (s.mbRun a 17 _ _ _) := next_on hoff
  have xrevoke : exec (.keyrevoke a) s = .next (s.mbRun a 18 _ _ _) := next_on hoff
  have send (ho : s.mbOldest a = some (3, ws)) (h : send) := exec_accepted (ws := ws) hfw xsend htrue hsend ho trivial h
  refine ⟨fun ho h => exec_accepted (ws := ws) hfw xbody htrue htrue ho trivial trivial,
    exec_refusals hfw xsubmit Iff.rfl (hz 2), fun ho h => ?_,
    exec_refusals hfw xsend htrue hsend, fun ho ⟨hf, hb⟩ => ?_, fun ho ⟨hf, hb, hn, hl⟩ => ?_,
    fun ho ⟨hf, hb, hn, hi, hl⟩ => ?_, fun ho ⟨hf, hb, hn, hi⟩ => ?_, fun ho ⟨hf, hb, hn, hl⟩ => ?_,
    fun ho ⟨hf, hb, hn, hl⟩ ha hr => ?_, exec_refusals hfw xcommit Iff.rfl htrue, fun ho ⟨hr, hp⟩ => ?_,
    exec_refusals hfw xlacq htrue hlock, fun ho h => exec_accepted (ws := ws) hfw xlacq htrue hlock ho trivial h,
    exec_refusals hfw xlrel htrue hlock, fun ho h => ?_,
    exec_refusals hfw xreserve Iff.rfl (hz 2), fun ho h => (exec_accepted (ws := ws) hfw xreserve Iff.rfl (hz 2) ho h.1 h.2).trans ?_,
    exec_refusals hfw xrelease Iff.rfl (hz 1), fun ho h => (exec_accepted (ws := ws) hfw xrelease Iff.rfl (hz 1) ho h.1 h.2).trans ?_,
    exec_refusals hfw xingest Iff.rfl (hz 8), fun ho h => (exec_accepted (ws := ws) hfw xingest Iff.rfl (hz 8) ho h.1 h.2).trans ?_,
    exec_refusals hfw xcancel Iff.rfl (hz 1), fun ho h => exec_accepted (ws := ws) hfw xcancel Iff.rfl (hz 1) ho h.1 h.2,
    exec_refusals hfw xload htrue (hz 3), fun ho h => exec_accepted (ws := ws) hfw xload htrue (hz 3) ho trivial h,
    fun n => ⟨fun h => ?_, fun h hn => ?_, fun h hn hb => ?_, fun h hn hl he => ?_⟩,
    exec_refusals hfw xprov htrue hprov, fun ho h => ?_, fun ho h => ?_,
    exec_refusals hfw xrevoke htrue hrevoke, fun ho h => exec_accepted (ws := ws) hfw xrevoke htrue hrevoke ho trivial h⟩
  · exact (exec_accepted (ws := ws) hfw xsubmit Iff.rfl (hz 2) ho h.1 h.2).trans
      (congrArg (fun r => Host.Outcome.next (s.mbDo a 2 ws r)) (submitReply_eq s a w _))
  · exact (send ho hf).trans (congrArg _ (sendRun_of_empty hb))
  · exact (send ho hf).trans (congrArg _ ((sendRun_plain hb hl).trans (sendSteps_other hn)))
  · exact (send ho hf).trans (congrArg _ ((sendRun_plain hb hl).trans (sendSteps_inert hn hi hl)))
  · exact (send ho hf).trans (congrArg _ ((sendRun_plain hb (by omega)).trans (sendSteps_deliver hn hi)))
  · obtain ⟨word, pred, hr⟩ := sendRun_ledger hb hl
    exact ⟨word, pred, (send ho hf).trans (congrArg _ (hr.trans (sendSteps_other hn)))⟩
  · obtain ⟨word, pred, hrun⟩ := sendRun_ledger hb hl
    have hm : msgFromHost ⟨s.node * 4096 + a, s.bodyOf a, word, pred, a⟩ = true := by
      simp only [msgFromHost, decide_eq_true_eq]; omega
    exact (send ho hf).trans (congrArg _ (hrun.trans (sendSteps_ledger hn hl hm hr)))
  · refine (exec_accepted (ws := ws) hfw xcommit Iff.rfl htrue ho hr trivial).trans ?_
    simp [hp]
  · exact (exec_accepted (ws := ws) hfw xlrel htrue hlock ho trivial h).trans
      (congrArg (fun r => Host.Outcome.next (s.mbDo a 6 ws [r])) (lrelStatus_eq s a w))
  · rfl
  · rfl
  · rfl
  · simp [State.loadStatus, h, stBusy]
  · simp [State.loadStatus, h, stBadArg, hn]
  · have hlen : ¬ n > 0x400000 + 192 := by omega
    rw [State.loadStatus, if_neg (by simp [h]), if_neg hlen, if_pos (by simpa using hb)]
    rfl
  · have hlen : ¬ n > 0x400000 + 192 := by omega
    rw [State.loadStatus, if_neg (by simp [h]), if_neg hlen, if_neg (by simp [hl, he])]
    rfl
  · exact (exec_accepted (ws := ws) hfw xprov htrue hprov ho trivial h.1).trans (congrArg _ (if_pos h.2))
  · exact (exec_accepted (ws := ws) hfw xprov htrue hprov ho trivial h.1).trans (congrArg _ (if_neg (fun e => by rw [show (ws.getD 0 0) = w from rfl, h.2] at e; exact absurd e (by decide))))

end Sys2Proof.Machine

/-! The lead station and the lags, and what fixes them (O38). -/

namespace Sys2Proof.Machine

/-- Station `m` of `ns` has the smallest exposure offset, and is the lower-numbered of equals. -/
def LeadsOf (s : State) (ns : List Nat) (m : Nat) : Prop :=
  m ∈ ns ∧ ∀ n ∈ ns, s.expOff m ≤ s.expOff n ∧ (s.expOff n = s.expOff m → m ≤ n)

/-- From stations in ascending order the lead is found. -/
theorem leadFrom_spec (s : State) : ∀ ns : List Nat, ns.Pairwise (· < ·) → ns ≠ [] →
    ∃ m, leadFrom s ns = some m ∧ LeadsOf s ns m
  | [], _, h => absurd rfl h
  | [n], _, _ => ⟨n, rfl, by simp [LeadsOf]⟩
  | n :: k :: ks, hs, _ => by
    obtain ⟨hn, hks⟩ := List.pairwise_cons.mp hs
    obtain ⟨m, hm, hmem, hmin⟩ := leadFrom_spec s (k :: ks) hks (List.cons_ne_nil k ks)
    have hlt := hn m hmem
    rw [leadFrom, hm]
    by_cases hle : s.expOff n ≤ s.expOff m
    · refine ⟨n, if_pos hle, List.mem_cons_self, fun j hj => ?_⟩
      rcases List.mem_cons.mp hj with rfl | hj
      · exact ⟨le_refl _, fun _ => le_refl _⟩
      · exact ⟨le_trans hle (hmin j hj).1, fun _ => Nat.le_of_lt (hn j hj)⟩
    · refine ⟨m, if_neg hle, List.mem_cons_of_mem n hmem, fun j hj => ?_⟩
      rcases List.mem_cons.mp hj with rfl | hj
      · exact ⟨by omega, fun h => by omega⟩
      · exact hmin j hj

theorem mem_stations (s : State) (n : Nat) : n ∈ s.stations ↔ n < 16 ∧ s.fbit ESC_STMAP_STN n = true := by
  simp [State.stations, stationsOf, State.fbit]

theorem stations_sorted (s : State) : s.stations.Pairwise (· < ·) := List.pairwise_lt_range.filter _

theorem leadNow_spec (s : State) {n : Nat} (hn : n ∈ s.stations) : LeadsOf s s.stations s.leadNow := by
  obtain ⟨m, hm, hspec⟩ := leadFrom_spec s s.stations (stations_sorted s) (List.ne_nil_of_mem hn)
  rw [State.leadNow, hm]
  exact hspec

theorem geo_of_idle {s : State} (h : s.inRun = false) : s.geo = s.geoNow := if_neg (by simp [h])

theorem lagNow_geoNow (s : State) {n : Nat} (hn : n < 16) : s.geoNow.lag n = s.lagNow n := by
  simp [State.geoNow, Geo.lag, hn]

theorem esc_escSync (s : State) : s.escSync.esc = s.esc := by
  simp only [State.escSync]
  split <;> rfl

/-- Once a run is open its geometry is that of the registers when it opened. -/
theorem geo_runOpenAt {s : State} (h : s.inRun = false) (f : Field) (v : Nat) :
    (s.runOpenAt.setFld f v).geo = s.geoNow := by
  have hesc : (s.runOpenAt.setFld f v).esc = s.runOpenAt.esc := rfl
  have hfix : s.fixGeo = s.setEsc { s.esc with fixed := some s.geoNow } := if_neg (by simp [h])
  have hopen : (s.runOpenAt.setFld f v).inRun = true := by
    rw [State.inRun, hesc, State.runOpenAt, esc_escSync]; rfl
  rw [State.geo, if_pos hopen, hesc, State.runOpenAt, esc_escSync, hfix]
  rfl

/-- Settles O38, from the minimum that `leadFrom` finds over the stations in ascending order. -/
theorem leadStation : Obligations.LeadStation := by
  intro s n hn hbit hrun off
  have hgeo := geo_of_idle hrun
  obtain ⟨hmem, hmin⟩ := leadNow_spec s ((mem_stations s n).mpr ⟨hn, hbit⟩)
  obtain ⟨hle, heq⟩ := hmin n ((mem_stations s n).mpr ⟨hn, hbit⟩)
  have hlead : s.lead = s.leadNow := by rw [State.lead, hgeo]; rfl
  have hlag : s.lag n = s.lagNow n := by rw [State.lag, hgeo, lagNow_geoNow s hn]
  rw [hlead, hlag]
  refine ⟨((mem_stations s _).mp hmem).2, hle, heq, ?_, fun f v => ⟨?_, ?_⟩⟩
  · exact Int.toNat_of_nonneg (Int.sub_nonneg.mpr hle)
  · rw [State.lead, geo_runOpenAt hrun]; rfl
  · rw [State.lag, geo_runOpenAt hrun, lagNow_geoNow s hn]

end Sys2Proof.Machine

/-! The laser-safety interlock and FLT_CTL.RUN (O55). -/

namespace Sys2Proof.Machine

/-! What voiding a window leaves alone. -/

/-- `u` has the plant and the power state of `s`, and every register from FLT_LSISTAT on. -/
structure InterlockFrame (s u : State) : Prop where
  plant : u.plant = s.plant
  pwr : u.pwr = s.pwr
  fld : ∀ f : Field, 0xC00030 * 32 ≤ f.key → u.fld f = s.fld f

namespace InterlockFrame

variable {s u v : State}

theorem refl (s : State) : InterlockFrame s s := ⟨rfl, rfl, fun _ _ => rfl⟩

theorem trans (h : InterlockFrame s u) (k : InterlockFrame u v) : InterlockFrame s v where
  plant := k.plant.trans h.plant
  pwr := k.pwr.trans h.pwr
  fld f hf := (k.fld f hf).trans (h.fld f hf)

theorem setFld (h : InterlockFrame s u) {f : Field} (v : Nat) (hf : f.key < 0xC00030 * 32) :
    InterlockFrame s (u.setFld f v) where
  plant := h.plant
  pwr := h.pwr
  fld g hg := (fld_setFld_ne u v (by omega)).trans (h.fld g hg)

theorem ite {c : Prop} [Decidable c] (h : InterlockFrame s u) (k : InterlockFrame s v) :
    InterlockFrame s (if c then u else v) := by
  split
  · exact h
  · exact k

theorem eachPort {f : Nat → State → State} (hf : ∀ n u, n < 4 → InterlockFrame u (f n u)) :
    ∀ (ns : List Nat) (s : State), (∀ n ∈ ns, n < 4) → InterlockFrame s (eachPort f ns s)
  | [], s, _ => refl s
  | n :: ns, s, h => (hf n s (h n List.mem_cons_self)).trans
      (eachPort hf ns _ fun m hm => h m (List.mem_cons_of_mem n hm))

theorem isOff (h : InterlockFrame s u) : u.isOff = s.isOff := by simp only [State.isOff, h.pwr]

end InterlockFrame

theorem interlockFrame_ringUni (s : State) (ep : Nat) (m : RingMsg) : InterlockFrame s (s.ringUni ep m) :=
  .ite (.refl s) ⟨rfl, rfl, fun _ _ => rfl⟩

theorem mem_portsOf_lt {s : State} {stn n : Nat} (h : n ∈ s.portsOf stn) : n < 4 := by
  simp only [State.portsOf, List.mem_filter, List.mem_range] at h
  exact h.1

theorem interlockFrame_darkenSlot (s : State) (k stn : Nat) : InterlockFrame s (s.darkenSlot k stn) :=
  .eachPort (fun n u hn => .ite (.setFld (.refl u) _ (by simp only [Field.key, FRM_PHASE_PHASE]; omega)) (.refl u)) _ s
    fun _ => mem_portsOf_lt

theorem interlockFrame_newIncident (s : State) : InterlockFrame s s.newIncident.2 := .setFld (.refl s) _ (by decide)

theorem interlockFrame_voidPort (s : State) {n : Nat} (reason incident : Nat) (hn : n < 4) :
    InterlockFrame s (s.voidPort n reason incident) := by
  have hcause : InterlockFrame s (eachPort (fun n s => s.setFld (FRM_CAUSE_CAUSE n) reason) [n] s) :=
    .eachPort (fun m u hm => .setFld (.refl u) _ (by simp only [Field.key, FRM_CAUSE_CAUSE]; omega)) _ s (by simpa using hn)
  rw [State.voidPort]
  split
  · unfold State.voidRaise
    refine .ite (.ite hcause (hcause.trans ?_)) (.refl s)
    generalize eachPort (fun n s => s.setFld (FRM_CAUSE_CAUSE n) reason) [n] s = u
    have hslot (k stn : Nat) (r : SlotRec) : InterlockFrame u ((u.setSlot k r).darkenSlot k stn) :=
      .trans (u := u.setSlot k r) ⟨rfl, rfl, fun _ _ => rfl⟩ (interlockFrame_darkenSlot _ k stn)
    by_cases hi : incident = 0
    · simp only [hi, if_true]
      refine InterlockFrame.trans ?_ (interlockFrame_ringUni _ _ _)
      refine InterlockFrame.trans ?_ (interlockFrame_newIncident _)
      exact hslot _ _ _
    · simp only [hi, if_false, if_true]
      refine InterlockFrame.trans ?_ (interlockFrame_ringUni _ _ _)
      exact hslot _ _ _
  · exact .refl s

/-! The interlock as FLT_LSISTAT shows it. -/

/-- On a node that is not off FLT_LSISTAT shows the interlock. -/
def State.showsLsi (t : State) : Prop := t.isOff = false →
  t.flag FLT_LSISTAT_ACLOSED = (! t.plant.lsi.aOpen) ∧ t.flag FLT_LSISTAT_BCLOSED = (! t.plant.lsi.bOpen) ∧
  t.flag FLT_LSISTAT_LENOK = t.plant.lsi.ok ∧ t.flag FLT_LSISTAT_DISC = t.plant.lsi.disc ∧
  t.flag FLT_LSISTAT_WAITREARM = t.plant.lsi.wait

theorem InterlockFrame.showsLsi {s u : State} (h : InterlockFrame s u) (hs : s.showsLsi) : u.showsLsi := by
  intro ho
  have hflag {f : Field} (hf : 0xC00030 * 32 ≤ f.key) : u.flag f = s.flag f := flag_of_fld (h.fld f hf)
  rw [h.plant, hflag (by decide), hflag (by decide), hflag (by decide), hflag (by decide), hflag (by decide)]
  exact hs (h.isOff ▸ ho)

theorem flag_setBool_same (s : State) {f : Field} (b : Bool) (hf : f.width = 1) : (s.setBool f b).flag f = b := by
  rw [State.setBool, State.flag, fld_setFld_same, hf]
  cases b <;> rfl

theorem flag_setBool_ne (s : State) {f g : Field} (b : Bool) (h : g.key ≠ f.key) : (s.setBool f b).flag g = s.flag g :=
  flag_of_fld (fld_setFld_ne s _ h)

theorem lsiShow_of_off {s : State} (h : s.isOff = true) : s.lsiShow = s := if_pos h

/-- The fields of FLT_LSISTAT with what they show. -/
def lsiFields (l : Lsi) : List (Field × Bool) :=
  [(FLT_LSISTAT_ACLOSED, ! l.aOpen), (FLT_LSISTAT_BCLOSED, ! l.bOpen), (FLT_LSISTAT_LENOK, l.ok), (FLT_LSISTAT_DISC, l.disc),
    (FLT_LSISTAT_WAITREARM, l.wait)]

theorem lsiShow_of_on {s : State} (h : s.isOff = false) :
    s.lsiShow = (lsiFields s.plant.lsi).foldl (fun t f => t.setBool f.1 f.2) s := if_neg (by simp [h])

theorem lsiShow_rest (s : State) : s.lsiShow.plant = s.plant ∧ s.lsiShow.pwr = s.pwr ∧ s.lsiShow.tellers = s.tellers ∧
    s.lsiShow.esc = s.esc := by
  cases h : s.isOff with
  | true => rw [lsiShow_of_off h]; exact ⟨rfl, rfl, rfl, rfl⟩
  | false => rw [lsiShow_of_on h]; exact ⟨rfl, rfl, rfl, rfl⟩

theorem isOff_lsiShow (s : State) : s.lsiShow.isOff = s.isOff := by
  obtain ⟨-, hp, -⟩ := lsiShow_rest s
  simp only [State.isOff, hp]

theorem fld_lsiShow_ne (s : State) {f : Field} (h : f.key < 0xC00030 * 32 ∨ 0xC00034 * 32 ≤ f.key) :
    s.lsiShow.fld f = s.fld f := by
  have hk : FLT_LSISTAT_ACLOSED.key = 0xC00030 * 32 ∧ FLT_LSISTAT_BCLOSED.key = 0xC00030 * 32 + 1 ∧
      FLT_LSISTAT_LENOK.key = 0xC00030 * 32 + 2 ∧ FLT_LSISTAT_DISC.key = 0xC00030 * 32 + 3 ∧
      FLT_LSISTAT_WAITREARM.key = 0xC00030 * 32 + 4 := by decide
  cases ho : s.isOff with
  | true => rw [lsiShow_of_off ho]
  | false =>
    rw [lsiShow_of_on ho]
    simp only [lsiFields, List.foldl_cons, List.foldl_nil, State.setBool]
    rw [fld_setFld_ne _ _ (by omega), fld_setFld_ne _ _ (by omega), fld_setFld_ne _ _ (by omega),
      fld_setFld_ne _ _ (by omega), fld_setFld_ne _ _ (by omega)]

theorem showsLsi_lsiShow (s : State) : s.lsiShow.showsLsi := by
  intro ho
  rw [isOff_lsiShow] at ho
  rw [(lsiShow_rest s).1, lsiShow_of_on ho]
  simp only [lsiFields, List.foldl_cons, List.foldl_nil]
  simp (disch := decide) only [flag_setBool_ne, flag_setBool_same, and_self]

/-! HLn_LEN. -/

theorem lenPorts_of_not_ok {s : State} (h : s.plant.lsi.ok = false) : s.lenPorts = [] := if_neg (by simp [h])

theorem mem_lenPorts_lt {s : State} {n : Nat} (h : n ∈ s.lenPorts) : n < 4 := by
  rw [State.lenPorts] at h
  split at h
  · have := (List.mem_filter.mp h).1
    simp at this
    omega
  · simp at h

/-- HLn_LEN goes low: the interlock is not in order any more, which FLT_LSISTAT shows. -/
def State.lenLow (s : State) : State := (s.setLsi { s.plant.lsi with ok := false }).lsiShow.lenOut

theorem lenDrop_of_dark {s : State} (h : ∀ n, n < 4 → s.imagingSlot n = none) : s.lenDrop = s.lenLow := by
  have hn : ¬ (s.lenPorts.any fun n => (s.imagingSlot n).isSome) = true := by
    rw [List.any_eq_true]
    rintro ⟨n, hn, hi⟩
    simp [h n (mem_lenPorts_lt hn)] at hi
  exact if_neg hn

theorem lenDrop_of_imaging {s : State} {n k : Nat} (hn : n ∈ s.lenPorts) (hk : s.imagingSlot n = some k) :
    s.lenDrop = eachPort (fun n t => t.voidPort n 10 s.lenLow.newIncident.1) s.lenPorts s.lenLow.newIncident.2 := by
  have ha : (s.lenPorts.any fun n => (s.imagingSlot n).isSome) = true := List.any_eq_true.mpr ⟨n, hn, by simp [hk]⟩
  exact if_pos ha

/-- What is void with HLn_LEN going low changes nothing of the interlock. -/
theorem interlockFrame_lenDrop (s : State) : InterlockFrame s.lenLow s.lenDrop := by
  by_cases h : ∃ n k, n ∈ s.lenPorts ∧ s.imagingSlot n = some k
  · obtain ⟨n, k, hn, hk⟩ := h
    rw [lenDrop_of_imaging hn hk]
    exact (interlockFrame_newIncident _).trans
      (.eachPort (fun m u hm => interlockFrame_voidPort u 10 _ hm) _ _ fun m hm => mem_lenPorts_lt hm)
  · have ha : ¬ (s.lenPorts.any fun n => (s.imagingSlot n).isSome) = true := by
      rw [List.any_eq_true]
      rintro ⟨n, hn, hi⟩
      obtain ⟨k, hk⟩ := Option.isSome_iff_exists.mp hi
      exact h ⟨n, k, hn, hk⟩
    have hd : s.lenDrop = s.lenLow := if_neg ha
    rw [hd]
    exact .refl _

theorem lenLow_plant (s : State) : s.lenLow.plant.lsi = { s.plant.lsi with ok := false } := by
  have := (lsiShow_rest (s.setLsi { s.plant.lsi with ok := false })).1
  exact congrArg Plant.lsi this

theorem lenLow_isOff (s : State) : s.lenLow.isOff = s.isOff := isOff_lsiShow _

theorem lenLow_shows (s : State) : s.lenLow.showsLsi := showsLsi_lsiShow _

theorem lenLow_count (s : State) : s.lenLow.fld FLT_LSICNT_COUNT = s.fld FLT_LSICNT_COUNT :=
  fld_lsiShow_ne (s.setLsi { s.plant.lsi with ok := false }) (.inr (by decide))

/-- After HLn_LEN has gone low. -/
theorem lenDrop_spec (s : State) : s.lenDrop.plant.lsi = { s.plant.lsi with ok := false } ∧ s.lenDrop.lenPorts = [] ∧
    s.lenDrop.isOff = s.isOff ∧ s.lenDrop.showsLsi ∧ s.lenDrop.fld FLT_LSICNT_COUNT = s.fld FLT_LSICNT_COUNT := by
  have hf := interlockFrame_lenDrop s
  have hp : s.lenDrop.plant.lsi = { s.plant.lsi with ok := false } := by rw [hf.plant, lenLow_plant]
  exact ⟨hp, lenPorts_of_not_ok (by rw [hp]), by rw [hf.isOff, lenLow_isOff], hf.showsLsi (lenLow_shows s),
    by rw [hf.fld _ (by decide), lenLow_count]⟩

/-- What an opening latches, counted where the channel was not open yet. -/
def State.openedLsi (s : State) (a b : Bool) : State :=
  let l := s.plant.lsi
  let s1 := s.setLsi ⟨a, b, l.ok, l.disc && !(a && b), l.wait && !(a || b)⟩
  if a && ! l.aOpen || b && ! l.bOpen then s1.lsiCount else s1

theorem satInc_lt (w v : Nat) : satInc w v < 2 ^ w := by
  have := Nat.two_pow_pos w
  rw [satInc]
  split <;> omega

/-- The state with what an opening, a settling or a discrepancy latches. -/
theorem setLsi_isOff (s : State) (l : Lsi) : (s.setLsi l).isOff = s.isOff := rfl

theorem lsiCount_rest (s : State) : s.lsiCount.plant = s.plant ∧ s.lsiCount.isOff = s.isOff ∧
    s.lsiCount.fld FLT_LSICNT_COUNT = if s.isOff = false then satInc FLT_LSICNT_COUNT.width (s.fld FLT_LSICNT_COUNT)
      else s.fld FLT_LSICNT_COUNT := by
  rw [State.lsiCount]
  cases ho : s.isOff with
  | true => exact ⟨rfl, ho, rfl⟩
  | false =>
    refine ⟨rfl, ho, ?_⟩
    rw [if_neg (by simp), if_pos rfl, State.inc, fld_setFld_same]
    exact Nat.mod_eq_of_lt (satInc_lt _ _)

theorem openedLsi_rest (s : State) (a b : Bool) :
    (s.openedLsi a b).plant.lsi = ⟨a, b, s.plant.lsi.ok, s.plant.lsi.disc && !(a && b), s.plant.lsi.wait && !(a || b)⟩ ∧
    (s.openedLsi a b).isOff = s.isOff ∧ (s.openedLsi a b).fld FLT_LSICNT_COUNT =
      if s.isOff = false ∧ ((a && ! s.plant.lsi.aOpen) || (b && ! s.plant.lsi.bOpen)) = true
      then satInc FLT_LSICNT_COUNT.width (s.fld FLT_LSICNT_COUNT) else s.fld FLT_LSICNT_COUNT := by
  rw [State.openedLsi]
  by_cases hc : (a && ! s.plant.lsi.aOpen || b && ! s.plant.lsi.bOpen) = true
  · obtain ⟨h1, h2, h3⟩ := lsiCount_rest
      (s.setLsi ⟨a, b, s.plant.lsi.ok, s.plant.lsi.disc && !(a && b), s.plant.lsi.wait && !(a || b)⟩)
    simp only [hc, if_true, and_true]
    exact ⟨congrArg Plant.lsi h1, h2, h3⟩
  · simp only [hc, Bool.false_eq_true, if_false, and_false]
    exact ⟨rfl, rfl, rfl⟩

/-- A source of the interlock raised: what it shows stays. -/
theorem interlockFrame_raise_disc (s : State) : (s.raise 18 1).plant = s.plant ∧ (s.raise 18 1).isOff = s.isOff ∧
    (s.showsLsi → (s.raise 18 1).showsLsi) := by
  have hq := quiet_raise s 18 1
  have hp : (s.raise 18 1).plant = s.plant := congrArg (fun q => q.node.plant) hq
  have hw : (s.raise 18 1).pwr = s.pwr := congrArg (fun q => q.node.pwr) hq
  have ho : (s.raise 18 1).isOff = s.isOff := by simp only [State.isOff, hw]
  refine ⟨hp, ho, fun hs hoff => ?_⟩
  have hk : ∀ k, 0xC00030 * 32 ≤ k → k < 0xC00034 * 32 → ¬ raiseKey 18 1 k := by
    intro k h1 h2
    have e1 : (fstatOf 18 1).key = 0xC00020 * 32 := by decide
    have e2 : (FLT_BLKSTAT_STATE 18).key = 0xC00220 * 32 := by decide
    have e3 : (FLT_BLKINC_INCIDENT 18).key = 0xC00224 * 32 := by decide
    have e4 : FLT_INCNEXT_VALUE.key = 0xC00018 * 32 := by decide
    simp only [raiseKey, eventKey_iff, e1, e2, e3, e4]
    omega
  have hflag {f : Field} (h1 : 0xC00030 * 32 ≤ f.key) (h2 : f.key < 0xC00034 * 32) : (s.raise 18 1).flag f = s.flag f :=
    flag_of_fld (fld_raise s (hk _ h1 h2))
  rw [hp, hflag (by decide) (by decide), hflag (by decide) (by decide), hflag (by decide) (by decide),
    hflag (by decide) (by decide), hflag (by decide) (by decide)]
  exact hs (ho ▸ hoff)

/-- Settles O55: whatever the ports image, HLn_LEN goes low through `lenDrop`, which leaves the interlock as it was
latched. -/
theorem laserInterlock : Obligations.LaserInterlock := by
  intro s l shows dark latched
  refine ⟨fun a b hab => ?_, ?_, rfl, lsiShow_of_off, showsLsi_lsiShow s,
    ⟨lsiFields l, fun ho => ⟨lsiShow_of_on ho, ?_⟩⟩, fun a => ?_, lenDrop_of_dark, fun n k => lenDrop_of_imaging,
    lenPorts_of_not_ok, fun hoff => ⟨fun hw => ?_, fun hw => ?_, fun h => ?_, fun ht hb he => ?_⟩⟩
  · obtain ⟨hp, hl, ho, hs, hc⟩ := lenDrop_spec (s.openedLsi a b)
    obtain ⟨ep, eo, ec⟩ := openedLsi_rest s a b
    have hor : (a = true ∨ b = true) := by simpa using hab
    refine ⟨_, congrArg Host.Outcome.next (if_pos hor), ?_, hl, ho.trans eo, hs, hc.trans ec⟩
    refine hp.trans ?_
    rw [ep, hab]
    simp [l]
  · have hopen : exec (.lsiOpen false false) s = .next (s.openedLsi false false).lsiShow := rfl
    rw [hopen]
    simp only [State.openedLsi, Bool.false_and, Bool.or_false, Bool.not_false, Bool.and_true, Bool.false_eq_true, if_false]
    rfl
  · simp [lsiFields, FLT_LSISTAT_ACLOSED, FLT_LSISTAT_BCLOSED, FLT_LSISTAT_LENOK, FLT_LSISTAT_DISC,
      FLT_LSISTAT_WAITREARM]
  · obtain ⟨hp, hl, ho, hs, -⟩ := lenDrop_spec (s.setLsi ⟨a, ! a, l.ok, true, false⟩)
    have hx : exec (.lsiDiscrepancy a) s = .next (if s.isOff then (s.setLsi ⟨a, ! a, l.ok, true, false⟩).lenDrop
        else (s.setLsi ⟨a, ! a, l.ok, true, false⟩).lenDrop.raise 18 1) := rfl
    cases hoff : s.isOff with
    | true =>
      refine ⟨_, hx.trans (congrArg Host.Outcome.next (if_pos hoff)), hp, hl, ho, hs, fun h => ?_⟩
      simp at h
    | false =>
      obtain ⟨rp, ro, rs⟩ := interlockFrame_raise_disc (s.setLsi ⟨a, ! a, l.ok, true, false⟩).lenDrop
      refine ⟨_, hx.trans (congrArg Host.Outcome.next (if_neg (by simp [hoff]))), by rw [rp, hp]; rfl,
        lenPorts_of_not_ok (by rw [rp, hp]), ro.trans ho, rs hs,
        fun _ => srcSet_raise rfl (by simp [State.dormantMute])⟩
  · exact (next_on hoff).trans (congrArg Host.Outcome.next (if_neg (by simpa using hw)))
  · obtain ⟨hp, -, ht, he⟩ := lsiShow_rest (s.setLsi { l with wait := false, ok := true })
    exact ⟨_, (next_on hoff).trans (congrArg Host.Outcome.next (if_pos hw)), congrArg Plant.lsi hp, showsLsi_lsiShow _, ht, he⟩
  · refine congrArg Host.Outcome.next ?_
    by_cases he : s.engineReady = true
    · have hr : true = true ∧ (s.pwr.straps.testEn = true ∨ s.fld ACC_BOOT_STAT = 3) :=
        ⟨rfl, h.elim .inl fun h => h.elim .inr fun h => by simp [he] at h⟩
      rw [if_neg (by simp [hoff, he]), State.runWrite, if_pos hr]
    · exact if_pos (.inr he)
  · refine congrArg Host.Outcome.next ?_
    rw [if_neg (by simp [hoff, he]), State.runWrite, if_neg (by simp [ht, hb])]
    rfl

end Sys2Proof.Machine

/-! Encoder inputs: steps, illegal steps and amplitude faults (O40). -/

namespace Sys2Proof.Machine

/-- A move taken the shortest way round the 4,096 steps of a phase (R36). -/
theorem shortMove_spec (held : Int) (phase : Nat) : -2048 ≤ shortMove held phase ∧ shortMove held phase ≤ 2047 ∧
    (shortMove held phase - ((phase : Int) - held)) % 4096 = 0 := by
  unfold shortMove
  omega

/-- What the node does after a count: on a node that counts the master input the position follows. -/
def State.countFollows (s : State) (vel : Int) : State :=
  ((s.setPos { s.pos with extrap := 0, since := 0 }).setFld TIM_RAWVEL_VEL (toTwos 32 vel)).masterMoved

/-- The node counts input `n` as its master input. -/
def State.countsMaster (s : State) (n : Nat) : Prop := n = s.fld TIM_CFG_MASTER ∧ (s.isManager = true ∨ s.isStandby = true)

section Edge

variable {s : State} (hoff : s.isOff = false) {n : Nat} (e : EncEvent) (vel : Int)
include hoff

omit hoff in
theorem execEncoderEdge_of_unlisted (hn : 4 ≤ n) : execEncoderEdge n e vel s = .next s := by
  rw [execEncoderEdge, if_pos (.inr hn)]

variable (hn : n < 4)
include hn

/-- An event that leaves the count as it is has its own effect alone. -/
theorem execEncoderEdge_of_still (hc : tabGet 0 (s.encoderEvent n e).pos.count n = tabGet 0 s.pos.count n) :
    execEncoderEdge n e vel s = .next (s.encoderEvent n e) := by
  rw [execEncoderEdge, if_neg (by simp [hoff]; omega)]
  simp [hc]

theorem execEncoderEdge_of_other (hm : ¬ s.countsMaster n) :
    execEncoderEdge n e vel s = .next (s.encoderEvent n e) := by
  rw [execEncoderEdge, if_neg (by simp [hoff]; omega), if_neg (fun h => hm h.2)]

theorem execEncoderEdge_of_master (hc : tabGet 0 (s.encoderEvent n e).pos.count n ≠ tabGet 0 s.pos.count n)
    (hm : s.countsMaster n) : execEncoderEdge n e vel s = .next ((s.encoderEvent n e).countFollows vel) := by
  rw [execEncoderEdge, if_neg (by simp [hoff]; omega), if_pos ⟨by simpa using hc, hm⟩]
  rfl

end Edge

/-! What each event does. -/

section Events

variable {s : State} {n : Nat}

theorem count_addCount (s : State) (n : Nat) (d : Int) :
    tabGet 0 (s.addCount n d).pos.count n = tabGet 0 s.pos.count n + d := by
  simp [State.addCount, State.setPos, State.setFld]

theorem encoderEvent_step_idle (up : Bool) (h : s.flag (TIM_ENCCFG_EN n) = false ∨
    s.flag (TIM_ENCCFG_TYPE n) = true ∧ tabGet none s.pos.ampFault n ≠ none) : s.encoderEvent n (.step up) = s := by
  rcases h with h | ⟨ht, ha⟩
  · simp [State.encoderEvent, h]
  · obtain ⟨x, hx⟩ := Option.ne_none_iff_exists'.mp ha
    simp [State.encoderEvent, ht, hx]

theorem encoderEvent_step_counted (up : Bool) (he : s.flag (TIM_ENCCFG_EN n) = true)
    (h : s.flag (TIM_ENCCFG_TYPE n) = false ∨ tabGet none s.pos.ampFault n = none) :
    s.encoderEvent n (.step up) = s.addCount n (if up = s.flag (TIM_ENCCFG_INV n) then -1 else 1) := by
  rcases h with h | h <;> simp [State.encoderEvent, he, h]

theorem encoderEvent_illegal_idle (h : s.flag (TIM_ENCCFG_EN n) = false) : s.encoderEvent n .illegal = s := by
  simp [State.encoderEvent, h]

/-- The violation that an input's fault is reported as. -/
def State.encViolation (s : State) (n : Nat) : State :=
  s.violation (0x200 + n) (s.flag (FLT_ROUTE_EN 0)) (s.fld (FLT_ROUTE_ACCT 0))

theorem encoderEvent_illegal (he : s.flag (TIM_ENCCFG_EN n) = true) (ht : s.flag (TIM_ENCCFG_TYPE n) = false) :
    s.encoderEvent n .illegal = ((s.inc TIM_VIOL_COUNT).raise 0 0).encViolation n := by
  simp [State.encoderEvent, he, ht, State.encViolation, encIface]

theorem encoderEvent_ampFault (held : Nat) (he : s.flag (TIM_ENCCFG_EN n) = true) (ht : s.flag (TIM_ENCCFG_TYPE n) = true) :
    s.encoderEvent n (.ampFault held) = ((s.holdStep n (some held)).raise 0 1).encViolation n := by
  simp [State.encoderEvent, he, ht, State.encViolation, encIface]

theorem encoderEvent_ampReturn (phase : Nat) {held : Nat} (he : s.flag (TIM_ENCCFG_EN n) = true)
    (ht : s.flag (TIM_ENCCFG_TYPE n) = true) (ha : tabGet none s.pos.ampFault n = some held) :
    s.encoderEvent n (.ampReturn phase) = (s.holdStep n none).addCount n
      (if s.flag (TIM_ENCCFG_INV n) then - shortMove held phase else shortMove held phase) := by
  simp [State.encoderEvent, he, ht, ha]

theorem pos_encViolation (s : State) (n : Nat) : (s.encViolation n).pos = s.pos := pos_violation s _ _ _

end Events

/-- Settles O40: each event by `encoderEvent`, and what follows a count only where the count has moved. -/
theorem encoderInputs : Obligations.EncoderInputs := by
  refine ⟨shortMove_spec, ?_⟩
  intro s n phase held up vel hoff inv en sinCos amp plus counted follows master
  refine ⟨fun hn e => execEncoderEdge_of_unlisted e vel hn, fun he => ?_, fun hn he ha => ⟨fun hm => ?_, fun hm => ?_⟩,
    fun hn ht ha => ?_, fun hn he ht => ?_, fun hn he ht => ?_, fun hn he ht ha hm => ?_⟩
  · have hstep := encoderEvent_step_idle (n := n) up (.inl he)
    have hill := encoderEvent_illegal_idle he
    by_cases hn : n < 4
    · exact ⟨by rw [exec_encoderEdge, execEncoderEdge_of_still hoff _ _ hn (by rw [hstep]), hstep],
        by rw [exec_encoderEdge, execEncoderEdge_of_still hoff _ _ hn (by rw [hill]), hill]⟩
    · exact ⟨execEncoderEdge_of_unlisted _ vel (by omega), execEncoderEdge_of_unlisted _ vel (by omega)⟩
  · exact (execEncoderEdge_of_other hoff _ vel hn hm).trans (congrArg _ (encoderEvent_step_counted up he ha))
  · have hstep := encoderEvent_step_counted (n := n) up he ha
    refine (execEncoderEdge_of_master hoff _ vel hn ?_ hm).trans (congrArg (fun u => Host.Outcome.next (u.countFollows vel)) hstep)
    rw [hstep, count_addCount]
    split <;> omega
  · have hstep := encoderEvent_step_idle (n := n) up (.inr ⟨ht, ha⟩)
    exact (execEncoderEdge_of_still hoff _ vel hn (by rw [hstep])).trans (congrArg _ hstep)
  · have hill := encoderEvent_illegal he ht
    refine (execEncoderEdge_of_still hoff _ vel hn ?_).trans (congrArg _ hill)
    rw [hill, pos_encViolation, pos_raise]
    rfl
  · have hamp := encoderEvent_ampFault held he ht
    have hpos : (s.encoderEvent n (.ampFault held)).pos = (s.holdStep n (some held)).pos := by
      rw [hamp, pos_encViolation, pos_raise]
    refine ⟨_, execEncoderEdge_of_still hoff _ vel hn (by rw [hpos]; rfl), ?_, ?_, ?_⟩
    · rw [hpos]; simp [State.holdStep, State.setPos]
    · rw [hpos]; rfl
    · rw [hamp]
      refine (srcSet_of_fld (fld_violation _ (fstatKey_fstatOf rfl).not_eventKey)).trans ?_
      exact srcSet_raise rfl (by simp [State.dormantMute])
  · exact (execEncoderEdge_of_other hoff _ vel hn hm).trans (congrArg _ (encoderEvent_ampReturn phase he ht ha))

end Sys2Proof.Machine

/-! Event queues, records and mailbox replies (O35). -/

namespace Sys2Proof.Machine

/-! Queues. -/

section Queue

variable {s : State} (hoff : s.isOff = false) {a : Nat} (ha : a < 1024)
include hoff ha

theorem exec_evqHeadWrite_of_on (h : Nat) : exec (.evqHeadWrite a h) s = .next (s.evqHead a h) :=
  (next_on hoff).trans (congrArg Host.Outcome.next (if_pos ha))

theorem exec_evqEnable_of_on : exec (.evqEnable a) s = .next (s.evqOn a) :=
  (next_on hoff).trans (congrArg Host.Outcome.next (if_pos ha))

theorem exec_evqDisable_of_on : exec (.evqDisable a) s = .next (s.evqOff a) :=
  (next_on hoff).trans (congrArg Host.Outcome.next (if_pos ha))

end Queue

theorem satAdd_lt (w v n : Nat) : satAdd w v n < 2 ^ w := by
  have := Nat.two_pow_pos w
  rw [satAdd]
  split <;> omega

/-- A queue that is disabled holds nothing, and has counted what it held. -/
theorem evqOff_spec (s : State) (a : Nat) : (s.evqOff a).flag (EVQ_CFG_EN a) = false ∧ (s.evqOff a).heldOf a = [] ∧
    (s.evqOff a).fld (EVQ_PEND_HELD a) = 0 ∧
    (s.evqOff a).fld (EVQ_DROP_DROP a) = satAdd 32 (s.fld (EVQ_DROP_DROP a)) (s.heldOf a).length ∧
    ∀ b, b ≠ a → (s.evqOff a).heldOf b = s.heldOf b := by
  have k1 : (EVQ_PEND_HELD a).key ≠ (EVQ_CFG_EN a).key := by simp only [Field.key, EVQ_PEND_HELD, EVQ_CFG_EN]; omega
  have k2 : (EVQ_DROP_DROP a).key ≠ (EVQ_CFG_EN a).key := by simp only [Field.key, EVQ_DROP_DROP, EVQ_CFG_EN]; omega
  have k3 : (EVQ_DROP_DROP a).key ≠ (EVQ_PEND_HELD a).key := by simp only [Field.key, EVQ_DROP_DROP, EVQ_PEND_HELD]; omega
  have hheld (u : State) (l : List EventRec) (f : Field) (v b : Nat) :
      ((u.setHeld a l).setFld f v).heldOf b = tabGet [] (tabSet [] u.held a l) b := rfl
  have hfld (u : State) (l : List EventRec) (f : Field) (h : f.key ≠ (EVQ_PEND_HELD a).key) :
      (u.setHeld a l).fld f = u.fld f := fld_setFld_ne _ _ h
  refine ⟨?_, ?_, ?_, ?_, fun b hb => ?_⟩
  · rw [State.evqOff, State.setOff, State.flag, fld_setFld_same, Nat.zero_mod]; rfl
  · rw [State.evqOff, State.setOff, hheld, tabGet_tabSet_same]
  · rw [State.evqOff, State.setOff, fld_setFld_ne _ _ k1, State.setHeld, fld_setFld_same]; rfl
  · rw [State.evqOff, State.setOff, fld_setFld_ne _ _ k2, hfld _ _ _ k3, State.incBy, fld_setFld_same]
    exact Nat.mod_eq_of_lt (satAdd_lt _ _ _)
  · rw [State.evqOff, State.setOff, hheld, tabGet_tabSet_ne [] _ _ _ _ hb]
    rfl

/-! Records. -/

section Record

variable {s : State} {a type detail sub incident w : Nat} {stby : Bool}

theorem postAt_of_disabled (h : s.flag (EVQ_CFG_EN a) = false) : s.postAt a type detail sub incident w stby =
    s.setFld (EVQ_DROP_DROP a) (satInc 32 (s.fld (EVQ_DROP_DROP a))) := if_pos (by simp [h])

theorem hasStandby_setFld (s : State) {f : Field} (v : Nat) (h : GLB_ROLE_ROLE.key ≠ f.key) :
    (s.setFld f v).hasStandby = s.hasStandby := by
  simp only [State.hasStandby, State.isManager, State.role, fld_setFld_ne s v h]
  rfl

theorem mirrorSend_alone (h : s.hasStandby = false) (t st i x : Nat) (d : MirData) : s.mirrorSend t st i x d = s :=
  if_neg (by simp [h])

theorem hostOut_alone (h : s.hasStandby = false) (i : HostItem) : s.hostOut i = s.hostDo i := if_neg (by simp [h])

/-- Without a Standby a record that finds room goes to its ring place at once. -/
theorem appendRecord_alone (hs : s.hasStandby = false) (hh : s.heldOf a = []) (hd : s.pwr.hostDown = false)
    (hr : s.evqUsed a < s.evqSize a) (mk : Nat → Nat → EventRec)
    (hmk : (mk (s.fld (EVQ_TAIL_TAIL a)) (1 - s.fld (EVQ_TAIL_TAIL a) / 2 ^ s.fld (EVQ_CFG_LOG2N a) % 2)).seq =
      s.fld (EVQ_TAIL_TAIL a)) :
    s.appendRecord a mk = ((s.setFld (EVQ_TAIL_TAIL a) (s.fld (EVQ_TAIL_TAIL a) + 1)).emit (.hostRecord
      (s.fld (EVQ_BASEHI_BASE a) * 2 ^ 32 + s.fld (EVQ_BASELO_BASE a) + 32 * (s.fld (EVQ_TAIL_TAIL a) % s.evqSize a))
      (mk (s.fld (EVQ_TAIL_TAIL a)) (1 - s.fld (EVQ_TAIL_TAIL a) / 2 ^ s.fld (EVQ_CFG_LOG2N a) % 2)))).recordWritten a := by
  have k0 : GLB_ROLE_ROLE.key ≠ (EVQ_TAIL_TAIL a).key := by simp only [Field.key, GLB_ROLE_ROLE, EVQ_TAIL_TAIL]; omega
  have k1 : (EVQ_BASEHI_BASE a).key ≠ (EVQ_TAIL_TAIL a).key := by simp only [Field.key, EVQ_BASEHI_BASE, EVQ_TAIL_TAIL]; omega
  have k2 : (EVQ_BASELO_BASE a).key ≠ (EVQ_TAIL_TAIL a).key := by simp only [Field.key, EVQ_BASELO_BASE, EVQ_TAIL_TAIL]; omega
  have k3 : (EVQ_CFG_LOG2N a).key ≠ (EVQ_TAIL_TAIL a).key := by simp only [Field.key, EVQ_CFG_LOG2N, EVQ_TAIL_TAIL]; omega
  have hs1 (v : Nat) : (s.setFld (EVQ_TAIL_TAIL a) v).hasStandby = false := by rw [hasStandby_setFld s v k0, hs]
  have hfull : ¬ (s.evqFree a = 0 ∨ s.heldOf a ≠ [] ∨ s.pwr.hostDown = true) := by
    simp only [State.evqFree, hh, hd]
    simp
    omega
  simp only [State.appendRecord, mirrorSend_alone (hs1 _), if_neg hfull, State.writeRecord, phaseOf, hmk,
    hostOut_alone (hs1 _), State.hostDo, State.evqAddr, State.evqSize, fld_setFld_ne s _ k1, fld_setFld_ne s _ k2,
    fld_setFld_ne s _ k3]

theorem postAt_of_room (he : s.flag (EVQ_CFG_EN a) = true)
    (hl : s.fld (EVQ_PEND_LOSTPEND a) = 0) (hh : s.heldOf a = []) (hd : s.pwr.hostDown = false) :
    s.postAt a type detail sub incident w stby = s.appendRecord a (s.mkRecord a type detail sub incident w stby) := by
  have hroom : ¬ s.evqRoom a < 1 := by
    simp only [State.evqRoom, hh, hd]
    simp
  simp only [State.postAt, he, hl, if_true, hroom]
  simp

end Record

/-! Replies. -/

/-- The words of a reply stand on the page from place `j` on. -/
theorem tabGet_setReply (a i : Nat) : ∀ (ws : List Nat) (j : Nat) (m : Tab Nat),
    tabGet 0 (setReply m a j ws) (a * 4 + i) =
      if j ≤ i ∧ i < j + ws.length then ws.getD (i - j) 0 else tabGet 0 m (a * 4 + i)
  | [], j, m => by
    have hno : ¬ (j ≤ i ∧ i < j + ([] : List Nat).length) := by simp
    rw [setReply, if_neg hno]
  | w :: ws, j, m => by
    rw [setReply, tabGet_setReply a i ws (j + 1)]
    by_cases hij : i = j
    · subst hij
      rw [if_neg (by omega), if_pos (by simp), tabGet_tabSet_same]
      simp
    · rw [tabGet_tabSet_ne 0 0 _ _ w (by omega)]
      by_cases h : j + 1 ≤ i ∧ i < j + 1 + ws.length
      · rw [if_pos h, if_pos (by simp; omega), show i - j = (i - (j + 1)) + 1 by omega]
        simp
      · rw [if_neg h, if_neg (by simp; omega)]

/-- A reply filled up to four words. -/
theorem getD_reply_take {reply : List Nat} {k : Nat} (hk : k < 4) :
    ((reply ++ [0, 0, 0, 0]).take 4).getD k 0 = reply.getD k 0 := by
  have hz : ∀ j, ([0, 0, 0, 0] : List Nat).getD j 0 = 0
    | 0 | 1 | 2 | 3 => rfl
    | _ + 4 => rfl
  rw [List.getD_eq_getElem?_getD, List.getElem?_take, if_pos hk, List.getD_eq_getElem?_getD]
  by_cases h : k < reply.length
  · rw [List.getElem?_append_left h]
  · rw [List.getElem?_append_right (by omega), ← List.getD_eq_getElem?_getD, hz, List.getElem?_eq_none (by omega)]
    rfl

theorem mbIrq_rest (s : State) (a : Nat) : (s.mbIrq a).mbr = s.mbr ∧ (s.mbIrq a).mbCmd = s.mbCmd ∧ (s.mbIrq a).pm = s.pm ∧
    (s.mbIrq a).dm = s.dm ∧ (s.mbIrq a).dram = s.dram ∧ (s.mbIrq a).tellers = s.tellers := by
  unfold State.mbIrq State.msix
  split
  · split <;> exact ⟨rfl, rfl, rfl, rfl, rfl, rfl⟩
  · exact ⟨rfl, rfl, rfl, rfl, rfl, rfl⟩

theorem fld_mbIrq (s : State) (a : Nat) {f : Field} (h : ¬ eventKey f.key) : (s.mbIrq a).fld f = s.fld f := by
  rw [State.mbIrq]
  split
  · exact (eventFrame_msix s _).fld f h
  · rfl

/-- The registers of a mailbox page are no place of event records. -/
theorem mbctl_keys {a : Nat} (ha : a < 1024) : ¬ eventKey (MBCTL_DONE a).key ∧ ¬ eventKey (MBCTL_GO a).key := by
  simp only [eventKey_iff, Field.key, MBCTL_DONE, MBCTL_GO]
  omega

/-- What an answer on the page leaves, with no Standby in the run. -/
def State.pageAnswered (s : State) (a : Nat) (reply : List Nat) : State :=
  let s1 := { s with mbCmd := tabSet [] s.mbCmd a ((tabGet [] s.mbCmd a).drop mbSize) }
  ((({ s1 with mbr := setReply s.mbr a 0 ((reply ++ [0, 0, 0, 0]).take 4) }.setOn (MBCTL_DONE a)).setOff (MBCTL_GO a))).mbIrq a

theorem mbAnswer_page {s : State} {a : Nat} (code : Nat) (ws reply : List Nat) (hs : s.hasStandby = false)
    (hl : (tabGet [] s.mbCmd a).length = 17) (hg : s.flag (MBCTL_GO a) = true) :
    s.mbAnswer a code ws reply = s.pageAnswered a reply := by
  have hp : s.mbOnPage a = true := by simp [State.mbOnPage, hl, hg, mbSize]
  have hs1 (c : Tab (List Nat)) : State.hasStandby { s with mbCmd := c } = false := hs
  have hg1 (c : Tab (List Nat)) : State.flag { s with mbCmd := c } (MBCTL_GO a) = true := hg
  simp only [State.mbAnswer, hp, if_true, mirrorSend_alone (hs1 _), hostOut_alone (hs1 _), State.hostDo, hg1]
  rfl

section Answered

variable (s : State) {a : Nat} (reply : List Nat)

theorem pageAnswered_rest : (s.pageAnswered a reply).mbr = setReply s.mbr a 0 ((reply ++ [0, 0, 0, 0]).take 4) ∧
    (s.pageAnswered a reply).mbCmd = tabSet [] s.mbCmd a ((tabGet [] s.mbCmd a).drop mbSize) ∧
    (s.pageAnswered a reply).pm = s.pm ∧ (s.pageAnswered a reply).dm = s.dm ∧
    (s.pageAnswered a reply).dram = s.dram ∧ (s.pageAnswered a reply).tellers = s.tellers :=
  mbIrq_rest _ a

theorem fld_pageAnswered_ne {f : Field} (h : ¬ eventKey f.key) (hd : f.key ≠ (MBCTL_DONE a).key)
    (hg : f.key ≠ (MBCTL_GO a).key) : (s.pageAnswered a reply).fld f = s.fld f := by
  rw [State.pageAnswered, fld_mbIrq _ _ h, State.setOff, fld_setFld_ne _ _ hg, State.setOn, fld_setFld_ne _ _ hd]
  rfl

variable (ha : a < 1024)
include ha

theorem flag_done_pageAnswered : (s.pageAnswered a reply).flag (MBCTL_DONE a) = true := by
  have hk : (MBCTL_DONE a).key ≠ (MBCTL_GO a).key := by simp only [Field.key, MBCTL_DONE, MBCTL_GO]; omega
  rw [State.flag, State.pageAnswered, fld_mbIrq _ _ (mbctl_keys ha).1, State.setOff, fld_setFld_ne _ _ hk, State.setOn,
    fld_setFld_same]
  rfl

theorem flag_go_pageAnswered : (s.pageAnswered a reply).flag (MBCTL_GO a) = false := by
  rw [State.flag, State.pageAnswered, fld_mbIrq _ _ (mbctl_keys ha).2, State.setOff, fld_setFld_same]
  rfl

end Answered

/-- Settles O35: queue writes by their own branches, a record by the room it finds, a reply by what `pageAnswered`
leaves. -/
theorem eventsAndReplies : Obligations.EventsAndReplies := by
  refine ⟨fun s a h hoff ha => ?_, fun s a code ws reply ha hs hlen hl hg => ?_,
    fun s a type detail sub incident w stby ha hs => ⟨postAt_of_disabled, fun he hl hh hd hr => ?_⟩⟩
  · intro head room
    refine ⟨fun hle => ?_, fun hlt => ?_, fun he => ?_, ⟨_, exec_evqDisable_of_on hoff ha, evqOff_spec s a⟩,
      fun ho hp => ?_, fun ho hp => ?_⟩
    · exact (exec_evqHeadWrite_of_on hoff ha h).trans (congrArg Host.Outcome.next (if_pos hle))
    · exact (exec_evqHeadWrite_of_on hoff ha h).trans (congrArg Host.Outcome.next (if_neg (Nat.not_le.mpr hlt)))
    · exact (exec_evqEnable_of_on hoff ha).trans (congrArg Host.Outcome.next (if_neg (by simp [he])))
    · refine (next_on hoff).trans ?_
      rw [if_neg (by simp [ho]), if_neg (by simp [hp])]
    · refine (next_on hoff).trans ?_
      rw [if_neg (by simp [ho]), if_pos hp]
  · rw [mbAnswer_page code ws reply hs hl hg]
    obtain ⟨hmbr, hcmd, hpm, hdm, hdram, htel⟩ := pageAnswered_rest s (a := a) reply
    refine ⟨flag_done_pageAnswered s reply ha, flag_go_pageAnswered s reply ha, ?_, fun k hk => ?_, fun b hb hb' => ?_, hpm,
      hdm, hdram, htel⟩
    · rw [hcmd, tabGet_tabSet_same]
      exact List.drop_eq_nil_of_le (by simp [hl, mbSize])
    · have hlen4 : ((reply ++ [0, 0, 0, 0]).take 4).length = 4 := by simp
      rw [hmbr, tabGet_setReply, if_pos (by omega), Nat.sub_zero, getD_reply_take hk]
    · have kd : (MBCTL_DONE b).key ≠ (MBCTL_DONE a).key ∧ (MBCTL_DONE b).key ≠ (MBCTL_GO a).key ∧
          (MBCTL_GO b).key ≠ (MBCTL_DONE a).key ∧ (MBCTL_GO b).key ≠ (MBCTL_GO a).key := by
        simp only [Field.key, MBCTL_DONE, MBCTL_GO]; omega
      obtain ⟨k1, k2, k3, k4⟩ := kd
      exact ⟨flag_of_fld (fld_pageAnswered_ne s reply (mbctl_keys hb').1 k1 k2),
        flag_of_fld (fld_pageAnswered_ne s reply (mbctl_keys hb').2 k3 k4), by rw [hcmd, tabGet_tabSet_ne _ _ _ _ _ hb]⟩
  · intro n r addr
    rw [postAt_of_room he hl hh hd, appendRecord_alone hs hh hd hr _ rfl]

end Sys2Proof.Machine

/-! Account resets, the host port, vault membership and boot (O36). -/

namespace Sys2Proof.Machine

/-! Locks of an account that is reset. -/

theorem lock_setLock_same (s : State) (l : Nat) (k : Lock) : (s.setLock l k).lock l = k := by
  simp [State.setLock, State.lock]

theorem lock_setLock_ne (s : State) {l m : Nat} (k : Lock) (h : m ≠ l) : (s.setLock l k).lock m = s.lock m :=
  tabGet_tabSet_ne _ _ _ _ _ h _

theorem locks_wakeLock (l : Nat) : ∀ (n : Nat) (s : State), (s.wakeLock l n).locks = s.locks
  | 0, _ => rfl
  | n + 1, s => by
    rw [State.wakeLock, locks_wakeLock l n]
    split <;> rfl

theorem lock_lockAbandon (s : State) (l m : Nat) :
    (s.lockAbandon l).lock m = if m = l then ⟨none, true⟩ else s.lock m := by
  have h : (s.lockAbandon l).lock m = (s.setLock l ⟨none, true⟩).lock m :=
    congrArg (tabGet _ · m) (locks_wakeLock l 16 ((s.setLock l ⟨none, true⟩).inc LCK_ABANDCNT_COUNT))
  rw [h]
  split
  · next hm => rw [hm, lock_setLock_same]
  · next hm => rw [lock_setLock_ne _ _ hm]

/-- A lock that is not among those to release keeps its state; one that is and has a holder in question is free. -/
theorem lock_abandonLocks (p : Holder → Bool) (m : Nat) : ∀ (ks : List (Nat × Lock)) (s : State),
    (s.abandonLocks p ks).lock m = s.lock m ∨ (s.abandonLocks p ks).lock m = ⟨none, true⟩
  | [], _ => .inl rfl
  | (l, k) :: ks, s => by
    have keep (u : State) (hu : u.lock m = s.lock m ∨ u.lock m = ⟨none, true⟩) :
        (u.abandonLocks p ks).lock m = s.lock m ∨ (u.abandonLocks p ks).lock m = ⟨none, true⟩ := by
      rcases lock_abandonLocks p m ks u with h | h
      · rwa [h]
      · exact .inr h
    rw [State.abandonLocks]
    split
    · refine keep _ ?_
      split
      · rw [lock_lockAbandon]
        split
        · exact .inr rfl
        · exact .inl rfl
      · exact .inl rfl
    · exact keep s (.inl rfl)

/-- Every lock listed with a holder in question is free afterwards. -/
theorem lock_abandonLocks_of_mem (p : Holder → Bool) {m : Nat} {h : Holder} (hp : p h = true) :
    ∀ (ks : List (Nat × Lock)) (s : State) (k : Lock), (m, k) ∈ ks → k.holder = some h →
      (s.abandonLocks p ks).lock m = ⟨none, true⟩
  | [], _, _, hmem, _ => by simp at hmem
  | (l, k') :: ks, s, k, hmem, hk => by
    rw [State.abandonLocks]
    rcases List.mem_cons.mp hmem with heq | hmem
    · cases heq
      simp only [hk, hp, if_true]
      rcases lock_abandonLocks p m ks (s.lockAbandon m) with h | h
      · rw [h, lock_lockAbandon, if_pos rfl]
      · exact h
    · split
      · exact lock_abandonLocks_of_mem p hp ks _ k hmem hk
      · exact lock_abandonLocks_of_mem p hp ks _ k hmem hk

/-- After the locks of an account are released it holds none. -/
theorem holder_abandonLocks_host (s : State) (a l : Nat) :
    ((s.abandonLocks (holdsFor a) s.locks).lock l).holder ≠ some (.host a) := by
  intro hh
  rcases lock_abandonLocks (holdsFor a) l s.locks s with h | h
  · rw [h] at hh
    have hmem : (l, s.lock l) ∈ s.locks := mem_of_tabGet rfl (fun e => by rw [e] at hh; simp at hh)
    have := lock_abandonLocks_of_mem (holdsFor a) (h := .host a) (by simp [holdsFor]) s.locks s _ hmem hh
    rw [h] at this
    rw [this] at hh
    simp at hh
  · rw [h] at hh
    simp at hh

/-! Pages that time out, and account resets. -/

theorem quiet_mbTimeout (s : State) (a : Nat) : (s.mbTimeout a).quiet = s.quiet := by simp [State.mbTimeout]

theorem mailboxTimeout_of_idle {s : State} {a : Nat} (h : s.flag (MBCTL_GO a) = false) : s.mailboxTimeout a = s :=
  if_pos (by simp [h])

theorem mailboxTimeout_of_taken {s : State} {a : Nat} (hg : s.flag (MBCTL_GO a) = true) (ht : s.flag (MBCTL_TAKEN a) = true)
    (hh : s.mirror.held = []) : s.mailboxTimeout a = s.mbTimeout a := by
  have hm : ({ s.mirror with held := s.mirror.held.filter fun x => x.2.notReply a } : Mirror) = s.mirror := by
    rw [hh, List.filter_nil, ← hh]
  rw [State.mailboxTimeout, if_neg (by simp [hg]), if_pos ht, hm, hh]
  rfl

/-- A command that the firmware has not taken is withdrawn. -/
theorem mailboxTimeout_of_waiting {s : State} {a : Nat} (hg : s.flag (MBCTL_GO a) = true)
    (ht : s.flag (MBCTL_TAKEN a) = false) : s.mailboxTimeout a =
      let c := tabGet [] s.mbCmd a
      let w := State.mbTimeout { s with mbCmd := tabSet [] s.mbCmd a (c.take (c.length - 17)) } a
      if s.flag (ACC_CFG_EN a) then w.raise 23 0 else w := by
  rw [State.mailboxTimeout, if_neg (by simp [hg]), if_neg (by simp [ht])]
  rfl

/-- Withdrawing a command changes no lock. -/
theorem locks_mailboxTimeout_of_waiting {s : State} {a : Nat} (hg : s.flag (MBCTL_GO a) = true)
    (ht : s.flag (MBCTL_TAKEN a) = false) : (s.mailboxTimeout a).locks = s.locks := by
  have hw (c : Tab (List Nat)) : (State.mbTimeout { s with mbCmd := c } a).locks = s.locks :=
    congrArg (fun q => q.node.locks) (quiet_mbTimeout _ a)
  rw [mailboxTimeout_of_waiting hg ht]
  dsimp only
  split
  · exact (congrArg (fun q => q.node.locks) (quiet_raise _ 23 0)).trans (hw _)
  · exact hw _

/-- After a reset of an account its queue is off and empty, it has no body, and it holds no lock. -/
theorem accReset_spec (s : State) (a : Nat) : (s.accReset a).flag (EVQ_CFG_EN a) = false ∧ (s.accReset a).bodyOf a = [] ∧
    (s.accReset a).heldOf a = [] ∧ ∀ l, ((s.accReset a).lock l).holder ≠ some (.host a) := by
  have hlocks : (s.accReset a).locks = (s.abandonLocks (holdsFor a) s.locks).locks := by
    have hrest (u : State) : ((u.setBody a []).evqOff a).locks = u.locks := rfl
    rw [State.accReset, hrest]
    split
    · next h => exact locks_mailboxTimeout_of_waiting h.1 (by simpa using h.2)
    · rfl
  refine ⟨(evqOff_spec _ a).1, ?_, (evqOff_spec _ a).2.1, fun l => ?_⟩
  · exact tabGet_tabSet_same [] a [] _
  · rw [State.lock, hlocks]
    exact holder_abandonLocks_host s a l

/-! The host port (R384). -/

theorem pchReset_fields (s : State) : s.pchReset.fld PCH_LINK_WIDTH = 0 ∧ s.pchReset.fld PCH_LINK_SPEED = 0 ∧
    s.pchReset.flag PCH_LINK_UP = false ∧ s.pchReset.fld PCH_CTO_US = PCH_CTO_US.reset ∧
    s.pchReset.fld PCH_ERRCNT_CTO = 0 ∧ s.pchReset.fld PCH_ERRCNT_BADTLP = 0 := by
  simp only [State.pchReset, List.foldl_cons, List.foldl_nil, State.flag]
  refine ⟨?_, ?_, ?_, ?_, ?_, ?_⟩ <;> simp (disch := decide) only [fld_setFld_ne, fld_setFld_same] <;> decide

/-! Boot (R365, R387). -/

theorem flashMode_of_no_table {bs : List Byte} (h : leAt bs 0 4 ≠ 0x50444653) : flashMode bs = (0, 25) := by
  have hb : sfdpBasic bs = none := by simp [sfdpBasic, h]
  rw [flashMode, hb]

theorem flashMode_le (bs : List Byte) : (flashMode bs).2 ≤ 100 := by
  rw [flashMode]
  split
  · split
    · decide
    · exact le_refl _
  · decide

section Boot

variable {s : State} (hoff : s.isOff = false) (sfdp flash : List Byte)

/-- What the boot code has read before it starts a firmware. -/
def State.bootRead (s : State) (sfdp flash : List Byte) : State :=
  { s with flash := flashMode sfdp, images := flashImages flash 3 }

/-- The first firmware of a type that passes. -/
def State.firmware (s : State) (flash : List Byte) (k : Nat) : Option (List Byte) :=
  (flashImages flash k).find? fun bs => s.envOk bs 1

theorem mbTakeAll_nil (s : State) : s.mbTakeAll [] = s := by rw [State.mbTakeAll]

theorem fwStart_of_quiet {u : State} (hm : u.mbCmd = []) (k : Nat) (bs : List Byte) : u.fwStart k bs =
    { (u.setFld ACC_BOOT_STAT k).setFld ACC_BOOT_FWVER (leAt bs 8 4) with fwRollback := leAt bs 8 4 } := by
  have hc : ((u.setFld ACC_BOOT_STAT k).setFld ACC_BOOT_FWVER (leAt bs 8 4)).mbCmd = [] := hm
  exact (congrArg (State.mbTakeAll _) hc).trans (mbTakeAll_nil _)

include hoff

theorem execBootVerify_eq (h0 : s.fld ACC_BOOT_STAT = 0) (hc : s.pwr.coresHeld = false) (hh : s.pwr.held = false) :
    execBootVerify sfdp flash s = .next (match s.firmware flash 1, s.firmware flash 2 with
      | some bs, _ => (s.bootRead sfdp flash).fwStart 1 bs
      | none, some bs => (s.bootRead sfdp flash).fwStart 2 bs
      | none, none => ((s.bootRead sfdp flash).setFld ACC_BOOT_STAT 3).setFld FLT_CTL_RUN 0) := by
  rw [execBootVerify, if_neg (by simp [hoff]), if_neg (by simp [h0, hc, hh])]
  rfl

end Boot

theorem membersWrite_of_change {s : State} {h v : Nat} (hc : ∃ i, i < 32 ∧
    (s.fld (VLT_MEMBERS_ACCTS h) ^^^ (v % 2 ^ 32)).testBit i = true ∧ s.flag (ACC_CFG_EN (32 * h + i)) = true) :
    s.membersWrite h v = s.setFld VLT_STATUS_CFGERR 1 := by
  refine if_pos ?_
  simpa using hc

theorem membersWrite_of_idle {s : State} {h v : Nat} (hc : ∀ i, i < 32 →
    (s.fld (VLT_MEMBERS_ACCTS h) ^^^ (v % 2 ^ 32)).testBit i = true → s.flag (ACC_CFG_EN (32 * h + i)) = false) :
    s.membersWrite h v = s.setFld (VLT_MEMBERS_ACCTS h) v := by
  refine if_neg ?_
  simpa using hc

theorem execTellerImageLoad_eq {s : State} (hoff : s.isOff = false) (hf : s.fwRuns = true) {image : List Byte}
    {rest : List (List Byte)} (hi : s.images = image :: rest) : execTellerImageLoad s =
      .next (if s.envOk image 2 = true ∧ s.imageOk (image.drop 192) true = true then
        State.loadImage { s with images := rest } (image.drop 192) else { s with images := rest }) := by
  have he : State.envOk { s with images := rest } image 2 = s.envOk image 2 := rfl
  have ho : State.imageOk { s with images := rest } (image.drop 192) true = s.imageOk (image.drop 192) true := rfl
  rw [execTellerImageLoad, if_neg (by simp [hoff, hf]), hi]
  simp only [envPayload, he, ho]

/-- Settles O36: the locks of an account go by the list they stand in; every other clause is one branch. -/
theorem accountsVaultAndBoot : Obligations.AccountsVaultAndBoot := by
  refine ⟨fun s key a vault hoff ha => ?_, fun s h v sfdp flash image rest hoff hh => ?_⟩
  · have on (k : Nat) (b : Bool) : exec (.accRst k a b) s = .next (s.accRst k a b) :=
      (next_on hoff).trans (congrArg Host.Outcome.next (if_pos ha))
    obtain ⟨p1, p2, p3, p4, p5, p6⟩ := pchReset_fields s
    refine ⟨fun hk => (on _ _).trans (congrArg Host.Outcome.next (if_pos hk)), fun hv => ?_, fun hv => ?_, next_on hoff,
      ?_, p1, p2, p3, p4, p5, p6, fun hg ht hm => ?_, fun hg ht => ?_, fun hg => ?_, next_on hoff, next_on hoff⟩
    · rw [on, State.accRst, if_neg (by decide), if_pos (by simp [hv])]
      rfl
    · refine ⟨_, (on _ _).trans (congrArg Host.Outcome.next ?_), accReset_spec s a⟩
      rw [State.accRst, if_neg (by decide), if_neg (by rintro ⟨h1, h2⟩; rcases hv with h | h <;> simp_all)]
    · exact congrArg Host.Outcome.next (if_neg (by simp [hoff]))
    · exact (next_on hoff).trans (congrArg Host.Outcome.next (mailboxTimeout_of_taken hg ht hm))
    · exact (next_on hoff).trans (congrArg Host.Outcome.next (mailboxTimeout_of_waiting hg ht))
    · exact (next_on hoff).trans (congrArg Host.Outcome.next (mailboxTimeout_of_idle hg))
  · intro x first boots read started next
    have on : exec (.vltMembersWrite h v) s = .next (s.membersWrite h v) :=
      (next_on hoff).trans (congrArg Host.Outcome.next (if_pos hh))
    refine ⟨fun hc => on.trans (congrArg Host.Outcome.next (membersWrite_of_change hc)),
      fun hc => on.trans (congrArg Host.Outcome.next (membersWrite_of_idle hc)), next_on hoff,
      fun ⟨h0, hc, hheld⟩ hm => ⟨fun bs hb => ?_, fun ha bs hb => ?_, fun ha hb => ?_⟩, flashMode_of_no_table,
      flashMode_le sfdp, fun hf hi => ⟨fun he ho => ?_, fun he => ?_⟩⟩
    · refine (execBootVerify_eq hoff sfdp flash h0 hc hheld).trans ?_
      rw [show s.firmware flash 1 = some bs from hb]
      exact congrArg Host.Outcome.next (fwStart_of_quiet (u := read) hm 1 bs)
    · refine (execBootVerify_eq hoff sfdp flash h0 hc hheld).trans ?_
      rw [show s.firmware flash 1 = none from ha, show s.firmware flash 2 = some bs from hb]
      exact congrArg Host.Outcome.next (fwStart_of_quiet (u := read) hm 2 bs)
    · refine (execBootVerify_eq hoff sfdp flash h0 hc hheld).trans ?_
      rw [show s.firmware flash 1 = none from ha, show s.firmware flash 2 = none from hb]
      rfl
    · rw [exec_tellerImageLoad, execTellerImageLoad_eq hoff hf hi, if_pos ⟨he, ho⟩]
    · rw [exec_tellerImageLoad, execTellerImageLoad_eq hoff hf hi, if_neg (by rcases he with h | h <;> simp [h])]

end Sys2Proof.Machine

namespace Sys2Proof.Machine

/-! What voids and the escrow close leave alone (R132, R135). -/

/-- The escrow without its slots and the slot before: the course of the run. -/
def Esc.course (e : Esc) : Esc := { e with slots := [], prev := none }

/-- The ESC registers that voids and the show of the run may write: all but NEXTSLOT and ENDPOSLO. -/
abbrev escShown (k : Nat) : Prop :=
  0x400000 * 32 ≤ k ∧ k < 0x410000 * 32 ∧ k ≠ ESC_NEXTSLOT_VALUE.key ∧ k ≠ ESC_ENDPOSLO_LINE.key

/-- `u` differs from `s` as voids and the show of the run may make it differ. -/
structure VoidPath (s u : State) : Prop where
  seen : u.seen = s.seen
  mbCmd : u.mbCmd = s.mbCmd
  course : u.esc.course = s.esc.course
  fld : ∀ f : Field, ¬ noticeKey f.key → ¬ escShown f.key → u.fld f = s.fld f

namespace VoidPath

variable {s u w : State}

theorem refl (s : State) : VoidPath s s := ⟨rfl, rfl, rfl, fun _ _ _ => rfl⟩

theorem trans (h : VoidPath s u) (g : VoidPath u w) : VoidPath s w :=
  ⟨g.seen.trans h.seen, g.mbCmd.trans h.mbCmd, g.course.trans h.course,
    fun f hn he => (g.fld f hn he).trans (h.fld f hn he)⟩

theorem of_quiet (h : u.quiet = s.quiet)
    (hf : ∀ f : Field, ¬ noticeKey f.key → ¬ escShown f.key → u.fld f = s.fld f) : VoidPath s u :=
  ⟨seen_of_quiet h, node_of_quiet h State.mbCmd, congrArg Esc.course (esc_of_quiet h), hf⟩

theorem port (h : VoidPath s u) : u.esc.port = s.esc.port := (congrArg Esc.port h.course :)
theorem runOpen (h : VoidPath s u) : u.esc.runOpen = s.esc.runOpen := (congrArg Esc.runOpen h.course :)
theorem ahead (h : VoidPath s u) : u.esc.ahead = s.esc.ahead := (congrArg Esc.ahead h.course :)
theorem x (h : VoidPath s u) : u.esc.x = s.esc.x := (congrArg Esc.x h.course :)
theorem ec (h : VoidPath s u) : u.esc.ec = s.esc.ec := (congrArg Esc.ec h.course :)

theorem setFld {f : Field} (hf : escShown f.key) (v : Nat) : VoidPath s (s.setFld f v) :=
  of_quiet (quiet_setFld ..) fun _ _ he => fld_setFld_ne s v fun h => he (h ▸ hf)

theorem tevEscMask : VoidPath s s.tevEscMask :=
  .of_quiet (quiet_setTevMask ..) fun f _ _ => fld_setTevMask s _ _ _ f

end VoidPath

/-- Which ESC registers the show of the run and the log of voids write. -/
theorem escShown_log (i : Nat) (h : i < 64) :
    escShown (ESC_LOGSLOT_SLOT i).key ∧ escShown (ESC_LOG_REASON i).key ∧ escShown (ESC_LOG_STATION i).key ∧
      escShown (ESC_LOG_INCIDENT i).key ∧ escShown (ESC_LOG_MORE i).key := by
  simp only [escShown, Field.key, ESC_LOGSLOT_SLOT, ESC_LOG_REASON, ESC_LOG_STATION, ESC_LOG_INCIDENT, ESC_LOG_MORE,
    ESC_NEXTSLOT_VALUE, ESC_ENDPOSLO_LINE]
  omega

theorem voidPath_mirrorSend (s : State) (t st i x : Nat) (d : MirData) : VoidPath s (s.mirrorSend t st i x d) :=
  .of_quiet (quiet_mirrorSend ..) fun _ hn _ => fld_mirrorSend_exact s hn ..

theorem voidPath_ringBoth (s : State) (dst : Option Nat) (m : RingMsg) : VoidPath s (s.ringBoth dst m) :=
  .of_quiet (quiet_ringBoth ..) fun _ _ _ => fld_ringBoth s dst m

theorem voidPath_frameRecord (s : State) (type frame sub incident x : Nat) :
    VoidPath s (s.frameRecord type frame sub incident x) := by
  rw [State.frameRecord]
  split
  · exact .of_quiet (quiet_postW ..) fun _ hn _ => fld_postW_exact s hn ..
  · exact .refl s

theorem voidPath_escSync (s : State) : VoidPath s s.escSync := by
  have hset (u : State) {f : Field} (hf : escShown f.key) (v : Nat) : VoidPath u (u.setFld f v) := .setFld hf v
  simp only [State.escSync]
  split
  · exact .refl s
  · exact ((((((hset s (f := ESC_CTL_RUN) (by decide) _).trans (hset _ (f := ESC_CTL_STOP) (by decide) _)).trans
      (hset _ (f := ESC_STATUS_ENDING) (by decide) _)).trans (hset _ (f := ESC_STATUS_AHEAD) (by decide) _)).trans
      (hset _ (f := ESC_STATUS_INFLIGHT) (by decide) _)).trans (hset _ (f := ESC_NEXTECLO_VALUE) (by decide) _)).trans
      (hset _ (f := ESC_NEXTECHI_VALUE) (by decide) _)

theorem voidPath_escCount (s : State) {f : Field} (hf : escShown f.key) : VoidPath s (s.escCount f) := by
  rw [State.escCount]
  split
  · exact .refl s
  · exact .setFld hf _

/-- A slot's log entry. -/
theorem voidPath_log (s : State) (k reason station incident : Nat) :
    VoidPath s ((((s.setFld (ESC_LOGSLOT_SLOT (k % 64)) k).setFld (ESC_LOG_REASON (k % 64)) reason).setFld
      (ESC_LOG_STATION (k % 64)) station).setFld (ESC_LOG_INCIDENT (k % 64)) incident) := by
  obtain ⟨hslot, hreason, hstation, hincident, -⟩ := escShown_log (k % 64) (Nat.mod_lt _ (by decide))
  exact (((VoidPath.setFld hslot k).trans (.setFld hreason reason)).trans (.setFld hstation station)).trans
    (.setFld hincident incident)

theorem voidPath_voidRecord (s : State) (k : Nat) (r : SlotRec) (reason station incident : Nat) :
    VoidPath s (s.voidRecord k r reason station incident) := by
  have hleave : VoidPath s ((s.setSlot k SlotRec.none).setMarks k Marks.init) :=
    ⟨(seen_setMarks ..).trans (seen_setSlot s k _), rfl, rfl, fun _ _ _ => rfl⟩
  have hlog := (hleave.trans (voidPath_escCount _ (f := ESC_VOIDCNT_COUNT) (by decide))).trans
    (voidPath_log _ k reason station incident)
  have hprev (u : State) (p : Option (Nat × Desc)) : VoidPath u (u.setEsc { u.esc with prev := p }) :=
    ⟨seen_setEsc .., rfl, rfl, fun _ _ _ => rfl⟩
  have hend {u : State} (h : VoidPath s u) (frame : Nat) : VoidPath s
      ((u.setFld (ESC_LOG_MORE (k % 64)) 0).frameRecord 0x201 frame reason incident r.x).tevEscMask :=
    ((h.trans (.setFld (escShown_log _ (Nat.mod_lt _ (by decide))).2.2.2.2 0)).trans (voidPath_frameRecord ..)).trans
      .tevEscMask
  simp only [State.voidRecord]
  split
  · split
    · exact hend (hlog.trans (hprev _ _)) _
    · exact hend hlog _
  · exact hend hlog _

theorem voidPath_voidSlot (s : State) (k reason station incident : Nat) :
    VoidPath s (s.voidSlot k reason station incident) := by
  simp only [State.voidSlot]
  split
  · exact (((voidPath_mirrorSend ..).trans (voidPath_ringBoth ..)).trans (voidPath_voidRecord ..)).trans
      (voidPath_escSync _)
  · split
    · exact .setFld (escShown_log _ (Nat.mod_lt _ (by decide))).2.2.2.2 _
    · exact .refl s

theorem voidPath_voidAll (reason incident : Nat) (stn : Nat → SlotRec → Option Nat) (es : List (Nat × SlotRec)) :
    ∀ s : State, VoidPath s (s.voidAll reason incident stn es) := by
  induction es with
  | nil => exact fun s => .refl s
  | cons e es ih =>
    intro s
    rw [State.voidAll]
    refine VoidPath.trans ?_ (ih _)
    split
    · exact voidPath_voidSlot ..
    · exact .refl s

theorem voidPath_inhibitVoids (s : State) : VoidPath s s.inhibitVoids := by
  rw [State.inhibitVoids]
  split
  · split
    · exact voidPath_voidAll ..
    · exact .refl s
  · exact .refl s

/-! The close. -/

theorem esc_escCount (s : State) (f : Field) : (s.escCount f).esc = s.esc := by
  rw [State.escCount]; split <;> rfl

theorem esc_nextSlot (s : State) (k : Nat) : (s.nextSlot k).esc = s.esc := by
  rw [State.nextSlot]; split <;> rfl

theorem esc_closeApply (s : State) (c : CloseRec) :
    (s.closeApply c).esc.runOpen = true ∧
    (s.closeApply c).esc.ahead = (if c.kind = 1 ∨ c.reason = rsDescecc then s.esc.ahead.drop 1 else s.esc.ahead) ∧
    (s.closeApply c).esc.x = c.x + c.desc.length + c.desc.gap ∧
    (s.closeApply c).esc.ec = c.x + c.desc.length - s.fld ESC_LEAD_LINES ∧ (s.closeApply c).esc.port = s.esc.port := by
  have hesc : s.fixGeo.esc.ahead = s.esc.ahead ∧ s.fixGeo.esc.port = s.esc.port := by
    rw [State.fixGeo]; split <;> exact ⟨rfl, rfl⟩
  have hfld : s.fixGeo.fld ESC_LEAD_LINES = s.fld ESC_LEAD_LINES := by
    rw [State.fixGeo]; split <;> rfl
  obtain ⟨hahead, hport⟩ := hesc
  have hmarks (b : Prop) [Decidable b] (u : State) (m : Marks) : (if b then u.setMarks c.slot m else u).esc = u.esc := by
    split <;> rfl
  have hrep (b : Prop) [Decidable b] (u : State) : (if b then u.escCount ESC_REPCNT_COUNT else u).esc = u.esc := by
    split
    · exact esc_escCount ..
    · rfl
  simp only [State.closeApply, hrep, esc_nextSlot, hmarks, hfld]
  exact ⟨rfl, by rw [← hahead]; rfl, rfl, rfl, hport⟩

/-- A close takes the next slot number, however it stands in the register. -/
theorem nextslot_closeApply (s : State) (c : CloseRec) (h : s.fld ESC_NEXTSLOT_VALUE = c.slot) :
    (s.closeApply c).fld ESC_NEXTSLOT_VALUE = (c.slot + 1) % 2 ^ 32 := by
  have hgeo (u : State) : u.fixGeo.fld ESC_NEXTSLOT_VALUE = u.fld ESC_NEXTSLOT_VALUE := by
    rw [State.fixGeo]; split <;> rfl
  have hmarks (b : Prop) [Decidable b] (u : State) (m : Marks) :
      (if b then u.setMarks c.slot m else u).fld ESC_NEXTSLOT_VALUE = u.fld ESC_NEXTSLOT_VALUE := by
    split <;> rfl
  have hnext (u : State) (hu : u.fld ESC_NEXTSLOT_VALUE = c.slot) :
      (u.nextSlot c.slot).fld ESC_NEXTSLOT_VALUE = (c.slot + 1) % 2 ^ 32 := by
    rw [State.nextSlot, if_neg (by rw [hu]; omega), fld_setFld_same]
    rfl
  have hrep (b : Prop) [Decidable b] (u : State) :
      (if b then u.escCount ESC_REPCNT_COUNT else u).fld ESC_NEXTSLOT_VALUE = u.fld ESC_NEXTSLOT_VALUE := by
    split
    · rw [State.escCount]
      split
      · rfl
      · exact fld_setFld_ne _ _ (by decide)
    · rfl
  simp only [State.closeApply, hrep]
  refine hnext _ ?_
  rw [hmarks]
  exact (hgeo s).trans h

/-- `u` differs from `s` as closes may make it differ. -/
structure ClosePath (s u : State) : Prop where
  seen : u.seen = s.seen
  mbCmd : u.mbCmd = s.mbCmd
  port : u.esc.port = s.esc.port
  fld : ∀ f : Field, ¬ noticeKey f.key → 0x410000 * 32 ≤ f.key → u.fld f = s.fld f

namespace ClosePath

variable {s u w : State}

theorem refl (s : State) : ClosePath s s := ⟨rfl, rfl, rfl, fun _ _ _ => rfl⟩

theorem trans (h : ClosePath s u) (g : ClosePath u w) : ClosePath s w :=
  ⟨g.seen.trans h.seen, g.mbCmd.trans h.mbCmd, g.port.trans h.port,
    fun f hn he => (g.fld f hn he).trans (h.fld f hn he)⟩

theorem of_voidPath (h : VoidPath s u) : ClosePath s u :=
  ⟨h.seen, h.mbCmd, h.port, fun f hn hf => h.fld f hn fun he => by
    obtain ⟨-, hlt, -⟩ := he
    omega⟩

theorem setFld {f : Field} (hf : f.key < 0x410000 * 32) (v : Nat) : ClosePath s (s.setFld f v) :=
  ⟨seen_setFld .., rfl, rfl, fun g _ hg => fld_setFld_ne s v fun h => by omega⟩

end ClosePath

theorem closePath_closeApply (s : State) (c : CloseRec) : ClosePath s (s.closeApply c) := by
  have hset (u : State) : ClosePath u (u.nextSlot c.slot) := by
    rw [State.nextSlot]
    split
    · exact .refl u
    · exact .setFld (by decide) _
  have hgeo : ClosePath s s.fixGeo := by
    rw [State.fixGeo]
    split
    · exact .refl s
    · exact ⟨seen_setEsc .., rfl, rfl, fun _ _ _ => rfl⟩
  have hesc (u : State) (e : Esc) (h : e.port = u.esc.port) : ClosePath u (u.setEsc e) :=
    ⟨seen_setEsc .., rfl, h, fun _ _ _ => rfl⟩
  have hmarks (u : State) (m : Marks) (b : Prop) [Decidable b] : ClosePath u (if b then u.setMarks c.slot m else u) := by
    split
    · exact ⟨seen_setMarks .., rfl, rfl, fun _ _ _ => rfl⟩
    · exact .refl u
  have hrep (u : State) (b : Prop) [Decidable b] : ClosePath u (if b then u.escCount ESC_REPCNT_COUNT else u) := by
    split
    · exact .of_voidPath (voidPath_escCount u (by decide))
    · exact .refl u
  simp only [State.closeApply]
  refine (hgeo.trans ?_).trans (hrep _ _)
  refine ClosePath.trans ?_ (hset _)
  refine ClosePath.trans ?_ (hmarks _ _ _)
  exact hesc _ _ rfl

theorem closePath_endRun (s : State) : ClosePath s s.endRun := by
  have hesc (u : State) : ClosePath u (u.setEsc { u.esc with runOpen := false, stopReq := false, prev := none }) :=
    ⟨seen_setEsc .., rfl, rfl, fun _ _ _ => rfl⟩
  simp only [State.endRun]
  exact ((((ClosePath.of_voidPath (voidPath_ringBoth s none _)).trans (.setFld (by decide) _)).trans
    (.setFld (by decide) _)).trans (hesc _)).trans (.of_voidPath (voidPath_escSync _))

/-- What follows a close: the record of a repeat, TEV.ESC, a void, INHIBIT's voids, and the show of the run. -/
theorem voidPath_afterClose (s : State) (rep void : Prop) [Decidable rep] [Decidable void] (frame x slot reason lead inc : Nat)
    (r : State → SlotRec) :
    let s2 := (if rep then s.frameRecord 0x202 frame 0 0 x else s).tevEscMask
    VoidPath s (if void then s2.voidRecord slot (r s2) reason lead inc else s2).inhibitVoids.escSync := by
  intro s2
  have hrep : VoidPath s s2 := by
    refine VoidPath.trans ?_ .tevEscMask
    split
    · exact voidPath_frameRecord ..
    · exact .refl s
  refine ((hrep.trans ?_).trans (voidPath_inhibitVoids _)).trans (voidPath_escSync _)
  split
  · exact voidPath_voidRecord ..
  · exact .refl s2

/-- The close record goes out, and the close takes its place. -/
def State.closeSent (s : State) : State := (s.mirrorSend 0xFF 0 0 0 (.close s.closeRec)).ringBoth none (.close s.closeRec)

theorem voidPath_closeSent (s : State) : VoidPath s s.closeSent :=
  (voidPath_mirrorSend ..).trans (voidPath_ringBoth ..)

section Close

variable {s : State} (hdue : s.isManager = true ∧ s.esc.runOpen = true ∧ s.esc.ec * 2 ^ 16 ≤ s.wpos)
include hdue

theorem escrowClose_stop (hstop : s.esc.stopReq = true) : s.escrowClose = s.endRun := by
  rw [State.escrowClose, if_neg (not_not.2 hdue), if_pos hstop]

/-- A close that fills a slot, and what follows it. -/
theorem escrowClose_fills (hstop : s.esc.stopReq = false) : VoidPath (s.closeSent.closeApply s.closeRec) s.escrowClose := by
  rw [State.escrowClose, if_neg (not_not.2 hdue), if_neg (by simp [hstop])]
  exact voidPath_afterClose (s.closeSent.closeApply s.closeRec) (s.closeRec.kind = 2) (s.closeRec.kind = 3)
    s.closeRec.desc.frame s.closeRec.x s.closeRec.slot s.closeRec.reason (s.closeSent.closeApply s.closeRec).lead _
    fun u => u.slot s.closeRec.slot

end Close

theorem closePath_escrowClose (s : State) : ClosePath s s.escrowClose := by
  by_cases hdue : s.isManager = true ∧ s.esc.runOpen = true ∧ s.esc.ec * 2 ^ 16 ≤ s.wpos
  · cases hstop : s.esc.stopReq
    · exact ((ClosePath.of_voidPath (voidPath_closeSent s)).trans (closePath_closeApply _ _)).trans
        (.of_voidPath (escrowClose_fills hdue hstop))
    · rw [escrowClose_stop hdue hstop]
      exact closePath_endRun s
  · rw [State.escrowClose, if_pos hdue]
    exact .refl s

theorem closePath_closesDue (n : Nat) : ∀ s : State, ClosePath s (s.closesDue n) := by
  induction n with
  | zero => exact fun s => .refl s
  | succ n ih =>
    intro s
    rw [State.closesDue]
    split
    · exact (closePath_escrowClose s).trans (ih _)
    · exact .refl s

theorem not_noticeKey_of_esc {k : Nat} (hk : 0x400000 * 32 ≤ k ∧ k < 0x410000 * 32) : ¬ noticeKey k := by
  rintro (h | h | ⟨v, h⟩ | ⟨a, h | h | h | h⟩) <;>
    simp only [Field.key, FLT_MSEQ_MSEQ, FLT_STBYDROP_COUNT, MSIX_PBA_PENDING, EVQ_TAIL_TAIL, EVQ_PEND_HELD,
      EVQ_PEND_LOSTPEND, EVQ_DROP_DROP] at h <;> omega

/-! Runs (R132, R138). -/

theorem runRefused_iff (s : State) : s.runRefused = true ↔ s.fld ESC_STMAP_STN = 0 ∨ s.fld ESC_DEFLEN_LINES < s.fld ESC_LEAD_LINES ∨
    s.origin ≤ s.wpos / 2 ^ 16 + s.fld ESC_DEFGAP_LINES + s.fld ESC_LEAD_LINES := by
  simp only [State.runRefused, Bool.or_eq_true, decide_eq_true_eq, or_assoc]
  rfl

theorem role_standby_of_manager {s : State} (h : s.isManager = true) : s.isStandby = false := by
  simp only [State.isManager, decide_eq_true_eq] at h
  simp [State.isStandby, h]

/-- What the show of an open run leaves in ESC_CTL.RUN and ESC_NEXTEC. -/
theorem fld_escSync {s : State} (h : s.isStandby = false) :
    s.escSync.fld ESC_CTL_RUN = (if s.esc.runOpen then 1 else 0) ∧
    s.escSync.fld ESC_STATUS_ENDING = (if s.esc.stopReq then 1 else 0) ∧
    s.escSync.fld ESC_NEXTECLO_VALUE = (if s.esc.runOpen then s.esc.ec else 0) % 2 ^ 32 := by
  have hb (b : Bool) : (if b then 1 else 0) % 2 = if b then 1 else 0 := by cases b <;> rfl
  simp only [State.escSync, h, State.setBool]
  refine ⟨?_, ?_, ?_⟩ <;> simp (disch := decide) only [Bool.false_eq_true, if_false, fld_setFld_ne, fld_setFld_same]
  · exact hb _
  · exact hb _
  · exact Nat.mod_mod _ _

theorem pos_escSync (s : State) : s.escSync.pos = s.pos := by
  simp only [State.escSync]; split <;> rfl

theorem tellers_escSync (s : State) : s.escSync.tellers = s.tellers := by
  simp only [State.escSync]; split <;> rfl

theorem runOpenAt_spec {s : State} (hm : s.isManager = true) :
    s.runOpenAt.esc = { s.esc with
      runOpen := true, stopReq := false, x := s.origin, ec := s.origin - s.fld ESC_DEFGAP_LINES - s.fld ESC_LEAD_LINES
      prev := none, lastEnd := none, fixed := if s.inRun then s.esc.fixed else some s.geoNow } ∧
    s.runOpenAt.fld ESC_CTL_RUN = 1 ∧
    s.runOpenAt.fld ESC_NEXTECLO_VALUE = (s.origin - s.fld ESC_DEFGAP_LINES - s.fld ESC_LEAD_LINES) % 2 ^ 32 ∧
    s.runOpenAt.wpos = s.wpos ∧ s.runOpenAt.tellers = s.tellers := by
  have hgeo : s.fixGeo = s.setEsc { s.esc with fixed := if s.inRun then s.esc.fixed else some s.geoNow } := by
    rw [State.fixGeo]; split <;> rfl
  have hs : ∀ e : Esc, (s.setEsc e).isStandby = false := fun _ => role_standby_of_manager hm
  rw [State.runOpenAt, hgeo]
  obtain ⟨hrun, -, hec⟩ := fld_escSync (hs { s.esc with
    runOpen := true, stopReq := false, x := s.origin, ec := s.origin - s.fld ESC_DEFGAP_LINES - s.fld ESC_LEAD_LINES
    prev := none, lastEnd := none, fixed := if s.inRun then s.esc.fixed else some s.geoNow })
  exact ⟨esc_escSync _, hrun, hec, congrArg (fun p : Posn => p.out / 2 ^ 24 % 2 ^ 64) (pos_escSync _), tellers_escSync _⟩

theorem run_refused {s : State} (h : s.isManager = false) : s.runStart = s.setFld ESC_STATUS_CFGERR 1 ∧
    s.stopWrite = s.setFld ESC_STATUS_CFGERR 1 ∧ s.escrowClose = s :=
  ⟨if_pos (by simp [h]), if_neg (by simp [h]), if_pos (by simp [h])⟩

theorem stopWrite_spec {s : State} (hm : s.isManager = true) (ho : s.esc.runOpen = true) :
    s.stopWrite.esc = { s.esc with stopReq := true } ∧ s.stopWrite.fld ESC_STATUS_ENDING = 1 ∧
    s.stopWrite.tellers = s.tellers := by
  rw [State.stopWrite, if_pos hm, State.stopRequest, if_pos hm, if_pos ho]
  exact ⟨esc_escSync _, (fld_escSync (s := s.setEsc { s.esc with stopReq := true })
    (role_standby_of_manager hm)).2.1, tellers_escSync _⟩

/-! The commit port (R130). -/

theorem esc_commitAccept (s : State) (d : Desc) (late : Bool) :
    (s.commitAccept d late).esc = { s.esc with ahead := s.esc.ahead ++ [⟨d, none⟩], accepted := true } := by
  have hstands : (s.commitStands d none).esc = { s.esc with ahead := s.esc.ahead ++ [⟨d, none⟩], accepted := true } := by
    simp only [State.commitStands]
    split <;> rfl
  simp only [State.commitAccept]
  split
  · exact hstands
  · rw [esc_escSync]
    split <;> exact hstands

theorem teller_of_seen {s u : State} (h : u.seen = s.seen) (t : Nat) :
    (u.teller t).wait = (s.teller t).wait ∧ (u.teller t).pc = (s.teller t).pc := by
  have ht : (u.teller t).sansSignals = (s.teller t).sansSignals := congrFun (congrArg Seen.tellers h) t
  exact ⟨(congrArg Teller.wait ht :), (congrArg Teller.pc ht :)⟩

theorem wait_answer (s : State) (t rd st c : Nat) : ((s.answer t rd st c).teller t).wait = (s.teller t).wait := by
  rw [State.answer, teller_mapTeller_same]
  show ((s.teller t).setG rd _).wait = _
  rw [Teller.setG]
  split <;> rfl

theorem esc_shadowed (s : State) (t st : Nat) (data : List Byte) : (s.shadowed t st data).esc = s.esc := by
  rw [State.shadowed]
  exact (esc_of_quiet (quiet_mirrorSend ..)).trans rfl

/-- The answer to a teller at the commit port. -/
theorem portTeller_spec {s : State} {t rd : Nat} {bs : List Byte} (hw : (s.teller t).wait = .port) :
    (s.portTeller t rd bs).esc.port = s.esc.port ∧
    (s.portTeller t rd bs).esc.ahead =
      (if s.commitCheck bs = 0 then s.esc.ahead ++ [⟨Desc.ofBytes bs, none⟩] else s.esc.ahead) ∧
    (rd ≠ 0 → ((s.portTeller t rd bs).teller t).getG rd =
      BitVec.ofNat 32 (if s.commitCheck bs = 0 ∧ s.commitLate = true then 1 else s.commitCheck bs)) ∧
    ((s.portTeller t rd bs).teller t).wait = .none ∧ ((s.portTeller t rd bs).teller t).pc = (s.teller t).pc + 4 := by
  obtain ⟨st', hst'⟩ : ∃ st', st' = if s.commitCheck bs = 0 ∧ s.commitLate = true then 1 else s.commitCheck bs := ⟨_, rfl⟩
  obtain ⟨s1, hs1⟩ : ∃ s1, s1 = (s.shadowed t st' []).mapTeller t fun x => { x with wait := .none } := ⟨_, rfl⟩
  obtain ⟨s2, hs2⟩ : ∃ s2, s2 = if s.commitCheck bs = 0 then s1.commitAccept (Desc.ofBytes bs) s.commitLate else s1 := ⟨_, rfl⟩
  have hport : s.portTeller t rd bs = if ((s2.answer t rd st' 40).teller t).stopReq then
      (s2.answer t rd st' 40).mapTeller t fun x => { x with st := .halted, stopReq := false }
    else s2.answer t rd st' 40 := by
    rw [State.portTeller, if_pos hw, hs2, hs1, hst']; rfl
  have hesc1 : s1.esc = s.esc := by
    rw [hs1]; exact esc_shadowed ..
  have hesc2 : s2.esc.port = s.esc.port ∧ s2.esc.ahead =
      if s.commitCheck bs = 0 then s.esc.ahead ++ [⟨Desc.ofBytes bs, none⟩] else s.esc.ahead := by
    rw [hs2]
    split
    · rw [esc_commitAccept, hesc1]; exact ⟨rfl, rfl⟩
    · rw [hesc1]; exact ⟨rfl, rfl⟩
  have hseen : s2.seen = s1.seen := by
    rw [hs2]; split
    · exact seen_commitAccept ..
    · rfl
  have ht1 : (s1.teller t).wait = .none ∧ (s1.teller t).pc = (s.teller t).pc := by
    rw [hs1, teller_mapTeller_same]; exact ⟨rfl, pc_shadowed ..⟩
  obtain ⟨hwait, hpc⟩ := teller_of_seen hseen t
  obtain ⟨hg, hpc'⟩ := teller_answer s2 t rd st' 40
  have hw' : ((s2.answer t rd st' 40).teller t).wait = .none := (wait_answer ..).trans (hwait.trans ht1.1)
  have hpc'' : ((s2.answer t rd st' 40).teller t).pc = (s.teller t).pc + 4 := by rw [hpc', hpc, ht1.2]
  rw [hport, ← hst']
  split
  · refine ⟨hesc2.1, hesc2.2, ?_, ?_, ?_⟩ <;> rw [teller_mapTeller_same]
    exacts [hg, hw', hpc'']
  · exact ⟨hesc2.1, hesc2.2, hg, hw', hpc''⟩

/-- The oldest command of a mailbox stays as closes are made. -/
theorem mbOldest_of_closePath {s u : State} (h : ClosePath s u) (a : Nat) : u.mbOldest a = s.mbOldest a := by
  have hf {f : Field} (hn : ¬ noticeKey f.key) (hk : 0x410000 * 32 ≤ f.key) : u.flag f = s.flag f :=
    flag_of_fld (h.fld f hn hk)
  have hgo : ¬ noticeKey (MBCTL_GO a).key ∧ ¬ noticeKey (MBCTL_TAKEN a).key := by
    constructor <;> rintro (h | h | ⟨v, h⟩ | ⟨a, h | h | h | h⟩) <;>
      simp only [Field.key, MBCTL_GO, MBCTL_TAKEN, FLT_MSEQ_MSEQ, FLT_STBYDROP_COUNT, MSIX_PBA_PENDING, EVQ_TAIL_TAIL,
        EVQ_PEND_HELD, EVQ_PEND_LOSTPEND, EVQ_DROP_DROP] at h <;> omega
  have hhigh : 0x410000 * 32 ≤ (MBCTL_GO a).key ∧ 0x410000 * 32 ≤ (MBCTL_TAKEN a).key := by
    simp only [Field.key, MBCTL_GO, MBCTL_TAKEN]; omega
  simp only [State.mbOldest, State.mbTaken, h.mbCmd, hf hgo.1 hhigh.1, hf hgo.2 hhigh.2]

/-- The front of the commit port is answered after the closes that are due. -/
theorem execCommitAccept_cons {s : State} (hon : s.isOff = false) {who : Option Nat} {x : Nat} {bs : List Byte}
    {rest : List (Option Nat × Nat × List Byte)} (hp : s.esc.port = (who, x, bs) :: rest) :
    exec .commitAccept s = .next (match who with
      | some t => ((s.closesDue 64).setEsc { (s.closesDue 64).esc with port := rest }).portTeller t x bs
      | none => ((s.closesDue 64).setEsc { (s.closesDue 64).esc with port := rest }).portHost x bs) := by
  refine (next_on hon).trans (congrArg Host.Outcome.next ?_)
  cases who <;> simp only [hp]

/-! The close record (R132). -/

theorem closeRec_place (s : State) : s.closeRec.slot = s.fld ESC_NEXTSLOT_VALUE ∧ s.closeRec.x = s.esc.x ∧
    s.closeRec.ec = s.esc.ec := by
  simp only [State.closeRec]
  repeat' split
  all_goals exact ⟨rfl, rfl, rfl⟩

theorem closeRec_frame {s : State} {d : Desc} {rest : List Waiting} (h : s.esc.ahead = ⟨d, none⟩ :: rest) :
    s.closeRec.kind = 1 ∧ s.closeRec.desc = d := by
  simp [State.closeRec, h]

theorem closeRec_damaged {s : State} {d : Desc} {i : Nat} {rest : List Waiting} (h : s.esc.ahead = ⟨d, some i⟩ :: rest) :
    s.closeRec.kind = 3 ∧ s.closeRec.reason = 11 := by
  simp [State.closeRec, h, rsDescecc]

theorem closeRec_first {s : State} (h : s.esc.ahead = []) (hp : s.esc.prev = none) :
    s.closeRec.kind = 3 ∧ s.closeRec.reason = 1 := by
  simp [State.closeRec, h, hp, rsEmpty]

theorem closeRec_repeat {s : State} {k : Nat} {d : Desc} (h : s.esc.ahead = []) (hp : s.esc.prev = some (k, d))
    (hf : s.fallback = 2) (hd : d.repeatable = true) (hk : k ≠ 3) : s.closeRec.kind = 2 ∧ s.closeRec.desc = d := by
  simp [State.closeRec, h, hp, hf, hd, hk]

/-- A close takes the front of escrow, if anything waits there. -/
theorem closeRec_takes (s : State) : (if s.closeRec.kind = 1 ∨ s.closeRec.reason = rsDescecc then s.esc.ahead.drop 1 else s.esc.ahead) =
    s.esc.ahead.drop 1 := by
  match ha : s.esc.ahead with
  | [] => exact ite_self _
  | ⟨d, none⟩ :: rest => exact if_pos (.inl (closeRec_frame ha).1)
  | ⟨d, some i⟩ :: rest => exact if_pos (.inr (closeRec_damaged ha).2)

theorem escrowClose_fills_spec {s : State} (hdue : s.isManager = true ∧ s.esc.runOpen = true ∧ s.esc.ec * 2 ^ 16 ≤ s.wpos)
    (hstop : s.esc.stopReq = false) :
    s.escrowClose.esc.runOpen = true ∧ s.escrowClose.esc.ahead = s.esc.ahead.drop 1 ∧
    s.escrowClose.esc.x = s.closeRec.x + s.closeRec.desc.length + s.closeRec.desc.gap ∧
    s.escrowClose.esc.ec = s.closeRec.x + s.closeRec.desc.length - s.fld ESC_LEAD_LINES ∧
    s.escrowClose.fld ESC_NEXTSLOT_VALUE = (s.closeRec.slot + 1) % 2 ^ 32 := by
  have hnotice : ¬ noticeKey ESC_NEXTSLOT_VALUE.key ∧ ¬ noticeKey ESC_LEAD_LINES.key :=
    ⟨not_noticeKey_of_esc (by decide), not_noticeKey_of_esc (by decide)⟩
  have hsent {f : Field} (hn : ¬ noticeKey f.key) : s.closeSent.fld f = s.fld f :=
    (fld_ringBoth ..).trans (fld_mirrorSend_exact s hn ..)
  have hesc : s.closeSent.esc = s.esc :=
    (esc_of_quiet (quiet_ringBoth ..)).trans (esc_of_quiet (quiet_mirrorSend ..))
  obtain ⟨hopen, hahead, hx, hec, -⟩ := esc_closeApply s.closeSent s.closeRec
  have hv := escrowClose_fills hdue hstop
  refine ⟨hv.runOpen.trans hopen, (hv.ahead.trans hahead).trans ?_, hv.x.trans hx, (hv.ec.trans hec).trans ?_, ?_⟩
  · rw [hesc]; exact closeRec_takes s
  · rw [hsent hnotice.2]
  · rw [hv.fld _ hnotice.1 fun h => h.2.2.1 rfl]
    exact nextslot_closeApply _ _ ((hsent hnotice.1).trans (closeRec_place s).1.symm)

theorem endRun_spec (s : State) : s.endRun.esc.runOpen = false ∧ s.endRun.esc.stopReq = false ∧
    s.endRun.esc.ahead = s.esc.ahead ∧ s.endRun.fld ESC_ENDPOSLO_LINE = s.esc.lastEnd.getD s.esc.ec % 2 ^ 32 := by
  have hesc : (s.ringBoth none (.endrun (s.fld ESC_NEXTSLOT_VALUE) s.esc.ec)).esc = s.esc := esc_of_quiet (quiet_ringBoth ..)
  have hfld (u : State) : u.escSync.fld ESC_ENDPOSLO_LINE = u.fld ESC_ENDPOSLO_LINE :=
    (voidPath_escSync u).fld _ (not_noticeKey_of_esc (by decide)) fun h => h.2.2.2 rfl
  simp only [State.endRun, esc_escSync, hfld]
  refine ⟨rfl, rfl, ?_, ?_⟩
  · exact (congrArg Esc.ahead hesc :)
  · refine (fld_setFld_ne _ _ (by decide)).trans ((fld_setFld_same _ _ _).trans ?_)
    exact Nat.mod_mod _ _

section Commands

variable {s : State} (hon : s.isOff = false)
include hon

theorem exec_run_on : exec .run s = .next s.runStart := next_on hon

theorem exec_stop_on : exec .stop s = .next s.stopWrite := next_on hon

theorem exec_escrowClose_on : exec .escrowClose s = .next s.escrowClose := next_on hon

end Commands

theorem runStart_refused {s : State} (hm : s.isManager = true) (ho : s.esc.runOpen = false) (h : s.runRefused = true) :
    s.runStart = s.setFld ESC_STATUS_CFGERR 1 := by
  rw [State.runStart, if_neg (not_not.2 hm), if_neg (by simp [ho]), if_pos h]
  rfl

theorem runStart_opens {s : State} (hm : s.isManager = true) (ho : s.esc.runOpen = false) (h : ¬ s.runRefused = true) :
    s.runStart = s.runOpenAt := by
  rw [State.runStart, if_neg (not_not.2 hm), if_neg (by simp [ho]), if_neg h]

theorem runStart_open {s : State} (hm : s.isManager = true) (ho : s.esc.runOpen = true) : s.runStart = s := by
  rw [State.runStart, if_neg (not_not.2 hm), if_pos ho]

/-- No close is due, whatever the bound. -/
theorem closesDue_of_not_due {s : State} (h : ¬ (s.isManager = true ∧ s.esc.runOpen = true ∧ s.esc.ec * 2 ^ 16 ≤ s.wpos)) :
    ∀ n, s.closesDue n = s
  | 0 => rfl
  | n + 1 => by rw [State.closesDue, if_neg h]

theorem not_due {s : State} (h : s.isManager = false ∨ s.esc.runOpen = false ∨ s.wpos < s.esc.ec * 2 ^ 16) :
    ¬ (s.isManager = true ∧ s.esc.runOpen = true ∧ s.esc.ec * 2 ^ 16 ≤ s.wpos) := by
  rintro ⟨hm, ho, hle⟩
  rcases h with h | h | h
  · simp [hm] at h
  · simp [ho] at h
  · exact Nat.not_le.2 h hle

theorem execCommitAccept_nil {s : State} (hon : s.isOff = false) (hp : s.esc.port = []) : exec .commitAccept s = .next s := by
  refine (next_on hon).trans (congrArg Host.Outcome.next ?_)
  simp only [hp]

/-- A mailbox command at the front of the commit port. -/
theorem execCommitAccept_host {s : State} (hon : s.isOff = false) {a : Nat} {bs : List Byte} {ws : List Nat}
    {rest : List (Option Nat × Nat × List Byte)} (hp : s.esc.port = (none, a, bs) :: rest)
    (hmb : s.mbOldest a = some (4, ws)) {u : State} (hu : u = s.closesDue 64) :
    exec .commitAccept s = .next ({ u with esc := { u.esc with port := rest } }.mbDo a 4 ws
      [if u.commitCheck bs = 0 ∧ u.commitLate = true then 1 else u.commitCheck bs]) := by
  have hmb' : (u.setEsc { u.esc with port := rest }).mbOldest a = some (4, ws) := by
    rw [hu]
    exact (mbOldest_of_closePath (closePath_closesDue 64 s) a).trans hmb
  refine (execCommitAccept_cons hon hp).trans (congrArg Host.Outcome.next ?_)
  rw [← hu]
  simp only [State.portHost, hmb', ne_eq, not_true_eq_false, if_false]
  have hc : (u.setEsc { u.esc with port := rest }).commitCheck bs = u.commitCheck bs := by
    rw [State.commitCheck, State.commitCheck]; rfl
  have hl : (u.setEsc { u.esc with port := rest }).commitLate = u.commitLate := by
    rw [State.commitLate, State.commitLate]; rfl
  rw [hc, hl, stOk, stLate, State.setEsc]

/-- A teller's commit at the front of the commit port. -/
theorem execCommitAccept_teller {s : State} (hon : s.isOff = false) {t rd : Nat} {bs : List Byte}
    {rest : List (Option Nat × Nat × List Byte)} (hp : s.esc.port = (some t, rd, bs) :: rest)
    (hw : (s.teller t).wait = .port) {u : State} (hu : u = s.closesDue 64) :
    ∃ s', exec .commitAccept s = .next s' ∧ s'.esc.port = rest ∧
      s'.esc.ahead = (if u.commitCheck bs = 0 then u.esc.ahead ++ [⟨Desc.ofBytes bs, none⟩] else u.esc.ahead) ∧
      (rd ≠ 0 → (s'.teller t).getG rd =
        BitVec.ofNat 32 (if u.commitCheck bs = 0 ∧ u.commitLate = true then 1 else u.commitCheck bs)) ∧
      (s'.teller t).wait = .none ∧ (s'.teller t).pc = (s.teller t).pc + 4 := by
  obtain ⟨hwait, hpc⟩ := teller_of_seen (closePath_closesDue 64 s).seen t
  rw [← hu] at hwait hpc
  obtain ⟨hp1, ha1, hg1, hw1, hpc1⟩ :=
    portTeller_spec (s := u.setEsc { u.esc with port := rest }) (rd := rd) (bs := bs) (hwait.trans hw)
  refine ⟨_, (execCommitAccept_cons hon hp).trans (by rw [← hu]), hp1, ha1, hg1, hw1, hpc1.trans ?_⟩
  exact congrArg (· + 4) hpc

/-- Settles O37: closes leave the tellers, the mailbox and the commit port alone, and voids the course of the run. -/
theorem escrowRun : Obligations.EscrowRun := by
  intro s hon
  obtain ⟨u, hu⟩ : ∃ u, u = s.closesDue 64 := ⟨_, rfl⟩
  dsimp only
  rw [← hu]
  refine ⟨fun hm => ?_, fun hm ho href => ?_, fun hm ho href => ?_, fun hm ho => ?_, execCommitAccept_nil hon, fun h => ?_,
    fun t rd bs rest hp hw _ => execCommitAccept_teller hon hp hw hu,
    fun a bs ws rest hp hmb => execCommitAccept_host hon hp hmb hu, fun hm ho hlt => ?_, fun hm ho hle hst => ?_,
    fun hm ho hle hst => ?_⟩
  · obtain ⟨hrun, hstop, hclose⟩ := run_refused hm
    exact ⟨(exec_run_on hon).trans (congrArg Host.Outcome.next hrun), (exec_stop_on hon).trans (congrArg Host.Outcome.next hstop),
      (exec_escrowClose_on hon).trans (congrArg Host.Outcome.next hclose)⟩
  · exact (exec_run_on hon).trans (congrArg Host.Outcome.next (runStart_refused hm ho ((runRefused_iff s).2 href)))
  · exact ⟨s.runOpenAt, (exec_run_on hon).trans (congrArg Host.Outcome.next (runStart_opens hm ho fun h =>
      href ((runRefused_iff s).1 h))), runOpenAt_spec hm⟩
  · exact ⟨(exec_run_on hon).trans (congrArg Host.Outcome.next (runStart_open hm ho)), s.stopWrite, exec_stop_on hon,
      stopWrite_spec hm ho⟩
  · rw [hu]
    exact closesDue_of_not_due (not_due h) 64
  · exact (exec_escrowClose_on hon).trans (congrArg Host.Outcome.next (if_pos (not_due (.inr (.inr hlt)))))
  · obtain ⟨hopen, hreq, hahead, hend⟩ := endRun_spec s
    exact ⟨s.endRun, (exec_escrowClose_on hon).trans (congrArg Host.Outcome.next (escrowClose_stop ⟨hm, ho, hle⟩ hst)),
      hopen, hreq, hahead, hend⟩
  · obtain ⟨hslot, hx, hec⟩ := closeRec_place s
    exact ⟨⟨s.escrowClose, exec_escrowClose_on hon, escrowClose_fills_spec ⟨hm, ho, hle⟩ hst⟩, hslot, hx, hec,
      fun d rest h => closeRec_frame h, fun d i rest h => closeRec_damaged h, closeRec_first,
      fun k d h hp hf hd hk => closeRec_repeat h hp hf hd hk⟩

end Sys2Proof.Machine

namespace Sys2Proof.Machine

/-! The wall-time timers (R51, R52). -/

theorem fbit_clrFbit (s : State) (f : Field) (i k : Nat) :
    (s.clrFbit f i).fbit f k = (decide (k < f.width) && (s.fbit f k && decide (k ≠ i))) := by
  rw [State.fbit, State.clrFbit, fld_setFld_same, Nat.testBit_mod_two_pow, Nat.testBit_xor, Nat.testBit_and,
    Nat.testBit_two_pow]
  cases h : s.fbit f k <;> rw [State.fbit] at h <;> rw [h] <;> by_cases hk : i = k <;> simp [hk, Ne.symm]

/-- What firing a timer leaves of the registers. -/
theorem fld_timerFire (s : State) (n : Nat) {f : Field} (ha : f.key ≠ CLD_TMRCTL_ARM.key) (hf : f.key ≠ CLD_TMRCTL_FIRED.key) :
    (s.timerFire n).fld f = s.fld f := by
  have hset : ((s.clrFbit CLD_TMRCTL_ARM n).setFbit CLD_TMRCTL_FIRED n).fld f = s.fld f :=
    (fld_setFld_ne _ _ hf).trans (fld_setFld_ne _ _ ha)
  simp only [State.timerFire]
  split
  · exact hset
  · exact hset

theorem quiet_timerFire (s : State) (n : Nat) : (s.timerFire n).quiet = s.quiet := by
  simp only [State.timerFire]
  split <;> simp

theorem time_of_quiet {s u : State} (h : u.quiet = s.quiet) : u.time = s.time := node_of_quiet h State.time

theorem timerArmed_timerFire (s : State) (n k : Nat) :
    (s.timerFire n).timerArmed k = (decide (k < 8) && (s.timerArmed k && decide (k ≠ n))) := by
  have hset : ((s.clrFbit CLD_TMRCTL_ARM n).setFbit CLD_TMRCTL_FIRED n).timerArmed k =
      (decide (k < 8) && (s.timerArmed k && decide (k ≠ n))) :=
    (congrArg (Nat.testBit · k) (fld_setFld_ne _ _ (by decide))).trans (fbit_clrFbit s CLD_TMRCTL_ARM n k)
  simp only [State.timerFire]
  split
  · exact hset
  · exact hset

theorem wall_timerFire (s : State) (n : Nat) : (s.timerFire n).wall = s.wall := by
  rw [State.wall, time_of_quiet (quiet_timerFire s n)]; rfl

theorem nextDue_none {s : State} : ∀ ns : List Nat, (∀ k ∈ ns, s.timerArmed k = false) → s.nextDue ns = none
  | [], _ => rfl
  | k :: ns, h => by
    rw [State.nextDue, if_neg (by simp [h k])]
    exact nextDue_none ns fun j hj => h j (List.mem_cons_of_mem k hj)

/-- One armed timer that has passed its deadline, and no other armed, is the next due. -/
theorem nextDue_only {s : State} {n : Nat} (hn : s.timerArmed n = true ∧ s.deadline n ≤ s.wall) :
    ∀ ns : List Nat, ns.Nodup → n ∈ ns → (∀ k ∈ ns, k ≠ n → s.timerArmed k = false) → s.nextDue ns = some n
  | k :: ns, hd, hm, h => by
    obtain ⟨hk, hd'⟩ := List.nodup_cons.1 hd
    rw [State.nextDue]
    by_cases hkn : k = n
    · subst hkn
      have hnone : s.nextDue ns = none :=
        nextDue_none ns fun j hj => h j (List.mem_cons_of_mem _ hj) fun e => hk (e ▸ hj)
      simp only [if_pos hn, hnone]
    · rw [if_neg (by simp [h k List.mem_cons_self hkn])]
      exact nextDue_only hn ns hd' (by simpa [Ne.symm hkn] using hm) fun j hj => h j (List.mem_cons_of_mem _ hj)

/-- With one timer armed, and due, it alone fires. -/
theorem fireDue_only {s : State} {n : Nat} (hn : n < 8) (harm : s.timerArmed n = true) (hd : s.deadline n ≤ s.wall)
    (ho : ∀ k, k < 8 → k ≠ n → s.timerArmed k = false) : s.fireDue 8 = s.timerFire n := by
  have hmem {k : Nat} (h : k ∈ [0, 1, 2, 3, 4, 5, 6, 7]) : k < 8 := by
    fin_cases h <;> decide
  have hnext : s.nextDue [0, 1, 2, 3, 4, 5, 6, 7] = some n :=
    nextDue_only ⟨harm, hd⟩ _ (by decide) (by interval_cases n <;> decide) fun k hk => ho k (hmem hk)
  have hafter : (s.timerFire n).nextDue [0, 1, 2, 3, 4, 5, 6, 7] = none := by
    refine nextDue_none _ fun k hk => ?_
    rw [timerArmed_timerFire]
    by_cases hkn : k = n
    · simp [hkn]
    · simp [ho k (hmem hk) hkn]
  rw [State.fireDue, hnext]
  simp only [State.fireDue, hafter]

theorem fld_fireDue {f : Field} (ha : f.key ≠ CLD_TMRCTL_ARM.key) (hf : f.key ≠ CLD_TMRCTL_FIRED.key) (n : Nat) :
    ∀ s : State, (s.fireDue n).fld f = s.fld f := by
  induction n with
  | zero => exact fun _ => rfl
  | succ n ih =>
    intro s
    rw [State.fireDue]
    split
    · exact (ih _).trans (fld_timerFire s _ ha hf)
    · rfl

theorem quiet_fireDue (n : Nat) : ∀ s : State, (s.fireDue n).quiet = s.quiet := by
  induction n with
  | zero => exact fun _ => rfl
  | succ n ih =>
    intro s
    rw [State.fireDue]
    split
    · exact (ih _).trans (quiet_timerFire s _)
    · rfl

/-- What a timer does as it fires. -/
theorem timerFire_spec (s : State) {n : Nat} (hn : n < 8) :
    (s.timerFire n).timerArmed n = false ∧ (s.timerFire n).fbit CLD_TMRCTL_FIRED n = true ∧
    (s.fbit CLD_TMREVEN_EN n = true →
      (((s.timerFire n).teller (s.fld CLD_TMRROUTE_T / 16 ^ n % 16)).tev).getLsbD 21 = true) ∧
    (s.fbit CLD_TMREVEN_EN n = false → (s.timerFire n).tellers = s.tellers) := by
  have hfired : ((s.clrFbit CLD_TMRCTL_ARM n).setFbit CLD_TMRCTL_FIRED n).fbit CLD_TMRCTL_FIRED n = true :=
    fbit_setFbit_same _ hn
  refine ⟨by simp [timerArmed_timerFire], ?_, fun he => ?_, fun he => ?_⟩
  · simp only [State.timerFire]
    split
    · exact hfired
    · exact hfired
  · simp only [State.timerFire, he, if_true, State.setTev, teller_mapTeller_same, tevCld]
    simp
  · simp only [State.timerFire, he, Bool.false_eq_true, if_false]
    rfl

/-! Wall time set, and the second that follows (R53 to R55). -/

theorem stepWall_time (s : State) (sec ns : Nat) :
    (s.stepWall sec ns).time = { s.time with sec := sec % secCycle, ns := ns, quarter := 0, slew := 0 } ∧
    (s.stepWall sec ns).pos = s.pos := by
  have hq : (s.stepWall sec ns).quiet =
      { s with time := { s.time with sec := sec % secCycle, ns := ns, quarter := 0, slew := 0 } }.quiet := by
    simp only [State.stepWall]
    rw [quiet_fireDue, quiet_post, quiet_free, quiet_setOn]
  exact ⟨time_of_quiet hq, node_of_quiet hq State.pos⟩

theorem stepWall_stepped (s : State) (sec ns : Nat) : (s.stepWall sec ns).fld CLD_STATUS_STEPPED = 1 := by
  simp only [State.stepWall]
  rw [fld_fireDue (by decide) (by decide), fld_post _ (by rw [eventKey_iff]; decide)]
  exact fld_setFld_same _ CLD_STATUS_STEPPED 1

/-- A commit that is accepted. -/
theorem cldAccept_spec (s : State) (sec ns : Nat) :
    (s.cldAccept sec ns).time.ns = ns ∧ (s.cldAccept sec ns).time.sec = sec % secCycle ∧
    (s.cldAccept sec ns).fld CLD_STATUS_SRC = 1 ∧ (s.cldAccept sec ns).fld CLD_STATUS_STEPPED = 1 ∧
    (s.cldAccept sec ns).wpos = s.wpos := by
  obtain ⟨u, hu, hpos⟩ : ∃ u : State, u.pos = s.pos ∧
      s.cldAccept sec ns = { ((u.stepWall sec ns).setFld CLD_STATUS_SRC 1).setOff CLD_STATUS_PTPRUN with
        time := { (u.stepWall sec ns).time with commitAt := some (u.stepWall sec ns).time.cycles, wrapAt := none } } := by
    rw [State.cldAccept]
    split
    · exact ⟨s.setOff CLD_STATUS_WRAP, rfl, rfl⟩
    · exact ⟨s, rfl, rfl⟩
  obtain ⟨htime, hwpos⟩ := stepWall_time u sec ns
  rw [hpos]
  refine ⟨by simp only [htime], by simp only [htime], ?_, ?_, ?_⟩
  · exact (fld_setFld_ne _ _ (by decide)).trans (fld_setFld_same _ CLD_STATUS_SRC 1)
  · exact (fld_setFld_ne _ _ (by decide)).trans ((fld_setFld_ne _ _ (by decide)).trans (stepWall_stepped u sec ns))
  · exact congrArg (fun p : Posn => p.out / 2 ^ 24 % 2 ^ 64) (hwpos.trans hu)

theorem nextSecond_spec {s : State} (h : s.time.commitAt ≠ some s.time.cycles) :
    (s.nextSecond 0).time.ns = 0 ∧
    (s.nextSecond 0).time.sec = (if s.time.sec + 1 < secCycle then s.time.sec + 1 else 0) ∧
    (secCycle ≤ s.time.sec + 1 → (s.nextSecond 0).fld CLD_STATUS_WRAP = 1) ∧
    (s.time.sec + 1 < secCycle → (s.nextSecond 0).fld CLD_STATUS_WRAP = s.fld CLD_STATUS_WRAP) := by
  rw [State.nextSecond, if_neg h]
  by_cases hw : secCycle ≤ s.time.sec + 1
  · have hlt : ¬ s.time.sec + 1 < secCycle := Nat.not_lt.2 hw
    simp only [ge_iff_le, hw, decide_true, if_true, hlt, if_false, false_implies, and_true]
    exact ⟨rfl, rfl, fun _ => fld_setFld_same _ CLD_STATUS_WRAP 1⟩
  · have hlt : s.time.sec + 1 < secCycle := Nat.lt_of_not_le hw
    simp only [ge_iff_le, hw, decide_false, Bool.false_eq_true, if_false, hlt, if_true, false_implies, true_and]
    exact fun _ => rfl

theorem dateOk_iff (y m d hh mm ss ns : Nat) : dateOk y m d hh mm ss ns = true ↔
    2000 ≤ y ∧ y ≤ 2399 ∧ 1 ≤ m ∧ m ≤ 12 ∧ 1 ≤ d ∧ d ≤ monthLen y m ∧ hh < 24 ∧ mm < 60 ∧ ss < 60 ∧ ns < 1000000000 := by
  simp only [dateOk, Bool.and_eq_true, decide_eq_true_eq, and_assoc]

/-- The dates on either side of 2100-02-28, of the first leap day, and of the end of the cycle. -/
theorem dateOf_boundaries : dateOf 36583 = (2100, 2, 7, 28) ∧ dateOf 36584 = (2100, 3, 1, 1) ∧ dateOf 59 = (2000, 2, 2, 29) ∧
    dateOf 146096 = (2399, 12, 5, 31) ∧ dateOf 0 = (2000, 1, 6, 1) ∧ secCycle = 146097 * 86400 := by
  refine ⟨by decide, by decide, by decide, by decide, by decide, rfl⟩

/-! PTP (R49, R353). -/

theorem ptpStop_tracking {s : State} (h : s.fld CLD_STATUS_SRC = 2) :
    s.ptpStop.fld CLD_STATUS_SRC = 1 ∧ s.ptpStop.time.sec = s.time.sec ∧ s.ptpStop.time.ns = s.time.ns := by
  rw [State.ptpStop, if_pos h]
  exact ⟨(fld_setFld_ne _ _ (by decide)).trans (fld_setFld_same _ CLD_STATUS_SRC 1), rfl, rfl⟩

section Ptp

variable {s : State} (hon : s.isOff = false)
include hon

theorem execPtp_idle (h : s.flag PTP_CFG_EN = false ∨ s.fld PTP_STAT_STATE = 4) (offset : Int) (mpd : Nat) :
    exec (.ptpSync offset mpd) s = .next s ∧ exec .ptpSyncLoss s = .next s := by
  constructor
  · exact (next_on hon).trans (congrArg Host.Outcome.next (if_pos (by simpa using h)))
  · exact (next_on hon).trans (congrArg Host.Outcome.next (if_neg (by rcases h with h | h <;> simp [h])))

variable (hen : s.flag PTP_CFG_EN = true) (hst : s.fld PTP_STAT_STATE ≠ 4)
include hen hst

/-- A Sync interval while another source gives wall time. -/
theorem execPtpSync_acquiring (hsrc : s.fld CLD_STATUS_SRC ≠ 2) (offset : Int) (mpd : Nat) :
    ∃ s', exec (.ptpSync offset mpd) s = .next s' ∧ s'.fld PTP_MPD_NS = mpd % 2 ^ 32 ∧
      (offset.natAbs ≤ 1000 → 7 ≤ s.time.goodSyncs → s'.fld CLD_STATUS_SRC = 2) ∧
      (1000 < offset.natAbs ∨ s.time.goodSyncs < 7 → s'.fld CLD_STATUS_SRC = s.fld CLD_STATUS_SRC) := by
  let n := if decide (offset.natAbs ≤ 1000) = true then s.time.goodSyncs + 1 else 0
  let s2 : State := { (s.setFld PTP_OFFSET_NS (toTwos 32 offset)).setFld PTP_MPD_NS mpd with
    time := { s.time with goodSyncs := n } }
  have hmpd : s2.fld PTP_MPD_NS = mpd % 2 ^ 32 := fld_setFld_same _ PTP_MPD_NS mpd
  have hsrc2 : s2.fld CLD_STATUS_SRC = s.fld CLD_STATUS_SRC :=
    (fld_setFld_ne (s.setFld PTP_OFFSET_NS _) _ (by decide)).trans (fld_setFld_ne s _ (by decide))
  have hexec : exec (.ptpSync offset mpd) s = .next (
      if n ≥ 8 then ((s2.setFld CLD_STATUS_SRC 2).setOff CLD_STATUS_PTPRUN).setFld PTP_STAT_STATE 3
      else s2.setFld PTP_STAT_STATE 2) := by
    refine (next_on hon).trans (congrArg Host.Outcome.next ?_)
    rw [if_neg (by simp [hen, hst])]
    exact if_neg fun h => hsrc (hsrc2.symm.trans h)
  refine ⟨_, hexec, ?_, fun hg h7 => ?_, fun h => ?_⟩
  · split
    · rw [fld_setFld_ne _ _ (by decide), State.setOff, fld_setFld_ne _ _ (by decide), fld_setFld_ne _ _ (by decide), hmpd]
    · rw [fld_setFld_ne _ _ (by decide), hmpd]
  · have hn : n ≥ 8 := by
      simp only [n, hg, decide_true, if_true]
      omega
    rw [if_pos hn, fld_setFld_ne _ _ (by decide), State.setOff, fld_setFld_ne _ _ (by decide)]
    exact fld_setFld_same _ CLD_STATUS_SRC 2
  · have hn : ¬ n ≥ 8 := by
      simp only [n, decide_eq_true_eq]
      split <;> omega
    rw [if_neg hn, fld_setFld_ne _ _ (by decide), hsrc2]

variable (hsrc : s.fld CLD_STATUS_SRC = 2)
include hsrc

theorem execPtpSync_slews (offset : Int) (mpd : Nat) (h : offset.natAbs ≤ 1000000) :
    ∃ s', exec (.ptpSync offset mpd) s = .next s' ∧ s'.time.slew = -offset ∧ s'.time.sec = s.time.sec ∧
      s'.time.ns = s.time.ns := by
  let n := if decide (offset.natAbs ≤ 1000) = true then s.time.goodSyncs + 1 else 0
  let s2 : State := { (s.setFld PTP_OFFSET_NS (toTwos 32 offset)).setFld PTP_MPD_NS mpd with
    time := { s.time with goodSyncs := n } }
  have hsrc2 : s2.fld CLD_STATUS_SRC = 2 :=
    (fld_setFld_ne (s.setFld PTP_OFFSET_NS _) _ (by decide)).trans ((fld_setFld_ne s _ (by decide)).trans hsrc)
  refine ⟨{ s2 with time := { s2.time with slew := -offset } }, ?_, rfl, rfl, rfl⟩
  refine (next_on hon).trans (congrArg Host.Outcome.next ?_)
  rw [if_neg (by simp [hen, hst])]
  exact (if_pos hsrc2).trans (if_pos h)

theorem execPtpSyncLoss_tracking : ∃ s', exec .ptpSyncLoss s = .next s' ∧ s'.fld CLD_STATUS_SRC = 1 ∧
    s'.srcSet 20 0 = true ∧ s'.time.sec = s.time.sec ∧ s'.time.ns = s.time.ns := by
  obtain ⟨u, hu⟩ : ∃ u, u = ({ s.ptpStop with time := { s.ptpStop.time with ptpBest := none } } : State).setFld PTP_STAT_STATE 1 :=
    ⟨_, rfl⟩
  obtain ⟨hstop, hsec, hns⟩ := ptpStop_tracking hsrc
  have htime : (u.raise 20 0).time = u.time := time_of_quiet (quiet_raise ..)
  have husrc : (u.raise 20 0).fld CLD_STATUS_SRC = 1 := by
    rw [fld_raise _ (by simp only [raiseKey, eventKey_iff]; decide), hu]
    exact (fld_setFld_ne _ _ (by decide)).trans hstop
  have hset : (u.raise 20 0).srcSet 20 0 = true := srcSet_raise rfl (by simp [State.dormantMute])
  have hmaster (w : State) : (w.setFld PTP_STAT_STATE 4).fld CLD_STATUS_SRC = w.fld CLD_STATUS_SRC ∧
      (w.setFld PTP_STAT_STATE 4).srcSet 20 0 = w.srcSet 20 0 :=
    ⟨fld_setFld_ne _ _ (by decide), srcSet_of_fld (fld_setFld_ne _ _ (by decide))⟩
  have hexec : exec .ptpSyncLoss s = .next (if (u.raise 20 0).ptpMaster then (u.raise 20 0).setFld PTP_STAT_STATE 4
      else u.raise 20 0) := by
    refine (next_on hon).trans (congrArg Host.Outcome.next ?_)
    rw [if_pos ⟨hen, hst⟩]
    simp only [if_pos hsrc, hu]
  refine ⟨_, hexec, ?_⟩
  rw [← hsec, ← hns]
  split
  · refine ⟨(hmaster _).1.trans husrc, (hmaster _).2.trans hset, ?_, ?_⟩
    · exact (congrArg Time.sec htime).trans (by rw [hu]; rfl)
    · exact (congrArg Time.ns htime).trans (by rw [hu]; rfl)
  · refine ⟨husrc, hset, ?_, ?_⟩
    · exact (congrArg Time.sec htime).trans (by rw [hu]; rfl)
    · exact (congrArg Time.ns htime).trans (by rw [hu]; rfl)

end Ptp

/-! Commands. -/

section Commands

variable {s : State} (hon : s.isOff = false)
include hon

theorem execCldCommit_on : exec .cldCommit s = .next s.cldCommit := next_on hon

theorem execSecondRollover_on : exec .secondRollover s = .next (s.nextSecond 0) := next_on hon

variable {n : Nat} (hn : n < 8)
include hn

theorem execCldTimerArm_on : exec (.cldTimerArm n) s = .next (s.timerArm n) :=
  (next_on hon).trans (congrArg Host.Outcome.next (if_pos hn))

theorem execCldTimerDisarm_on : exec (.cldTimerDisarm n) s = .next (s.clrFbit CLD_TMRCTL_ARM n) :=
  (next_on hon).trans (congrArg Host.Outcome.next (if_pos hn))

theorem execWallTimerFire_armed (h : s.timerArmed n = true) : exec (.wallTimerFire n) s = .next
    ((if s.wall < s.deadline n ∧ s.deadline n < secCycle * 1000000000 then
      { s with time := { s.time with
          sec := s.deadline n / 1000000000 % secCycle, ns := s.deadline n % 1000000000, quarter := 0 } }
      else s).fireDue 8) :=
  (next_on hon).trans (congrArg Host.Outcome.next (if_pos ⟨hn, h⟩))

omit hn in
theorem execWallTimerFire_idle (h : s.timerArmed n = false) : exec (.wallTimerFire n) s = .next s :=
  (next_on hon).trans (congrArg Host.Outcome.next (if_neg (by simp [h])))

end Commands

/-- A timer's deadline does not move as it is armed. -/
theorem deadline_setArm (s : State) {n : Nat} (hn : n < 8) (v : Nat) : (s.setFld CLD_TMRCTL_ARM v).deadline n = s.deadline n := by
  have hhi : (CLD_TMRHI_DL n).key ≠ CLD_TMRCTL_ARM.key := by
    simp only [Field.key, CLD_TMRHI_DL, CLD_TMRCTL_ARM]; omega
  have hlo : (CLD_TMRLO_DL n).key ≠ CLD_TMRCTL_ARM.key := by
    simp only [Field.key, CLD_TMRLO_DL, CLD_TMRCTL_ARM]; omega
  rw [State.deadline, fld_setFld_ne _ _ hhi, fld_setFld_ne _ _ hlo]; rfl

theorem timerArm_eq {s : State} {n : Nat} (hn : n < 8) : s.timerArm n =
    if s.deadline n ≤ s.wall then (s.setFbit CLD_TMRCTL_ARM n).timerFire n else s.setFbit CLD_TMRCTL_ARM n := by
  rw [State.timerArm, if_pos hn]
  exact if_congr (by rw [State.setFbit, deadline_setArm s hn]; rfl) rfl rfl

theorem cldCommit_eq (s : State) {good : Bool} (hg : good = dateOk (s.fld CLD_SDATE_YEAR) (s.fld CLD_SDATE_MONTH)
    (s.fld CLD_SDATE_DAY) (s.fld CLD_STIME_HOUR) (s.fld CLD_STIME_MIN) (s.fld CLD_STIME_SEC) (s.fld CLD_SNS_NS)) :
    s.cldCommit =
      if s.fld CLD_STATUS_SRC = 2 then (if good then s else s.setFld CLD_STATUS_BADDATE 1).setFld CLD_STATUS_PTPOWN 1
      else if good then s.cldAccept (secOf (s.fld CLD_SDATE_YEAR) (s.fld CLD_SDATE_MONTH) (s.fld CLD_SDATE_DAY)
        (s.fld CLD_STIME_HOUR) (s.fld CLD_STIME_MIN) (s.fld CLD_STIME_SEC)) (s.fld CLD_SNS_NS)
      else s.setFld CLD_STATUS_BADDATE 1 := by
  rw [hg, State.cldCommit]
  cases dateOk (s.fld CLD_SDATE_YEAR) (s.fld CLD_SDATE_MONTH) (s.fld CLD_SDATE_DAY) (s.fld CLD_STIME_HOUR)
    (s.fld CLD_STIME_MIN) (s.fld CLD_STIME_SEC) (s.fld CLD_SNS_NS) <;> rfl

/-- Settles O43: the commit by its date check, the timers by the next one due, PTP by its interval count. -/
theorem wallTime : Obligations.WallTime := by
  refine ⟨fun s hon => ?_, fun s n offset mpd hon => ?_⟩
  · dsimp only
    obtain ⟨good, hg⟩ : ∃ good, good = dateOk (s.fld CLD_SDATE_YEAR) (s.fld CLD_SDATE_MONTH) (s.fld CLD_SDATE_DAY)
      (s.fld CLD_STIME_HOUR) (s.fld CLD_STIME_MIN) (s.fld CLD_STIME_SEC) (s.fld CLD_SNS_NS) := ⟨_, rfl⟩
    rw [← dateOk_iff, ← hg]
    have hexec := (execCldCommit_on hon).trans (congrArg Host.Outcome.next (cldCommit_eq s hg))
    refine ⟨fun h2 hl => ?_, fun h2 hl => ?_, fun h2 hl => ?_, fun h2 hl => ?_, fun h => ?_, fun h => ?_, dateOf_boundaries⟩
    · rw [hexec, if_pos h2, if_pos hl]
    · rw [hexec, if_pos h2, if_neg hl]
    · rw [hexec, if_neg h2, if_neg hl]
    · rw [if_neg h2, if_pos hl] at hexec
      exact ⟨_, hexec, cldAccept_spec s _ _⟩
    · exact (execSecondRollover_on hon).trans (congrArg Host.Outcome.next (if_pos h))
    · exact ⟨_, execSecondRollover_on hon, nextSecond_spec h⟩
  · dsimp only
    refine ⟨fun hn => ⟨fun hlt => ?_, fun hle => ?_, ?_, execWallTimerFire_idle hon, fun ha hle => ?_, fun ha hlt hc => ?_,
      fun ha hle ho => fireDue_only hn ha hle ho⟩, fun h => execPtp_idle hon h offset mpd, fun hen hst =>
      ⟨fun hsrc => execPtpSync_acquiring hon hen hst hsrc offset mpd, fun hsrc h => execPtpSync_slews hon hen hst hsrc offset mpd h,
        execPtpSyncLoss_tracking hon hen hst⟩⟩
    · exact (execCldTimerArm_on hon hn).trans (congrArg Host.Outcome.next
        ((timerArm_eq hn).trans (if_neg (Nat.not_le.2 hlt))))
    · have heven : (s.setFbit CLD_TMRCTL_ARM n).fbit CLD_TMREVEN_EN n = s.fbit CLD_TMREVEN_EN n :=
        congrArg (Nat.testBit · n) (fld_setFld_ne _ _ (by decide))
      have hroute : (s.setFbit CLD_TMRCTL_ARM n).fld CLD_TMRROUTE_T = s.fld CLD_TMRROUTE_T := fld_setFld_ne _ _ (by decide)
      have hspec := timerFire_spec (s.setFbit CLD_TMRCTL_ARM n) hn
      rw [heven, hroute] at hspec
      exact ⟨_, (execCldTimerArm_on hon hn).trans (congrArg Host.Outcome.next ((timerArm_eq hn).trans (if_pos hle))), hspec⟩
    · refine ⟨_, execCldTimerDisarm_on hon hn, ?_, fun k hk hkn => ?_⟩
      · rw [State.timerArmed, fbit_clrFbit]; simp
      · rw [State.timerArmed, fbit_clrFbit, decide_eq_true hkn, Bool.and_true, decide_eq_true (p := k < CLD_TMRCTL_ARM.width) hk,
          Bool.true_and]
        rfl
    · rw [execWallTimerFire_armed hon hn ha, if_neg fun h => Nat.not_le.2 h.1 hle]
    · have hd : s.deadline n / 1000000000 % secCycle = s.deadline n / 1000000000 :=
        Nat.mod_eq_of_lt (Nat.div_lt_of_lt_mul ((Nat.mul_comm ..).symm ▸ hc))
      rw [execWallTimerFire_armed hon hn ha, if_pos ⟨hlt, hc⟩, hd]
      rfl

end Sys2Proof.Machine

namespace Sys2Proof.Machine

/-! Gate drive (R240, R242). -/

theorem clampN_eq {lo hi : Nat} (h : lo ≤ hi) (v : Nat) : clampN lo hi v = max lo (min hi v) := by
  rw [clampN]
  split
  · omega
  · split <;> omega

/-- A gate's step after a transition, by whether the transition is credited and how its time compares with the target. -/
theorem adaptStep_spec {lo hi step : Nat} (target tol start ns : Nat) (hlo : lo ≤ step) (hhi : step ≤ hi) :
    let k := adaptStep lo hi target tol step start ns
    let credited : Prop := start + ns ≤ 2 * target + 100
    (¬ credited → k = step) ∧ (credited → target + tol < ns → k = min hi (step + 1)) ∧
    (credited → ns + tol < target → k = max lo (step - 1)) ∧
    (ns ≤ target + tol → target ≤ ns + tol → k = step) ∧ lo ≤ k ∧ k ≤ hi := by
  simp only [adaptStep, clampN_eq (Nat.le_trans hlo hhi)]
  split
  · omega
  · split
    · omega
    · split <;> omega

/-- The registers of the gate-drive block past its status words: no source event writes them. -/
def driveReg (f : Field) : Prop := 0x98002C * 32 ≤ f.key ∧ f.key < 0x990000 * 32

theorem not_raiseKey_of_driveReg {f : Field} (h : driveReg f) (src : Nat) : ¬ raiseKey 13 src f.key := by
  obtain ⟨hlo, hhi⟩ := h
  have hfstat : (fstatOf 13 src).key < 0x98002C * 32 := by
    simp only [fstatOf]
    split
    · decide
    · split <;> decide
  rintro (h | h | h | h | h)
  · omega
  · simp only [Field.key, FLT_BLKSTAT_STATE] at h hhi; omega
  · simp only [Field.key, FLT_BLKINC_INCIDENT] at h hhi; omega
  · simp only [Field.key, FLT_INCNEXT_VALUE] at h hhi; omega
  · rw [eventKey_iff] at h; omega

theorem fld_raise_drive (s : State) {f : Field} (h : driveReg f) (src : Nat) : (s.raise 13 src).fld f = s.fld f :=
  fld_raise s (not_raiseKey_of_driveReg h src)

theorem srcSet_raise_drive (s : State) {src : Nat} (h : sourceOk 13 src = true) : (s.raise 13 src).srcSet 13 src = true :=
  srcSet_raise h (by simp [State.dormantMute])

theorem plant_raise (s : State) (b src : Nat) : (s.raise b src).plant = s.plant := node_of_quiet (quiet_raise s b src) State.plant

theorem sourceOk_channel {c : Nat} (h : c < 52) : sourceOk 13 c = true := by
  have : ∀ c < 52, sourceOk 13 c = true := by decide
  exact this c h

/-- A sticky driver fault of a channel. -/
theorem chanFault_spec (s : State) {c : Nat} (hc : c < 52) {f : Field} (hf : driveReg f) (hw : f.width = 1) :
    (s.chanFault c f).flag f = true ∧ (s.chanFault c f).srcSet 13 c = true ∧ (s.chanFault c f).plant = s.plant := by
  refine ⟨?_, srcSet_raise_drive _ (sourceOk_channel hc), plant_raise ..⟩
  rw [State.flag, State.chanFault, fld_raise_drive _ hf, State.setOn, fld_setFld_same, hw]
  rfl

theorem driveReg_chst {c : Nat} (h : c < 52) :
    driveReg (GDR_CHST_DESATHS c) ∧ driveReg (GDR_CHST_DESATLS c) ∧ driveReg (GDR_CHST_BOOTUV c) := by
  simp only [driveReg, Field.key, GDR_CHST_DESATHS, GDR_CHST_DESATLS, GDR_CHST_BOOTUV]
  omega

section DriverFaults

variable {s : State} (hon : s.isOff = false)
include hon

omit hon in
theorem execDriverFault_down (hd : s.dieUp = false) (f : DrvFault) (mv since : Nat) :
    exec (.driverFault f mv since) s = .next s :=
  congrArg Host.Outcome.next (if_pos (.inr (by simp [hd])))

variable (hd : s.dieUp = true) {c : Nat} (hc : c < 52) (mv since : Nat)
include hd

theorem on_and_up : ¬ (s.isOff = true ∨ ¬ s.dieUp = true) := by
  simp [hon, hd]

theorem execDriverFault_vgd : exec (.driverFault .vgdUv mv since) s = .next ((s.setPlant { s.plant with
    vgd := min mv 0xFFFF, vgdUv := decide (mv < 9000) || s.plant.vgdUv && decide (mv ≤ 9500) }).vgdReport) :=
  congrArg Host.Outcome.next (if_neg (on_and_up hon hd))

include hc

omit hon hd in
theorem desat_iff (low : Bool) : s.desat c low mv since = true ↔
    (s.gateOut c low ≠ .off ∧ s.drvFld (GDR_CHCFG_DESATBLK c) ≤ since) ∧ s.drvFlag (GDR_CHCFG_BOOST c) = false ∧
      500 * s.drvFld (GDR_CHCFG_DESATV c) < mv := by
  simp only [State.desat, State.unblanked, Bool.and_eq_true, decide_eq_true_eq, hc, true_and, Bool.not_eq_true',
    ge_iff_le, gt_iff_lt, and_assoc]

omit hon hd in
theorem unblanked_iff (low : Bool) : s.unblanked c low since = true ↔
    s.gateOut c low ≠ .off ∧ s.drvFld (GDR_CHCFG_DESATBLK c) ≤ since := by
  simp only [State.unblanked, Bool.and_eq_true, decide_eq_true_eq, hc, true_and, ge_iff_le]

omit hc

theorem execDriverFault_desatHs : exec (.driverFault (.desatHs c) mv since) s =
    .next (if s.desat c false mv since then s.chanFault c (GDR_CHST_DESATHS c) else s) :=
  congrArg Host.Outcome.next (if_neg (on_and_up hon hd))

theorem execDriverFault_desatLs : exec (.driverFault (.desatLs c) mv since) s =
    .next (if s.desat c true mv since then s.chanFault c (GDR_CHST_DESATLS c) else s) :=
  congrArg Host.Outcome.next (if_neg (on_and_up hon hd))

theorem execDriverFault_bootUv : exec (.driverFault (.bootUv c) mv since) s =
    .next (if s.unblanked c false since = true ∧ mv < 7000 then s.chanFault c (GDR_CHST_BOOTUV c) else s) :=
  congrArg Host.Outcome.next (if_neg (on_and_up hon hd))

/-- A gate supply too low is shown, and sets its source, over the drive link. -/
theorem execDriverFault_vgd_low (hmv : mv < 9000) (hl : s.pwr.linkUp = true) : ∃ s',
    exec (.driverFault .vgdUv mv since) s = .next s' ∧ s'.fld GDR_VGD_VALUE = mv ∧ s'.srcSet 13 64 = true := by
  refine ⟨_, execDriverFault_vgd hon hd mv since, ?_⟩
  generalize hu : s.setPlant { s.plant with
    vgd := min mv 0xFFFF, vgdUv := decide (mv < 9000) || s.plant.vgdUv && decide (mv ≤ 9500) } = u
  have hlink : u.pwr.linkUp = true := by rw [← hu]; exact hl
  have hlow : u.plant.vgdUv = true := by rw [← hu]; simp [State.setPlant, hmv]
  have hvgd : u.plant.vgd = mv := by rw [← hu]; exact Nat.min_eq_left (by omega)
  rw [State.vgdReport, if_neg (by simp [hlink])]
  simp only [hlow, if_true, hvgd]
  refine ⟨?_, srcSet_raise_drive _ rfl⟩
  rw [fld_raise_drive _ (by decide : 0x98002C * 32 ≤ GDR_VGD_VALUE.key ∧ GDR_VGD_VALUE.key < 0x990000 * 32)]
  exact (fld_setFld_same _ GDR_VGD_VALUE mv).trans (Nat.mod_eq_of_lt (show mv < 2 ^ 16 by omega))

/-- A gate supply back above its upper threshold. -/
theorem execDriverFault_vgd_back (h1 : 9500 < mv) (h2 : mv < 2 ^ 16) (hl : s.pwr.linkUp = true) : ∃ s',
    exec (.driverFault .vgdUv mv since) s = .next s' ∧ s'.fld GDR_VGD_VALUE = mv ∧ s'.plant.vgdUv = false := by
  refine ⟨_, execDriverFault_vgd hon hd mv since, ?_⟩
  generalize hu : s.setPlant { s.plant with
    vgd := min mv 0xFFFF, vgdUv := decide (mv < 9000) || s.plant.vgdUv && decide (mv ≤ 9500) } = u
  have hlink : u.pwr.linkUp = true := by rw [← hu]; exact hl
  have hback : u.plant.vgdUv = false := by
    rw [← hu]
    simp [State.setPlant, Nat.not_le.2 h1, Nat.not_lt.2 (Nat.le_of_lt (Nat.lt_trans (by decide : 9000 < 9500) h1))]
  have hvgd : u.plant.vgd = mv := by rw [← hu]; exact Nat.min_eq_left (by omega)
  rw [State.vgdReport, if_neg (by simp [hlink])]
  simp only [hback, Bool.false_eq_true, if_false, hvgd]
  exact ⟨(fld_setFld_same _ GDR_VGD_VALUE mv).trans (Nat.mod_eq_of_lt h2), hback⟩

end DriverFaults

/-! Strength adaptation (R240). -/

/-- The strength step a transition of the gate `hs` moves, and the register of its time. -/
def strField (hs : Bool) (c : Nat) : Field := if hs then GDR_STR_HSSTEP c else GDR_STR_LSSTEP c
def tswField (hs : Bool) (c : Nat) : Field := if hs then GDR_TSW_TSWHS c else GDR_TSW_TSWLS c

theorem strField_key (hs : Bool) (c : Nat) : (strField hs c).key ≠ (tswField hs c).key := by
  cases hs <;> simp only [strField, tswField, Field.key, GDR_STR_HSSTEP, GDR_STR_LSSTEP, GDR_TSW_TSWHS, GDR_TSW_TSWLS,
    if_true, Bool.false_eq_true, if_false] <;> omega

theorem switchTransition_spec {s : State} (hon : s.isOff = false) {c : Nat} (hc : c < 52) {start : Nat} (ns : Nat) (hs : Bool)
    (hup : s.dieUp = true) (hdead : 5 * s.drvFld (GDR_CHCFG_DT c) ≤ start) (hg : s.gateOut c (! hs) ≠ .off) :
    let adapts : Prop := s.drvFlag (GDR_CHCFG_ADAPT c) = true ∧ s.drvFlag (GDR_CHCFG_BOOST c) = false
    ∃ s', exec (.switchTransition c hs start ns) s = .next s' ∧ s'.fld (tswField hs c) = min ns 0xFFFF ∧
      (¬ adapts → s'.fld (strField hs c) = s.fld (strField hs c)) ∧
      (adapts → s'.fld (strField hs c) = adaptStep (s.drvFld (GDR_STR_MINSTEP c)) (s.drvFld (GDR_STR_MAXSTEP c))
        (s.drvFld (GDR_STR_TARGET c)) (s.drvFld (GDR_STR_TOL c)) (s.fld (strField hs c))
        (start - 5 * s.drvFld (GDR_CHCFG_DT c)) ns % 16) := by
  intro adapts
  let step := adaptStep (s.drvFld (GDR_STR_MINSTEP c)) (s.drvFld (GDR_STR_MAXSTEP c)) (s.drvFld (GDR_STR_TARGET c))
    (s.drvFld (GDR_STR_TOL c)) (s.fld (strField hs c)) (start - 5 * s.drvFld (GDR_CHCFG_DT c)) ns
  have hexec : exec (.switchTransition c hs start ns) s = .next (if s.drvFlag (GDR_CHCFG_ADAPT c) = true ∧ ¬ s.drvFlag (GDR_CHCFG_BOOST c) = true
      then (s.setFld (tswField hs c) (min ns 0xFFFF)).setFld (strField hs c) step else s.setFld (tswField hs c) (min ns 0xFFFF)) :=
    congrArg Host.Outcome.next (if_neg (by
      simp only [hon, hup, hg, Nat.not_le.2 hc, Nat.not_lt.2 hdead, not_true_eq_false, Bool.false_eq_true, or_self,
        not_false_eq_true]))
  have hadapts : (s.drvFlag (GDR_CHCFG_ADAPT c) = true ∧ ¬ s.drvFlag (GDR_CHCFG_BOOST c) = true) ↔ adapts := by
    simp only [adapts, Bool.not_eq_true]
  have hwidth : (tswField hs c).width = 16 ∧ (strField hs c).width = 4 := by cases hs <;> exact ⟨rfl, rfl⟩
  have htsw : (s.setFld (tswField hs c) (min ns 0xFFFF)).fld (tswField hs c) = min ns 0xFFFF := by
    rw [fld_setFld_same, hwidth.1]
    exact Nat.mod_eq_of_lt (by omega)
  refine ⟨_, hexec, ?_, fun h => ?_, fun h => ?_⟩
  · split
    · rw [fld_setFld_ne _ _ (strField_key hs c).symm, htsw]
    · exact htsw
  · rw [if_neg fun h' => h (hadapts.1 h'), fld_setFld_ne _ _ (strField_key hs c)]
  · rw [if_pos (hadapts.2 h), fld_setFld_same, hwidth.2]
    rfl

/-! Brake choppers (R243). -/

theorem brake_setBrake (s : State) (a : Nat) (b : Brake) : (s.setBrake a b).brake a = b := by
  simp [State.brake, State.setBrake, State.setPlant]

theorem drvFld_setBrake (s : State) (a : Nat) (b : Brake) (f : Field) : (s.setBrake a b).drvFld f = s.drvFld f := rfl

theorem brake_raise (s : State) (b src a : Nat) : (s.raise b src).brake a = s.brake a := by
  rw [State.brake, plant_raise]; rfl

/-- What chopper `a` reports leaves its comparator, and shows its sense voltage, over the drive link. -/
theorem brakeReport_spec (s : State) {a : Nat} (ha : a < 2) :
    ((s.brakeReport a).brake a).sense = (s.brake a).sense ∧ ((s.brakeReport a).brake a).on = (s.brake a).on ∧
    (s.pwr.linkUp = true → (s.brakeReport a).fld (GDR_BRKSENSE_SENSE a) = (s.brake a).sense % 2 ^ 12 ∧
      ((s.brake a).tripped = true → (s.brakeReport a).srcSet 13 (65 + a) = true)) := by
  rw [State.brakeReport]
  cases hl : s.pwr.linkUp
  · exact ⟨rfl, rfl, fun h => absurd h (by decide)⟩
  · have hkey : (GDR_BRKSENSE_SENSE a).key ≠ (GDR_BRKONTIME_ONTIME a).key := by
      simp only [Field.key, GDR_BRKSENSE_SENSE, GDR_BRKONTIME_ONTIME]; omega
    have hreg : driveReg (GDR_BRKSENSE_SENSE a) := by
      simp only [driveReg, Field.key, GDR_BRKSENSE_SENSE]; omega
    have hsrc : sourceOk 13 (65 + a) = true := by interval_cases a <;> rfl
    have hsense : (((s.setFld (GDR_BRKSENSE_SENSE a) (s.brake a).sense).incBy (GDR_BRKONTIME_ONTIME a) (s.brake a).us).setBrake a
        { s.brake a with us := 0, tripped := false }).fld (GDR_BRKSENSE_SENSE a) = (s.brake a).sense % 2 ^ 12 :=
      (fld_setFld_ne _ _ hkey).trans (fld_setFld_same _ _ _)
    rw [if_neg (by decide)]
    dsimp only
    split
    · rw [brake_raise, brake_setBrake, fld_raise_drive _ hreg]
      exact ⟨rfl, rfl, fun _ => ⟨hsense, fun _ => srcSet_raise_drive _ hsrc⟩⟩
    · rw [brake_setBrake]
      exact ⟨rfl, rfl, fun _ => ⟨hsense, fun h => absurd h (by assumption)⟩⟩

/-- The comparator of a chopper at its sense voltage: what it is, and what it leaves. -/
theorem brakeCompare_brake (s : State) (a : Nat) :
    (((s.brakeCompare a).brake a).on = true ↔ if (s.brake a).on then
        ¬ ((s.brake a).sense < s.drvFld (GDR_BRKCFG_OFF a) ∧ 400 * s.drvFld (GDR_BRKCTL_MINON a) ≤ (s.brake a).since)
      else s.drvFld (GDR_BRKCFG_ON a) < (s.brake a).sense) ∧
    ((s.brakeCompare a).brake a).sense = (s.brake a).sense ∧ ((s.brakeCompare a).brake a).above = (s.brake a).above ∧
    (s.brakeCompare a).pwr = s.pwr := by
  rw [State.brakeCompare]
  rw [brake_setBrake]
  refine ⟨?_, rfl, rfl, rfl⟩
  cases (s.brake a).on <;> simp [imp_iff_not_or]

theorem drvFld_brakeCompare (s : State) (a : Nat) (f : Field) : (s.brakeCompare a).drvFld f = s.drvFld f := rfl

/-- A sense voltage above TRIP, and not above it before, is a trip. -/
theorem brakeTrip_brake (s : State) (a : Nat) :
    ((s.brakeTrip a).brake a).on = (s.brake a).on ∧ ((s.brakeTrip a).brake a).sense = (s.brake a).sense ∧
    (s.brakeTrip a).pwr = s.pwr ∧ ((s.brake a).above = false → s.drvFld (GDR_BRKCTL_TRIP a) < (s.brake a).sense →
      ((s.brakeTrip a).brake a).tripped = true) := by
  rw [State.brakeTrip]
  rw [brake_setBrake]
  exact ⟨rfl, rfl, rfl, fun ha h => by simp [ha, h]⟩

/-- A sense voltage that moves is compared with ON, OFF and TRIP, and reported. -/
theorem brakeComparator_spec {s : State} {a mv : Nat} (ha : a < 2) (hup : s.dieUp = true) :
    ∃ s', exec (.brakeComparator a mv) s = .next s' ∧ (s'.brake a).sense = min mv 0xFFF ∧
      ((s'.brake a).on = true ↔ if (s.brake a).on then
          ¬ (min mv 0xFFF < s.drvFld (GDR_BRKCFG_OFF a) ∧ 400 * s.drvFld (GDR_BRKCTL_MINON a) ≤ (s.brake a).since)
        else s.drvFld (GDR_BRKCFG_ON a) < min mv 0xFFF) ∧
      (s.pwr.linkUp = true → s'.fld (GDR_BRKSENSE_SENSE a) = min mv 0xFFF ∧
        (s.drvFld (GDR_BRKCTL_TRIP a) < min mv 0xFFF → s'.srcSet 13 (65 + a) = true)) := by
  let b : Brake := { s.brake a with sense := min mv 0xFFF, above := false }
  obtain ⟨u, hu⟩ : ∃ u, u = s.setBrake a b := ⟨_, rfl⟩
  have hub : u.brake a = b := by rw [hu, brake_setBrake]
  have hdrv (f : Field) : u.drvFld f = s.drvFld f := by rw [hu, drvFld_setBrake]
  have hpwr : u.pwr = s.pwr := by rw [hu]; rfl
  have hexec : exec (.brakeComparator a mv) s = .next (((u.brakeCompare a).brakeTrip a).brakeReport a) :=
    congrArg Host.Outcome.next ((if_neg (by simp [Nat.not_le.2 ha, hup])).trans (by rw [hu]))
  obtain ⟨hon, hsense, habove, hp⟩ := brakeCompare_brake u a
  obtain ⟨hon', hsense', hp', htrip⟩ := brakeTrip_brake (u.brakeCompare a) a
  obtain ⟨hrs, hro, hrep⟩ := brakeReport_spec ((u.brakeCompare a).brakeTrip a) ha
  rw [hp', hp, hpwr, hsense', hsense, hub] at hrep
  rw [habove, drvFld_brakeCompare, hdrv, hsense, hub] at htrip
  rw [hub, hdrv, hdrv, hdrv] at hon
  refine ⟨_, hexec, ?_, ?_, fun hl => ?_⟩
  · rw [hrs, hsense', hsense, hub]
  · rw [hro, hon', hon]
  · obtain ⟨hshow, hset⟩ := hrep hl
    exact ⟨hshow.trans (Nat.mod_eq_of_lt (by show min mv 0xFFF < 2 ^ 12; omega)), fun h => hset (htrip rfl h)⟩

/-- A TRIP put below a sense voltage that stands trips in the next cycle. -/
theorem brakeTick_trips {s : State} {a : Nat} (ha : a < 2) (hup : s.dieUp = true) (hl : s.pwr.linkUp = true)
    (habove : (s.brake a).above = false) (h : s.drvFld (GDR_BRKCTL_TRIP a) < (s.brake a).sense) :
    (s.brakeTick a).srcSet 13 (65 + a) = true := by
  rw [State.brakeTick, if_neg (by simp [hup])]
  dsimp only
  generalize (if s.brakeOn a then (s.brake a).cyc + 1 else (s.brake a).cyc) = n
  generalize hb : ({ s.brake a with
    since := if (s.brake a).on then min ((s.brake a).since + 1) 25200 else 0, cyc := n % 800, us := (s.brake a).us + n / 800
    heat := (s.brake a).heat + n / 800 } : Brake) = b
  have hbs : b.sense = (s.brake a).sense ∧ b.above = false := by rw [← hb]; exact ⟨rfl, habove⟩
  obtain ⟨-, hsense, habove', hp⟩ := brakeCompare_brake (s.setBrake a b) a
  obtain ⟨-, -, hp', htrip⟩ := brakeTrip_brake ((s.setBrake a b).brakeCompare a) a
  rw [brake_setBrake] at hsense habove'
  have htripped := htrip (habove'.trans hbs.2) (by rw [drvFld_brakeCompare, drvFld_setBrake, hsense, hbs.1]; exact h)
  obtain ⟨-, -, hrep⟩ := brakeReport_spec (((s.setBrake a b).brakeCompare a).brakeTrip a) ha
  rw [if_pos (.inr htripped)]
  exact (hrep (by rw [hp', hp]; exact hl)).2 htripped

section Arm

variable {s : State} (hon : s.isOff = false) {a : Nat} (ha : a < 2)
include hon ha

theorem exec_brakeArmWrite_on (v : Bool) : exec (.brakeArmWrite a v) s = .next (s.armWrite a v) :=
  (next_on hon).trans (congrArg Host.Outcome.next (if_pos ha))

theorem brakeArm_set_live (h : s.isStandby = false) :
    exec (.brakeArmWrite a true) s = .next (s.setBrake a { s.brake a with armReq := true }) := by
  refine (exec_brakeArmWrite_on hon ha true).trans (congrArg Host.Outcome.next ?_)
  rw [State.armWrite, if_pos rfl, if_neg (by simp [h])]

theorem brakeArm_set_standby (h : s.isStandby = true) :
    exec (.brakeArmWrite a true) s = .next (s.setBrake a { s.brake a with shadow := true }) := by
  refine (exec_brakeArmWrite_on hon ha true).trans (congrArg Host.Outcome.next ?_)
  rw [State.armWrite, if_pos rfl, if_pos h]

theorem brakeArm_clear_unset (h : s.armReads a = false) : exec (.brakeArmWrite a false) s = .next s := by
  refine (exec_brakeArmWrite_on hon ha false).trans (congrArg Host.Outcome.next ?_)
  rw [State.armWrite, if_neg (by decide), if_neg (by simp [h])]

theorem brakeArm_clear_set (h : s.armReads a = true) :
    exec (.brakeArmWrite a false) s = .next (s.setFld GDR_STATUS_CFGERR 1) := by
  refine (exec_brakeArmWrite_on hon ha false).trans (congrArg Host.Outcome.next ?_)
  rw [State.armWrite, if_neg (by decide), if_pos h]
  rfl

end Arm

/-- Settles O51: strength steps by their comparison with the target, driver faults and the brake comparator by what each
compares. -/
theorem driveAndBrakes : Obligations.DriveAndBrakes := by
  refine ⟨fun lo hi target tol step start ns hlo hhi => adaptStep_spec target tol start ns hlo hhi,
    fun s c a mv since start ns hon hc ha => ?_⟩
  dsimp only
  refine ⟨fun hs => ⟨fun h => ?_, fun hup hdead hg => ?_⟩, fun hd f => execDriverFault_down hd f mv since, fun hd => ?_,
    fun hd => ?_, fun hd => brakeComparator_spec ha hd, fun hd hl habove h => brakeTick_trips ha hd hl habove h, ?_, ?_, ?_⟩
  · refine congrArg Host.Outcome.next (if_pos ?_)
    rcases h with h | h | h <;> simp [h]
  · have hspec := switchTransition_spec hon hc ns hs hup hdead hg
    cases hs <;> exact hspec
  · obtain ⟨hhs, hls, hboot⟩ := driveReg_chst hc
    have hnext {f : DrvFault} {b : Prop} [Decidable b] {u : State}
        (h : exec (.driverFault f mv since) s = .next (if b then u else s)) (hb : b) : exec (.driverFault f mv since) s = .next u :=
      h.trans (congrArg Host.Outcome.next (if_pos hb))
    have hsame {f : DrvFault} {b : Prop} [Decidable b] {u : State}
        (h : exec (.driverFault f mv since) s = .next (if b then u else s)) (hb : ¬ b) : exec (.driverFault f mv since) s = .next s :=
      h.trans (congrArg Host.Outcome.next (if_neg hb))
    refine ⟨fun h => ⟨_, hnext (execDriverFault_desatHs hon hd mv since) ((desat_iff hc mv since false).2 h),
        chanFault_spec s hc hhs rfl⟩,
      fun h => ⟨_, hnext (execDriverFault_desatLs hon hd mv since) ((desat_iff hc mv since true).2 h),
        chanFault_spec s hc hls rfl⟩,
      fun h hmv => ⟨_, hnext (execDriverFault_bootUv hon hd mv since) ⟨(unblanked_iff hc since false).2 h, hmv⟩,
        chanFault_spec s hc hboot rfl⟩,
      fun h => hsame (execDriverFault_desatHs hon hd mv since) fun h' => h ((desat_iff hc mv since false).1 h'),
      fun h => hsame (execDriverFault_desatLs hon hd mv since) fun h' => h ((desat_iff hc mv since true).1 h'),
      fun h => hsame (execDriverFault_bootUv hon hd mv since) fun h' => ?_,
      execDriverFault_vgd_low hon hd mv since, execDriverFault_vgd_back hon hd mv since⟩
    exact h.elim (fun h => h ((unblanked_iff hc since false).1 h'.1)) fun h => Nat.not_lt.2 h h'.2
  · exact congrArg Host.Outcome.next (if_pos (by simp [hd]))
  · exact fun h => ⟨brakeArm_set_live hon ha h, fun hf => brakeArm_clear_unset hon ha (by simp [State.armReads, hf, h])⟩
  · exact brakeArm_set_standby hon ha
  · refine fun h => brakeArm_clear_set hon ha ?_
    rcases h with h | ⟨h, h'⟩
    · simp [State.armReads, h]
    · simp [State.armReads, h, h']

end Sys2Proof.Machine

namespace Sys2Proof.Machine

/-! The registers of a DMA channel (R232). -/

@[simp] theorem key_DMA_CTL_ARM (n : Nat) : (DMA_CTL_ARM n).key = 2048 * n + 0x801000 * 32 := by
  simp only [Field.key, DMA_CTL_ARM]; omega
@[simp] theorem key_DMA_CTL_PAUSE (n : Nat) : (DMA_CTL_PAUSE n).key = 2048 * n + (0x801000 * 32 + 1) := by
  simp only [Field.key, DMA_CTL_PAUSE]; omega
@[simp] theorem key_DMA_CFG_GRAIN (n : Nat) : (DMA_CFG_GRAIN n).key = 2048 * n + (0x801004 * 32 + 16) := by
  simp only [Field.key, DMA_CFG_GRAIN]; omega
@[simp] theorem key_DMA_HOPLIM (n : Nat) : (DMA_HOPLIM_HOPLIM n).key = 2048 * n + 0x801008 * 32 := by
  simp only [Field.key, DMA_HOPLIM_HOPLIM]; omega
@[simp] theorem key_DMA_CHSTAT_HOPS (n : Nat) : (DMA_CHSTAT_HOPS n).key = 2048 * n + (0x801018 * 32 + 16) := by
  simp only [Field.key, DMA_CHSTAT_HOPS]; omega
@[simp] theorem key_DMA_CHSTAT_PEND (n : Nat) : (DMA_CHSTAT_PEND n).key = 2048 * n + (0x801018 * 32 + 8) := by
  simp only [Field.key, DMA_CHSTAT_PEND]; omega
@[simp] theorem key_DMA_CHSTAT_ERR (n : Nat) : (DMA_CHSTAT_ERR n).key = 2048 * n + (0x801018 * 32 + 4) := by
  simp only [Field.key, DMA_CHSTAT_ERR]; omega
@[simp] theorem key_DMA_CHSTAT_STATE (n : Nat) : (DMA_CHSTAT_STATE n).key = 2048 * n + 0x801018 * 32 := by
  simp only [Field.key, DMA_CHSTAT_STATE]; omega
@[simp] theorem key_DMA_REMAIN_HOLD (n : Nat) : (DMA_REMAIN_HOLD n).key = 2048 * n + (0x80101C * 32 + 25) := by
  simp only [Field.key, DMA_REMAIN_HOLD]; omega
@[simp] theorem key_DMA_REMAIN_REMAIN (n : Nat) : (DMA_REMAIN_REMAIN n).key = 2048 * n + 0x80101C * 32 := by
  simp only [Field.key, DMA_REMAIN_REMAIN]; omega
@[simp] theorem key_DMA_CURDCTL (n : Nat) : (DMA_CURDCTL_DCTL n).key = 2048 * n + 0x801038 * 32 := by
  simp only [Field.key, DMA_CURDCTL_DCTL]; omega

@[simp] theorem fld_setDma (s : State) (n : Nat) (d : Dma) (f : Field) : (s.setDma n d).fld f = s.fld f := rfl

@[simp] theorem dmaCh_setDma (s : State) (n : Nat) (d : Dma) : (s.setDma n d).dmaCh n = d := by
  simp [State.dmaCh, State.setDma]

@[simp] theorem dmaCh_setFld (s : State) (n : Nat) (f : Field) (v : Nat) : (s.setFld f v).dmaCh n = s.dmaCh n := rfl

theorem dmaCh_raise (s : State) (b src n : Nat) : (s.raise b src).dmaCh n = s.dmaCh n :=
  congrArg (fun m => tabGet Dma.init m n) (node_of_quiet (quiet_raise s b src) State.dma)

/-- A channel's registers follow it; of the channel only the addresses shown move. -/
theorem dmaSync_spec (s : State) (n : Nat) :
    (∀ f : Field, f.key ≠ (DMA_REMAIN_HOLD n).key → f.key ≠ (DMA_REMAIN_REMAIN n).key → f.key ≠ (DMA_CURDCTL_DCTL n).key →
      (s.dmaSync n).fld f = s.fld f) ∧
    ((s.dmaSync n).dmaCh n).hold = (s.dmaCh n).hold ∧ ((s.dmaSync n).dmaCh n).rd = (s.dmaCh n).rd ∧
    ((s.dmaSync n).dmaCh n).wr = (s.dmaCh n).wr := by
  simp only [State.dmaSync]
  split
  · exact ⟨fun f h _ _ => fld_setFld_ne _ _ h, rfl, rfl, rfl⟩
  · rw [dmaCh_setDma]
    exact ⟨fun f h h' h'' => (fld_setFld_ne _ _ h'').trans ((fld_setFld_ne _ _ h').trans (fld_setFld_ne _ _ h)), rfl, rfl, rfl⟩

theorem dmaSync_of_no_desc {s : State} {n : Nat} (h : (s.dmaCh n).desc = none) :
    s.dmaSync n = s.setFld (DMA_REMAIN_HOLD n) (s.dmaCh n).hold.length := by
  simp only [State.dmaSync, h]

theorem not_raiseKey_channel {n : Nat} (hn : n < 64) {k : Nat} (hk : 0x801000 * 32 ≤ k ∧ k < 0x900000 * 32) : ¬ raiseKey 11 n k := by
  rintro (h | h | h | h | h)
  · simp only [Field.key, fstatOf, DMA_FSTAT_SRC] at h; omega
  · simp only [Field.key, FLT_BLKSTAT_STATE] at h; omega
  · simp only [Field.key, FLT_BLKINC_INCIDENT] at h; omega
  · simp only [Field.key, FLT_INCNEXT_VALUE] at h; omega
  · rw [eventKey_iff] at h; omega

theorem sourceOk_dma {n : Nat} (hn : n < 64) : sourceOk 11 n = true := by
  have : ∀ n < 64, sourceOk 11 n = true := by decide
  exact this n hn

/-- A channel halted with an error: its state, its code, its source, and nothing of it in flight (R229). -/
structure Halted (s : State) (n err : Nat) : Prop where
  state : s.dmaSt n = 5
  err : s.fld (DMA_CHSTAT_ERR n) = err
  source : s.srcSet 11 n = true
  hold : (s.dmaCh n).hold = []
  rd : (s.dmaCh n).rd = []
  wr : (s.dmaCh n).wr = []

/-- A channel as an error leaves it, but for the addresses it shows (R229). -/
def Dma.halted (c : Dma) (atDesc : Bool) : Dma :=
  if atDesc then { c with fetching := none, errDesc := true, desc := none, hold := [], rd := [], wr := [], abort := false }
  else { c.rewind with errDesc := false, abort := false }

theorem Dma.halted_empty (c : Dma) (atDesc : Bool) :
    (c.halted atDesc).hold = [] ∧ (c.halted atDesc).rd = [] ∧ (c.halted atDesc).wr = [] := by
  cases atDesc <;> exact ⟨rfl, rfl, rfl⟩

theorem dmaHalt_eq (s : State) (n err : Nat) (atDesc : Bool) : s.dmaHalt n err atDesc =
    ((((s.setDma n ((s.dmaCh n).halted atDesc)).setDmaSt n 5).setFld (DMA_CHSTAT_ERR n) err).dmaSync n).raise 11 n := by
  rw [State.dmaHalt, Dma.halted]
  cases atDesc <;> simp

theorem halted_dmaHalt (s : State) {n err : Nat} (hn : n < 64) (he : err < 8) (atDesc : Bool) :
    Halted (s.dmaHalt n err atDesc) n err := by
  obtain ⟨u, hu⟩ : ∃ u, u = ((s.setDma n ((s.dmaCh n).halted atDesc)).setDmaSt n 5).setFld (DMA_CHSTAT_ERR n) err := ⟨_, rfl⟩
  obtain ⟨hfld, hh, hr, hw⟩ := dmaSync_spec u n
  have hch : u.dmaCh n = (s.dmaCh n).halted atDesc := by
    rw [hu]; exact dmaCh_setDma ..
  obtain ⟨hhold, hrd, hwr⟩ := (s.dmaCh n).halted_empty atDesc
  rw [hch] at hh hr hw
  have hreg {f : Field} (hk : 0x801000 * 32 ≤ f.key ∧ f.key < 0x900000 * 32) (u : State) : (u.raise 11 n).fld f = u.fld f :=
    fld_raise u (not_raiseKey_channel hn hk)
  rw [dmaHalt_eq, ← hu]
  constructor
  · rw [State.dmaSt, hreg (by rw [key_DMA_CHSTAT_STATE]; omega), hfld _ (by simp) (by simp) (by simp), hu, fld_setFld_ne _ _ (by simp), State.setDmaSt,
      fld_setFld_same]
    rfl
  · rw [hreg (by rw [key_DMA_CHSTAT_ERR]; omega), hfld _ (by simp) (by simp) (by simp), hu, fld_setFld_same]
    exact Nat.mod_eq_of_lt he
  · exact srcSet_raise (sourceOk_dma hn) (by simp [State.dormantMute])
  · rw [dmaCh_raise, hh, hhold]
  · rw [dmaCh_raise, hr, hrd]
  · rw [dmaCh_raise, hw, hwr]

/-- A register that neither a channel nor its source event writes. -/
theorem fld_dmaHalt (s : State) {n err : Nat} (atDesc : Bool) {f : Field} (hr : ¬ raiseKey 11 n f.key)
    (hk : ¬ (2048 * n + 0x801000 * 32 ≤ f.key ∧ f.key < 2048 * n + 0x801040 * 32)) : (s.dmaHalt n err atDesc).fld f = s.fld f := by
  rw [dmaHalt_eq, fld_raise _ hr, (dmaSync_spec _ n).1 f (by simp; omega) (by simp; omega) (by simp; omega),
    fld_setFld_ne _ _ (by simp; omega), State.setDmaSt, fld_setFld_ne _ _ (by simp; omega), fld_setDma]

/-! Arming, abort, pause (R226 to R228). -/

/-- A disarmed channel. -/
theorem dmaDisarm_spec (s : State) (n : Nat) : (s.dmaDisarm n).dmaArmed n = false ∧ (s.dmaDisarm n).dmaSt n = 0 ∧
    (s.dmaDisarm n).fld (DMA_CHSTAT_PEND n) = 0 ∧ ((s.dmaDisarm n).dmaCh n).desc = none := by
  rw [State.dmaDisarm]
  generalize (s.setDma n (s.dmaCh n).rewind).dmaSync n = u
  dsimp only
  refine ⟨?_, ?_, ?_, ?_⟩
  · rw [State.dmaArmed, State.flag, State.setOff, fld_setFld_same]; rfl
  · rw [State.dmaSt, State.setOff, fld_setFld_ne _ _ (by simp), fld_setFld_ne _ _ (by simp), State.setDmaSt, fld_setFld_same]; rfl
  · rw [State.setOff, fld_setFld_ne _ _ (by simp), fld_setFld_same]; rfl
  · rw [State.setOff, State.setDmaSt, dmaCh_setFld, dmaCh_setFld, dmaCh_setFld, dmaCh_setDma]; rfl

/-- A channel without a descriptor has nothing to pump. -/
theorem dmaPump_of_no_desc {s : State} {n : Nat} (h : (s.dmaCh n).desc = none) : s.dmaPump n = s.dmaSettle n := by
  have hw : s.dmaWrites n 64 = s := by
    rw [State.dmaWrites]; simp only [h]
  have hr : s.dmaReads n 2 = s := by
    rw [State.dmaReads]; simp only [h]
  rw [State.dmaPump, hw, hr]

section Commands

variable {s : State} (hon : s.isOff = false) {n : Nat} (hn : n < 64)
include hon hn

theorem exec_dmaArm_on : exec (.dmaArm n) s = .next (s.dmaArm n) := (next_on hon).trans (congrArg Host.Outcome.next (if_pos hn))

theorem exec_dmaAbort_on : exec (.dmaAbort n) s = .next (s.dmaAbort n) :=
  (next_on hon).trans (congrArg Host.Outcome.next (if_pos hn))

theorem exec_dmaPause_on (on : Bool) : exec (.dmaPause n on) s = .next (s.dmaPause n on) :=
  (next_on hon).trans (congrArg Host.Outcome.next (if_pos hn))

theorem exec_clrerr_on : exec (.clrerr n) s = .next (s.dmaClrErr n) :=
  (next_on hon).trans (congrArg Host.Outcome.next (if_pos hn))

theorem exec_cont_on : exec (.cont n) s = .next (s.dmaCont n) := (next_on hon).trans (congrArg Host.Outcome.next (if_pos hn))

theorem exec_trigger_on : exec (.go n) s = .next (s.dmaTrig n) ∧ exec (.dmaTrigger n) s = .next (s.dmaTrig n) :=
  ⟨(next_on hon).trans (congrArg Host.Outcome.next (if_pos hn)), (next_on hon).trans (congrArg Host.Outcome.next (if_pos hn))⟩

end Commands

theorem dmaArm_cycle {s : State} {n : Nat} (ha : s.dmaArmed n = false) (hc : s.dmaCycle n n 65 = true) :
    s.dmaArm n = (s.setFld DMA_STATUS_ARMCYC 1).setFld DMA_STATUS_ARMCYCCH n := by
  rw [State.dmaArm, if_neg (by simp [ha]), if_pos hc]; rfl

theorem dmaArm_halted {s : State} {n : Nat} (ha : s.dmaArmed n = false) (hc : s.dmaCycle n n 65 = false) (h5 : s.dmaSt n = 5) :
    s.dmaArm n = (s.setFld (DMA_CTL_ARM n) 1).setFld (DMA_CHSTAT_ERR n) 0 := by
  rw [State.dmaArm, if_neg (by simp [ha]), if_neg (by simp [hc]), if_pos h5]; rfl

theorem dmaArm_spec {s : State} {n : Nat} (ha : s.dmaArmed n = false) (hc : s.dmaCycle n n 65 = false) (h5 : s.dmaSt n ≠ 5) :
    (s.dmaArm n).dmaArmed n = true ∧ (s.dmaArm n).dmaSt n = 1 ∧ (s.dmaArm n).fld (DMA_CHSTAT_ERR n) = 0 ∧
    ((s.dmaArm n).dmaCh n).desc = none := by
  rw [State.dmaArm, if_neg (by simp [ha]), if_neg (by simp [hc]), if_neg h5]
  dsimp only
  refine ⟨?_, ?_, ?_, ?_⟩
  · rw [State.dmaArmed, State.flag, State.setDmaSt, fld_setFld_ne _ _ (by simp), fld_setDma, fld_setFld_ne _ _ (by simp), State.setOn,
      fld_setFld_same]
    rfl
  · rw [State.dmaSt, State.setDmaSt, fld_setFld_same]; rfl
  · rw [State.setDmaSt, fld_setFld_ne _ _ (by simp), fld_setDma, fld_setFld_same]; rfl
  · rw [State.setDmaSt, dmaCh_setFld, dmaCh_setDma]; rfl

theorem dmaAbort_draining {s : State} {n : Nat} (ha : s.dmaArmed n = true) (h2 : 2 ≤ s.dmaSt n) (h4 : s.dmaSt n ≤ 4) :
    s.dmaAbort n = ((s.setDma n { s.dmaCh n with abort := true }).setDmaSt n 3).dmaPump n := by
  rw [State.dmaAbort, if_neg (by simp [ha])]
  exact if_pos (by omega)

theorem dmaAbort_halted {s : State} {n : Nat} (ha : s.dmaArmed n = true) (h5 : s.dmaSt n = 5) :
    s.dmaAbort n = (s.setFld (DMA_CHSTAT_PEND n) 0).setFld (DMA_CTL_ARM n) 0 := by
  rw [State.dmaAbort, if_neg (by simp [ha])]
  dsimp only
  rw [if_neg (by omega), if_pos h5]
  rfl

theorem dmaAbort_idle {s : State} {n : Nat} (ha : s.dmaArmed n = true) (h : s.dmaSt n < 2) : s.dmaAbort n = s.dmaDisarm n := by
  rw [State.dmaAbort, if_neg (by simp [ha])]
  dsimp only
  rw [if_neg (by omega), if_neg (by omega)]

/-- A running channel with nothing to drain is paused at once. -/
theorem dmaPause_drained {s : State} {n : Nat} (h2 : s.dmaSt n = 2) (hrd : (s.dmaCh n).rd = []) (hwr : (s.dmaCh n).wr = [])
    (hf : (s.dmaCh n).fetching = none) (hd : (s.dmaCh n).desc = none) (ha : (s.dmaCh n).abort = false) :
    (s.dmaPause n true).dmaSt n = 4 := by
  have hpump : s.dmaPause n true = ((s.setBool (DMA_CTL_PAUSE n) true).setDmaSt n 3).dmaSettle n := by
    simp only [State.dmaPause, if_true, if_pos h2]
    exact dmaPump_of_no_desc hd
  have h3 : ((s.setBool (DMA_CTL_PAUSE n) true).setDmaSt n 3).dmaSt n = 3 := fld_setFld_same _ _ _
  have hdr : ((s.setBool (DMA_CTL_PAUSE n) true).setDmaSt n 3).dmaDrained n = true := by
    simp only [State.dmaDrained, State.setBool, State.setDmaSt, dmaCh_setFld, hrd, hwr, hf, hd]
    rfl
  have hna : ¬ (((s.setBool (DMA_CTL_PAUSE n) true).setDmaSt n 3).dmaCh n).abort = true := by
    simp [State.setBool, State.setDmaSt, ha]
  rw [hpump, State.dmaSettle, if_pos ⟨h3, hdr⟩, if_neg hna, State.dmaSt, (dmaSync_spec _ n).1 _ (by simp) (by simp) (by simp),
    State.setDmaSt, fld_setFld_same]
  rfl

theorem dmaPause_other {s : State} {n : Nat} (h2 : s.dmaSt n ≠ 2) : s.dmaPause n true = s.setFld (DMA_CTL_PAUSE n) 1 := by
  simp only [State.dmaPause, if_true, if_neg h2]
  rfl

theorem dmaPause_ended {s : State} {n : Nat} (h4 : s.dmaSt n = 4) (ha : (s.dmaCh n).abort = false) (hm : (s.dmaCh n).more = false)
    (hd : (s.dmaCh n).desc = none) (hf : (s.dmaCh n).fetching = none) :
    s.dmaPause n false = ((s.setFld (DMA_CTL_PAUSE n) 0).setDmaSt n 2).setDmaSt n 1 := by
  simp [State.dmaPause, h4, ha, State.dmaResume, State.setBool, hm, hd, hf]

/-! Triggers (R222, R223). -/

theorem dmaTrig_eq (s : State) (n : Nat) : s.dmaTrig n =
    if s.dmaArmed n = true ∧ s.dmaSt n ≠ 5 ∧ s.fld (DMA_CHSTAT_PEND n) < 255 then
      s.setFld (DMA_CHSTAT_PEND n) (s.fld (DMA_CHSTAT_PEND n) + 1)
    else (s.inc (DMA_TRIGLOST_COUNT n)).setFld DMA_STATUS_TRIGLOST 1 := rfl

/-! Leaving an error (R230). -/

theorem srcSet_clrFbit (s : State) (b src : Nat) : (s.clrFbit (fstatOf b src) (src % 32)).srcSet b src = false := by
  rw [State.srcSet, State.fbit, State.clrFbit, fld_setFld_same, Nat.testBit_mod_two_pow, Nat.testBit_xor, Nat.testBit_and,
    Nat.testBit_two_pow]
  simp

theorem key_fstat_dma {n : Nat} (hn : n < 64) : (fstatOf 11 n).key < 0x801000 * 32 := by
  simp only [Field.key, fstatOf, DMA_FSTAT_SRC]; omega

theorem dmaClrErr_spec {s : State} {n : Nat} (hn : n < 64) (h5 : s.dmaSt n = 5) :
    (s.dmaClrErr n).dmaSt n = (if s.dmaArmed n then 1 else 0) ∧ (s.dmaClrErr n).fld (DMA_CHSTAT_ERR n) = 0 ∧
    (s.dmaClrErr n).srcSet 11 n = false := by
  have hk := key_fstat_dma hn
  have hclr (u : State) {f : Field} (hf : 0x801000 * 32 ≤ f.key) : (u.clrFbit (fstatOf 11 n) (n % 32)).fld f = u.fld f :=
    fld_setFld_ne _ _ (by omega)
  rw [State.dmaClrErr, if_pos h5]
  dsimp only
  refine ⟨?_, ?_, ?_⟩
  · rw [State.dmaSt, fld_setDma, hclr _ (by rw [key_DMA_CHSTAT_STATE]; omega), State.setDmaSt, fld_setFld_same]
    split <;> rfl
  · rw [fld_setDma, hclr _ (by rw [key_DMA_CHSTAT_ERR]; omega), State.setDmaSt, fld_setFld_ne _ _ (by simp), fld_setFld_same]
    rfl
  · exact srcSet_clrFbit _ 11 n

theorem dmaClrErr_other {s : State} {n : Nat} (h5 : s.dmaSt n ≠ 5) : s.dmaClrErr n = s := if_neg h5

theorem dmaCont_other {s : State} {n : Nat} (h5 : s.dmaSt n ≠ 5) : s.dmaCont n = s := if_pos h5

theorem dmaCont_disarmed {s : State} {n : Nat} (h5 : s.dmaSt n = 5) (ha : s.dmaArmed n = false) : s.dmaCont n = s.dmaClrErr n := by
  rw [State.dmaCont, if_neg (not_not.2 h5), if_pos (by simp [ha])]

section Cont

variable {s : State} {n : Nat} (h5 : s.dmaSt n = 5) (ha : s.dmaArmed n = true)
include h5 ha

theorem dmaCont_grain_ended (he : (s.dmaCh n).errDesc = false) (hg : s.fld (DMA_CFG_GRAIN n) = 2) (hb : (s.dmaCh n).beats = 0) :
    s.dmaCont n = ((s.setFld (DMA_CHSTAT_ERR n) 0).setDmaSt n 1).clrFbit (fstatOf 11 n) (n % 32) := by
  rw [State.dmaCont, if_neg (not_not.2 h5), if_neg (not_not.2 ha)]
  simp [he, hg, hb]

theorem dmaCont_runs (he : (s.dmaCh n).errDesc = false) (hg : s.fld (DMA_CFG_GRAIN n) ≠ 2 ∨ (s.dmaCh n).beats ≠ 0)
    (hp : s.flag (DMA_CTL_PAUSE n) = false) :
    s.dmaCont n = (((s.setFld (DMA_CHSTAT_ERR n) 0).setDmaSt n 2).clrFbit (fstatOf 11 n) (n % 32)).dmaPump n := by
  have hended : ¬ (s.fld (DMA_CFG_GRAIN n) = 2 ∧ (s.dmaCh n).beats = 0) := fun h => hg.elim (· h.1) (· h.2)
  rw [State.dmaCont, if_neg (not_not.2 h5), if_neg (not_not.2 ha)]
  simp [he, hp, hended]

theorem dmaCont_refetches (he : (s.dmaCh n).errDesc = true) (hp : s.flag (DMA_CTL_PAUSE n) = false) :
    s.dmaCont n = (((((s.setFld (DMA_CHSTAT_ERR n) 0).setDmaSt n 2).clrFbit (fstatOf 11 n) (n % 32)).setFld
      (DMA_CHSTAT_HOPS n) 0).setDma n { s.dmaCh n with errDesc := false }).dmaFetch n (s.dmaCh n).curDesc (s.dmaCh n).curSp := by
  rw [State.dmaCont, if_neg (not_not.2 h5), if_neg (not_not.2 ha)]
  simp [he, hp]

end Cont

/-! Fetching a descriptor (R217, R224). -/

/-- The first descriptor of a grain is read: one hop. -/
theorem dmaFetch_first {s : State} {n addr sp : Nat} (hh : s.fld (DMA_CHSTAT_HOPS n) = 0) (hl : 1 ≤ s.fld (DMA_HOPLIM_HOPLIM n)) :
    (∀ f : Field, f.key ≠ (DMA_CHSTAT_HOPS n).key → (s.dmaFetch n addr sp).fld f = s.fld f) ∧
    (s.dmaFetch n addr sp).fld (DMA_CHSTAT_HOPS n) = 1 ∧
    ((s.dmaFetch n addr sp).dmaCh n).fetching = some (addr, sp) ∧ ((s.dmaFetch n addr sp).dmaCh n).doneB = 0 := by
  rw [State.dmaFetch]
  dsimp only
  rw [if_neg (by omega), hh]
  have hset (u : State) (d : Dma) (o : Out) (f : Field) : ((u.setDma n d).emit o).fld f = u.fld f := rfl
  have hch (u : State) (d : Dma) (o : Out) : ((u.setDma n d).emit o).dmaCh n = d := dmaCh_setDma u n d
  rw [hch]
  refine ⟨fun f hf => ?_, ?_, rfl, rfl⟩
  · rw [hset, fld_setFld_ne _ _ hf, fld_setDma]
  · rw [hset, fld_setFld_same]; rfl

/-- CONT reads the descriptor again. -/
theorem dmaCont_refetches_spec {s : State} {n : Nat} (hn : n < 64) (h5 : s.dmaSt n = 5) (ha : s.dmaArmed n = true)
    (he : (s.dmaCh n).errDesc = true) (hp : s.flag (DMA_CTL_PAUSE n) = false) (hl : 1 ≤ s.fld (DMA_HOPLIM_HOPLIM n)) :
    (s.dmaCont n).dmaSt n = 2 ∧ (s.dmaCont n).fld (DMA_CHSTAT_HOPS n) = 1 ∧
    ((s.dmaCont n).dmaCh n).fetching = some ((s.dmaCh n).curDesc, (s.dmaCh n).curSp) := by
  have hk := key_fstat_dma hn
  have hclr (u : State) {f : Field} (hf : 0x801000 * 32 ≤ f.key) : (u.clrFbit (fstatOf 11 n) (n % 32)).fld f = u.fld f :=
    fld_setFld_ne _ _ (by omega)
  rw [dmaCont_refetches h5 ha he hp]
  generalize hu : ((((s.setFld (DMA_CHSTAT_ERR n) 0).setDmaSt n 2).clrFbit (fstatOf 11 n) (n % 32)).setFld
      (DMA_CHSTAT_HOPS n) 0).setDma n { s.dmaCh n with errDesc := false } = u
  have hops : u.fld (DMA_CHSTAT_HOPS n) = 0 := by
    rw [← hu, fld_setDma, fld_setFld_same]; rfl
  have hlim : u.fld (DMA_HOPLIM_HOPLIM n) = s.fld (DMA_HOPLIM_HOPLIM n) := by
    rw [← hu, fld_setDma, fld_setFld_ne _ _ (by simp), hclr _ (by rw [key_DMA_HOPLIM]; omega), State.setDmaSt,
      fld_setFld_ne _ _ (by simp), fld_setFld_ne _ _ (by simp)]
  have hst : u.dmaSt n = 2 := by
    rw [← hu, State.dmaSt, fld_setDma, fld_setFld_ne _ _ (by simp), hclr _ (by rw [key_DMA_CHSTAT_STATE]; omega), State.setDmaSt,
      fld_setFld_same]
    rfl
  obtain ⟨hfld, h1, hf, -⟩ := dmaFetch_first (addr := (s.dmaCh n).curDesc) (sp := (s.dmaCh n).curSp) hops (hlim ▸ hl)
  exact ⟨(hfld _ (by simp)).trans hst, h1, hf⟩

/-- A grain that starts with the descriptor at DMA_HEAD. -/
theorem dmaGrainStart_head {s : State} (hon : s.isOff = false) {n : Nat} (hn : n < 64) (ha : s.dmaArmed n = true) (h1 : s.dmaSt n = 1)
    (hp : 0 < s.fld (DMA_CHSTAT_PEND n)) (hpause : s.flag (DMA_CTL_PAUSE n) = false) (h255 : s.fld (DMA_CHSTAT_PEND n) ≤ 255)
    (hg : s.fld (DMA_CFG_GRAIN n) = 0) (hl : 1 ≤ s.fld (DMA_HOPLIM_HOPLIM n)) :
    ∃ s', exec (.dmaGrainStart n) s = .next s' ∧ s'.dmaSt n = 2 ∧ s'.fld (DMA_CHSTAT_PEND n) = s.fld (DMA_CHSTAT_PEND n) - 1 ∧
      s'.fld (DMA_CHSTAT_HOPS n) = 1 ∧ (s'.dmaCh n).fetching = some (s.dmaHead n) ∧ (s'.dmaCh n).doneB = 0 := by
  obtain ⟨u, hu⟩ : ∃ u, u = (((s.setFld (DMA_CHSTAT_PEND n) (s.fld (DMA_CHSTAT_PEND n) - 1)).setFld (DMA_CHSTAT_HOPS n) 0).setDmaSt n
    2).setDma n { s.dmaCh n with beats := s.fld (DMA_BURST_BURST n) } := ⟨_, rfl⟩
  have hexec : exec (.dmaGrainStart n) s = .next (u.dmaFetch n (s.dmaHead n).1 (s.dmaHead n).2) := by
    refine (next_on hon).trans (congrArg Host.Outcome.next ?_)
    dsimp only
    rw [if_pos ⟨hn, ha, h1, hp, by simp [hpause]⟩, if_neg (by simp [hg]), if_pos hg, hu]
  have hops : u.fld (DMA_CHSTAT_HOPS n) = 0 := by
    rw [hu, fld_setDma, State.setDmaSt, fld_setFld_ne _ _ (by simp), fld_setFld_same]; rfl
  have hlim : u.fld (DMA_HOPLIM_HOPLIM n) = s.fld (DMA_HOPLIM_HOPLIM n) := by
    rw [hu, fld_setDma, State.setDmaSt, fld_setFld_ne _ _ (by simp), fld_setFld_ne _ _ (by simp), fld_setFld_ne _ _ (by simp)]
  have hst : u.fld (DMA_CHSTAT_STATE n) = 2 := by
    rw [hu, fld_setDma, State.setDmaSt, fld_setFld_same]; rfl
  have hpend : u.fld (DMA_CHSTAT_PEND n) = s.fld (DMA_CHSTAT_PEND n) - 1 := by
    rw [hu, fld_setDma, State.setDmaSt, fld_setFld_ne _ _ (by simp), fld_setFld_ne _ _ (by simp), fld_setFld_same]
    exact Nat.mod_eq_of_lt (show _ < 2 ^ 8 by omega)
  obtain ⟨hfld, h1', hf, hdone⟩ := dmaFetch_first (addr := (s.dmaHead n).1) (sp := (s.dmaHead n).2) hops (hlim ▸ hl)
  exact ⟨_, hexec, (hfld _ (by simp)).trans hst, (hfld _ (by simp)).trans hpend, h1', hf, hdone⟩

theorem dmaGrainStart_not_ready {s : State} (hon : s.isOff = false) {n : Nat} (h : ¬ (s.dmaArmed n = true ∧ s.dmaSt n = 1 ∧
    0 < s.fld (DMA_CHSTAT_PEND n) ∧ s.flag (DMA_CTL_PAUSE n) = false)) : exec (.dmaGrainStart n) s = .next s := by
  refine (next_on hon).trans (congrArg Host.Outcome.next (if_neg ?_))
  rintro ⟨-, ha, h1, hp, hpause⟩
  exact h ⟨ha, h1, hp, Bool.eq_false_of_not_eq_true hpause⟩

/-! The answer to a descriptor read (R219, R229). -/

section Fetch

variable {s : State} (hon : s.isOff = false) {n : Nat} (hn : n < 64) (data : List Byte)
include hon

theorem descriptorFetch_idle (hf : (s.dmaCh n).fetching = none) (ok : Bool) : exec (.descriptorFetch n ok data) s = .next s := by
  refine (next_on hon).trans (congrArg Host.Outcome.next ?_)
  simp only [hf]

variable {a sp : Nat} (hf : (s.dmaCh n).fetching = some (a, sp))
include hf

/-- A descriptor read that fails. -/
theorem descriptorFetch_error : ∃ u, exec (.descriptorFetch n false data) s = .next (State.dmaHalt u n 7 true) := by
  refine ⟨if s.dmaMemErr sp a 32 then s.raise 1 srcDmecc else s, (next_on hon).trans (congrArg Host.Outcome.next ?_)⟩
  simp only [hf, Bool.false_eq_true, not_false_eq_true, true_or, if_true]

/-- A descriptor that comes is checked. -/
theorem descriptorFetch_read (hm : s.dmaMemErr sp a 32 = false) {d : DmaDesc} (hd : d = dmaDesc a sp (s.dmaData sp a 32 data)) :
    exec (.descriptorFetch n true data) s = .next (
      if d.bad then s.dmaHalt n 5 true
      else if d.outOfRange then s.dmaHalt n 6 true
      else if ¬ d.last ∧ d.next = a ∧ nextSpace d.nsp = sp then s.dmaHalt n 1 true
      else (s.setDma n { s.dmaCh n with fetching := none, desc := some d }).dmaPump n) := by
  refine (next_on hon).trans (congrArg Host.Outcome.next ?_)
  simp only [hf, hm, not_true_eq_false, Bool.false_eq_true, or_self, if_false, hd]

/-- A descriptor read that is not answered. -/
theorem dmaTimeout_fetch : exec (.dmaTimeout n 0) s = .next ((s.spaceTimeout (s.dmaCh n).curSp).dmaHalt n 2 true) :=
  (next_on hon).trans (congrArg Host.Outcome.next (if_pos ⟨rfl, by simp [hf]⟩))

end Fetch

/-- A read of host memory that ran out of time is a completion timeout of the host port. -/
theorem dmaHalt_hostTimeout (s : State) {n : Nat} (hn : n < 64) (atDesc : Bool) :
    ((s.spaceTimeout 3).dmaHalt n 2 atDesc).srcSet 22 1 = true ∧
    ((s.spaceTimeout 3).dmaHalt n 2 atDesc).fld PCH_ERRCNT_CTO = satInc PCH_ERRCNT_CTO.width (s.fld PCH_ERRCNT_CTO) := by
  have hkeep {f : Field} (hk : 0xF00000 * 32 ≤ f.key ∧ f.key < 0xF10000 * 32) (u : State) : (u.dmaHalt n 2 atDesc).fld f = u.fld f := by
    refine fld_dmaHalt u atDesc ?_ (by omega)
    rintro (h | h | h | h | h)
    · have := key_fstat_dma hn; omega
    · simp only [Field.key, FLT_BLKSTAT_STATE] at h hk; omega
    · simp only [Field.key, FLT_BLKINC_INCIDENT] at h hk; omega
    · simp only [Field.key, FLT_INCNEXT_VALUE] at h hk; omega
    · rw [eventKey_iff] at h; omega
  rw [State.spaceTimeout, if_pos rfl]
  refine ⟨?_, ?_⟩
  · rw [srcSet_of_fld (hkeep (by decide) _)]
    exact srcSet_raise rfl (by simp [State.dormantMute])
  · rw [hkeep (by decide), fld_raise _ (by simp only [raiseKey, eventKey_iff]; decide), State.inc, fld_setFld_same]
    refine Nat.mod_eq_of_lt ?_
    have := Nat.two_pow_pos PCH_ERRCNT_CTO.width
    rw [satInc]
    split <;> omega

/-! The answers to beats (R220, R225, R229). -/

section Beats

variable {s : State} (hon : s.isOff = false) {n : Nat} (data : List Byte) {d : DmaDesc} (hd : (s.dmaCh n).desc = some d)
  (h5 : s.dmaSt n ≠ 5)
include hon

theorem dmaTimeout_read (hr : (s.dmaCh n).rd ≠ []) : ∃ u, exec (.dmaTimeout n 1) s = .next (State.dmaHalt u n 3 false) :=
  ⟨_, (next_on hon).trans (congrArg Host.Outcome.next ((if_neg (by simp)).trans (if_pos ⟨rfl, hr⟩)))⟩

include hd

theorem dmaTimeout_write {a : Nat} {bs : List Byte} {rest : List (Nat × List Byte)} (hw : (s.dmaCh n).wr = (a, bs) :: rest) :
    ∃ s1, exec (.dmaTimeout n 2) s = .next (State.dmaHalt s1 n 4 false) ∧
      (s1 = { s with freeCtr := s.freeCtr + 1 } ∨ s1 = ({ s with freeCtr := s.freeCtr + 1 }).dmaBeatWrite d.dsp a bs) := by
  refine ⟨if (s.free 2).1 = 0 ∨ d.dsp = 2 then (s.free 2).2 else (s.free 2).2.dmaBeatWrite d.dsp a bs,
    (next_on hon).trans (congrArg Host.Outcome.next ?_), ?_⟩
  · simp [hw, hd]
  · split
    · exact .inl rfl
    · exact .inr rfl

include h5

theorem dmaReadComplete_error {a : Nat} {rest : List Nat} (hr : (s.dmaCh n).rd = a :: rest) :
    ∃ u, exec (.dmaReadComplete n false data) s = .next (State.dmaHalt u n 7 false) := by
  refine ⟨if s.dmaMemErr d.ssp a d.sw then s.raise 1 srcDmecc else s, (next_on hon).trans (congrArg Host.Outcome.next ?_)⟩
  simp only [hr, hd, if_neg h5]
  cases s.dmaMemErr d.ssp a d.sw <;> simp

theorem dmaReadComplete_data {a : Nat} {rest : List Nat} (hr : (s.dmaCh n).rd = a :: rest) (hm : s.dmaMemErr d.ssp a d.sw = false)
    (hsp : d.ssp ≠ 2) : exec (.dmaReadComplete n true data) s = .next ((s.setDma n { s.dmaCh n with
      rd := rest, hold := (s.dmaCh n).hold ++ s.dmaData d.ssp a d.sw data }).dmaPump n) := by
  refine (next_on hon).trans (congrArg Host.Outcome.next ?_)
  simp [hr, hd, h5, hm, State.dmaBeatData, hsp]

theorem dmaWriteComplete_dram {a : Nat} {bs : List Byte} {rest : List (Nat × List Byte)} (hw : (s.dmaCh n).wr = (a, bs) :: rest)
    (hsp : d.dsp = 0) : exec (.dmaWriteComplete n) s = .next
      ((({ s with dram := memPut s.dram a bs }.setDma n { s.dmaCh n with wr := rest }).dmaBeatDone n d).dmaPump n) := by
  refine (next_on hon).trans (congrArg Host.Outcome.next ?_)
  have hch : ({ s with dram := memPut s.dram a bs } : State).dmaCh n = s.dmaCh n := rfl
  simp only [hw, hd, if_neg h5, hsp, State.dmaBeatWrite, hch, List.drop_one, List.tail_cons]

end Beats

/-- A command that halts a channel halts it with its code. -/
theorem halts_of {s : State} {i : Instr} {n err : Nat} {atDesc : Bool} (hn : n < 64) (he : err < 8)
    (h : ∃ u, exec i s = .next (State.dmaHalt u n err atDesc)) : ∃ s', exec i s = .next s' ∧ s'.dmaSt n = 5 ∧
      s'.fld (DMA_CHSTAT_ERR n) = err ∧ s'.srcSet 11 n = true ∧ (s'.dmaCh n).hold = [] ∧ (s'.dmaCh n).rd = [] ∧
      (s'.dmaCh n).wr = [] := by
  obtain ⟨u, hu⟩ := h
  obtain ⟨hst, herr, hsrc, hhold, hrd, hwr⟩ := halted_dmaHalt u hn he atDesc
  exact ⟨_, hu, hst, herr, hsrc, hhold, hrd, hwr⟩

/-- Settles O49: each command by the state of its channel; whatever halts a channel halts it the same way. -/
theorem dmaChannels : Obligations.DmaChannels := by
  intro s n data hon hn
  dsimp only
  have hnext {i : Instr} {u v : State} (h : exec i s = .next u) (huv : u = v) : exec i s = .next v := huv ▸ h
  refine ⟨fun ha => hnext (exec_dmaArm_on hon hn) (if_pos ha), fun ha hc => hnext (exec_dmaArm_on hon hn) (dmaArm_cycle ha hc),
    fun ha hc h5 => ⟨_, exec_dmaArm_on hon hn, dmaArm_spec ha hc h5⟩,
    fun ha hc h5 => hnext (exec_dmaArm_on hon hn) (dmaArm_halted ha hc h5),
    fun ha => hnext (exec_dmaAbort_on hon hn) (if_pos (by simp [ha])),
    fun ha h5 => hnext (exec_dmaAbort_on hon hn) (dmaAbort_halted ha h5),
    fun ha h2 h4 => hnext (exec_dmaAbort_on hon hn) (dmaAbort_draining ha h2 h4),
    fun ha h => ⟨_, hnext (exec_dmaAbort_on hon hn) (dmaAbort_idle ha h), dmaDisarm_spec s n⟩,
    fun h2 hrd hwr hf hd ha => ⟨_, exec_dmaPause_on hon hn true, dmaPause_drained h2 hrd hwr hf hd ha⟩,
    fun h2 => hnext (exec_dmaPause_on hon hn true) (dmaPause_other h2),
    fun h4 ha hm hd hf => hnext (exec_dmaPause_on hon hn false) (dmaPause_ended h4 ha hm hd hf), ⟨fun h => ?_, fun h => ?_⟩,
    fun k hk hp => (next_on hon).trans (congrArg Host.Outcome.next (if_pos ⟨hk, hp⟩)),
    fun h5 => ⟨hnext (exec_clrerr_on hon hn) (dmaClrErr_other h5), hnext (exec_cont_on hon hn) (dmaCont_other h5)⟩,
    fun h5 => ⟨_, exec_clrerr_on hon hn, dmaClrErr_spec hn h5⟩,
    fun h5 ha => (exec_cont_on hon hn).trans ((congrArg Host.Outcome.next (dmaCont_disarmed h5 ha)).trans (exec_clrerr_on hon hn).symm),
    fun h5 ha he => ⟨fun hg hb => hnext (exec_cont_on hon hn) (dmaCont_grain_ended h5 ha he hg hb),
      fun hg hp => hnext (exec_cont_on hon hn) (dmaCont_runs h5 ha he hg hp)⟩,
    fun h5 ha he hp hl => ⟨_, exec_cont_on hon hn, dmaCont_refetches_spec hn h5 ha he hp hl⟩,
    ⟨dmaGrainStart_not_ready hon, fun ⟨ha, h1, hp, hpause⟩ h255 hg hl => dmaGrainStart_head hon hn ha h1 hp hpause h255 hg hl⟩,
    fun hf ok => descriptorFetch_idle hon data hf ok, fun a sp hf => ?_, fun d a rest hd hr h5 => ?_, fun d a bs rest hd hw h5 => ?_⟩
  · obtain ⟨hgo, htrig⟩ := exec_trigger_on hon hn
    have heq := (dmaTrig_eq s n).trans (if_pos h)
    exact ⟨hnext hgo heq, hnext htrig heq⟩
  · obtain ⟨hgo, htrig⟩ := exec_trigger_on hon hn
    have heq := (dmaTrig_eq s n).trans (if_neg h)
    exact ⟨hnext hgo heq, hnext htrig heq⟩
  · have hread (hm : s.dmaMemErr sp a 32 = false) := descriptorFetch_read hon (n := n) data hf hm rfl
    refine ⟨halts_of hn (by decide) (descriptorFetch_error hon data hf),
      halts_of hn (by decide) ⟨_, dmaTimeout_fetch hon hf⟩, fun hsp => ?_, fun hm hb => ?_, fun hm hb ho => ?_,
      fun hm hb ho hself => ?_, fun hm hb ho hself => ?_⟩
    · have hexec := dmaTimeout_fetch hon hf
      rw [hsp] at hexec
      exact ⟨_, hexec, dmaHalt_hostTimeout s hn true⟩
    · exact halts_of hn (by decide) ⟨s, (hread hm).trans (congrArg Host.Outcome.next (if_pos hb))⟩
    · refine halts_of (atDesc := true) hn (by decide) ⟨s, (hread hm).trans (congrArg Host.Outcome.next ?_)⟩
      rw [if_neg (by simp [hb]), if_pos ho]
    · obtain ⟨hlast, hrest⟩ := hself
      refine halts_of (atDesc := true) hn (by decide) ⟨s, (hread hm).trans (congrArg Host.Outcome.next ?_)⟩
      rw [if_neg (by simp [hb]), if_neg (by simp [ho]), if_pos ⟨by simp [hlast], hrest⟩]
    · refine (hread hm).trans (congrArg Host.Outcome.next ?_)
      rw [if_neg (by simp [hb]), if_neg (by simp [ho]), if_neg]
      rintro ⟨hlast, hrest⟩
      exact hself ⟨Bool.eq_false_of_not_eq_true hlast, hrest⟩
  · exact ⟨halts_of hn (by decide) (dmaReadComplete_error hon data hd h5 hr),
      halts_of hn (by decide) (dmaTimeout_read hon (by simp [hr])), fun hm hsp => dmaReadComplete_data hon data hd h5 hr hm hsp⟩
  · exact ⟨fun hsp => dmaWriteComplete_dram hon hd h5 hw hsp, dmaTimeout_write hon hd hw⟩

end Sys2Proof.Machine

namespace Sys2Proof.Machine

/-! Beacons (R40, R42, R321). -/

/-- The beacon a Manager sends next, and the node once it is sent. -/
def State.nextBeacon (s : State) : Beacon := ⟨s.pos.bcnSeq, s.wpos, s.fld TIM_VEL_VEL, 0, s.inhibit⟩
def State.beaconSent (s : State) : State :=
  { s with pos := { s.pos with bcnSeq := (s.pos.bcnSeq + 1) % 2 ^ 32 } }.beaconOut s.nextBeacon

theorem fld_rawOut (s : State) (d : Nat) (m : RingFrame) (f : Field) : (s.rawOut d m).fld f = s.fld f := by
  rw [State.rawOut]; split <;> rfl

theorem peers_rawOut (s : State) (d : Nat) (m : RingFrame) : (s.rawOut d m).peers = s.peers := by
  rw [State.rawOut]; split <;> rfl

theorem mirror_rawOut (s : State) (d : Nat) (m : RingFrame) : (s.rawOut d m).mirror = s.mirror := by
  rw [State.rawOut]; split <;> rfl

theorem mirror_beaconSent (s : State) : s.beaconSent.mirror = s.mirror := (mirror_rawOut _ 1 _).trans (mirror_rawOut _ 0 _)

theorem fld_beaconSent (s : State) (f : Field) : s.beaconSent.fld f = s.fld f :=
  (fld_rawOut _ 1 _ f).trans (fld_rawOut _ 0 _ f)

theorem peers_beaconSent (s : State) : s.beaconSent.peers = s.peers := (peers_rawOut _ 1 _).trans (peers_rawOut _ 0 _)

theorem hasStandby_beaconSent (s : State) : s.beaconSent.hasStandby = s.hasStandby ∧ s.beaconSent.stbyEp = s.stbyEp := by
  simp only [State.hasStandby, State.isManager, State.role, State.stbyNode, State.stbyEp, fld_beaconSent, peers_beaconSent,
    mirror_beaconSent, and_true]
  rfl

section Send

variable {s : State} (hon : s.isOff = false) (hm : s.isManager = true) (hb : s.pwr.bcnStopped = false)
include hon hm hb

theorem exec_beaconSend_on : exec .beaconSend s = .next (if s.beaconSent.hasStandby then
    s.beaconSent.ringBoth (some s.beaconSent.stbyEp) (.watermark (s.beaconSent.fld FLT_MSEQ_MSEQ)
      (s.beaconSent.fld FLT_LASTSETTLED_MSEQ) (s.beaconSent.fld FLT_LASTEVENT_MSEQ))
    else s.beaconSent) :=
  (next_on hon).trans (congrArg Host.Outcome.next (if_pos ⟨hm, by simp [hb]⟩))

theorem beaconSend_alone (h : s.hasStandby = false) : exec .beaconSend s = .next s.beaconSent := by
  rw [exec_beaconSend_on hon hm hb, (hasStandby_beaconSent s).1, h]; rfl

theorem beaconSend_paired (h : s.hasStandby = true) : exec .beaconSend s = .next (s.beaconSent.ringBoth (some s.stbyEp)
    (.watermark (s.fld FLT_MSEQ_MSEQ) (s.fld FLT_LASTSETTLED_MSEQ) (s.fld FLT_LASTEVENT_MSEQ))) := by
  rw [exec_beaconSend_on hon hm hb, (hasStandby_beaconSent s).1, (hasStandby_beaconSent s).2, h, fld_beaconSent, fld_beaconSent,
    fld_beaconSent]
  rfl

end Send

section Links

variable {s : State} (hr : s.ringRuns = true) (ha : s.flag RNG_STATUS_WRAPA = false) (hb : s.flag RNG_STATUS_WRAPB = false)
include hr ha hb

theorem rawOut_unwrapped (d : Nat) {m : RingFrame} (hm : m.wrapped = false) :
    s.rawOut d m = s.emit (.ring d { m with lseq := 0xFFFF }) := by
  have hdir : s.ringDir d = d := by
    simp [State.ringDir, ha, hb]
  obtain ⟨dst, src, term, hops, wrapped, lseq, msg⟩ := m
  subst hm
  rw [State.rawOut, if_neg (by simp [hr]), hdir]
  simp

/-- With no link turned around each direction takes its own copy. -/
theorem beaconOut_out (b : Beacon) : (s.beaconOut b).out = s.out ++
    [.ring 0 { s.ownFrame none (.beacon b) with lseq := 0xFFFF }, .ring 1 { s.ownFrame none (.beacon b) with lseq := 0xFFFF }] := by
  rw [State.beaconOut, rawOut_unwrapped hr ha hb 0 rfl]
  have h1 (o : Out) : (s.emit o).rawOut 1 (s.ownFrame none (.beacon b)) =
      (s.emit o).emit (.ring 1 { s.ownFrame none (.beacon b) with lseq := 0xFFFF }) :=
    rawOut_unwrapped (s := s.emit o) hr ha hb 1 rfl
  rw [h1]
  simp [State.emit]

theorem beaconSent_out (hm : s.isManager = true) :
    let f : RingFrame := ⟨none, s.node, s.fld GLB_TERM_TERM, 0, false, 0xFFFF, .beacon s.nextBeacon⟩
    s.beaconSent.out = s.out ++ [.ring 0 f, .ring 1 f] := by
  have hsrc : s.ringSrc = s.node := by
    simp only [State.isManager, decide_eq_true_eq] at hm
    simp [State.ringSrc, hm]
  refine (beaconOut_out (s := { s with pos := { s.pos with bcnSeq := (s.pos.bcnSeq + 1) % 2 ^ 32 } }) hr ha hb _).trans ?_
  simp only [State.ownFrame]
  exact hsrc ▸ rfl

end Links

/-! The copies of a beacon (R42). -/

section Copies

variable {s : State} {h : Hdr} {c : Beacon} (ht : h.term ≤ s.fld GLB_TERM_TERM) (hc : s.pos.copyB = none)
include ht hc

omit ht in
theorem takeHeld_none : s.takeHeld = s := by
  rw [State.takeHeld]; simp only [hc]

theorem followBeacon_eq : s.followBeacon h c =
    if h.dir = 0 then s.takeCopy 0 c s.time.cycles
    else if (s.firstCopy c.seq).isSome then s.checkCopy 1 c s.time.cycles
    else s.setPos { s.pos with copyB := some (c, s.time.cycles) } := by
  simp only [State.followBeacon, if_neg (Nat.not_lt.2 ht), takeHeld_none hc, hc, Option.any_none, Bool.false_eq_true, if_false]

theorem followBeacon_first_a (hd : h.dir = 0) (hf : s.firstCopy c.seq = none) :
    s.followBeacon h c = s.takeBeacon 0 c s.time.cycles := by
  rw [followBeacon_eq ht hc, if_pos hd, State.takeCopy, hf]
  rfl

theorem followBeacon_first_b (hd : h.dir ≠ 0) (hf : s.firstCopy c.seq = none) :
    s.followBeacon h c = { s with pos := { s.pos with copyB := some (c, s.time.cycles) } } := by
  rw [followBeacon_eq ht hc, if_neg hd, hf]
  rfl

/-- The other copy is only compared with the first. -/
theorem followBeacon_second {q : Nat} {pred : Int} {vel at1 : Nat} (hf : s.firstCopy c.seq = some (q, pred, vel, at1)) :
    s.followBeacon h c = if 2 ^ 32 < (s.predOf (if h.dir = 0 then 0 else 1) c -
        (pred + ((vel * 2 ^ 16 * (s.time.cycles - at1) / 800 : Nat) : Int))).natAbs then s.raise 0 5 else s := by
  rw [followBeacon_eq ht hc, State.takeCopy, hf]
  simp only [Option.isSome_some, if_true, State.checkCopy, hf, gt_iff_lt]
  by_cases hd : h.dir = 0
  · simp only [if_pos hd]
  · simp only [if_neg hd]

end Copies

section Arrival

variable {s : State} (hon : s.isOff = false) {h : Hdr} {c : Beacon} (ha : s.accepts h = true)
include hon ha

/-- A beacon that arrives goes on with its residence added, and is followed as it came. -/
theorem exec_beacon_accepted : ∃ r, r < 161 ∧
    let u := { s with freeCtr := s.freeCtr + 1 }.heard h (.beacon { c with resid := c.resid + r })
    exec (.beacon h c) s = .next (
      let s0 : State := if u.isManager then u else { u with pwr := { u.pwr with bcnStopped := false } }
      if s0.isWorker ∨ s0.isStandby then s0.followBeacon h c else s0) := by
  refine ⟨(s.free 161).1, Nat.mod_lt _ (by decide), ?_⟩
  refine (next_on hon).trans (congrArg Host.Outcome.next ?_)
  exact onFrame_accepts (s := { s with freeCtr := s.freeCtr + 1 }) _ ha

end Arrival

/-- Which role a node has excludes the others. -/
theorem role_exclusive (u : State) : (u.isManager = true → u.isWorker = false ∧ u.isStandby = false) ∧
    (u.isWorker = true ∨ u.isStandby = true → u.isManager = false) := by
  simp only [State.isManager, State.isWorker, State.isStandby, decide_eq_true_eq, decide_eq_false_iff_not]
  omega

/-! Missing beacons and the line master (R43, R44, R47). -/

section Missing

variable {s : State} (hon : s.isOff = false)
include hon

theorem deadReckoning_awake (h2 : s.fld TIM_STATUS_SRC = 2) (hd : s.pwr.dormantLow = false) :
    exec .deadReckoning s = .next ((s.setFld TIM_STATUS_SRC 3).raise 0 2) := by
  refine (next_on hon).trans (congrArg Host.Outcome.next ?_)
  rw [if_pos h2]
  exact if_neg (by simp [hd])

theorem deadReckoning_dormant (h2 : s.fld TIM_STATUS_SRC = 2) (hd : s.pwr.dormantLow = true) :
    ∃ r, exec .deadReckoning s = .next r ∧ r.fld TIM_STATUS_SRC = 3 ∧ r.pwr.bcnStopped = true ∧ r.srcSet 0 2 = s.srcSet 0 2 := by
  refine ⟨{ s.setFld TIM_STATUS_SRC 3 with pwr := { s.pwr with bcnStopped := true } }, ?_, ?_, rfl, ?_⟩
  · refine (next_on hon).trans (congrArg Host.Outcome.next ?_)
    rw [if_pos h2]
    exact if_pos hd
  · exact fld_setFld_same s TIM_STATUS_SRC 3
  · exact srcSet_of_fld (fld_setFld_ne s 3 (by decide))

theorem positionLost_awake (h3 : s.fld TIM_STATUS_SRC = 3) (hd : s.pwr.dormantLow = false) :
    exec .positionLost s = .next ((s.setFld TIM_STATUS_POSLOST 1).raise 0 3) := by
  refine (next_on hon).trans (congrArg Host.Outcome.next ?_)
  rw [if_pos h3]
  exact if_neg (by simp [hd])

theorem positionLost_dormant (h3 : s.fld TIM_STATUS_SRC = 3) (hd : s.pwr.dormantLow = true) :
    exec .positionLost s = .next (s.setFld TIM_STATUS_POSLOST 1) := by
  refine (next_on hon).trans (congrArg Host.Outcome.next ?_)
  rw [if_pos h3]
  exact if_pos hd

theorem lineMasterEdge_manager (hm : s.isManager = true) {interval : Nat} (h : interval ≠ 0) :
    exec (.lineMasterEdge interval) s = .next ((s.incWrap TIM_LMCNT_VALUE).setFld TIM_LMRATE_VALUE
      (s.fld TIM_LMSCALE_VALUE * 16000000000 / (interval * 2 ^ 24))) :=
  (next_on hon).trans (congrArg Host.Outcome.next (if_pos ⟨hm, h⟩))

theorem lineMasterEdge_other {interval : Nat} (h : s.isManager = false ∨ interval = 0) :
    exec (.lineMasterEdge interval) s = .next (s.incWrap TIM_LMCNT_VALUE) :=
  (next_on hon).trans (congrArg Host.Outcome.next (if_neg fun hm => h.elim (by simp [hm.1]) hm.2))

end Missing

/-- Settles O42: what is sent by the links, what arrives by the role, a second copy by its difference. -/
theorem beaconsAndLineMaster : Obligations.BeaconsAndLineMaster := by
  intro s interval hon
  dsimp only
  refine ⟨fun hm hb => ⟨beaconSend_alone hon hm hb, beaconSend_paired hon hm hb, fun hr ha hw => beaconSent_out hr ha hw hm⟩,
    fun hm => (next_on hon).trans (congrArg Host.Outcome.next (if_neg (by simp [hm]))), deadReckoning_awake hon,
    deadReckoning_dormant hon, positionLost_awake hon, positionLost_dormant hon, fun hm hi => lineMasterEdge_manager hon hm hi,
    lineMasterEdge_other hon, fun hm he => (next_on hon).trans (congrArg Host.Outcome.next (if_pos ⟨hm, he⟩)),
    fun h c ha => ?_, fun h c ht hc => ⟨followBeacon_first_a ht hc, followBeacon_first_b ht hc, fun q pred vel at1 hf =>
      ⟨fun hd => (followBeacon_second ht hc hf).trans (if_pos hd),
        fun hd => (followBeacon_second ht hc hf).trans (if_neg (Nat.not_lt.2 hd))⟩⟩⟩
  obtain ⟨r, hr, hexec⟩ := exec_beacon_accepted (c := c) hon ha
  refine ⟨r, hr, ?_⟩
  revert hexec
  dsimp only
  generalize State.heard _ h _ = u
  obtain ⟨hmgr, hother⟩ := role_exclusive u
  intro hexec
  refine ⟨fun hm => hexec.trans (congrArg Host.Outcome.next ?_), fun hw => hexec.trans (congrArg Host.Outcome.next ?_)⟩
  · obtain ⟨hnw, hns⟩ := hmgr hm
    rw [if_pos hm, if_neg (by simp [hnw, hns])]
  · rw [if_neg (show ¬ u.isManager = true by simp [hother hw])]
    exact if_pos hw

end Sys2Proof.Machine

namespace Sys2Proof.Machine

/-! The escrow stays as the blocks' audits run. -/

@[simp] theorem esc_ite (c : Prop) [Decidable c] (s t : State) : (if c then s else t).esc = if c then s.esc else t.esc :=
  apply_ite _ c s t

@[simp] theorem esc_foldl {α : Type} {f : State → α → State} (h : ∀ u a, (f u a).esc = u.esc) (l : List α) (s : State) :
    (l.foldl f s).esc = s.esc := by
  induction l generalizing s with
  | nil => rfl
  | cons a l ih => rw [List.foldl_cons, ih, h]

@[simp] theorem esc_setFld (s : State) (f : Field) (v : Nat) : (s.setFld f v).esc = s.esc := esc_of_quiet (quiet_setFld ..)

@[simp] theorem esc_setOn (s : State) (f : Field) : (s.setOn f).esc = s.esc := esc_of_quiet (quiet_setOn ..)

@[simp] theorem esc_setOff (s : State) (f : Field) : (s.setOff f).esc = s.esc := esc_of_quiet (quiet_setOff ..)

@[simp] theorem esc_setBool (s : State) (f : Field) (b : Bool) : (s.setBool f b).esc = s.esc := esc_of_quiet (quiet_setBool ..)

@[simp] theorem esc_inc (s : State) (f : Field) : (s.inc f).esc = s.esc := esc_of_quiet (quiet_inc ..)

@[simp] theorem esc_setFbit (s : State) (f : Field) (i : Nat) : (s.setFbit f i).esc = s.esc := esc_of_quiet (quiet_setFbit ..)

@[simp] theorem esc_emit (s : State) (o : Out) : (s.emit o).esc = s.esc := esc_of_quiet (quiet_emit ..)

@[simp] theorem esc_free (s : State) (m : Nat) : (s.free m).2.esc = s.esc := esc_of_quiet (quiet_free ..)

@[simp] theorem esc_msix (s : State) (vec : Nat) : (s.msix vec).esc = s.esc := esc_of_quiet (quiet_msix ..)

@[simp] theorem esc_recordWritten (s : State) (a : Nat) : (s.recordWritten a).esc = s.esc := esc_of_quiet (quiet_recordWritten ..)

@[simp] theorem esc_mbIrq (s : State) (a : Nat) : (s.mbIrq a).esc = s.esc := esc_of_quiet (quiet_mbIrq ..)

@[simp] theorem esc_hostDo (s : State) (x : HostItem) : (s.hostDo x).esc = s.esc := esc_of_quiet (quiet_hostDo ..)

@[simp] theorem esc_setLink (s : State) (d : Nat) (l : Link) : (s.setLink d l).esc = s.esc := esc_of_quiet (quiet_setLink ..)

@[simp] theorem esc_frameOut (s : State) (d : Nat) (f : RingFrame) :
    (s.frameOut d f).esc = s.esc := esc_of_quiet (quiet_frameOut ..)

@[simp] theorem esc_ringSend1 (s : State) (d : Nat) (dst : Option Nat) (m : RingMsg) :
    (s.ringSend1 d dst m).esc = s.esc := esc_of_quiet (quiet_ringSend1 ..)

@[simp] theorem esc_ringBoth (s : State) (dst : Option Nat) (m : RingMsg) :
    (s.ringBoth dst m).esc = s.esc := esc_of_quiet (quiet_ringBoth ..)

@[simp] theorem esc_mirrorSend (s : State) (teller status inst aux : Nat) (d : MirData) :
    (s.mirrorSend teller status inst aux d).esc = s.esc := esc_of_quiet (quiet_mirrorSend ..)

@[simp] theorem esc_hostOut (s : State) (i : HostItem) : (s.hostOut i).esc = s.esc := esc_of_quiet (quiet_hostOut ..)

@[simp] theorem esc_writeRecord (s : State) (a : Nat) (r : EventRec) :
    (s.writeRecord a r).esc = s.esc := esc_of_quiet (quiet_writeRecord ..)

@[simp] theorem esc_setHeld (s : State) (a : Nat) (l : List EventRec) :
    (s.setHeld a l).esc = s.esc := esc_of_quiet (quiet_setHeld ..)

@[simp] theorem esc_appendRecord (s : State) (a : Nat) (mk : Nat → Nat → EventRec) :
    (s.appendRecord a mk).esc = s.esc := esc_of_quiet (quiet_appendRecord ..)

@[simp] theorem esc_postAt (s : State) (a type detail sub incident wpos : Nat) (stby : Bool) :
    (s.postAt a type detail sub incident wpos stby).esc = s.esc := esc_of_quiet (quiet_postAt ..)

@[simp] theorem esc_postW (s : State) (a type detail sub incident wpos : Nat) :
    (s.postW a type detail sub incident wpos).esc = s.esc := esc_of_quiet (quiet_postW ..)

@[simp] theorem esc_post (s : State) (a type detail sub incident : Nat) :
    (s.post a type detail sub incident).esc = s.esc := esc_of_quiet (quiet_post ..)

@[simp] theorem esc_setBlk (s : State) (b v : Nat) : (s.setBlk b v).esc = s.esc := esc_of_quiet (quiet_setBlk ..)

@[simp] theorem esc_setIncident (s : State) (b : Nat) (i : Incident) :
    (s.setIncident b i).esc = s.esc := esc_of_quiet (quiet_setIncident ..)

@[simp] theorem esc_postFault (s : State) (b type detail : Nat) :
    (s.postFault b type detail).esc = s.esc := esc_of_quiet (quiet_postFault ..)

@[simp] theorem esc_setStore (s : State) (x : Store) : (s.setStore x).esc = s.esc := by
  simp [State.setStore]

@[simp] theorem esc_syncOutstand (s : State) : s.syncOutstand.esc = s.esc := by
  simp [State.syncOutstand]

@[simp] theorem esc_setNvme (s : State) (cid : Nat) (c : Option Nvme) : (s.setNvme cid c).esc = s.esc := by
  simp [State.setNvme]

@[simp] theorem esc_nvmeSend (s : State) (c0 : Nvme) : (s.nvmeSend c0).esc = s.esc := by
  simp [State.nvmeSend]

@[simp] theorem esc_offer (s : State) (c : Nvme) : (s.offer c).esc = s.esc := by
  simp [State.offer]

@[simp] theorem esc_pump (s : State) : s.pump.esc = s.esc := by
  simp [State.pump]

@[simp] theorem esc_setPlant (s : State) (p : Plant) : (s.setPlant p).esc = s.esc := by
  simp [State.setPlant]

@[simp] theorem esc_setScan (s : State) (n : Nat) (c : Scan) : (s.setScan n c).esc = s.esc := by
  simp [State.setScan]

@[simp] theorem esc_mapScan (s : State) (n : Nat) (f : Scan → Scan) : (s.mapScan n f).esc = s.esc := by
  simp [State.mapScan]

@[simp] theorem esc_loopSuspend (s : State) (n : Nat) : (s.loopSuspend n).esc = s.esc := by
  simp [State.loopSuspend]

@[simp] theorem esc_loopSuspendAll (s : State) : s.loopSuspendAll.esc = s.esc := by
  simp [State.loopSuspendAll]

@[simp] theorem esc_loopResume (s : State) (n : Nat) : (s.loopResume n).esc = s.esc := by
  simp [State.loopResume]

@[simp] theorem esc_loopResumeAll (s : State) : s.loopResumeAll.esc = s.esc := by
  simp [State.loopResumeAll]

@[simp] theorem esc_voidFromNext (s : State) (n reason incident : Nat) : (s.voidFromNext n reason incident).esc = s.esc := by
  simp [State.voidFromNext]

@[simp] theorem esc_gpwmDuty (s : State) (ls : Bool) (k duty : Nat) : (s.gpwmDuty ls k duty).2.esc = s.esc := by
  unfold State.gpwmDuty
  (repeat' split) <;> simp

@[simp] theorem esc_setHv (s : State) (h : Nat) (x : Hv) : (s.setHv h x).esc = s.esc := by
  simp [State.setHv]

@[simp] theorem esc_mapHv (s : State) (h : Nat) (f : Hv → Hv) : (s.mapHv h f).esc = s.esc := by
  simp [State.mapHv]

@[simp] theorem esc_hvTurnOff (s : State) (h : Nat) : (s.hvTurnOff h).esc = s.esc := by
  simp [State.hvTurnOff]

@[simp] theorem esc_setCal (s : State) (n : Nat) (c : Cal) : (s.setCal n c).esc = s.esc := by
  simp [State.setCal]

@[simp] theorem esc_calTrigger (s : State) (n : Nat) (host : Bool) : (s.calTrigger n host).esc = s.esc := by
  simp [State.calTrigger]

@[simp] theorem esc_setAud (s : State) (i : Nat) (a : AudEnt) : (s.setAud i a).esc = s.esc := by
  simp [State.setAud]

@[simp] theorem esc_mapAud (s : State) (i : Nat) (f : AudEnt → AudEnt) : (s.mapAud i f).esc = s.esc := by
  simp [State.mapAud]

@[simp] theorem esc_setHead (s : State) (n : Nat) (h : Head) : (s.setHead n h).esc = s.esc := by
  simp [State.setHead]

@[simp] theorem esc_mapHead (s : State) (n : Nat) (f : Head → Head) : (s.mapHead n f).esc = s.esc := by
  simp [State.mapHead]

@[simp] theorem esc_setTherm (s : State) (m : Nat) (x : Therm) : (s.setTherm m x).esc = s.esc := by
  simp [State.setTherm]

@[simp] theorem esc_mapTherm (s : State) (m : Nat) (f : Therm → Therm) : (s.mapTherm m f).esc = s.esc := by
  simp [State.mapTherm]

@[simp] theorem esc_hvLift (s : State) : s.hvLift.esc = s.esc := by
  simp [State.hvLift]

@[simp] theorem esc_retire (s : State) : s.retire.esc = s.esc := by
  simp [State.retire]

@[simp] theorem esc_relinquish (s : State) : s.relinquish.esc = s.esc := by
  simp [State.relinquish]

@[simp] theorem esc_driveOnline (s : State) (d : Nat) : (s.driveOnline d).esc = s.esc := by
  simp [State.driveOnline]

@[simp] theorem esc_setPos (s : State) (p : Posn) : (s.setPos p).esc = s.esc := by
  simp [State.setPos]

@[simp] theorem esc_syncInhibit (s : State) : s.syncInhibit.esc = s.esc := by
  simp [State.syncInhibit]

@[simp] theorem esc_portBlank (s : State) (b n reason : Nat) : (s.portBlank b n reason).esc = s.esc := by
  simp [State.portBlank]

@[simp] theorem esc_liftPorts (s : State) (f : Nat → State → State) (n : Nat) (hf : ∀ x0 u, (f x0 u).esc = u.esc) :
    (s.liftPorts f n).esc = s.esc := by
  induction n generalizing s with
  | zero => rfl
  | succ n ih => rw [State.liftPorts, hf, ih]

@[simp] theorem esc_lift (s : State) (b : Nat) : (s.lift b).esc = s.esc := by
  unfold State.lift
  split <;> simp

@[simp] theorem esc_audWho (s : State) (i : Nat) (who : Option Nat) : (s.audWho i who).esc = s.esc := by
  unfold State.audWho
  split <;> simp

@[simp] theorem esc_audAt (s : State) (x : Option Nat) : (s.audAt x).2.2.esc = s.esc := by
  unfold State.audAt
  split <;> simp

@[simp] theorem esc_driveTurn (s : State) (code from_ upto : Nat) : (s.driveTurn code from_ upto).esc = s.esc := by
  unfold State.driveTurn
  split <;> simp

@[simp] theorem esc_audSet (s : State) (i st pos : Nat) : (s.audSet i st pos).esc = s.esc := by
  simp [State.audSet]

@[simp] theorem esc_audRun (s : State) (i : Nat) : (s.audRun i).esc = s.esc := by
  unfold State.audRun
  dsimp only
  split <;> simp

@[simp] theorem esc_audWait (s : State) (i : Nat) (line : Option Nat) : (s.audWait i line).2.esc = s.esc := by
  simp [State.audWait]

@[simp] theorem esc_audRequest (s : State) (code : Nat) (who : Option Nat) (incident : Nat) :
    (s.audRequest code who incident).2.2.esc = s.esc := by
  unfold State.audRequest
  (repeat' split) <;> simp

@[simp] theorem esc_syncDefer (s : State) (b : Nat) : (s.syncDefer b).esc = s.esc := by
  simp [State.syncDefer]

@[simp] theorem esc_lastingHandOver (s : State) (b : Nat) : (s.lastingHandOver b).esc = s.esc := by
  simp [State.lastingHandOver]

@[simp] theorem esc_auditFailed (s : State) (b : Nat) : (s.auditFailed b).esc = s.esc := by
  simp [State.auditFailed]

@[simp] theorem esc_closeIncident (s : State) (b : Nat) : (s.closeIncident b).esc = s.esc := by
  simp [State.closeIncident]

@[simp] theorem esc_auditsPassed (s : State) (b : Nat) : (s.auditsPassed b).esc = s.esc := by
  simp [State.auditsPassed]

@[simp] theorem esc_wantSwap (s : State) (b : Nat) (w : Want) (new : List Want) : (s.wantSwap b w new).esc = s.esc := by
  simp [State.wantSwap]

@[simp] theorem esc_wantStep (s : State) (b : Nat) (w : Want) : (s.wantStep b w).esc = s.esc := by
  unfold State.wantStep
  dsimp only
  (repeat' split) <;> simp

@[simp] theorem esc_wants (s : State) (b : Nat) : (s.wants b).esc = s.esc := by
  simp [State.wants]

@[simp] theorem esc_blockTurn (s : State) (b : Nat) : (s.blockTurn b).esc = s.esc := by
  simp [State.blockTurn]

end Sys2Proof.Machine

namespace Sys2Proof.Machine

/-! A source event and what it leaves (R307, R308). -/

/-- The status word of a source that is heard takes its bit, and nothing else of the event reaches it. -/
theorem fld_raise_own {s : State} {b src : Nat} {f : Field} (hd : s.dormantMute b src = false)
    (hf : ¬ (f.key = (FLT_BLKSTAT_STATE b).key ∨ f.key = (FLT_BLKINC_INCIDENT b).key ∨ f.key = FLT_INCNEXT_VALUE.key ∨
      eventKey f.key)) : (s.raise b src).fld f = (s.setFbit (fstatOf b src) (src % 32)).fld f := by
  simp only [not_or] at hf
  obtain ⟨hst, hinc, hnext, he⟩ := hf
  have hblk (u : State) (v : Nat) : (u.setBlk b v).fld f = u.fld f := fld_setFld_ne u _ hst
  rw [State.raise]
  cases hm : s.srcMasked b src with
  | true => rw [raiseWith_of_masked none hd hm]
  | false =>
    by_cases h0 : s.blk b = 0
    · obtain ⟨n, u, hopen, -, hfld⟩ := openIncident_eq (s.setFbit (fstatOf b src) (src % 32)) b src none
      rw [raiseWith_of_normal none hd hm h0, hopen, fld_openNumbered_ne _ _ _ _ he hst hinc, hfld _ hnext]
    · by_cases hj : s.blk b = 1 ∨ s.blk b = 4
      · rw [raiseWith_of_joining none hd hm hj, fld_setIncident]
      · rw [raiseWith_of_auditing none hd hm h0 hj, hblk, fld_setIncident]

theorem escd_openNumbered (s : State) (b src n : Nat) : ((s.openNumbered b src n).incident b).escd = [] := by
  have hpost (u : State) : (u.postFault b 0x350 (b * 65536 + src)).incident b = u.incident b :=
    congrArg (tabGet Incident.none · b) (eventFrame_postFault u b 0x350 (b * 65536 + src)).incidents
  rw [State.openNumbered, State.setBlk, incident_setFld, hpost, incident_setTevMask, incident_setIncident_same]
  rfl

/-- A source event leaves what has escalated of a standing incident, and a new incident has escalated nothing. -/
theorem escd_raise (s : State) (b src : Nat) :
    ((s.raise b src).incident b).escd = (s.incident b).escd ∨ ((s.raise b src).incident b).escd = [] := by
  have hset (u : State) (v : Nat) : (u.setBlk b v).incident b = u.incident b := rfl
  rw [State.raise]
  cases hd : s.dormantMute b src with
  | true => rw [raiseWith_of_mute none hd]; exact .inl rfl
  | false =>
    cases hm : s.srcMasked b src with
    | true => rw [raiseWith_of_masked none hd hm]; exact .inl rfl
    | false =>
      by_cases h0 : s.blk b = 0
      · obtain ⟨n, u, hopen, -, -⟩ := openIncident_eq (s.setFbit (fstatOf b src) (src % 32)) b src none
        rw [raiseWith_of_normal none hd hm h0, hopen]
        exact .inr (escd_openNumbered u b src n)
      · by_cases hj : s.blk b = 1 ∨ s.blk b = 4
        · rw [raiseWith_of_joining none hd hm hj, incident_setIncident_same]; exact .inl rfl
        · rw [raiseWith_of_auditing none hd hm h0 hj, hset, incident_setIncident_same]; exact .inl rfl

/-! The clock supervisor's registers (R163 to R167). -/

theorem not_raiseKey_pll {f : Field} (h : 0x508000 * 32 ≤ f.key ∧ f.key < 0x508010 * 32 ∨ f.key = PLL_FMASK_SRC.key) (src : Nat) :
    ¬ raiseKey 6 src f.key := by
  rw [show PLL_FMASK_SRC.key = 0x508014 * 32 by decide] at h
  have hs : PLL_FSTAT_SRC.key = 0x508010 * 32 := by decide
  rintro (h' | h' | h' | h' | h')
  · rw [show fstatOf 6 src = PLL_FSTAT_SRC from rfl] at h'
    omega
  · simp only [Field.key, FLT_BLKSTAT_STATE] at h' h; omega
  · simp only [Field.key, FLT_BLKINC_INCIDENT] at h' h; omega
  · simp only [Field.key, FLT_INCNEXT_VALUE] at h' h; omega
  · rw [eventKey_iff] at h'; omega

theorem fld_raise_pll (s : State) {f : Field} (h : 0x508000 * 32 ≤ f.key ∧ f.key < 0x508010 * 32 ∨ f.key = PLL_FMASK_SRC.key)
    (src : Nat) : (s.raise 6 src).fld f = s.fld f := fld_raise s (not_raiseKey_pll h src)

/-- A source of the clock block that stands still stands after another event of it. -/
theorem srcSet_raise_pll {s : State} {x src : Nat} (hx : x < 9) (h : s.srcSet 6 x = true) : (s.raise 6 src).srcSet 6 x = true := by
  have hmute : s.dormantMute 6 src = false := by simp [State.dormantMute]
  have hkey : ¬ ((fstatOf 6 x).key = (FLT_BLKSTAT_STATE 6).key ∨ (fstatOf 6 x).key = (FLT_BLKINC_INCIDENT 6).key ∨
      (fstatOf 6 x).key = FLT_INCNEXT_VALUE.key ∨ eventKey (fstatOf 6 x).key) := by
    rw [eventKey_iff, show fstatOf 6 x = PLL_FSTAT_SRC from rfl]
    decide
  rw [State.srcSet, State.fbit, fld_raise_own hmute hkey]
  have hown : (s.setFbit (fstatOf 6 src) (src % 32)).fld (fstatOf 6 x) = (s.fld PLL_FSTAT_SRC ||| 2 ^ (src % 32)) % 2 ^ 9 :=
    fld_setFld_same s PLL_FSTAT_SRC _
  rw [State.srcSet, State.fbit] at h
  rw [hown, Nat.testBit_mod_two_pow, Nat.testBit_or, Nat.mod_eq_of_lt (by omega)]
  rw [Nat.mod_eq_of_lt (by omega)] at h
  simp only [hx, decide_true, Bool.true_and, Bool.or_eq_true]
  exact .inl h

/-- The state a reference that fails leaves: STATE in holdover, the references as they were. -/
theorem holdoverState_spec {s : State} (h : s.fld PLL_REFSTAT_STATE = 1) :
    (s.holdoverState.fld PLL_REFSTAT_STATE = 1 ∨ s.holdoverState.fld PLL_REFSTAT_STATE = 2) := by
  rw [State.holdoverState]
  split
  · exact .inl (fld_setFld_same s PLL_REFSTAT_STATE 1)
  · rw [if_neg (by omega), fld_raise_pll _ (by decide)]
    exact .inr (fld_setFld_same s PLL_REFSTAT_STATE 2)

/-- What the state in holdover leaves: the references' registers but STATE, and the sources that stand. -/
theorem holdoverState_keeps (s : State) : (∀ f : Field, 0x508000 * 32 ≤ f.key ∧ f.key < 0x508010 * 32 →
      f.key ≠ PLL_REFSTAT_STATE.key → s.holdoverState.fld f = s.fld f) ∧
    (∀ x, x < 9 → s.srcSet 6 x = true → s.holdoverState.srcSet 6 x = true) := by
  have hset (v : Nat) : (∀ f : Field, f.key ≠ PLL_REFSTAT_STATE.key → (s.setFld PLL_REFSTAT_STATE v).fld f = s.fld f) ∧
      ∀ x, (s.setFld PLL_REFSTAT_STATE v).srcSet 6 x = s.srcSet 6 x :=
    ⟨fun f h => fld_setFld_ne s v h, fun x => srcSet_of_fld (fld_setFld_ne s v (show PLL_FSTAT_SRC.key ≠ _ by decide))⟩
  rw [State.holdoverState]
  split
  · exact ⟨fun f _ h => (hset 1).1 f h, fun x _ h => ((hset 1).2 x).trans h⟩
  · split
    · exact ⟨fun _ _ _ => rfl, fun _ _ h => h⟩
    · exact ⟨fun f hf h => (fld_raise_pll _ (.inl hf) 8).trans ((hset 2).1 f h),
        fun x hx h => srcSet_raise_pll hx (((hset 2).2 x).trans h)⟩

/-- Holdover (R165): what it leaves, and that it begins where the selected reference was in use. -/
theorem holdover_spec (s : State) : (∀ f : Field, 0x508000 * 32 ≤ f.key ∧ f.key < 0x508010 * 32 →
      f.key ≠ PLL_REFSTAT_STATE.key → f.key ≠ PLL_REFSTAT_HOLDSEC.key → s.holdover.fld f = s.fld f) ∧
    (∀ x, x < 9 → s.srcSet 6 x = true → s.holdover.srcSet 6 x = true) ∧
    (s.fld PLL_REFSTAT_STATE = 0 → s.holdover.fld PLL_REFSTAT_STATE = 1 ∨ s.holdover.fld PLL_REFSTAT_STATE = 2) := by
  rw [State.holdover]
  split
  · obtain ⟨u, hu⟩ : ∃ u, u = ((({ s with refs := { s.refs with frozen := some s.refs.lastGood, windows := 0 } } : State).setFld
      PLL_REFSTAT_HOLDSEC 0).setFld PLL_REFSTAT_STATE 1) := ⟨_, rfl⟩
    have h1 : u.fld PLL_REFSTAT_STATE = 1 := by
      rw [hu]; exact fld_setFld_same _ PLL_REFSTAT_STATE 1
    have hf (f : Field) (h : f.key ≠ PLL_REFSTAT_STATE.key) (h' : f.key ≠ PLL_REFSTAT_HOLDSEC.key) : u.fld f = s.fld f := by
      rw [hu]; exact (fld_setFld_ne _ _ h).trans (fld_setFld_ne _ _ h')
    obtain ⟨hk, hsrc⟩ := holdoverState_keeps u
    refine ⟨fun f hb h h' => ?_, fun x hx h => ?_, fun _ => ?_⟩
    · rw [← hf f h h', ← hk f hb h, hu]
    · have := hsrc x hx ((srcSet_of_fld (b := 6) (hf PLL_FSTAT_SRC (by decide) (by decide))).trans h)
      rwa [hu] at this
    · have := holdoverState_spec h1
      rwa [hu] at this
  · exact ⟨fun _ _ _ _ => rfl, fun _ _ h => h, fun h => absurd (Or.inl h) (by assumption)⟩

/-- The registers of reference `r` that a dead reference changes, and those it leaves. -/
theorem refKeys {r : Nat} (hr : r < 2) : (refDead r).key ≠ (refHealthy r).key ∧ (refDead r).key ≠ (PLL_REFPPM_PPM r).key ∧
    (refHealthy r).key ≠ (PLL_REFPPM_PPM r).key ∧ PLL_REFSTAT_SEL.key ≠ (refDead r).key ∧ PLL_REFSTAT_SEL.key ≠ (refHealthy r).key ∧
    PLL_REFSTAT_SEL.key ≠ (PLL_REFPPM_PPM r).key ∧ PLL_REFSTAT_STATE.key ≠ (refDead r).key ∧
    PLL_REFSTAT_STATE.key ≠ (refHealthy r).key ∧ PLL_REFSTAT_STATE.key ≠ (PLL_REFPPM_PPM r).key := by
  interval_cases r <;> decide

/-- The registers a dead reference changes keep their values as the clock block goes on. -/
theorem refShown {r : Nat} (hr : r < 2) : ∀ f ∈ [refDead r, refHealthy r, PLL_REFPPM_PPM r],
    (0x508000 * 32 ≤ f.key ∧ f.key < 0x508010 * 32) ∧ f.key ≠ PLL_REFSTAT_STATE.key ∧ f.key ≠ PLL_REFSTAT_HOLDSEC.key := by
  interval_cases r <;> decide

section Reference

variable {s : State} (hon : s.isOff = false) {r : Nat} (hr : r < 2)
include hon hr

omit hr in
theorem referenceDead_again (hd : s.flag (refDead r) = true) : exec (.referenceDead r) s = .next s :=
  (next_on hon).trans (congrArg Host.Outcome.next (if_pos (.inr hd)))

/-- A reference that dies (R164). -/
theorem referenceDead_spec (hd : s.flag (refDead r) = false) : ∃ s', exec (.referenceDead r) s = .next s' ∧
    s'.flag (refDead r) = true ∧ s'.flag (refHealthy r) = false ∧ s'.srcSet 6 (6 + r) = true ∧
    s'.fld (PLL_REFPPM_PPM r) = 0x80000000 ∧
    (r = s.fld PLL_REFSTAT_SEL → s.fld PLL_REFSTAT_STATE = 0 →
      s'.fld PLL_REFSTAT_STATE = 1 ∨ s'.fld PLL_REFSTAT_STATE = 2) := by
  obtain ⟨hdh, hdp, hhp, hsel1, hsel2, hsel3, hst1, hst2, hst3⟩ := refKeys hr
  let s1 : State := ((s.setFld (refDead r) 1).setFld (refHealthy r) 0).setFld (PLL_REFPPM_PPM r) 0x80000000
  obtain ⟨u, hu⟩ : ∃ u, u = ({ s1 with refs := s1.refs.setRuns r 0 0 } : State).raise 6 (6 + r) := ⟨_, rfl⟩
  have hfld {f : Field} (hf : 0x508000 * 32 ≤ f.key ∧ f.key < 0x508010 * 32) : u.fld f = s1.fld f := by
    rw [hu]; exact fld_raise_pll _ (.inl hf) _
  have hwidth : (refDead r).width = 1 ∧ (refHealthy r).width = 1 := by interval_cases r <;> exact ⟨rfl, rfl⟩
  have hdead : u.fld (refDead r) = 1 := by
    rw [hfld (refShown hr _ (by simp)).1, fld_setFld_ne _ _ hdp, fld_setFld_ne _ _ hdh, fld_setFld_same, hwidth.1]
    rfl
  have hhealthy : u.fld (refHealthy r) = 0 := by
    rw [hfld (refShown hr _ (by simp)).1, fld_setFld_ne _ _ hhp, fld_setFld_same, hwidth.2]
    rfl
  have hppm : u.fld (PLL_REFPPM_PPM r) = 0x80000000 := by
    rw [hfld (refShown hr _ (by simp)).1, fld_setFld_same]
    exact Nat.mod_eq_of_lt (show 0x80000000 < 2 ^ 32 by decide)
  have hsrc : u.srcSet 6 (6 + r) = true := by
    rw [hu]
    exact srcSet_raise (by interval_cases r <;> rfl) (by simp [State.dormantMute])
  have hsel : u.fld PLL_REFSTAT_SEL = s.fld PLL_REFSTAT_SEL := by
    rw [hfld (by decide), fld_setFld_ne _ _ hsel3, fld_setFld_ne _ _ hsel2, fld_setFld_ne _ _ hsel1]
  have hst : u.fld PLL_REFSTAT_STATE = s.fld PLL_REFSTAT_STATE := by
    rw [hfld (by decide), fld_setFld_ne _ _ hst3, fld_setFld_ne _ _ hst2, fld_setFld_ne _ _ hst1]
  have hexec : exec (.referenceDead r) s = .next (
      if r = u.fld PLL_REFSTAT_SEL ∨ u.fld PLL_REFSTAT_STATE = 3 then u.holdover
      else if u.fld PLL_REFSTAT_STATE = 0 then u else u.holdoverState) := by
    refine (next_on hon).trans (congrArg Host.Outcome.next ?_)
    rw [if_neg (by simp [hd, Nat.not_le.2 hr]), hu]
    rfl
  have hshown {v : State} (hk : ∀ f : Field, 0x508000 * 32 ≤ f.key ∧ f.key < 0x508010 * 32 → f.key ≠ PLL_REFSTAT_STATE.key →
      f.key ≠ PLL_REFSTAT_HOLDSEC.key → v.fld f = u.fld f) (hs : ∀ x, x < 9 → u.srcSet 6 x = true → v.srcSet 6 x = true) :
      v.flag (refDead r) = true ∧ v.flag (refHealthy r) = false ∧ v.srcSet 6 (6 + r) = true ∧
      v.fld (PLL_REFPPM_PPM r) = 0x80000000 := by
    have hkeep (f : Field) (hf : f ∈ [refDead r, refHealthy r, PLL_REFPPM_PPM r]) : v.fld f = u.fld f :=
      hk f (refShown hr f hf).1 (refShown hr f hf).2.1 (refShown hr f hf).2.2
    refine ⟨?_, ?_, hs _ (by omega) hsrc, (hkeep _ (by simp)).trans hppm⟩
    · rw [State.flag, hkeep _ (by simp), hdead]; rfl
    · rw [State.flag, hkeep _ (by simp), hhealthy]; rfl
  refine ⟨_, hexec, ?_⟩
  rw [← and_assoc, ← and_assoc, ← and_assoc]
  obtain ⟨hk, hs, hstart⟩ := holdover_spec u
  split
  · obtain ⟨h1, h2, h3, h4⟩ := hshown hk hs
    exact ⟨⟨⟨⟨h1, h2⟩, h3⟩, h4⟩, fun _ h0 => hstart (hst.trans h0)⟩
  · rename_i hno
    have hother (v : State) : r = s.fld PLL_REFSTAT_SEL → s.fld PLL_REFSTAT_STATE = 0 →
        v.fld PLL_REFSTAT_STATE = 1 ∨ v.fld PLL_REFSTAT_STATE = 2 := fun hrs => absurd (.inl (hrs.trans hsel.symm)) hno
    split
    · obtain ⟨h1, h2, h3, h4⟩ := hshown (v := u) (fun _ _ _ _ => rfl) fun _ _ h => h
      exact ⟨⟨⟨⟨h1, h2⟩, h3⟩, h4⟩, hother u⟩
    · obtain ⟨hk', hs'⟩ := holdoverState_keeps u
      obtain ⟨h1, h2, h3, h4⟩ := hshown (fun f hf h _ => hk' f hf h) hs'
      exact ⟨⟨⟨⟨h1, h2⟩, h3⟩, h4⟩, hother _⟩

theorem referenceEdgeReturn_dead (hd : s.flag (refDead r) = true) : exec (.referenceEdgeReturn r) s = .next
    { (s.setFld (refDead r) 0).setFld (PLL_REFPPM_PPM r) 0 with pwr := { s.pwr with coresHeld := false } } := by
  refine (next_on hon).trans (congrArg Host.Outcome.next ?_)
  rw [if_pos hr]
  simp only [hd, if_true]
  rfl

end Reference

/-! The switch of references (R166). -/

section Switch

variable {s : State} (hon : s.isOff = false)

/-- Every bound port in a gap has time enough at an allowed instant. -/
theorem gapEnough_of_switchInstant {n d : Nat} (hn : n < 4) (hi : s.switchInstant = true) (he : s.portEn n = true)
    (hidle : s.portIdle n = false) (him : s.portImaging n = false) (hg : s.gapLeft (s.portStn n) = some d) :
    250 * s.fld TIM_VEL_VEL ≤ d * 2 ^ 24 := by
  rw [State.switchInstant, List.all_eq_true] at hi
  have hp := hi n (by interval_cases n <;> simp)
  simpa [he, hidle, him, State.gapEnough, hg] using hp

include hon

theorem referenceSwitch_starts {q : Nat} (hq : s.refTarget = some q) (hi : s.switchInstant = true)
    (hst : s.fld PLL_REFSTAT_STATE = 1 ∨ s.fld PLL_REFSTAT_STATE = 2) : exec .referenceSwitch s =
    .next (({ s with refs := { s.refs with target := some q } }.setFld PLL_REFSTAT_STATE 3).inc PLL_SWCNT_COUNT) := by
  refine (next_on hon).trans (congrArg Host.Outcome.next ?_)
  simp only [hq]
  exact if_pos ⟨hi, hst.elim .inl fun h => .inr (.inl h)⟩

theorem referenceSwitch_waits (h : s.refTarget = none ∨ s.switchInstant = false) : exec .referenceSwitch s = .next s := by
  refine (next_on hon).trans (congrArg Host.Outcome.next ?_)
  cases ht : s.refTarget with
  | none => rfl
  | some q => exact if_neg fun hc => by simp [hc.1, ht] at h

/-- A switch ends in the normal state on its reference. -/
theorem referenceSwitchComplete_spec {q : Nat} (hq : q < 2) (ht : s.refs.target = some q) (hst : s.fld PLL_REFSTAT_STATE = 3) :
    ∃ s', exec .referenceSwitchComplete s = .next s' ∧ s'.fld PLL_REFSTAT_STATE = 0 ∧ s'.fld PLL_REFSTAT_SEL = q ∧
      s'.flag PLL_REFCTL_SWREQ = false ∧ s'.refs.frozen = none ∧ s'.refs.target = none := by
  obtain ⟨u, hu⟩ : ∃ u, u = (((s.setFld PLL_REFSTAT_SEL q).setFld PLL_REFSTAT_STATE 0).setFld PLL_REFCTL_SWREQ 0).setFld
    PLL_REFSTAT_HOLDSEC 0 := ⟨_, rfl⟩
  obtain ⟨v, hv⟩ : ∃ v : State, v = { u with refs := { u.refs with frozen := none, windows := 0, target := none } } := ⟨_, rfl⟩
  have hexec : exec .referenceSwitchComplete s = .next (v.refRecord 0x301 (u.fld (PLL_REFPPM_PPM q))) := by
    refine (next_on hon).trans (congrArg Host.Outcome.next ?_)
    rw [if_pos hst, ht, hv, hu]
    rfl
  have hfld {f : Field} (hf : ¬ eventKey f.key) : (v.refRecord 0x301 (u.fld (PLL_REFPPM_PPM q))).fld f = u.fld f := by
    rw [State.refRecord, fld_postIf _ hf, hv]; rfl
  have hrefs : (v.refRecord 0x301 (u.fld (PLL_REFPPM_PPM q))).refs = v.refs := by
    rw [State.refRecord]
    exact node_of_quiet (quiet_postIf ..) State.refs
  refine ⟨_, hexec, ?_, ?_, ?_, ?_, ?_⟩
  · rw [hfld (by rw [eventKey_iff]; decide), hu]
    simp (disch := decide) only [fld_setFld_ne, fld_setFld_same]
    rfl
  · rw [hfld (by rw [eventKey_iff]; decide), hu]
    simp (disch := decide) only [fld_setFld_ne, fld_setFld_same]
    exact Nat.mod_eq_of_lt hq
  · rw [State.flag, hfld (by rw [eventKey_iff]; decide), hu]
    simp (disch := decide) only [fld_setFld_ne, fld_setFld_same]
    rfl
  · rw [hrefs, hv]
  · rw [hrefs, hv]

end Switch

/-! Sixty seconds without a reference (R167, R169). -/

/-- A stop request that stands stands after another. -/
theorem stopRequest_keeps {s : State} (h : s.esc.stopReq = true) : s.stopRequest.esc.stopReq = true := by
  rw [State.stopRequest]
  split
  · split
    · rw [esc_escSync]; rfl
    · exact h
  · split
    · dsimp only
      rw [State.ringUni, esc_ringSend1, esc_free]
      exact h
    · exact h

/-- A stop request stands as a source of the clock block escalates. -/
theorem escalateSet_keeps_stop {s : State} (x : Nat) (h : s.esc.stopReq = true) : (s.escalateSet 6 x).esc.stopReq = true := by
  have hesc {u : State} (hu : s.escalate 6 x = some u) : u.esc.stopReq = true := by
    simp only [State.escalate] at hu
    split at hu
    · obtain rfl := Option.some.inj hu
      rw [esc_portBlank, esc_mapScan]
      exact h
    · split at hu
      · obtain rfl := Option.some.inj hu
        exact stopRequest_keeps h
      · cases hu
  rw [State.escalateSet]
  split
  · split
    · rename_i u hu
      rw [esc_setOn, esc_setIncident]
      exact hesc hu
    · exact h
  · exact h

theorem foldl_escalateSet_keeps_stop (l : List Nat) : ∀ s : State, s.esc.stopReq = true →
    (l.foldl (fun s x => s.escalateSet 6 x) s).esc.stopReq = true := by
  induction l with
  | nil => exact fun _ h => h
  | cons x l ih => exact fun s h => ih _ (escalateSet_keeps_stop x h)

/-- A stop request stands as the block's grace period ends. -/
theorem graceEnd_keeps_stop {s : State} (h : s.esc.stopReq = true) : (s.graceEnd 6).esc.stopReq = true := by
  have h2 (i : Incident) (l : List Nat) : (l.foldl (fun s x => s.escalateSet 6 x) (s.setIncident 6 i)).esc.stopReq = true :=
    foldl_escalateSet_keeps_stop l _ ((congrArg Esc.stopReq (esc_setIncident ..)).trans h)
  rw [State.graceEnd]
  dsimp only
  split
  · exact h2 _ _
  · split
    · rw [esc_auditsPassed, esc_setIncident, esc_setBlk]; exact h2 _ _
    · rw [esc_blockTurn, esc_setIncident, esc_setBlk]; exact h2 _ _

section Noref

variable {s : State} (hon : s.isOff = false)

/-- The node once NOREF is raised and REF_NONE posted. -/
def State.norefRaised (s : State) : State :=
  (s.raise 6 8).refRecord 0x302 (s.fld (PLL_REFPPM_PPM (s.fld PLL_REFSTAT_SEL)))

theorem fld_norefRaised {f : Field} (hr : ¬ raiseKey 6 8 f.key) : s.norefRaised.fld f = s.fld f := by
  rw [State.norefRaised, State.refRecord, fld_postIf _ fun h => hr (.inr (.inr (.inr (.inr h)))), fld_raise s hr]

theorem srcMasked_norefRaised : s.norefRaised.srcMasked 6 8 = s.srcMasked 6 8 :=
  congrArg (Nat.testBit · 8) (fld_norefRaised (f := PLL_FMASK_SRC) (not_raiseKey_pll (.inr rfl) 8))

theorem quiet_norefRaised : s.norefRaised.quiet = s.quiet := (quiet_postIf ..).trans (quiet_raise ..)

theorem srcSet_norefRaised : s.norefRaised.srcSet 6 8 = true := by
  rw [State.norefRaised, State.refRecord, srcSet_of_fld (fld_postIf _ (by rw [eventKey_iff]; decide))]
  exact srcSet_raise rfl (by simp [State.dormantMute])

theorem escd_norefRaised (h : (s.incident 6).escd.contains 8 = false) : (s.norefRaised.incident 6).escd.contains 8 = false := by
  have hpost (u : State) (a b : Field) (c d e f : Nat) : (u.postIf a b c d e f).incident 6 = u.incident 6 := by
    rw [State.postIf]
    split
    · exact congrArg (tabGet Incident.none · 6) (eventFrame_post u _ _ _ _ _).incidents
    · rfl
  rw [State.norefRaised, State.refRecord, hpost]
  rcases escd_raise s 6 8 with he | he <;> rw [he]
  · exact h
  · rfl

include hon

variable (hst : s.fld PLL_REFSTAT_STATE = 1 ∨ s.fld PLL_REFSTAT_STATE = 2)
include hst

theorem exec_norefTimeout_on : exec .norefTimeout s = .next (if s.norefRaised.srcMasked 6 8 then s.norefRaised else
    if (s.norefRaised.escalateSet 6 8).blk 6 = 1 then (s.norefRaised.escalateSet 6 8).graceEnd 6
    else s.norefRaised.escalateSet 6 8) :=
  (next_on hon).trans (congrArg Host.Outcome.next (if_pos hst))

theorem norefTimeout_masked (hm : s.srcMasked 6 8 = true) : exec .norefTimeout s = .next s.norefRaised := by
  rw [exec_norefTimeout_on hon hst, srcMasked_norefRaised, if_pos hm]

/-- Without a reference for too long the run is asked to end. -/
theorem norefTimeout_stops (hmgr : s.isManager = true) (hopen : s.esc.runOpen = true) (hm : s.srcMasked 6 8 = false)
    (he : (s.incident 6).escd.contains 8 = false) : ∃ s', exec .norefTimeout s = .next s' ∧ s'.esc.stopReq = true := by
  have hmgr' : s.norefRaised.isManager = true := by
    rw [State.isManager, State.role, fld_norefRaised (by simp only [raiseKey, eventKey_iff]; decide)]
    exact hmgr
  have hopen' : s.norefRaised.esc.runOpen = true := by rw [esc_of_quiet quiet_norefRaised]; exact hopen
  have hesc : (s.norefRaised.escalateSet 6 8).esc.stopReq = true := by
    rw [State.escalateSet, if_pos ⟨srcSet_norefRaised, escd_norefRaised he⟩]
    simp only [State.escalate, show ¬ 8 < 4 by decide, if_false, if_true]
    rw [esc_setOn, esc_setIncident, State.stopRequest, if_pos hmgr', if_pos hopen', esc_escSync]
    rfl
  refine ⟨_, exec_norefTimeout_on hon hst, ?_⟩
  rw [srcMasked_norefRaised, hm, if_neg (by decide)]
  split
  · exact graceEnd_keeps_stop hesc
  · exact hesc

end Noref

/-- Settles O45: each command by the state of the references; NOREF's stop request stands to the end of the grace period. -/
theorem referenceClocks : Obligations.ReferenceClocks := by
  intro s r a b hon hr
  dsimp only
  exact ⟨next_on hon, referenceDead_again hon, referenceDead_spec hon hr, referenceEdgeReturn_dead hon hr,
    fun q hq hi hst => referenceSwitch_starts hon hq hi hst,
    fun n d hn hi he hidle him hg => gapEnough_of_switchInstant hn hi he hidle him hg, referenceSwitch_waits hon,
    fun h => (next_on hon).trans (congrArg Host.Outcome.next (if_neg h)),
    fun q hq ht hst => referenceSwitchComplete_spec hon hq ht hst,
    fun h => (next_on hon).trans (congrArg Host.Outcome.next (if_pos h)),
    fun h => (next_on hon).trans (congrArg Host.Outcome.next (if_neg (by simp [h]))),
    fun hst hm ho hmask he => norefTimeout_stops hon hst hm ho hmask he, fun hst hm => norefTimeout_masked hon hst hm,
    fun h => (next_on hon).trans (congrArg Host.Outcome.next (if_neg (by simp [h])))⟩

end Sys2Proof.Machine

namespace Sys2Proof.Machine

/-! Calibration runs (R286 to R292). -/

@[simp] theorem cal_setCal (s : State) (n : Nat) (c : Cal) : (s.setCal n c).cal n = c :=
  tabGet_tabSet_same _ n c s.plant.cals

@[simp] theorem fld_setCal (s : State) (n : Nat) (c : Cal) (f : Field) : (s.setCal n c).fld f = s.fld f := rfl

@[simp] theorem fld_setPlant (s : State) (p : Plant) (f : Field) : (s.setPlant p).fld f = s.fld f := rfl

theorem fbit_setFld_ne (s : State) {f g : Field} (v i : Nat) (h : f.key ≠ g.key) : (s.setFld g v).fbit f i = s.fbit f i :=
  congrArg (Nat.testBit · i) (fld_setFld_ne s v h)

theorem cal_calBusy (s : State) (n k : Nat) (on : Bool) : (s.calBusy n on).cal k = s.cal k := by
  unfold State.calBusy
  split
  · cases on <;> rfl
  · rfl

section

variable {s : State} {n : Nat}

theorem calTrigger_host (h : n < 4 → s.portEn n = true) : s.calTrigger n true = s.setCal n (if (s.cal n).st = 2
    then { s.cal n with
      pend := true, host := true, first := if (s.cal n).st = 1 ∨ (s.cal n).pend = true then (s.cal n).first else ! s.emitHeld n }
    else { s.cal n with
      st := 1, host := true, first := if (s.cal n).st = 1 ∨ (s.cal n).pend = true then (s.cal n).first else ! s.emitHeld n }) := by
  rw [State.calTrigger, if_neg (show ¬ (n < 4 ∧ ¬ s.portEn n = true) from fun ⟨hn, hp⟩ => hp (h hn))]
  simp only [Bool.or_true]
  split <;> rfl

theorem calTrigger_of_unbound (hn : n < 4) (h : s.portEn n = false) (host : Bool) : s.calTrigger n host = s := by
  simp [State.calTrigger, hn, h]

/-- The calibration of a run that starts (R287). -/
def State.calRun (s : State) (n : Nat) : Cal := { s.cal n with
  st := 2, last := s.calTemp n, nmeas := s.fld CLB_NMEAS_SWEEPS, host := false, n := 0, tSum := 0, eSum := 0, seen := [],
  lost := false, began := s.time.cycles, first := false }

theorem execCalibrationStart_starts (hoff : s.isOff = false) (hn : n < 4) (h1 : (s.cal n).st = 1)
    (he : s.emitTest n = none) (hp : s.portEn n = true) : exec (.calibrationStart n) s =
      .next (((s.setCal n (s.calRun n)).setFld (CLB_T_TLAST n) (toTwos 16 (s.calTemp n))).calBusy n true) := by
  have hc : ¬ (n > 4 ∨ (s.cal n).st = 2 ∨ ¬ ((s.cal n).st = 1 ∨ s.calAuto n = true) ∨
      (n < 4 ∧ ((s.emitTest n).isSome = true ∨ ¬ s.portEn n = true))) := by simp [h1, he, hp]; omega
  refine (next_on hoff).trans (congrArg _ ?_)
  rw [if_neg hc]
  dsimp only
  rw [if_pos hn]
  rfl

theorem execCalibrationStart_waits (hoff : s.isOff = false) (h : (s.cal n).st = 2 ∨ (s.cal n).st = 0 ∧ s.calAuto n = false) :
    exec (.calibrationStart n) s = .next s := by
  have hc : n > 4 ∨ (s.cal n).st = 2 ∨ ¬ ((s.cal n).st = 1 ∨ s.calAuto n = true) ∨
      (n < 4 ∧ ((s.emitTest n).isSome = true ∨ ¬ s.portEn n = true)) := by
    rcases h with h | ⟨h0, ha⟩
    · exact .inr (.inl h)
    · exact .inr (.inr (.inl (by simp [h0, ha])))
  exact (next_on hoff).trans (congrArg _ (if_pos hc))

theorem calBusy_on (s : State) (hn : n < 4) : (s.calBusy n true).fbit CLB_STATUS_BUSY n = true ∧
    (s.calBusy n true).fbit EXP_STATUS_STALE n = true := by
  rw [State.calBusy, if_pos hn, if_pos rfl]
  have key : CLB_STATUS_BUSY.key ≠ EXP_STATUS_STALE.key := by decide
  exact ⟨(fbit_setFld_ne _ _ n key).trans (fbit_setFbit_same s hn), fbit_setFbit_same _ hn⟩

end

/-! The targets a run writes (R289, R290). -/

/-- The registers a run's delays are written to, and the flag of a clamped one. -/
def delayKey (k : Nat) : Prop := k = CLB_STATUS_DCLAMP.key ∨ 0x501000 * 32 ≤ k ∧ k < 0x502000 * 32

theorem delayKey_dlyTarget {n e : Nat} (hn : n < 4) (he : e < 256) : delayKey (dlyTarget n e).key := by
  right
  simp only [Field.key, dlyTarget, Field.up, SCN_DLY0_TARGET]
  omega

/-- A delay clamped to 0 to 32,767. -/
def clampDelay (d : Int) : Int := if d < 0 then 0 else if d > 32767 then 32767 else d

theorem clampDelay_toNat (d : Int) : (clampDelay d).toNat % 2 ^ 15 = min 32767 d.toNat := by
  unfold clampDelay
  split
  · omega
  · split <;> omega

/-- One delay of a run is written, clamped to 0 to 32,767. -/
def State.writeDelay (s : State) (n k : Nat) (temp : Int) (eos e : Nat) : State :=
  let d := s.delayTarget n e k temp eos
  if clampDelay d = d then s.setFld (dlyTarget n e) (clampDelay d).toNat
  else (s.setFld (dlyTarget n e) (clampDelay d).toNat).setOn CLB_STATUS_DCLAMP

theorem writeDelays_succ (s : State) (n k : Nat) (temp : Int) (eos e : Nat) :
    s.writeDelays n k temp eos (e + 1) = (s.writeDelay n k temp eos e).writeDelays n k temp eos e := rfl

theorem fld_writeDelay_ne (s : State) {n k : Nat} {temp : Int} {eos e : Nat} {f : Field} (ht : f.key ≠ (dlyTarget n e).key)
    (hc : f.key ≠ CLB_STATUS_DCLAMP.key) : (s.writeDelay n k temp eos e).fld f = s.fld f := by
  unfold State.writeDelay
  dsimp only
  split
  · exact fld_setFld_ne s _ ht
  · exact (fld_setFld_ne _ 1 hc).trans (fld_setFld_ne s _ ht)

theorem dlyTarget_ne_clamp (n e : Nat) : (dlyTarget n e).key ≠ CLB_STATUS_DCLAMP.key := by
  simp only [Field.key, dlyTarget, Field.up, SCN_DLY0_TARGET, CLB_STATUS_DCLAMP]
  omega

theorem fld_writeDelay_same (s : State) (n k : Nat) (temp : Int) (eos e : Nat) :
    (s.writeDelay n k temp eos e).fld (dlyTarget n e) = min 32767 (s.delayTarget n e k temp eos).toNat := by
  rw [← clampDelay_toNat]
  unfold State.writeDelay
  dsimp only
  split
  · exact fld_setFld_same ..
  · exact (fld_setFld_ne _ 1 (dlyTarget_ne_clamp n e)).trans (fld_setFld_same ..)

theorem plant_writeDelay (s : State) (n k : Nat) (temp : Int) (eos e : Nat) : (s.writeDelay n k temp eos e).plant = s.plant := by
  unfold State.writeDelay
  dsimp only
  split <;> rfl

/-- A delay target depends on none of the registers a run's delays are written to. -/
theorem delayTarget_congr {s t : State} (h : ∀ f : Field, ¬ delayKey f.key → t.fld f = s.fld f) (n e k : Nat) (temp : Int)
    (eos : Nat) (hn : n < 4) : t.delayTarget n e k temp eos = s.delayTarget n e k temp eos := by
  have clamp : CLB_STATUS_DCLAMP.key = 0xB00000 * 32 + 10 := by decide
  have at_ (f : Field) (hf : 0xB00004 * 32 ≤ f.key ∨ f.key < 0x501000 * 32) : t.fld f = s.fld f :=
    h f (by unfold delayKey; rw [clamp]; omega)
  have e1 := at_ (CLB_KX_DCEN n) (.inl (by simp only [Field.key, CLB_KX_DCEN]; omega))
  have e2 := at_ (CLB_KX_KX n) (.inl (by simp only [Field.key, CLB_KX_KX]; omega))
  have e3 := at_ (CLB_T_T0 n) (.inl (by simp only [Field.key, CLB_T_T0]; omega))
  have e4 := at_ (CLB_L0_VALUE n) (.inl (by simp only [Field.key, CLB_L0_VALUE]; omega))
  have e5 := at_ (dbaseField n e) (.inl (by simp only [Field.key, dbaseField, Field.up, CLB_DBASE0_DBASE]; omega))
  have e6 := at_ (SCN_CFG_EOSEN n) (.inr (by simp only [Field.key, SCN_CFG_EOSEN]; omega))
  have e7 := at_ (CLB_LATOFF_VALUE n) (.inl (by simp only [Field.key, CLB_LATOFF_VALUE]; omega))
  unfold State.delayTarget State.flag
  rw [e1, e2, e3, e4, e5, e6, e7]

theorem fld_writeDelays_above {n : Nat} (k : Nat) (temp : Int) (eos : Nat) {j : Nat} : ∀ (m : Nat) (s : State), m ≤ j →
    (s.writeDelays n k temp eos m).fld (dlyTarget n j) = s.fld (dlyTarget n j)
  | 0, _, _ => rfl
  | m + 1, s, h => by
    have hne : (dlyTarget n j).key ≠ (dlyTarget n m).key := by
      simp only [Field.key, dlyTarget, Field.up, SCN_DLY0_TARGET]
      omega
    rw [writeDelays_succ, fld_writeDelays_above k temp eos m _ (by omega), fld_writeDelay_ne s hne (dlyTarget_ne_clamp n j)]

theorem dlyTarget_writeDelays {n : Nat} (hn : n < 4) (k : Nat) (temp : Int) (eos : Nat) :
    ∀ (m : Nat) (s : State), m ≤ 256 → ∀ e, e < m →
      (s.writeDelays n k temp eos m).fld (dlyTarget n e) = min 32767 (s.delayTarget n e k temp eos).toNat
  | 0, _, _, _, he => absurd he (by omega)
  | m + 1, s, hm, e, he => by
    have hrest (f : Field) (hf : ¬ delayKey f.key) : (s.writeDelay n k temp eos m).fld f = s.fld f :=
      fld_writeDelay_ne s (fun h => hf (h ▸ delayKey_dlyTarget hn (by omega))) fun h => hf (.inl h)
    rw [writeDelays_succ]
    by_cases hem : e < m
    · rw [dlyTarget_writeDelays hn k temp eos m _ (by omega) e hem, delayTarget_congr hrest n e k temp eos hn]
    · obtain rfl : e = m := by omega
      rw [fld_writeDelays_above k temp eos e _ (by omega), fld_writeDelay_same]

theorem fld_writeGains (n : Nat) (cur : List (Nat × Nat)) {f : Field} (hf : f.key < 0x609000 * 32) :
    ∀ (e : Nat) (s : State), (s.writeGains n cur e).fld f = s.fld f
  | 0, _ => rfl
  | e + 1, s => by
    rw [State.writeGains, fld_writeGains n cur hf e]
    split
    · rfl
    · exact fld_setFld_ne s _ (by simp only [Field.key, EXP_GAIN_TARGET] at hf ⊢; omega)

theorem writeUnif_eq (s : State) (n : Nat) (cur : List (Nat × Nat)) :
    ∃ v, s.writeUnif n cur = s.setFld (CLB_RES_UNIFRES n) v := by
  unfold State.writeUnif
  generalize s.unifSum n cur 256 = r
  obtain ⟨sum, k⟩ := r
  exact ⟨_, rfl⟩

theorem fld_writeUnif (s : State) (n : Nat) (cur : List (Nat × Nat)) {f : Field} (hf : f.key < 0x609000 * 32) :
    (s.writeUnif n cur).fld f = s.fld f := by
  have hne : f.key ≠ (CLB_RES_UNIFRES n).key := by
    simp only [Field.key, CLB_RES_UNIFRES] at hf ⊢
    omega
  obtain ⟨v, hv⟩ := writeUnif_eq s n cur
  rw [hv, fld_setFld_ne _ _ hne]

theorem plant_writeUnif (s : State) (n : Nat) (cur : List (Nat × Nat)) : (s.writeUnif n cur).plant = s.plant := by
  obtain ⟨v, hv⟩ := writeUnif_eq s n cur
  rw [hv]
  rfl

theorem plant_writeDelays (n k : Nat) (temp : Int) (eos : Nat) : ∀ (e : Nat) (s : State),
    (s.writeDelays n k temp eos e).plant = s.plant
  | 0, _ => rfl
  | e + 1, s => by
    rw [writeDelays_succ, plant_writeDelays, plant_writeDelay]

theorem plant_writeGains (n : Nat) (cur : List (Nat × Nat)) : ∀ (e : Nat) (s : State), (s.writeGains n cur e).plant = s.plant
  | 0, _ => rfl
  | e + 1, s => by
    rw [State.writeGains, plant_writeGains]
    split <;> rfl

section

variable {s : State} {n : Nat} (hoff : s.isOff = false)
include hoff

theorem execCalibrationEnd_unmeasured (m : CalMeas) (h : s.calMeasured n = false) : exec (.calibrationEnd n m) s = .next s :=
  (next_on hoff).trans (congrArg _ (if_pos (.inr (by simp [h]))))

theorem execCalibrationEnd_port (m : CalMeas) (h : s.calMeasured n = true) (hn : n < 4) : ∃ s0 : State,
    exec (.calibrationEnd n m) s = .next ((((s0.calBusy n false).inc CLB_RUNCNT_COUNT).calNext n).auditAnswer (codeCal n) true 24) ∧
    (∀ e, e < 256 → s0.fld (dlyTarget n e) =
      min 32767 (s.delayTarget n e (s.cal n).n (s.cal n).tSum (s.cal n).eSum).toNat) ∧
    (s0.cal n).meas = some ((s.cal n).n, (s.cal n).tSum, (s.cal n).eSum) := by
  obtain ⟨c, hc⟩ : ∃ c, c = s.cal n := ⟨_, rfl⟩
  rw [← hc]
  refine ⟨(((s.setCal n { c with meas := some (c.n, c.tSum, c.eSum) }).writeDelays n c.n c.tSum c.eSum 256).writeGains n
    c.seen 256).writeUnif n c.seen, ?_, fun e he => ?_, ?_⟩
  · refine (next_on hoff).trans (congrArg _ ?_)
    rw [if_neg (show ¬ (n > 4 ∨ ¬ s.calMeasured n = true) by simp [h]; omega), if_pos hn, ← hc]
  · have hk : (dlyTarget n e).key < 0x609000 * 32 := by
      simp only [Field.key, dlyTarget, Field.up, SCN_DLY0_TARGET]; omega
    rw [fld_writeUnif _ _ _ hk, fld_writeGains _ _ hk, dlyTarget_writeDelays hn _ _ _ 256 _ (by decide) e he]
    rfl
  · have hp : (((((s.setCal n { c with meas := some (c.n, c.tSum, c.eSum) }).writeDelays n c.n c.tSum c.eSum 256).writeGains n
        c.seen 256).writeUnif n c.seen).plant) = (s.setCal n { c with meas := some (c.n, c.tSum, c.eSum) }).plant :=
      (plant_writeUnif ..).trans ((plant_writeGains ..).trans (plant_writeDelays ..))
    rw [State.cal, hp]
    exact congrArg Cal.meas (cal_setCal s n _)

theorem execCalibrationEnd_die (m : CalMeas) (h : s.calMeasured 4 = true) : exec (.calibrationEnd 4 m) s =
    .next ((((((s.writeDie m.zeros m.delays).writeThr (s.cal 4).seen 4).setPlant
      { ((s.writeDie m.zeros m.delays).writeThr (s.cal 4).seen 4).plant with dieWait := true }).calBusy 4 false).inc
        CLB_RUNCNT_COUNT).calNext 4 |>.auditAnswer (codeCal 4) true 24) := by
  refine (next_on hoff).trans (congrArg _ ?_)
  rw [if_neg (show ¬ (4 > 4 ∨ ¬ s.calMeasured 4 = true) by simp [h]), if_neg (show ¬ 4 < 4 by decide)]

theorem execCalibrationAbandon_idle (h : (s.cal n).st ≠ 2) : exec (.calibrationAbandon n) s = .next s :=
  (next_on hoff).trans (congrArg _ (if_neg fun h' => h h'.2))

theorem execCalibrationAbandon_runs (h : (s.cal n).st = 2) (hn : n ≤ 4) : ∃ s', exec (.calibrationAbandon n) s = .next s' ∧
    s'.srcSet 17 n = true := by
  refine ⟨s.calAbandon n, (next_on hoff).trans (congrArg _ (if_pos ⟨hn, h⟩)), ?_⟩
  have hsrc : sourceOk 17 n = true := by
    have all : ∀ n ≤ 4, sourceOk 17 n = true := by decide
    exact all n hn
  exact srcSet_raise hsrc (by simp [State.dormantMute])

end

/-! Registration marks (R293 to R295). -/

@[simp] theorem marks_setMarks (s : State) (k : Nat) (m : Marks) : (s.setMarks k m).marks k = m :=
  tabGet_tabSet_same _ k m s.plant.marks

/-- A bar that lies within ±MWIN lines of where it is expected, of a chevron of the table. -/
def State.BarNear (s : State) (b : Option (Nat × Nat × Int)) : Prop :=
  ∀ j q d, b = some (j, q, d) → d.natAbs ≤ s.markWin ∧ ∃ m, (j, m) ∈ s.plant.marks ∧ s.barOff m q = some d

theorem barNear_edgeBar (s : State) : s.BarNear s.edgeBar := by
  refine List.foldlRecOn s.plant.marks _ (motive := s.BarNear) (fun _ _ _ h => nomatch h) fun best hb km hkm => ?_
  refine List.foldlRecOn (List.range 16) _ (motive := s.BarNear) hb fun best hb stn _ => ?_
  cases hd : s.barOff km.2 stn with
  | none => exact hb
  | some d =>
    have pick (p : Prop) [Decidable p] (hp : p → d.natAbs ≤ s.markWin) :
        s.BarNear (if p then some (km.1, stn, d) else best) := by
      split
      · next h =>
        rintro j q d' ⟨⟩
        exact ⟨hp h, km.2, hkm, hd⟩
      · exact hb
    exact pick _ And.left

theorem seen_eq (m : Marks) (q : Nat) (d : Int) : m.seen q d =
    if tabGet none m.first q = none ∧ m.miss1.testBit q = false then { m with first := tabSet none m.first q (some d) }
    else { m with second := tabSet none m.second q (some d) } := by
  simp [Marks.seen]

theorem missed_eq (m : Marks) (q : Nat) : m.missed q =
    if tabGet none m.first q = none ∧ m.miss1.testBit q = false then { m with miss1 := m.miss1 ||| 2 ^ q }
    else { m with miss2 := m.miss2 ||| 2 ^ q } := by
  simp [Marks.missed]

theorem marks_of_plant {s u : State} (h : u.plant.marks = s.plant.marks) (k : Nat) : u.marks k = s.marks k :=
  congrArg (tabGet Marks.init · k) h

theorem marks_regStation (s : State) (ref : Int × Int) (m : Marks) (stn : Nat) :
    (s.regStation ref m stn).plant.marks = s.plant.marks := by
  have hres (u : State) (rp : Int) : (u.regResidual stn rp).plant.marks = u.plant.marks := rfl
  have hring (u : State) (x : RingMsg) : (u.ringBoth none x).plant = u.plant := node_of_quiet (quiet_ringBoth u none x) State.plant
  unfold State.regStation
  split
  · rfl
  · dsimp only
    split
    · exact hres ..
    · rw [hring]
      exact hres ..

theorem marks_regStations (ref : Int × Int) (m : Marks) (l : List Nat) (s : State) :
    (l.foldl (fun s n => s.regStation ref m n) s).plant.marks = s.plant.marks := by
  induction l generalizing s with
  | nil => rfl
  | cons n l ih => rw [List.foldl_cons, ih, marks_regStation]

theorem bars_any (s : State) (m : Marks) : ((List.range 16).any fun n => (s.barOff m n).isSome) = true ↔
    ∃ n, n < 16 ∧ s.barOff m n ≠ none := by
  simp [List.any_eq_true, Option.isSome_iff_ne_none]

section

variable {s : State} (hoff : s.isOff = false)
include hoff

theorem execMarkEdge_other {n : Nat} (h : s.registers = false ∨ n ≠ s.fld CLB_MKCFG_INPUT ∨ s.edgeBar = none) :
    exec (.markEdge n) s = .next s := by
  refine (next_on hoff).trans (congrArg _ ?_)
  split
  · rfl
  · next hc =>
    simp only [not_or, Bool.not_eq_true, Bool.not_eq_false, ne_eq, not_not] at hc
    rcases h with h | h | h
    · exact absurd h (by simp [hc.1])
    · exact absurd hc.2 h
    · rw [h]

theorem execMarkEdge_bar {n j q : Nat} {d : Int} (hr : s.registers = true) (hn : n = s.fld CLB_MKCFG_INPUT)
    (hb : s.edgeBar = some (j, q, d)) : exec (.markEdge n) s = .next (s.setMarks j ((s.marks j).seen q d)) := by
  refine (next_on hoff).trans (congrArg _ ?_)
  rw [if_neg (show ¬ (¬ s.registers = true ∨ n ≠ s.fld CLB_MKCFG_INPUT) by simp [hr, hn]), hb]

theorem execMissedMark_late {k stn : Nat} {d : Int} (hr : s.registers = true) (hs : stn < 16)
    (hb : s.barOff (s.marks k) stn = some d) (hd : (s.markWin : Int) < d) :
    exec (.missedMark k stn) s = .next ((s.setMarks k ((s.marks k).missed stn)).inc CLB_MISSMK_COUNT) := by
  refine (next_on hoff).trans (congrArg _ ?_)
  dsimp only
  rw [hb]
  exact if_pos ⟨hr, hs, hd⟩

theorem execMissedMark_early {k stn : Nat} (h : ¬ (s.registers = true ∧ stn < 16 ∧
    ∃ d, s.barOff (s.marks k) stn = some d ∧ (s.markWin : Int) < d)) : exec (.missedMark k stn) s = .next s := by
  refine (next_on hoff).trans (congrArg _ ?_)
  dsimp only
  split
  · next d hb => exact if_neg fun ⟨hr, hs, hd⟩ => h ⟨hr, hs, d, hb, hd⟩
  · rfl

theorem execRegistrationCorrection_waits {k : Nat} (h : s.registers = false ∨ s.marks k = Marks.init ∨
    ∃ n, n < 16 ∧ s.barOff (s.marks k) n ≠ none) : exec (.registrationCorrection k) s = .next s := by
  refine (next_on hoff).trans (congrArg _ (if_pos ?_))
  rw [bars_any]
  simpa using h

theorem execRegistrationCorrection_ends {k : Nat} (hr : s.registers = true) (hm : s.marks k ≠ Marks.init)
    (hb : ∀ n, n < 16 → s.barOff (s.marks k) n = none) : exec (.registrationCorrection k) s =
      .next (match markErrors (s.marks k) (s.fld CLB_MKCFG_REFST) with
        | none => s.setMarks k Marks.init
        | some ref => (List.range 16).foldl (fun u n => u.regStation ref (s.marks k) n) (s.setMarks k Marks.init)) := by
  refine (next_on hoff).trans (congrArg _ (if_neg ?_))
  rw [bars_any]
  rintro (h | h | ⟨n, hn, h⟩)
  · exact h hr
  · exact hm h
  · exact h (hb n hn)

end

/-! Audits (R297 to R302). -/

@[simp] theorem aud_setAud (s : State) (i : Nat) (a : AudEnt) : (s.setAud i a).aud i = a :=
  tabGet_tabSet_same _ i a s.plant.auds

theorem audKeys (i : Nat) : (AUD_STATE_STATE i).key = 0xB8010C * 32 + 512 * i ∧ (AUD_POS_POS i).key = 0xB80108 * 32 + 512 * i ∧
    (AUD_WHO_TELLERS i).key = 0xB80104 * 32 + 16 + 512 * i := by
  simp only [Field.key, AUD_STATE_STATE, AUD_POS_POS, AUD_WHO_TELLERS]
  omega

theorem audIdx_lt (code : Nat) : audIdx code < 256 := Nat.mod_lt _ (by decide)

theorem fld_driveTurn (s : State) (code a b : Nat) {f : Field} (hf : 0xB80000 * 32 ≤ f.key) :
    (s.driveTurn code a b).fld f = s.fld f := by
  unfold State.driveTurn
  split
  · next d hd =>
    have hlt : d < 256 := by
      unfold audDrive at hd
      split at hd
      · exact Option.some.inj hd ▸ audIdx_lt code
      · cases hd
    split
    · exact fld_setFld_ne s _ (by simp only [Field.key, STO_DRV_STATE] at hf ⊢; omega)
    · rfl
  · rfl

theorem state_audSet (s : State) (i st pos : Nat) : (s.audSet i st pos).fld (AUD_STATE_STATE i) = st % 8 := by
  have hne : (AUD_STATE_STATE i).key ≠ (AUD_POS_POS i).key := by have := audKeys i; omega
  exact (fld_setFld_ne (s.setFld (AUD_STATE_STATE i) st) _ hne).trans (fld_setFld_same ..)

theorem state_audRun (s : State) (i : Nat) : (s.audRun i).fld (AUD_STATE_STATE i) = 2 := by
  have hturn : ((s.audSet i 2 0).driveTurn (s.fld (AUD_CODE_CODE i)) 2 4).fld (AUD_STATE_STATE i) = 2 :=
    (fld_driveTurn _ _ _ _ (by have := audKeys i; omega)).trans (state_audSet ..)
  unfold State.audRun
  dsimp only
  split
  · exact hturn
  · exact hturn

theorem audDue_iff (s : State) (i : Nat) : s.audDue i = true ↔ s.fld (AUD_STATE_STATE i) = 1 ∧
    s.audGapNow (s.fld (AUD_CODE_CODE i)) = true ∧ ((s.aud i).known = true → (s.aud i).pos ≤ s.wpos) := by
  simp only [State.audDue, Bool.and_eq_true, decide_eq_true_eq, Bool.or_eq_true, Bool.not_eq_true', and_assoc]
  cases (s.aud i).known <;> simp

theorem audWait_line (s : State) (i l : Nat) : let u := (s.audWait i (some l)).2
    u.fld (AUD_STATE_STATE i) = 1 ∧ u.fld (AUD_POS_POS i) = l % 2 ^ 32 ∧ (u.aud i).known = true ∧ (u.aud i).pos = l * 2 ^ 16 := by
  refine ⟨state_audSet .., ?_, ?_, ?_⟩
  · exact (fld_setFld_same ..).trans (by rw [Nat.mul_div_cancel _ (by decide)]; rfl)
  · exact congrArg AudEnt.known (aud_setAud ..)
  · refine (congrArg AudEnt.pos (aud_setAud ..)).trans ?_
    exact congrArg AudEnt.pos (aud_setAud ..)

theorem audRequest_badArg {s : State} {code : Nat} (h : s.audCodeOk code = false) (who : Option Nat) (n : Nat) :
    s.audRequest code who n = (stBadArg, 0, s) := by
  rw [State.audRequest, h]
  rfl

theorem audEntry_none {s : State} (h : ∀ j, j < 16 → s.audHeld j = true) : s.audEntry = none := by
  have hfree : (List.range 16).find? (fun i => s.fld (AUD_STATE_STATE i) = 0) = none := by
    rw [List.find?_eq_none]
    intro j hj
    have := h j (List.mem_range.mp hj)
    simp only [State.audHeld, Bool.or_eq_true, decide_eq_true_eq] at this ⊢
    omega
  rw [State.audEntry, hfree]
  refine List.foldlRecOn (List.range 16) _ (motive := (· = none)) rfl fun best hb j hj => ?_
  rw [h j (List.mem_range.mp hj), if_pos rfl, hb]

theorem audRequest_busy {s : State} {code : Nat} (hok : s.audCodeOk code = true) (h : ∀ j, j < 16 → s.audHeld j = true)
    (hc : ∀ j, j < 16 → s.fld (AUD_CODE_CODE j) ≠ code) (who : Option Nat) (n : Nat) :
    s.audRequest code who n = (stBusy, 0, s) := by
  have hnone : (List.range 16).find? (fun i => s.audHeld i && s.fld (AUD_CODE_CODE i) = code) = none := by
    rw [List.find?_eq_none]
    intro j hj
    simp [hc j (List.mem_range.mp hj)]
  rw [State.audRequest, hok, hnone, audEntry_none h]
  rfl

/-- What an audit's completion enters in the unit: the result, the count, TEV.AUD of the tellers that waited, the record and
the lane. -/
def State.audEntered (q : State) (i : Nat) (pass : Bool) : State :=
  let s1 := (q.setFld (AUD_STATE_STATE i) (if pass then 3 else 4)).setAud i { q.aud i with done := q.plant.audSeq + 1 }
  let s2 := s1.setPlant { s1.plant with audSeq := s1.plant.audSeq + 1 }
  ((if pass then s2.inc AUD_PASSCNT_COUNT else s2.inc AUD_FAILCNT_COUNT).setTevMask
    (q.fld (AUD_WHO_TELLERS i)) tevAud 16).setFld (AUD_WHO_TELLERS i) 0

/-- The record of a completed audit, and the lane it has shown to be good. -/
def State.audTold (q u : State) (i code : Nat) (pass : Bool) : State :=
  let v := u.auditRecord code (q.fld (AUD_WHO_INCIDENT i)) pass
  if pass then v.lanePassed code else v

theorem lanePassed_keeps (s : State) (code : Nat) : (∀ f : Field, 0xB80000 * 32 ≤ f.key → (s.lanePassed code).fld f = s.fld f) ∧
    (s.lanePassed code).plant = s.plant ∧ (s.lanePassed code).tellers = s.tellers := by
  have hlt := audIdx_lt code
  unfold State.lanePassed
  dsimp only
  split
  · exact ⟨fun _ _ => rfl, rfl, rfl⟩
  · split
    · exact ⟨fun f hf => fld_setFld_ne s _ (by simp only [Field.key, HLK_STAT_SPBAD] at hf ⊢; omega), rfl, rfl⟩
    · split <;> exact ⟨fun _ _ => rfl, rfl, rfl⟩

theorem audTold_keeps (q u : State) (i code : Nat) (pass : Bool) :
    (∀ f : Field, 0xB80000 * 32 ≤ f.key → ¬ eventKey f.key → (q.audTold u i code pass).fld f = u.fld f) ∧
    (q.audTold u i code pass).plant = u.plant ∧ (q.audTold u i code pass).tellers = u.tellers := by
  obtain ⟨v, hv⟩ : ∃ v, v = u.auditRecord code (q.fld (AUD_WHO_INCIDENT i)) pass := ⟨_, rfl⟩
  have hevent : EventFrame u v := hv ▸ .ite (eventFrame_post ..) (.refl u)
  have hplant : v.plant = u.plant := hv ▸ node_of_quiet (quiet_postIf ..) State.plant
  unfold State.audTold
  rw [← hv]
  cases pass with
  | false => exact ⟨fun f _ he => hevent.fld f he, hplant, hevent.tellers⟩
  | true =>
    obtain ⟨hf, hp, ht⟩ := lanePassed_keeps v code
    exact ⟨fun f hk he => (hf f hk).trans (hevent.fld f he), hp.trans hplant, ht.trans hevent.tellers⟩

theorem audEntered_spec (q : State) (i : Nat) (pass : Bool) : let u := q.audEntered i pass
    u.fld (AUD_STATE_STATE i) = (if pass then 3 else 4) ∧ (u.aud i).done = q.plant.audSeq + 1 ∧
    u.fld AUD_PASSCNT_COUNT = (if pass then satInc 32 (q.fld AUD_PASSCNT_COUNT) else q.fld AUD_PASSCNT_COUNT) ∧
    u.fld (AUD_WHO_TELLERS i) = 0 ∧
    ∀ t, t < 16 → q.fbit (AUD_WHO_TELLERS i) t = true → (u.teller t).tev.getLsbD 23 = true := by
  have keys := audKeys i
  have passKey : AUD_PASSCNT_COUNT.key = 0xB80010 * 32 := by decide
  have failKey : AUD_FAILCNT_COUNT.key = 0xB80014 * 32 := by decide
  obtain ⟨s2, hs2⟩ : ∃ s2, s2 = ((q.setFld (AUD_STATE_STATE i) (if pass then 3 else 4)).setAud i
    { q.aud i with done := q.plant.audSeq + 1 }).setPlant { ((q.setFld (AUD_STATE_STATE i) (if pass then 3 else 4)).setAud i
    { q.aud i with done := q.plant.audSeq + 1 }).plant with audSeq := q.plant.audSeq + 1 } := ⟨_, rfl⟩
  have hstate : s2.fld (AUD_STATE_STATE i) = if pass then 3 else 4 := by
    rw [hs2]
    refine (fld_setFld_same ..).trans ?_
    cases pass <;> rfl
  have hother (f : Field) (h : f.key ≠ (AUD_STATE_STATE i).key) : s2.fld f = q.fld f := by
    rw [hs2]
    exact fld_setFld_ne q _ h
  have haud : (s2.aud i).done = q.plant.audSeq + 1 := by
    rw [hs2]
    exact congrArg AudEnt.done (aud_setAud ..)
  have htellers : s2.tellers = q.tellers := by rw [hs2]; rfl
  obtain ⟨s3, hs3⟩ : ∃ s3, s3 = if pass then s2.inc AUD_PASSCNT_COUNT else s2.inc AUD_FAILCNT_COUNT := ⟨_, rfl⟩
  have hu : q.audEntered i pass = (s3.setTevMask (q.fld (AUD_WHO_TELLERS i)) tevAud 16).setFld (AUD_WHO_TELLERS i) 0 := by
    rw [hs3, hs2]
    rfl
  have hs3f (f : Field) (h1 : f.key ≠ AUD_PASSCNT_COUNT.key) (h2 : f.key ≠ AUD_FAILCNT_COUNT.key) : s3.fld f = s2.fld f := by
    rw [hs3]
    split
    · exact fld_setFld_ne s2 _ h1
    · exact fld_setFld_ne s2 _ h2
  have hs3p : s3.plant = s2.plant ∧ s3.tellers = s2.tellers := by
    rw [hs3]
    split <;> exact ⟨rfl, rfl⟩
  have hs3c : s3.fld AUD_PASSCNT_COUNT = if pass then satInc 32 (q.fld AUD_PASSCNT_COUNT) else q.fld AUD_PASSCNT_COUNT := by
    have hq : s2.fld AUD_PASSCNT_COUNT = q.fld AUD_PASSCNT_COUNT := hother _ (by omega)
    rw [hs3]
    split
    · rw [State.inc, fld_setFld_same, hq]
      exact Nat.mod_eq_of_lt (satInc_lt 32 _)
    · rw [State.inc, fld_setFld_ne _ _ (by omega), hq]
  have hf (f : Field) (h : f.key ≠ (AUD_WHO_TELLERS i).key) : (q.audEntered i pass).fld f = s3.fld f := by
    rw [hu, fld_setFld_ne _ _ h, fld_setTevMask]
  refine ⟨?_, ?_, ?_, ?_, fun t ht hb => ?_⟩
  · rw [hf _ (by omega), hs3f _ (by omega) (by omega), hstate]
  · have hp : (q.audEntered i pass).plant = s2.plant := by
      rw [hu]
      exact (node_of_quiet (quiet_setTevMask ..) State.plant).trans hs3p.1
    rw [State.aud, hp]
    exact haud
  · rw [hf _ (by omega), hs3c]
  · rw [hu, fld_setFld_same, Nat.zero_mod]
  · have htel : (q.audEntered i pass).teller t = (s3.setTevMask (q.fld (AUD_WHO_TELLERS i)) tevAud 16).teller t := by
      rw [hu]
      rfl
    rw [htel, teller_setTevMask, if_pos ⟨ht, hb⟩]
    simp [tevAud]

section

variable {s : State} (hoff : s.isOff = false)
include hoff

theorem execAuditRequest_on {code : Nat} (hc : code < 2 ^ 32) : exec (.auditRequest code) s = .next (s.audHost code) := by
  refine (next_on hoff).trans (congrArg _ ?_)
  rw [Nat.mod_eq_of_lt hc]

theorem execAuditRequest_badArg {code : Nat} (hc : code < 2 ^ 32) (h : s.audCodeOk code = false) :
    exec (.auditRequest code) s = .next (s.setFld AUD_REQST_STATUS 10) := by
  rw [execAuditRequest_on hoff hc, State.audHost, audRequest_badArg h]
  rfl

theorem execAuditRequest_busy {code : Nat} (hok : s.audCodeOk code = true) (h : ∀ j, j < 16 → s.audHeld j = true)
    (hc : ∀ j, j < 16 → s.fld (AUD_CODE_CODE j) ≠ code) : exec (.auditRequest code) s = .next (s.setFld AUD_REQST_STATUS 4) := by
  have hlt : code < 2 ^ 32 := by
    simp only [State.audCodeOk, Bool.and_eq_true, decide_eq_true_eq] at hok
    omega
  rw [execAuditRequest_on hoff hlt, State.audHost, audRequest_busy hok h hc]
  rfl

variable {i : Nat} (hi : i < 16)
include hi

theorem execAuditStart_eq : exec (.auditStart i) s = .next (if s.audDue i then (s.audRun i).faultTurn 24 else s) := by
  refine (next_on hoff).trans (congrArg _ ?_)
  simp [hi]

theorem execAuditSuspend_eq : exec (.auditSuspend i) s = .next (
    if s.fld (AUD_STATE_STATE i) = 2 ∧ audPort (s.fld (AUD_CODE_CODE i)) ≠ none then
      (s.audWait i (s.gapNext (s.fld (AUD_CODE_CODE i)))).2.faultTurn 24
    else s) := by
  refine (next_on hoff).trans (congrArg _ ?_)
  simp [hi, Option.isSome_iff_ne_none]

omit hi in
theorem execAuditComplete_running {r : AudResult} (h : s.fld (AUD_STATE_STATE i) ≠ 2 ∨ s.audRan i (s.fld (AUD_CODE_CODE i)) = false) :
    exec (.auditComplete i r) s = .next s := by
  refine (next_on hoff).trans (congrArg _ (if_neg fun ⟨_, h2, h3⟩ => ?_))
  rcases h with h | h
  · exact h h2
  · simp [h] at h3

theorem execAuditComplete_ends {r : AudResult} (h2 : s.fld (AUD_STATE_STATE i) = 2)
    (h3 : s.audRan i (s.fld (AUD_CODE_CODE i)) = true) : exec (.auditComplete i r) s = .next
      (let q := s.auditResult i (s.fld (AUD_CODE_CODE i)) r
       (((q.2.audTold (q.2.audEntered i q.1) i (s.fld (AUD_CODE_CODE i)) q.1).auditAnswer
          (s.fld (AUD_CODE_CODE i)) q.1 24).faultTurn 24)) :=
  (next_on hoff).trans (congrArg _ (if_pos ⟨hi, h2, h3⟩))

end
/-- Settles O53: each command's outcome, from the targets a run writes, the bar an edge is taken for, and what a completed
audit enters. -/
theorem calibrationAndAudits : Obligations.CalibrationAndAudits := by
  unfold Obligations.CalibrationAndAudits
  refine ⟨fun s n k stn hoff => ⟨fun hn hp => ?_, ⟨fun hn hp => ?_, ?_⟩, fun h => execCalibrationStart_waits hoff (h.imp_right id),
    fun hn h1 he hp => ?_, fun h m => execCalibrationEnd_unmeasured hoff m h, fun h hn m => execCalibrationEnd_port hoff m h hn,
    fun h m => execCalibrationEnd_die hoff m h, execCalibrationAbandon_idle hoff, execCalibrationAbandon_runs hoff,
    execMarkEdge_other hoff, fun j q d hr hn hb => ?_, ⟨fun ⟨hr, hs, d, hb, hd⟩ => ?_, execMissedMark_early hoff,
      execRegistrationCorrection_waits hoff, fun hr hm hb => ?_⟩⟩,
    fun s i code r hoff hi => ⟨execAuditRequest_badArg hoff, execAuditRequest_on hoff, execAuditRequest_busy hoff,
      ⟨fun h => ?_, fun h => ?_, state_audRun s i⟩, fun h => ?_, fun h1 h2 => ?_, fun l hl => audWait_line s i l,
      execAuditComplete_running hoff, fun h2 h3 => ?_⟩⟩
  · refine (next_on hoff).trans (congrArg _ ?_)
    rw [if_pos hn, calTrigger_of_unbound hn hp]
  · refine (next_on hoff).trans (congrArg _ ?_)
    rw [if_pos hn, calTrigger_host fun _ => hp]
  · refine (next_on hoff).trans (congrArg _ ?_)
    rw [calTrigger_host fun h => absurd h (by decide)]
  · refine ⟨_, execCalibrationStart_starts hoff hn h1 he hp, ?_⟩
    have hcal : ((((s.setCal n (s.calRun n)).setFld (CLB_T_TLAST n) (toTwos 16 (s.calTemp n))).calBusy n true).cal n) =
        s.calRun n := (cal_calBusy ..).trans (cal_setCal ..)
    rw [hcal]
    exact ⟨rfl, rfl, rfl, rfl, calBusy_on _ hn⟩
  · obtain ⟨hd, hm⟩ := barNear_edgeBar s j q d hb
    exact ⟨hd, hm, seen_eq (s.marks j) q d ▸ execMarkEdge_bar hoff hr hn hb⟩
  · exact missed_eq (s.marks k) stn ▸ execMissedMark_late hoff hr hs hb hd
  · have hx := execRegistrationCorrection_ends hoff hr hm hb
    refine ⟨fun hn => ?_, _, hx, ?_⟩
    · rw [hx, hn]
    · split
      · exact marks_setMarks ..
      · next ref _ =>
        exact (marks_of_plant (marks_regStations ref (s.marks k) (List.range 16) (s.setMarks k Marks.init)) k).trans (marks_setMarks ..)
  · rw [execAuditStart_eq hoff hi, if_neg (mt (audDue_iff s i).mp h)]
  · rw [execAuditStart_eq hoff hi, if_pos ((audDue_iff s i).mpr h)]
  · rw [execAuditSuspend_eq hoff hi, if_neg]
    rintro ⟨h1, h2⟩
    exact h.elim (absurd h1) (absurd · h2)
  · rw [execAuditSuspend_eq hoff hi, if_pos ⟨h1, h2⟩]
  · obtain ⟨q, hq⟩ : ∃ q, q = s.auditResult i (s.fld (AUD_CODE_CODE i)) r := ⟨_, rfl⟩
    have hx := execAuditComplete_ends hoff hi (r := r) h2 h3
    rw [← hq] at hx ⊢
    obtain ⟨hf, hp, ht⟩ := audTold_keeps q.2 (q.2.audEntered i q.1) i (s.fld (AUD_CODE_CODE i)) q.1
    obtain ⟨e1, e2, e3, e4, e5⟩ := audEntered_spec q.2 i q.1
    obtain ⟨k1, -, k3⟩ := audKeys i
    have kp : AUD_PASSCNT_COUNT.key = 0xB80010 * 32 := by decide
    have away {f : Field} (h : 0xB80000 * 32 ≤ f.key ∧ f.key < 0xB90000 * 32) :
        (q.2.audTold (q.2.audEntered i q.1) i (s.fld (AUD_CODE_CODE i)) q.1).fld f = (q.2.audEntered i q.1).fld f :=
      hf f h.1 (by rw [eventKey_iff]; omega)
    refine ⟨_, hx, (away (by omega)).trans e1, ?_, (away (by omega)).trans e3, (away (by omega)).trans e4, fun t ht' hb => ?_⟩
    · rw [State.aud, hp]
      exact e2
    · rw [State.teller, ht]
      exact e5 t ht' hb

end Sys2Proof.Machine

namespace Sys2Proof.Machine

/-! The limiter (R252, R253). -/

/-- A search from `lo` up ends at `lo` or where the condition holds, between `lo` and `hi`. -/
theorem seekMax_spec (p : Int → Bool) (hi : Int) : ∀ (n : Nat) (lo : Int),
    lo ≤ seekMax p hi n lo ∧ (seekMax p hi n lo = lo ∨ p (seekMax p hi n lo) = true) ∧ (lo ≤ hi → seekMax p hi n lo ≤ hi)
  | 0, lo => ⟨Int.le_refl lo, .inl rfl, id⟩
  | n + 1, lo => by
    have hpow : (0 : Int) < 2 ^ n := Int.pow_pos (by decide)
    rw [seekMax]
    split
    · next h =>
      obtain ⟨hle, hp⟩ := h
      obtain ⟨h1, h2, h3⟩ := seekMax_spec p hi n (lo + 2 ^ n)
      refine ⟨by omega, .inr ?_, fun _ => h3 hle⟩
      rcases h2 with h2 | h2
      · rw [h2]; exact hp
      · exact h2
    · exact seekMax_spec p hi n lo

theorem accWindow_le {a j : Int} (acc : Int) (ha : 0 ≤ a) (hj : 0 ≤ j) : (accWindow acc a j).1 ≤ (accWindow acc a j).2 := by
  simp only [accWindow]
  omega

theorem trackAcc_mem (v acc vt : Int) {a j : Int} (ha : 0 ≤ a) (hj : 0 ≤ j) :
    (accWindow acc a j).1 ≤ trackAcc v acc vt a j ∧ trackAcc v acc vt a j ≤ (accWindow acc a j).2 := by
  obtain ⟨h1, -, h3⟩ := seekMax_spec (fun x => settle v x j ≤ vt) (accWindow acc a j).2 40 (accWindow acc a j).1
  have h3' := h3 (accWindow_le acc ha hj)
  simp only [trackAcc]
  split
  · next h => exact ⟨by omega, by omega⟩
  · exact ⟨h1, h3'⟩

/-- The acceleration changes by at most `j`, and passes ±`a` only where it already had. -/
theorem trackAcc_bounds (v acc vt : Int) {a j : Int} (ha : 0 ≤ a) (hj : 0 ≤ j) :
    (trackAcc v acc vt a j - acc).natAbs ≤ j.toNat ∧ (trackAcc v acc vt a j).natAbs ≤ max a.toNat acc.natAbs := by
  obtain ⟨hlo, hhi⟩ := trackAcc_mem v acc vt ha hj
  simp only [accWindow] at hlo hhi
  omega

/-- A move toward a target above keeps to motions that can still stop there, or brakes as hard as it may. -/
theorem approachAcc_stops (p v acc t a j ab jb cap : Int) (x : Int) (hx : x = approachAcc p v acc t a j ab jb cap) :
    stopsBy (p + v + x) (v + x) x t ab jb = true ∨ x = (accWindow acc ab jb).1 := by
  obtain ⟨-, h2, -⟩ := seekMax_spec (fun x => settle v x jb ≤ cap && stopsBy (p + v + x) (v + x) x t ab jb)
    (max (accWindow acc ab jb).1 (if acc < 0 then max (accWindow acc a j).2 (min 0 (acc + jb)) else (accWindow acc a j).2)) 40
    (accWindow acc ab jb).1
  rw [hx]
  rcases h2 with h2 | h2
  · exact .inr h2
  · exact .inl (Bool.and_eq_true _ _ ▸ h2).2

/-! An axis and its state. -/

@[simp] theorem axisP_setAxis (s : State) (i : Nat) (x : Axis) : (s.setAxis i x).axisP i = x :=
  tabGet_tabSet_same _ i x s.plant.axes

@[simp] theorem axisP_mapAxis (s : State) (i : Nat) (f : Axis → Axis) : (s.mapAxis i f).axisP i = f (s.axisP i) :=
  axisP_setAxis ..

@[simp] theorem axisP_setFld (s : State) (f : Field) (v i : Nat) : (s.setFld f v).axisP i = s.axisP i := rfl

theorem axisP_of_plant {s u : State} (h : u.plant = s.plant) (i : Nat) : u.axisP i = s.axisP i :=
  congrArg (fun p : Plant => tabGet Axis.init p.axes i) h

theorem axState_mapAxis (s : State) (i j : Nat) (f : Axis → Axis) : (s.mapAxis i f).axState j = s.axState j := rfl

/-- The states of the axes are as they were. -/
def AxesStay (s u : State) : Prop := ∀ j, j < 16 → u.axState j = s.axState j

/-- Axis `i` is in state `v`, and the others are in the states they were. -/
def AxisBecomes (s : State) (i v : Nat) (u : State) : Prop :=
  u.axState i = v ∧ ∀ j, j < 16 → j ≠ i → u.axState j = s.axState j

section

variable {s t u : State} {i v : Nat}

theorem AxesStay.refl (s : State) : AxesStay s s := fun _ _ => rfl

theorem AxesStay.trans (h : AxesStay s t) (k : AxesStay t u) : AxesStay s u := fun j hj => (k j hj).trans (h j hj)

theorem AxisBecomes.then (h : AxisBecomes s i v t) (hi : i < 16) (k : AxesStay t u) : AxisBecomes s i v u :=
  ⟨(k i hi).trans h.1, fun j hj hne => (k j hj).trans (h.2 j hj hne)⟩

theorem AxisBecomes.after (h : AxesStay s t) (k : AxisBecomes t i v u) : AxisBecomes s i v u :=
  ⟨k.1, fun j hj hne => (k.2 j hj hne).trans (h j hj)⟩

theorem axisBecomes_setAxState (s : State) (i : Nat) (hv : v < 16) : AxisBecomes s i v (s.setAxState i v) :=
  ⟨(fld_setFld_same ..).trans (Nat.mod_eq_of_lt hv), fun j _ hne =>
    fld_setFld_ne s v (by simp only [Field.key, MOT_STAT_STATE]; omega)⟩

theorem axesStay_setFld (s : State) {f : Field} (v : Nat) (h : ∀ j, j < 16 → (MOT_STAT_STATE j).key ≠ f.key) :
    AxesStay s (s.setFld f v) := fun j hj => fld_setFld_ne s v (h j hj)

/-- A field that shares a register of the axes with their state. -/
theorem axesStay_setOff (s : State) (i b : Nat) {f : Field} (hf : f.key = (0x901008 + 0x100 * i) * 32 + b) (hb : 0 < b ∧ b < 32) :
    AxesStay s (s.setOff f) :=
  axesStay_setFld s 0 fun j _ => by simp only [Field.key, MOT_STAT_STATE] at hf ⊢; omega

theorem axesStay_mapAxis (s : State) (i : Nat) (f : Axis → Axis) : AxesStay s (s.mapAxis i f) := fun _ _ => rfl

theorem fld_ilkCheck (s : State) (c : Nat) {f : Field} (hf : f.key < 0x980000 * 32) : (s.ilkCheck c).fld f = s.fld f := by
  have hevent : (s.ilkEvent c).fld f = s.fld f :=
    (fld_setFld_ne _ 1 (by simp only [Field.key, GDR_STATUS_ILK] at hf ⊢; omega)).trans
      (fld_setFld_ne s _ (by simp only [Field.key, GDR_ILKCNT_ILKCNT] at hf ⊢; omega))
  unfold State.ilkCheck
  split
  · exact hevent
  · rfl
  · rfl

theorem fld_interlock {f : Field} (hf : f.key < 0x980000 * 32) : ∀ (n : Nat) (s : State), (s.interlock n).fld f = s.fld f
  | 0, _ => rfl
  | n + 1, s => (fld_interlock hf n _).trans (fld_ilkCheck s n hf)

theorem fld_showVsw {f : Field} (hf : f.key < 0x980000 * 32) : ∀ (vs : List Nat) (c : Nat) (s : State),
    (s.showVsw c vs).fld f = s.fld f
  | [], _, _ => rfl
  | v :: vs, c, s => by
    rw [State.showVsw, fld_showVsw hf vs]
    split
    · exact fld_setFld_ne s _ (by simp only [Field.key, GDR_VSW_VSW] at hf ⊢; omega)
    · rfl

theorem plant_showVsw : ∀ (vs : List Nat) (c : Nat) (s : State), (s.showVsw c vs).plant = s.plant
  | [], _, _ => rfl
  | v :: vs, c, s => by
    rw [State.showVsw, plant_showVsw vs]
    split <;> rfl

/-- The registers of the axes. -/
theorem key_axState {j : Nat} (hj : j < 16) : (MOT_STAT_STATE j).key < 0x980000 * 32 ∧ ¬ raiseKey 12 0 (MOT_STAT_STATE j).key := by
  have hb := blkKey_eq 12
  have h1 : MOT_FSTAT_SRC.key = 0x900010 * 32 := by decide
  have h2 : FLT_INCNEXT_VALUE.key = 0xC00018 * 32 := by decide
  simp only [raiseKey, show fstatOf 12 0 = MOT_FSTAT_SRC from rfl, eventKey_iff, hb.1, hb.2, h1, h2]
  simp only [Field.key, MOT_STAT_STATE]
  omega

theorem axesStay_interlock (s : State) : AxesStay s (s.interlock 52) := fun _ hj => fld_interlock (key_axState hj).1 52 s

theorem axesStay_showVsw (s : State) (c : Nat) (vs : List Nat) : AxesStay s (s.showVsw c vs) := fun _ hj => fld_showVsw (key_axState hj).1 vs c s

theorem axesStay_raise (s : State) (src : Nat) : AxesStay s (s.raise 12 src) := fun _ hj => fld_raise s (key_axState hj).2

theorem axesStay_moveEnd (s : State) (i : Nat) : AxesStay s (s.moveEnd i) :=
  (axesStay_setOff s i 9 (by simp only [Field.key, MOT_STAT_MOVING]) (by decide)).trans
    (axesStay_setOff _ i 10 (by simp only [Field.key, MOT_STAT_LIMPEND]) (by decide))

theorem axesStay_showProfile (s : State) (i : Nat) : AxesStay s (s.showProfile i) := by
  have lo (u : State) (v : Nat) : AxesStay u (u.setFld (MOT_POSLO_VALUE i) v) :=
    axesStay_setFld u v fun j _ => by simp only [Field.key, MOT_STAT_STATE, MOT_POSLO_VALUE]; omega
  have hi (u : State) (v : Nat) : AxesStay u (u.setFld (MOT_POSHI_VALUE i) v) :=
    axesStay_setFld u v fun j _ => by simp only [Field.key, MOT_STAT_STATE, MOT_POSHI_VALUE]; omega
  have vel (u : State) (v : Nat) : AxesStay u (u.setFld (MOT_VEL_VALUE i) v) :=
    axesStay_setFld u v fun j _ => by simp only [Field.key, MOT_STAT_STATE, MOT_VEL_VALUE]; omega
  exact ((lo s _).trans (hi _ _)).trans (vel _ _)

/-! An axis released (R257). -/

/-- The bits of the last period that a release clears. -/
def State.clearShown (s : State) (i : Nat) : State :=
  [MOT_STAT_ENGAGED i, MOT_STAT_SHIFT i, MOT_STAT_PRED i, MOT_STAT_VSAT i, MOT_STAT_ATSPD i].foldl State.setOff s

theorem axesStay_clearShown (s : State) (i : Nat) : AxesStay s (s.clearShown i) :=
  (((((axesStay_setOff s i 11 (by simp only [Field.key, MOT_STAT_ENGAGED]) (by decide)).trans
    (axesStay_setOff _ i 8 (by simp only [Field.key, MOT_STAT_SHIFT]) (by decide))).trans
    (axesStay_setOff _ i 7 (by simp only [Field.key, MOT_STAT_PRED]) (by decide))).trans
    (axesStay_setOff _ i 6 (by simp only [Field.key, MOT_STAT_VSAT]) (by decide))).trans
    (axesStay_setOff _ i 5 (by simp only [Field.key, MOT_STAT_ATSPD]) (by decide)))

theorem axisRelease_eq (s : State) (i st : Nat) : s.axisRelease i st =
    ((((s.setAxState i st).moveEnd i).clearShown i).mapAxis i fun x => { x with
      vel := 0, acc := 0, lost := false, atN := 0, badN := 0, okN := 0, stallN := 0, predN := 0, duties := [], next := [],
      seed := none, adv := 0 }).showProfile i := rfl

theorem axisBecomes_release (s : State) {i st : Nat} (hi : i < 16) (hst : st < 16) : AxisBecomes s i st (s.axisRelease i st) := by
  rw [axisRelease_eq]
  exact (axisBecomes_setAxState s i hst).then hi ((((axesStay_moveEnd _ i).trans (axesStay_clearShown _ i)).trans
    (axesStay_mapAxis _ i _)).trans (axesStay_showProfile _ i))

theorem axisP_showProfile (s : State) (i j : Nat) : (s.showProfile i).axisP j = s.axisP j := rfl

theorem axisP_release (s : State) (i st : Nat) :
    ((s.axisRelease i st).axisP i).vel = 0 ∧ ((s.axisRelease i st).axisP i).duties = [] := by
  rw [axisRelease_eq, axisP_showProfile, axisP_mapAxis]
  exact ⟨rfl, rfl⟩

theorem fld_mapAxis (s : State) (i : Nat) (g : Axis → Axis) (f : Field) : (s.mapAxis i g).fld f = s.fld f := rfl

theorem mode_release (s : State) (i st c : Nat) :
    (s.axisRelease i st).fld (GDR_CHCFG_MODE c) = s.fld (GDR_CHCFG_MODE c) := by
  rw [axisRelease_eq]
  simp (disch := (simp only [Field.key, MOT_STAT_STATE, MOT_STAT_MOVING, MOT_STAT_LIMPEND, MOT_STAT_ENGAGED, MOT_STAT_SHIFT,
    MOT_STAT_PRED, MOT_STAT_VSAT, MOT_STAT_ATSPD, MOT_POSLO_VALUE, MOT_POSHI_VALUE, MOT_VEL_VALUE, GDR_CHCFG_MODE]; omega)) only
    [State.showProfile, State.clearShown, List.foldl, State.setOff, State.moveEnd, State.setAxState, fld_setFld_ne, fld_mapAxis]

/-- The flags a release clears read 0 after it. -/
theorem flags_release (s : State) (i st : Nat) : (s.axisRelease i st).flag (MOT_STAT_MOVING i) = false ∧
    (s.axisRelease i st).flag (MOT_STAT_VSAT i) = false ∧ (s.axisRelease i st).flag (MOT_STAT_ATSPD i) = false ∧
    (s.axisRelease i st).flag (MOT_STAT_ENGAGED i) = false := by
  rw [axisRelease_eq]
  simp (disch := (simp only [Field.key, MOT_STAT_STATE, MOT_STAT_MOVING, MOT_STAT_LIMPEND, MOT_STAT_ENGAGED, MOT_STAT_SHIFT,
    MOT_STAT_PRED, MOT_STAT_VSAT, MOT_STAT_ATSPD, MOT_POSLO_VALUE, MOT_POSHI_VALUE, MOT_VEL_VALUE]; omega)) only
    [State.showProfile, State.clearShown, List.foldl, State.setOff, State.moveEnd, State.setAxState, State.flag,
     fld_setFld_ne, fld_setFld_same, fld_mapAxis, Nat.zero_mod]
  decide

/-- A channel of an axis that coasts has both gates off. -/
theorem modeGate_coast (s : State) {i c : Nat} (hi : i < 16) (low : Bool) (hc : c ∈ axisChannels i)
    (hm : s.fld (GDR_CHCFG_MODE c) = 1) : (s.coastAxis i).modeGate c low = .off := by
  have haxis : chanAxis c = i := by
    unfold axisChannels at hc
    unfold chanAxis
    split at hc
    · simp only [List.mem_cons, List.not_mem_nil, or_false] at hc
      split <;> omega
    · simp only [List.mem_map, List.mem_range] at hc
      obtain ⟨k, hk, rfl⟩ := hc
      split <;> omega
  have hst : (s.coastAxis i).axState i = axCoasting := (axisBecomes_release s hi (by decide)).1
  have hmode : (s.coastAxis i).fld (GDR_CHCFG_MODE c) = 1 := (mode_release s i axCoasting c).trans hm
  rw [State.modeGate, hmode, haxis]
  exact if_neg fun h => by simp [State.axisLive, hst] at h

/-! Starting and stopping (R251, R253, R257). -/

theorem axesStay_gearEngage (s : State) (i : Nat) : AxesStay s (s.gearEngage i) :=
  (axesStay_mapAxis s i _).trans (axesStay_setOff _ i 11 (by simp only [Field.key, MOT_STAT_ENGAGED]) (by decide))

theorem axisBecomes_closeLoops (s : State) {i : Nat} (hi : i < 16) : AxisBecomes s i axRunning (s.closeLoops i) := by
  have h := (axisBecomes_setAxState s i (v := axRunning) (by decide)).then hi
    (axesStay_mapAxis _ i fun x => { x with est := x.pos / posU, estRem := 0 })
  unfold State.closeLoops
  dsimp only
  split
  · exact h.then hi (axesStay_gearEngage _ i)
  · exact h

/-- Why a START is refused (R257, R259). -/
def StartRefused (s : State) (i : Nat) : Prop := s.flag (MOT_CFG_EN i) = false ∨ s.axisIdle i = false ∨ s.axisFaulty i = true ∨
  s.fld (MOT_VMAX_VALUE i) = 0 ∨ s.fld (MOT_AMAX_VALUE i) = 0 ∨ s.fld (MOT_JMAX_VALUE i) = 0

theorem axisStart_refused {s : State} {i : Nat} (h : StartRefused s i ∨
    s.blk 13 ≠ 0 ∧ (axisChannels i).any s.plant.chOff.testBit = true) : s.axisStart i = s.setFld MOT_STATUS_CFGERR 1 := by
  refine if_pos ?_
  simp only [StartRefused] at h
  simp only [Bool.not_eq_true]
  tauto

theorem axisStart_starts {s : State} {i : Nat} (hi : i < 16) (h : ¬ StartRefused s i) (h13 : s.blk 13 = 0) :
    AxisBecomes s i (if i < 12 then axSensing else axRunning) (s.axisStart i) := by
  have hc : ¬ (¬ s.flag (MOT_CFG_EN i) = true ∨ ¬ s.axisIdle i = true ∨ s.axisFaulty i = true ∨ s.fld (MOT_VMAX_VALUE i) = 0 ∨
      s.fld (MOT_AMAX_VALUE i) = 0 ∨ s.fld (MOT_JMAX_VALUE i) = 0 ∨
      (s.blk 13 ≠ 0 ∧ (axisChannels i).any s.plant.chOff.testBit = true)) := by
    simp only [StartRefused] at h
    simp only [Bool.not_eq_true]
    tauto
  rw [State.axisStart, if_neg hc]
  obtain ⟨s1, hs1, hstay⟩ : ∃ s1, s1 = (s.setPlant { s.plant with chOff := clrBits s.plant.chOff (axisChannels i) }).mapAxis i
    (fun x => { x with reps := 0, lost := false, badN := 0, okN := 0, atN := 0, vel := 0, acc := 0 }) ∧ AxesStay s s1 :=
    ⟨_, rfl, fun _ _ => rfl⟩
  rw [← hs1]
  split
  · exact .after hstay ((axisBecomes_setAxState s1 i (by decide)).then hi (axesStay_interlock _))
  · have hrun := (axisBecomes_setAxState s1 i (v := axRunning) (by decide)).then hi
      (axesStay_mapAxis _ i fun x => { x with left := 1 })
    refine .after hstay (.then ?_ hi (axesStay_interlock _))
    split
    · exact hrun.then hi (axesStay_gearEngage _ i)
    · exact hrun

theorem sourceOk_motion {src : Nat} (h : src < 28) : sourceOk 12 src = true := by
  have all : ∀ src < 28, sourceOk 12 src = true := by decide
  exact all src h

theorem coast_raises (s : State) {i src : Nat} (hi : i < 16) (hs : src < 28) :
    ((s.coastAxis i).raise 12 src).axState i = axCoasting ∧ ((s.coastAxis i).raise 12 src).srcSet 12 src = true :=
  ⟨((axisBecomes_release s hi (by decide)).then hi (axesStay_raise _ src)).1,
    srcSet_raise (sourceOk_motion hs) (by simp [State.dormantMute])⟩

theorem atLeastRpm_iff (fwd : Bool) (freq poles rpm : Nat) :
    atLeastRpm (if fwd then (freq / poles : Int) else -(freq / poles : Int)) rpm = true ↔
      rpm * 65536 ≤ freq / poles * 60 := by
  have h : ((if fwd then (freq / poles : Int) else -(freq / poles : Int))).natAbs = freq / poles := by
    cases fwd <;> simp [← Int.natCast_ediv]
  simp only [atLeastRpm, h, decide_eq_true_eq, ge_iff_le]

/-- What the end of sensing does to an axis that senses (R251). -/
def State.sensed (s : State) (i amp freq : Nat) (fwd : Bool) (ang : Nat) (vsw : List Nat) : State :=
  let s1 := s.showVsw (3 * i) (vsw.take 3)
  let n : Int := freq / s.fld (MOT_CFG_POLES i)
  let speed := if fwd then n else -n
  if amp < s.fld (MOT_SYNCC_VSTILL i) * 10 then s1.setAxState i axAligning
  else if atLeastRpm speed (s.fld (MOT_STARTC_HANDOVER i)) then
    let s2 := s1.seedObserver i ang speed
    if fwd then (s2.mapAxis i fun x => { x with vel := speed * velU, acc := 0 }).closeLoops i
    else if s.flag (MOT_CFG_REVBRAKE i) then s2.setAxState i axBraking
    else (s1.coastAxis i).raise 12 (16 + i)
  else if (s.axisP i).reps ≥ 50 then (s1.coastAxis i).raise 12 i
  else s1.mapAxis i fun x => { x with reps := x.reps + 1 }

section

variable {amp freq ang : Nat} {fwd : Bool} {vsw : List Nat} (hi : i < 12)
include hi

omit hi in
theorem sensed_still (h : amp < s.fld (MOT_SYNCC_VSTILL i) * 10) :
    AxisBecomes s i axAligning (s.sensed i amp freq fwd ang vsw) := by
  rw [State.sensed, if_pos h]
  exact .after (axesStay_showVsw s _ _) (axisBecomes_setAxState _ i (by decide))

variable (hstill : ¬ amp < s.fld (MOT_SYNCC_VSTILL i) * 10)
include hstill

section

variable (hfast : s.fld (MOT_STARTC_HANDOVER i) * 65536 ≤ freq / s.fld (MOT_CFG_POLES i) * 60)
include hfast

theorem sensed_forward (hf : fwd = true) : AxisBecomes s i axRunning (s.sensed i amp freq fwd ang vsw) := by
  rw [State.sensed, if_neg hstill, if_pos ((atLeastRpm_iff fwd freq _ _).mpr hfast), if_pos hf]
  exact .after (axesStay_showVsw s (3 * i) (vsw.take 3)) (.after (axesStay_mapAxis _ i _)
    (.after (axesStay_mapAxis _ i _) (axisBecomes_closeLoops _ (by omega))))

omit hi in
theorem sensed_brakes (hf : fwd = false) (hb : s.flag (MOT_CFG_REVBRAKE i) = true) :
    AxisBecomes s i axBraking (s.sensed i amp freq fwd ang vsw) := by
  rw [State.sensed, if_neg hstill, if_pos ((atLeastRpm_iff fwd freq _ _).mpr hfast), if_neg (by simp [hf]), if_pos hb]
  exact .after (axesStay_showVsw s (3 * i) (vsw.take 3)) (.after (axesStay_mapAxis _ i _)
    (axisBecomes_setAxState _ i (by decide)))

theorem sensed_reverse (hf : fwd = false) (hb : s.flag (MOT_CFG_REVBRAKE i) = false) :
    (s.sensed i amp freq fwd ang vsw).axState i = axCoasting ∧ (s.sensed i amp freq fwd ang vsw).srcSet 12 (16 + i) = true := by
  rw [State.sensed, if_neg hstill, if_pos ((atLeastRpm_iff fwd freq _ _).mpr hfast), if_neg (by simp [hf]), if_neg (by simp [hb])]
  exact coast_raises _ (by omega) (by omega)

end

variable (hslow : ¬ s.fld (MOT_STARTC_HANDOVER i) * 65536 ≤ freq / s.fld (MOT_CFG_POLES i) * 60)
include hslow

theorem sensed_gives_up (hr : 50 ≤ (s.axisP i).reps) :
    (s.sensed i amp freq fwd ang vsw).axState i = axCoasting ∧ (s.sensed i amp freq fwd ang vsw).srcSet 12 i = true := by
  rw [State.sensed, if_neg hstill, if_neg (mt (atLeastRpm_iff fwd freq _ _).mp hslow), if_pos hr]
  exact coast_raises _ (by omega) (by omega)

omit hi in
theorem sensed_again (hr : (s.axisP i).reps < 50) : AxesStay s (s.sensed i amp freq fwd ang vsw) ∧
    ((s.sensed i amp freq fwd ang vsw).axisP i).reps = (s.axisP i).reps + 1 := by
  rw [State.sensed, if_neg hstill, if_neg (mt (atLeastRpm_iff fwd freq _ _).mp hslow), if_neg (by omega)]
  refine ⟨(axesStay_showVsw s (3 * i) (vsw.take 3)).trans (axesStay_mapAxis _ i _), ?_⟩
  rw [axisP_mapAxis, axisP_of_plant (plant_showVsw ..)]

end

end

/-! The period (R238, R248, R252, R253). -/

/-- The axes are in the states they were, and axis `i` has its velocity and duties. -/
structure AxisKept (i : Nat) (s u : State) : Prop where
  stay : AxesStay s u
  vel : (u.axisP i).vel = (s.axisP i).vel
  duties : (u.axisP i).duties = (s.axisP i).duties

namespace AxisKept

variable {i : Nat} {s t u : State}

theorem trans (h : AxisKept i s t) (k : AxisKept i t u) : AxisKept i s u :=
  ⟨h.stay.trans k.stay, k.vel.trans h.vel, k.duties.trans h.duties⟩

theorem of_plant (hs : AxesStay s u) (hp : u.plant = s.plant) : AxisKept i s u :=
  ⟨hs, congrArg Axis.vel (axisP_of_plant hp i), congrArg Axis.duties (axisP_of_plant hp i)⟩

theorem setAxis (x : Axis) (hv : x.vel = (s.axisP i).vel) (hd : x.duties = (s.axisP i).duties) : AxisKept i s (s.setAxis i x) :=
  ⟨fun _ _ => rfl, (congrArg Axis.vel (axisP_setAxis s i x)).trans hv, (congrArg Axis.duties (axisP_setAxis s i x)).trans hd⟩

theorem raise (src : Nat) : AxisKept i s (s.raise 12 src) := .of_plant (axesStay_raise s src) (plant_raise s 12 src)

theorem ite {p : Prop} [Decidable p] (h : AxisKept i s t) (k : AxisKept i s u) : AxisKept i s (if p then t else u) := by
  split
  · exact h
  · exact k

/-- The load angle shown and the run of periods it was too large. -/
theorem stall (s : State) (i l n : Nat) : AxisKept i s
    ((s.setFld (MOT_LOADANG_VALUE i) l).setAxis i { s.axisP i with stallN := n }) :=
  .trans (.of_plant (axesStay_setFld s l fun j _ => by simp only [Field.key, MOT_STAT_STATE, MOT_LOADANG_VALUE]; omega) rfl)
    (.setAxis _ rfl rfl)

theorem loadAngle (s : State) (i : Nat) : AxisKept i s (s.loadAngle i) := by
  have hlost (u : State) : AxisKept i u ((u.inc (MOT_LOSTSTEP_COUNT i)).raise 12 i) :=
    .trans (.of_plant (axesStay_setFld u _ fun j _ => by simp only [Field.key, MOT_STAT_STATE, MOT_LOSTSTEP_COUNT]; omega) rfl)
      (.raise i)
  unfold State.loadAngle
  dsimp only
  generalize ofTwos 16 ((s.cmdAngle i + 65536 - (s.axisP i).ang) % 65536) = d
  split
  · generalize (if d.natAbs > s.fld (MOT_STALL_STALLANG i) then min ((s.axisP i).stallN + 1) 9 else 0) = n
    have h1 := stall s i (toTwos 16 d) n
    generalize (s.setFld (MOT_LOADANG_VALUE i) (toTwos 16 d)).setAxis i { s.axisP i with stallN := n } = u at h1 ⊢
    have h2 := ite (p := n = 8) (h1.trans (.raise i)) h1
    exact ite (h2.trans (hlost _)) h2
  · exact stall s i _ _

/-- The rotor's angle and currents, and the speed shown. -/
theorem turned (s : State) (i poles v : Nat) (ang a b c d : Int) : AxisKept i s ((s.setAxis i
    { (s.axisP i).turnTo poles ang with id := a, iq := b, ed := c, eq := d }).setFld (MOT_SPEED_VALUE i) v) := by
  have hspeed (u : State) : AxisKept i u (u.setFld (MOT_SPEED_VALUE i) v) :=
    .of_plant (axesStay_setFld u v fun j _ => by simp only [Field.key, MOT_STAT_STATE, MOT_SPEED_VALUE]; omega) rfl
  refine .trans (.setAxis _ ?_ ?_) (hspeed _) <;> rfl

theorem stepperObserve (s : State) (i : Nat) (c : Amps) (v : Int × Int) : AxisKept i s (s.stepperObserve i c v) := by
  unfold State.stepperObserve
  exact .trans (turned s i _ _ _ _ _ _ _) (.loadAngle _ i)

/-- The observer of an axis whose loops are not closed loses no synchronism. -/
theorem observe (c : Amps) (v : Int × Int) (h : s.axState i ≠ axRunning ∧ s.axState i ≠ axStopping ∧ s.axState i ≠ axBraking) :
    AxisKept i s (s.observe i c v) := by
  obtain ⟨h1, h2, h3⟩ := h
  unfold State.observe
  simp only [h1, h2, h3, or_self, decide_false, Bool.false_eq_true, false_and, if_false]
  refine .trans (.trans (.setAxis _ ?_ ?_) (.of_plant (axesStay_setFld _ _ fun j _ => ?_) rfl)) (.setAxis _ ?_ ?_)
  · rfl
  · rfl
  · simp only [Field.key, MOT_STAT_STATE, MOT_SPEED_VALUE]; omega
  · rfl
  · rfl

theorem idlePeriod (adc : List (Option Int)) (h : s.axState i = axOff ∨ s.axState i = axCoasting ∨ s.axState i = axSensing) :
    AxisKept i s (s.idlePeriod i adc) := by
  have hopen : s.axState i ≠ axRunning ∧ s.axState i ≠ axStopping ∧ s.axState i ≠ axBraking := by
    rcases h with h | h | h <;> rw [h] <;> decide
  unfold State.idlePeriod
  dsimp only
  split
  · exact .observe _ _ hopen
  · exact .stepperObserve ..

end AxisKept

section

variable {s : State} {i : Nat}

theorem axisMove_moving (h : s.flag (MOT_STAT_MOVING i) = true) : s.axisMove i = s.setFld MOT_STATUS_CFGERR 1 := if_pos h

theorem axisMove_idle (h : s.flag (MOT_STAT_MOVING i) = false)
    (hm : s.fld (MOT_CFG_MODE i) ≠ 1 ∨ s.axState i ≠ axRunning ∧ s.axState i ≠ axHolding) : s.axisMove i = s := by
  rw [State.axisMove, if_neg (by simp [h]), if_neg]
  rintro ⟨h1, h2⟩
  rcases hm with hm | ⟨ha, hb⟩
  · exact hm h1
  · exact h2.elim ha hb

theorem axisMove_starts (h : s.flag (MOT_STAT_MOVING i) = false) (h1 : s.fld (MOT_CFG_MODE i) = 1)
    (h2 : s.axState i = axRunning ∨ s.axState i = axHolding) : AxisBecomes s i axRunning (s.axisMove i) ∧
      (s.axisMove i).flag (MOT_STAT_MOVING i) = true := by
  rw [State.axisMove, if_neg (by simp [h]), if_pos ⟨h1, h2⟩]
  have hon : AxesStay s (s.setOn (MOT_STAT_MOVING i)) :=
    axesStay_setFld s 1 fun j _ => by simp only [Field.key, MOT_STAT_STATE, MOT_STAT_MOVING]; omega
  refine ⟨.after hon (axisBecomes_setAxState _ i (by decide)), ?_⟩
  have hmov : ((s.setOn (MOT_STAT_MOVING i)).setAxState i axRunning).fld (MOT_STAT_MOVING i) = 1 :=
    (fld_setFld_ne _ _ (by simp only [Field.key, MOT_STAT_STATE, MOT_STAT_MOVING]; omega)).trans (fld_setFld_same ..)
  rw [State.flag, hmov]
  rfl

theorem axisStop_stops (hi : i < 16) (h0 : s.axState i ≠ axOff) (h1 : s.axState i ≠ axCoasting) (h2 : s.axState i ≠ axHolding) :
    AxisBecomes s i axStopping (s.axisStop i) := by
  have hc : ¬ (s.axState i = axOff ∨ s.axState i = axCoasting ∨ s.axState i = axHolding) := by tauto
  rw [State.axisStop, if_neg hc]
  exact ((axisBecomes_setAxState s i (by decide)).then hi
    (axesStay_setOff _ i 11 (by simp only [Field.key, MOT_STAT_ENGAGED]) (by decide))).then hi (axesStay_moveEnd _ i)

theorem axisAdvance_stopped (h : s.axState i = axStopping) (hi : i < 12) (hv : ((s.limitVel i 0).axisP i).vel = 0)
    (ha : ((s.limitVel i 0).axisP i).acc = 0) : s.axisAdvance i = (s.limitVel i 0).axisRelease i axOff := by
  rw [State.axisAdvance, if_neg (by rw [h]; decide), if_pos h, if_pos ⟨hv, ha⟩, if_pos hi]

theorem axisP_moveBy (s : State) (i : Nat) (a : Int) : (s.moveBy i a).axisP i =
    { s.axisP i with acc := a, vel := (s.axisP i).vel + a, pos := (s.axisP i).pos + (s.axisP i).vel + a } := axisP_mapAxis ..

theorem limitVel_bounds (s : State) (i : Nat) (v : Int) : let y := (s.limitVel i v).axisP i
    (y.acc - (s.axisP i).acc).natAbs ≤ (s.jerkMax i).toNat ∧ y.acc.natAbs ≤ max (s.accMax i).toNat (s.axisP i).acc.natAbs ∧
      y.vel = (s.axisP i).vel + y.acc ∧ y.pos = (s.axisP i).pos + y.vel := by
  have hj : 0 ≤ s.jerkMax i := Int.mul_nonneg (Int.natCast_nonneg _) (by decide)
  have ha : 0 ≤ s.accMax i := Int.mul_nonneg (Int.natCast_nonneg _) (by decide)
  obtain ⟨h1, h2⟩ := trackAcc_bounds (s.axisP i).vel (s.axisP i).acc (limitI (s.velMax i) v) ha hj
  dsimp only
  rw [State.limitVel, axisP_moveBy]
  exact ⟨h1, h2, rfl, Int.add_assoc ..⟩

/-- A move at rest on its target has ended (R253). -/
theorem limitMove_there (h : (s.axisP i).pos = s.target i ∧ (s.axisP i).vel = 0 ∧ (s.axisP i).acc = 0) :
    (s.limitMove i).flag (MOT_STAT_MOVING i) = false ∧ ((s.limitMove i).axisP i).pos = s.target i ∧
      ((s.limitMove i).axisP i).vel = 0 := by
  rw [State.limitMove, if_pos h]
  have hx : (s.moveEnd i).axisP i = { s.axisP i with limA := 0, limJ := 0 } := axisP_mapAxis ..
  have hm : (s.moveEnd i).fld (MOT_STAT_MOVING i) = 0 := by
    refine (fld_mapAxis ..).trans ((fld_setFld_ne _ 0 ?_).trans (fld_setFld_same ..))
    simp only [Field.key, MOT_STAT_MOVING, MOT_STAT_LIMPEND]
    omega
  rw [hx, State.flag, hm]
  exact ⟨rfl, h.1, h.2.1⟩

theorem limitMove_eq (h : ¬ ((s.axisP i).pos = s.target i ∧ (s.axisP i).vel = 0 ∧ (s.axisP i).acc = 0)) :
    s.limitMove i = s.moveBy i (moveAcc (s.axisP i).pos (s.axisP i).vel (s.axisP i).acc (s.target i) (s.accMax i)
      (s.jerkMax i) (s.brakeAcc i) (s.brakeJerk i) (s.velMax i) (s.velMax i)) := if_neg h

theorem limitMove_moves (h : ¬ ((s.axisP i).pos = s.target i ∧ (s.axisP i).vel = 0 ∧ (s.axisP i).acc = 0)) :
    ((s.limitMove i).axisP i).vel = (s.axisP i).vel + ((s.limitMove i).axisP i).acc ∧
      ((s.limitMove i).axisP i).pos = (s.axisP i).pos + ((s.limitMove i).axisP i).vel := by
  rw [limitMove_eq h, axisP_moveBy]
  exact ⟨rfl, Int.add_assoc ..⟩

/-- A move toward a target above can still stop there, or brakes as hard as its limits allow (R253). -/
theorem limitMove_stops (h : ¬ ((s.axisP i).pos = s.target i ∧ (s.axisP i).vel = 0 ∧ (s.axisP i).acc = 0))
    (hp : (s.axisP i).pos ≤ s.target i) : let y := (s.limitMove i).axisP i
    stopsBy y.pos y.vel y.acc (s.target i) (s.brakeAcc i) (s.brakeJerk i) = true ∨
      y.acc = (accWindow (s.axisP i).acc (s.brakeAcc i) (s.brakeJerk i)).1 := by
  dsimp only
  rw [limitMove_eq h, axisP_moveBy]
  exact approachAcc_stops _ _ _ _ _ _ _ _ _ _ (if_pos hp)

end

/-! The commands. -/

section

variable {s : State} {i : Nat} (hoff : s.isOff = false)
include hoff

theorem execStart_on (hi : i < 16) : exec (.start i) s = .next (s.axisStart i) :=
  (next_on hoff).trans (congrArg _ (if_pos hi))

theorem execStopCmd_on (hi : i < 16) : exec (.stopCmd i) s = .next (s.axisStop i) :=
  (next_on hoff).trans (congrArg _ (if_pos hi))

theorem execCoast_on (hi : i < 16) : exec (.coast i) s = .next (s.coastAxis i) :=
  (next_on hoff).trans (congrArg _ (if_pos hi))

theorem execMove_on (hi : i < 16) : exec (.move i) s = .next (s.axisMove i) :=
  (next_on hoff).trans (congrArg _ (if_pos hi))

theorem execSensingEnd_other {amp freq ang : Nat} {fwd : Bool} {vsw : List Nat} (h : 12 ≤ i ∨ s.axState i ≠ axSensing) :
    exec (.sensingEnd i amp freq fwd ang vsw) s = .next s := (next_on hoff).trans (congrArg _ (if_pos h))

theorem execSensingEnd_on {amp freq ang : Nat} {fwd : Bool} {vsw : List Nat} (hi : i < 12) (h : s.axState i = axSensing) :
    exec (.sensingEnd i amp freq fwd ang vsw) s = .next (s.sensed i amp freq fwd ang vsw) :=
  (next_on hoff).trans (congrArg _ (if_neg fun hn => hn.elim (by omega) (absurd h)))

theorem execAlignEnd_other (h : 12 ≤ i ∨ s.axState i ≠ axAligning) : exec (.alignEnd i) s = .next s :=
  (next_on hoff).trans (congrArg _ (if_pos h))

theorem execAlignEnd_on (hi : i < 12) (h : s.axState i = axAligning) : ∃ s', exec (.alignEnd i) s = .next s' ∧
    AxisBecomes s i axOpenLoop s' := by
  refine ⟨_, (next_on hoff).trans (congrArg _ (if_neg fun hn => hn.elim (by omega) (absurd h))), ?_⟩
  exact (axisBecomes_setAxState s i (by decide)).then (by omega) (axesStay_mapAxis _ i _)

/-- The valley of an axis, after the base period that begins with that of axis 0. -/
theorem execPwmPeriod_on (hi : i < 16) (adc : List (Option Int)) : exec (.pwmPeriod i adc) s =
    .next ((if ¬ (if i = 0 then s.basePeriod adc else s).axisLive i = true ∨
        (if i = 0 then s.basePeriod adc else s).axState i = axSensing
      then (if i = 0 then s.basePeriod adc else s).idlePeriod i adc
      else (if i = 0 then s.basePeriod adc else s).axisPeriod i adc).interlock 52) :=
  (next_on hoff).trans (congrArg _ (if_neg (by omega)))

end

theorem passive_iff (b : State) (i : Nat) : (¬ b.axisLive i = true ∨ b.axState i = axSensing) ↔
    (b.axState i = axOff ∨ b.axState i = axCoasting ∨ b.axState i = axSensing) := by
  simp only [State.axisLive, Bool.and_eq_true, decide_eq_true_eq]
  tauto

/-- Settles O50: each command's outcome, from what it does to the axes' states, and the bounds of the limiter's search. -/
theorem motionAxes : Obligations.MotionAxes := by
  unfold Obligations.MotionAxes
  intro s i amp freq ang fwd vsw hoff hi
  refine ⟨fun h => ?_, fun h1 h2 => ?_, fun h h13 => ?_, execSensingEnd_other hoff, fun hi12 hst => ?_,
    fun hi12 hst => execAlignEnd_on hoff hi12 hst, execAlignEnd_other hoff, fun h => ?_, fun h0 h1 h2 => ?_, ?_, ?_,
    fun h => ?_, fun h h1 h2 => ?_, fun h hm => ?_, fun adc => ?_, fun hst hi12 hv ha => ?_, limitVel_bounds s i, ?_⟩
  · rw [execStart_on hoff hi, axisStart_refused (.inl h)]
  · rw [execStart_on hoff hi, axisStart_refused (.inr ⟨h1, h2⟩)]
  · exact ⟨_, execStart_on hoff hi, axisStart_starts hi h h13⟩
  · have hx := execSensingEnd_on (amp := amp) (freq := freq) (ang := ang) (fwd := fwd) (vsw := vsw) hoff hi12 hst
    exact ⟨fun h => ⟨_, hx, sensed_still h⟩, fun h hf hd => ⟨_, hx, sensed_forward hi12 h hf hd⟩,
      fun h hf hd hb => ⟨_, hx, sensed_brakes h hf hd hb⟩, fun h hf hd hb => ⟨_, hx, sensed_reverse hi12 h hf hd hb⟩,
      fun h hf hr => ⟨_, hx, sensed_gives_up hi12 h hf hr⟩, fun h hf hr =>
        have ⟨hstay, hreps⟩ := sensed_again (s := s) (ang := ang) (fwd := fwd) (vsw := vsw) h hf hr
        ⟨_, hx, (hstay i hi).trans hst, hreps⟩⟩
  · exact (execStopCmd_on hoff hi).trans (congrArg _ (if_pos h))
  · exact ⟨_, execStopCmd_on hoff hi, axisStop_stops hi h0 h1 h2⟩
  · exact ⟨_, execCoast_on hoff hi, axisBecomes_release s hi (by decide)⟩
  · exact ⟨_, execCoast_on hoff hi, (axisP_release s i axCoasting).1, (flags_release s i axCoasting).1,
      fun c low hc hm => modeGate_coast s hi low hc hm⟩
  · rw [execMove_on hoff hi, axisMove_moving h]
  · obtain ⟨hb, hm⟩ := axisMove_starts h h1 h2
    exact ⟨⟨_, execMove_on hoff hi, hb⟩, _, execMove_on hoff hi, hm⟩
  · rw [execMove_on hoff hi, axisMove_idle h hm]
  · have hx := execPwmPeriod_on hoff hi adc
    obtain ⟨b, hb⟩ : ∃ b, b = if i = 0 then s.basePeriod adc else s := ⟨_, rfl⟩
    rw [← hb] at hx ⊢
    refine ⟨fun h => ?_, fun h => ?_⟩
    · obtain ⟨hstay, hvel, hduties⟩ := AxisKept.idlePeriod adc h
      exact ⟨hx.trans (by rw [if_pos ((passive_iff b i).mpr h)]), hstay i hi, hvel, hduties⟩
    · exact hx.trans (by rw [if_neg (mt (passive_iff b i).mp h)])
  · obtain ⟨-, f1, f2, f3⟩ := flags_release (s.limitVel i 0) i axOff
    have hr := axisAdvance_stopped hst hi12 hv ha
    dsimp only
    rw [hr]
    exact ⟨(axisBecomes_release _ hi (by decide)).1, f1, f2, f3⟩
  · exact ⟨limitMove_there, limitMove_moves, limitMove_stops⟩

end Sys2Proof.Machine

namespace Sys2Proof.Machine

/-! The state of a high-voltage channel (R270 to R272). -/

@[simp] theorem hvP_setHv (s : State) (h : Nat) (x : Hv) : (s.setHv h x).hvP h = x := tabGet_tabSet_same _ h x s.plant.hv

@[simp] theorem fld_setHv (s : State) (h : Nat) (x : Hv) (f : Field) : (s.setHv h x).fld f = s.fld f := rfl

@[simp] theorem hvP_setFld (s : State) (f : Field) (v h : Nat) : (s.setFld f v).hvP h = s.hvP h := rfl

theorem setHv_setHv (s : State) (h : Nat) (x y : Hv) : (s.setHv h x).setHv h y = s.setHv h y := by
  simp only [State.setHv, State.setPlant]
  rw [tabSet_tabSet]

theorem hvKeys (h : Nat) : (HVS_CHCTL_EN h).key = 0xA40104 * 32 + 2048 * h ∧ (HVS_CHCTL_ACEN h).key = 0xA40104 * 32 + 1 + 2048 * h ∧
    (HVS_STATE_STATE h).key = 0xA40124 * 32 + 2048 * h := by
  simp only [Field.key, HVS_CHCTL_EN, HVS_CHCTL_ACEN, HVS_STATE_STATE]
  omega

theorem hvState_setFld_state (s : State) {h v : Nat} (hv : v < 8) : (s.setFld (HVS_STATE_STATE h) v).hvState h = v :=
  (fld_setFld_same ..).trans (Nat.mod_eq_of_lt hv)

theorem flag_setOn (s : State) {f : Field} (h : f.width ≠ 0) : (s.setOn f).flag f = true := by
  have h1 : 1 < 2 ^ f.width := Nat.one_lt_two_pow h
  rw [State.flag, State.setOn, fld_setFld_same, Nat.mod_eq_of_lt h1]
  rfl

theorem flag_setOff (s : State) (f : Field) : (s.setOff f).flag f = false := by
  rw [State.flag, State.setOff, fld_setFld_same, Nat.zero_mod]
  rfl

theorem gpwmDuty_frame (s : State) (ls : Bool) (k duty : Nat) :
    (∀ f : Field, 0x990000 * 32 ≤ f.key → (s.gpwmDuty ls k duty).2.fld f = s.fld f) ∧
    (s.gpwmDuty ls k duty).2.plant = s.plant := by
  unfold State.gpwmDuty
  split
  · split
    · next h => exact ⟨fun f hf => fld_setFld_ne s _ (by simp only [Field.key, GDR_LSPWM_DUTY] at hf ⊢; omega), rfl⟩
    · exact ⟨fun _ _ => rfl, rfl⟩
  · split
    · next h => exact ⟨fun f hf => fld_setFld_ne s _ (by simp only [Field.key, GDR_PWM_DUTY] at hf ⊢; omega), rfl⟩
    · exact ⟨fun _ _ => rfl, rfl⟩

section

variable {s : State} {h : Nat} (hoff : s.isOff = false) (hh : h < 16)
include hoff hh

theorem execHvEnable_on (on : Bool) : exec (.hvEnable h on) s = .next (s.hvEnable h on) :=
  (next_on hoff).trans (congrArg _ (if_pos hh))

theorem execAcen_on (on : Bool) : exec (.acen h on) s = .next (s.hvAcen h on) :=
  (next_on hoff).trans (congrArg _ (if_pos hh))

end

section

variable {s : State} {h : Nat}

theorem hvEnable_held (hst : s.hvState h = hvEscalated ∨ s.flag (HVS_CHCTL_EN h) = true) : s.hvEnable h true = s := by
  rw [State.hvEnable, if_pos rfl]
  exact if_pos hst

theorem hvEnable_refused (hst : s.hvState h ≠ hvEscalated) (hen : s.flag (HVS_CHCTL_EN h) = false)
    (hm : s.hvMayEnable h = false) : s.hvEnable h true = s.setFld HVS_STATUS_CFGERR 1 := by
  rw [State.hvEnable, if_pos rfl]
  rw [if_neg (by simp [hst, hen]), if_neg (by simp [hm])]
  rfl

/-- Enabling a channel that is off starts its ramp from 0. -/
theorem hvEnable_ramps (hst : s.hvState h = hvOff) (hen : s.flag (HVS_CHCTL_EN h) = false) (hm : s.hvMayEnable h = true) :
    (s.hvEnable h true).hvState h = hvRamping ∧ (s.hvEnable h true).flag (HVS_CHCTL_EN h) = true ∧
      ((s.hvEnable h true).hvP h).set = 0 := by
  have hx : s.hvEnable h true = ((s.mapHv h fun x => { x with set := 0, off := false, err := false }).setOn
      (HVS_CHCTL_EN h)).setFld (HVS_STATE_STATE h) hvRamping := by
    rw [State.hvEnable, if_pos rfl]
    rw [if_neg (by rw [hst, hen]; decide), if_pos hm, if_neg (not_not.mpr hst)]
  obtain ⟨k1, -, k3⟩ := hvKeys h
  rw [hx]
  refine ⟨hvState_setFld_state _ (by decide), ?_, congrArg Hv.set (hvP_setHv ..)⟩
  exact (flag_of_fld (fld_setFld_ne _ _ (by omega))).trans (flag_setOn _ (by simp [HVS_CHCTL_EN]))

theorem hvDisable_off (hst : s.hvState h = hvOff) : s.hvEnable h false = s.setFld (HVS_CHCTL_EN h) 0 := by
  rw [State.hvEnable, if_neg (by decide), if_pos]
  · rfl
  · simp [State.hvLive, hst]

theorem hvTurnOff_spec (hst : s.hvState h ≠ hvEscalated) : (s.hvTurnOff h).hvState h = hvOff ∧
    (s.hvTurnOff h).flag (HVS_CHCTL_EN h) = false ∧ ((s.hvTurnOff h).hvP h).set = 0 := by
  obtain ⟨k1, -, k3⟩ := hvKeys h
  rw [State.hvTurnOff]
  rw [if_neg hst]
  refine ⟨hvState_setFld_state _ (by decide), ?_, congrArg Hv.set (hvP_setHv ..)⟩
  exact (flag_of_fld (fld_setFld_ne _ _ (by omega))).trans (flag_setOff _ _)

theorem hvDisable_at_once (hl : s.hvLive h = true) (hr : s.fld (HVS_RAMP_RAMP h) = 0 ∨ s.hvState h = hvArcHold) :
    s.hvEnable h false = s.hvTurnOff h := by
  rw [State.hvEnable, if_neg (by decide), if_neg (not_not.mpr hl)]
  exact if_pos hr

theorem hvDisable_ramps (hl : s.hvLive h = true) (hr : s.fld (HVS_RAMP_RAMP h) ≠ 0) (hst : s.hvState h ≠ hvArcHold) :
    s.hvEnable h false = (s.setHv h { s.hvP h with off := true }).setFld (HVS_CHCTL_EN h) 0 := by
  rw [State.hvEnable, if_neg (by decide), if_neg (not_not.mpr hl)]
  exact if_neg fun hn => hn.elim hr hst

/-! The AC part (R271). -/

theorem hvAcen_refused (hr : h % 4 ≠ 1 ∨ s.hvBound h = false) : s.hvAcen h true = s.setFld HVS_STATUS_CFGERR 1 := by
  rw [State.hvAcen, if_pos rfl, if_pos (by simpa using hr)]
  rfl

theorem hvAcen_from_rest (h4 : h % 4 = 1) (hb : s.hvBound h = true) (hac : (s.hvP h).ac = 0) : s.hvAcen h true =
    (s.setFld (HVS_CHCTL_ACEN h) 1).setHv h { s.hvP h with
      ac := if s.fld (HVS_ACCFG_ACRAMP h) = 0 then 2 else 1, level := 0, slope := s.fld (HVS_AC_ACAMP h), den := s.acDen h,
      pos := 0, start := s.time.cycles } := by
  rw [State.hvAcen, if_pos rfl, if_neg (by simp [h4, hb])]
  exact if_pos hac

theorem hvAcen_reverses (h4 : h % 4 = 1) (hb : s.hvBound h = true) (hac : (s.hvP h).ac = 3) :
    ((s.hvAcen h true).hvP h).ac = (if s.fld (HVS_ACCFG_ACRAMP h) = 0 then 2 else 1) ∧
      ((s.hvAcen h true).hvP h).level = (s.acMove h (s.acAt h)).level := by
  have hmove : (s.acMove h (s.acAt h)).ac = 3 := hac
  have hx : s.hvAcen h true = (s.setOn (HVS_CHCTL_ACEN h)).setHv h { s.acMove h (s.acAt h) with
      ac := if s.fld (HVS_ACCFG_ACRAMP h) = 0 then 2 else 1 } := by
    rw [State.hvAcen, if_pos rfl, if_neg (by simp [h4, hb])]
    dsimp only
    rw [if_neg (by omega), if_pos hmove]
  rw [hx, hvP_setHv]
  exact ⟨rfl, rfl⟩

theorem acenOff_at_rest (hac : (s.hvP h).ac = 0) : s.hvAcen h false = s.setFld (HVS_CHCTL_ACEN h) 0 := by
  rw [State.hvAcen, if_neg (by decide)]
  exact if_pos hac

theorem acenOff_falls (hac : (s.hvP h).ac = 2) : (s.hvAcen h false).flag (HVS_CHCTL_ACEN h) = false ∧
    ((s.hvAcen h false).hvP h).ac = 3 ∧ (s.fld (HVS_ACCFG_ACRAMP h) = 0 → ((s.hvAcen h false).hvP h).level = 0) ∧
    (s.fld (HVS_ACCFG_ACRAMP h) ≠ 0 →
      ((s.hvAcen h false).hvP h).level = s.fld (HVS_AC_ACAMP h) * ((s.hvAcen h false).hvP h).den ∧
      ((s.hvAcen h false).hvP h).slope = s.fld (HVS_AC_ACAMP h) ∧ ((s.hvAcen h false).hvP h).den = s.acDen h) := by
  obtain ⟨s1, hs1⟩ : ∃ s1, s1 = s.setOff (HVS_CHCTL_ACEN h) := ⟨_, rfl⟩
  have hramp : s1.fld (HVS_ACCFG_ACRAMP h) = s.fld (HVS_ACCFG_ACRAMP h) := by
    rw [hs1]; exact fld_setFld_ne s 0 (by simp only [Field.key, HVS_ACCFG_ACRAMP, HVS_CHCTL_ACEN]; omega)
  have hamp : s1.fld (HVS_AC_ACAMP h) = s.fld (HVS_AC_ACAMP h) := by
    rw [hs1]; exact fld_setFld_ne s 0 (by simp only [Field.key, HVS_AC_ACAMP, HVS_CHCTL_ACEN]; omega)
  have hhz : s1.fld (HVS_ACFREQ_HZ h) = s.fld (HVS_ACFREQ_HZ h) := by
    rw [hs1]; exact fld_setFld_ne s 0 (by simp only [Field.key, HVS_ACFREQ_HZ, HVS_CHCTL_ACEN]; omega)
  have hden : s1.acDen h = s.acDen h := by rw [State.acDen, State.acCycle, hramp, hhz]; rfl
  have hflag : s1.flag (HVS_CHCTL_ACEN h) = false := by rw [hs1]; exact flag_setOff ..
  have hac1 : (s1.acMove h (s1.acAt h)).ac = 2 := by rw [hs1]; exact hac
  have hx : s.hvAcen h false = s1.hvAcOff h := by rw [hs1, State.hvAcen, if_neg (by decide)]
  rw [hx, State.hvAcOff]
  rw [if_neg (show (s1.acMove h (s1.acAt h)).ac ≠ 0 by omega), hramp]
  by_cases hr : s.fld (HVS_ACCFG_ACRAMP h) = 0
  · rw [if_pos hr, hvP_setHv]
    exact ⟨hflag, rfl, fun _ => rfl, absurd hr⟩
  · rw [if_neg hr, if_pos hac1, hvP_setHv, hamp, hden]
    exact ⟨hflag, rfl, (absurd · hr), fun _ => ⟨rfl, rfl, rfl⟩⟩

end

/-- The end of a cycle of the AC drive, on a channel whose AC part is not off. -/
theorem execAcExcitationCycle_idle {s : State} {h : Nat} (hoff : s.isOff = false) (hac : (s.hvP h).ac = 0) :
    exec (.acExcitationCycle h) s = .next s := by
  refine (next_on hoff).trans (congrArg _ ?_)
  split
  · rfl
  · have hx : ({ s.acMove h (s.acCycle h) with pos := 0, start := s.time.cycles } : Hv).ac = 0 := hac
    dsimp only at hx ⊢
    rw [hx]
    rfl

section

variable {s : State} {h : Nat} (hoff : s.isOff = false) (hh : h < 16)
include hoff hh

theorem execAcExcitationCycle_rises (hac : (s.hvP h).ac = 1) : ∃ s', exec (.acExcitationCycle h) s = .next s' ∧
    (s'.hvP h).level = min (s.fld (HVS_AC_ACAMP h) * (s.hvP h).den)
      ((s.hvP h).level + (s.hvP h).slope * (s.acCycle h - (s.hvP h).pos)) ∧
    ((s'.hvP h).ac = 2 ↔ s.fld (HVS_AC_ACAMP h) * (s.hvP h).den ≤
      (s.hvP h).level + (s.hvP h).slope * (s.acCycle h - (s.hvP h).pos)) ∧ (s'.hvP h).pos = 0 := by
  have hmove : (s.acMove h (s.acCycle h)).ac = 1 := hac
  have hden : (s.acMove h (s.acCycle h)).den = (s.hvP h).den := rfl
  have hlevel : (s.acMove h (s.acCycle h)).level = min (s.fld (HVS_AC_ACAMP h) * (s.hvP h).den)
      ((s.hvP h).level + (s.hvP h).slope * (s.acCycle h - (s.hvP h).pos)) := if_pos hac
  refine ⟨_, (next_on hoff).trans (congrArg _ ((if_neg (by omega)).trans (if_pos hmove))), ?_⟩
  rw [hvP_setHv]
  dsimp only
  rw [hden, hlevel]
  refine ⟨rfl, ?_, rfl⟩
  split <;> omega

theorem execAcExcitationCycle_falls (hac : (s.hvP h).ac = 3) : ∃ s', exec (.acExcitationCycle h) s = .next s' ∧
    (s'.hvP h).level = (s.hvP h).level - (s.hvP h).slope * (s.acCycle h - (s.hvP h).pos) ∧
    ((s'.hvP h).ac = 0 ↔ (s.hvP h).level ≤ (s.hvP h).slope * (s.acCycle h - (s.hvP h).pos)) := by
  have hmove : (s.acMove h (s.acCycle h)).ac = 3 := hac
  have hlevel : (s.acMove h (s.acCycle h)).level = (s.hvP h).level - (s.hvP h).slope * (s.acCycle h - (s.hvP h).pos) :=
    (if_neg (by omega)).trans (if_pos hac)
  have hne : ¬ ({ s.acMove h (s.acCycle h) with pos := 0, start := s.time.cycles } : Hv).ac = 1 := by
    rw [show ({ s.acMove h (s.acCycle h) with pos := 0, start := s.time.cycles } : Hv).ac = 3 from hac]
    decide
  refine ⟨_, (next_on hoff).trans (congrArg _ ((if_neg (by omega)).trans ((if_neg hne).trans (if_pos hmove)))), ?_⟩
  dsimp only
  split
  · next h0 =>
    rw [hvP_setHv]
    exact ⟨hlevel, fun _ => by rw [hlevel] at h0; omega, fun _ => rfl⟩
  · next h0 =>
    rw [hvP_setHv]
    refine ⟨hlevel, ?_⟩
    dsimp only
    rw [hmove]
    rw [hlevel] at h0
    omega

theorem execAcExcitationCycle_stands (hac : (s.hvP h).ac = 2) : ∃ s', exec (.acExcitationCycle h) s = .next s' ∧
    (s'.hvP h).ac = 2 ∧ (s'.hvP h).level = (s.hvP h).level := by
  have hx : ({ s.acMove h (s.acCycle h) with pos := 0, start := s.time.cycles } : Hv).ac = 2 := hac
  have hlevel : (s.acMove h (s.acCycle h)).level = (s.hvP h).level := (if_neg (by omega)).trans (if_neg (by omega))
  refine ⟨_, (next_on hoff).trans (congrArg _ ((if_neg (by omega)).trans ((if_neg (by rw [hx]; decide)).trans
    ((if_neg (by rw [hx]; decide)).trans (if_pos hx))))), ?_⟩
  rw [hvP_setHv]
  exact ⟨hac, hlevel⟩

theorem execArcHoldEnd_ramps (hst : s.hvState h = hvArcHold) : ∃ s', exec (.arcHoldEnd h) s = .next s' ∧
    s'.hvState h = hvRamping ∧ (s'.hvP h).set = 0 :=
  ⟨_, (next_on hoff).trans (congrArg _ (if_pos ⟨hh, hst⟩)), hvState_setFld_state _ (by decide), congrArg Hv.set (hvP_setHv ..)⟩

theorem execHvRegTimeout_raises (hst : s.hvState h = hvRegulating) (he : (s.hvP h).err = true) :
    ∃ s', exec (.hvRegTimeout h) s = .next s' ∧ s'.srcSet 14 (16 + h) = true := by
  have all : ∀ h < 16, sourceOk 14 (16 + h) = true := by decide
  exact ⟨s.raise 14 (16 + h), (next_on hoff).trans (congrArg _ (if_pos ⟨hh, hst, he⟩)),
    srcSet_raise (all h hh) (by simp [State.dormantMute])⟩

end

theorem execArcHoldEnd_other {s : State} {h : Nat} (hoff : s.isOff = false) (hst : s.hvState h ≠ hvArcHold) :
    exec (.arcHoldEnd h) s = .next s := (next_on hoff).trans (congrArg _ (if_neg fun hn => hst hn.2))

theorem execHvRegTimeout_other {s : State} {h : Nat} (hoff : s.isOff = false)
    (hst : s.hvState h ≠ hvRegulating ∨ (s.hvP h).err = false) : exec (.hvRegTimeout h) s = .next s := by
  refine (next_on hoff).trans (congrArg _ (if_neg fun ⟨_, h1, h2⟩ => ?_))
  rcases hst with h | h
  · exact h h1
  · simp [h] at h2

/-! The fuser (R273 to R275). -/

@[simp] theorem zoneP_setZone (s : State) (z : Nat) (x : Zone) : (s.setZone z x).zoneP z = x :=
  tabGet_tabSet_same _ z x s.plant.zones

theorem zoneP_setZone_ne (s : State) {y z : Nat} (x : Zone) (h : y ≠ z) : (s.setZone z x).zoneP y = s.zoneP y :=
  tabGet_tabSet_ne _ _ _ _ x h s.plant.zones

@[simp] theorem zoneP_mapZone (s : State) (z : Nat) (f : Zone → Zone) : (s.mapZone z f).zoneP z = f (s.zoneP z) :=
  zoneP_setZone ..

theorem zoneP_mapZone_ne (s : State) {y z : Nat} (f : Zone → Zone) (h : y ≠ z) : (s.mapZone z f).zoneP y = s.zoneP y :=
  zoneP_setZone_ne s _ h

theorem zoneP_of_plant {s u : State} (h : u.plant = s.plant) (z : Nat) : u.zoneP z = s.zoneP z :=
  congrArg (fun p : Plant => tabGet Zone.init p.zones z) h

@[simp] theorem zoneP_setFld (s : State) (f : Field) (v z : Nat) : (s.setFld f v).zoneP z = s.zoneP z := rfl

@[simp] theorem fld_mapZone (s : State) (z : Nat) (g : Zone → Zone) (f : Field) : (s.mapZone z g).fld f = s.fld f := rfl

@[simp] theorem fld_setZone (s : State) (z : Nat) (x : Zone) (f : Field) : (s.setZone z x).fld f = s.fld f := rfl

theorem fld_zoneWindow (s : State) (z : Nat) (f : Field) : (s.zoneWindow z).fld f = s.fld f := by
  unfold State.zoneWindow
  split <;> rfl

theorem fld_zoneWindows (f : Field) (l : List Nat) (s : State) : (l.foldl State.zoneWindow s).fld f = s.fld f := by
  induction l generalizing s with
  | nil => rfl
  | cons z l ih => rw [List.foldl_cons, ih, fld_zoneWindow]

/-- One zone's output in the coming half-cycle. -/
def State.fireZone (s : State) (due fired : List Nat) (z : Nat) : State :=
  let on := fired.contains z
  let s1 := if s.burstZone z then
      s.setZone z { s.zoneP z with on := on, err := if on then (s.zoneP z).err - s.fld FUS_BURST_WIN else (s.zoneP z).err }
    else s
  if due.contains z ∧ ¬ on then s1.inc FUS_DEFER_COUNT else s1

theorem fireZones_cons (s : State) (due fired : List Nat) (z : Nat) (zs : List Nat) :
    s.fireZones due fired (z :: zs) = (s.fireZone due fired z).fireZones due fired zs := rfl

theorem fld_fireZone (s : State) (due fired : List Nat) (z : Nat) {f : Field} (hf : f.key ≠ FUS_DEFER_COUNT.key) :
    (s.fireZone due fired z).fld f = s.fld f := by
  have hset : (if s.burstZone z then s.setZone z { s.zoneP z with
      on := fired.contains z, err := if fired.contains z then (s.zoneP z).err - s.fld FUS_BURST_WIN else (s.zoneP z).err }
      else s).fld f = s.fld f := by split <;> rfl
  unfold State.fireZone
  dsimp only
  split
  · exact (fld_setFld_ne _ _ hf).trans hset
  · exact hset

theorem zoneP_fireZone_ne (s : State) (due fired : List Nat) {y z : Nat} (h : y ≠ z) :
    (s.fireZone due fired z).zoneP y = s.zoneP y := by
  have hset : (if s.burstZone z then s.setZone z { s.zoneP z with
      on := fired.contains z, err := if fired.contains z then (s.zoneP z).err - s.fld FUS_BURST_WIN else (s.zoneP z).err }
      else s).zoneP y = s.zoneP y := by
    split
    · exact zoneP_setZone_ne s _ h
    · rfl
  unfold State.fireZone
  dsimp only
  split
  · exact hset
  · exact hset

theorem zoneP_fireZone_same (s : State) (due fired : List Nat) (z : Nat) :
    ((s.fireZone due fired z).zoneP z).off = (s.zoneP z).off ∧
      (s.burstZone z = true → ((s.fireZone due fired z).zoneP z).on = fired.contains z) := by
  obtain ⟨s1, hs1⟩ : ∃ s1, s1 = if s.burstZone z then s.setZone z { s.zoneP z with
      on := fired.contains z, err := if fired.contains z then (s.zoneP z).err - s.fld FUS_BURST_WIN else (s.zoneP z).err }
      else s := ⟨_, rfl⟩
  have hx : (s.fireZone due fired z).zoneP z = s1.zoneP z := by
    unfold State.fireZone
    dsimp only
    rw [← hs1]
    split <;> rfl
  rw [hx, hs1]
  split
  · rw [zoneP_setZone]
    exact ⟨rfl, fun _ => rfl⟩
  · next h => exact ⟨rfl, fun hb => absurd hb h⟩

theorem burstZone_congr {s u : State} {z : Nat} (h1 : u.fld (FUS_ZCFG_EN z) = s.fld (FUS_ZCFG_EN z))
    (h2 : u.fld (FUS_ZCFG_HEAT z) = s.fld (FUS_ZCFG_HEAT z)) (h3 : (u.zoneP z).off = (s.zoneP z).off) :
    u.burstZone z = s.burstZone z := by
  rw [State.burstZone, State.flag, State.flag, h1, h2, h3]
  rfl

theorem zcfgKeys (z : Nat) : (FUS_ZCFG_EN z).key ≠ FUS_DEFER_COUNT.key ∧ (FUS_ZCFG_HEAT z).key ≠ FUS_DEFER_COUNT.key := by
  simp only [Field.key, FUS_ZCFG_EN, FUS_ZCFG_HEAT, FUS_DEFER_COUNT]
  omega

theorem burstZone_fireZone (s : State) (due fired : List Nat) (z y : Nat) :
    (s.fireZone due fired z).burstZone y = s.burstZone y := by
  refine burstZone_congr (fld_fireZone s _ _ _ (zcfgKeys y).1) (fld_fireZone s _ _ _ (zcfgKeys y).2) ?_
  by_cases h : y = z
  · exact h ▸ (zoneP_fireZone_same s due fired y).1
  · rw [zoneP_fireZone_ne s _ _ h]

/-- A burst zone is on in the coming half-cycle only if it is fired. -/
theorem fireZones_on (due fired : List Nat) : ∀ (l : List Nat) (s : State), l.Nodup →
    (∀ z, (s.fireZones due fired l).burstZone z = s.burstZone z) ∧ (∀ z, z ∉ l → (s.fireZones due fired l).zoneP z = s.zoneP z) ∧
    ∀ z, z ∈ l → s.burstZone z = true → ((s.fireZones due fired l).zoneP z).on = fired.contains z
  | [], _, _ => ⟨fun _ => rfl, fun _ _ => rfl, fun _ hz => nomatch hz⟩
  | y :: l, s, hn => by
    obtain ⟨hy, hl⟩ := List.nodup_cons.mp hn
    obtain ⟨h1, h2, h3⟩ := fireZones_on due fired l (s.fireZone due fired y) hl
    rw [fireZones_cons]
    refine ⟨fun z => (h1 z).trans (burstZone_fireZone s due fired y z), fun z hz => ?_, fun z hz hb => ?_⟩
    · have hne : z ≠ y := fun h => hz (h ▸ List.mem_cons_self)
      exact (h2 z fun h => hz (List.mem_cons_of_mem _ h)).trans (zoneP_fireZone_ne s due fired hne)
    · by_cases hzy : z = y
      · subst hzy
        rw [h2 z hy]
        exact (zoneP_fireZone_same s due fired z).2 hb
      · exact h3 z ((List.mem_cons.mp hz).resolve_left hzy) ((burstZone_fireZone s due fired y z).trans hb)

theorem fld_fireZones (due fired : List Nat) {f : Field} (hf : f.key ≠ FUS_DEFER_COUNT.key) : ∀ (l : List Nat) (s : State),
    (s.fireZones due fired l).fld f = s.fld f
  | [], _ => rfl
  | z :: l, s => by rw [fireZones_cons, fld_fireZones due fired hf l, fld_fireZone s due fired z hf]

theorem length_pickZones (s : State) : ∀ (n : Nat) (due : List Nat), (s.pickZones n due).length ≤ n
  | 0, _ => Nat.le_refl 0
  | n + 1, due => by
    rw [State.pickZones]
    split
    · exact Nat.zero_le _
    · exact Nat.succ_le_succ (length_pickZones s n _)

section

variable {s : State} (hoff : s.isOff = false)
include hoff

theorem execZeroCrossing_fires (hw : s.isWorker = false) (half : Nat) : ∃ s', exec (.zeroCrossing half) s = .next s' ∧
    s'.fld FUS_MAINS_HALF = min half 0xFFFF ∧ s'.flag FUS_STATUS_ZCOK = true ∧
    ((List.range 24).filter fun z => s'.burstZone z && (s'.zoneP z).on).length ≤ s.fld FUS_BURST_MAXON := by
  obtain ⟨s1, hs1⟩ : ∃ s1, s1 = (s.setFld FUS_MAINS_HALF (min half 0xFFFF)).setOn FUS_STATUS_ZCOK := ⟨_, rfl⟩
  obtain ⟨s2, hs2⟩ : ∃ s2, s2 = (List.range 24).foldl State.zoneWindow s1 := ⟨_, rfl⟩
  obtain ⟨due, hdue⟩ : ∃ due, due = (List.range 24).filter s2.zoneDue := ⟨_, rfl⟩
  obtain ⟨fired, hfired⟩ : ∃ fired, fired = s2.pickZones (s.fld FUS_BURST_MAXON) due := ⟨_, rfl⟩
  obtain ⟨s3, hs3⟩ : ∃ s3, s3 = s2.fireZones due fired (List.range 24) := ⟨_, rfl⟩
  refine ⟨s3.setPlant { s3.plant with halfCycle := s3.plant.halfCycle + 1 }, ?_, ?_, ?_, ?_⟩
  · refine (next_on hoff).trans (congrArg _ ((if_neg (by simp [hw])).trans ?_))
    rw [hs3, hfired, hdue, hs2, hs1]
  · have hkey : FUS_MAINS_HALF.key ≠ FUS_DEFER_COUNT.key ∧ FUS_MAINS_HALF.key ≠ FUS_STATUS_ZCOK.key := by decide
    rw [fld_setPlant, hs3, fld_fireZones _ _ hkey.1, hs2, fld_zoneWindows, hs1, State.setOn, fld_setFld_ne _ _ hkey.2,
      fld_setFld_same]
    exact Nat.mod_eq_of_lt (by have : FUS_MAINS_HALF.width = 16 := rfl; rw [this]; omega)
  · have hkey : FUS_STATUS_ZCOK.key ≠ FUS_DEFER_COUNT.key := by decide
    have h1 : s1.flag FUS_STATUS_ZCOK = true := by rw [hs1]; exact flag_setOn _ (by decide)
    refine (flag_of_fld ?_).trans h1
    rw [fld_setPlant, hs3, fld_fireZones _ _ hkey, hs2, fld_zoneWindows]
  · obtain ⟨hburst, -, hon⟩ := fireZones_on due fired (List.range 24) s2 List.nodup_range
    rw [← hs3] at hburst hon
    have hsub : ((List.range 24).filter fun z => s3.burstZone z && (s3.zoneP z).on) ⊆ fired := by
      intro z hz
      obtain ⟨hmem, hz⟩ := List.mem_filter.mp hz
      obtain ⟨hb, ho⟩ := Bool.and_eq_true _ _ ▸ hz
      rw [hon z hmem (hburst z ▸ hb)] at ho
      exact List.contains_iff_mem.mp ho
    have hle := (List.subperm_of_subset (List.nodup_range.filter _) hsub).length_le
    exact hle.trans (hfired ▸ length_pickZones s2 _ _)

end

/-- A burst zone's output is switched off. -/
def State.zoneDark (s : State) (z : Nat) : State := if s.burstZone z then s.mapZone z fun x => { x with on := false } else s

theorem fld_zoneDark (s : State) (z : Nat) (f : Field) : (s.zoneDark z).fld f = s.fld f := by
  unfold State.zoneDark
  split <;> rfl

theorem zoneP_zoneDark (s : State) (y z : Nat) : (s.zoneDark y).zoneP z =
    if z = y ∧ s.burstZone z = true then { s.zoneP z with on := false } else s.zoneP z := by
  unfold State.zoneDark
  by_cases h : z = y
  · subst h
    by_cases hb : s.burstZone z = true
    · simp [hb]
    · simp [hb]
  · rw [if_neg (show ¬ (z = y ∧ s.burstZone z = true) from fun hn => h hn.1)]
    split
    · exact zoneP_mapZone_ne s _ h
    · rfl

theorem burstZone_zoneDark (s : State) (y z : Nat) : (s.zoneDark y).burstZone z = s.burstZone z := by
  refine burstZone_congr (fld_zoneDark ..) (fld_zoneDark ..) ?_
  rw [zoneP_zoneDark]
  split <;> rfl

theorem zoneP_zoneDarks (z : Nat) : ∀ (l : List Nat) (s : State),
    (s.burstZone z = false → (l.foldl State.zoneDark s).zoneP z = s.zoneP z) ∧
    (s.burstZone z = true → z ∈ l ∨ (s.zoneP z).on = false → ((l.foldl State.zoneDark s).zoneP z).on = false)
  | [], _ => ⟨fun _ => rfl, fun _ h => h.resolve_left (List.not_mem_nil)⟩
  | y :: l, s => by
    obtain ⟨h1, h2⟩ := zoneP_zoneDarks z l (s.zoneDark y)
    rw [burstZone_zoneDark] at h1 h2
    rw [List.foldl_cons]
    refine ⟨fun hb => (h1 hb).trans ?_, fun hb hz => h2 hb ?_⟩
    · rw [zoneP_zoneDark, if_neg (by simp [hb])]
    · rw [zoneP_zoneDark]
      by_cases hzy : z = y
      · exact .inr (by rw [if_pos ⟨hzy, hb⟩])
      · rw [if_neg fun h => hzy h.1]
        exact hz.imp_left fun h => (List.mem_cons.mp h).resolve_left hzy

theorem sourceOk_fuser : sourceOk 15 56 = true ∧ ∀ z < 24, sourceOk 15 z = true ∧ sourceOk 15 (32 + z) = true := by decide

section

variable {s : State} (hoff : s.isOff = false)
include hoff

theorem execZeroCrossTimeout_darkens (hw : s.isWorker = false) {z : Nat} (hz : z < 24) : ∃ s', exec .zeroCrossTimeout s = .next s' ∧
    s'.flag FUS_STATUS_ZCOK = false ∧ s'.srcSet 15 56 = true ∧ (s.burstZone z = true → (s'.zoneP z).on = false) ∧
    (s.burstZone z = false → s'.zoneP z = s.zoneP z) := by
  obtain ⟨s1, hs1⟩ : ∃ s1, s1 = (List.range 24).foldl State.zoneDark s := ⟨_, rfl⟩
  obtain ⟨h1, h2⟩ := zoneP_zoneDarks z (List.range 24) s
  rw [← hs1] at h1 h2
  have hzone : (((s1.setOff FUS_STATUS_ZCOK).raise 15 56).zoneP z) = s1.zoneP z :=
    (zoneP_of_plant (plant_raise _ 15 56) z).trans rfl
  refine ⟨(s1.setOff FUS_STATUS_ZCOK).raise 15 56, ?_, ?_, srcSet_raise sourceOk_fuser.1 (by simp [State.dormantMute]),
    fun hb => ?_, fun hb => hzone.trans (h1 hb)⟩
  · refine (next_on hoff).trans (congrArg _ ((if_neg (by simp [hw])).trans ?_))
    rw [hs1]
    rfl
  · exact (flag_of_fld (fld_raise _ (by simp only [raiseKey, eventKey_iff]; decide))).trans (flag_setOff ..)
  · rw [hzone]
    exact h2 hb (.inl (List.mem_range.mpr hz))

theorem fuser_worker (hw : s.isWorker = true) : (∀ half, exec (.zeroCrossing half) s = .next s) ∧
    exec .zeroCrossTimeout s = .next s ∧ ∀ z adc, exec (.zoneTempUpdate z adc) s = .next s :=
  ⟨fun _ => (next_on hoff).trans (congrArg _ (if_pos hw)), (next_on hoff).trans (congrArg _ (if_pos hw)),
    fun _ _ => (next_on hoff).trans (congrArg _ (if_pos (.inr hw)))⟩

omit hoff in
theorem zoneForce_keeps (s : State) {z : Nat} (hz : z < 24) : ((s.zoneForce z).zoneP z).forced = true ∧
    (s.zoneForce z).fld (FUS_ZTEMP_TEMP z) = s.fld (FUS_ZTEMP_TEMP z) := by
  obtain ⟨u, hu⟩ : ∃ u, u = (s.mapZone z fun x => { x with forced := true, on := false }).setFld (FUS_ZTEMP_DUTY z) (min 0 0xFFFF) :=
    ⟨_, rfl⟩
  have hzone : (u.zoneP z).forced = true := by
    rw [hu, zoneP_setFld, zoneP_mapZone]
  have hfld : u.fld (FUS_ZTEMP_TEMP z) = s.fld (FUS_ZTEMP_TEMP z) := by
    rw [hu]
    exact fld_setFld_ne _ _ (by simp only [Field.key, FUS_ZTEMP_TEMP, FUS_ZTEMP_DUTY]; omega)
  rw [State.zoneForce, State.zoneDuty, ← hu]
  split
  · exact ⟨(congrArg Zone.forced (zoneP_of_plant (gpwmDuty_frame u ..).2 z)).trans hzone,
      ((gpwmDuty_frame u ..).1 _ (by simp only [Field.key, FUS_ZTEMP_TEMP]; omega)).trans hfld⟩
  · exact ⟨hzone, hfld⟩

omit hoff in
theorem toTwos_lt (w : Nat) (x : Int) : toTwos w x < 2 ^ w := by
  have hpos : (0 : Int) < 2 ^ w := Int.pow_pos (by decide)
  have h0 := Int.emod_nonneg x (Int.ne_of_gt hpos)
  have h1 := Int.emod_lt_of_pos x hpos
  have hcast : ((2 ^ w : Nat) : Int) = 2 ^ w := by push_cast; rfl
  unfold toTwos
  omega

omit hoff in
theorem not_raiseKey_temp {z src : Nat} (hz : z < 24) : ¬ raiseKey 15 src (FUS_ZTEMP_TEMP z).key := by
  have hb := blkKey_eq 15
  have h0 : FUS_FSTAT0_SRC.key = 0xA80010 * 32 := by decide
  have h1 : FUS_FSTAT1_SRC.key = 0xA80014 * 32 := by decide
  have h2 : FLT_INCNEXT_VALUE.key = 0xC00018 * 32 := by decide
  have hst : fstatOf 15 src = FUS_FSTAT0_SRC ∨ fstatOf 15 src = FUS_FSTAT1_SRC := by
    by_cases h : src < 32
    · exact .inl (if_pos h)
    · exact .inr (if_neg h)
  rcases hst with hst | hst
  all_goals
    simp only [raiseKey, hst, eventKey_iff, hb.1, hb.2, h0, h1, h2]
    simp only [Field.key, FUS_ZTEMP_TEMP]
    omega

omit hoff in
theorem zoneForced_spec (s : State) {z src : Nat} (hz : z < 24) (hok : sourceOk 15 src = true) :
    (((s.zoneForce z).raise 15 src).zoneP z).forced = true ∧ ((s.zoneForce z).raise 15 src).srcSet 15 src = true ∧
    ((s.zoneForce z).raise 15 src).fld (FUS_ZTEMP_TEMP z) = s.fld (FUS_ZTEMP_TEMP z) := by
  obtain ⟨h1, h2⟩ := zoneForce_keeps s hz
  exact ⟨(congrArg Zone.forced (zoneP_of_plant (plant_raise ..) z)).trans h1, srcSet_raise hok (by simp [State.dormantMute]),
    (fld_raise _ (not_raiseKey_temp hz)).trans h2⟩

omit hoff in
theorem zoneReading_some (s : State) {z : Nat} (hz : z < 24) (t : Int) :
    (s.zoneReading z (some t)).fld (FUS_ZTEMP_TEMP z) = toTwos 16 (sat16 t) ∧
    (ofTwos 16 (s.fld (FUS_ZSETR_ZMAX z)) < t → ((s.zoneReading z (some t)).zoneP z).forced = true ∧
      (s.zoneReading z (some t)).srcSet 15 z = true) ∧
    (t ≤ ofTwos 16 (s.fld (FUS_ZSETR_ZMAX z)) → ((s.zoneReading z (some t)).zoneP z).forced = false) := by
  obtain ⟨u, hu⟩ : ∃ u, u = (s.mapZone z fun x => { x with seen := true }).setFld (FUS_ZTEMP_TEMP z) (toTwos 16 (sat16 t)) :=
    ⟨_, rfl⟩
  have htemp : u.fld (FUS_ZTEMP_TEMP z) = toTwos 16 (sat16 t) := by
    rw [hu, fld_setFld_same]
    exact Nat.mod_eq_of_lt (toTwos_lt 16 _)
  have hx : s.zoneReading z (some t) = if t > ofTwos 16 (s.fld (FUS_ZSETR_ZMAX z)) then (u.zoneForce z).raise 15 z
      else u.mapZone z fun x => { x with forced := false } := by rw [hu]; rfl
  rw [hx]
  obtain ⟨h1, h2, h3⟩ := zoneForced_spec u (src := z) hz (sourceOk_fuser.2 z hz).1
  split
  · next h => exact ⟨h3.trans htemp, fun _ => ⟨h1, h2⟩, fun hn => absurd h (by omega)⟩
  · next h => exact ⟨htemp, fun hn => absurd hn h, fun _ => by rw [zoneP_mapZone]⟩

theorem execZoneTempUpdate_on (hw : s.isWorker = false) {z : Nat} (hz : z < 24) (adc : List (Option Int)) :
    exec (.zoneTempUpdate z adc) s = .next (match adc.getD (s.fld (FUS_ZCFG_SADC z)) none,
        if s.fld (FUS_ZCFG_SENS z) = 0 then adc.getD (s.fld (FUS_ZCFG_CJADC z)) none else some 0 with
      | some v, some cj => s.zoneReading z (Config.zoneTemp (s.fld (FUS_ZCFG_SENS z)) v cj)
      | _, _ => s) :=
  (next_on hoff).trans (congrArg _ (if_neg (by simp [hw]; omega)))

end

/-! The thermal models (R276 to R279). -/

@[simp] theorem thermP_setTherm (s : State) (m : Nat) (x : Therm) : (s.setTherm m x).thermP m = x :=
  tabGet_tabSet_same _ m x s.plant.therm

theorem thermP_of_plant {s u : State} (h : u.plant = s.plant) (m : Nat) : u.thermP m = s.thermP m :=
  congrArg (fun p : Plant => tabGet Therm.init p.therm m) h

/-- A model that does not apply reads 0, and its limit factor is 16. -/
theorem thmIdle_spec (s : State) (m : Nat) : (s.thmIdle m).fld (THM_MT_T1 m) = 0 ∧ (s.thmIdle m).fld (THM_MT_T2 m) = 0 ∧
    (s.thmIdle m).fld (THM_P_P m) = 0 ∧ (s.thmIdle m).limFac m = 16 := by
  rw [State.thmIdle]
  simp only [List.foldl, State.setOff, State.limFac]
  refine ⟨?_, ?_, ?_, ?_⟩
  all_goals
    simp (disch := (simp only [Field.key, THM_MT_T1, THM_MT_T2, THM_P_P, THM_MSTAT_SENSOK, THM_MSTAT_FAST, THM_MSTAT_THROT,
      THM_MSTAT_WARN, THM_MSTAT_LIMFAC]; omega)) only [fld_setFld_ne, fld_setFld_same, Nat.zero_mod]
  rfl

theorem started_thmCorrect (s : State) (m tenths : Nat) (v : Option Int) (h : (s.thermP m).started = true) :
    ((s.thmCorrect m tenths v).thermP m).started = true := by
  have hraise (u : State) : ((u.raise 16 m).thermP m) = u.thermP m := thermP_of_plant (plant_raise ..) m
  have hset (y : Therm) (hy : y.started = true) (c : Prop) [Decidable c] :
      ((if c then ((s.setTherm m y).setOn (THM_MSTAT_SENSOK m)).raise 16 m
        else (s.setTherm m y).setOn (THM_MSTAT_SENSOK m)).thermP m).started = true := by
    have hx : ((s.setTherm m y).setOn (THM_MSTAT_SENSOK m)).thermP m = y := thermP_setTherm s m y
    split
    · rw [hraise, hx, hy]
    · rw [hx, hy]
  unfold State.thmCorrect
  split
  · exact h
  · refine hset _ ?_ _
    split <;> exact h

/-- An update of a model starts it, and ends in its thresholds and what it shows. -/
theorem thmUpdate_spec (s : State) (m p : Nat) (v : Option Int) : ∃ s1 : State, s.thmUpdate m p v =
    ((s1.thmLevels m).thmShow m (s.thmPower m p (if s.flag (THM_MSTAT_FAST m) then 1 else 10))) ∧ (s1.thermP m).started = true := by
  refine ⟨_, rfl, started_thmCorrect _ _ _ _ ?_⟩
  rw [thermP_setTherm]
  dsimp only
  split
  · assumption
  · rfl

section

variable {s : State} {m : Nat} (hoff : s.isOff = false) (hm : m < 48)
include hoff hm

omit hoff hm in
/-- A reading of a die changes neither whether its model applies nor whether it is enabled. -/
theorem dieReading_keeps (die : Option Int) : (s.dieReading m die).thmApplies m = s.thmApplies m ∧
    (s.dieReading m die).flag (THM_MCFG_EN m) = s.flag (THM_MCFG_EN m) := by
  by_cases h1 : m = 1
  · subst h1
    refine ⟨rfl, ?_⟩
    cases die with
    | none => exact flag_of_fld (fld_raise s (by simp only [raiseKey, eventKey_iff]; decide))
    | some r =>
      show (((s.setPlant { s.plant with dieTemp := r }).calWatch 4).flag (THM_MCFG_EN 1)) = _
      unfold State.calWatch
      split <;> rfl
  · rw [show s.dieReading m die = s from if_pos h1]
    exact ⟨rfl, rfl⟩

theorem execThermalModelUpdate_on (p : Nat) (die : Option Int) (adc : List (Option Int)) :
    exec (.thermalModelUpdate m p die adc) s = .next (
      if ¬ (s.dieReading m die).thmApplies m = true then (s.dieReading m die).thmIdle m
      else if ¬ (s.dieReading m die).flag (THM_MCFG_EN m) = true then s.dieReading m die
      else (s.dieReading m die).thmUpdate m p (s.thmSensor m die adc)) := by
  obtain ⟨ha, he⟩ := dieReading_keeps die (s := s)
  rw [ha, he]
  exact (next_on hoff).trans (congrArg _ (if_neg (show ¬ m ≥ 48 by omega)))

theorem execLimitFactorStep_limited (hx : (s.thermP m).thr = true ∨ (s.thermP m).forced = true) : exec (.limitFactorStep m) s =
    .next (s.setFld (THM_MSTAT_LIMFAC m) (max (min (s.limFac m) (s.fld (THM_MTHR_MINFAC m))) (s.limFac m - 1))) :=
  (next_on hoff).trans (congrArg _ ((if_neg (by omega)).trans (if_pos hx)))

theorem execLimitFactorStep_free (ht : (s.thermP m).thr = false) (hf : (s.thermP m).forced = false) :
    exec (.limitFactorStep m) s = .next (
      if (s.thermP m).t1 / tU < s.thmLevel thmThr m - (s.fld (THM_MTHR_HYST m) : Int) then
        s.setFld (THM_MSTAT_LIMFAC m) (min 16 (s.limFac m + 1))
      else s) := by
  have hseen : s.thmSeen m = (s.thermP m).t1 / tU := by simp [State.thmSeen, hf]
  refine (next_on hoff).trans (congrArg _ ((if_neg (by omega)).trans ((if_neg (by simp [ht, hf])).trans ?_)))
  rw [hseen]

end

/-- Settles O52: each command's outcome, from what it does to its channel, its zone or its model. -/
theorem controlHvFuserHeat : Obligations.ControlHvFuserHeat := by
  unfold Obligations.ControlHvFuserHeat
  intro s l h z m p hoff hl hh hz hm
  have hen := fun on => execHvEnable_on hoff hh on
  have hac := fun on => execAcen_on hoff hh on
  refine ⟨⟨fun hok => ?_, fun hok => ?_⟩, fun r hr => (next_on hoff).trans (congrArg _ (if_pos hr)), fun hst => ?_, fun he => ?_,
    fun hst he hmay => ⟨_, hen true, hvEnable_ramps hst he hmay⟩, fun hst he hmay => ?_, fun hst => ?_,
    fun hst hlive hr => ⟨_, (hen false).trans (congrArg _ (hvDisable_at_once hlive hr)), hvTurnOff_spec hst⟩,
    fun hlive hr hst => ?_, fun hr => ?_, fun h4 hb hrest => ?_, fun h4 hb h3 => ⟨_, hac true, hvAcen_reverses h4 hb h3⟩,
    fun h2 => ⟨_, hac false, acenOff_falls h2⟩, fun h0 => ?_, execArcHoldEnd_ramps hoff hh, execArcHoldEnd_other hoff,
    execHvRegTimeout_raises hoff hh, execHvRegTimeout_other hoff, ⟨execAcExcitationCycle_rises hoff hh,
      execAcExcitationCycle_falls hoff hh, execAcExcitationCycle_stands hoff hh, execAcExcitationCycle_idle hoff⟩,
    fun hw => ?_, fun hw half => execZeroCrossing_fires hoff hw half, fun hw => execZeroCrossTimeout_darkens hoff hw hz,
    fun hw adc => ?_, fun die adc => ?_, ⟨execLimitFactorStep_limited hoff hm, fun ht hf => ?_⟩⟩
  · exact (next_on hoff).trans (congrArg _ ((if_pos hl).trans (if_pos hok)))
  · exact (next_on hoff).trans (congrArg _ ((if_pos hl).trans (if_neg (by simp [hok]))))
  · exact (hen true).trans (congrArg _ (hvEnable_held (.inl hst)))
  · exact (hen true).trans (congrArg _ (hvEnable_held (.inr he)))
  · exact (hen true).trans (congrArg _ (hvEnable_refused hst he hmay))
  · exact (hen false).trans (congrArg _ (hvDisable_off hst))
  · exact (hen false).trans (congrArg _ (hvDisable_ramps hlive hr hst))
  · exact (hac true).trans (congrArg _ (hvAcen_refused hr))
  · exact (hac true).trans (congrArg _ (hvAcen_from_rest h4 hb hrest))
  · exact (hac false).trans (congrArg _ (acenOff_at_rest h0))
  · obtain ⟨h1, h2, h3⟩ := fuser_worker hoff hw
    exact ⟨h1, h2, h3 z⟩
  · have hx := execZoneTempUpdate_on hoff hw hz adc
    refine ⟨fun hn => ?_, fun a b ha hb => ⟨fun t ht => ?_, fun ht => ?_⟩⟩
    · rw [hx]
      rcases hn with hn | hn
      · rw [hn]
      · rw [hn]
        split
        · next h => cases h
        · rfl
    · refine ⟨_, hx, ?_⟩
      rw [ha, hb]
      dsimp only
      rw [ht]
      exact zoneReading_some s hz t
    · refine ⟨_, hx, ?_⟩
      rw [ha, hb]
      dsimp only
      rw [ht]
      obtain ⟨h1, h2, -⟩ := zoneForced_spec (s.mapZone z fun x => { x with seen := false }) hz (sourceOk_fuser.2 z hz).2
      exact ⟨h1, h2⟩
  · have hx := execThermalModelUpdate_on hoff hm p die adc
    obtain ⟨u, hu⟩ : ∃ u, u = s.dieReading m die := ⟨_, rfl⟩
    rw [← hu] at hx ⊢
    refine ⟨fun he ha => ?_, fun ha => ⟨_, ?_, thmIdle_spec u m⟩, fun hne => hu.trans (if_pos hne), fun he ha => ?_⟩
    · exact hx.trans (congrArg _ ((if_neg (not_not.mpr ha)).trans (if_pos (by simp [he]))))
    · exact hx.trans (congrArg _ (if_pos (by simp [ha])))
    · obtain ⟨s1, h1, h2⟩ := thmUpdate_spec u m p (s.thmSensor m die adc)
      exact ⟨s1, hx.trans (congrArg _ ((if_neg (not_not.mpr ha)).trans ((if_neg (not_not.mpr he)).trans h1))), h2⟩
  · have hx := execLimitFactorStep_free hoff hm ht hf
    exact ⟨fun hc => hx.trans (congrArg _ (if_pos hc)), fun hc => hx.trans (congrArg _ (if_neg hc))⟩

end Sys2Proof.Machine

namespace Sys2Proof.Machine

/-! Store addresses and free units (R196, R199). -/

/-- An extent of a table that holds a unit of `n` from `b` on. -/
def Meets (exts : Tab Extent) (n b : Nat) : Prop := ∃ x, x ∈ exts ∧ b < x.2.base + x.2.units ∧ x.2.base < b + n

theorem runBlocked_cases (at0 n : Nat) : ∀ used : List (Nat × Nat),
    (runBlocked at0 n used = none ∧ ∀ x, x ∈ used → ¬ (at0 < x.1 + x.2 ∧ x.1 < at0 + n)) ∨
    ∃ x, x ∈ used ∧ at0 < x.1 + x.2 ∧ x.1 < at0 + n ∧ runBlocked at0 n used = some (x.1 + x.2)
  | [] => .inl ⟨rfl, fun _ h => nomatch h⟩
  | (b, k) :: m => by
    rw [runBlocked]
    by_cases h : at0 < b + k ∧ b < at0 + n
    · rw [if_pos h]
      exact .inr ⟨(b, k), List.mem_cons_self, h.1, h.2, rfl⟩
    · rw [if_neg h]
      rcases runBlocked_cases at0 n m with ⟨h1, h2⟩ | ⟨x, hx, h1, h2, h3⟩
      · refine .inl ⟨h1, fun x hx => ?_⟩
        rcases List.mem_cons.mp hx with rfl | hx
        · exact h
        · exact h2 x hx
      · exact .inr ⟨x, List.mem_cons_of_mem _ hx, h1, h2, h3⟩

/-- The run found is free and within the store, and every lower place from `at0` on is taken. -/
theorem findRun_spec (used : List (Nat × Nat)) (cap n : Nat) : ∀ (fuel at0 b : Nat), findRun used cap n at0 fuel = some b →
    runBlocked b n used = none ∧ at0 ≤ b ∧ b + n ≤ cap ∧
      ∀ c, at0 ≤ c → c < b → ∃ x, x ∈ used ∧ c < x.1 + x.2 ∧ x.1 < c + n
  | 0, _, _, h => nomatch h
  | fuel + 1, at0, b, h => by
    rw [findRun] at h
    split at h
    · cases h
    · next hcap =>
      rcases runBlocked_cases at0 n used with ⟨hr, -⟩ | ⟨x, hx, h1, h2, hr⟩
      · rw [hr] at h
        cases h
        exact ⟨hr, Nat.le_refl _, by omega, fun c h1 h2 => absurd h2 (by omega)⟩
      · rw [hr] at h
        obtain ⟨g1, g2, g3, g4⟩ := findRun_spec used cap n fuel (x.1 + x.2) b h
        refine ⟨g1, by omega, g3, fun c hc hcb => ?_⟩
        by_cases hx2 : c < x.1 + x.2
        · exact ⟨x, hx, hx2, by omega⟩
        · exact g4 c (by omega) hcb

theorem mem_unitRuns {exts : Tab Extent} {n b : Nat} : (∃ x, x ∈ unitRuns exts ∧ b < x.1 + x.2 ∧ x.1 < b + n) ↔ Meets exts n b := by
  simp only [unitRuns, List.mem_map, Meets]
  constructor
  · rintro ⟨_, ⟨e, he, rfl⟩, h⟩
    exact ⟨e, he, h⟩
  · rintro ⟨e, he, h⟩
    exact ⟨_, ⟨e, he, rfl⟩, h⟩

theorem not_meets_of_unblocked {exts : Tab Extent} {n b : Nat} (h : runBlocked b n (unitRuns exts) = none) : ¬ Meets exts n b := by
  rw [← mem_unitRuns]
  rintro ⟨x, hx, h1, h2⟩
  rcases runBlocked_cases b n (unitRuns exts) with ⟨-, hno⟩ | ⟨y, -, -, -, hy⟩
  · exact hno x hx ⟨h1, h2⟩
  · rw [h] at hy
    cases hy

/-- A table with an entry other than the default at a number holds that number among its keys. -/
theorem mem_keys_of_tabGet {α : Type} {d : α} : ∀ {m : Tab α} {k : Nat}, tabGet d m k ≠ d → k ∈ m.map (·.1)
  | [], _, h => absurd rfl h
  | (k', v) :: m, k, h => by
    rw [List.map_cons, List.mem_cons]
    by_cases hk : k = k'
    · exact .inl hk
    · refine .inr (mem_keys_of_tabGet (d := d) fun hm => h ?_)
      rw [tabGet, if_neg hk]
      split
      · rfl
      · exact hm

theorem freeId_spec (exts : Tab Extent) : ∀ (fuel i : Nat), (∀ j, j < i → tabGet Extent.none exts j ≠ Extent.none) →
    exts.length ≤ i + fuel → tabGet Extent.none exts (freeId exts i fuel) = Extent.none
  | 0, i, hbelow, hlen => by
    rw [freeId]
    by_contra hne
    have hsub : List.range (i + 1) ⊆ exts.map (·.1) := fun j hj => mem_keys_of_tabGet (d := Extent.none) <| by
      by_cases hji : j = i
      · exact hji ▸ hne
      · exact hbelow j (by have := List.mem_range.mp hj; omega)
    have hle := (List.subperm_of_subset List.nodup_range hsub).length_le
    rw [List.length_range, List.length_map] at hle
    omega
  | fuel + 1, i, hbelow, hlen => by
    rw [freeId]
    split
    · assumption
    · next h =>
      refine freeId_spec exts fuel (i + 1) (fun j hj => ?_) (by omega)
      by_cases hji : j = i
      · exact hji ▸ h
      · exact hbelow j (by omega)

@[simp] theorem extent_setExtent (s : State) (i : Nat) (e : Extent) : (s.setExtent i e).extent i = e :=
  tabGet_tabSet_same _ i e s.store.extents

theorem extent_setExtent_ne (s : State) {i j : Nat} (e : Extent) (h : j ≠ i) : (s.setExtent i e).extent j = s.extent j :=
  tabGet_tabSet_ne _ _ _ _ e h s.store.extents

/-- An accepted RESERVE (R199). -/
theorem reserveDo_accepted (s : State) (a n at' : Nat) (h : (s.reserveDo a n at').1 = 0) :
    ∃ i b, s.reserveDo a n at' = (stOk, i, b, (s.setExtent i ⟨b, n, 1, a, 0⟩).syncFree) ∧ s.extent i = Extent.none ∧
      ¬ Meets s.store.extents n b ∧ 1 ≤ b ∧ b + n ≤ s.fld STO_CAPUNITS_UNITS ∧ (at' ≠ 0 → b = at') ∧
      (at' = 0 → ∀ c, 1 ≤ c → c < b → Meets s.store.extents n c) := by
  have bad : stBadArg ≠ 0 ∧ stNoSpace ≠ 0 ∧ stBusy ≠ 0 := by decide
  rw [State.reserveDo] at h ⊢
  dsimp only at h ⊢
  split at h
  · exact absurd h bad.1
  · next hform =>
    rw [if_neg hform]
    simp only [not_or, not_and_or] at hform
    obtain ⟨hn, hbig, hcap, hat⟩ := hform
    split at h
    · exact absurd h bad.2.1
    · next hready =>
      rw [if_neg hready]
      generalize hrun : (if at' = 0 then findRun (unitRuns s.store.extents) (s.fld STO_CAPUNITS_UNITS) n 1
        ((unitRuns s.store.extents).length + 1) else
        if (runBlocked at' n (unitRuns s.store.extents)).isNone = true then some at' else none) = run at h ⊢
      cases run with
      | none => exact absurd h bad.2.1
      | some b =>
        dsimp only at h ⊢
        split at h
        · exact absurd h bad.2.2
        · next hcount =>
          rw [if_neg hcount]
          refine ⟨_, b, rfl, freeId_spec _ _ 0 (fun j hj => absurd hj (by omega)) (by omega), ?_⟩
          by_cases h0 : at' = 0
          · rw [if_pos h0] at hrun
            obtain ⟨g1, g2, g3, g4⟩ := findRun_spec _ _ _ _ _ _ hrun
            exact ⟨not_meets_of_unblocked g1, g2, g3, (absurd h0 ·), fun _ c h1 h2 => mem_unitRuns.mp (g4 c h1 h2)⟩
          · rw [if_neg h0] at hrun
            split at hrun
            · next hfree =>
              cases hrun
              exact ⟨not_meets_of_unblocked (Option.isNone_iff_eq_none.mp hfree), by omega, by omega, fun _ => rfl, (absurd · h0)⟩
            · cases hrun

/-! Commands to the drives (R198, R209). -/

/-- What offering commands to the drives leaves: the extents, the ingests, the tiles and pieces, what the drives showed, and
every register but STO_OUTSTAND. -/
structure Offered (s u : State) : Prop where
  extents : u.store.extents = s.store.extents
  ingests : u.store.ingests = s.store.ingests
  fetches : u.store.fetches = s.store.fetches
  drvIdent : u.store.drvIdent = s.store.drvIdent
  fld : ∀ f : Field, f.key / 32 ≠ 0x700034 → u.fld f = s.fld f

namespace Offered

variable {s t u : State}

theorem refl (s : State) : Offered s s := ⟨rfl, rfl, rfl, rfl, fun _ _ => rfl⟩

theorem trans (h : Offered s t) (k : Offered t u) : Offered s u :=
  ⟨k.extents.trans h.extents, k.ingests.trans h.ingests, k.fetches.trans h.fetches, k.drvIdent.trans h.drvIdent,
    fun f hf => (k.fld f hf).trans (h.fld f hf)⟩

theorem syncOutstand (s : State) : Offered s s.syncOutstand := by
  refine ⟨rfl, rfl, rfl, rfl, fun f hf => ?_⟩
  have h1 : f.key ≠ STO_OUTSTAND_PENDING.key := fun h => hf (by rw [h]; decide)
  have h2 : f.key ≠ STO_OUTSTAND_CMDS.key := fun h => hf (by rw [h]; decide)
  rw [State.syncOutstand, fld_setFld_ne _ _ h1, fld_setFld_ne _ _ h2]

/-- A change of the store's commands alone, of those that wait and of the next identifier. -/
theorem cmds (s : State) (cs : Tab (Option Nvme)) (n : Nat) (ws : List Nvme) (o : List Out) :
    Offered s { s with store := { s.store with cmds := cs, nextCid := n, waiting := ws }, out := o } :=
  ⟨rfl, rfl, rfl, rfl, fun _ _ => rfl⟩

theorem nvmeSend (s : State) (c : Nvme) : Offered s (s.nvmeSend c) := by
  rw [State.nvmeSend]
  exact (cmds s _ _ s.store.waiting _).trans (syncOutstand _)

theorem offer (s : State) (c : Nvme) : Offered s (s.offer c) := by
  unfold State.offer
  split
  · exact .refl s
  · split
    · exact .nvmeSend s c
    · exact (cmds s s.store.cmds s.store.nextCid _ s.out).trans (syncOutstand _)

theorem foldl {α : Type} {f : State → α → State} (h : ∀ s a, Offered s (f s a)) : ∀ (l : List α) (s : State),
    Offered s (l.foldl f s)
  | [], s => .refl s
  | a :: l, s => (h s a).trans (foldl h l _)

theorem pump (s : State) : Offered s s.pump := by
  rw [State.pump]
  exact ((cmds s s.store.cmds s.store.nextCid [] s.out).trans (foldl offer _ _)).trans (syncOutstand _)

theorem extent (h : Offered s u) (i : Nat) : u.extent i = s.extent i := congrArg (tabGet Extent.none · i) h.extents

end Offered

/-! Drives and the label (R196 to R198). -/

/-- What a drive's answer leaves of the registers: those below the drives' own. -/
theorem fld_bindDrive (s : State) (d : Nat) (x : Option DriveId) {f : Field} (hf : f.key < 0x700100 * 32) :
    (s.bindDrive d x).fld f = s.fld f := by
  have h1 (u : State) (v : Nat) : (u.setFld (STO_DRV_STATE d) v).fld f = u.fld f :=
    fld_setFld_ne u v (by simp only [Field.key, STO_DRV_STATE] at hf ⊢; omega)
  have h2 (u : State) (v : Nat) : (u.setFld (STO_DRVUNITS_UNITS d) v).fld f = u.fld f :=
    fld_setFld_ne u v (by simp only [Field.key, STO_DRVUNITS_UNITS] at hf ⊢; omega)
  have h3 (u : State) (v : Nat) : (u.setFld (STO_DRV_QUEUES d) v).fld f = u.fld f :=
    fld_setFld_ne u v (by simp only [Field.key, STO_DRV_QUEUES] at hf ⊢; omega)
  have h4 (u : State) (b : Bool) : (u.setBool (STO_DRV_LBA4K d) b).fld f = u.fld f :=
    fld_setFld_ne u _ (by simp only [Field.key, STO_DRV_LBA4K] at hf ⊢; omega)
  have hident (i : DriveId) (n : Namespace) : (s.identify d i n).fld f = s.fld f := (h4 _ _).trans (h2 _ _)
  unfold State.bindDrive
  split
  · exact (h2 _ _).trans (h1 _ _)
  · split
    · exact (h2 _ _).trans (h1 _ _)
    · split
      · exact ((h3 _ _).trans (h1 _ _)).trans (hident _ _)
      · exact (h1 _ _).trans (hident _ _)

theorem fld_bindDrives (ds : List DriveId) {f : Field} (hf : f.key < 0x700100 * 32) : ∀ (n : Nat) (s : State),
    (s.bindDrives ds n).fld f = s.fld f
  | 0, _ => rfl
  | n + 1, s => (fld_bindDrive _ n _ hf).trans (fld_bindDrives ds hf n s)

/-- What the label and the capacity depend on. -/
theorem capUnits_congr {s u : State} (h : ∀ f : Field, f.key = STO_CTL_NDRV.key ∨ f.key = STO_CTL_MIRROR.key ∨
    (∃ d, f.key = (STO_DRVUNITS_UNITS d).key) → u.fld f = s.fld f) : u.capUnits = s.capUnits := by
  have hmin : ∀ n, u.minUnits n = s.minUnits n := fun n => by
    induction n with
    | zero => rfl
    | succ n ih => rw [State.minUnits, ih, h _ (.inr (.inr ⟨n, rfl⟩))]; rfl
  rw [State.capUnits, State.flag, h _ (.inl rfl), h _ (.inr (.inl rfl)), hmin]
  rfl

theorem capUnits_lt (s : State) : s.capUnits < 2 ^ 25 := by
  have h : s.capUnits ≤ 2 ^ 24 := Nat.min_le_left ..
  omega

section

variable {s : State} (ds : List DriveId) (label : Option Label)

/-- The drives have answered, and the capacity and the free units are known. -/
def State.bound (s : State) (ds : List DriveId) : State :=
  let s1 := (s.setOn STO_CTL_EN).bindDrives ds (s.fld STO_CTL_NDRV)
  (s1.setFld STO_CAPUNITS_UNITS s1.capUnits).syncFree

/-- The label read names the bound drives, and all are on line. -/
def State.labelled (s : State) (ds : List DriveId) (label : Option Label) : Bool :=
  label = some (s.bound ds).label && (List.range (s.fld STO_CTL_NDRV)).all fun d => (s.bound ds).driveOn d

theorem storeEnable_eq : s.storeEnable ds label =
    if s.labelled ds label then (((s.bound ds).setOn STO_STATUS_READY).setOff STO_STATUS_LABELERR).pump
    else ((s.bound ds).setOff STO_STATUS_READY).setOn STO_STATUS_LABELERR := rfl

/-- The registers after the drives have answered. -/
theorem fld_bound {f : Field} (hf : f.key < 0x70000C * 32) (he : f.key ≠ STO_CTL_EN.key) : (s.bound ds).fld f = s.fld f := by
  have h1 : STO_CAPUNITS_UNITS.key = 0x70000C * 32 := by decide
  have h2 : STO_FREEUNITS_UNITS.key = 0x700010 * 32 := by decide
  rw [State.bound, State.syncFree, fld_setFld_ne _ _ (by omega), fld_setFld_ne _ _ (by omega), fld_bindDrives ds (by omega),
    State.setOn, fld_setFld_ne _ _ he]

theorem flag_en_bound : (s.bound ds).flag STO_CTL_EN = true := by
  have h1 : STO_CTL_EN.key ≠ STO_CAPUNITS_UNITS.key ∧ STO_CTL_EN.key ≠ STO_FREEUNITS_UNITS.key ∧
    STO_CTL_EN.key < 0x700100 * 32 := by decide
  refine (flag_of_fld ?_).trans (flag_setOn s (f := STO_CTL_EN) (by decide))
  rw [State.bound, State.syncFree, fld_setFld_ne _ _ h1.2.1, fld_setFld_ne _ _ h1.1, fld_bindDrives ds h1.2.2]

theorem capUnits_bound : (s.bound ds).fld STO_CAPUNITS_UNITS = (s.bound ds).capUnits := by
  obtain ⟨s1, hs1⟩ : ∃ s1, s1 = (s.setOn STO_CTL_EN).bindDrives ds (s.fld STO_CTL_NDRV) := ⟨_, rfl⟩
  have hb : s.bound ds = (s1.setFld STO_CAPUNITS_UNITS s1.capUnits).syncFree := by rw [hs1]; rfl
  have hkey : STO_CAPUNITS_UNITS.key = 0x70000C * 32 ∧ STO_FREEUNITS_UNITS.key = 0x700010 * 32 ∧
    STO_CTL_NDRV.key = 0x700000 * 32 + 4 ∧ STO_CTL_MIRROR.key = 0x700000 * 32 + 1 := by decide
  obtain ⟨k1, k2, k3, k4⟩ := hkey
  have hcap : (s.bound ds).capUnits = s1.capUnits := by
    rw [hb]
    refine capUnits_congr fun f hf => ?_
    have hne : f.key ≠ STO_CAPUNITS_UNITS.key ∧ f.key ≠ STO_FREEUNITS_UNITS.key := by
      rcases hf with hf | hf | ⟨d, hf⟩
      · omega
      · omega
      · simp only [Field.key, STO_DRVUNITS_UNITS] at hf k1 k2 ⊢
        omega
    rw [State.syncFree, fld_setFld_ne _ _ hne.2, fld_setFld_ne _ _ hne.1]
  rw [hcap, hb, State.syncFree, fld_setFld_ne _ _ (by omega), fld_setFld_same]
  exact Nat.mod_eq_of_lt (capUnits_lt s1)

/-- What the drives' answers are seen to be is the same before and after the label's flags are set. -/
theorem storeEnable_shows : let u := s.storeEnable ds label
    (∀ f : Field, f.key ≠ STO_STATUS_READY.key → f.key ≠ STO_STATUS_LABELERR.key → f.key / 32 ≠ 0x700034 →
      u.fld f = (s.bound ds).fld f) ∧ u.store.drvIdent = (s.bound ds).store.drvIdent ∧
    u.flag STO_STATUS_READY = s.labelled ds label ∧ u.flag STO_STATUS_LABELERR = ! s.labelled ds label := by
  have hkey : STO_STATUS_READY.key ≠ STO_STATUS_LABELERR.key ∧ STO_STATUS_READY.key / 32 ≠ 0x700034 ∧
    STO_STATUS_LABELERR.key / 32 ≠ 0x700034 := by decide
  obtain ⟨k1, k2, k3⟩ := hkey
  dsimp only
  rw [storeEnable_eq]
  generalize s.labelled ds label = m
  generalize s.bound ds = b
  cases m with
  | true =>
    rw [if_pos rfl]
    have hp := Offered.pump ((b.setOn STO_STATUS_READY).setOff STO_STATUS_LABELERR)
    refine ⟨fun f h1 h2 h3 => ?_, hp.drvIdent, ?_, ?_⟩
    · rw [hp.fld f h3, State.setOff, State.setOn, fld_setFld_ne _ _ h2, fld_setFld_ne _ _ h1]
    · exact (flag_of_fld ((hp.fld _ k2).trans (fld_setFld_ne _ 0 k1))).trans (flag_setOn _ (by decide))
    · exact (flag_of_fld (hp.fld _ k3)).trans (flag_setOff ..)
  | false =>
    rw [if_neg (by decide)]
    refine ⟨fun f h1 h2 _ => ?_, rfl, ?_, flag_setOn _ (by decide)⟩
    · rw [State.setOn, State.setOff, fld_setFld_ne _ _ h2, fld_setFld_ne _ _ h1]
    · exact (flag_of_fld (fld_setFld_ne _ 1 k1)).trans (flag_setOff ..)

theorem storeEnable_spec : let u := s.storeEnable ds label
    u.flag STO_CTL_EN = true ∧ u.fld STO_CAPUNITS_UNITS = u.capUnits ∧
    (u.flag STO_STATUS_READY = true ↔ label = some ⟨s.fld STO_CTL_NDRV, s.flag STO_CTL_MIRROR, u.idents⟩ ∧
      ∀ d, d < s.fld STO_CTL_NDRV → u.driveOn d = true) ∧
    u.flag STO_STATUS_LABELERR = ! u.flag STO_STATUS_READY := by
  obtain ⟨hfld, hident, hready, herr⟩ := storeEnable_shows ds label (s := s)
  have hkey : STO_STATUS_READY.key = 0x700008 * 32 + 1 ∧ STO_STATUS_LABELERR.key = 0x700008 * 32 + 2 ∧
    STO_CAPUNITS_UNITS.key = 0x70000C * 32 ∧ STO_CTL_NDRV.key = 0x700000 * 32 + 4 ∧
    STO_CTL_MIRROR.key = 0x700000 * 32 + 1 ∧ STO_CTL_EN.key = 0x700000 * 32 := by decide
  obtain ⟨k1, k2, k3, k4, k5, k6⟩ := hkey
  have hdrive (d : Nat) (f : Field) (h : 0x700100 * 32 ≤ f.key) : (s.storeEnable ds label).fld f = (s.bound ds).fld f :=
    hfld f (by omega) (by omega) (by omega)
  have hnd : (s.storeEnable ds label).fld STO_CTL_NDRV = s.fld STO_CTL_NDRV :=
    (hfld _ (by omega) (by omega) (by omega)).trans (fld_bound ds (by omega) (by omega))
  have hon (d : Nat) : (s.storeEnable ds label).driveOn d = (s.bound ds).driveOn d := by
    rw [State.driveOn, hdrive d _ (by simp only [Field.key, STO_DRV_STATE]; omega)]
    rfl
  have hids : (s.storeEnable ds label).idents = (s.bound ds).idents := by
    rw [State.idents, State.idents, hident, hnd, fld_bound ds (by omega) (by omega)]
  have hlab : (s.bound ds).label = ⟨s.fld STO_CTL_NDRV, s.flag STO_CTL_MIRROR, (s.bound ds).idents⟩ := by
    rw [State.label, fld_bound ds (by omega) (by omega), flag_of_fld (fld_bound ds (f := STO_CTL_MIRROR) (by omega) (by omega))]
  have hcap : (s.storeEnable ds label).capUnits = (s.bound ds).capUnits := capUnits_congr fun f hf => by
    rcases hf with hf | hf | ⟨d, hf⟩
    · exact hfld f (by omega) (by omega) (by omega)
    · exact hfld f (by omega) (by omega) (by omega)
    · exact hdrive d f (by rw [hf]; simp only [Field.key, STO_DRVUNITS_UNITS]; omega)
  refine ⟨(flag_of_fld (hfld _ (by omega) (by omega) (by omega))).trans (flag_en_bound ds), ?_, ?_, by rw [herr, hready]⟩
  · rw [hfld _ (by omega) (by omega) (by omega), hcap, capUnits_bound]
  · rw [hready, hids, ← hlab]
    simp only [State.labelled, Bool.and_eq_true, decide_eq_true_eq, List.all_eq_true, List.mem_range, hon]

theorem execStoreEnable_on (hoff : s.isOff = false) (h : s.flag STO_CTL_EN = false ∨
    (s.flag STO_STATUS_READY = false ∧ s.flag STO_STATUS_LABELERR = false)) :
    exec (.storeEnable ds label) s = .next (s.storeEnable ds label) := by
  refine (next_on hoff).trans (congrArg _ (if_neg ?_))
  rintro ⟨h1, h2⟩
  rcases h with h | ⟨ha, hb⟩
  · simp [h] at h1
  · simp [ha, hb] at h2

end

section

variable {s : State} (hoff : s.isOff = false)
include hoff

theorem execStoFormat_refused {key : Nat} (h : key ≠ 0xF04D ∨ s.flag STO_CTL_EN = false) :
    exec (.stoFormat key) s = .next (s.setFld STO_STATUS_CFGERR 1) := by
  refine (next_on hoff).trans (congrArg _ (if_neg ?_))
  rintro ⟨h1, h2, -⟩
  rcases h with h | h
  · exact h h1
  · simp [h] at h2

theorem execStoFormat_frees (he : s.flag STO_CTL_EN = true) (hx : ∀ x, x ∈ s.store.extents → x.2.inUse = false) :
    ∃ s', exec (.stoFormat 0xF04D) s = .next s' ∧ s'.store.extents = [] ∧ s'.flag STO_STATUS_READY = true ∧
      s'.flag STO_STATUS_LABELERR = false ∧ s'.fld STO_FREEUNITS_UNITS = (s.fld STO_CAPUNITS_UNITS - 1) % 2 ^ 25 := by
  have huse : ¬ s.store.extents.any (fun e => e.2.inUse) = true := by
    rw [List.any_eq_true]
    rintro ⟨x, hmem, hin⟩
    rw [hx x hmem] at hin
    cases hin
  obtain ⟨s1, hs1⟩ : ∃ s1, s1 = (s.setStore { s.store with extents := [] }).syncFree := ⟨_, rfl⟩
  obtain ⟨s2, hs2⟩ : ∃ s2, s2 = ((s1.setOff STO_STATUS_LABELERR).setOn STO_STATUS_READY).emit
    (.port "label" 0 (s.fld STO_CTL_NDRV :: s.fld STO_CTL_MIRROR :: s.idents)) := ⟨_, rfl⟩
  have hp := Offered.pump s2
  have hkey : STO_STATUS_LABELERR.key ≠ STO_STATUS_READY.key ∧ STO_STATUS_READY.key / 32 ≠ 0x700034 ∧
    STO_STATUS_LABELERR.key / 32 ≠ 0x700034 ∧ STO_FREEUNITS_UNITS.key / 32 ≠ 0x700034 ∧
    STO_FREEUNITS_UNITS.key ≠ STO_STATUS_READY.key ∧ STO_FREEUNITS_UNITS.key ≠ STO_STATUS_LABELERR.key := by decide
  obtain ⟨k1, k2, k3, k4, k5, k6⟩ := hkey
  have hfld (f : Field) : s2.fld f = ((s1.setOff STO_STATUS_LABELERR).setOn STO_STATUS_READY).fld f := by rw [hs2]; rfl
  refine ⟨s2.pump, ?_, ?_, ?_, ?_, ?_⟩
  · refine (next_on hoff).trans (congrArg _ ((if_pos ⟨rfl, he, huse⟩).trans ?_))
    rw [hs2, hs1]
  · rw [hp.extents, hs2, hs1]
    rfl
  · exact (flag_of_fld ((hp.fld _ k2).trans (hfld _))).trans (flag_setOn _ (by decide))
  · exact (flag_of_fld ((hp.fld _ k3).trans ((hfld _).trans (fld_setFld_ne _ 1 k1)))).trans (flag_setOff ..)
  · rw [hp.fld _ k4, hfld, State.setOn, State.setOff, fld_setFld_ne _ _ k5, fld_setFld_ne _ _ k6, hs1, State.syncFree, fld_setFld_same]
    rfl

theorem execReleaseComplete_frees {k : Nat} (h4 : (s.extent k).state = 4) (hb : s.extBusy k (fun o => o ≠ .read) = false) :
    ∃ s', exec (.releaseComplete k) s = .next s' ∧ s'.extent k = Extent.none ∧ ∀ j, j ≠ k → s'.extent j = s.extent j :=
  ⟨_, (next_on hoff).trans (congrArg _ (if_pos ⟨h4, by simpa using hb⟩)), extent_setExtent .., fun j hj => extent_setExtent_ne s _ hj⟩

theorem execReleaseComplete_other {k : Nat} (h4 : (s.extent k).state ≠ 4) : exec (.releaseComplete k) s = .next s :=
  (next_on hoff).trans (congrArg _ (if_neg fun h => h4 h.1))

end

/-! Prefetch (R208). -/

theorem before_iff (a b : Fetch) : a.before b = true ↔ a.deadline < b.deadline ∨ a.deadline = b.deadline ∧
    (a.key.stn < b.key.stn ∨ a.key.stn = b.key.stn ∧ a.key.col < b.key.col) := by
  simp [Fetch.before]

/-- A piece that neither of two comes before the other is before the same pieces. -/
theorem before_congr {a b g : Fetch} (h1 : a.before b = false) (h2 : b.before a = false) : g.before a = g.before b := by
  rw [Bool.eq_iff_iff]
  rw [Bool.eq_false_iff, ne_eq, before_iff] at h1 h2
  rw [before_iff, before_iff]
  omega

/-- The first piece of a list is one of it that no other comes before. -/
theorem firstPiece_spec : ∀ {l : List Fetch} {t : Fetch}, firstPiece l = some t →
    t ∈ l ∧ ∀ u, u ∈ l → u.before t = false
  | [], _, h => nomatch h
  | f :: l, t, h => by
    have hself : f.before f = false := by simp [Fetch.before]
    rw [firstPiece] at h
    cases hl : firstPiece l with
    | none =>
      rw [hl] at h
      cases h
      have hnil : l = [] := by
        cases l with
        | nil => rfl
        | cons g l =>
          rw [firstPiece] at hl
          split at hl
          · split at hl <;> cases hl
          · cases hl
      subst hnil
      exact ⟨List.mem_cons_self, fun u hu => by rw [List.mem_singleton.mp hu]; exact hself⟩
    | some g =>
      obtain ⟨hg, hmin⟩ := firstPiece_spec hl
      rw [hl] at h
      dsimp only at h
      by_cases hgf : g.before f = true
      · rw [if_pos hgf] at h
        cases h
        refine ⟨List.mem_cons_of_mem _ hg, fun u hu => ?_⟩
        rcases List.mem_cons.mp hu with rfl | hu
        · rw [Bool.eq_false_iff, ne_eq, before_iff]
          rw [before_iff] at hgf
          omega
        · exact hmin u hu
      · rw [if_neg hgf] at h
        cases h
        refine ⟨List.mem_cons_self, fun u hu => ?_⟩
        rcases List.mem_cons.mp hu with rfl | hu
        · exact hself
        · have hug := hmin u hu
          rw [Bool.eq_false_iff, ne_eq, before_iff] at hug ⊢
          rw [before_iff] at hgf
          omega

/-- Adjacent pieces are pieces that wait. -/
theorem mem_adjacent (s : State) (d : Nat) : ∀ (fuel byte room : Nat) (f : Fetch), f ∈ s.adjacent d byte room fuel →
    f ∈ s.store.fetches ∧ f.sent = false
  | 0, _, _, _, h => nomatch h
  | fuel + 1, byte, room, f, h => by
    rw [State.adjacent] at h
    split at h
    · next g hg =>
      split at h
      · rcases List.mem_cons.mp h with rfl | h
        · have hp := List.find?_some hg
          simp only [Bool.and_eq_true, Bool.not_eq_true'] at hp
          exact ⟨List.mem_of_find?_eq_some hg, hp.1.1⟩
        · exact mem_adjacent s d fuel _ _ f h
      · cases h
    · cases h

theorem mem_fitting (s : State) (place : Option Nat) : ∀ (l : List Fetch) (len : Nat) (f : Fetch),
    f ∈ s.fitting place len l → f ∈ l
  | [], _, _, h => h
  | g :: l, len, f, h => by
    rw [State.fitting] at h
    split at h
    · rcases List.mem_cons.mp h with rfl | h
      · exact List.mem_cons_self
      · exact List.mem_cons_of_mem _ (mem_fitting s place l _ f h)
    · cases h

/-- What is taken on keeps the place in the buffer. -/
theorem bufPlace_fitting (s : State) (place : Option Nat) : ∀ (l : List Fetch) (len : Nat), s.bufPlace len = place →
    s.bufPlace (len + ((s.fitting place len l).map (·.len)).sum) = place
  | [], len, h => by rw [State.fitting]; exact h
  | f :: l, len, h => by
    rw [State.fitting]
    split
    · next hf =>
      rw [List.map_cons, List.sum_cons, ← Nat.add_assoc]
      exact bufPlace_fitting s place l (len + f.len) hf
    · exact h

/-- The pieces are marked as sent. -/
def State.markSent (s : State) (fs : List Fetch) : State :=
  s.setStore { s.store with fetches := s.store.fetches.map fun f => if fs.contains f then { f with sent := true } else f }

/-- A piece as it is found by its tile and offset in a list of pieces of which no two agree in them, sent or not. -/
theorem fetchOf_markSent (s : State) (fs : List Fetch) (p : TileKey × Nat) :
    (s.markSent fs).fetchOf p = (s.fetchOf p).map fun f => if fs.contains f then { f with sent := true } else f := by
  have hmap (l : List Fetch) : (l.map fun f => if fs.contains f then { f with sent := true } else f).find?
      (fun f => f.key = p.1 && f.off = p.2) = (l.find? fun f => f.key = p.1 && f.off = p.2).map
        fun f => if fs.contains f then { f with sent := true } else f := by
    rw [List.find?_map]
    congr 2
    funext f
    simp only [Function.comp]
    split <;> rfl
  exact hmap s.store.fetches

theorem before_sent (a b : Fetch) (c d : Bool) : ({ a with sent := c } : Fetch).before { b with sent := d } = a.before b := rfl

theorem before_marked (fs : List Fetch) (a b : Fetch) : (if fs.contains a then { a with sent := true } else a).before
    (if fs.contains b then { b with sent := true } else b) = a.before b := by
  split <;> split <;> rfl

theorem piecesLeft_markSent (s : State) (fs : List Fetch) (c : Nvme) : (s.markSent fs).piecesLeft c =
    (s.piecesLeft c).map fun f => if fs.contains f then { f with sent := true } else f := by
  rw [State.piecesLeft, State.piecesLeft, List.map_filterMap]
  exact congrArg (List.filterMap · c.pieces) (funext fun p => fetchOf_markSent s fs p)

theorem readBefore_markSent (s : State) (fs : List Fetch) (c : Nvme) (f : Fetch) :
    (s.markSent fs).readBefore c (if fs.contains f then { f with sent := true } else f) = s.readBefore c f := by
  rw [State.readBefore, State.readBefore, piecesLeft_markSent, List.any_map]
  congr 2
  funext g
  exact before_marked fs g f

/-- A command that goes out takes the next identifier. -/
theorem nvmeSend_spec (s : State) (c : Nvme) : (s.nvmeSend c).store.nextCid = s.store.nextCid + 1 ∧
    ∃ p, (s.nvmeSend c).nvme s.store.nextCid = some { c with place := p } := by
  refine ⟨by rw [State.nvmeSend]; rfl, ?_⟩
  by_cases h : c.op = .read
  · refine ⟨(s.bufPlace c.len).getD 0, ?_⟩
    rw [State.nvmeSend, if_pos h]
    exact tabGet_tabSet_same ..
  · refine ⟨c.place, ?_⟩
    rw [State.nvmeSend, if_neg h]
    exact tabGet_tabSet_same ..

theorem offer_goes {s : State} {c : Nvme} (hw : s.wanted c = true) (hg : s.mayGo c = true) (hb : s.readBehind c = false) :
    s.offer c = s.nvmeSend c := by
  rw [State.offer, if_neg (by simp [hw]), if_pos (by simp [hg, hb])]

section

variable {s : State} {t : Fetch} (ht : firstPiece (s.store.fetches.filter fun f => ! f.sent) = some t)
include ht

theorem firstPiece_waits : t ∈ s.store.fetches ∧ t.sent = false ∧
    ∀ u, u ∈ s.store.fetches → u.sent = false → u.before t = false := by
  obtain ⟨hmem, hmin⟩ := firstPiece_spec ht
  obtain ⟨h1, h2⟩ := List.mem_filter.mp hmem
  exact ⟨h1, by simpa using h2, fun u hu hs => hmin u (List.mem_filter.mpr ⟨hu, by simp [hs]⟩)⟩

/-- A Read of the first piece and of waiting pieces behind it goes out where a Read of that piece may. -/
theorem merged_goes (huniq : ∀ u v, u ∈ s.store.fetches → v ∈ s.store.fetches → u.key = v.key → u.off = v.off → u = v)
    (hwait : s.store.waiting.any (fun x => s.readBefore x t) = false) {more : List Fetch}
    (hmore : ∀ f, f ∈ more → f ∈ s.store.fetches ∧ f.sent = false) {c : Nvme} (hop : c.op = .read)
    (hp : c.pieces = (t :: more).map fun f => (f.key, f.off)) :
    (s.markSent (t :: more)).wanted c = true ∧ (s.markSent (t :: more)).readBehind c = false := by
  obtain ⟨hmem, -, hmin⟩ := firstPiece_waits ht
  have hfetch (h : Fetch) (hh : h ∈ s.store.fetches) : s.fetchOf (h.key, h.off) = some h := by
    unfold State.fetchOf
    cases hf : s.store.fetches.find? (fun f => f.key = h.key && f.off = h.off) with
    | none =>
      rw [List.find?_eq_none] at hf
      exact absurd rfl (fun _ : h = h => hf h hh (by simp))
    | some g =>
      have hg := List.find?_some hf
      simp only [Bool.and_eq_true, decide_eq_true_eq] at hg
      rw [huniq g h (List.mem_of_find?_eq_some hf) hh hg.1 hg.2]
  have hall (h : Fetch) (hh : h ∈ t :: more) : h ∈ s.store.fetches ∧ h.before t = false := by
    rcases List.mem_cons.mp hh with rfl | hh
    · exact ⟨hmem, by simp [Fetch.before]⟩
    · obtain ⟨h1, h2⟩ := hmore h hh
      exact ⟨h1, hmin h h1 h2⟩
  have hleft : s.piecesLeft c = t :: more := by
    rw [State.piecesLeft, hp, List.filterMap_map]
    have heach : ∀ l : List Fetch, (∀ h, h ∈ l → h ∈ s.store.fetches) →
        l.filterMap (s.fetchOf ∘ fun f => (f.key, f.off)) = l := fun l hl => by
      induction l with
      | nil => rfl
      | cons h l ih =>
        have hh : (s.fetchOf ∘ fun f : Fetch => (f.key, f.off)) h = some h := hfetch h (hl h List.mem_cons_self)
        rw [List.filterMap_cons_some hh, ih fun g hg => hl g (List.mem_cons_of_mem _ hg)]
    exact heach _ fun h hh => (hall h hh).1
  constructor
  · rw [State.wanted, hop]
    dsimp only
    rw [hp, List.map_cons, List.any_cons, fetchOf_markSent, hfetch t hmem]
    rfl
  · rw [State.readBehind, hop, piecesLeft_markSent, hleft]
    cases hf : firstPiece ((t :: more).map fun f => if (t :: more).contains f then { f with sent := true } else f) with
    | none => rfl
    | some f =>
      obtain ⟨hfm, hfmin⟩ := firstPiece_spec hf
      obtain ⟨h, hh, rfl⟩ := List.mem_map.mp hfm
      have hth := hfmin _ (List.mem_map_of_mem (List.mem_cons_self (a := t) (l := more)))
      rw [before_marked] at hth
      have hsame (x : Nvme) : (s.markSent (t :: more)).readBefore x
          (if (t :: more).contains h then { h with sent := true } else h) = s.readBefore x t := by
        rw [readBefore_markSent, State.readBefore, State.readBefore]
        congr 2
        funext g
        exact before_congr (hall h hh).2 hth
      simp only [decide_true, Option.any_some, Bool.true_and, hsame]
      exact hwait

theorem execPrefetchIssue_pumps (hoff : s.isOff = false) (hr : s.flag STO_STATUS_READY = true)
    (hw : s.store.waiting.any (fun x => s.readBefore x t) = true) : exec .prefetchIssue s = .next s.pump := by
  refine (next_on hoff).trans (congrArg _ ?_)
  rw [ht]
  exact (if_neg (by simp [hr])).trans (if_pos hw)

/-- The Read of a piece alone. -/
def readOf (s : State) (t : Fetch) : Nvme :=
  ⟨.read, s.driveOf t.addr, s.driveByte t.addr, t.len, [(t.key, t.off)], 0, 0, [], 0, 0, false⟩

/-- The pieces that a Read of `t` takes on. -/
def takenOn (s : State) (t : Fetch) : List Fetch := s.fitting (s.bufPlace t.len) t.len
  (s.adjacent (s.driveOf t.addr) (s.driveByte t.addr + t.len)
    (s.maxXfer (s.driveOf t.addr) - s.driveByte t.addr % 4096 - t.len) 8192)

variable (hoff : s.isOff = false) (hr : s.flag STO_STATUS_READY = true) (hm : s.flag STO_CTL_MIRROR = false)
  (hd : s.driveOn (s.driveOf t.addr) = true) (hw : s.store.waiting.any (fun x => s.readBefore x t) = false)
include hoff hr hm hd hw

theorem execPrefetchIssue_on : exec .prefetchIssue s = .next (if ¬ s.mayGo (readOf s t) = true then s
    else (s.markSent (t :: takenOn s t)).offer { readOf s t with
      len := t.len + ((takenOn s t).map (·.len)).sum, pieces := (t :: takenOn s t).map fun f => (f.key, f.off) }) := by
  have hfirst : s.readFirst (s.driveOf t.addr) = (s.driveOf t.addr, s) := by
    rw [State.readFirst, if_pos (by simp [hm])]
  refine (next_on hoff).trans (congrArg _ ?_)
  rw [ht]
  dsimp only
  rw [if_neg (not_not.mpr hr), if_neg (by simp [hw]), hfirst]
  exact if_neg (not_not.mpr hd)

theorem execPrefetchIssue_reads (huniq : ∀ u v, u ∈ s.store.fetches → v ∈ s.store.fetches → u.key = v.key → u.off = v.off → u = v)
    (hg : s.mayGo (readOf s t) = true) : ∃ s' c', exec .prefetchIssue s = .next s' ∧ s'.nvme s.store.nextCid = some c' ∧
      c'.op = .read ∧ c'.drive = s.driveOf t.addr ∧ c'.byte = s.driveByte t.addr ∧ t.len ≤ c'.len ∧
      (t.key, t.off) ∈ c'.pieces ∧ c'.late = false ∧ s'.store.nextCid = s.store.nextCid + 1 := by
  obtain ⟨c, hc⟩ : ∃ c : Nvme, c = { readOf s t with
    len := t.len + ((takenOn s t).map (·.len)).sum, pieces := (t :: takenOn s t).map fun f => (f.key, f.off) } := ⟨_, rfl⟩
  have hx := execPrefetchIssue_on ht hoff hr hm hd hw
  rw [if_neg (not_not.mpr hg), ← hc] at hx
  have hop : c.op = .read := by rw [hc]; rfl
  have hplace : s.bufPlace c.len = s.bufPlace t.len := by
    rw [hc]
    exact bufPlace_fitting s _ _ _ rfl
  have hgo : (s.markSent (t :: takenOn s t)).mayGo c = true := by
    have hmark : (s.markSent (t :: takenOn s t)).mayGo c = s.mayGo (readOf s t) := by
      have hbuf : (s.markSent (t :: takenOn s t)).bufPlace c.len = s.bufPlace t.len := hplace
      unfold State.mayGo
      rw [hop, hbuf]
      rw [hc]
      rfl
    rw [hmark, hg]
  obtain ⟨hwanted, hbehind⟩ := merged_goes ht huniq hw (more := takenOn s t)
    (fun f hf => mem_adjacent _ _ _ _ _ f (mem_fitting _ _ _ _ f hf)) hop (by rw [hc])
  rw [offer_goes hwanted hgo hbehind] at hx
  obtain ⟨hnext, p, hp⟩ := nvmeSend_spec (s.markSent (t :: takenOn s t)) c
  refine ⟨_, _, hx, hp, hop, ?_, ?_, ?_, ?_, ?_, hnext⟩
  · rw [hc]; rfl
  · rw [hc]; rfl
  · rw [hc]; exact Nat.le_add_right ..
  · rw [hc]; exact List.mem_cons_self
  · rw [hc]; rfl

end

/-! Completions, retries and losses (R209 to R211). -/

section

variable {s : State} {d cid : Nat} {data : List Byte} (hoff : s.isOff = false)
include hoff

theorem execNvmeCompletion_unknown (h : s.nvme cid = none) (st : Nat) : exec (.nvmeCompletion d cid st data) s = .next (s.driveViol d) := by
  refine (next_on hoff).trans (congrArg _ ?_)
  rw [h]

variable {c : Nvme} (hc : s.nvme cid = some c)
include hc

theorem execNvmeCompletion_elsewhere (hd : d ≠ c.drive) (st : Nat) :
    exec (.nvmeCompletion d cid st data) s = .next (s.driveViol d) := by
  refine (next_on hoff).trans (congrArg _ ?_)
  rw [hc]
  exact if_pos (Ne.symm hd)

theorem execNvmeCompletion_late (hl : c.late = true) (st : Nat) : exec (.nvmeCompletion c.drive cid st data) s =
    .next (((s.setNvme cid none).syncOutstand.inc STO_LATECPL_COUNT).pump) := by
  refine (next_on hoff).trans (congrArg _ ?_)
  rw [hc]
  exact (if_neg (not_not.mpr rfl)).trans (if_pos hl)

theorem execNvmeCompletion_good (hl : c.late = false) (hr : c.retries = 0) :
    let s1 := (s.setNvme cid none).syncOutstand
    let s2 := s1.setStore { s1.store with drvFail := tabSet 0 s1.store.drvFail c.drive 0 }
    exec (.nvmeCompletion c.drive cid 0 data) s =
      .next (if c.op = .read then s2.readCame c data else s2.ingestNext c.ext).pump := by
  refine (next_on hoff).trans (congrArg _ ?_)
  rw [hc]
  dsimp only
  rw [if_neg (not_not.mpr rfl), if_neg (by simp [hl]), if_pos rfl, if_neg (show ¬ c.retries > 0 by omega)]

theorem execNvmeCompletion_bad (hl : c.late = false) {st : Nat} (hst : st ≠ 0) : exec (.nvmeCompletion c.drive cid st data) s =
    .next (((s.setNvme cid none).syncOutstand.cmdFailed c).pump) := by
  refine (next_on hoff).trans (congrArg _ ?_)
  rw [hc]
  exact (if_neg (not_not.mpr rfl)).trans ((if_neg (by simp [hl])).trans (if_neg hst))

theorem execNvmeTimeout_late (hl : c.late = true) : exec (.nvmeTimeout cid) s = .next s := by
  refine (next_on hoff).trans (congrArg _ ?_)
  rw [hc]
  exact if_pos hl

theorem execNvmeTimeout_fails (hl : c.late = false) : exec (.nvmeTimeout cid) s =
    .next ((s.setNvme cid (some { c with late := true })).syncOutstand.cmdFailed c) := by
  refine (next_on hoff).trans (congrArg _ ?_)
  rw [hc]
  exact if_neg (by simp [hl])

end

section

variable (s : State) (c : Nvme)

/-- A command that fails for the first time draws an incident number, and is otherwise what it was. -/
theorem withIncident_spec : ∃ n, (s.withIncident c).1 = { c with incident := n } ∧
    (∀ f : Field, f.key ≠ FLT_INCNEXT_VALUE.key → (s.withIncident c).2.fld f = s.fld f) ∧
    (s.withIncident c).2.store = s.store ∧ (s.withIncident c).2.pwr = s.pwr := by
  unfold State.withIncident
  split
  · exact ⟨_, rfl, fun f hf => fld_setFld_ne s _ hf, rfl, rfl⟩
  · exact ⟨c.incident, rfl, fun _ _ => rfl, rfl, rfl⟩

/-- What a failure leaves of the registers. -/
theorem fld_driveFailed (d incident : Nat) {f : Field} (h1 : f.key ≠ (STO_DRVERR_COUNT d).key) (h2 : ¬ raiseKey 9 d f.key) :
    (s.driveFailed d incident).fld f = s.fld f := by
  unfold State.driveFailed
  dsimp only
  split
  · exact (fld_raiseWith _ h2).trans (fld_setFld_ne _ _ h1)
  · exact fld_setFld_ne _ _ h1

theorem store_driveFailed (d incident : Nat) : (s.driveFailed d incident).store =
    { s.store with drvFail := tabSet 0 s.store.drvFail d (tabGet 0 s.store.drvFail d + 1) } := by
  unfold State.driveFailed
  dsimp only
  split
  · exact node_of_quiet (quiet_raiseWith ..) State.store
  · rfl

end

/-- The store's registers below the drives' are not written by a drive's fault. -/
theorem not_raiseKey_store {d : Nat} {f : Field} (h : 0x700000 * 32 ≤ f.key ∧ f.key < 0x701000 * 32) (hs : f.key ≠ STO_FSTAT_SRC.key) :
    ¬ raiseKey 9 d f.key := by
  have hb := blkKey_eq 9
  have h2 : FLT_INCNEXT_VALUE.key = 0xC00018 * 32 := by decide
  simp only [raiseKey, show fstatOf 9 d = STO_FSTAT_SRC from rfl, eventKey_iff, hb.1, hb.2, h2]
  omega

theorem failureCounted (s : State) {c : Nvme} (hd : c.drive < 16) : let r := s.withIncident c
    let u := r.2.driveFailed c.drive r.1.incident
    u.fld (STO_DRVERR_COUNT c.drive) = satInc 32 (s.fld (STO_DRVERR_COUNT c.drive)) ∧
    tabGet 0 u.store.drvFail c.drive = tabGet 0 s.store.drvFail c.drive + 1 ∧
    (s.fld STO_DRVFAIL_VALUE ≤ tabGet 0 s.store.drvFail c.drive + 1 → u.srcSet 9 c.drive = true) ∧
    u.fld STO_RETRY_VALUE = s.fld STO_RETRY_VALUE ∧ u.flag STO_CTL_MIRROR = s.flag STO_CTL_MIRROR := by
  obtain ⟨n, hn, hfld, hstore, hpwr⟩ := withIncident_spec s c
  obtain ⟨s0, hs0⟩ : ∃ s0, s0 = (s.withIncident c).2 := ⟨_, rfl⟩
  rw [← hs0] at hfld hstore hpwr
  have kinc : FLT_INCNEXT_VALUE.key = 0xC00018 * 32 := by decide
  have kerr : (STO_DRVERR_COUNT c.drive).key = (0x70010C + 0x20 * c.drive) * 32 := by simp only [Field.key, STO_DRVERR_COUNT]; omega
  have kst : STO_FSTAT_SRC.key = 0x700040 * 32 ∧ STO_RETRY_VALUE.key = 0x700024 * 32 ∧ STO_CTL_MIRROR.key = 0x700000 * 32 + 1 ∧
    STO_DRVFAIL_VALUE.key = 0x700030 * 32 := by decide
  obtain ⟨k1, k2, k3, k4⟩ := kst
  dsimp only
  rw [← hs0]
  obtain ⟨inc, hinc⟩ : ∃ inc, inc = (s.withIncident c).1.incident := ⟨_, rfl⟩
  rw [← hinc]
  refine ⟨?_, ?_, fun hle => ?_, ?_, ?_⟩
  · have hcount : ∀ u : State, u.fld (STO_DRVERR_COUNT c.drive) = s.fld (STO_DRVERR_COUNT c.drive) →
        (u.inc (STO_DRVERR_COUNT c.drive)).fld (STO_DRVERR_COUNT c.drive) = satInc 32 (s.fld (STO_DRVERR_COUNT c.drive)) := fun u hu => by
      rw [State.inc, fld_setFld_same, hu]
      exact Nat.mod_eq_of_lt (satInc_lt 32 _)
    unfold State.driveFailed
    dsimp only
    split
    · rw [fld_raiseWith _ (not_raiseKey_store (by omega) (by omega))]
      exact hcount _ (hfld _ (by omega))
    · exact hcount _ (hfld _ (by omega))
  · rw [store_driveFailed, hstore]
    exact tabGet_tabSet_same ..
  · have all : ∀ d < 16, sourceOk 9 d = true := by decide
    have hval : ((s0.setStore { s0.store with drvFail := tabSet 0 s0.store.drvFail c.drive (tabGet 0 s0.store.drvFail c.drive + 1) }).inc
        (STO_DRVERR_COUNT c.drive)).fld STO_DRVFAIL_VALUE = s.fld STO_DRVFAIL_VALUE :=
      (fld_setFld_ne _ _ (by omega)).trans (hfld _ (by omega))
    unfold State.driveFailed
    dsimp only
    rw [if_pos (by rw [hval, hstore]; exact hle)]
    exact srcSet_raiseWith _ (all _ hd) (by simp [State.dormantMute])
  · rw [fld_driveFailed _ _ _ (by omega) (not_raiseKey_store (by omega) (by omega)), hfld _ (by omega)]
  · refine flag_of_fld ?_
    rw [fld_driveFailed _ _ _ (by omega) (not_raiseKey_store (by omega) (by omega)), hfld _ (by omega)]

section

variable (s : State) (c : Nvme)

/-- The state in which a command's failure is counted, and the command with its incident (R209, R210). -/
def State.failed (s : State) (c : Nvme) : State :=
  (s.withIncident c).2.driveFailed c.drive (s.withIncident c).1.incident

theorem cmdFailed_eq : s.cmdFailed c =
    if ! (s.failed c).wanted (s.withIncident c).1 then s.failed c
    else if (s.withIncident c).1.retries < (s.failed c).fld STO_RETRY_VALUE ∧ ¬ (s.failed c).pastDeadline (s.withIncident c).1 = true then
      (s.failed c).command { (s.withIncident c).1 with
        retries := (s.withIncident c).1.retries + 1, late := false
        drive := if (s.failed c).flag STO_CTL_MIRROR then mirrorOf (s.withIncident c).1.drive else (s.withIncident c).1.drive }
    else (s.failed c).lose (s.withIncident c).1 := rfl

theorem wanted_retry (u : State) (r : Nat) (l : Bool) (d : Nat) :
    u.wanted { c with retries := r, late := l, drive := d } = u.wanted c := rfl

theorem command_goes {u : State} {a : Nvme} (hw : u.wanted a = true) (hon : u.driveOn a.drive = true) (hg : u.mayGo a = true)
    (hb : u.readBehind a = false) : ∃ p, (u.command a).nvme u.store.nextCid = some { a with place := p } := by
  rw [State.command, if_pos hon, offer_goes hw hg hb]
  exact (nvmeSend_spec u a).2

end

theorem cmdFailed_spec (s : State) {c : Nvme} (hd : c.drive < 16) : let r := s.withIncident c
    let u := r.2.driveFailed c.drive r.1.incident
    let again : Nvme := { r.1 with
      retries := c.retries + 1, late := false, drive := if s.flag STO_CTL_MIRROR then mirrorOf c.drive else c.drive }
    let more : Prop := c.retries < s.fld STO_RETRY_VALUE ∧ u.pastDeadline r.1 = false
    (u.wanted r.1 = false → s.cmdFailed c = u) ∧
    (u.wanted r.1 = true → more → s.cmdFailed c = u.command again ∧
      (u.driveOn again.drive = true → u.mayGo again = true → u.readBehind again = false →
        ∃ p, (s.cmdFailed c).nvme u.store.nextCid = some { again with place := p })) ∧
    (u.wanted r.1 = true → ¬ more → s.cmdFailed c = match c.op with
      | .read => u.readLost r.1.incident (u.piecesLeft r.1)
      | .write | .flush => (u.inc STO_LOSTCNT_COUNT).ingestFail c.ext 4
      | .dealloc => u.inc STO_LOSTCNT_COUNT) := by
  obtain ⟨-, -, -, hretry, hmirror⟩ := failureCounted s hd
  obtain ⟨n, hn, -⟩ := withIncident_spec s c
  obtain ⟨u, hu⟩ : ∃ u, u = s.failed c := ⟨_, rfl⟩
  have heq := cmdFailed_eq s c
  obtain ⟨c1, hc1⟩ : ∃ c1, c1 = (s.withIncident c).1 := ⟨_, rfl⟩
  rw [← hu, ← hc1] at heq
  rw [← hc1] at hn
  have hu' : (s.withIncident c).2.driveFailed c.drive c1.incident = u := by rw [hu, hc1]; rfl
  dsimp only
  rw [← hc1, hu']
  rw [← hc1, hu'] at hretry hmirror
  have hret : c1.retries = c.retries := by rw [hn]
  have hdrive : c1.drive = c.drive := by rw [hn]
  have hop : c1.op = c.op := by rw [hn]
  have hext : c1.ext = c.ext := by rw [hn]
  rw [hret, hretry, hmirror, hdrive] at heq
  refine ⟨fun hw => ?_, fun hw hm => ?_, fun hw hm => ?_⟩
  · rw [heq, if_pos (by simp [hw])]
  · have hx : s.cmdFailed c = u.command { c1 with
        retries := c.retries + 1, late := false, drive := if s.flag STO_CTL_MIRROR then mirrorOf c.drive else c.drive } := by
      rw [heq, if_neg (by simp [hw]), if_pos ⟨hm.1, by simp [hm.2]⟩]
    refine ⟨hx, fun hon hg hb => ?_⟩
    rw [hx]
    exact command_goes ((wanted_retry c1 u _ _ _).trans hw) hon hg hb
  · have hlost : ¬ (c.retries < s.fld STO_RETRY_VALUE ∧ ¬ u.pastDeadline c1 = true) := fun h => hm ⟨h.1, by simpa using h.2⟩
    rw [heq, if_neg (by simp [hw]), if_neg hlost, State.lose, hext]
    cases hx : c.op <;> simp only [hop, hx]

/-! Deadlines, tiles, and what a drive does wrong (R206, R208, R210, R211). -/

section

variable {s : State} (hoff : s.isOff = false)
include hoff

/-- The pieces whose deadline is reached. -/
def dueAt (s : State) (k stn row : Nat) (f : Fetch) : Bool := f.key.slot = k && f.key.stn = stn && f.key.row = row &&
  decide (f.deadline * 2 ^ 16 ≤ s.wpos)

/-- What a deadline does once the Reads behind it are lost. -/
def State.deadlineLeft (p : Fetch → Bool) (s1 : State) : State :=
  if s1.store.fetches.filter (fun f => p f && ! f.sent) = [] then s1
  else s1.readLost 0 (s1.store.fetches.filter fun f => p f && ! f.sent)

theorem execReadDeadline_on (k stn row : Nat) : exec (.readDeadline k stn row) s = .next (State.deadlineLeft (dueAt s k stn row)
    ((s.readsWith fun p => (s.store.fetches.filter (dueAt s k stn row)).any fun f => f.key = p.1 && f.off = p.2).foldl
      State.lose s)) :=
  next_on hoff

theorem execReadDeadline_none {k stn row : Nat} (h : s.store.fetches.filter (dueAt s k stn row) = []) :
    exec (.readDeadline k stn row) s = .next s := by
  have hreads : (s.readsWith fun p => (s.store.fetches.filter (dueAt s k stn row)).any fun f => f.key = p.1 && f.off = p.2) = [] := by
    rw [State.readsWith, List.filter_eq_nil_iff]
    rintro c -
    simp [h]
  have hleft : s.store.fetches.filter (fun f => dueAt s k stn row f && ! f.sent) = [] := by
    rw [List.filter_eq_nil_iff] at h ⊢
    intro f hf hd
    simp only [Bool.and_eq_true] at hd
    exact h f hf hd.1
  rw [execReadDeadline_on hoff, hreads, List.foldl_nil, State.deadlineLeft, if_pos hleft]

theorem execReadDeadline_waiting {k stn row : Nat} (h : s.store.fetches.filter (dueAt s k stn row) ≠ [])
    (hs : ∀ f, f ∈ s.store.fetches.filter (dueAt s k stn row) → f.sent = false)
    (hreads : (s.readsWith fun p => (s.store.fetches.filter (dueAt s k stn row)).any fun f => f.key = p.1 && f.off = p.2) = []) :
    exec (.readDeadline k stn row) s = .next (s.readLost 0 (s.store.fetches.filter (dueAt s k stn row))) := by
  have hleft : s.store.fetches.filter (fun f => dueAt s k stn row f && ! f.sent) = s.store.fetches.filter (dueAt s k stn row) := by
    refine List.filter_congr fun f hf => ?_
    cases hd : dueAt s k stn row f with
    | false => rfl
    | true => rw [hs f (List.mem_filter.mpr ⟨hf, hd⟩)]; rfl
  rw [execReadDeadline_on hoff, hreads, List.foldl_nil, State.deadlineLeft, hleft, if_neg h]

variable {k stn row col : Nat} {t : Tile} (ht : s.tileAt k stn row col = some t)
include ht

theorem execTileDecode_waits (h : t.st ≠ .coming ∨ t.whole = false) : exec (.tileDecode k stn row col) s = .next s := by
  refine (next_on hoff).trans (congrArg _ ?_)
  rw [ht]
  exact if_pos (by simpa using h)

theorem execTileDecode_on (h1 : t.st = .coming) (h2 : t.whole = true) : exec (.tileDecode k stn row col) s =
    .next (match decodeTile (s.tileBytes t) (t.len / 16) (s.slot k).desc.frame stn row col with
      | some out => (s.mapTile t.key fun u => { u with st := .decoded, parts := [], data := out }).pump
      | none =>
        let s1 := (s.mapTile t.key fun u => { u with st := .failed, parts := [] }).pump.checkFailed col (s.portsOf stn)
        s1.voidReport k stn rsCheck (s1.incOf 10) (32 * row)) := by
  refine (next_on hoff).trans (congrArg _ ?_)
  rw [ht]
  exact if_neg (by simp [h1, h2])

end

theorem execDriveFatalStatus_raises {s : State} {d : Nat} (hoff : s.isOff = false) (hd : d < 16) (h : s.fld (STO_DRV_STATE d) ≠ 0) :
    ∃ s', exec (.driveFatalStatus d) s = .next s' ∧ s'.srcSet 9 d = true := by
  have all : ∀ d < 16, sourceOk 9 d = true := by decide
  exact ⟨s.raise 9 d, (next_on hoff).trans (congrArg _ (if_pos ⟨hd, h⟩)), srcSet_raise (all d hd) (by simp [State.dormantMute])⟩

section

variable {s : State} (hoff : s.isOff = false)
include hoff

theorem execPrefetchIssue_idle (h : firstPiece (s.store.fetches.filter fun f => ! f.sent) = none ∨ s.flag STO_STATUS_READY = false) :
    exec .prefetchIssue s = .next s := by
  refine (next_on hoff).trans (congrArg _ ?_)
  cases hp : firstPiece (s.store.fetches.filter fun f => ! f.sent) with
  | none => rfl
  | some t => exact if_pos (by simpa [hp] using h)

/-! Ingest (R200, R201, R350, R351). -/

/-- An ingest is forgotten, with the Writes and Flushes of it that wait. -/
def State.ingestGone (s : State) (ext : Nat) : State := s.setStore { s.store with
  ingests := tabSet none s.store.ingests ext none
  waiting := s.store.waiting.filter fun c => ! (c.ext = ext && (c.op = .write || c.op = .flush)) }

omit hoff in
theorem ingestFail_eq {ext : Nat} {g : Ingest} (hg : tabGet none s.store.ingests ext = some g) (code : Nat) :
    s.ingestFail ext code = ((s.ingestGone ext).extRelease ext).post g.acct 0x321 code 0 0 := by
  rw [State.ingestFail, hg]
  rfl

omit hoff in
theorem offered_extRelease (s : State) (i : Nat) : Offered (s.setExtent i { s.extent i with state := 4 }) (s.extRelease i) :=
  .foldl (fun u _ => .offer u _) _ _

omit hoff in
/-- A failed ingest ends with its extent released. -/
theorem ingestFail_spec {ext : Nat} {g : Ingest} (hg : tabGet none s.store.ingests ext = some g) (code : Nat) :
    (s.ingestFail ext code).extent ext = { s.extent ext with state := 4 } ∧
    tabGet none (s.ingestFail ext code).store.ingests ext = none ∧
    ∀ f : Field, f.key / 32 ≠ 0x700034 → ¬ eventKey f.key → (s.ingestFail ext code).fld f = s.fld f := by
  obtain ⟨u, hu⟩ : ∃ u, u = (s.ingestGone ext).extRelease ext := ⟨_, rfl⟩
  have hoffered := offered_extRelease (s.ingestGone ext) ext
  have hstore : (u.post g.acct 0x321 code 0 0).store = u.store := node_of_quiet (quiet_post ..) State.store
  rw [ingestFail_eq hg, ← hu]
  rw [← hu] at hoffered
  refine ⟨?_, ?_, fun f hf he => ?_⟩
  · exact (congrArg (fun st : Store => tabGet Extent.none st.extents ext) hstore).trans
      ((hoffered.extent ext).trans (tabGet_tabSet_same ..))
  · rw [hstore, hoffered.ingests]
    exact tabGet_tabSet_same ..
  · rw [fld_post _ he, hoffered.fld f hf]
    rfl

theorem execIngestTimeout_none {ext : Nat} (hg : tabGet none s.store.ingests ext = none) : exec (.ingestTimeout ext) s = .next s := by
  refine (next_on hoff).trans (congrArg _ ?_)
  rw [State.ingestFail, hg]

omit hoff in
/-- A datagram out of order fails the ingest, and is counted (R350). -/
theorem streamGap_spec {e : Nat} {g : Ingest} (hg : tabGet none s.store.ingests e = some g) :
    tabGet none (s.streamGap e g).store.ingests e = none ∧ (s.streamGap e g).extent e = { s.extent e with state := 4 } ∧
    (s.streamGap e g).fld NET_STRMERR_COUNT = satInc 32 (s.fld NET_STRMERR_COUNT) := by
  obtain ⟨hext, hing, hfld⟩ := ingestFail_spec hg 2
  have hkept : (s.streamGap e g).store = (s.ingestFail e 2).store :=
    of_violation (p := State.store) (fun _ _ => rfl) (fun u a b c d e => node_of_quiet (quiet_post ..) State.store) _ _ _ _
  refine ⟨by rw [hkept]; exact hing, (congrArg (fun st : Store => tabGet Extent.none st.extents e) hkept).trans hext, ?_⟩
  rw [State.streamGap, fld_violation _ (by simp only [eventKey_iff]; decide), State.inc, fld_setFld_same,
    hfld _ (by decide) (by simp only [eventKey_iff]; decide)]
  exact Nat.mod_eq_of_lt (satInc_lt 32 _)

section

variable {p : Nat} (hp : p < 2) {bytes : List Byte}

theorem execIngestDatagram_closed (h : s.flag (NET_CTL_EN p) = false) : exec (.ingestDatagram p bytes) s = .next s :=
  (next_on hoff).trans (congrArg _ (if_pos (.inr (by simp [h]))))

include hp

/-- The datagram's header (R350). -/
def Headed (bytes : List Byte) : Prop :=
  20 ≤ bytes.length ∧ ofLe ((bytes.drop 0).take 2) = 0x494B ∧ ofLe ((bytes.drop 2).take 1) = 1

theorem execIngestDatagram_refused (he : s.flag (NET_CTL_EN p) = true)
    (h : ¬ Headed bytes ∨ s.ingestBy (ofLe ((bytes.drop 4).take 2)) = none) :
    exec (.ingestDatagram p bytes) s = .next (s.inc NET_STRMERR_COUNT) := by
  refine (next_on hoff).trans (congrArg _ ((if_neg (by simp [he]; omega)).trans ?_))
  by_cases hh : bytes.length < 20 ∨ ofLe ((bytes.drop 0).take 2) ≠ 0x494B ∨ ofLe ((bytes.drop 2).take 1) ≠ 1
  · exact if_pos hh
  · have hin : Headed bytes := by rw [Headed]; omega
    refine (if_neg hh).trans ?_
    rw [h.resolve_left (not_not_intro hin)]

/-- The datagram that comes next: its header names the place the line has reached (R350). -/
def StreamInOrder (g : Ingest) (bytes : List Byte) : Prop :=
  ofLe ((bytes.drop 8).take 4) = g.dseq ∧ ofLe ((bytes.drop 12).take 3) = g.line ∧
  ofLe ((bytes.drop 16).take 4) = g.cur.length ∧ 1 ≤ (bytes.drop 20).length ∧ (bytes.drop 20).length ≤ 8192 ∧
  g.line < g.length ∧ g.cur.length + (bytes.drop 20).length ≤ g.lineBytes

theorem execIngestDatagram_taken {e : Nat} {g : Ingest} (he : s.flag (NET_CTL_EN p) = true) (hh : Headed bytes)
    (hby : s.ingestBy (ofLe ((bytes.drop 4).take 2)) = some (e, g)) :
    (StreamInOrder g bytes → exec (.ingestDatagram p bytes) s = .next (s.ingestData e g (bytes.drop 20))) ∧
    (¬ StreamInOrder g bytes → exec (.ingestDatagram p bytes) s = .next (s.streamGap e g)) := by
  obtain ⟨hlen, hmagic, hver⟩ := hh
  have hne : 1 ≤ (bytes.drop 20).length ↔ bytes.drop 20 ≠ [] := by
    rw [← List.length_pos_iff]
    exact Iff.rfl
  have hexec : exec (.ingestDatagram p bytes) s = .next (s.ingestPayload p bytes) := next_on hoff
  have hopen : ¬ (p ≥ 2 ∨ ¬ s.flag (NET_CTL_EN p) = true) := by simp [he]; omega
  have hform : ¬ (bytes.length < 20 ∨ ofLe ((bytes.drop 0).take 2) ≠ 0x494B ∨ ofLe ((bytes.drop 2).take 1) ≠ 1) := by omega
  rw [StreamInOrder, hne]
  refine ⟨fun ho => hexec.trans (congrArg _ ((if_neg hopen).trans ((if_neg hform).trans ?_))),
    fun ho => hexec.trans (congrArg _ ((if_neg hopen).trans ((if_neg hform).trans ?_)))⟩
  · rw [hby]
    exact if_pos ho
  · rw [hby]
    exact if_neg ho

end

section

variable {ext : Nat} {g : Ingest} (hg : tabGet none s.store.ingests ext = some g)
include hg

theorem execIngestComplete_table (ha : g.at_ = .lines) (hl : g.line = g.length) (hr : g.rows = [])
    (hw : s.writesDone ext = true) : exec (.ingestComplete ext) s =
      .next ((s.setStore { s.store with ingests := tabSet none s.store.ingests ext (some { g with at_ := .table })
        }).storeWrite ext ((s.extent ext).base * 2 ^ 24) g.tableBlocks) := by
  refine (next_on hoff).trans (congrArg _ ?_)
  rw [hg]
  exact if_pos ⟨ha, hl, hr, hw⟩

theorem execIngestComplete_on (h : ¬ (g.at_ = .lines ∧ g.line = g.length ∧ g.rows = [] ∧ s.writesDone ext = true)) :
    exec (.ingestComplete ext) s = .next (s.ingestNext ext) := by
  refine (next_on hoff).trans (congrArg _ ?_)
  rw [hg]
  exact if_neg h

theorem execIngestComplete_seals (ha : g.at_ = .flush) (hw : s.writesDone ext = true) :
    ∃ s', exec (.ingestComplete ext) s = .next s' ∧ s'.extent ext = { s.extent ext with state := 3 } ∧
      tabGet none s'.store.ingests ext = none := by
  refine ⟨_, execIngestComplete_on hoff hg (by simp [ha]), ?_⟩
  obtain ⟨u, hu⟩ : ∃ u : State, u = (s.setExtent ext { s.extent ext with state := 3 }) := ⟨_, rfl⟩
  have hnext : s.ingestNext ext = (u.setStore { u.store with ingests := tabSet none u.store.ingests ext none }).post g.acct 0x320
      ((g.addr + 4095) / 4096) 0 0 := by
    rw [State.ingestNext, hg, hu]
    dsimp only
    rw [if_neg (by simp [hw]), ha]
  have hstore : (s.ingestNext ext).store = { u.store with ingests := tabSet none u.store.ingests ext none } := by
    rw [hnext]
    exact node_of_quiet (quiet_post ..) State.store
  refine ⟨(congrArg (fun st : Store => tabGet Extent.none st.extents ext) hstore).trans ?_, ?_⟩
  · rw [hu]
    exact tabGet_tabSet_same ..
  · rw [hstore]
    exact tabGet_tabSet_same ..

theorem execIngestComplete_waits (h : s.writesDone ext = false ∨ g.at_ = .lines ∧ (g.line ≠ g.length ∨ g.rows ≠ [])) :
    exec (.ingestComplete ext) s = .next s := by
  rw [execIngestComplete_on hoff hg (by rintro ⟨h1, h2, h3, h4⟩; simp_all), State.ingestNext, hg]
  dsimp only
  rcases h with h | ⟨h, -⟩
  · rw [if_pos (by simp [h])]
  · rw [h]
    split <;> rfl

end

end

theorem ingestData_part (s : State) {e : Nat} {g : Ingest} {data : List Byte} (h : g.cur.length + data.length < g.lineBytes) :
    s.ingestData e g data = s.setStore { s.store with
      ingests := tabSet none s.store.ingests e (some { g with dseq := g.dseq + 1, cur := g.cur ++ data }) } := by
  rw [State.ingestData]
  exact if_pos (by rw [List.length_append]; exact h)

/-- Settles O47: what each command of the store does, one lemma a command; the Reads that waited keep their order, and a
failed command is counted before it is repeated or lost. -/
theorem storeAndIngest : Obligations.StoreAndIngest := by
  refine ⟨fun s d cid k stn row col data hoff hnd => ⟨fun ds label h => ⟨_, execStoreEnable_on ds label hoff h, storeEnable_spec ds label⟩,
      fun key => execStoFormat_refused hoff, execStoFormat_frees hoff, fun a n at' h => ?_, execReleaseComplete_frees hoff,
      execReleaseComplete_other hoff, execPrefetchIssue_idle hoff, fun t ht => ?_, execNvmeCompletion_unknown hoff,
      fun c hc hl => ⟨execNvmeCompletion_late hoff hc hl 0, execNvmeTimeout_late hoff hc hl⟩, fun c hc hl => ?_, fun c hd => ?_,
      ⟨execReadDeadline_none hoff, execReadDeadline_waiting hoff⟩, fun t ht => ⟨execTileDecode_waits hoff ht, fun h1 h2 => ?_⟩,
      next_on hoff, next_on hoff, next_on hoff, execDriveFatalStatus_raises hoff⟩,
    fun s p ext bytes hoff hp => ⟨execIngestDatagram_closed hoff, execIngestDatagram_refused hoff hp,
      fun e g he hh hby => ?_, fun g hg => ?_, execIngestTimeout_none hoff⟩⟩
  case refine_1 =>
    obtain ⟨i, b, hr, hfree, hmeets, hlow, hhigh, hat, hfirst⟩ := reserveDo_accepted s a n at' h
    rw [hr]
    exact ⟨hfree, tabGet_tabSet_same .., hmeets, hlow, hhigh, hat, hfirst⟩
  case refine_2 =>
    obtain ⟨hmem, hsent, hfirst⟩ := firstPiece_waits ht
    refine ⟨hmem, hsent, hfirst, fun hr hw => execPrefetchIssue_pumps ht hoff hr hw, fun hr hm hd hw huniq => ⟨fun hg => ?_, fun hg => ?_⟩⟩
    · rw [execPrefetchIssue_on ht hoff hr hm hd hw]
      exact congrArg _ (if_pos (by simpa [readOf] using hg))
    · exact execPrefetchIssue_reads ht hoff hr hm hd hw huniq hg
  case refine_3 =>
    exact ⟨execNvmeCompletion_elsewhere hoff hc, execNvmeCompletion_good hoff hc hl, fun st => execNvmeCompletion_bad hoff hc hl,
      execNvmeTimeout_fails hoff hc hl⟩
  case refine_4 =>
    obtain ⟨hcount, hfails, hraise, -⟩ := failureCounted s hd
    exact ⟨hcount, hfails, hraise, cmdFailed_spec s hd⟩
  case refine_5 =>
    rw [execTileDecode_on hoff ht h1 h2]
    exact ⟨fun o ho => by rw [ho], fun ho => by rw [ho]⟩
  case refine_6 =>
    obtain ⟨hin, hout⟩ := execIngestDatagram_taken hoff hp he hh hby
    refine ⟨fun ho hg => ⟨_, hout ho, rfl, streamGap_spec hg⟩, fun ho hl => (hin ho).trans ?_, fun ho _ => hin ho⟩
    rw [ingestData_part s hl]
  case refine_7 =>
    obtain ⟨hext, hing, -⟩ := ingestFail_spec hg 3
    exact ⟨execIngestComplete_table hoff hg, execIngestComplete_seals hoff hg, execIngestComplete_waits hoff hg,
      _, next_on hoff, hext, hing⟩

end Sys2Proof.Machine

namespace Sys2Proof.Machine

/-! Resets (R28, R90, R381): what a reset keeps of a register field is what fits into the field. -/

/-- A state whose table holds a value of TLR_WDOG that is wider than its field: 2^16. -/
def wideWatchdog : State := { State.reset with regs := [((TLR_WDOG_US 0).key, 2 ^ 16)] }

theorem wideWatchdog_kept : wideWatchdog.logicReset.fld (TLR_WDOG_US 0) = 0 := by decide +kernel

/-- Refutes O59: after a logic reset TLR_WDOG holds the 16 bits of its field, not the value modulo 2^32; with 2^16 in the
table it reads 0. -/
theorem not_powerAndResets : ¬ Obligations.PowerAndResets := by
  intro h
  obtain ⟨-, -, -, -, ⟨r, hr, -, -, -, -, hkept, -⟩, -⟩ := h wideWatchdog ⟨0, false, 0⟩ rfl
  have hreset : wideWatchdog.logicReset = r := Host.Outcome.next.inj ((next_on rfl).symm.trans hr)
  have hwdog : r.fld (TLR_WDOG_US 0) = 2 ^ 16 := hkept 0 (by decide)
  rw [← hreset, wideWatchdog_kept] at hwdog
  exact absurd hwdog (by decide)

end Sys2Proof.Machine

namespace Sys2Proof.Machine

/-! The Manager and the Standby (R320 to R329). -/

/-- What a command does whose effect is a frame's, where the node takes it. -/
theorem next_frame {s : State} {h : Hdr} (ha : s.accepts h = true) (m : RingMsg) {body : State → State} {u : State}
    (hb : body (s.heard h m) = u) : (Host.Outcome.next (s.onFrame h m body) : Host.Outcome State Fault Refusal) = .next u := by
  rw [onFrame_accepts body ha, hb]

/-- A watermark's numbers are shown, and what they cover is forgotten (R321). -/
def State.marked (s : State) (settled event : Nat) : State :=
  let s1 := (s.setFld FLT_LASTSETTLED_MSEQ settled).setFld FLT_LASTEVENT_MSEQ event
  s1.setMirror { s1.mirror with
    shadowHost := s1.mirror.shadowHost.filter fun x => ! (seqUpTo x.1 event && s1.hasPlace x.2)
    openReplies := s1.mirror.openReplies.filter fun x => ! seqUpTo x.1 event }

/-- The records a watermark shows to be missing are asked for. -/
def State.asked (s : State) (sent : Nat) : State :=
  let d := (sent + 1 + 2 ^ 32 - s.mirror.expect) % 2 ^ 32
  if d < 2 ^ 31 then s.askGap (s.aheadTo d) d else s

theorem fld_ringUni (s : State) (ep : Nat) (m : RingMsg) (f : Field) : (s.ringUni ep m).fld f = s.fld f := fld_frameOut s _ _

theorem mirror_ringUni (s : State) (ep : Nat) (m : RingMsg) : (s.ringUni ep m).mirror = s.mirror := by
  rw [State.ringUni, State.ringSend1, State.frameOut]
  split <;> rfl

/-- Records up to `ack` are acknowledged. -/
def State.acked (s : State) (ack : Nat) : State := (s.setFld FLT_ACKSEQ_MSEQ ack).ringUni s.mgrEp (.mirack ack)

theorem acked_keeps (s : State) (ack : Nat) : (s.acked ack).fld FLT_LASTSETTLED_MSEQ = s.fld FLT_LASTSETTLED_MSEQ ∧
    (s.acked ack).fld FLT_LASTEVENT_MSEQ = s.fld FLT_LASTEVENT_MSEQ ∧ (s.acked ack).mirror = s.mirror :=
  ⟨(fld_ringUni ..).trans (fld_setFld_ne _ _ (by decide)), (fld_ringUni ..).trans (fld_setFld_ne _ _ (by decide)),
    mirror_ringUni ..⟩

/-- A watermark's answer: the record before the one expected is acknowledged. -/
def State.answered (s : State) (sent : Nat) : State :=
  let ack := (s.mirror.expect + 2 ^ 32 - 1) % 2 ^ 32
  if s.mirror.expect = unsynced then s
  else (s.asked sent).acked ack

theorem execWatermark_eq (s : State) (h : Hdr) (sent settled event : Nat) : exec (.watermark h sent settled event) s =
    .next (s.onFrame h (.watermark sent settled event) fun s =>
      if ¬ s.isStandby then s else (s.marked settled event).answered sent) := by
  rw [exec_watermark, execWatermark]
  unfold State.answered State.acked State.asked State.marked
  rfl

theorem marked_shows (s : State) (settled event : Nat) : (s.marked settled event).fld FLT_LASTSETTLED_MSEQ = settled % 2 ^ 32 ∧
    (s.marked settled event).fld FLT_LASTEVENT_MSEQ = event % 2 ^ 32 ∧
    (s.marked settled event).mirror.openReplies = s.mirror.openReplies.filter fun x => ! seqUpTo x.1 event :=
  ⟨(fld_setFld_ne _ _ (by decide)).trans (fld_setFld_same ..), fld_setFld_same .., rfl⟩

theorem asked_keeps (s : State) (sent : Nat) : (∀ f : Field, (s.asked sent).fld f = s.fld f) ∧ (s.asked sent).mirror = s.mirror := by
  rw [State.asked, State.askGap, State.mirrorAsk]
  split
  · split
    · exact ⟨fld_ringUni _ _ _, mirror_ringUni ..⟩
    · exact ⟨fun _ => rfl, rfl⟩
  · exact ⟨fun _ => rfl, rfl⟩

theorem quiet_sendPieces : ∀ (s : State) (ps : List SnapPiece), (s.sendPieces ps).quiet = s.quiet
  | _, [] => rfl
  | _, _ :: ps => (quiet_sendPieces _ ps).trans (quiet_mirrorSend ..)

theorem mirror_tkSync (s : State) : s.tkSync.mirror = s.mirror := by
  rw [State.tkSync]
  split <;> rfl

theorem fld_tkSync (s : State) {f : Field} (hf : f.key ≠ FLT_MIRSTAT_TKARMED.key) : s.tkSync.fld f = s.fld f := by
  rw [State.tkSync]
  split <;> exact fld_setFld_ne s _ hf

/-- A record in order, with none waiting behind it, moves the stream on (R320). -/
theorem mirrorOrder_next {u : State} {r : MirRec} (hs : u.mirror.expect ≠ unsynced) (hr : r.mseq = u.mirror.expect)
    (ha : u.mirror.ahead = []) : (u.mirrorOrder r).mirror.expect = (u.mirror.expect + 1) % 2 ^ 32 ∧
      (u.mirrorOrder r).fld FLT_MSEQ_MSEQ = u.mirror.expect % 2 ^ 32 := by
  have hd : (r.mseq + 2 ^ 32 - u.mirror.expect) % 2 ^ 32 = 0 := by rw [hr]; omega
  have heq : u.mirrorOrder r = (u.mirrorNext r).tkSync := by
    rw [State.mirrorOrder]
    refine (if_neg hs).trans ((if_pos hd).trans ?_)
    rw [ha]
    rfl
  rw [heq, mirror_tkSync, fld_tkSync _ (by decide), ← hr]
  exact ⟨rfl, fld_setFld_same ..⟩

theorem mirrorOrder_past {u : State} {r : MirRec} (hs : u.mirror.expect ≠ unsynced)
    (hd : 2 ^ 31 ≤ (r.mseq + 2 ^ 32 - u.mirror.expect) % 2 ^ 32) : u.mirrorOrder r = u := by
  rw [State.mirrorOrder]
  exact (if_neg hs).trans ((if_neg (by omega)).trans (if_pos (.inl hd)))

section Frames

variable {s : State} {h : Hdr} (ha : s.accepts h = true)
include ha

/-! The mirror stream (R320). -/

theorem execMirror_spec (r : MirRec) : let u := s.heard h (.mirror r)
    (u.isStandby = false → exec (.mirror h r) s = .next u) ∧
    (u.isStandby = true → r.term ≠ u.fld GLB_TERM_TERM ∨ (∃ k, r.data = .reserved k) →
      exec (.mirror h r) s = .next (u.ringViolation h)) ∧
    (u.isStandby = true → r.term = u.fld GLB_TERM_TERM → (∀ k, r.data ≠ .reserved k) →
      exec (.mirror h r) s = .next (u.mirrorOrder r).swapArrived) := by
  refine ⟨fun hs => next_frame ha _ (if_pos (by simp [hs])), fun hs hr => next_frame ha _ ?_, fun hs ht hr => next_frame ha _ ?_⟩
  · refine (if_neg (by simp [hs])).trans ?_
    split
    · rfl
    · rename_i hk
      exact if_pos (hr.resolve_right fun ⟨k, e⟩ => hk k e)
  · refine (if_neg (by simp [hs])).trans ?_
    split
    · rename_i k hk
      exact absurd hk (hr k)
    · exact if_neg (by simp [ht])

theorem execMirack_spec (seq : Nat) : let u := s.heard h (.mirack seq)
    (u.isManager = true → exec (.mirack h seq) s = .next
      (((u.setMirror { u.mirror with ackAt := u.time.cycles }).setFld FLT_ACKSEQ_MSEQ seq).releaseHeld seq)) ∧
    (u.isManager = false → exec (.mirack h seq) s = .next u) :=
  ⟨fun hm => next_frame ha _ (if_pos hm), fun hm => next_frame ha _ (if_neg (by simp [hm]))⟩

theorem execProbe_spec (seq : Nat) : let u := s.heard h (.probe seq)
    let back := h.src * 4096 + 0x58F
    (u.isManager = true → exec (.probe h seq) s =
      .next (u.ringUni back (.probeans ((u.pos.bcnSeq + 2 ^ 32 - 1) % 2 ^ 32)))) ∧
    (u.isWorker = true → exec (.probe h seq) s = .next (u.ringUni back (.probeans u.mirror.lastBeacon))) ∧
    (u.isManager = false → u.isWorker = false → exec (.probe h seq) s = .next u) := by
  refine ⟨fun hm => next_frame ha _ ?_, fun hw => next_frame ha _ ?_, fun hm hw => next_frame ha _ (if_neg (by simp [hm, hw]))⟩
  · dsimp only
    rw [if_pos (.inl hm), if_pos hm]
  · have hm : ¬ (s.heard h (.probe seq)).isManager = true := by
      have hr : (s.heard h (.probe seq)).role = 3 := by simpa [State.isWorker] using hw
      simp [State.isManager, hr]
    dsimp only
    rw [if_pos (.inr hw), if_neg hm]

theorem execProbeans_spec (seq : Nat) : let u := s.heard h (.probeans seq)
    let ours : Prop := u.isStandby = true ∧ u.mirror.probing = true
    let later : Prop := seq ≠ u.mirror.lastBeacon ∧ seqUpTo u.mirror.lastBeacon seq = true
    (¬ ours → exec (.probeans h seq) s = .next u) ∧
    (ours → h.src = u.mirror.mgrNode →
      exec (.probeans h seq) s = .next (u.setMirror { u.mirror with probeMgr := true })) ∧
    (ours → h.src ≠ u.mirror.mgrNode → later →
      exec (.probeans h seq) s = .next (u.setMirror { u.mirror with probeLater := true })) ∧
    (ours → h.src ≠ u.mirror.mgrNode → ¬ later →
      exec (.probeans h seq) s = .next (u.setMirror { u.mirror with probeOk := true })) :=
  ⟨fun hn => next_frame ha _ (if_neg hn), fun ho hm => next_frame ha _ ((if_pos ho).trans (if_pos hm)),
    fun ho hm hl => next_frame ha _ ((if_pos ho).trans ((if_neg hm).trans (if_pos hl))),
    fun ho hm hl => next_frame ha _ ((if_pos ho).trans ((if_neg hm).trans (if_neg hl)))⟩

theorem execRelinquish_spec : let u := s.heard h .relinquish
    let arm : Prop := u.isStandby = true ∧ u.flag FLT_MIRSTAT_TKARMED = true ∧ u.pwr.dormantLow = false
    (arm → exec (.relinquish h) s = .next u.takeOver) ∧ (¬ arm → exec (.relinquish h) s = .next u) := by
  refine ⟨fun hr => next_frame ha _ (if_pos ?_), fun hr => next_frame ha _ (if_neg ?_)⟩
  · simpa using hr
  · simpa using hr

theorem execSwapreq_spec (seq : Nat) : let u := s.heard h (.swapreq seq)
    let peer : Prop := h.src ≠ u.node ∧ (u.isManager = true ∨ u.isStandby = true) ∧ h.term = u.fld GLB_TERM_TERM
    let answer (ok : Bool) : State := u.ringUni (h.src * 4096 + 0x58F) (.swapack seq ok)
    (¬ peer → exec (.swapreq h seq) s = .next u) ∧
    (peer → u.swapOwn = none → u.swapReady = false → exec (.swapreq h seq) s = .next (answer false)) ∧
    (peer → u.swapOwn = none → u.swapReady = true → exec (.swapreq h seq) s = .next ((answer true).swapAgreed seq)) ∧
    (peer → ∀ own, u.swapOwn = some own → u.mirror.boundary = none →
      exec (.swapreq h seq) s = .next (u.swapAgreed (laterSeq own seq))) := by
  obtain ⟨u, hu⟩ : ∃ u, u = s.heard h (.swapreq seq) := ⟨_, rfl⟩
  rw [← hu]
  have barred : ¬ (h.src ≠ u.node ∧ (u.isManager = true ∨ u.isStandby = true) ∧ h.term = u.fld GLB_TERM_TERM) ↔
      h.src = u.node ∨ ¬ (u.isManager = true ∨ u.isStandby = true) ∨ h.term ≠ u.fld GLB_TERM_TERM := by
    simp only [not_and_or, not_not, ne_eq]
  refine ⟨fun hp => ?_, fun hp ho hr => ?_, fun hp ho hr => ?_, fun hp own ho hb => ?_⟩
  · exact next_frame ha _ (by rw [← hu]; exact if_pos (barred.mp hp))
  · refine next_frame ha _ ?_
    rw [← hu, if_neg (mt barred.mpr (not_not_intro hp)), ho]
    dsimp only
    rw [hr, if_neg (by decide)]
  · refine next_frame ha _ ?_
    rw [← hu, if_neg (mt barred.mpr (not_not_intro hp)), ho]
    dsimp only
    rw [hr, if_pos rfl]
  · refine next_frame ha _ ?_
    rw [← hu, if_neg (mt barred.mpr (not_not_intro hp)), ho]
    exact if_neg (by simp [hb])

theorem execSwapack_spec (seq : Nat) (ok : Bool) : let u := s.heard h (.swapack seq ok)
    (u.mirror.swapSeq ≠ some seq ∨ u.mirror.boundary ≠ none → exec (.swapack h seq ok) s = .next u) ∧
    (u.mirror.swapSeq = some seq → u.mirror.boundary = none → exec (.swapack h seq ok) s = .next (
      if ok then u.swapAgreed seq
      else (u.setMirror { u.mirror with swapSeq := none }).setFld FLT_STATUS_SWAPERR 1)) := by
  obtain ⟨u, hu⟩ : ∃ u, u = s.heard h (.swapack seq ok) := ⟨_, rfl⟩
  rw [← hu]
  refine ⟨fun hn => next_frame ha _ ?_, fun hs hb => next_frame ha _ ?_⟩
  · rw [← hu]
    cases hs : u.mirror.swapSeq with
    | none => rfl
    | some own =>
      refine if_pos ?_
      rw [hs] at hn
      rcases hn with hn | hn
      · exact .inl fun e => hn (by rw [e])
      · exact .inr (Option.isSome_iff_ne_none.mpr hn)
  · rw [← hu, hs]
    refine (if_neg (by simp [hb])).trans ?_
    rfl

theorem execMirreq_spec (first last : Nat) : let u := s.heard h (.mirreq first last)
    let whole : Prop := first = 0xFFFFFFFF ∧ last = 0xFFFFFFFF
    let v := u.sendPieces u.pieces
    (u.hasStandby = false → exec (.mirreq h first last) s = .next u) ∧
    (u.hasStandby = true → whole → exec (.mirreq h first last) s =
      .next (v.setMirror { v.mirror with snapshot := true, ackAt := v.time.cycles })) ∧
    (u.hasStandby = true → ¬ whole → exec (.mirreq h first last) s =
      .next (u.sendAgain (u.mirror.sent.filter fun r => seqUpTo first r.mseq && seqUpTo r.mseq last))) := by
  obtain ⟨u, hu⟩ : ∃ u, u = s.heard h (.mirreq first last) := ⟨_, rfl⟩
  rw [← hu]
  refine ⟨fun hs => next_frame ha _ ?_, fun hs hw => next_frame ha _ ?_, fun hs hw => next_frame ha _ ?_⟩
  · rw [← hu]
    exact if_pos (by simp [hs])
  · rw [← hu, if_neg (by simp [hs]), if_pos hw]
    have hquiet : (u.sendPieces u.pieces).quiet = u.quiet := quiet_sendPieces _ _
    have htime : (u.sendPieces u.pieces).time = u.time := time_of_quiet hquiet
    dsimp only
    rw [htime]
  · rw [← hu]
    exact (if_neg (by simp [hs])).trans (if_neg hw)

theorem execWatermark_spec (sent settled event : Nat) : let u := s.heard h (.watermark sent settled event)
    (u.isStandby = false → exec (.watermark h sent settled event) s = .next u) ∧
    (u.isStandby = true → ∃ s', exec (.watermark h sent settled event) s = .next s' ∧
      s'.fld FLT_LASTSETTLED_MSEQ = settled % 2 ^ 32 ∧ s'.fld FLT_LASTEVENT_MSEQ = event % 2 ^ 32 ∧
      s'.mirror.openReplies = u.mirror.openReplies.filter fun x => ! seqUpTo x.1 event) ∧
    (u.isStandby = true → u.mirror.expect ≠ unsynced → ∃ v : State, v.mirror.expect = u.mirror.expect ∧
      let ack := (u.mirror.expect + 2 ^ 32 - 1) % 2 ^ 32
      exec (.watermark h sent settled event) s = .next ((v.setFld FLT_ACKSEQ_MSEQ ack).ringUni v.mgrEp (.mirack ack))) := by
  obtain ⟨u, hu⟩ : ∃ u, u = s.heard h (.watermark sent settled event) := ⟨_, rfl⟩
  rw [← hu]
  obtain ⟨w, hw⟩ : ∃ w, w = u.marked settled event := ⟨_, rfl⟩
  have hbody (hs : u.isStandby = true) : exec (.watermark h sent settled event) s = .next (w.answered sent) := by
    rw [execWatermark_eq]
    exact next_frame ha _ (by rw [← hu, if_neg (by simp [hs]), hw])
  obtain ⟨h1, h2, h3⟩ := marked_shows u settled event
  have he : w.mirror.expect = u.mirror.expect := by rw [hw]; rfl
  obtain ⟨hfld, hmir⟩ := asked_keeps w sent
  rw [← hw] at h1 h2 h3
  refine ⟨fun hs => ?_, fun hs => ⟨_, hbody hs, ?_⟩, fun hs hx => ?_⟩
  · rw [execWatermark_eq]
    exact next_frame ha _ (by rw [← hu]; exact if_pos (by simp [hs]))
  · rw [State.answered]
    split
    · exact ⟨h1, h2, h3⟩
    · obtain ⟨v, hv⟩ : ∃ v, v = w.asked sent := ⟨_, rfl⟩
      rw [← hv] at hfld hmir ⊢
      obtain ⟨k1, k2, k3⟩ := acked_keeps v ((w.mirror.expect + 2 ^ 32 - 1) % 2 ^ 32)
      exact ⟨k1.trans ((hfld _).trans h1), k2.trans ((hfld _).trans h2),
        (congrArg Mirror.openReplies (k3.trans hmir)).trans h3⟩
  · refine ⟨w.asked sent, by rw [hmir, he], (hbody hs).trans ?_⟩
    rw [State.answered, if_neg (by rw [he]; exact hx), he, State.acked]

end Frames

/-! Stepping down (R329). -/

theorem fld_mirrorSend (s : State) (t st i x : Nat) (d : MirData) {f : Field} (hf : f.key ≠ FLT_MSEQ_MSEQ.key) :
    (s.mirrorSend t st i x d).fld f = s.fld f := by
  rw [State.mirrorSend]
  split
  · exact (fld_ringBoth _ _ _).trans (fld_setFld_ne _ _ hf)
  · rfl

theorem swapDown_spec (s : State) : s.swapDown.role = 2 ∧ s.swapDown.flag GLB_DRVEN_OUTEN = false ∧
    s.swapDown.fld GLB_TERM_TERM = (s.fld GLB_TERM_TERM + 1) % 2 ^ 32 ∧ s.swapDown.mirror.mgrNode = 1 - s.node := by
  obtain ⟨u, hu⟩ : ∃ u, u = s.mirrorSend 0xFF 0 0 0 (.swapmark (s.fld FLT_MSEQ_MSEQ)) := ⟨_, rfl⟩
  have hsent (f : Field) (hf : f.key ≠ FLT_MSEQ_MSEQ.key) : u.fld f = s.fld f := hu ▸ fld_mirrorSend s _ _ _ _ _ hf
  have hfld (f : Field) (hf : f.key ≠ FLT_MIRSTAT_TKARMED.key) : s.swapDown.fld f =
      (((u.setOff GLB_DRVEN_OUTEN).setFld GLB_ROLE_ROLE 2).setFld GLB_TERM_TERM (u.fld GLB_TERM_TERM + 1)).fld f := by
    rw [State.swapDown, fld_tkSync _ hf, hu]
    rfl
  refine ⟨?_, ?_, ?_, ?_⟩
  · rw [State.role, hfld _ (by decide), fld_setFld_ne _ _ (by decide), fld_setFld_same]
    rfl
  · refine (flag_of_fld ((hfld _ (by decide)).trans ((fld_setFld_ne _ _ (by decide)).trans (fld_setFld_ne _ _ (by decide))))).trans ?_
    exact flag_setOff ..
  · rw [hfld _ (by decide), fld_setFld_same, hsent _ (by decide)]
    rfl
  · rw [State.swapDown, mirror_tkSync, ← hu]
    exact congrArg (1 - ·) (hsent _ (by decide))

theorem quiet_markPosted (s : State) (m : Nat) (i : HostItem) : (s.markPosted m i).quiet = s.quiet := by
  cases i with
  | reply a ws => rfl
  | record a addr r =>
    rw [State.markPosted]
    dsimp only
    split <;> rfl

theorem quiet_releaseAll (s : State) : s.releaseAll.quiet = s.quiet := by
  have hall : ∀ (l : List (Nat × HostItem)) (u : State), (u.hostAll l).quiet = u.quiet := by
    intro l
    induction l with
    | nil => exact fun _ => rfl
    | cons x l ih => exact fun u => (ih _).trans ((quiet_markPosted ..).trans (quiet_hostDo ..))
  exact hall _ _

/-- A request for the end of a run, with none open here: at most the Manager is told. -/
theorem stopRequest_idle {s : State} (h : s.esc.runOpen = false) : s.stopRequest.quiet = s.quiet ∧
    ∀ f : Field, s.stopRequest.fld f = s.fld f := by
  rw [State.stopRequest, h]
  split
  · exact ⟨rfl, fun _ => rfl⟩
  · split
    · exact ⟨(quiet_ringUni ..).trans (quiet_free _ (2 ^ 32)), fun f => fld_ringUni ..⟩
    · exact ⟨rfl, fun _ => rfl⟩

section

variable {s : State} (hoff : s.isOff = false)
include hoff

/-! The Manager's beacons and the probe (R321, R326). -/

theorem execBeaconMissing_probes (hd : s.pwr.dormantLow = false) (hs : s.isStandby = true)
    (ht : s.flag FLT_MIRSTAT_TKARMED = true) (hp : s.mirror.probing = false) : exec .beaconMissing s =
      .next ((s.setMirror { s.mirror with probing := true, probeOk := false, probeLater := false, probeMgr := false }).ringBoth none
        (.probe s.mirror.lastBeacon)) :=
  (next_on hoff).trans (congrArg _ ((if_neg (by simp [hd])).trans (if_pos ⟨hs, ht, by simp [hp]⟩)))

theorem execBeaconMissing_other (hs : s.isStandby = false) : exec .beaconMissing s = .next s :=
  (next_on hoff).trans (congrArg _ ((if_neg (by simp [hs])).trans (if_neg (by simp [hs]))))

theorem execProbeTimeout_other (hs : s.isStandby = false) : exec .probeTimeout s = .next s :=
  (next_on hoff).trans (congrArg _ (if_pos (by simp [hs])))

theorem execProbeTimeout_spec (hs : s.isStandby = true) (hp : s.mirror.probing = true) : let m := s.mirror
    (m.probeOk = true → m.probeLater = false → m.probeMgr = false → s.flag FLT_MIRSTAT_TKARMED = true →
      s.pwr.dormantLow = false → exec .probeTimeout s = .next s.takeOver) ∧
    (m.probeOk = true → s.flag FLT_MIRSTAT_TKARMED = false ∨ s.pwr.dormantLow = true →
      exec .probeTimeout s = .next (s.setMirror { m with probing := false })) ∧
    (m.probeMgr = true → exec .probeTimeout s = .next (s.setMirror { m with probing := false })) ∧
    (m.probeOk = false → m.probeLater = false → m.probeMgr = false →
      exec .probeTimeout s = .next ((s.setMirror { m with probing := false }).setFld FLT_MIRSTAT_ISOLATED 1)) := by
  have hours : ¬ ¬ (s.isStandby = true ∧ s.mirror.probing = true) := not_not_intro ⟨hs, hp⟩
  refine ⟨fun h1 h2 h3 h4 h5 => ?_, fun h1 h2 => ?_, fun h1 => ?_, fun h1 h2 h3 => ?_⟩
  · exact (next_on hoff).trans (congrArg _ ((if_neg hours).trans (if_pos (by simp [h1, h2, h3, h4, h5]))))
  · have hno : ¬ (s.flag FLT_MIRSTAT_TKARMED = true ∧ ¬ s.pwr.dormantLow = true) := by rcases h2 with h2 | h2 <;> simp [h2]
    exact (next_on hoff).trans (congrArg _ ((if_neg hours).trans ((if_neg fun h => hno h.2.2.2).trans (if_neg (by simp [h1])))))
  · exact (next_on hoff).trans (congrArg _ ((if_neg hours).trans ((if_neg (by simp [h1])).trans (if_neg (by simp [h1])))))
  · exact (next_on hoff).trans (congrArg _ ((if_neg hours).trans ((if_neg (by simp [h1])).trans (if_pos (by simp [h1, h2, h3])))))

/-! Hand-over and swap (R327 to R329). -/

theorem execRelinq_spec : (s.isManager = true → s.standbyArmed = true → exec .relinq s = .next s.relinquish ∧ s.relinquish.role = 4) ∧
    (s.isManager = false ∨ s.standbyArmed = false → exec .relinq s = .next (s.setFld FLT_STATUS_SWAPERR 1)) := by
  refine ⟨fun hm hs => ⟨(next_on hoff).trans (congrArg _ (if_pos ⟨hm, hs⟩)), retire_role _⟩, fun h => ?_⟩
  exact (next_on hoff).trans (congrArg _ (if_neg (by rcases h with h | h <;> simp [h])))

theorem execSwap_spec : (s.swapReady = false → exec .swap s = .next (s.setFld FLT_STATUS_SWAPERR 1)) ∧
    (s.swapReady = true → s.swapOwn = none → exec .swap s = .next
      ((s.setMirror { s.mirror with swapSeq := some s.seqNow, swapAt := s.time.cycles }).ringBoth none (.swapreq s.seqNow))) ∧
    (s.swapReady = true → s.swapOwn ≠ none → exec .swap s = .next s) := by
  refine ⟨fun hr => ?_, fun hr ho => ?_, fun hr ho => ?_⟩
  · exact (next_on hoff).trans (congrArg _ ((if_neg (by simp [hr])).trans (if_neg (by simp [hr]))))
  · exact (next_on hoff).trans (congrArg _ (if_pos ⟨hr, by simp [ho]⟩))
  · exact (next_on hoff).trans (congrArg _ ((if_neg fun h => ho (Option.isNone_iff_eq_none.mp h.2)).trans (if_pos hr)))

theorem execOwnBeaconLoss_spec : (s.isManager = true → s.pwr.dormantLow = false → exec .ownBeaconLoss s = .next s.retire) ∧
    (s.isManager = false ∨ s.pwr.dormantLow = true → exec .ownBeaconLoss s = .next s) := by
  refine ⟨fun hm hd => (next_on hoff).trans (congrArg _ (if_pos ⟨hm, by simp [hd]⟩)), fun h => ?_⟩
  exact (next_on hoff).trans (congrArg _ (if_neg (by rcases h with h | h <;> simp [h])))

/-- The Manager steps down at an agreed swap's boundary (R329). -/
theorem execSwapBoundary_down {b : Nat} (hb : s.mirror.boundary = some b) (hm : s.isManager = true)
    (hs : s.mirror.swapping = false) (hq : seqUpTo b s.pos.bcnSeq = true) :
    ∃ s', exec .swapBoundary s = .next s' ∧ s'.role = 2 ∧ s'.flag GLB_DRVEN_OUTEN = false ∧
      s'.fld GLB_TERM_TERM = (s.fld GLB_TERM_TERM + 1) % 2 ^ 32 ∧ s'.mirror.mgrNode = 1 - s.node := by
  refine ⟨s.swapDown, (next_on hoff).trans (congrArg _ ?_), ?_⟩
  · rw [hb]
    exact if_pos ⟨hm, by simp [hs], hq⟩
  exact swapDown_spec s

theorem execSwapBoundary_up {b k : Nat} (hb : s.mirror.boundary = some b) (hs : s.isStandby = true)
    (hq : seqUpTo b (s.mirror.lastBeacon + 1) = true) (hk : s.mirror.markSeq = some k)
    (hm : seqUpTo (k + 1) s.mirror.expect = true) : exec .swapBoundary s = .next (s.swapUp b) := by
  refine (next_on hoff).trans (congrArg _ ?_)
  rw [hb]
  refine (if_neg fun h => ?_).trans ?_
  · have h1 : s.role = 2 := by simpa [State.isStandby] using hs
    have h2 : s.role = 1 := by simpa [State.isManager] using h.1
    omega
  · have hany : s.mirror.markSeq.any (fun m => seqUpTo (m + 1) s.mirror.expect) = true := by
      rw [hk, Option.any_some]
      exact hm
    rw [State.swapArrived, hb]
    dsimp only
    rw [if_pos ⟨hs, hq, hany⟩]

theorem execSwapBoundary_waits (hs : s.isStandby = true) (hk : s.mirror.markSeq = none) : exec .swapBoundary s = .next s := by
  refine (next_on hoff).trans (congrArg _ ?_)
  cases hb : s.mirror.boundary with
  | none => rfl
  | some b =>
    refine (if_neg fun h => ?_).trans ?_
    · have h1 : s.role = 2 := by simpa [State.isStandby] using hs
      have h2 : s.role = 1 := by simpa [State.isManager] using h.1
      omega
    · rw [State.swapArrived, hb]
      exact if_neg (by simp [hk])

/-- A node that is lost (R323). -/
theorem execNodelost_raises {n : Nat} (hm : s.isManager = true) (hn : n ≠ s.node) (hp : (tabGet Peer.none s.peers n).present = true)
    (hd : s.pwr.dormantLow = false) (hslots : s.esc.slots = []) (hrun : s.esc.runOpen = false) :
    ∃ s', exec (.nodelost n) s = .next s' ∧ (tabGet Peer.none s'.peers n).present = false ∧ s'.srcSet 21 2 = true := by
  refine ⟨_, (next_on hoff).trans (congrArg _ (if_pos ⟨hm, hp, hn, by simp [hd]⟩)), ?_⟩
  dsimp only
  obtain ⟨s0, hs0⟩ : ∃ s0 : State, s0 = { s with
    peers := tabSet Peer.none s.peers n { tabGet Peer.none s.peers n with present := false } } := ⟨_, rfl⟩
  rw [← hs0]
  obtain ⟨u, hu⟩ : ∃ u : State, u = (if n = s0.stbyNode then s0.releaseAll else s0).raise 21 2 := ⟨_, rfl⟩
  rw [← hu]
  have hrel : (if n = s0.stbyNode then s0.releaseAll else s0).quiet = s0.quiet := by
    split
    · exact quiet_releaseAll s0
    · rfl
  have hquiet : u.quiet = s0.quiet := by rw [hu, quiet_raise, hrel]
  have hsrc : u.srcSet 21 2 = true := by
    have hdorm : (if n = s0.stbyNode then s0.releaseAll else s0).pwr.dormantLow = false := by
      rw [show (if n = s0.stbyNode then s0.releaseAll else s0).pwr = s0.pwr from node_of_quiet hrel State.pwr, hs0]
      exact hd
    rw [hu]
    exact srcSet_raise (by decide) (by simp only [State.dormantMute, hdorm, Bool.false_and])
  have hesc : u.esc = s.esc := (node_of_quiet hquiet State.esc).trans (by rw [hs0]; rfl)
  have hvoid : u.voidAll 10 (u.incOf 21) (fun _ r => u.notEnded (peerStations (tabGet Peer.none s.peers n).portmap) r) u.esc.slots = u := by
    rw [hesc, hslots]
    rfl
  rw [show rsRequest = 10 from rfl, hvoid]
  obtain ⟨hstop, hkeep⟩ := stopRequest_idle (s := u) (by rw [hesc, hrun])
  have hpeers : ((u.stopRequest).postIf RNG_EVACCT_EN RNG_EVACCT_ACCT 6 n 0 (u.incOf 21)).peers = s0.peers := by
    exact (node_of_quiet (quiet_postIf ..) State.peers).trans ((node_of_quiet hstop State.peers).trans (node_of_quiet hquiet State.peers))
  refine ⟨?_, ?_⟩
  · rw [hpeers, hs0, tabGet_tabSet_same]
  · refine (srcSet_of_fld ?_).trans hsrc
    rw [fld_postIf _ (by simp only [eventKey_iff]; decide), hkeep]

theorem execNodelost_other {n : Nat} (h : s.isManager = false ∨ n = s.node ∨ (tabGet Peer.none s.peers n).present = false ∨
    s.pwr.dormantLow = true) : exec (.nodelost n) s = .next s := by
  refine (next_on hoff).trans (congrArg _ (if_neg ?_))
  rintro ⟨h1, h2, h3, h4⟩
  rcases h with h | h | h | h
  · simp [h] at h1
  · exact h3 h
  · simp [h] at h2
  · exact h4 h

theorem execEnableSwapEnd_spec : (s.isManager = true → s.mirror.swapping = true → exec .enableSwapEnd s = .next (
      let s1 := s.setMirror { s.mirror with swapping := false, boundary := none, swapSeq := none, markSeq := none }
      let s2 := (s1.brakeLive 0).brakeLive 1
      (if s.pwr.linkUp then (s2.setFld GLB_DRVEN_OUTEN 1).interlock 52 else s2).align (! s.mirror.boundary.isSome))) ∧
    (s.isManager = false ∨ s.mirror.swapping = false → exec .enableSwapEnd s = .next s) := by
  refine ⟨fun hm hs => (next_on hoff).trans (congrArg _ ((if_pos ⟨hm, hs⟩).trans ?_)), fun h => ?_⟩
  · have hlive : ∀ (u : State) (a : Nat), (u.brakeLive a).pwr = u.pwr := fun u a => by
      rw [State.brakeLive]
      split <;> rfl
    dsimp only
    rw [hlive, hlive]
    rfl
  · exact (next_on hoff).trans (congrArg _ (if_neg (by rcases h with h | h <;> simp [h])))

end

/-! The Standby becomes Manager (R325, R329). -/

/-- The Standby as it is when it becomes Manager by a takeover, before what is due is settled. -/
def State.tookOver (s : State) : State :=
  let s1 := ((s.setFld GLB_ROLE_ROLE 1).setFld GLB_TERM_TERM (s.fld GLB_TERM_TERM + 1)).setOff FLT_MIRSTAT_TKARMED
  let s2 := { s1 with
    peers := tabSet Peer.none s1.peers s.mirror.mgrNode { tabGet Peer.none s.peers s.mirror.mgrNode with present := false } }
  s2.setMirror { s2.mirror with
    next := 0, sent := [], settles := [], ahead := [], held := [], due := [], probing := false, swapping := true
    snapshot := false, boundary := none, swapSeq := none, markSeq := none, mgrNode := s.node }

theorem takeOver_eq (s : State) : s.takeOver = ((if s.settleMirror.tookOver.pos.inhRev then s.settleMirror.tookOver.inhibitRange
    else s.settleMirror.tookOver).escSync).postDue s.settleMirror.mirror.due := rfl

/-- The Standby as it is when it becomes Manager at a swap's boundary. -/
def State.swappedUp (s : State) (b : Nat) : State :=
  let s1 := ((s.setFld GLB_ROLE_ROLE 1).setFld GLB_TERM_TERM (s.fld GLB_TERM_TERM + 1)).setOff FLT_MIRSTAT_TKARMED
  let s2 := s1.setPos { s1.pos with bcnSeq := b }
  s2.setMirror { s2.mirror with
    next := 0, sent := [], settles := [], ahead := [], held := [], due := [], swapping := true, snapshot := true
    ackAt := s.time.cycles, mgrNode := s.node }

theorem swapUp_eq (s : State) (b : Nat) : s.swapUp b = ((if (s.settleMirror.swappedUp b).pos.inhRev
    then (s.settleMirror.swappedUp b).inhibitRange else s.settleMirror.swappedUp b).escSync).postDue s.settleMirror.mirror.due := rfl

/-- The role and the TERM of a Standby that becomes Manager. -/
theorem promoted_fld (s : State) :
    let u := ((s.setFld GLB_ROLE_ROLE 1).setFld GLB_TERM_TERM (s.fld GLB_TERM_TERM + 1)).setOff FLT_MIRSTAT_TKARMED
    u.fld GLB_ROLE_ROLE = 1 ∧ u.fld GLB_TERM_TERM = (s.fld GLB_TERM_TERM + 1) % 2 ^ 32 := by
  refine ⟨?_, ?_⟩
  · rw [State.setOff, fld_setFld_ne _ _ (by decide), fld_setFld_ne _ _ (by decide), fld_setFld_same]
    rfl
  · rw [State.setOff, fld_setFld_ne _ _ (by decide), fld_setFld_same]
    rfl

theorem settleMirror_idle {s : State} (h : s.mirror.todo = []) : s.settleMirror = s := by
  rw [State.settleMirror, h, State.setTodo, State.flushTodo, ← h]
  rfl

/-- Settles O57: each command of the pair by the checks it makes, in the model's order; a takeover and a swap settle what the
mirror stream left and then change role and TERM. -/
theorem pairCommands : Obligations.PairCommands := by
  intro s h r seq first last sent settled event n ok hoff
  refine ⟨fun ha => ?_, fun hs hd => ?_, fun hd ⟨hs, ht⟩ hp => execBeaconMissing_probes hoff hd hs ht hp,
    fun hs => ⟨execBeaconMissing_other hoff hs, execProbeTimeout_other hoff hs⟩, execProbeTimeout_spec hoff, ?_, settleMirror_idle,
    (execEnableSwapEnd_spec hoff).1, (execEnableSwapEnd_spec hoff).2, (execRelinq_spec hoff).1, (execRelinq_spec hoff).2,
    fun b hb hm => if_pos ⟨hb, hm⟩, (execOwnBeaconLoss_spec hoff).1, (execOwnBeaconLoss_spec hoff).2, (execSwap_spec hoff).1,
    (execSwap_spec hoff).2.1, (execSwap_spec hoff).2.2, fun hb => ?_, fun b => execSwapBoundary_down hoff, fun b k hb hs hq hk hm => ?_,
    execSwapBoundary_waits hoff, execNodelost_other hoff, execNodelost_raises hoff⟩
  · obtain ⟨h1, h2, h3⟩ := execMirror_spec ha r
    exact ⟨⟨h1, h2, h3, mirrorOrder_next, mirrorOrder_past⟩, execWatermark_spec ha sent settled event, execMirack_spec ha seq,
      execMirreq_spec ha first last, execProbe_spec ha seq, execProbeans_spec ha seq, execRelinquish_spec ha,
      execSwapreq_spec ha seq, execSwapack_spec ha seq ok⟩
  · exact (next_on hoff).trans (congrArg _ (if_pos ⟨hs, hd⟩))
  · obtain ⟨hrole, hterm⟩ := promoted_fld s.settleMirror
    exact ⟨s.settleMirror.tookOver, _, takeOver_eq s, decide_eq_true hrole, hterm, rfl, rfl, rfl, rfl, rfl, rfl, rfl, rfl, rfl⟩
  · refine (next_on hoff).trans (congrArg _ ?_)
    rw [hb]
  · obtain ⟨hrole, hterm⟩ := promoted_fld s.settleMirror
    exact ⟨s.settleMirror.swappedUp b, _, (execSwapBoundary_up hoff hb hs hq hk hm).trans (congrArg _ (swapUp_eq s b)), hrole, hterm,
      rfl, rfl, rfl, rfl⟩

end Sys2Proof.Machine

namespace Sys2Proof.Machine

/-! Ring traffic (R355 to R364): a node number that a table out of order brings back. -/

/-- A broadcast frame that carries no LSEQ. -/
def broadcastHdr : Hdr := ⟨0, none, 0, 1, 0xFFFF, 0, false, .none⟩

/-- A node without a role on a ring that runs, whose register table is out of order: behind an entry of the block that a
Worker holds in reset stands an entry of GLB_ROLE.NODE, which no read finds. -/
def hiddenNode : State := { State.reset with
  regs := [(0xA80000 * 32, 1), (GLB_ROLE_NODE.key, 7), (RNG_CTL_EN.key, 1)] }

theorem hiddenNode_assign : ∃ u : State, exec (.assign broadcastHdr Config.serial 0 3 0 0) hiddenNode = .next u ∧ u.node = 7 := by
  refine ⟨_, next_frame (by decide +kernel) _ rfl, ?_⟩
  dsimp only
  rw [if_pos ⟨rfl, by decide +kernel, by decide +kernel, by decide +kernel⟩]
  decide +kernel

/-- Refutes O58: ASSIGN with node number 0 leaves the node with number 7 where the register table is out of order: the entry
of the old number, which no read finds, stands behind one that is cleared when the node takes its role. -/
theorem not_ringTraffic : ¬ Obligations.RingTraffic := by
  intro h
  obtain ⟨-, -, -, -, -, -, -, -, haccepts, -⟩ := h hiddenNode broadcastHdr 0 0 0 0 0 0 0 ⟨0, [], 0, 0, 0⟩ [] rfl (by decide)
  obtain ⟨-, -, -, -, -, hassign⟩ := haccepts (by decide +kernel)
  obtain ⟨t, ht, -, hnode, -⟩ := hassign (by decide +kernel) (by decide +kernel) (by decide +kernel) (by decide)
  obtain ⟨u, hu, hseven⟩ := hiddenNode_assign
  rw [Host.Outcome.next.inj (hu.symm.trans ht), hnode] at hseven
  exact absurd hseven (by decide)

end Sys2Proof.Machine

namespace Sys2Proof.Machine

/-! What passes with a teller cycle (R60): the parts of the tick leave the cycle count, and the tellers but for TEV. -/

/-- The cycle count, and the tellers, TEV aside. -/
structure Pace where
  cycles : Nat
  tellers : Nat → Teller

def State.pace (s : State) : Pace := ⟨s.time.cycles, sansTev s.tellers⟩

@[simp] theorem pace_mk {regs tellers pm dm pmErr dmErr cmps armSeq stream wrrNow orders books locks esc pos time held modOpen modPend incidents viols links peers mirror claims inbox posted mbw mbr bodies mbCmd loading pwr scan refs head expo store dma dram plant keys fwRollback hellos dly fec tap flash images freeCtr out pending} :
    (State.mk regs tellers pm dm pmErr dmErr cmps armSeq stream wrrNow orders books locks esc pos time held modOpen modPend incidents viols links peers mirror claims inbox posted mbw mbr bodies mbCmd loading pwr scan refs head expo store dma dram plant keys fwRollback hellos dly fec tap flash images freeCtr out pending).pace = ⟨time.cycles, sansTev tellers⟩ := rfl

@[simp] theorem pace_fold (s : State) : Pace.mk s.time.cycles (sansTev s.tellers) = s.pace := rfl

theorem pace_of_quiet {s u : State} (h : u.quiet = s.quiet) : u.pace = s.pace :=
  congrArg (fun q : Quiet => Pace.mk q.node.time.cycles q.tellers) h

@[simp] theorem pace_ite (c : Prop) [Decidable c] (s t : State) : (if c then s else t).pace = if c then s.pace else t.pace :=
  apply_ite _ c s t

@[simp] theorem pace_foldl {α : Type} {f : State → α → State} (h : ∀ u a, (f u a).pace = u.pace) (l : List α) (s : State) :
    (l.foldl f s).pace = s.pace := by
  induction l generalizing s with
  | nil => rfl
  | cons a l ih => rw [List.foldl_cons, ih, h]

@[simp] theorem pace_setFld (s : State) (f : Field) (v : Nat) : (s.setFld f v).pace = s.pace := pace_of_quiet (quiet_setFld ..)

@[simp] theorem pace_setOn (s : State) (f : Field) : (s.setOn f).pace = s.pace := pace_of_quiet (quiet_setOn ..)

@[simp] theorem pace_setOff (s : State) (f : Field) : (s.setOff f).pace = s.pace := pace_of_quiet (quiet_setOff ..)

@[simp] theorem pace_setBool (s : State) (f : Field) (b : Bool) : (s.setBool f b).pace = s.pace := pace_of_quiet (quiet_setBool ..)

@[simp] theorem pace_inc (s : State) (f : Field) : (s.inc f).pace = s.pace := pace_of_quiet (quiet_inc ..)

@[simp] theorem pace_incBy (s : State) (f : Field) (n : Nat) : (s.incBy f n).pace = s.pace := pace_of_quiet (quiet_incBy ..)

@[simp] theorem pace_incWrap (s : State) (f : Field) : (s.incWrap f).pace = s.pace := pace_of_quiet (quiet_incWrap ..)

@[simp] theorem pace_setFbit (s : State) (f : Field) (i : Nat) : (s.setFbit f i).pace = s.pace := pace_of_quiet (quiet_setFbit ..)

@[simp] theorem pace_clrFbit (s : State) (f : Field) (i : Nat) : (s.clrFbit f i).pace = s.pace := pace_of_quiet (quiet_clrFbit ..)

@[simp] theorem pace_emit (s : State) (o : Out) : (s.emit o).pace = s.pace := pace_of_quiet (quiet_emit ..)

@[simp] theorem pace_setTev (s : State) (t bit : Nat) : (s.setTev t bit).pace = s.pace := pace_of_quiet (quiet_setTev ..)

@[simp] theorem pace_setTevMask (s : State) (mask bit : Nat) (n : Nat) : (s.setTevMask mask bit n).pace = s.pace := pace_of_quiet (quiet_setTevMask ..)

@[simp] theorem pace_free (s : State) (m : Nat) : (s.free m).2.pace = s.pace := pace_of_quiet (quiet_free ..)

@[simp] theorem pace_msix (s : State) (vec : Nat) : (s.msix vec).pace = s.pace := pace_of_quiet (quiet_msix ..)

@[simp] theorem pace_recordWritten (s : State) (a : Nat) : (s.recordWritten a).pace = s.pace := pace_of_quiet (quiet_recordWritten ..)

@[simp] theorem pace_mbIrq (s : State) (a : Nat) : (s.mbIrq a).pace = s.pace := pace_of_quiet (quiet_mbIrq ..)

@[simp] theorem pace_hostDo (s : State) (x : HostItem) : (s.hostDo x).pace = s.pace := pace_of_quiet (quiet_hostDo ..)

@[simp] theorem pace_setLink (s : State) (d : Nat) (l : Link) : (s.setLink d l).pace = s.pace := pace_of_quiet (quiet_setLink ..)

@[simp] theorem pace_frameOut (s : State) (d : Nat) (f : RingFrame) : (s.frameOut d f).pace = s.pace := pace_of_quiet (quiet_frameOut ..)

@[simp] theorem pace_ringSend1 (s : State) (d : Nat) (dst : Option Nat) (m : RingMsg) : (s.ringSend1 d dst m).pace = s.pace := pace_of_quiet (quiet_ringSend1 ..)

@[simp] theorem pace_ringBoth (s : State) (dst : Option Nat) (m : RingMsg) : (s.ringBoth dst m).pace = s.pace := pace_of_quiet (quiet_ringBoth ..)

@[simp] theorem pace_ringUni (s : State) (ep : Nat) (m : RingMsg) : (s.ringUni ep m).pace = s.pace := pace_of_quiet (quiet_ringUni ..)

@[simp] theorem pace_mirrorSend (s : State) (teller status inst aux : Nat) (d : MirData) : (s.mirrorSend teller status inst aux d).pace = s.pace := pace_of_quiet (quiet_mirrorSend ..)

@[simp] theorem pace_hostOut (s : State) (i : HostItem) : (s.hostOut i).pace = s.pace := pace_of_quiet (quiet_hostOut ..)

@[simp] theorem pace_writeRecord (s : State) (a : Nat) (r : EventRec) : (s.writeRecord a r).pace = s.pace := pace_of_quiet (quiet_writeRecord ..)

@[simp] theorem pace_setHeld (s : State) (a : Nat) (l : List EventRec) : (s.setHeld a l).pace = s.pace := pace_of_quiet (quiet_setHeld ..)

@[simp] theorem pace_appendRecord (s : State) (a : Nat) (mk : Nat → Nat → EventRec) : (s.appendRecord a mk).pace = s.pace := pace_of_quiet (quiet_appendRecord ..)

@[simp] theorem pace_postAt (s : State) (a type detail sub incident wpos : Nat) (stby : Bool) : (s.postAt a type detail sub incident wpos stby).pace = s.pace := pace_of_quiet (quiet_postAt ..)

@[simp] theorem pace_postW (s : State) (a type detail sub incident wpos : Nat) : (s.postW a type detail sub incident wpos).pace = s.pace := pace_of_quiet (quiet_postW ..)

@[simp] theorem pace_post (s : State) (a type detail sub incident : Nat) : (s.post a type detail sub incident).pace = s.pace := pace_of_quiet (quiet_post ..)

@[simp] theorem pace_setBlk (s : State) (b v : Nat) : (s.setBlk b v).pace = s.pace := pace_of_quiet (quiet_setBlk ..)

@[simp] theorem pace_setIncident (s : State) (b : Nat) (i : Incident) : (s.setIncident b i).pace = s.pace := pace_of_quiet (quiet_setIncident ..)

@[simp] theorem pace_newIncident (s : State) : s.newIncident.2.pace = s.pace := pace_of_quiet (quiet_newIncident ..)

@[simp] theorem pace_postFault (s : State) (b type detail : Nat) : (s.postFault b type detail).pace = s.pace := pace_of_quiet (quiet_postFault ..)

@[simp] theorem pace_openIncident (s : State) (b src : Nat) (given : Option Nat) : (s.openIncident b src given).pace = s.pace := pace_of_quiet (quiet_openIncident ..)

@[simp] theorem pace_raiseWith (s : State) (b src : Nat) (given : Option Nat) : (s.raiseWith b src given).pace = s.pace := pace_of_quiet (quiet_raiseWith ..)

@[simp] theorem pace_raise (s : State) (b src : Nat) : (s.raise b src).pace = s.pace := pace_of_quiet (quiet_raise ..)

@[simp] theorem pace_violDue (s : State) (iface : Nat) : (s.violDue iface).pace = s.pace := by
  unfold State.violDue
  dsimp only
  split <;> simp

@[simp] theorem pace_violsDue (s : State) : s.violsDue.pace = s.pace := by
  simp [State.violsDue]

@[simp] theorem pace_setStore (s : State) (x : Store) : (s.setStore x).pace = s.pace := by
  simp [State.setStore]

@[simp] theorem pace_setExtent (s : State) (i : Nat) (e : Extent) : (s.setExtent i e).pace = s.pace := by
  simp [State.setExtent]

@[simp] theorem pace_refsBy (s : State) (up : Bool) (l : List Nat) : (s.refsBy up l).pace = s.pace := by
  induction l generalizing s with
  | nil => simp [State.refsBy]
  | cons a l ih => simp [State.refsBy, ih]

@[simp] theorem pace_syncOutstand (s : State) : s.syncOutstand.pace = s.pace := by
  simp [State.syncOutstand]

@[simp] theorem pace_setNvme (s : State) (cid : Nat) (c : Option Nvme) : (s.setNvme cid c).pace = s.pace := by
  simp [State.setNvme]

@[simp] theorem pace_nvmeSend (s : State) (c0 : Nvme) : (s.nvmeSend c0).pace = s.pace := by
  simp [State.nvmeSend]

@[simp] theorem pace_offer (s : State) (c : Nvme) : (s.offer c).pace = s.pace := by
  simp [State.offer]

@[simp] theorem pace_pump (s : State) : s.pump.pace = s.pace := by
  simp [State.pump]

@[simp] theorem pace_dropTiles (s : State) (p : TileKey → Bool) (decodedToo : Bool) : (s.dropTiles p decodedToo).pace = s.pace := by
  simp [State.dropTiles]

@[simp] theorem pace_dropRefs (s : State) (k : Nat) : (s.dropRefs k).pace = s.pace := by
  simp [State.dropRefs]

@[simp] theorem pace_freeTiles (s : State) (k stn : Nat) : (s.freeTiles k stn).pace = s.pace := by
  simp [State.freeTiles]

@[simp] theorem pace_setPlant (s : State) (p : Plant) : (s.setPlant p).pace = s.pace := by
  simp [State.setPlant]

@[simp] theorem pace_setBrake (s : State) (a : Nat) (b : Brake) : (s.setBrake a b).pace = s.pace := by
  simp [State.setBrake]

@[simp] theorem pace_ilkEvent (s : State) (c : Nat) : (s.ilkEvent c).pace = s.pace := by
  simp [State.ilkEvent]

@[simp] theorem pace_setIlk (s : State) (c : Nat) (v : Option Nat) : (s.setIlk c v).pace = s.pace := by
  simp [State.setIlk]

@[simp] theorem pace_ilkCheck (s : State) (c : Nat) : (s.ilkCheck c).pace = s.pace := by
  unfold State.ilkCheck
  split <;> simp

@[simp] theorem pace_interlock (s : State) (n : Nat) : (s.interlock n).pace = s.pace := by
  induction n generalizing s with
  | zero => simp [State.interlock]
  | succ n ih => simp [State.interlock, ih]

@[simp] theorem pace_ilkCycle (s : State) (l : Tab (Option Nat)) : (s.ilkCycle l).pace = s.pace := by
  induction l generalizing s with
  | nil => simp [State.ilkCycle]
  | cons a l ih => simp [State.ilkCycle, ih]

@[simp] theorem pace_ilkTick (s : State) : s.ilkTick.pace = s.pace := by
  simp [State.ilkTick]

@[simp] theorem pace_brakeReport (s : State) (a : Nat) : (s.brakeReport a).pace = s.pace := by
  simp [State.brakeReport]

@[simp] theorem pace_brakeCompare (s : State) (a : Nat) : (s.brakeCompare a).pace = s.pace := by
  simp [State.brakeCompare]

@[simp] theorem pace_brakeTrip (s : State) (a : Nat) : (s.brakeTrip a).pace = s.pace := by
  simp [State.brakeTrip]

@[simp] theorem pace_brakeTick (s : State) (a : Nat) : (s.brakeTick a).pace = s.pace := by
  simp [State.brakeTick]

@[simp] theorem pace_setCmp (s : State) (n : Nat) (c : Cmp) : (s.setCmp n c).pace = s.pace := by
  simp [State.setCmp]

@[simp] theorem pace_setEsc (s : State) (e : Esc) : (s.setEsc e).pace = s.pace := by
  simp [State.setEsc]

@[simp] theorem pace_fixGeo (s : State) : s.fixGeo.pace = s.pace := by
  simp [State.fixGeo]

@[simp] theorem pace_setSlot (s : State) (k : Nat) (r : SlotRec) : (s.setSlot k r).pace = s.pace := by
  simp [State.setSlot]

@[simp] theorem pace_escSync (s : State) : s.escSync.pace = s.pace := by
  simp [State.escSync]

@[simp] theorem pace_escCount (s : State) (f : Field) : (s.escCount f).pace = s.pace := by
  simp [State.escCount]

@[simp] theorem pace_tevEscMask (s : State) : s.tevEscMask.pace = s.pace := by
  simp [State.tevEscMask]

@[simp] theorem pace_frameRecord (s : State) (type frame sub incident x : Nat) : (s.frameRecord type frame sub incident x).pace = s.pace := by
  simp [State.frameRecord]

@[simp] theorem pace_setMarks (s : State) (k : Nat) (m : Marks) : (s.setMarks k m).pace = s.pace := by
  simp [State.setMarks]

@[simp] theorem pace_voidRecord (s : State) (k : Nat) (r : SlotRec) (reason station incident : Nat) : (s.voidRecord k r reason station incident).pace = s.pace := by
  unfold State.voidRecord
  split <;> simp

@[simp] theorem pace_voidSlot (s : State) (k reason station incident : Nat) : (s.voidSlot k reason station incident).pace = s.pace := by
  simp [State.voidSlot]

@[simp] theorem pace_voidAll (s : State) (reason incident : Nat) (stn : Nat → SlotRec → Option Nat) (l : List (Nat × SlotRec)) : (s.voidAll reason incident stn l).pace = s.pace := by
  induction l generalizing s with
  | nil => simp [State.voidAll]
  | cons a l ih =>
    rw [State.voidAll]
    split <;> simp [ih]

@[simp] theorem pace_inhibitVoids (s : State) : s.inhibitVoids.pace = s.pace := by
  unfold State.inhibitVoids
  split <;> simp

@[simp] theorem pace_nextSlot (s : State) (k : Nat) : (s.nextSlot k).pace = s.pace := by
  simp [State.nextSlot]

@[simp] theorem pace_closeApply (s0 : State) (c : CloseRec) : (s0.closeApply c).pace = s0.pace := by
  simp [State.closeApply]

@[simp] theorem pace_endRun (s : State) : s.endRun.pace = s.pace := by
  simp [State.endRun]

@[simp] theorem pace_escrowClose (s : State) : s.escrowClose.pace = s.pace := by
  simp [State.escrowClose]

@[simp] theorem pace_closesDue (s : State) (n : Nat) : (s.closesDue n).pace = s.pace := by
  induction n generalizing s with
  | zero => simp [State.closesDue]
  | succ n ih => simp [State.closesDue, ih]

@[simp] theorem pace_eachPort (f : Nat → State → State) (l : List Nat) (s : State) (hf : ∀ x0 u, (f x0 u).pace = u.pace) : (eachPort f l s).pace = s.pace := by
  induction l generalizing s with
  | nil => rfl
  | cons n ns ih => rw [eachPort, ih, hf]

@[simp] theorem pace_setScan (s : State) (n : Nat) (c : Scan) : (s.setScan n c).pace = s.pace := by
  simp [State.setScan]

@[simp] theorem pace_mapScan (s : State) (n : Nat) (f : Scan → Scan) : (s.mapScan n f).pace = s.pace := by
  simp [State.mapScan]

@[simp] theorem pace_loopSuspend (s : State) (n : Nat) : (s.loopSuspend n).pace = s.pace := by
  simp [State.loopSuspend]

@[simp] theorem pace_loopSuspendAll (s : State) : s.loopSuspendAll.pace = s.pace := by
  simp [State.loopSuspendAll]

@[simp] theorem pace_loopResume (s : State) (n : Nat) : (s.loopResume n).pace = s.pace := by
  simp [State.loopResume]

@[simp] theorem pace_loopResumeAll (s : State) : s.loopResumeAll.pace = s.pace := by
  simp [State.loopResumeAll]

@[simp] theorem pace_gpwmDuty (s : State) (ls : Bool) (k duty : Nat) : (s.gpwmDuty ls k duty).2.pace = s.pace := by
  unfold State.gpwmDuty
  (repeat' split) <;> simp

@[simp] theorem pace_setHv (s : State) (h : Nat) (x : Hv) : (s.setHv h x).pace = s.pace := by
  simp [State.setHv]

@[simp] theorem pace_mapHv (s : State) (h : Nat) (f : Hv → Hv) : (s.mapHv h f).pace = s.pace := by
  simp [State.mapHv]

@[simp] theorem pace_hvTurnOff (s : State) (h : Nat) : (s.hvTurnOff h).pace = s.pace := by
  simp [State.hvTurnOff]

@[simp] theorem pace_setCal (s : State) (n : Nat) (c : Cal) : (s.setCal n c).pace = s.pace := by
  simp [State.setCal]

@[simp] theorem pace_calTrigger (s : State) (n : Nat) (host : Bool) : (s.calTrigger n host).pace = s.pace := by
  simp [State.calTrigger]

@[simp] theorem pace_calBusy (s : State) (n : Nat) (on : Bool) : (s.calBusy n on).pace = s.pace := by
  simp [State.calBusy]

@[simp] theorem pace_calNext (s : State) (n : Nat) : (s.calNext n).pace = s.pace := by
  simp [State.calNext]

@[simp] theorem pace_stepDie (s : State) : s.stepDie.pace = s.pace := by
  simp [State.stepDie]

@[simp] theorem pace_setAud (s : State) (i : Nat) (a : AudEnt) : (s.setAud i a).pace = s.pace := by
  simp [State.setAud]

@[simp] theorem pace_mapAud (s : State) (i : Nat) (f : AudEnt → AudEnt) : (s.mapAud i f).pace = s.pace := by
  simp [State.mapAud]

@[simp] theorem pace_setHead (s : State) (n : Nat) (h : Head) : (s.setHead n h).pace = s.pace := by
  simp [State.setHead]

@[simp] theorem pace_mapHead (s : State) (n : Nat) (f : Head → Head) : (s.mapHead n f).pace = s.pace := by
  simp [State.mapHead]

@[simp] theorem pace_setTherm (s : State) (m : Nat) (x : Therm) : (s.setTherm m x).pace = s.pace := by
  simp [State.setTherm]

@[simp] theorem pace_mapTherm (s : State) (m : Nat) (f : Therm → Therm) : (s.mapTherm m f).pace = s.pace := by
  simp [State.mapTherm]

@[simp] theorem pace_hvLift (s : State) : s.hvLift.pace = s.pace := by
  simp [State.hvLift]

@[simp] theorem pace_retire (s : State) : s.retire.pace = s.pace := by
  simp [State.retire]

@[simp] theorem pace_relinquish (s : State) : s.relinquish.pace = s.pace := by
  simp [State.relinquish]

@[simp] theorem pace_driveOnline (s : State) (d : Nat) : (s.driveOnline d).pace = s.pace := by
  simp [State.driveOnline]

@[simp] theorem pace_setPos (s : State) (p : Posn) : (s.setPos p).pace = s.pace := by
  simp [State.setPos]

@[simp] theorem pace_syncInhibit (s : State) : s.syncInhibit.pace = s.pace := by
  simp [State.syncInhibit]

@[simp] theorem pace_setHwm (s : State) (w : Nat) : (s.setHwm w).pace = s.pace := by
  simp [State.setHwm]

@[simp] theorem pace_inhibitRange (s : State) : s.inhibitRange.pace = s.pace := by
  simp [State.inhibitRange]

@[simp] theorem pace_reverseStep (s : State) (raw : Int) : (s.reverseStep raw).pace = s.pace := by
  simp [State.reverseStep]

@[simp] theorem pace_reverseRelease (s : State) : s.reverseRelease.pace = s.pace := by
  simp [State.reverseRelease]

@[simp] theorem pace_inhibitHere (s : State) : s.inhibitHere.pace = s.pace := by
  simp [State.inhibitHere]

@[simp] theorem pace_managerPublish (s : State) : s.managerPublish.pace = s.pace := by
  simp [State.managerPublish]

@[simp] theorem pace_checkCopy (s : State) (dir : Nat) (b : Beacon) (at2 : Nat) : (s.checkCopy dir b at2).pace = s.pace := by
  unfold State.checkCopy
  split <;> simp

@[simp] theorem pace_standbyOffset (s : State) : s.standbyOffset.pace = s.pace := by
  unfold State.standbyOffset
  dsimp only
  split
  · split
    · exact (pace_raise ..).trans (pace_setPos ..)
    · exact pace_setPos ..
  · rfl

@[simp] theorem pace_takeBeacon (s : State) (dir : Nat) (b : Beacon) (at1 : Nat) : (s.takeBeacon dir b at1).pace = s.pace := by
  simp [State.takeBeacon]

@[simp] theorem pace_takeCopy (s : State) (dir : Nat) (b : Beacon) (at1 : Nat) : (s.takeCopy dir b at1).pace = s.pace := by
  simp [State.takeCopy]

@[simp] theorem pace_takeHeld (s : State) : s.takeHeld.pace = s.pace := by
  unfold State.takeHeld
  split <;> simp

@[simp] theorem pace_extrapolate (s : State) : s.extrapolate.pace = s.pace := by
  simp [State.extrapolate]

@[simp] theorem pace_publishEst (s : State) : s.publishEst.pace = s.pace := by
  simp [State.publishEst]

@[simp] theorem pace_estimatorStep (s : State) : s.estimatorStep.pace = s.pace := by
  simp [State.estimatorStep]

@[simp] theorem pace_standbyCount (s : State) : s.standbyCount.pace = s.pace := by
  simp [State.standbyCount]

@[simp] theorem pace_posTick (s : State) : s.posTick.pace = s.pace := by
  simp [State.posTick]

@[simp] theorem pace_liftPorts (s : State) (f : Nat → State → State) (n : Nat) (hf : ∀ x0 u, (f x0 u).pace = u.pace) : (s.liftPorts f n).pace = s.pace := by
  induction n generalizing s with
  | zero => rfl
  | succ n ih => rw [State.liftPorts, hf, ih]

@[simp] theorem pace_lift (s : State) (b : Nat) : (s.lift b).pace = s.pace := by
  unfold State.lift
  split <;> simp

@[simp] theorem pace_audWho (s : State) (i : Nat) (who : Option Nat) : (s.audWho i who).pace = s.pace := by
  unfold State.audWho
  split <;> simp

@[simp] theorem pace_audAt (s : State) (x : Option Nat) : (s.audAt x).2.2.pace = s.pace := by
  unfold State.audAt
  split <;> simp

@[simp] theorem pace_driveTurn (s : State) (code from_ upto : Nat) : (s.driveTurn code from_ upto).pace = s.pace := by
  unfold State.driveTurn
  split <;> simp

@[simp] theorem pace_audSet (s : State) (i st pos : Nat) : (s.audSet i st pos).pace = s.pace := by
  simp [State.audSet]

@[simp] theorem pace_audRun (s : State) (i : Nat) : (s.audRun i).pace = s.pace := by
  unfold State.audRun
  dsimp only
  split <;> simp

@[simp] theorem pace_audWait (s : State) (i : Nat) (line : Option Nat) : (s.audWait i line).2.pace = s.pace := by
  simp [State.audWait]

@[simp] theorem pace_audRequest (s : State) (code : Nat) (who : Option Nat) (incident : Nat) : (s.audRequest code who incident).2.2.pace = s.pace := by
  unfold State.audRequest
  (repeat' split) <;> simp

@[simp] theorem pace_syncDefer (s : State) (b : Nat) : (s.syncDefer b).pace = s.pace := by
  simp [State.syncDefer]

@[simp] theorem pace_lastingHandOver (s : State) (b : Nat) : (s.lastingHandOver b).pace = s.pace := by
  simp [State.lastingHandOver]

@[simp] theorem pace_auditFailed (s : State) (b : Nat) : (s.auditFailed b).pace = s.pace := by
  simp [State.auditFailed]

@[simp] theorem pace_closeIncident (s : State) (b : Nat) : (s.closeIncident b).pace = s.pace := by
  simp [State.closeIncident]

@[simp] theorem pace_auditsPassed (s : State) (b : Nat) : (s.auditsPassed b).pace = s.pace := by
  simp [State.auditsPassed]

@[simp] theorem pace_wantSwap (s : State) (b : Nat) (w : Want) (new : List Want) : (s.wantSwap b w new).pace = s.pace := by
  simp [State.wantSwap]

@[simp] theorem pace_wantStep (s : State) (b : Nat) (w : Want) : (s.wantStep b w).pace = s.pace := by
  unfold State.wantStep
  dsimp only
  (repeat' split) <;> simp

@[simp] theorem pace_wants (s : State) (b : Nat) : (s.wants b).pace = s.pace := by
  simp [State.wants]

@[simp] theorem pace_blockTurn (s : State) (b : Nat) : (s.blockTurn b).pace = s.pace := by
  simp [State.blockTurn]

@[simp] theorem pace_faultTurn (s : State) (n : Nat) : (s.faultTurn n).pace = s.pace := by
  induction n generalizing s with
  | zero => simp [State.faultTurn]
  | succ n ih => simp [State.faultTurn, ih]

@[simp] theorem pace_auditAnswer (s : State) (code : Nat) (pass : Bool) (n : Nat) : (s.auditAnswer code pass n).pace = s.pace := by
  induction n generalizing s with
  | zero => simp [State.auditAnswer]
  | succ n ih => simp [State.auditAnswer, ih]

@[simp] theorem pace_showSlot (s : State) (n k phase : Nat) : (s.showSlot n k phase).pace = s.pace := by
  simp [State.showSlot]

@[simp] theorem pace_showNone (s : State) (n phase : Nat) : (s.showNone n phase).pace = s.pace := by
  simp [State.showNone]

@[simp] theorem pace_showAfter (s : State) (n : Nat) : (s.showAfter n).pace = s.pace := by
  unfold State.showAfter
  split <;> simp

@[simp] theorem pace_slotLeave (s : State) (k : Nat) : (s.slotLeave k).pace = s.pace := by
  simp [State.slotLeave]

@[simp] theorem pace_windowEnd (s : State) (k stn : Nat) : (s.windowEnd k stn).pace = s.pace := by
  simp [State.windowEnd]

@[simp] theorem pace_slotDue (s : State) (k : Nat) (l : List Nat) : (s.slotDue k l).pace = s.pace := by
  induction l generalizing s with
  | nil => simp [State.slotDue]
  | cons a l ih => simp [State.slotDue, ih]

@[simp] theorem pace_windowsDue (s : State) : s.windowsDue.pace = s.pace := by
  simp [State.windowsDue]

@[simp] theorem pace_setMirror (s : State) (m : Mirror) : (s.setMirror m).pace = s.pace := pace_of_quiet (quiet_setMirror ..)

@[simp] theorem pace_audTurn (s : State) (n : Nat) : (s.audTurn n).pace = s.pace := by
  induction n generalizing s with
  | zero => simp [State.audTurn]
  | succ n ih => simp [State.audTurn, ih]

@[simp] theorem pace_calAbandon (s : State) (n : Nat) : (s.calAbandon n).pace = s.pace := by
  simp [State.calAbandon]

@[simp] theorem pace_calTurn (s : State) (n : Nat) : (s.calTurn n).pace = s.pace := by
  induction n generalizing s with
  | zero => simp [State.calTurn]
  | succ n ih => simp [State.calTurn, ih]

@[simp] theorem pace_tkSync (s : State) : s.tkSync.pace = s.pace := by
  simp [State.tkSync]

@[simp] theorem pace_mirrorAsk (s : State) (first last : Nat) : (s.mirrorAsk first last).pace = s.pace := by
  simp [State.mirrorAsk]

@[simp] theorem pace_snapshotAsk (s : State) : s.snapshotAsk.pace = s.pace := by
  simp [State.snapshotAsk]

@[simp] theorem pace_timerFire (s : State) (n : Nat) : (s.timerFire n).pace = s.pace := by
  simp [State.timerFire]

@[simp] theorem pace_fireDue (s : State) (n : Nat) : (s.fireDue n).pace = s.pace := by
  induction n generalizing s with
  | zero => simp [State.fireDue]
  | succ n ih =>
    rw [State.fireDue]
    split <;> simp [ih]

@[simp] theorem pace_nextSecond (s : State) (ns : Nat) : (s.nextSecond ns).pace = s.pace := by
  simp [State.nextSecond]

@[simp] theorem pace_ptpSend (s : State) (type flags seq : Nat) (body : List Byte) : (s.ptpSend type flags seq body).pace = s.pace := by
  simp [State.ptpSend]

@[simp] theorem pace_ptpNumber (s : State) : s.ptpNumber.2.pace = s.pace := by
  simp [State.ptpNumber]

@[simp] theorem pace_ptpMasterSecond (s : State) : s.ptpMasterSecond.pace = s.pace := by
  simp [State.ptpMasterSecond]

@[simp] theorem pace_ptpTick (s : State) : s.ptpTick.pace = s.pace := by
  simp [State.ptpTick]

@[simp] theorem pace_configSend (s : State) (ps : List (Nat × Nat)) (n : Nat) : (s.configSend ps n).pace = s.pace := by
  induction n generalizing s ps with
  | zero => rfl
  | succ n ih =>
    rw [State.configSend]
    split
    · rfl
    · rw [ih, pace_ringBoth]

@[simp] theorem pace_escShare (s : State) : s.escShare.pace = s.pace := by
  unfold State.escShare
  (repeat' split) <;> simp

@[simp] theorem pace_uncrossed (s : State) : s.uncrossed.pace = s.pace := by
  simp [State.uncrossed]

@[simp] theorem pace_milliTick (s : State) : s.milliTick.pace = s.pace := by
  simp [State.milliTick]

@[simp] theorem pace_standbyTick (s : State) : s.standbyTick.pace = s.pace := by
  simp [State.standbyTick]

@[simp] theorem pace_helloTick (s : State) : s.helloTick.pace = s.pace := by
  simp [State.helloTick]

theorem pace_timeTick (s : State) : s.timeTick.pace = { s.pace with cycles := s.time.cycles + 1 } := by
  have hfire : (s.fireDue 8).pace = s.pace := pace_fireDue ..
  have hcycles : (s.fireDue 8).time.cycles = s.time.cycles := congrArg Pace.cycles hfire
  have htick : ({ s.fireDue 8 with time := (s.fireDue 8).time.tick } : State).pace = { s.pace with cycles := s.time.cycles + 1 } := by
    rw [← hfire, ← hcycles]
    rfl
  rw [State.timeTick]
  dsimp only
  split
  · exact htick
  · exact (pace_nextSecond ..).trans htick

/-! Waiting tellers (R60). -/

theorem cycles_of_pace {s u : State} (h : u.pace = s.pace) : u.time.cycles = s.time.cycles := congrArg Pace.cycles h

theorem cyc_of_pace {s u : State} (h : u.pace.tellers = s.pace.tellers) (t : Nat) :
    (u.teller t).cyc = (s.teller t).cyc ∧ (u.teller t).st = (s.teller t).st := by
  have ht : (u.teller t).sansTev = (s.teller t).sansTev := congrFun h t
  exact ⟨(congrArg Teller.cyc ht : (u.teller t).sansTev.cyc = (s.teller t).sansTev.cyc),
    (congrArg Teller.st ht : (u.teller t).sansTev.st = (s.teller t).sansTev.st)⟩

/-- CYC of each waiting teller counts the cycle, and no other teller's. -/
theorem waitCycles_spec : ∀ (n : Nat) (s : State), (s.waitCycles n).time = s.time ∧ ∀ u,
    ((s.waitCycles n).teller u).cyc = (s.teller u).cyc + (if u < n ∧ (s.teller u).st = .waiting then 1 else 0)
  | 0, s => ⟨rfl, fun u => by simp [State.waitCycles]⟩
  | n + 1, s => by
    obtain ⟨v, hv⟩ : ∃ v, v = if (s.teller n).st = .waiting then s.setTeller n { s.teller n with cyc := (s.teller n).cyc + 1 }
      else s := ⟨_, rfl⟩
    have hwait : s.waitCycles (n + 1) = v.waitCycles n := by rw [hv]; rfl
    obtain ⟨htime, hcyc⟩ := waitCycles_spec n v
    have hvtime : v.time = s.time := by rw [hv]; split <;> rfl
    have hother (u : Nat) (hu : u ≠ n) : v.teller u = s.teller u := by
      rw [hv]
      split
      · exact teller_setTeller_ne s _ hu
      · rfl
    have hown : (v.teller n).cyc = (s.teller n).cyc + (if (s.teller n).st = .waiting then 1 else 0) := by
      rw [hv]
      split
      · rw [teller_setTeller_same]
      · simp
    rw [hwait]
    refine ⟨htime.trans hvtime, fun u => ?_⟩
    rw [hcyc]
    by_cases hu : u = n
    · subst hu
      simp [hown]
    · rw [hother u hu]
      simp only [show u < n + 1 ↔ u < n by omega]

theorem drainStream_slow {s : State} (h : ∀ a rest, s.stream = a :: rest → a.slow = true) : s.drainStream = s := by
  rw [State.drainStream]
  cases hs : s.stream with
  | nil => rfl
  | cons a rest =>
    rw [List.length_cons, State.drain, hs]
    exact if_pos (.inl (h a rest hs))

theorem stream_uncrossed (s : State) : s.uncrossed.stream = s.stream := by
  have hfold : ∀ (l : List Nat) (u : State),
      (l.foldl (fun s n => s.setCmp n { s.cmp n with fresh := false }) u).stream = u.stream := by
    intro l
    induction l with
    | nil => exact fun _ => rfl
    | cons n l ih => exact fun u => ih _
  exact hfold _ s

/-- The tick of a node that is on: before the waiting tellers count, and after. -/
theorem clock_eq {s : State} (hoff : s.isOff = false) (h : ∀ a rest, s.stream = a :: rest → a.slow = true) :
    ∃ u : State, u.pace = { s.pace with cycles := s.time.cycles + 1 } ∧ s.clock.pace = (u.waitCycles 16).pace := by
  obtain ⟨v, hv⟩ : ∃ v, v = ({ s.uncrossed with wrrNow := [] } : State) := ⟨_, rfl⟩
  have hpace : v.pace = s.pace := by rw [hv]; exact pace_uncrossed s
  have hstream : v.stream = s.stream := by rw [hv]; exact stream_uncrossed s
  refine ⟨(v.timeTick.ilkTick.brakeTick 0).brakeTick 1, ?_, ?_⟩
  · rw [pace_brakeTick, pace_brakeTick, pace_ilkTick, pace_timeTick, hpace, show v.time.cycles = s.time.cycles from congrArg Pace.cycles hpace]
  · rw [State.clock, if_neg (by simp [hoff]), ← hv, drainStream_slow (by rw [hstream]; exact h)]
    simp

/-- Settles O2: of the tick only the count of the waiting tellers writes CYC, where no action of the stream is due. -/
theorem emptyQueuePassesTime : Obligations.EmptyQueuePassesTime := by
  intro s hp
  refine ⟨fun ho => ?_, ⟨_, step_nil s hp⟩, fun ho h => ⟨_, step_nil s hp, ?_, fun t ht => ?_⟩⟩
  · rw [step_nil s hp, State.clock, if_pos ho]
  all_goals obtain ⟨u, hu, hclock⟩ := clock_eq ho h
  all_goals obtain ⟨htime, hcyc⟩ := waitCycles_spec 16 u
  · rw [cycles_of_pace hclock, htime]
    exact congrArg Pace.cycles hu
  · have htellers : u.pace.tellers = s.pace.tellers := by rw [hu]
    obtain ⟨h1, h2⟩ := cyc_of_pace htellers t
    rw [(cyc_of_pace (congrArg Pace.tellers hclock) t).1, hcyc, h1, h2]
    simp [ht]

end Sys2Proof.Machine

namespace Sys2Proof.Machine

/-! Shadowed operations: where they run, where they wait, and what a mirror record completes (R78, R116, R320). -/

section Shadow

variable {s : State} {t : Nat}

/-- The number of the teller's next shadowed operation. -/
def Teller.nextInst (x : Teller) : Nat := (x.inst + 1) % 2 ^ 32

theorem shadowOp_waits (sub rd rs rt : Nat) (live : State → State) (hsb : s.isStandby = true)
    (hops : ∀ r, r ∈ (s.teller t).doneOps → r.inst ≠ (s.teller t).nextInst) :
    s.shadowOp t sub rd rs rt live =
      s.mapTeller t fun x => { x with st := .waiting, wait := .shadow sub rd rs rt (s.teller t).nextInst } := by
  have hf : ((s.teller t).doneOps.find? fun r => r.inst = ((s.teller t).inst + 1) % 2 ^ 32) = none := by
    rw [List.find?_eq_none]
    intro r hr
    exact fun h => hops r hr (of_decide_eq_true h)
  rw [State.shadowOp, hf, hsb]
  rfl

theorem shadowOp_known (sub rd rs rt : Nat) (live : State → State) {r : MirRec}
    (hr : ((s.teller t).doneOps.find? fun r => r.inst = (s.teller t).nextInst) = some r) :
    s.shadowOp t sub rd rs rt live = s.shadowFinish t sub rd rs rt r := by
  have hr' : ((s.teller t).doneOps.find? fun r => r.inst = ((s.teller t).inst + 1) % 2 ^ 32) = some r := hr
  rw [State.shadowOp, hr']

/-! What the completion does. -/

/-- The bytes a record of a teller's operation carries. -/
def carried (r : MirRec) : List Byte :=
  match r.data with
  | .tellerOp bs => bs
  | _ => []

/-- The node in which the record takes effect: its teller runs again, its own count at the record's. -/
def State.resumed (s : State) (t : Nat) (r : MirRec) : State :=
  s.mapTeller t fun x =>
    { x with st := .running, wait := .none, inst := r.inst, doneOps := x.doneOps.filter fun q => ¬ q.inst = r.inst }

/-- The operands of the instruction that the record completes. -/
def State.operands (s : State) (t sub rs rt : Nat) : ShadowOp :=
  s.shadowOperands t sub ((s.teller t).getG rs).toNat ((s.teller t).getG rt).toNat

theorem shadowFinish_eq (sub rd rs rt : Nat) (r : MirRec) : s.shadowFinish t sub rd rs rt r =
    ((((s.resumed t r).todoKnow r (s.operands t sub rs rt)).shadowData (s.operands t sub rs rt) r.status (carried r)).answer t rd
      r.status (shadowCycles sub)) := rfl

theorem shadowData_of_rest {α : Type} (f : State → α) (hf : ∀ (s : State) (m : Memory) (e : Tab Nat), f { s with dm := m, dmErr := e } = f s)
    (s : State) (op : ShadowOp) (st : Nat) (data : List Byte) : f (s.shadowData op st data) = f s := by
  have put (a : Nat) (bs : List Byte) : f (s.dmPut a bs) = f s :=
    (dmFresh_of_rest f (fun u e => hf u u.dm e) _ _ _).trans (hf s _ s.dmErr)
  unfold State.shadowData
  split
  · rfl
  · split
    · exact put ..
    · split
      · exact put ..
      · rfl

theorem seen_shadowData (s : State) (op : ShadowOp) (st : Nat) (data : List Byte) :
    ((s.shadowData op st data).seen).tellers = s.seen.tellers :=
  shadowData_of_rest (fun u => u.seen.tellers) (fun _ _ _ => rfl) s op st data

/-- The teller that a record completes, before it is answered, as every other teller, signals aside. -/
theorem teller_completed (sub rs rt : Nat) (r : MirRec) (u : Nat) :
    ((((s.resumed t r).todoKnow r (s.operands t sub rs rt)).shadowData (s.operands t sub rs rt) r.status (carried r)).teller u).sansSignals =
      ((s.resumed t r).teller u).sansSignals := by
  have h1 := seen_shadowData ((s.resumed t r).todoKnow r (s.operands t sub rs rt)) (s.operands t sub rs rt) r.status (carried r)
  have h2 : ((s.resumed t r).todoKnow r (s.operands t sub rs rt)).seen = (s.resumed t r).seen := seen_todoKnow ..
  exact (congrFun h1 u).trans (congrFun (congrArg Seen.tellers h2) u)

/-- An answer's teller: what it has otherwise is as before. -/
theorem teller_answered (s : State) (t rd st c : Nat) : let x := (s.answer t rd st c).teller t
    x.inst = (s.teller t).inst ∧ x.st = (s.teller t).st ∧ x.wait = (s.teller t).wait ∧ x.pc = (s.teller t).pc + 4 ∧
    x.cyc = (s.teller t).cyc + BitVec.ofNat 32 c ∧ (rd ≠ 0 → x.getG rd = BitVec.ofNat 32 st) := by
  obtain ⟨hg, hpc⟩ := teller_answer s t rd st c
  have hsame : ((s.answer t rd st c).teller t) = ((s.teller t).setG rd (BitVec.ofNat 32 st)).adv c := by
    rw [State.answer, teller_mapTeller_same]
  refine ⟨?_, ?_, ?_, hpc, ?_, hg⟩
  all_goals rw [hsame, Teller.adv, Teller.setG]; split <;> rfl

/-- The teller that a record completes: counted, running, answered. -/
theorem shadowFinish_teller (sub rd rs rt : Nat) (r : MirRec) : let x := (s.shadowFinish t sub rd rs rt r).teller t
    x.inst = r.inst ∧ x.st = .running ∧ x.wait = .none ∧ x.pc = (s.teller t).pc + 4 ∧
    x.cyc = (s.teller t).cyc + BitVec.ofNat 32 (shadowCycles sub) ∧ (rd ≠ 0 → x.getG rd = BitVec.ofNat 32 r.status) := by
  obtain ⟨v, hv⟩ : ∃ v, v = ((s.resumed t r).todoKnow r (s.operands t sub rs rt)).shadowData (s.operands t sub rs rt) r.status (carried r) := ⟨_, rfl⟩
  have hsame : (v.teller t).sansSignals = ((s.resumed t r).teller t).sansSignals := hv ▸ teller_completed sub rs rt r t
  have hres : (s.resumed t r).teller t = { s.teller t with st := .running, wait := .none, inst := r.inst, doneOps := (s.teller t).doneOps.filter fun q => ¬ q.inst = r.inst } := teller_mapTeller_same ..
  rw [hres] at hsame
  obtain ⟨h1, h2, h3, h4, h5, h6⟩ := teller_answered v t rd r.status (shadowCycles sub)
  have hfin : s.shadowFinish t sub rd rs rt r = v.answer t rd r.status (shadowCycles sub) := by rw [shadowFinish_eq, hv]
  have hinst : (v.teller t).inst = r.inst := (congrArg Teller.inst hsame :)
  have hst : (v.teller t).st = .running := (congrArg Teller.st hsame :)
  have hwait : (v.teller t).wait = .none := (congrArg Teller.wait hsame :)
  have hpc : (v.teller t).pc = (s.teller t).pc := (congrArg Teller.pc hsame :)
  have hcyc : (v.teller t).cyc = (s.teller t).cyc := (congrArg Teller.cyc hsame :)
  rw [hfin]
  exact ⟨h1.trans hinst, h2.trans hst, h3.trans hwait, by rw [h4, hpc], by rw [h5, hcyc], h6⟩

/-- What a shadowed instruction does, by where it runs and whether its record has come. -/
theorem shadowed_cases {c : Instr} {sub rd rs rt cycles : Nat} {live : State → State}
    (hc : exec c s = .next (s.shadowOp t sub rd rs rt live)) (hcyc : shadowCycles sub = cycles) :
    (s.isStandby = false → (∀ r, r ∈ (s.teller t).doneOps → r.inst ≠ (s.teller t).nextInst) → exec c s = .next (live s)) ∧
    (s.isStandby = true → (∀ r, r ∈ (s.teller t).doneOps → r.inst ≠ (s.teller t).nextInst) → exec c s = .next (s.mapTeller t fun q =>
      { q with st := .waiting, wait := .shadow sub rd rs rt (s.teller t).nextInst })) ∧
    (∀ r, (s.teller t).doneOps.find? (fun r => r.inst = (s.teller t).nextInst) = some r → ∃ s',
      exec c s = .next s' ∧ s' = s.shadowFinish t sub rd rs rt r ∧ (s'.teller t).inst = (s.teller t).nextInst ∧
      (s'.teller t).st = .running ∧ (s'.teller t).wait = .none ∧ (s'.teller t).pc = (s.teller t).pc + 4 ∧
      (s'.teller t).cyc = (s.teller t).cyc + BitVec.ofNat 32 cycles ∧
      (rd ≠ 0 → (s'.teller t).getG rd = BitVec.ofNat 32 r.status)) := by
  refine ⟨fun hsb hops => hc.trans (congrArg _ (shadowOp_live sub rd rs rt live hsb hops)),
    fun hsb hops => hc.trans (congrArg _ (shadowOp_waits sub rd rs rt live hsb hops)), fun r hr => ?_⟩
  have hinst : r.inst = (s.teller t).nextInst := by simpa using List.find?_some hr
  obtain ⟨h1, h2, h3, h4, h5, h6⟩ := shadowFinish_teller (s := s) (t := t) sub rd rs rt r
  exact ⟨_, hc.trans (congrArg _ (shadowOp_known sub rd rs rt live hr)), rfl, h1.trans hinst, h2, h3, h4, hcyc ▸ h5, h6⟩

/-! Where the data of a record lands. -/

theorem dm_shadowFinish (sub rd rs rt : Nat) (r : MirRec) :
    (s.shadowFinish t sub rd rs rt r).dm = (((s.resumed t r).todoKnow r (s.operands t sub rs rt)).shadowData
      (s.operands t sub rs rt) r.status (carried r)).dm := rfl

theorem take68_of_length {data : List Byte} (hlen : data.length = 68) : take68 data = data := by
  have hbody : body64 data = data.take 64 := by
    rw [body64, List.take_append_of_le_length (by omega)]
  have hdrop : (data.drop 64).length = 4 := by rw [List.length_drop, hlen]
  have hhandle : (data.drop 64 ++ List.replicate 4 0).take 4 = data.drop 64 := by
    rw [List.take_append_of_le_length (by omega), List.take_of_length_le (by omega)]
  rw [take68, hbody, hhandle, List.take_append_drop]

/-- The 68 bytes of a message or an order with its number, at `gt`. -/
theorem dm_shadowData_body (u : State) {op : ShadowOp} {st : Nat} {data : List Byte} (hsub : op.sub = 0x0C ∨ op.sub = 0x11)
    (hdone : shadowDone st = true) (hlen : data.length = 68) : memBytes (u.shadowData op st data).dm op.gt 68 = data := by
  rw [State.shadowData, if_neg (not_not.mpr hdone), if_pos hsub, dmPut_dm, take68_of_length hlen, ← hlen]
  exact memBytes_memPut ..

theorem answer_bytes {data : List Byte} (hlen : data.length = 8) : (data ++ List.replicate 8 0).take 8 = data := by
  rw [List.take_append_of_le_length (by omega), List.take_of_length_le (by omega)]

/-- The answer of an own ledger, behind the order's words. -/
theorem dm_shadowData_answer (u : State) {op : ShadowOp} {st : Nat} {data : List Byte} (hsub : op.sub = 0x20)
    (hgs : op.gs % 4096 = 0x58D) (hdone : shadowDone st = true) (hlen : data.length = 8) :
    memBytes (u.shadowData op st data).dm (op.gt + 72) 8 = data := by
  have hne : data ≠ [] := fun h => by simp [h] at hlen
  rw [State.shadowData, if_neg (not_not.mpr hdone), if_neg (by omega), if_pos ⟨hsub, hgs, hne⟩, dmPut_dm, answer_bytes hlen]
  have hput := memBytes_memPut data u.dm (op.gt + 72)
  rwa [hlen] at hput

/-- The data of a record of this teller's next operation. -/
theorem carried_tellerOp {r : MirRec} {data : List Byte} (h : r.data = .tellerOp data) : carried r = data := by
  rw [carried, h]

/-! A record that has its turn on the Standby (R320). -/

/-- The effect of the one record that waits, once its instruction is reached. -/
theorem todoKnow_turn {r : MirRec} {data : List Byte} (op : ShadowOp) (hdata : r.data = .tellerOp data) (hsb : s.isStandby = true)
    (htodo : s.mirror.todo = [⟨r, none⟩]) :
    s.todoKnow r op = (s.setTodo []).shadowEffect r.teller op r.status data := by
  have hmap : (s.setTodo (s.mirror.todo.map fun e => if e.r = r then { e with op := some op } else e)).mirror.todo = [⟨r, some op⟩] := by
    rw [htodo]
    simp [State.setTodo]
  obtain ⟨v, hv⟩ : ∃ v, v = s.setTodo (s.mirror.todo.map fun e => if e.r = r then { e with op := some op } else e) := ⟨_, rfl⟩
  rw [← hv] at hmap
  have hready : v.todoReady ⟨r, some op⟩ = true := by rw [State.todoReady, hdata]; rfl
  have hset : v.setTodo [] = s.setTodo [] := by rw [hv]; rfl
  rw [State.todoKnow, if_pos hsb, ← hv, htodo, List.length_singleton, State.runTodo, hmap]
  dsimp only
  rw [if_pos hready, State.runTodo, hset, State.todoApply, hdata]

/-- What the Standby's own part of a record leaves, data memory and the tellers aside, is the record's effect. -/
theorem shadowFinish_turn {α : Type} (f : State → α) (hm : ∀ (u : State) (m : Memory) (e : Tab Nat), f { u with dm := m, dmErr := e } = f u)
    (ht : ∀ (u : State) (k : Nat) (x : Teller), f (u.setTeller k x) = f u) {sub rd rs rt : Nat} {r : MirRec} {data : List Byte}
    (hteller : r.teller = t) (hstatus : r.status = 0) (hdata : r.data = .tellerOp data) (hsb : s.isStandby = true)
    (htodo : s.mirror.todo = [⟨r, none⟩]) : f (s.shadowFinish t sub rd rs rt r) =
      f (((s.resumed t r).setTodo []).shadowEffect t (s.operands t sub rs rt) 0 data) := by
  rw [shadowFinish_eq, State.answer, State.mapTeller, ht, shadowData_of_rest f hm,
    todoKnow_turn (s := s.resumed t r) _ hdata hsb htodo, hteller, hstatus]

/-! The effect of an operation whose record is of status 0. -/

theorem shadowEffect_done (u : State) (op : ShadowOp) (data : List Byte) : u.shadowEffect t op 0 data =
    if op.sub = 0x0B then { u with claims := tabSet 0 u.claims op.gs (t + 1) }
    else if op.sub = 0x10 then u.commitMirrored (Desc.ofBytes op.body) false
    else if op.sub = 0x11 then
      match u.order (ofLe ((take68 data).drop 64)) with
      | some o => u.takeDo t (ofLe ((take68 data).drop 64)) o
      | none => u
    else if op.sub = 0x12 then u.settleMirrored t op.gs op.gt
    else if op.sub = 0x20 ∧ op.gs % 4096 = epLedger ∧ data ≠ [] then
      u.submitMirrored (ofLe (((data ++ List.replicate 8 0).take 8).take 4)) (ofLe (((data ++ List.replicate 8 0).take 8).drop 4))
        op.acct op.word op.pred op.body
    else u := rfl

theorem shadowEffect_claim (u : State) {op : ShadowOp} (h : op.sub = 0x0B) (data : List Byte) :
    u.shadowEffect t op 0 data = { u with claims := tabSet 0 u.claims op.gs (t + 1) } :=
  (shadowEffect_done u op data).trans (if_pos h)

theorem shadowEffect_commit (u : State) {op : ShadowOp} (h : op.sub = 0x10) (data : List Byte) :
    u.shadowEffect t op 0 data = u.commitMirrored (Desc.ofBytes op.body) false :=
  (shadowEffect_done u op _).trans ((if_neg (by omega)).trans (if_pos h))

theorem shadowEffect_take (u : State) {op : ShadowOp} (h : op.sub = 0x11) {data : List Byte} {o : Order}
    (ho : u.order (ofLe ((take68 data).drop 64)) = some o) :
    u.shadowEffect t op 0 data = u.takeDo t (ofLe ((take68 data).drop 64)) o := by
  refine (shadowEffect_done u op _).trans ((if_neg (by omega)).trans ((if_neg (by omega)).trans ((if_pos h).trans ?_)))
  rw [ho]

theorem shadowEffect_settle (u : State) {op : ShadowOp} (h : op.sub = 0x12) (data : List Byte) :
    u.shadowEffect t op 0 data = u.settleMirrored t op.gs op.gt :=
  (shadowEffect_done u op _).trans ((if_neg (by omega)).trans ((if_neg (by omega)).trans ((if_neg (by omega)).trans (if_pos h))))

theorem shadowEffect_mbpost (u : State) {op : ShadowOp} (h : op.sub = 0x20) (hgs : op.gs % 4096 = 0x58D) {data : List Byte}
    (hlen : data.length = 8) : u.shadowEffect t op 0 data =
      u.submitMirrored (ofLe (data.take 4)) (ofLe (data.drop 4)) op.acct op.word op.pred op.body := by
  have hne : data ≠ [] := fun h => by simp [h] at hlen
  refine (shadowEffect_done u op _).trans ((if_neg (by omega)).trans ((if_neg (by omega)).trans ((if_neg (by omega)).trans
    ((if_neg (by omega)).trans ((if_pos ⟨h, hgs, hne⟩).trans ?_)))))
  rw [answer_bytes hlen]

end Shadow

/-! The instructions. -/

theorem own_mod {gs n : Nat} (h : gs < 2 ^ 17 ∧ gs = n * 4096 + 0x58D) : gs % 4096 = 0x58D := by omega

theorem dataTrap_none {a align len : Nat} (h1 : a % align = 0) (h2 : a + len ≤ dmSize) : dataTrap a align len = none := by
  rw [dataTrap, if_neg (not_not.mpr h1), if_neg (by omega)]

theorem dataTrap_of_clean {s : State} {a align len : Nat} (h : s.clean a align len = true) : dataTrap a align len = none := by
  simp only [State.clean, Bool.and_eq_true, decide_eq_true_eq] at h
  exact dataTrap_none h.1.1 h.1.2


section

variable {s : State} {t : Nat} (h : s.runs t = true) (hs : s.settled t = true)
include h hs

theorem execClaim_shadow (rd rs : Nat) : exec (.claim t rd rs) s =
    .next (s.shadowOp t 0x0B rd rs 0 fun s => s.claimLive t rd (s.gval t rs)) :=
  congrArg _ (execD_of_settled h hs _ _)

theorem execSettle_shadow (rd rs rt : Nat) : exec (.settle t rd rs rt) s =
    .next (s.shadowOp t 0x12 rd rs rt fun s => s.settleLive t rd (s.gval t rs) (s.gval t rt)) :=
  congrArg _ (execD_of_settled h hs _ _)

theorem execRecv_shadow (rd rt : Nat) (hd : dataTrap (s.gval t rt) 4 68 = none) : exec (.recv t rd rt) s =
    .next (s.shadowOp t 0x0C rd 0 rt fun s => s.recvLive t rd (s.gval t rt)) := by
  refine congrArg _ ((execD_of_settled h hs _ _).trans ?_)
  rw [hd]
  rfl

theorem execTake_shadow (rd rs rt : Nat) (hd : dataTrap (s.gval t rt) 4 68 = none) : exec (.take t rd rs rt) s =
    .next (s.shadowOp t 0x11 rd rs rt fun s => s.takeLive t rd (s.gval t rs) (s.gval t rt)) := by
  refine congrArg _ ((execD_of_settled h hs _ _).trans ?_)
  rw [hd]
  rfl

theorem execCommit_shadow (rd rs : Nat) (hr : s.isManager = true ∨ s.isStandby = true) (hc : s.clean (s.gval t rs) 64 64 = true) :
    exec (.commit t rd rs) s = .next (s.shadowOp t 0x10 rd rs 0 fun s => s.commitLive t rd (s.gval t rs)) := by
  refine congrArg _ ((if_pos hr).trans ((execD_of_settled h hs _ _).trans ?_))
  rw [dataTrap_of_clean hc]
  exact access_of_clean hc t true (fun s => s.shadowOp t 0x10 rd rs 0 fun s => s.commitLive t rd (s.gval t rs))

theorem execMbpost_shadow (rd rs rt : Nat) {len : Nat} (hl : s.mbpostLen (s.gval t rs) = len)
    (hd : dataTrap (s.gval t rt) 4 len = none) (hc : s.clean (s.gval t rt) 4 (min 72 len) = true) :
    exec (.mbpost t rd rs rt) s =
      .next (s.shadowOp t 0x20 rd rs rt fun s => s.mbpostLive t rd (s.gval t rs) (s.gval t rt)) := by
  refine congrArg _ ((execD_of_settled h hs _ _).trans ?_)
  rw [hl, hd]
  refine Eq.trans ?_ (access_of_clean hc t true
    (fun s => s.shadowOp t 0x20 rd rs rt fun s => s.mbpostLive t rd (s.gval t rs) (s.gval t rt)))
  rw [← hl]
  rfl

/-- An order posted to the node's own ledger. -/
theorem execMbpost_own (rd rs rt : Nat) (hg : s.gval t rs < 2 ^ 17 ∧ s.gval t rs = s.node * 4096 + 0x58D)
    (hin : s.gval t rt + 80 ≤ dmSize) (hc : s.clean (s.gval t rt) 4 72 = true) : exec (.mbpost t rd rs rt) s =
      .next (s.shadowOp t 0x20 rd rs rt fun s => s.mbpostLive t rd (s.gval t rs) (s.gval t rt)) := by
  have hlen : s.mbpostLen (s.gval t rs) = 80 := by
    have hmod : s.gval t rs % 4096 = 0x58D := by omega
    have hdiv : s.gval t rs / 4096 = s.node := by omega
    exact (if_pos ⟨hg.1, hmod⟩).trans (if_pos hdiv)
  have hal : s.gval t rt % 4 = 0 := by
    simp only [State.clean, Bool.and_eq_true, decide_eq_true_eq] at hc
    exact hc.1.1
  exact execMbpost_shadow h hs rd rs rt hlen (dataTrap_none hal hin) hc

theorem execEvpost_shadow (rd rs rt : Nat) (hc : s.clean (s.gval t rt) 4 12 = true) : exec (.evpost t rd rs rt) s =
    .next (s.shadowOp t 0x21 rd rs rt fun s => s.evpostLive t rd (s.gval t rs) (s.gval t rt)) := by
  refine congrArg _ ((execD_of_settled h hs _ _).trans ?_)
  rw [dataTrap_of_clean hc]
  exact access_of_clean hc t true (fun s => s.shadowOp t 0x21 rd rs rt fun s => s.evpostLive t rd (s.gval t rs) (s.gval t rt))

end

/-! What a record's effect leaves (R116, R320). -/

section

variable (s : State)

theorem mirror_wakeBook (a b : Nat) : ∀ (n : Nat) (s : State), (s.wakeBook a b n).mirror = s.mirror
  | 0, _ => rfl
  | n + 1, s => by
    rw [State.wakeBook, mirror_wakeBook a b n]
    split <;> rfl

theorem mirror_settleDo (h : Nat) (o : Order) (result : Nat) : (s.settleDo h o result).mirror = s.mirror := by
  unfold State.settleDo
  dsimp only
  split
  · exact mirror_wakeBook ..
  · rfl

theorem mirror_submitAt (h n a word pred : Nat) (body : List Byte) : (s.submitAt h n a word pred body).mirror = s.mirror := by
  rcases submitAt_eq s h n a word pred body with he | he
  · rw [he]; rfl
  · rw [he, mirror_wakeBook]; rfl

variable {s}

theorem commitMirrored_standby {d : Desc} (hsb : s.isStandby = true) (he : s.mirror.early.contains d.frame = false) :
    (s.commitMirrored d false).mirror.todo = s.mirror.todo ∧ (s.commitMirrored d false).esc.ahead = s.esc.ahead ++ [⟨d, none⟩] := by
  rw [State.commitMirrored, if_neg (by rw [he]; decide), State.commitAccept]
  dsimp only
  rw [if_pos hsb, State.commitStands]
  split <;> exact ⟨rfl, rfl⟩

/-- A settlement at the head of its book on the Standby: that order alone, with its result. -/
theorem settleMirrored_standby {t h result : Nat} {o : Order} (hsb : s.isStandby = true) (ho : s.order h = some o)
    (ht : o.taker = some t) (hhead : o.bseq = (s.book o.acct o.book).head) : (s.settleMirrored t h result).mirror.todo = s.mirror.todo ∧ Settled s (s.settleMirrored t h result) h o result := by
  have hpast : s.pastHead o = 0 := by
    rw [State.pastHead, ← hhead, Nat.add_sub_cancel_left]
    exact Nat.mod_self _
  have hbefore : s.settleBefore o = s := by
    rw [State.settleBefore, hpast]
    simp
  have hm : (s.settleDo h o result).mirror.todo = s.mirror.todo := congrArg Mirror.todo (mirror_settleDo ..)
  have hd : Settled s (s.settleDo h o result) h o result := settled_of_quiet (quiet_settleDo ..)
  rw [State.settleMirrored, ho]
  dsimp only
  rw [if_neg (not_not.mpr ht), if_pos hsb, hbefore]
  split
  · exact ⟨hm, hd.orders, hd.book⟩
  · exact ⟨hm, hd⟩

theorem submitMirrored_free {h n a word pred : Nat} {body : List Byte} (ho : s.order h = none) :
    s.submitMirrored h n a word pred body = s.submitAt h n a word pred body := by
  rw [State.submitMirrored, ho]

end

section

variable {s : State} {t : Nat} {c : Instr} {sub rd rs rt : Nat} {live : State → State}
  (hc : exec c s = .next (s.shadowOp t sub rd rs rt live))
include hc

/-- What a record's completion leaves. -/
theorem record_told {st : Nat} {data : List Byte} {p : State → Prop}
    (hp : ∀ r : MirRec, r.status = st → carried r = data → p (s.shadowFinish t sub rd rs rt r)) (r : MirRec)
    (hr : (s.teller t).doneOps.find? (fun r => r.inst = (s.teller t).nextInst) = some r) (hst : r.status = st)
    (hdata : r.data = .tellerOp data) (s' : State) (hs : exec c s = .next s') : p s' := by
  rw [hc, shadowOp_known sub rd rs rt live hr] at hs
  rw [← Host.Outcome.next.inj hs]
  exact hp r hst (carried_tellerOp hdata)

/-- What a record's turn on the Standby leaves: `p` of the effect. -/
theorem record_turn {data : List Byte} {p : State → Prop}
    (hm : ∀ (u : State) (m : Memory) (e : Tab Nat), p { u with dm := m, dmErr := e } = p u)
    (ht : ∀ (u : State) (k : Nat) (x : Teller), p (u.setTeller k x) = p u)
    (hp : ∀ r : MirRec, s.isStandby = true → (((s.resumed t r).setTodo []).shadowEffect t (s.operands t sub rs rt) 0 data).mirror.todo = [] ∧
      p (((s.resumed t r).setTodo []).shadowEffect t (s.operands t sub rs rt) 0 data))
    (r : MirRec) (hr : (s.teller t).doneOps.find? (fun r => r.inst = (s.teller t).nextInst) = some r) (hteller : r.teller = t)
    (hst : r.status = 0) (hdata : r.data = .tellerOp data) (hsb : s.isStandby = true) (htodo : s.mirror.todo = [⟨r, none⟩])
    (s' : State) (hs : exec c s = .next s') : s'.mirror.todo = [] ∧ p s' := by
  rw [hc, shadowOp_known sub rd rs rt live hr] at hs
  rw [← Host.Outcome.next.inj hs]
  obtain ⟨h1, h2⟩ := hp r hsb
  rw [shadowFinish_turn (fun u => u.mirror.todo) (fun _ _ _ => rfl) (fun _ _ _ => rfl) hteller hst hdata hsb htodo,
    shadowFinish_turn p hm ht hteller hst hdata hsb htodo]
  exact ⟨h1, h2⟩

end

section

variable {s : State} {t rd rs rt : Nat}

theorem body_lands {sub : Nat} (hsub : sub = 0x0C ∨ sub = 0x11) {data : List Byte} (hlen : data.length = 68) (r : MirRec)
    (hdone : shadowDone r.status = true) (hd : carried r = data) :
    memBytes (s.shadowFinish t sub rd rs rt r).dm (s.gval t rt) 68 = data := by
  rw [dm_shadowFinish, hd]
  exact dm_shadowData_body _ (op := s.operands t sub rs rt) hsub hdone hlen

theorem answer_lands (hgs : s.gval t rs % 4096 = 0x58D) {data : List Byte} (hlen : data.length = 8) (r : MirRec)
    (hdone : shadowDone r.status = true) (hd : carried r = data) :
    memBytes (s.shadowFinish t 0x20 rd rs rt r).dm (s.gval t rt + 72) 8 = data := by
  rw [dm_shadowFinish, hd]
  exact dm_shadowData_answer _ (op := s.operands t 0x20 rs rt) rfl hgs hdone hlen

/-- An instruction's outcome as it is mirrored to the Standby (R320). -/
theorem shadowed_mirrored (t st : Nat) (data : List Byte) (hsb : s.hasStandby = true) : let s' := s.shadowed t st data
    let r : MirRec := ⟨s.mirror.next, s.fld GLB_TERM_TERM, t, st, (s.teller t).nextInst, 0, .tellerOp data⟩
    (s'.teller t).inst = (s.teller t).nextInst ∧ s'.mirror.next = (s.mirror.next + 1) % 2 ^ 32 ∧ s'.mirror.sent.getLast? = some r ∧
    s'.fld FLT_MSEQ_MSEQ = s.mirror.next % 2 ^ 32 := by
  obtain ⟨u, hu⟩ : ∃ u, u = s.mapTeller t fun x => { x with inst := (s.teller t).nextInst } := ⟨_, rfl⟩
  have hteller : ((s.shadowed t st data).teller t).sansTev = (u.teller t).sansTev :=
    teller_of_quiet ((quiet_shadowed s t st data).trans (by rw [hu]; rfl)) t
  have hinst : (u.teller t).inst = (s.teller t).nextInst := by rw [hu, teller_mapTeller_same]
  obtain ⟨r, hr⟩ : ∃ r : MirRec, r = ⟨u.mirror.next, u.fld GLB_TERM_TERM, t, st, (s.teller t).nextInst, 0, .tellerOp data⟩ := ⟨_, rfl⟩
  have hsent : s.shadowed t st data = (({ u with mirror := { u.mirror with
      next := (u.mirror.next + 1) % 2 ^ 32
      sent := (if u.mirror.sent.length < 4096 then u.mirror.sent else u.mirror.sent.drop 1) ++ [r] } }.setFld
      FLT_MSEQ_MSEQ u.mirror.next).ringBoth (some u.stbyEp) (.mirror r)) := by
    rw [State.shadowed, hr, hu]
    exact if_pos hsb
  have hmirror (v : State) (ep : Option Nat) (m : RingMsg) : (v.ringBoth ep m).mirror = v.mirror := by
    have hout (w : State) (d : Nat) (f : RingFrame) : (w.frameOut d f).mirror = w.mirror := by
      rw [State.frameOut]
      split <;> rfl
    exact (hout _ _ _).trans (hout _ _ _)
  have hum : u.mirror = s.mirror := by rw [hu]; rfl
  have huf : u.fld GLB_TERM_TERM = s.fld GLB_TERM_TERM := by rw [hu]; rfl
  have hcount : ((s.shadowed t st data).teller t).inst = (u.teller t).inst := (congrArg Teller.inst hteller :)
  refine ⟨hcount.trans hinst, ?_, ?_, ?_⟩
  · rw [hsent, hmirror, ← hum]
    rfl
  · rw [hsent, hmirror, ← hum, ← huf, ← hr]
    exact List.getLast?_concat ..
  · rw [hsent, fld_ringBoth, fld_setFld_same, hum]
    rfl

end

/-- Settles O32: an operation that is shadowed is `shadowOp`; a record completes it by `shadowFinish`, whose answer, data and
effect touch different parts of the state. -/
theorem shadowedOperations : Obligations.ShadowedOperations := by
  intro s t rd rs rt h hs
  refine ⟨⟨shadowed_cases (execClaim_shadow h hs rd rs) rfl, ?claim⟩, fun hal hin => ⟨shadowed_cases (execRecv_shadow h hs rd rt ?trap) rfl,
      shadowed_cases (execTake_shadow h hs rd rs rt ?trap) rfl, fun data hlen => ⟨?recv, ?take0, ?take3, fun o ho => ?take⟩⟩,
    fun hr hc => ⟨shadowed_cases (execCommit_shadow h hs rd rs hr hc) rfl, fun he => ?commit⟩,
    ⟨shadowed_cases (execSettle_shadow h hs rd rs rt) rfl, fun o ho htaker hhead hb => ?settle⟩,
    fun hg he hc => shadowed_cases (execMbpost_shadow h hs rd rs rt (len := 64) ?away (dataTrap_of_clean hc) hc) rfl,
    fun hg hin hc => ⟨shadowed_cases (execMbpost_own h hs rd rs rt hg hin hc) rfl, fun data hlen => ⟨?answer, fun ho => ?enter⟩⟩,
    fun hc => shadowed_cases (execEvpost_shadow h hs rd rs rt hc) rfl, fun st data hsb => shadowed_mirrored t st data hsb⟩
  case trap => exact dataTrap_none hal hin
  case claim => exact record_turn (execClaim_shadow h hs rd rs) (fun _ _ _ => rfl) (fun _ _ _ => rfl) fun r hsb => ⟨rfl, tabGet_tabSet_same ..⟩
  case recv => exact record_told (execRecv_shadow h hs rd rt (dataTrap_none hal hin)) fun r hst => body_lands (.inl rfl) hlen r (by rw [hst]; rfl)
  case take0 => exact record_told (execTake_shadow h hs rd rs rt (dataTrap_none hal hin)) fun r hst => body_lands (.inr rfl) hlen r (by rw [hst]; rfl)
  case take3 => exact record_told (execTake_shadow h hs rd rs rt (dataTrap_none hal hin)) fun r hst => body_lands (.inr rfl) hlen r (by rw [hst]; rfl)
  case take =>
    refine record_turn (execTake_shadow h hs rd rs rt (dataTrap_none hal hin)) (fun _ _ _ => rfl) (fun _ _ _ => rfl) fun r hsb => ?_
    have htake := take68_of_length hlen
    rw [shadowEffect_take (o := o) _ rfl (by rw [htake]; exact ho), htake]
    exact ⟨rfl, order_setOrder_same ..⟩
  case commit =>
    refine record_turn (execCommit_shadow h hs rd rs hr hc) (fun _ _ _ => rfl) (fun _ _ _ => rfl) fun r hsb => ?_
    rw [shadowEffect_commit _ rfl]
    exact commitMirrored_standby (s := (s.resumed t r).setTodo []) hsb he
  case settle =>
    refine record_turn (execSettle_shadow h hs rd rs rt) (fun _ _ _ => rfl) (fun _ _ _ => rfl) fun r hsb => ?_
    rw [shadowEffect_settle _ rfl]
    obtain ⟨htodo, hset⟩ := settleMirrored_standby (s := (s.resumed t r).setTodo []) (h := s.gval t rs) (result := s.gval t rt) hsb ho htaker hhead
    exact ⟨htodo, hset.order_same, fun k hk => hset.order_ne hk, congrArg Book.head hset.book, congrArg Book.last hset.book⟩
  case away => exact if_neg fun h => he h.2
  case answer =>
    exact record_told (execMbpost_own h hs rd rs rt hg hin hc) fun r hst => answer_lands (own_mod hg) hlen r (by rw [hst]; rfl)
  case enter =>
    refine record_turn (execMbpost_own h hs rd rs rt hg hin hc) (fun _ _ _ => rfl) (fun _ _ _ => rfl) fun r hsb => ?_
    rw [shadowEffect_mbpost _ rfl (own_mod hg) hlen, submitMirrored_free (s := (s.resumed t r).setTodo []) ho,
      mirror_submitAt, order_submitAt_same, submittedOrder_eq]
    have hbook := book_submitAt ((s.resumed t r).setTodo []) (ofLe (data.take 4)) (ofLe (data.drop 4)) (s.operands t 0x20 rs rt).acct
      (s.operands t 0x20 rs rt).word (s.operands t 0x20 rs rt).pred (s.operands t 0x20 rs rt).body
    rw [show bits (s.operands t 0x20 rs rt).word 3 0 = (s.operands t 0x20 rs rt).word % 16 by simp [bits]] at hbook
    exact ⟨rfl, rfl, congrArg Book.next hbook⟩

end Sys2Proof.Machine

namespace Sys2Proof.Machine

/-! What leaves the memories and the orders as they were: one lemma an operation (R62, R111). -/

/-! What `Machine/Operands` defines. -/

@[simp] theorem kept_execI (s : State) (t : Nat) (body : State → State) (hbody : ∀ u, (body u).kept = u.kept) :
    (s.execI t body).kept = s.kept := by
  unfold State.execI
  (repeat' split) <;> simp_all

@[simp] theorem kept_execR (s : State) (t : Nat) (f : Teller → Teller) : (s.execR t f).kept = s.kept := by
  simp [State.execR]

@[simp] theorem kept_withTrap (s : State) (t : Nat) (c : Option (Nat × Nat)) (body : State → State) (hbody : ∀ u, (body u).kept = u.kept) :
    (s.withTrap t c body).kept = s.kept := by
  unfold State.withTrap
  (repeat' split) <;> simp_all

@[simp] theorem kept_execD (s : State) (t : Nat) (c : State → Option (Nat × Nat)) (body : State → State) (hbody : ∀ u, (body u).kept = u.kept) :
    (s.execD t c body).kept = s.kept := by
  refine kept_execI s t _ fun u => ?_
  dsimp only
  split
  · rfl
  · refine kept_withTrap u t _ _ fun v => ?_
    split <;> simp [hbody]

@[simp] theorem kept_access (s : State) (t a align len : Nat) (reads : Bool) (body : State → State) (hbody : ∀ u, (body u).kept = u.kept) :
    (s.access t a align len reads body).kept = s.kept := by
  unfold State.access
  (repeat' split) <;> simp_all

/-! What `Machine/DmaOps` defines. -/

@[simp] theorem kept_setDma (s : State) (n : Nat) (d : Dma) : (s.setDma n d).kept = s.kept := by
  simp [State.setDma]

@[simp] theorem kept_setDmaSt (s : State) (n v : Nat) : (s.setDmaSt n v).kept = s.kept := by
  simp [State.setDmaSt]

@[simp] theorem kept_dmaSync (s : State) (n : Nat) : (s.dmaSync n).kept = s.kept := by
  unfold State.dmaSync
  dsimp only
  split <;> simp

@[simp] theorem kept_dmaTrig (s : State) (n : Nat) : (s.dmaTrig n).kept = s.kept := by
  simp [State.dmaTrig]

@[simp] theorem kept_dmaTrigAct (s : State) (n : Nat) : (s.dmaTrigAct n).kept = s.kept := by
  simp [State.dmaTrigAct]

@[simp] theorem kept_dmaTrigFrom (s : State) (kinds : List Nat) (src : Nat) (n : Nat) :
    (s.dmaTrigFrom kinds src n).kept = s.kept := by
  induction n generalizing s with
  | zero => simp [State.dmaTrigFrom]
  | succ n ih => simp [State.dmaTrigFrom, ih]

@[simp] theorem kept_dmaKick (s : State) (n : Nat) : (s.dmaKick n).2.kept = s.kept := by
  unfold State.dmaKick
  (repeat' split) <;> simp

@[simp] theorem kept_dmaHalt (s : State) (n err : Nat) (atDesc : Bool) : (s.dmaHalt n err atDesc).kept = s.kept := by
  simp [State.dmaHalt]

@[simp] theorem kept_dmaDisarm (s : State) (n : Nat) : (s.dmaDisarm n).kept = s.kept := by
  simp [State.dmaDisarm]

@[simp] theorem kept_dmaSettle (s : State) (n : Nat) : (s.dmaSettle n).kept = s.kept := by
  simp [State.dmaSettle]

@[simp] theorem kept_dmaFetch (s : State) (n addr sp : Nat) : (s.dmaFetch n addr sp).kept = s.kept := by
  simp [State.dmaFetch]

@[simp] theorem kept_dmaGrainEnd (s : State) (n : Nat) : (s.dmaGrainEnd n).kept = s.kept := by
  simp [State.dmaGrainEnd]

@[simp] theorem kept_dmaComplete (s : State) (n : Nat) (d : DmaDesc) : (s.dmaComplete n d).kept = s.kept := by
  simp [State.dmaComplete]

@[simp] theorem kept_dmaBeatDone (s : State) (n : Nat) (d : DmaDesc) : (s.dmaBeatDone n d).kept = s.kept := by
  simp [State.dmaBeatDone]

@[simp] theorem kept_dmaWrites (s : State) (n : Nat) (n' : Nat) : (s.dmaWrites n n').kept = s.kept := by
  induction n' generalizing s with
  | zero => rfl
  | succ n' ih =>
    unfold State.dmaWrites
    dsimp only
    split
    · rfl
    · (repeat' split) <;> simp [ih]

@[simp] theorem kept_dmaReads (s : State) (n : Nat) (n' : Nat) : (s.dmaReads n n').kept = s.kept := by
  induction n' generalizing s with
  | zero => rfl
  | succ n' ih =>
    unfold State.dmaReads
    dsimp only
    split
    · rfl
    · split <;> simp [ih]

@[simp] theorem kept_dmaPump (s : State) (n : Nat) : (s.dmaPump n).kept = s.kept := by
  simp [State.dmaPump]

@[simp] theorem kept_dmaArm (s : State) (n : Nat) : (s.dmaArm n).kept = s.kept := by
  simp [State.dmaArm]

@[simp] theorem kept_dmaAbort (s : State) (n : Nat) : (s.dmaAbort n).kept = s.kept := by
  simp [State.dmaAbort]

@[simp] theorem kept_dmaResume (s : State) (n : Nat) : (s.dmaResume n).kept = s.kept := by
  unfold State.dmaResume
  dsimp only
  (repeat' split) <;> simp

@[simp] theorem kept_dmaPause (s : State) (n : Nat) (on : Bool) : (s.dmaPause n on).kept = s.kept := by
  simp [State.dmaPause]

@[simp] theorem kept_dmaClrErr (s : State) (n : Nat) : (s.dmaClrErr n).kept = s.kept := by
  simp [State.dmaClrErr]

@[simp] theorem kept_dmaCont (s : State) (n : Nat) : (s.dmaCont n).kept = s.kept := by
  simp [State.dmaCont]

@[simp] theorem kept_dmaEscalate (s : State) (n : Nat) : (s.dmaEscalate n).kept = s.kept := by
  simp [State.dmaEscalate]

@[simp] theorem calm_execDmaArm (n : Nat) (s : State) : Calm s (execDmaArm n s) := by
  simp [execDmaArm]

@[simp] theorem calm_execDmaAbort (n : Nat) (s : State) : Calm s (execDmaAbort n s) := by
  simp [execDmaAbort]

@[simp] theorem calm_execDmaPause (n : Nat) (on : Bool) (s : State) : Calm s (execDmaPause n on s) := by
  simp [execDmaPause]

@[simp] theorem calm_execGo (n : Nat) (s : State) : Calm s (execGo n s) := by
  simp [execGo]

@[simp] theorem calm_execClrerr (n : Nat) (s : State) : Calm s (execClrerr n s) := by
  simp [execClrerr]

@[simp] theorem calm_execCont (n : Nat) (s : State) : Calm s (execCont n s) := by
  simp [execCont]

@[simp] theorem calm_execDmaTimerExpiry (k : Nat) (s : State) : Calm s (execDmaTimerExpiry k s) := by
  simp [execDmaTimerExpiry]

@[simp] theorem calm_execDmaTrigger (n : Nat) (s : State) : Calm s (execDmaTrigger n s) := by
  simp [execDmaTrigger]

@[simp] theorem calm_execDmaGrainStart (n : Nat) (s : State) : Calm s (execDmaGrainStart n s) := by
  unfold execDmaGrainStart
  dsimp only
  (repeat' split) <;> simp

@[simp] theorem calm_execDescriptorFetch (n : Nat) (ok : Bool) (data : List Byte) (s : State) :
    Calm s (execDescriptorFetch n ok data s) := by
  unfold execDescriptorFetch
  dsimp only
  (repeat' split) <;> simp

/-! What `Machine/StoreOps` defines. -/

@[simp] theorem kept_setStore (s : State) (x : Store) : (s.setStore x).kept = s.kept := by
  simp [State.setStore]

@[simp] theorem kept_setExtent (s : State) (i : Nat) (e : Extent) : (s.setExtent i e).kept = s.kept := by
  simp [State.setExtent]

@[simp] theorem kept_syncFree (s : State) : s.syncFree.kept = s.kept := by
  simp [State.syncFree]

@[simp] theorem kept_refsBy (s : State) (up : Bool) (l : List Nat) : (s.refsBy up l).kept = s.kept := by
  induction l generalizing s with
  | nil => simp [State.refsBy]
  | cons a l ih => simp [State.refsBy, ih]

@[simp] theorem kept_syncOutstand (s : State) : s.syncOutstand.kept = s.kept := by
  simp [State.syncOutstand]

@[simp] theorem kept_addTile (s : State) (key : TileKey) (deadline addr len : Nat) :
    (s.addTile key deadline addr len).kept = s.kept := by
  simp [State.addTile]

@[simp] theorem kept_mapTile (s : State) (key : TileKey) (f : Tile → Tile) : (s.mapTile key f).kept = s.kept := by
  simp [State.mapTile]

@[simp] theorem kept_setNvme (s : State) (cid : Nat) (c : Option Nvme) : (s.setNvme cid c).kept = s.kept := by
  simp [State.setNvme]

@[simp] theorem kept_nvmeSend (s : State) (c0 : Nvme) : (s.nvmeSend c0).kept = s.kept := by
  simp [State.nvmeSend]

@[simp] theorem kept_offer (s : State) (c : Nvme) : (s.offer c).kept = s.kept := by
  simp [State.offer]

@[simp] theorem kept_pump (s : State) : s.pump.kept = s.kept := by
  simp [State.pump]

@[simp] theorem kept_dropTiles (s : State) (p : TileKey → Bool) (decodedToo : Bool) :
    (s.dropTiles p decodedToo).kept = s.kept := by
  simp [State.dropTiles]

@[simp] theorem kept_dropRefs (s : State) (k : Nat) : (s.dropRefs k).kept = s.kept := by
  simp [State.dropRefs]

@[simp] theorem kept_cancelSlot (s : State) (k : Nat) : (s.cancelSlot k).kept = s.kept := by
  simp [State.cancelSlot]

@[simp] theorem kept_freeTiles (s : State) (k stn : Nat) : (s.freeTiles k stn).kept = s.kept := by
  simp [State.freeTiles]

@[simp] theorem kept_extRelease (s : State) (i : Nat) : (s.extRelease i).kept = s.kept := by
  simp [State.extRelease]

/-! What `Machine/Ledger` defines. -/

@[simp] theorem kept_setBook (s : State) (a b : Nat) (k : Book) : (s.setBook a b k).kept = s.kept := by
  simp [State.setBook]

@[simp] theorem kept_wakeBook (s : State) (a b : Nat) (n : Nat) : (s.wakeBook a b n).kept = s.kept := by
  induction n generalizing s with
  | zero => simp [State.wakeBook]
  | succ n ih => simp [State.wakeBook, ih]

@[simp] theorem kept_setLock (s : State) (l : Nat) (k : Lock) : (s.setLock l k).kept = s.kept := by
  simp [State.setLock]

@[simp] theorem kept_lacqDo (s : State) (l : Nat) (h : Holder) : (s.lacqDo l h).kept = s.kept := by
  simp [State.lacqDo]

@[simp] theorem kept_wakeLock (s : State) (l : Nat) (n : Nat) : (s.wakeLock l n).kept = s.kept := by
  induction n generalizing s with
  | zero => simp [State.wakeLock]
  | succ n ih => simp [State.wakeLock, ih]

@[simp] theorem kept_lrelDo (s : State) (l : Nat) : (s.lrelDo l).kept = s.kept := by
  simp [State.lrelDo]

@[simp] theorem kept_lockAbandon (s : State) (l : Nat) : (s.lockAbandon l).kept = s.kept := by
  simp [State.lockAbandon]

@[simp] theorem kept_abandonLocks (s : State) (p : Holder → Bool) (l : List (Nat × Lock)) :
    (s.abandonLocks p l).kept = s.kept := by
  induction l generalizing s with
  | nil => rfl
  | cons e l ih =>
    unfold State.abandonLocks
    split
    · rw [ih]; simp
    · exact ih s

/-! What `Machine/Gates` defines. -/

@[simp] theorem kept_setPlant (s : State) (p : Plant) : (s.setPlant p).kept = s.kept := by
  simp [State.setPlant]

@[simp] theorem kept_staleField (was s : State) (f : Field) : (was.staleField s f).kept = s.kept := by
  unfold State.staleField
  split <;> simp

@[simp] theorem kept_staleFields (was s : State) (fs : List Field) : (was.staleFields s fs).kept = s.kept := by
  unfold State.staleFields
  split <;> simp

@[simp] theorem kept_setAxis (s : State) (i : Nat) (x : Axis) : (s.setAxis i x).kept = s.kept := by
  simp [State.setAxis]

@[simp] theorem kept_mapAxis (s : State) (i : Nat) (f : Axis → Axis) : (s.mapAxis i f).kept = s.kept := by
  simp [State.mapAxis]

@[simp] theorem kept_setAxState (s : State) (i v : Nat) : (s.setAxState i v).kept = s.kept := by
  simp [State.setAxState]

@[simp] theorem kept_setBrake (s : State) (a : Nat) (b : Brake) : (s.setBrake a b).kept = s.kept := by
  simp [State.setBrake]

@[simp] theorem kept_ilkEvent (s : State) (c : Nat) : (s.ilkEvent c).kept = s.kept := by
  simp [State.ilkEvent]

@[simp] theorem kept_setIlk (s : State) (c : Nat) (v : Option Nat) : (s.setIlk c v).kept = s.kept := by
  simp [State.setIlk]

@[simp] theorem kept_ilkCheck (s : State) (c : Nat) : (s.ilkCheck c).kept = s.kept := by
  unfold State.ilkCheck
  split <;> simp

@[simp] theorem kept_interlock (s : State) (n : Nat) : (s.interlock n).kept = s.kept := by
  induction n generalizing s with
  | zero => simp [State.interlock]
  | succ n ih => simp [State.interlock, ih]

@[simp] theorem kept_ilkCycle (s : State) (l : Tab (Option Nat)) : (s.ilkCycle l).kept = s.kept := by
  induction l generalizing s with
  | nil => simp [State.ilkCycle]
  | cons a l ih => simp [State.ilkCycle, ih]

@[simp] theorem kept_ilkTick (s : State) : s.ilkTick.kept = s.kept := by
  simp [State.ilkTick]

@[simp] theorem kept_fixSteps (s : State) (c : Nat) : (s.fixSteps c).kept = s.kept := by
  simp [State.fixSteps]

@[simp] theorem kept_driveApply (s : State) : s.driveApply.kept = s.kept := by
  simp [State.driveApply]

@[simp] theorem kept_showVsw (s : State) (c : Nat) (l : List Nat) : (s.showVsw c l).kept = s.kept := by
  induction l generalizing s c with
  | nil => rfl
  | cons v l ih => rw [State.showVsw, ih]; simp

@[simp] theorem kept_vgdReport (s : State) : s.vgdReport.kept = s.kept := by
  simp [State.vgdReport]

@[simp] theorem kept_brakeReport (s : State) (a : Nat) : (s.brakeReport a).kept = s.kept := by
  simp [State.brakeReport]

@[simp] theorem kept_brakeCompare (s : State) (a : Nat) : (s.brakeCompare a).kept = s.kept := by
  simp [State.brakeCompare]

@[simp] theorem kept_brakeTrip (s : State) (a : Nat) : (s.brakeTrip a).kept = s.kept := by
  simp [State.brakeTrip]

@[simp] theorem kept_brakeTick (s : State) (a : Nat) : (s.brakeTick a).kept = s.kept := by
  simp [State.brakeTick]

/-! What `Machine/TauOps` defines. -/

@[simp] theorem kept_setCmp (s : State) (n : Nat) (c : Cmp) : (s.setCmp n c).kept = s.kept := by
  simp [State.setCmp]

@[simp] theorem kept_armCmp (s : State) (n target : Nat) : (s.armCmp n target).kept = s.kept := by
  simp [State.armCmp]

@[simp] theorem kept_disarmCmp (s : State) (n : Nat) : (s.disarmCmp n).kept = s.kept := by
  simp [State.disarmCmp]

@[simp] theorem kept_disarmAll (s : State) (l : List Nat) : (s.disarmAll l).kept = s.kept := by
  induction l generalizing s with
  | nil => simp [State.disarmAll]
  | cons a l ih => simp [State.disarmAll, ih]

@[simp] theorem kept_dropAll (s : State) (l : List Nat) : (s.dropAll l).kept = s.kept := by
  induction l generalizing s with
  | nil => simp [State.dropAll]
  | cons a l ih => simp [State.dropAll, ih]

@[simp] theorem kept_p0Apply (s : State) (k mask level : Nat) (rel : Bool) : (s.p0Apply k mask level rel).kept = s.kept := by
  simp [State.p0Apply]

@[simp] theorem kept_p0Clear (s : State) (grp : Nat) (n : Nat) : (s.p0Clear grp n).kept = s.kept := by
  induction n generalizing s with
  | zero => simp [State.p0Clear]
  | succ n ih => simp [State.p0Clear, ih]

/-! What `Machine/Escrow` defines. -/

@[simp] theorem kept_escGeometry (s : State) : s.escGeometry.kept = s.kept := by
  simp [State.escGeometry]

@[simp] theorem kept_setEsc (s : State) (e : Esc) : (s.setEsc e).kept = s.kept := by
  simp [State.setEsc]

@[simp] theorem kept_fixGeo (s : State) : s.fixGeo.kept = s.kept := by
  simp [State.fixGeo]

@[simp] theorem kept_setSlot (s : State) (k : Nat) (r : SlotRec) : (s.setSlot k r).kept = s.kept := by
  simp [State.setSlot]

@[simp] theorem kept_escSync (s : State) : s.escSync.kept = s.kept := by
  simp [State.escSync]

@[simp] theorem kept_escCount (s : State) (f : Field) : (s.escCount f).kept = s.kept := by
  simp [State.escCount]

@[simp] theorem kept_tevEscMask (s : State) : s.tevEscMask.kept = s.kept := by
  simp [State.tevEscMask]

@[simp] theorem kept_frameRecord (s : State) (type frame sub incident x : Nat) :
    (s.frameRecord type frame sub incident x).kept = s.kept := by
  simp [State.frameRecord]

@[simp] theorem kept_setMarks (s : State) (k : Nat) (m : Marks) : (s.setMarks k m).kept = s.kept := by
  simp [State.setMarks]

@[simp] theorem kept_voidRecord (s : State) (k : Nat) (r : SlotRec) (reason station incident : Nat) :
    (s.voidRecord k r reason station incident).kept = s.kept := by
  unfold State.voidRecord
  split <;> simp

@[simp] theorem kept_voidSlot (s : State) (k reason station incident : Nat) :
    (s.voidSlot k reason station incident).kept = s.kept := by
  simp [State.voidSlot]

@[simp] theorem kept_voidAll (s : State) (reason incident : Nat) (stn : Nat → SlotRec → Option Nat) (l : List (Nat × SlotRec)) :
    (s.voidAll reason incident stn l).kept = s.kept := by
  induction l generalizing s with
  | nil => rfl
  | cons e l ih =>
    rw [State.voidAll, ih]
    split <;> simp

@[simp] theorem kept_inhibitVoids (s : State) : s.inhibitVoids.kept = s.kept := by
  unfold State.inhibitVoids
  split <;> simp

@[simp] theorem kept_commitStands (s : State) (d : Desc) (bad : Option Nat) : (s.commitStands d bad).kept = s.kept := by
  simp [State.commitStands]

@[simp] theorem kept_commitAccept (s : State) (d : Desc) (late : Bool) : (s.commitAccept d late).kept = s.kept := by
  simp [State.commitAccept]

@[simp] theorem kept_runOpenAt (s : State) : s.runOpenAt.kept = s.kept := by
  simp [State.runOpenAt]

@[simp] theorem kept_stopRequest (s : State) : s.stopRequest.kept = s.kept := by
  simp [State.stopRequest]

@[simp] theorem kept_nextSlot (s : State) (k : Nat) : (s.nextSlot k).kept = s.kept := by
  simp [State.nextSlot]

@[simp] theorem kept_closeApply (s0 : State) (c : CloseRec) : (s0.closeApply c).kept = s0.kept := by
  simp [State.closeApply]

@[simp] theorem kept_endRun (s : State) : s.endRun.kept = s.kept := by
  simp [State.endRun]

@[simp] theorem kept_escrowClose (s : State) : s.escrowClose.kept = s.kept := by
  simp [State.escrowClose]

@[simp] theorem kept_closesDue (s : State) (n : Nat) : (s.closesDue n).kept = s.kept := by
  induction n generalizing s with
  | zero => simp [State.closesDue]
  | succ n ih => simp [State.closesDue, ih]

@[simp] theorem kept_eachPort (f : Nat → State → State) (l : List Nat) (s : State)
    (hf : ∀ n u, (f n u).kept = u.kept) : (eachPort f l s).kept = s.kept := by
  induction l generalizing s with
  | nil => rfl
  | cons a l ih => rw [eachPort, ih, hf]

@[simp] theorem kept_blankSlot (s : State) (k stn : Nat) : (s.blankSlot k stn).kept = s.kept := by
  simp [State.blankSlot]

@[simp] theorem kept_voidLocal (s : State) (k reason : Nat) : (s.voidLocal k reason).kept = s.kept := by
  simp [State.voidLocal]

@[simp] theorem kept_darkenSlot (s : State) (k stn : Nat) : (s.darkenSlot k stn).kept = s.kept := by
  simp [State.darkenSlot]

@[simp] theorem kept_voidRaise (s : State) (ps : List Nat) (k stn reason incident line : Nat) :
    (s.voidRaise ps k stn reason incident line).kept = s.kept := by
  unfold State.voidRaise
  (repeat' split) <;> simp

@[simp] theorem kept_voidReport (s : State) (k stn reason incident line : Nat) :
    (s.voidReport k stn reason incident line).kept = s.kept := by
  simp [State.voidReport]

@[simp] theorem kept_voidRaiseNew (s : State) (ps : List Nat) (k stn reason : Nat) :
    (s.voidRaiseNew ps k stn reason).kept = s.kept := by
  simp [State.voidRaiseNew]

@[simp] theorem kept_voidReportNew (s : State) (k stn reason : Nat) : (s.voidReportNew k stn reason).kept = s.kept := by
  simp [State.voidReportNew]

@[simp] theorem kept_voidPort (s : State) (n reason incident : Nat) : (s.voidPort n reason incident).kept = s.kept := by
  unfold State.voidPort
  split <;> simp

@[simp] theorem kept_voidImaging (s : State) (reason incident : Nat) : (s.voidImaging reason incident).kept = s.kept := by
  simp [State.voidImaging]

/-! What `Machine/ScanOps` defines. -/

@[simp] theorem kept_setScan (s : State) (n : Nat) (c : Scan) : (s.setScan n c).kept = s.kept := by
  simp [State.setScan]

@[simp] theorem kept_mapScan (s : State) (n : Nat) (f : Scan → Scan) : (s.mapScan n f).kept = s.kept := by
  simp [State.mapScan]

@[simp] theorem kept_setBand (s : State) (n b : Nat) : (s.setBand n b).kept = s.kept := by
  simp [State.setBand]

@[simp] theorem kept_loopSuspend (s : State) (n : Nat) : (s.loopSuspend n).kept = s.kept := by
  simp [State.loopSuspend]

@[simp] theorem kept_loopSuspendAll (s : State) : s.loopSuspendAll.kept = s.kept := by
  simp [State.loopSuspendAll]

@[simp] theorem kept_loopResume (s : State) (n : Nat) : (s.loopResume n).kept = s.kept := by
  simp [State.loopResume]

@[simp] theorem kept_loopResumeAll (s : State) : s.loopResumeAll.kept = s.kept := by
  simp [State.loopResumeAll]

@[simp] theorem kept_loopCheck (s : State) (n : Nat) : (s.loopCheck n).kept = s.kept := by
  simp [State.loopCheck]

@[simp] theorem kept_voidFromNext (s : State) (n reason incident : Nat) : (s.voidFromNext n reason incident).kept = s.kept := by
  simp [State.voidFromNext]

@[simp] theorem kept_voidDue (s : State) (n : Nat) : (s.voidDue n).kept = s.kept := by
  unfold State.voidDue
  split <;> simp

@[simp] theorem kept_setSweep (s : State) (n k : Nat) : (s.setSweep n k).kept = s.kept := by
  simp [State.setSweep]

@[simp] theorem kept_numberSweep (s : State) (n wposAt : Nat) : (s.numberSweep n wposAt).kept = s.kept := by
  simp [State.numberSweep]

@[simp] theorem kept_lockLost (s : State) (n : Nat) (given : Option Nat) : (s.lockLost n given).kept = s.kept := by
  simp [State.lockLost]

@[simp] theorem kept_lockStep (s : State) (n : Nat) (e : Int) : (s.lockStep n e).kept = s.kept := by
  simp [State.lockStep]

@[simp] theorem kept_deliver (s : State) (l : Nat) (v : Int) : (s.deliver l v).kept = s.kept := by
  simp [State.deliver]

@[simp] theorem kept_sosPhase (s : State) (n wposAt : Nat) : (s.sosPhase n wposAt).kept = s.kept := by
  simp [State.sosPhase]

@[simp] theorem kept_stepDelays (s : State) (n : Nat) (idle : Bool) (n' : Nat) : (s.stepDelays n idle n').kept = s.kept := by
  induction n' generalizing s with
  | zero => simp [State.stepDelays]
  | succ n' ih => simp [State.stepDelays, ih]

@[simp] theorem kept_stepBow (s : State) (n : Nat) (idle : Bool) (n' : Nat) : (s.stepBow n idle n').kept = s.kept := by
  induction n' generalizing s with
  | zero => simp [State.stepBow]
  | succ n' ih => simp [State.stepBow, ih]

@[simp] theorem kept_phoffNow (s : State) (n : Nat) : (s.phoffNow n).kept = s.kept := by
  simp [State.phoffNow]

@[simp] theorem kept_stepScalars (s : State) (n : Nat) (idle : Bool) : (s.stepScalars n idle).kept = s.kept := by
  simp [State.stepScalars]

@[simp] theorem kept_applyProfile (s : State) (n : Nat) : (s.applyProfile n).kept = s.kept := by
  unfold State.applyProfile
  split <;> simp

/-! What `Machine/LoopOps` defines. -/

@[simp] theorem kept_setLoop (s : State) (l : Nat) (x : LoopSt) : (s.setLoop l x).kept = s.kept := by
  simp [State.setLoop]

@[simp] theorem kept_ctlCommit (s : State) (l : Nat) : (s.ctlCommit l).kept = s.kept := by
  simp [State.ctlCommit]

@[simp] theorem kept_applyWords (s : State) (l k : Nat) (l' : List Nat) : (s.applyWords l k l').kept = s.kept := by
  induction l' generalizing s k with
  | nil => rfl
  | cons w l' ih => rw [State.applyWords, ih]; simp

@[simp] theorem kept_applyCommit (s : State) (l : Nat) : (s.applyCommit l).kept = s.kept := by
  unfold State.applyCommit
  split <;> simp

@[simp] theorem kept_setRc (s : State) (r : Nat) (x : Rc) : (s.setRc r x).kept = s.kept := by
  simp [State.setRc]

@[simp] theorem kept_rcRun (s : State) (l : Nat) (e : Dy) : (s.rcRun l e).2.kept = s.kept := by
  unfold State.rcRun
  dsimp only
  (repeat' split) <;> simp

@[simp] theorem kept_loopClear (s : State) (l : Nat) : (s.loopClear l).kept = s.kept := by
  simp [State.loopClear]

@[simp] theorem kept_loopStore (s : State) (l : Nat) (es us : List Int) (x u : Int) (sat : Bool) :
    (s.loopStore l es us x u sat).kept = s.kept := by
  simp [State.loopStore]

@[simp] theorem kept_runFix (s : State) (l : Nat) (err ff : Int) : (s.runFix l err ff).kept = s.kept := by
  simp [State.runFix]

@[simp] theorem kept_runBfp (s : State) (l : Nat) (err ff : Int) : (s.runBfp l err ff).kept = s.kept := by
  simp [State.runBfp]

@[simp] theorem kept_loopRun (s : State) (l : Nat) (fb err ff : Int) : (s.loopRun l fb err ff).kept = s.kept := by
  simp [State.loopRun]

@[simp] theorem kept_loopStale (s : State) (l : Nat) : (s.loopStale l).kept = s.kept := by
  simp [State.loopStale]

/-! What `Machine/Engine` defines. -/

@[simp] theorem kept_gpwmDuty (s : State) (ls : Bool) (k duty : Nat) : (s.gpwmDuty ls k duty).2.kept = s.kept := by
  unfold State.gpwmDuty
  (repeat' split) <;> simp

@[simp] theorem kept_setHv (s : State) (h : Nat) (x : Hv) : (s.setHv h x).kept = s.kept := by
  simp [State.setHv]

@[simp] theorem kept_mapHv (s : State) (h : Nat) (f : Hv → Hv) : (s.mapHv h f).kept = s.kept := by
  simp [State.mapHv]

@[simp] theorem kept_hvAcOff (s : State) (h : Nat) : (s.hvAcOff h).kept = s.kept := by
  simp [State.hvAcOff]

@[simp] theorem kept_hvTurnOff (s : State) (h : Nat) : (s.hvTurnOff h).kept = s.kept := by
  simp [State.hvTurnOff]

@[simp] theorem kept_hvArc (s : State) (h : Nat) : (s.hvArc h).kept = s.kept := by
  simp [State.hvArc]

@[simp] theorem kept_hvRun (s : State) (h l : Nat) (ff : Int) (adc : List (Option Int)) : (s.hvRun h l ff adc).kept = s.kept := by
  unfold State.hvRun
  split <;> simp

@[simp] theorem kept_hvAcRun (s : State) (h l : Nat) (ff : Int) (adc : List (Option Int)) :
    (s.hvAcRun h l ff adc).kept = s.kept := by
  unfold State.hvAcRun
  split <;> simp

@[simp] theorem kept_setZone (s : State) (z : Nat) (x : Zone) : (s.setZone z x).kept = s.kept := by
  simp [State.setZone]

@[simp] theorem kept_mapZone (s : State) (z : Nat) (f : Zone → Zone) : (s.mapZone z f).kept = s.kept := by
  simp [State.mapZone]

@[simp] theorem kept_zoneDuty (s : State) (z d : Nat) : (s.zoneDuty z d).kept = s.kept := by
  simp [State.zoneDuty]

@[simp] theorem kept_zoneRun (s : State) (z l : Nat) (ff : Int) : (s.zoneRun z l ff).kept = s.kept := by
  simp [State.zoneRun]

@[simp] theorem kept_keepLm (s : State) : s.keepLm.kept = s.kept := by
  simp [State.keepLm]

@[simp] theorem kept_routedRun (s : State) (l : Nat) (adc : List (Option Int)) : (s.routedRun l adc).kept = s.kept := by
  unfold State.routedRun
  split <;> simp

@[simp] theorem kept_freeOut (s : State) (l : Nat) : (s.freeOut l).kept = s.kept := by
  simp [State.freeOut]

@[simp] theorem kept_axisSlowRun (s : State) (o : Owner) (l : Nat) (adc : List (Option Int)) :
    (s.axisSlowRun o l adc).kept = s.kept := by
  unfold State.axisSlowRun
  split <;> simp

@[simp] theorem kept_loopIdle (s : State) (l : Nat) (o : Owner) : (s.loopIdle l o).kept = s.kept := by
  unfold State.loopIdle
  split <;> simp

@[simp] theorem kept_loopTurn (s : State) (adc : List (Option Int)) (l : Nat) : (s.loopTurn adc l).kept = s.kept := by
  unfold State.loopTurn
  dsimp only
  (repeat' split) <;> simp

@[simp] theorem kept_spaTake (s : State) (n : Nat) (v : Option Int) : (s.spaTake n v).kept = s.kept := by
  unfold State.spaTake
  split <;> simp

/-! What `Machine/MotionOps` defines. -/

@[simp] theorem kept_motErr (s : State) : s.motErr.kept = s.kept := by
  simp [State.motErr]

@[simp] theorem kept_showProfile (s : State) (i : Nat) : (s.showProfile i).kept = s.kept := by
  simp [State.showProfile]

@[simp] theorem kept_moveEnd (s : State) (i : Nat) : (s.moveEnd i).kept = s.kept := by
  simp [State.moveEnd]

@[simp] theorem kept_moveBy (s : State) (i : Nat) (a : Int) : (s.moveBy i a).kept = s.kept := by
  simp [State.moveBy]

@[simp] theorem kept_limitVel (s : State) (i : Nat) (vt : Int) : (s.limitVel i vt).kept = s.kept := by
  simp [State.limitVel]

@[simp] theorem kept_limitMove (s : State) (i : Nat) : (s.limitMove i).kept = s.kept := by
  simp [State.limitMove]

@[simp] theorem kept_gearEngage (s : State) (i : Nat) : (s.gearEngage i).kept = s.kept := by
  simp [State.gearEngage]

@[simp] theorem kept_gearTrack (s : State) (i : Nat) (g vg : Int) : (s.gearTrack i g vg).kept = s.kept := by
  simp [State.gearTrack]

@[simp] theorem kept_gearBlend (s : State) (i : Nat) (g vg : Int) : (s.gearBlend i g vg).kept = s.kept := by
  simp [State.gearBlend]

@[simp] theorem kept_gearStep (s : State) (i : Nat) : (s.gearStep i).kept = s.kept := by
  simp [State.gearStep]

@[simp] theorem kept_profileStep (s : State) (i : Nat) : (s.profileStep i).kept = s.kept := by
  unfold State.profileStep
  split <;> simp

@[simp] theorem kept_axisRelease (s : State) (i st : Nat) : (s.axisRelease i st).kept = s.kept := by
  simp [State.axisRelease]

@[simp] theorem kept_coastAxis (s : State) (i : Nat) : (s.coastAxis i).kept = s.kept := by
  simp [State.coastAxis]

@[simp] theorem kept_coastAll (s : State) : s.coastAll.kept = s.kept := by
  simp [State.coastAll]

@[simp] theorem kept_axisStart (s : State) (i : Nat) : (s.axisStart i).kept = s.kept := by
  simp [State.axisStart]

@[simp] theorem kept_closeLoops (s : State) (i : Nat) : (s.closeLoops i).kept = s.kept := by
  simp [State.closeLoops]

@[simp] theorem kept_axisStop (s : State) (i : Nat) : (s.axisStop i).kept = s.kept := by
  simp [State.axisStop]

@[simp] theorem kept_axisMove (s : State) (i : Nat) : (s.axisMove i).kept = s.kept := by
  simp [State.axisMove]

@[simp] theorem kept_predict (s : State) (i : Nat) (cur v e : Int) : (s.predict i cur v e).2.kept = s.kept := by
  unfold State.predict
  dsimp only
  split <;> simp

@[simp] theorem kept_sample (s : State) (i : Nat) (v : Int × Int) (adc : List (Option Int)) :
    (s.sample i v adc).2.kept = s.kept := by
  unfold State.sample
  dsimp only
  split <;> simp

@[simp] theorem kept_syncLost (s : State) (i : Nat) : (s.syncLost i).kept = s.kept := by
  simp [State.syncLost]

@[simp] theorem kept_observe (s : State) (i : Nat) (c : Amps) (v : Int × Int) : (s.observe i c v).kept = s.kept := by
  simp [State.observe]

@[simp] theorem kept_loadAngle (s : State) (i : Nat) : (s.loadAngle i).kept = s.kept := by
  simp [State.loadAngle]

@[simp] theorem kept_stepperObserve (s : State) (i : Nat) (c : Amps) (v : Int × Int) :
    (s.stepperObserve i c v).kept = s.kept := by
  simp [State.stepperObserve]

/-! What `Machine/Drive` defines. -/

@[simp] theorem kept_chanFault (s : State) (c : Nat) (f : Field) : (s.chanFault c f).kept = s.kept := by
  simp [State.chanFault]

@[simp] theorem calm_execDriverFault (f : DrvFault) (mv since : Nat) (s : State) : Calm s (execDriverFault f mv since s) := by
  unfold execDriverFault
  (repeat' split) <;> simp

@[simp] theorem calm_execBrakeComparator (a mv : Nat) (s : State) : Calm s (execBrakeComparator a mv s) := by
  simp [execBrakeComparator]

@[simp] theorem kept_armWrite (s : State) (a : Nat) (v : Bool) : (s.armWrite a v).kept = s.kept := by
  simp [State.armWrite]

@[simp] theorem calm_execBrakeArmWrite (a : Nat) (v : Bool) (s : State) : Calm s (execBrakeArmWrite a v s) := by
  simp [execBrakeArmWrite]

/-! What `Machine/Fuser` defines. -/

@[simp] theorem kept_zoneWindow (s : State) (z : Nat) : (s.zoneWindow z).kept = s.kept := by
  simp [State.zoneWindow]

@[simp] theorem kept_fireZones (s : State) (due fired : List Nat) (l : List Nat) : (s.fireZones due fired l).kept = s.kept := by
  induction l generalizing s with
  | nil => simp [State.fireZones]
  | cons a l ih => simp [State.fireZones, ih]

@[simp] theorem calm_execZeroCrossing (half : Nat) (s : State) : Calm s (execZeroCrossing half s) := by
  simp [execZeroCrossing]

@[simp] theorem calm_execZeroCrossTimeout (s : State) : Calm s (execZeroCrossTimeout s) := by
  simp [execZeroCrossTimeout]

@[simp] theorem kept_zoneForce (s : State) (z : Nat) : (s.zoneForce z).kept = s.kept := by
  simp [State.zoneForce]

@[simp] theorem kept_zoneReading (s : State) (z : Nat) (temp : Option Int) : (s.zoneReading z temp).kept = s.kept := by
  unfold State.zoneReading
  split <;> simp

@[simp] theorem calm_execZoneTempUpdate (z : Nat) (adc : List (Option Int)) (s : State) :
    Calm s (execZoneTempUpdate z adc s) := by
  unfold execZoneTempUpdate
  dsimp only
  (repeat' split) <;> simp

@[simp] theorem kept_zoneOff (s : State) (z : Nat) : (s.zoneOff z).kept = s.kept := by
  simp [State.zoneOff]

/-! What `Machine/CalOps` defines. -/

@[simp] theorem kept_setCal (s : State) (n : Nat) (c : Cal) : (s.setCal n c).kept = s.kept := by
  simp [State.setCal]

@[simp] theorem kept_calWatch (s : State) (n : Nat) : (s.calWatch n).kept = s.kept := by
  simp [State.calWatch]

@[simp] theorem kept_calTrigger (s : State) (n : Nat) (host : Bool) : (s.calTrigger n host).kept = s.kept := by
  simp [State.calTrigger]

@[simp] theorem kept_calBusy (s : State) (n : Nat) (on : Bool) : (s.calBusy n on).kept = s.kept := by
  simp [State.calBusy]

@[simp] theorem kept_calCurrent (s : State) (n e ua : Nat) : (s.calCurrent n e ua).kept = s.kept := by
  simp [State.calCurrent]

@[simp] theorem kept_calLost (s : State) (n : Nat) : (s.calLost n).kept = s.kept := by
  simp [State.calLost]

@[simp] theorem kept_calSweep (s : State) (n : Nat) : (s.calSweep n).kept = s.kept := by
  simp [State.calSweep]

@[simp] theorem kept_calWidth (s : State) (k width : Nat) : (s.calWidth k width).kept = s.kept := by
  simp [State.calWidth]

@[simp] theorem kept_calNext (s : State) (n : Nat) : (s.calNext n).kept = s.kept := by
  simp [State.calNext]

@[simp] theorem kept_writeDelays (s : State) (n k : Nat) (temp : Int) (eos : Nat) (n' : Nat) :
    (s.writeDelays n k temp eos n').kept = s.kept := by
  induction n' generalizing s with
  | zero => simp [State.writeDelays]
  | succ n' ih => simp [State.writeDelays, ih]

@[simp] theorem kept_writeGains (s : State) (n : Nat) (cur : List (Nat × Nat)) (n' : Nat) :
    (s.writeGains n cur n').kept = s.kept := by
  induction n' generalizing s with
  | zero => simp [State.writeGains]
  | succ n' ih => simp [State.writeGains, ih]

@[simp] theorem kept_writeUnif (s : State) (n : Nat) (cur : List (Nat × Nat)) : (s.writeUnif n cur).kept = s.kept := by
  unfold State.writeUnif
  split <;> simp

@[simp] theorem kept_writeThr (s : State) (seen : List (Nat × Nat)) (n : Nat) : (s.writeThr seen n).kept = s.kept := by
  induction n generalizing s with
  | zero => simp [State.writeThr]
  | succ n ih => simp [State.writeThr, ih]

@[simp] theorem kept_writeDie (s : State) (zeros delays : List Int) : (s.writeDie zeros delays).kept = s.kept := by
  simp [State.writeDie]

@[simp] theorem kept_stepDie (s : State) : s.stepDie.kept = s.kept := by
  simp [State.stepDie]

@[simp] theorem kept_eposBoundary (s : State) (n : Nat) : (s.eposBoundary n).kept = s.kept := by
  unfold State.eposBoundary
  split <;> simp

@[simp] theorem kept_densBoundary (s : State) (n : Nat) : (s.densBoundary n).kept = s.kept := by
  simp [State.densBoundary]

@[simp] theorem kept_setAud (s : State) (i : Nat) (a : AudEnt) : (s.setAud i a).kept = s.kept := by
  simp [State.setAud]

@[simp] theorem kept_mapAud (s : State) (i : Nat) (f : AudEnt → AudEnt) : (s.mapAud i f).kept = s.kept := by
  simp [State.mapAud]

@[simp] theorem kept_audCount (s : State) (i : Option Nat) : (s.audCount i).kept = s.kept := by
  unfold State.audCount
  split <;> simp

@[simp] theorem kept_audBad (s : State) (i : Option Nat) : (s.audBad i).kept = s.kept := by
  unfold State.audBad
  split <;> simp

@[simp] theorem kept_noteDelays (s t : State) (n : Nat) : (s.noteDelays t n).kept = t.kept := by
  unfold State.noteDelays
  dsimp only
  split <;> simp

@[simp] theorem kept_lateral (s : State) (corr : Int) (l : List Nat) : (s.lateral corr l).kept = s.kept := by
  induction l generalizing s with
  | nil => rfl
  | cons a l ih =>
    rw [State.lateral, ih]
    simp only [kept_noteDelays]
    split <;> simp

@[simp] theorem kept_process (s : State) (stn : Nat) (corr : Int) (l : List Nat) : (s.process stn corr l).kept = s.kept := by
  induction l generalizing s with
  | nil => simp [State.process]
  | cons a l ih => simp [State.process, ih]

/-! What `Machine/HeadOps` defines. -/

@[simp] theorem kept_setHead (s : State) (n : Nat) (h : Head) : (s.setHead n h).kept = s.kept := by
  simp [State.setHead]

@[simp] theorem kept_mapHead (s : State) (n : Nat) (f : Head → Head) : (s.mapHead n f).kept = s.kept := by
  simp [State.mapHead]

@[simp] theorem kept_setExpo (s : State) (n : Nat) (x : Expo) : (s.setExpo n x).kept = s.kept := by
  simp [State.setExpo]

@[simp] theorem kept_lineSend (s : State) (p line n v : Nat) : (s.lineSend p line n v).2.kept = s.kept := by
  simp [State.lineSend]

@[simp] theorem kept_lineRecv (s : State) (p line n v : Nat) : (s.lineRecv p line n v).2.kept = s.kept := by
  simp [State.lineRecv]

@[simp] theorem kept_setLsi (s : State) (l : Lsi) : (s.setLsi l).kept = s.kept := by
  simp [State.setLsi]

@[simp] theorem kept_lsiShow (s : State) : s.lsiShow.kept = s.kept := by
  simp [State.lsiShow]

@[simp] theorem kept_lenOut (s : State) : s.lenOut.kept = s.kept := by
  simp [State.lenOut]

@[simp] theorem kept_trainStart (s : State) (n st : Nat) : (s.trainStart n st).kept = s.kept := by
  simp [State.trainStart]

@[simp] theorem kept_linkLost (s : State) (n : Nat) : (s.linkLost n).kept = s.kept := by
  simp [State.linkLost]

@[simp] theorem kept_headViolation (s : State) (n : Nat) : (s.headViolation n).kept = s.kept := by
  simp [State.headViolation]

@[simp] theorem kept_miss (s : State) (n : Nat) (x : HSlot) (lane incident : Nat) : (s.miss n x lane incident).kept = s.kept := by
  simp [State.miss]

@[simp] theorem kept_laneFail (s : State) (n l incident : Nat) : (s.laneFail n l incident).kept = s.kept := by
  simp [State.laneFail]

@[simp] theorem kept_laneNak (s : State) (n l m incident : Nat) : (s.laneNak n l m incident).kept = s.kept := by
  simp [State.laneNak]

@[simp] theorem kept_nak (s : State) (n lane seq : Nat) : (s.nak n lane seq).kept = s.kept := by
  unfold State.nak
  split <;> simp

@[simp] theorem kept_missReport (s : State) (n seq : Nat) : (s.missReport n seq).kept = s.kept := by
  unfold State.missReport
  dsimp only
  (repeat' split) <;> simp

@[simp] theorem kept_markUncov (s : State) (n : Nat) (n' : Nat) : (s.markUncov n n').kept = s.kept := by
  induction n' generalizing s with
  | zero => simp [State.markUncov]
  | succ n' ih => simp [State.markUncov, ih]

@[simp] theorem kept_deadSync (s : State) (n : Nat) : (s.deadSync n).kept = s.kept := by
  simp [State.deadSync]

@[simp] theorem kept_markDead (s : State) (n e : Nat) : (s.markDead n e).kept = s.kept := by
  simp [State.markDead]

@[simp] theorem kept_osReport (s : State) (n e ua : Nat) : (s.osReport n e ua).kept = s.kept := by
  simp [State.osReport]

@[simp] theorem kept_liftDead (s : State) (n clr : Nat) (n' : Nat) : (s.liftDead n clr n').kept = s.kept := by
  induction n' generalizing s with
  | zero => simp [State.liftDead]
  | succ n' ih => simp [State.liftDead, ih]

@[simp] theorem kept_applyExpo (s : State) (n : Nat) : (s.applyExpo n).kept = s.kept := by
  simp [State.applyExpo]

@[simp] theorem kept_stepH (s : State) (n : Nat) : (s.stepH n).kept = s.kept := by
  simp [State.stepH]

@[simp] theorem kept_stepGains (s : State) (n : Nat) (idle : Bool) (n' : Nat) : (s.stepGains n idle n').kept = s.kept := by
  induction n' generalizing s with
  | zero => simp [State.stepGains]
  | succ n' ih => simp [State.stepGains, ih]

@[simp] theorem kept_strobeVector (s : State) (n q : Nat) : (s.strobeVector n q).2.kept = s.kept := by
  unfold State.strobeVector
  dsimp only
  (repeat' split) <;> simp

@[simp] theorem kept_densErr (s : State) (n : Nat) : (s.densErr n).kept = s.kept := by
  simp [State.densErr]

@[simp] theorem kept_expoBoundary (s : State) (n : Nat) (idle : Bool) : (s.expoBoundary n idle).kept = s.kept := by
  simp [State.expoBoundary]

/-! What `Machine/HeadLink` defines. -/

@[simp] theorem kept_linkEnable (s : State) (n : Nat) (on : Bool) : (s.linkEnable n on).kept = s.kept := by
  simp [State.linkEnable]

@[simp] theorem calm_execLinkTrainingStart (n : Nat) (s : State) : Calm s (execLinkTrainingStart n s) := by
  simp [execLinkTrainingStart]

@[simp] theorem calm_execTrainingTimeout (n : Nat) (s : State) : Calm s (execTrainingTimeout n s) := by
  simp [execTrainingTimeout]

@[simp] theorem kept_sendLanes (s : State) (n seq vec spl l : Nat) (n' : Nat) :
    (s.sendLanes n seq vec spl l n').2.kept = s.kept := by
  induction n' generalizing s l with
  | zero => rfl
  | succ n' ih =>
    unfold State.sendLanes
    simp only [ih, kept_lineSend]

@[simp] theorem kept_retryTurn (s : State) (n : Nat) : (s.retryTurn n).kept = s.kept := by
  simp [State.retryTurn]

@[simp] theorem kept_darkStrobe (s : State) (n c : Nat) : (s.darkStrobe n c).kept = s.kept := by
  unfold State.darkStrobe
  split <;> simp

@[simp] theorem kept_sendSlot (s : State) (n vec : Nat) (stb sow up : Bool) : (s.sendSlot n vec stb sow up).kept = s.kept := by
  simp [State.sendSlot]

@[simp] theorem kept_rampStep (s : State) (n : Nat) : (s.rampStep n).kept = s.kept := by
  simp [State.rampStep]

@[simp] theorem calm_execHeadLinkSlot (n : Nat) (s : State) : Calm s (execHeadLinkSlot n s) := by
  unfold execHeadLinkSlot
  dsimp only
  (repeat' split) <;> simp

@[simp] theorem calm_execRetryStart (n : Nat) (s : State) : Calm s (execRetryStart n s) := by
  unfold execRetryStart
  dsimp only
  (repeat' split) <;> simp

@[simp] theorem calm_execMissReportTimeout (n : Nat) (s : State) : Calm s (execMissReportTimeout n s) := by
  unfold execMissReportTimeout
  dsimp only
  (repeat' split) <;> simp

@[simp] theorem kept_badStatus (s : State) (n : Nat) : (s.badStatus n).kept = s.kept := by
  simp [State.badStatus]

@[simp] theorem kept_monitor (s : State) (n mtype midx mval : Nat) : (s.monitor n mtype midx mval).kept = s.kept := by
  unfold State.monitor
  split <;> simp

@[simp] theorem kept_upStatus (s : State) (n f : Nat) : (s.upStatus n f).kept = s.kept := by
  simp [State.upStatus]

@[simp] theorem kept_downStatus (s : State) (n f : Nat) : (s.downStatus n f).kept = s.kept := by
  simp [State.downStatus]

@[simp] theorem kept_headFault (s : State) (n hstat : Nat) : (s.headFault n hstat).kept = s.kept := by
  simp [State.headFault]

@[simp] theorem kept_goodStatus (s : State) (n f : Nat) : (s.goodStatus n f).kept = s.kept := by
  simp [State.goodStatus]

@[simp] theorem calm_execStatusFrame (n frame : Nat) (s : State) : Calm s (execStatusFrame n frame s) := by
  simp [execStatusFrame]

@[simp] theorem calm_execOverscanReportTimeout (n e : Nat) (s : State) : Calm s (execOverscanReportTimeout n e s) := by
  simp [execOverscanReportTimeout]

@[simp] theorem calm_execLaneReturn (n : Nat) (s : State) : Calm s (execLaneReturn n s) := by
  simp [execLaneReturn]

@[simp] theorem calm_execFrameGapApply (n : Nat) (s : State) : Calm s (execFrameGapApply n s) := by
  simp [execFrameGapApply]

@[simp] theorem kept_deadClear (s : State) (n mask : Nat) : (s.deadClear n mask).kept = s.kept := by
  simp [State.deadClear]

@[simp] theorem calm_execDeadclrAll (n : Nat) (s : State) : Calm s (execDeadclrAll n s) := by
  simp [execDeadclrAll]

@[simp] theorem calm_execDeadclrOne (n e : Nat) (s : State) : Calm s (execDeadclrOne n e s) := by
  simp [execDeadclrOne]

@[simp] theorem calm_execBandChange (n : Nat) (s : State) : Calm s (execBandChange n s) := by
  simp [execBandChange]

/-! What `Machine/Heat` defines. -/

@[simp] theorem kept_setTherm (s : State) (m : Nat) (x : Therm) : (s.setTherm m x).kept = s.kept := by
  simp [State.setTherm]

@[simp] theorem kept_mapTherm (s : State) (m : Nat) (f : Therm → Therm) : (s.mapTherm m f).kept = s.kept := by
  simp [State.mapTherm]

@[simp] theorem kept_thmTaken (s : State) (m : Nat) : (s.thmTaken m).kept = s.kept := by
  simp [State.thmTaken]

@[simp] theorem kept_thmCorrect (s : State) (m tenths : Nat) (v : Option Int) : (s.thmCorrect m tenths v).kept = s.kept := by
  unfold State.thmCorrect
  split <;> simp

@[simp] theorem kept_thmRecord (s : State) (m level : Nat) : (s.thmRecord m level).kept = s.kept := by
  simp [State.thmRecord]

@[simp] theorem kept_setShut (s : State) (m : Nat) (on : Bool) : (s.setShut m on).kept = s.kept := by
  simp [State.setShut]

@[simp] theorem kept_thmLevels (s : State) (m : Nat) : (s.thmLevels m).kept = s.kept := by
  simp [State.thmLevels]

@[simp] theorem kept_thmShow (s : State) (m p : Nat) : (s.thmShow m p).kept = s.kept := by
  simp [State.thmShow]

@[simp] theorem kept_dieReading (s : State) (m : Nat) (die : Option Int) : (s.dieReading m die).kept = s.kept := by
  unfold State.dieReading
  (repeat' split) <;> simp

@[simp] theorem kept_thmUpdate (s : State) (m p : Nat) (v : Option Int) : (s.thmUpdate m p v).kept = s.kept := by
  simp [State.thmUpdate]

@[simp] theorem kept_thmIdle (s : State) (m : Nat) : (s.thmIdle m).kept = s.kept := by
  simp [State.thmIdle]

@[simp] theorem calm_execThermalModelUpdate (m p : Nat) (die : Option Int) (adc : List (Option Int)) (s : State) :
    Calm s (execThermalModelUpdate m p die adc s) := by
  simp [execThermalModelUpdate]

@[simp] theorem calm_execLimitFactorStep (m : Nat) (s : State) : Calm s (execLimitFactorStep m s) := by
  simp [execLimitFactorStep]

/-! What `Machine/HighVoltage` defines. -/

@[simp] theorem calm_execCoefficientCommit (l : Nat) (s : State) : Calm s (execCoefficientCommit l s) := by
  simp [execCoefficientCommit]

@[simp] theorem calm_execRcClr (r : Nat) (s : State) : Calm s (execRcClr r s) := by
  simp [execRcClr]

@[simp] theorem kept_hvEnable (s : State) (h : Nat) (on : Bool) : (s.hvEnable h on).kept = s.kept := by
  simp [State.hvEnable]

@[simp] theorem calm_execHvEnable (h : Nat) (on : Bool) (s : State) : Calm s (execHvEnable h on s) := by
  simp [execHvEnable]

@[simp] theorem kept_hvAcen (s : State) (h : Nat) (on : Bool) : (s.hvAcen h on).kept = s.kept := by
  simp [State.hvAcen]

@[simp] theorem calm_execAcen (h : Nat) (on : Bool) (s : State) : Calm s (execAcen h on s) := by
  simp [execAcen]

@[simp] theorem calm_execArcHoldEnd (h : Nat) (s : State) : Calm s (execArcHoldEnd h s) := by
  simp [execArcHoldEnd]

@[simp] theorem calm_execHvRegTimeout (h : Nat) (s : State) : Calm s (execHvRegTimeout h s) := by
  simp [execHvRegTimeout]

@[simp] theorem calm_execAcExcitationCycle (h : Nat) (s : State) : Calm s (execAcExcitationCycle h s) := by
  simp [execAcExcitationCycle]

@[simp] theorem kept_hvEscalate (s : State) (h : Nat) : (s.hvEscalate h).kept = s.kept := by
  simp [State.hvEscalate]

@[simp] theorem kept_hvLift (s : State) : s.hvLift.kept = s.kept := by
  simp [State.hvLift]

/-! What `Machine/Motion` defines. -/

@[simp] theorem calm_execStart (i : Nat) (s : State) : Calm s (execStart i s) := by
  simp [execStart]

@[simp] theorem kept_seedObserver (s : State) (i ang : Nat) (speed : Int) : (s.seedObserver i ang speed).kept = s.kept := by
  simp [State.seedObserver]

@[simp] theorem calm_execSensingEnd (i amp freq : Nat) (fwd : Bool) (ang : Nat) (vsw : List Nat) (s : State) :
    Calm s (execSensingEnd i amp freq fwd ang vsw s) := by
  simp [execSensingEnd]

@[simp] theorem calm_execAlignEnd (i : Nat) (s : State) : Calm s (execAlignEnd i s) := by
  simp [execAlignEnd]

@[simp] theorem calm_execStopCmd (i : Nat) (s : State) : Calm s (execStopCmd i s) := by
  simp [execStopCmd]

@[simp] theorem calm_execCoast (i : Nat) (s : State) : Calm s (execCoast i s) := by
  simp [execCoast]

@[simp] theorem calm_execMove (i : Nat) (s : State) : Calm s (execMove i s) := by
  simp [execMove]

@[simp] theorem kept_q15 (s : State) (i : Nat) (ma : Int) : (s.q15 i ma).2.kept = s.kept := by
  unfold State.q15
  dsimp only
  split <;> simp

@[simp] theorem kept_currentSet (s : State) (i : Nat) : (s.currentSet i).2.2.kept = s.kept := by
  unfold State.currentSet
  dsimp only
  (repeat' split) <;> simp

@[simp] theorem kept_currentRun (s : State) (l : Nat) (fb sp : Int) (stale : Bool) :
    (s.currentRun l fb sp stale).kept = s.kept := by
  simp [State.currentRun]

@[simp] theorem kept_modulate (s : State) (i : Nat) : (s.modulate i).kept = s.kept := by
  simp [State.modulate]

@[simp] theorem kept_currentLoops (s : State) (i : Nat) (stale : Bool) : (s.currentLoops i stale).kept = s.kept := by
  simp [State.currentLoops]

@[simp] theorem kept_atSpeed (s : State) (i : Nat) : (s.atSpeed i).kept = s.kept := by
  simp [State.atSpeed]

@[simp] theorem kept_axisAdvance (s : State) (i : Nat) : (s.axisAdvance i).kept = s.kept := by
  simp [State.axisAdvance]

@[simp] theorem kept_axisPeriod (s : State) (i : Nat) (adc : List (Option Int)) : (s.axisPeriod i adc).kept = s.kept := by
  simp [State.axisPeriod]

@[simp] theorem kept_idlePeriod (s : State) (i : Nat) (adc : List (Option Int)) : (s.idlePeriod i adc).kept = s.kept := by
  simp [State.idlePeriod]

/-! What `Machine/Reference` defines. -/

@[simp] theorem kept_refRecord (s : State) (type : Nat) (ppm : Nat) : (s.refRecord type ppm).kept = s.kept := by
  simp [State.refRecord]

@[simp] theorem kept_holdoverState (s : State) : s.holdoverState.kept = s.kept := by
  unfold State.holdoverState
  split <;> simp

@[simp] theorem kept_holdover (s : State) : s.holdover.kept = s.kept := by
  simp [State.holdover]

@[simp] theorem kept_refGrade (s : State) (r : Nat) (ppm : Int) : (s.refGrade r ppm).kept = s.kept := by
  simp [State.refGrade]

@[simp] theorem kept_holdoverWindow (s : State) : s.holdoverWindow.kept = s.kept := by
  simp [State.holdoverWindow]

@[simp] theorem calm_execReferenceWindow (a b : Int) (s : State) : Calm s (execReferenceWindow a b s) := by
  simp [execReferenceWindow]

@[simp] theorem calm_execReferenceDead (r : Nat) (s : State) : Calm s (execReferenceDead r s) := by
  unfold execReferenceDead
  dsimp only
  (repeat' split) <;> simp

@[simp] theorem calm_execReferenceEdgeReturn (r : Nat) (s : State) : Calm s (execReferenceEdgeReturn r s) := by
  simp [execReferenceEdgeReturn]

@[simp] theorem calm_execReferenceSwitch (s : State) : Calm s (execReferenceSwitch s) := by
  unfold execReferenceSwitch
  (repeat' split) <;> simp

@[simp] theorem calm_execReferenceSwitchComplete (s : State) : Calm s (execReferenceSwitchComplete s) := by
  simp [execReferenceSwitchComplete]

@[simp] theorem kept_swReq (s : State) : s.swReq.kept = s.kept := by
  simp [State.swReq]

@[simp] theorem calm_execSwreq (s : State) : Calm s (execSwreq s) := by
  simp [execSwreq]

/-! What `Machine/RingOps` defines. -/

@[simp] theorem kept_retire (s : State) : s.retire.kept = s.kept := by
  simp [State.retire]

@[simp] theorem kept_relinquish (s : State) : s.relinquish.kept = s.kept := by
  simp [State.relinquish]

@[simp] theorem kept_ringViolation (s : State) (h : Hdr) : (s.ringViolation h).kept = s.kept := by
  simp [State.ringViolation]

@[simp] theorem kept_rxTerm (s : State) (h : Hdr) (anyTerm : Bool) : (s.rxTerm h anyTerm).1.kept = s.kept := by
  unfold State.rxTerm
  dsimp only
  (repeat' split) <;> simp

@[simp] theorem kept_rxBad (s : State) (h : Hdr) : (s.rxBad h).kept = s.kept := by
  simp [State.rxBad]

@[simp] theorem kept_rxAgain (s : State) (h : Hdr) : (s.rxAgain h).kept = s.kept := by
  simp [State.rxAgain]

@[simp] theorem kept_rxFrame (s : State) (h : Hdr) (anyTerm : Bool) : (s.rxFrame h anyTerm).1.kept = s.kept := by
  unfold State.rxFrame
  dsimp only
  (repeat' split) <;> simp

@[simp] theorem kept_relay (s : State) (h : Hdr) (m : RingMsg) : (s.relay h m).kept = s.kept := by
  simp [State.relay]

@[simp] theorem kept_forward (s : State) (h : Hdr) (m : RingMsg) : (s.forward h m).kept = s.kept := by
  simp [State.forward]

@[simp] theorem kept_undelivered (s : State) (h : Hdr) (x : RingMsg) : (s.undelivered h x).kept = s.kept := by
  unfold State.undelivered
  split <;> simp

@[simp] theorem kept_onFrame (s : State) (h : Hdr) (m : RingMsg) (body : State → State) (hbody : ∀ u, (body u).kept = u.kept) :
    (s.onFrame h m body).kept = s.kept := by
  unfold State.onFrame
  dsimp only
  (repeat' split) <;> simp [hbody]

@[simp] theorem kept_nearFrame (s : State) (h : Hdr) (body : State → State) (hbody : ∀ u, (body u).kept = u.kept) :
    (s.nearFrame h body).kept = s.kept := by
  unfold State.nearFrame
  dsimp only
  split <;> simp [hbody]

/-! What `Machine/Store` defines. -/

@[simp] theorem kept_identify (s : State) (d : Nat) (i : DriveId) (x : Namespace) : (s.identify d i x).kept = s.kept := by
  simp [State.identify]

@[simp] theorem kept_driveOnline (s : State) (d : Nat) : (s.driveOnline d).kept = s.kept := by
  simp [State.driveOnline]

@[simp] theorem kept_bindDrive (s : State) (d : Nat) (x : Option DriveId) : (s.bindDrive d x).kept = s.kept := by
  unfold State.bindDrive
  (repeat' split) <;> simp

@[simp] theorem kept_bindDrives (s : State) (ds : List DriveId) (n : Nat) : (s.bindDrives ds n).kept = s.kept := by
  induction n generalizing s with
  | zero => simp [State.bindDrives]
  | succ n ih => simp [State.bindDrives, ih]

@[simp] theorem kept_storeEnable (s : State) (ds : List DriveId) (label : Option Label) :
    (s.storeEnable ds label).kept = s.kept := by
  simp [State.storeEnable]

@[simp] theorem calm_execStoreEnable (drives : List DriveId) (label : Option Label) (s : State) :
    Calm s (execStoreEnable drives label s) := by
  simp [execStoreEnable]

@[simp] theorem kept_storeFormat (s : State) (key : Nat) : (s.storeFormat key).kept = s.kept := by
  simp [State.storeFormat]

@[simp] theorem calm_execStoFormat (key : Nat) (s : State) : Calm s (execStoFormat key s) := by
  simp [execStoFormat]

@[simp] theorem kept_reserveDo (s : State) (acct n at0 : Nat) : (s.reserveDo acct n at0).2.2.2.kept = s.kept := by
  unfold State.reserveDo
  dsimp only
  (repeat' split) <;> simp

@[simp] theorem kept_releaseDo (s : State) (acct i : Nat) : (s.releaseDo acct i).2.kept = s.kept := by
  unfold State.releaseDo
  dsimp only
  (repeat' split) <;> simp

@[simp] theorem calm_execReleaseComplete (ext : Nat) (s : State) : Calm s (execReleaseComplete ext s) := by
  simp [execReleaseComplete]

@[simp] theorem kept_addTiles (s : State) (bs : List Byte) (k stn cols : Nat) (r : SlotRec) (n : Nat) :
    (s.addTiles bs k stn cols r n).kept = s.kept := by
  induction n generalizing s with
  | zero => simp [State.addTiles]
  | succ n ih => simp [State.addTiles, ih]

@[simp] theorem kept_takeRefs (s : State) (k : Nat) (exts : List Nat) : (s.takeRefs k exts).kept = s.kept := by
  simp [State.takeRefs]

@[simp] theorem kept_fetchTable (s : State) (k stn : Nat) : (s.fetchTable k stn).kept = s.kept := by
  simp [State.fetchTable]

@[simp] theorem kept_tableCame (s : State) (t : Tile) : (s.tableCame t).kept = s.kept := by
  simp [State.tableCame]

@[simp] theorem kept_readFirst (s : State) (d : Nat) : (s.readFirst d).2.kept = s.kept := by
  unfold State.readFirst
  dsimp only
  (repeat' split) <;> simp

@[simp] theorem kept_readLost (s : State) (incident : Nat) (fs : List Fetch) : (s.readLost incident fs).kept = s.kept := by
  simp [State.readLost]

@[simp] theorem kept_ingestFail (s : State) (ext code : Nat) : (s.ingestFail ext code).kept = s.kept := by
  unfold State.ingestFail
  split <;> simp

@[simp] theorem kept_lose (s : State) (c : Nvme) : (s.lose c).kept = s.kept := by
  unfold State.lose
  split <;> simp

@[simp] theorem kept_command (s : State) (c : Nvme) : (s.command c).kept = s.kept := by
  simp [State.command]

@[simp] theorem kept_storeWrite (s : State) (ext addr : Nat) (bs : List Byte) : (s.storeWrite ext addr bs).kept = s.kept := by
  simp [State.storeWrite]

@[simp] theorem calm_execPrefetchIssue (s : State) : Calm s (execPrefetchIssue s) := by
  unfold execPrefetchIssue
  dsimp only
  (repeat' split) <;> simp

@[simp] theorem kept_driveViol (s : State) (d : Nat) : (s.driveViol d).kept = s.kept := by
  simp [State.driveViol]

@[simp] theorem kept_driveFailed (s : State) (d incident : Nat) : (s.driveFailed d incident).kept = s.kept := by
  simp [State.driveFailed]

@[simp] theorem kept_withIncident (s : State) (c : Nvme) : (s.withIncident c).2.kept = s.kept := by
  unfold State.withIncident
  split <;> simp

@[simp] theorem kept_cmdFailed (s : State) (c : Nvme) : (s.cmdFailed c).kept = s.kept := by
  simp [State.cmdFailed]

@[simp] theorem kept_ingestNext (s : State) (ext : Nat) : (s.ingestNext ext).kept = s.kept := by
  unfold State.ingestNext
  (repeat' split) <;> simp

@[simp] theorem calm_execNvmeTimeout (cid : Nat) (s : State) : Calm s (execNvmeTimeout cid s) := by
  unfold execNvmeTimeout
  (repeat' split) <;> simp

@[simp] theorem calm_execReadDeadline (slot stn row : Nat) (s : State) : Calm s (execReadDeadline slot stn row s) := by
  simp [execReadDeadline]

@[simp] theorem kept_checkFailed (s : State) (col : Nat) (l : List Nat) : (s.checkFailed col l).kept = s.kept := by
  induction l generalizing s with
  | nil => simp [State.checkFailed]
  | cons a l ih => simp [State.checkFailed, ih]

@[simp] theorem calm_execTileDecode (slot stn row col : Nat) (s : State) : Calm s (execTileDecode slot stn row col s) := by
  unfold execTileDecode
  (repeat' split) <;> simp

@[simp] theorem calm_execDriveViolation (drive : Nat) (kind : DriveViol) (s : State) :
    Calm s (execDriveViolation drive kind s) := by
  unfold execDriveViolation
  (repeat' split) <;> simp

@[simp] theorem calm_execDriveFatalStatus (drive : Nat) (s : State) : Calm s (execDriveFatalStatus drive s) := by
  simp [execDriveFatalStatus]

@[simp] theorem kept_underrun (s : State) (n : Nat) : (s.underrun n).kept = s.kept := by
  simp [State.underrun]

/-! What `Machine/TellerOps` defines. -/

@[simp] theorem kept_tellerGo (s : State) (t : Nat) : (s.tellerGo t).kept = s.kept := by
  simp [State.tellerGo]

@[simp] theorem kept_tellerStop (s : State) (t : Nat) : (s.tellerStop t).kept = s.kept := by
  simp [State.tellerStop]

@[simp] theorem kept_releaseClaims (s : State) (t : Nat) : (s.releaseClaims t).kept = s.kept := by
  simp [State.releaseClaims]

@[simp] theorem kept_dropRequester (s : State) (t : Nat) (n : Nat) : (s.dropRequester t n).kept = s.kept := by
  induction n generalizing s with
  | zero => simp [State.dropRequester]
  | succ n ih => simp [State.dropRequester, ih]

@[simp] theorem kept_eachTeller (f : Nat → State → State) (mask : Nat) (s : State) (n : Nat)
    (hf : ∀ t u, (f t u).kept = u.kept) : (s.eachTeller f mask n).kept = s.kept := by
  induction n with
  | zero => rfl
  | succ n ih =>
    unfold State.eachTeller
    dsimp only
    split <;> simp [hf, ih]

@[simp] theorem calm_execTlrGo (mask : Nat) (s : State) : Calm s (execTlrGo mask s) := by
  simp [execTlrGo]

@[simp] theorem calm_execTlrStop (mask : Nat) (s : State) : Calm s (execTlrStop mask s) := by
  simp [execTlrStop]

/-! What `Machine/Position` defines. -/

@[simp] theorem calm_posOp (t pd ps pt : Nat) (f : Pos → Pos → Pos) (s : State) : Calm s (posOp t pd ps pt f s) := by
  simp [posOp]

@[simp] theorem calm_execPadd (t rd rs rt : Nat) (s : State) : Calm s (execPadd t rd rs rt s) := by
  simp [execPadd]

@[simp] theorem calm_execPsub (t rd rs rt : Nat) (s : State) : Calm s (execPsub t rd rs rt s) := by
  simp [execPsub]

@[simp] theorem calm_execPmov (t rd rs : Nat) (s : State) : Calm s (execPmov t rd rs s) := by
  simp [execPmov]

@[simp] theorem calm_execPmax (t rd rs rt : Nat) (s : State) : Calm s (execPmax t rd rs rt s) := by
  simp [execPmax]

@[simp] theorem calm_execMvgp (t rd rs rt : Nat) (s : State) : Calm s (execMvgp t rd rs rt s) := by
  simp [execMvgp]

@[simp] theorem calm_execMvpgl (t rd rs : Nat) (s : State) : Calm s (execMvpgl t rd rs s) := by
  simp [execMvpgl]

@[simp] theorem calm_execMvpgh (t rd rs : Nat) (s : State) : Calm s (execMvpgh t rd rs s) := by
  simp [execMvpgh]

@[simp] theorem calm_posImm (t pd ps : Nat) (f : Pos → Pos) (s : State) : Calm s (posImm t pd ps f s) := by
  simp [posImm]

@[simp] theorem calm_execPaddi (t pd ps : Nat) (imm : BitVec 16) (s : State) : Calm s (execPaddi t pd ps imm s) := by
  simp [execPaddi]

@[simp] theorem calm_execPaddfi (t pd ps : Nat) (imm : BitVec 16) (s : State) : Calm s (execPaddfi t pd ps imm s) := by
  simp [execPaddfi]

@[simp] theorem calm_execRdpos (t pd : Nat) (s : State) : Calm s (execRdpos t pd s) := by
  simp [execRdpos]

@[simp] theorem calm_execPstn (t pd ps station : Nat) (s : State) : Calm s (execPstn t pd ps station s) := by
  simp [execPstn]

@[simp] theorem calm_execPwrt (t pd ps station : Nat) (s : State) : Calm s (execPwrt t pd ps station s) := by
  simp [execPwrt]

@[simp] theorem calm_execRdhwm (t pd : Nat) (s : State) : Calm s (execRdhwm t pd s) := by
  simp [execRdhwm]

@[simp] theorem calm_execWaitpos (t ps : Nat) (s : State) : Calm s (execWaitpos t ps s) := by
  simp [execWaitpos]

@[simp] theorem calm_execWaitposResume (t : Nat) (s : State) : Calm s (execWaitposResume t s) := by
  unfold execWaitposResume
  (repeat' split) <;> simp

@[simp] theorem calm_execArm (t ps n : Nat) (s : State) : Calm s (execArm t ps n s) := by
  simp [execArm]

@[simp] theorem calm_execDisarm (t n : Nat) (s : State) : Calm s (execDisarm t n s) := by
  simp [execDisarm]

/-! What `Machine/Web` defines. -/

@[simp] theorem kept_setPos (s : State) (p : Posn) (h : p.out = s.pos.out) : (s.setPos p).kept = s.kept := by
  simp [State.setPos, h]

@[simp] theorem kept_syncInhibit (s : State) : s.syncInhibit.kept = s.kept := by
  simp [State.syncInhibit]

@[simp] theorem kept_setHwm (s : State) (w : Nat) : (s.setHwm w).kept = s.kept := by
  simp [State.setHwm]

@[simp] theorem kept_inhibitRange (s : State) : s.inhibitRange.kept = s.kept := by
  simp [State.inhibitRange]

theorem kept_setPos_of {s u : State} {p : Posn} (h : s.kept = u.kept) (hp : p.out = u.pos.out) :
    (s.setPos p).kept = u.kept :=
  (kept_setPos s p (hp.trans (congrArg Kept.out h).symm)).trans h

@[simp] theorem kept_reverseStep (s : State) (raw : Int) : (s.reverseStep raw).kept = s.kept := by
  unfold State.reverseStep
  extract_lets db deep started before s1 grown s2 p s3 p'
  have h1 : s1.kept = s.kept := by
    unfold s1
    split <;> simp
  have h2 : s2.kept = s.kept := (kept_incBy ..).trans h1
  have h3 : s3.kept = s.kept := (kept_setPos _ _ rfl).trans h2
  split
  · split
    · simp only [kept_inhibitRange, kept_syncInhibit]
      exact (kept_setPos _ _ rfl).trans h3
    · exact h3
  · simp

@[simp] theorem kept_reregMoved (s : State) : s.reregMoved.kept = s.kept := by
  simp [State.reregMoved]

@[simp] theorem kept_reverseRelease (s : State) : s.reverseRelease.kept = s.kept := by
  simp [State.reverseRelease]

@[simp] theorem kept_inhibitHere (s : State) : s.inhibitHere.kept = s.kept := by
  simp [State.inhibitHere]

@[simp] theorem kept_addCount (s : State) (n : Nat) (d : Int) : (s.addCount n d).kept = s.kept := by
  simp [State.addCount]

@[simp] theorem kept_holdStep (s : State) (n : Nat) (h : Option Nat) : (s.holdStep n h).kept = s.kept := by
  simp [State.holdStep]

@[simp] theorem kept_encoderEvent (s : State) (n : Nat) (e : EncEvent) : (s.encoderEvent n e).kept = s.kept := by
  unfold State.encoderEvent
  dsimp only
  (repeat' split) <;> simp

@[simp] theorem calm_execBeaconSend (s : State) : Calm s (execBeaconSend s) := by
  simp [execBeaconSend]

@[simp] theorem kept_checkCopy (s : State) (dir : Nat) (b : Beacon) (at2 : Nat) : (s.checkCopy dir b at2).kept = s.kept := by
  unfold State.checkCopy
  split <;> simp

@[simp] theorem kept_standbyOffset (s : State) : s.standbyOffset.kept = s.kept := by
  unfold State.standbyOffset
  split
  · extract_lets own hist mx mn mean p s1
    have h1 : s1.kept = s.kept := kept_setPos _ _ rfl
    split
    · rw [kept_raise, h1]
    · exact h1
  · rfl

@[simp] theorem kept_takeBeacon (s : State) (dir : Nat) (b : Beacon) (at1 : Nat) : (s.takeBeacon dir b at1).kept = s.kept := by
  simp [State.takeBeacon]

@[simp] theorem kept_takeCopy (s : State) (dir : Nat) (b : Beacon) (at1 : Nat) : (s.takeCopy dir b at1).kept = s.kept := by
  simp [State.takeCopy]

@[simp] theorem kept_takeHeld (s : State) : s.takeHeld.kept = s.kept := by
  unfold State.takeHeld
  split <;> simp

@[simp] theorem kept_unfollow (s : State) : s.unfollow.kept = s.kept := by
  simp [State.unfollow]

@[simp] theorem kept_followBeacon (s : State) (h : Hdr) (b : Beacon) : (s.followBeacon h b).kept = s.kept := by
  unfold State.followBeacon
  extract_lets p s0 m s1 now s2 p'
  have h0 : s0.kept = s.kept := by
    unfold s0
    rw [kept_unfollow]
    exact kept_setPos_of (kept_setFld ..) rfl
  have h1 : s1.kept = s.kept := by
    unfold s1
    split
    · exact h0
    · rfl
  have h2 : s2.kept = s.kept := (kept_takeHeld _).trans h1
  split
  · split
    · rw [kept_takeCopy, h1]
    · rw [kept_takeCopy, kept_takeHeld, h1]
  · split
    · rw [kept_checkCopy, h2]
    · exact (kept_setPos _ _ rfl).trans h2

@[simp] theorem calm_execBeacon (h : Hdr) (b : Beacon) (s : State) : Calm s (execBeacon h b s) := by
  simp [execBeacon]

@[simp] theorem calm_execDeadReckoning (s : State) : Calm s (execDeadReckoning s) := by
  simp [execDeadReckoning]

@[simp] theorem calm_execPositionLost (s : State) : Calm s (execPositionLost s) := by
  simp [execPositionLost]

@[simp] theorem calm_execLineMasterEdge (interval : Nat) (s : State) : Calm s (execLineMasterEdge interval s) := by
  simp [execLineMasterEdge]

@[simp] theorem calm_execLineMasterTimeout (s : State) : Calm s (execLineMasterTimeout s) := by
  simp [execLineMasterTimeout]

@[simp] theorem kept_extrapolate (s : State) : s.extrapolate.kept = s.kept := by
  simp [State.extrapolate]

@[simp] theorem kept_estimatorStep (s : State) : s.estimatorStep.kept = s.kept := by
  simp [State.estimatorStep]

@[simp] theorem kept_standbyCount (s : State) : s.standbyCount.kept = s.kept := by
  simp [State.standbyCount]

/-! What `Machine/FaultOps` defines. -/

@[simp] theorem kept_driveOffline (s : State) (d : Nat) : (s.driveOffline d).kept = s.kept := by
  simp [State.driveOffline]

@[simp] theorem kept_portBlank (s : State) (b n reason : Nat) : (s.portBlank b n reason).kept = s.kept := by
  simp [State.portBlank]

@[simp] theorem kept_timEscalate (s : State) : s.timEscalate.kept = s.kept := by
  simp [State.timEscalate]

@[simp] theorem kept_liftPorts (s : State) (f : Nat → State → State) (n : Nat)
    (hf : ∀ t u, (f t u).kept = u.kept) : (s.liftPorts f n).kept = s.kept := by
  induction n with
  | zero => rfl
  | succ n ih => rw [State.liftPorts, hf, ih]

@[simp] theorem kept_lift (s : State) (b : Nat) : (s.lift b).kept = s.kept := by
  unfold State.lift
  split <;> simp

@[simp] theorem kept_audWho (s : State) (i : Nat) (who : Option Nat) : (s.audWho i who).kept = s.kept := by
  unfold State.audWho
  split <;> simp

@[simp] theorem kept_audAt (s : State) (x : Option Nat) : (s.audAt x).2.2.kept = s.kept := by
  unfold State.audAt
  split <;> simp

@[simp] theorem kept_driveTurn (s : State) (code from_ upto : Nat) : (s.driveTurn code from_ upto).kept = s.kept := by
  unfold State.driveTurn
  split <;> simp

@[simp] theorem kept_audSet (s : State) (i st pos : Nat) : (s.audSet i st pos).kept = s.kept := by
  simp [State.audSet]

@[simp] theorem kept_audRun (s : State) (i : Nat) : (s.audRun i).kept = s.kept := by
  unfold State.audRun
  dsimp only
  split <;> simp

@[simp] theorem kept_audWait (s : State) (i : Nat) (line : Option Nat) : (s.audWait i line).2.kept = s.kept := by
  simp [State.audWait]

@[simp] theorem kept_audRequest (s : State) (code : Nat) (who : Option Nat) (incident : Nat) :
    (s.audRequest code who incident).2.2.kept = s.kept := by
  unfold State.audRequest
  (repeat' split) <;> simp

@[simp] theorem kept_syncDefer (s : State) (b : Nat) : (s.syncDefer b).kept = s.kept := by
  simp [State.syncDefer]

@[simp] theorem kept_lastingHandOver (s : State) (b : Nat) : (s.lastingHandOver b).kept = s.kept := by
  simp [State.lastingHandOver]

@[simp] theorem kept_auditFailed (s : State) (b : Nat) : (s.auditFailed b).kept = s.kept := by
  simp [State.auditFailed]

@[simp] theorem kept_closeIncident (s : State) (b : Nat) : (s.closeIncident b).kept = s.kept := by
  simp [State.closeIncident]

@[simp] theorem kept_auditsPassed (s : State) (b : Nat) : (s.auditsPassed b).kept = s.kept := by
  simp [State.auditsPassed]

@[simp] theorem kept_wantSwap (s : State) (b : Nat) (w : Want) (new : List Want) : (s.wantSwap b w new).kept = s.kept := by
  simp [State.wantSwap]

@[simp] theorem kept_wantStep (s : State) (b : Nat) (w : Want) : (s.wantStep b w).kept = s.kept := by
  unfold State.wantStep
  dsimp only
  (repeat' split) <;> simp

@[simp] theorem kept_wants (s : State) (b : Nat) : (s.wants b).kept = s.kept := by
  simp [State.wants]

@[simp] theorem kept_blockTurn (s : State) (b : Nat) : (s.blockTurn b).kept = s.kept := by
  simp [State.blockTurn]

@[simp] theorem kept_faultTurn (s : State) (n : Nat) : (s.faultTurn n).kept = s.kept := by
  induction n generalizing s with
  | zero => simp [State.faultTurn]
  | succ n ih => simp [State.faultTurn, ih]

@[simp] theorem kept_auditAnswer (s : State) (code : Nat) (pass : Bool) (n : Nat) :
    (s.auditAnswer code pass n).kept = s.kept := by
  induction n generalizing s with
  | zero => simp [State.auditAnswer]
  | succ n ih => simp [State.auditAnswer, ih]

@[simp] theorem kept_quietEnd (s : State) (b : Nat) : (s.quietEnd b).kept = s.kept := by
  simp [State.quietEnd]

@[simp] theorem kept_blkRst (s : State) (key b : Nat) : (s.blkRst key b).kept = s.kept := by
  simp [State.blkRst]

/-! What `Machine/Frames` defines. -/

@[simp] theorem kept_showSlot (s : State) (n k phase : Nat) : (s.showSlot n k phase).kept = s.kept := by
  simp [State.showSlot]

@[simp] theorem kept_showNone (s : State) (n phase : Nat) : (s.showNone n phase).kept = s.kept := by
  simp [State.showNone]

@[simp] theorem kept_showAfter (s : State) (n : Nat) : (s.showAfter n).kept = s.kept := by
  unfold State.showAfter
  split <;> simp

@[simp] theorem kept_slotLeave (s : State) (k : Nat) : (s.slotLeave k).kept = s.kept := by
  simp [State.slotLeave]

@[simp] theorem kept_windowEnd (s : State) (k stn : Nat) : (s.windowEnd k stn).kept = s.kept := by
  simp [State.windowEnd]

@[simp] theorem kept_slotDue (s : State) (k : Nat) (l : List Nat) : (s.slotDue k l).kept = s.kept := by
  induction l generalizing s with
  | nil => simp [State.slotDue]
  | cons a l ih => simp [State.slotDue, ih]

@[simp] theorem kept_windowsDue (s : State) : s.windowsDue.kept = s.kept := by
  simp [State.windowsDue]

@[simp] theorem kept_escCfgErr (s : State) : s.escCfgErr.kept = s.kept := by
  simp [State.escCfgErr]

@[simp] theorem kept_runStart (s : State) : s.runStart.kept = s.kept := by
  simp [State.runStart]

@[simp] theorem calm_execRun (s : State) : Calm s (execRun s) := by
  simp [execRun]

@[simp] theorem kept_stopWrite (s : State) : s.stopWrite.kept = s.kept := by
  simp [State.stopWrite]

@[simp] theorem calm_execStop (s : State) : Calm s (execStop s) := by
  simp [execStop]

@[simp] theorem calm_execEscrowClose (s : State) : Calm s (execEscrowClose s) := by
  simp [execEscrowClose]

@[simp] theorem kept_expectOn (s : State) (n : Nat) : (s.expectOn n).kept = s.kept := by
  induction n generalizing s with
  | zero => rfl
  | succ n ih =>
    unfold State.expectOn
    dsimp only
    (repeat' split) <;> simp [ih]

@[simp] theorem kept_expectFrom (s : State) (k : Nat) : (s.expectFrom k).kept = s.kept := by
  unfold State.expectFrom
  split <;> simp

@[simp] theorem kept_lateRecord (s : State) (c : CloseRec) : (s.lateRecord c).kept = s.kept := by
  unfold State.lateRecord
  split <;> simp

@[simp] theorem kept_closeTake (s : State) (c : CloseRec) : (s.closeTake c).kept = s.kept := by
  simp [State.closeTake]

@[simp] theorem calm_execClose (h : Hdr) (c : CloseRec) (s : State) : Calm s (execClose h c s) := by
  simp [execClose]

@[simp] theorem kept_expectEnd (s : State) (slot : Nat) : (s.expectEnd slot).kept = s.kept := by
  unfold State.expectEnd
  split <;> simp

@[simp] theorem calm_execEndrun (h : Hdr) (slot ec : Nat) (s : State) : Calm s (execEndrun h slot ec s) := by
  simp [execEndrun]

@[simp] theorem kept_releaseTable (s : State) (k stn : Nat) : (s.releaseTable k stn).kept = s.kept := by
  simp [State.releaseTable]

@[simp] theorem kept_releaseShow (s : State) (k stn : Nat) : (s.releaseShow k stn).kept = s.kept := by
  simp [State.releaseShow]

@[simp] theorem calm_execSlotRelease (slot stn : Nat) (s : State) : Calm s (execSlotRelease slot stn s) := by
  simp [execSlotRelease]

@[simp] theorem calm_execNoclose (stn : Nat) (s : State) : Calm s (execNoclose stn s) := by
  unfold execNoclose
  (repeat' split) <;> simp

@[simp] theorem kept_windowVoid (s : State) (k stn n : Nat) (b : Nat × Option Nat) : (s.windowVoid k stn n b).kept = s.kept := by
  unfold State.windowVoid
  split <;> simp

@[simp] theorem kept_darkPorts (s : State) (k stn : Nat) : (s.darkPorts k stn).kept = s.kept := by
  simp [State.darkPorts]

@[simp] theorem kept_windowBegin (s : State) (k stn n : Nat) : (s.windowBegin k stn n).kept = s.kept := by
  unfold State.windowBegin
  split <;> simp

@[simp] theorem calm_execSlotWindowStart (slot stn : Nat) (s : State) : Calm s (execSlotWindowStart slot stn s) := by
  simp [execSlotWindowStart]

@[simp] theorem calm_execSlotComplete (slot : Nat) (s : State) : Calm s (execSlotComplete slot s) := by
  simp [execSlotComplete]

@[simp] theorem kept_voidReported (s : State) (v : VoidRec) : (s.voidReported v).kept = s.kept := by
  simp [State.voidReported]

@[simp] theorem calm_execVoidrep (h : Hdr) (v : VoidRec) (s : State) : Calm s (execVoidrep h v s) := by
  simp [execVoidrep]

@[simp] theorem calm_execVoid (h : Hdr) (v : VoidRec) (s : State) : Calm s (execVoid h v s) := by
  simp [execVoid]

@[simp] theorem kept_voidRequest (s : State) (k : Nat) : (s.voidRequest k).kept = s.kept := by
  simp [State.voidRequest]

@[simp] theorem calm_execEscVoidreq (slot : Nat) (s : State) : Calm s (execEscVoidreq slot s) := by
  simp [execEscVoidreq]

@[simp] theorem calm_execDescriptorEccError (waiting : Bool) (i : Nat) (s : State) :
    Calm s (execDescriptorEccError waiting i s) := by
  simp [execDescriptorEccError]

/-! What `Machine/Ingest` defines. -/

@[simp] theorem kept_ingestDo (s : State) (acct : Nat) (ws : List Nat) : (s.ingestDo acct ws).2.kept = s.kept := by
  unfold State.ingestDo
  dsimp only
  (repeat' split) <;> simp

@[simp] theorem kept_cancelDo (s : State) (acct ext : Nat) : (s.cancelDo acct ext).2.kept = s.kept := by
  unfold State.cancelDo
  dsimp only
  split <;> simp

@[simp] theorem kept_ingestBytes (s : State) (ext : Nat) (g : Ingest) (bs : List Byte) :
    (s.ingestBytes ext g bs).kept = s.kept := by
  simp [State.ingestBytes]

@[simp] theorem kept_ingestTile (s : State) (ext : Nat) (g : Ingest) (c : Nat) : (s.ingestTile ext g c).kept = s.kept := by
  unfold State.ingestTile
  (repeat' split) <;> simp

@[simp] theorem kept_ingestCols (s : State) (ext : Nat) (g : Ingest) (c : Nat) (n : Nat) :
    (s.ingestCols ext g c n).kept = s.kept := by
  induction n generalizing s c with
  | zero => rfl
  | succ n ih =>
    unfold State.ingestCols
    split <;> simp [ih]

@[simp] theorem kept_ingestRow (s : State) (ext : Nat) (g : Ingest) : (s.ingestRow ext g).kept = s.kept := by
  unfold State.ingestRow
  dsimp only
  split <;> simp

@[simp] theorem kept_streamGap (s : State) (ext : Nat) (g : Ingest) : (s.streamGap ext g).kept = s.kept := by
  simp [State.streamGap]

@[simp] theorem kept_ingestData (s : State) (ext : Nat) (g : Ingest) (data : List Byte) :
    (s.ingestData ext g data).kept = s.kept := by
  simp [State.ingestData]

@[simp] theorem kept_ingestPayload (s : State) (p : Nat) (bytes : List Byte) : (s.ingestPayload p bytes).kept = s.kept := by
  unfold State.ingestPayload
  dsimp only
  (repeat' split) <;> simp

@[simp] theorem calm_execIngestDatagram (p : Nat) (bytes : List Byte) (s : State) : Calm s (execIngestDatagram p bytes s) := by
  simp [execIngestDatagram]

@[simp] theorem calm_execIngestComplete (ext : Nat) (s : State) : Calm s (execIngestComplete ext s) := by
  unfold execIngestComplete
  (repeat' split) <;> simp

@[simp] theorem calm_execIngestTimeout (ext : Nat) (s : State) : Calm s (execIngestTimeout ext s) := by
  simp [execIngestTimeout]

/-! What `Machine/Control` defines. -/

@[simp] theorem calm_branch (t : Nat) (c : Cond) (off : BitVec 22) (link : Bool) (s : State) :
    Calm s (branch t c off link s) := by
  simp [branch]

@[simp] theorem calm_execB (t : Nat) (cond : Cond) (off : BitVec 22) (s : State) : Calm s (execB t cond off s) := by
  simp [execB]

@[simp] theorem calm_execBl (t : Nat) (cond : Cond) (off : BitVec 22) (s : State) : Calm s (execBl t cond off s) := by
  simp [execBl]

@[simp] theorem calm_execJmpr (t rd rs : Nat) (imm : BitVec 16) (s : State) : Calm s (execJmpr t rd rs imm s) := by
  simp [execJmpr]

@[simp] theorem calm_execFence (t : Nat) (s : State) : Calm s (execFence t s) := by
  simp [execFence]

@[simp] theorem calm_execHalt (t : Nat) (s : State) : Calm s (execHalt t s) := by
  simp [execHalt]

@[simp] theorem calm_execTrap (t k : Nat) (s : State) : Calm s (execTrap t k s) := by
  simp [execTrap]

@[simp] theorem calm_execEret (t : Nat) (s : State) : Calm s (execEret t s) := by
  simp [execEret]

@[simp] theorem calm_execBrk (t : Nat) (s : State) : Calm s (execBrk t s) := by
  simp [execBrk]

@[simp] theorem calm_execRdcyc (t rd : Nat) (s : State) : Calm s (execRdcyc t rd s) := by
  simp [execRdcyc]

@[simp] theorem calm_execWaitev (t rd rs : Nat) (s : State) : Calm s (execWaitev t rd rs s) := by
  simp [execWaitev]

@[simp] theorem calm_execWaitevResume (t : Nat) (s : State) : Calm s (execWaitevResume t s) := by
  unfold execWaitevResume
  (repeat' split) <;> simp

@[simp] theorem calm_execTellerWatchdog (t : Nat) (s : State) : Calm s (execTellerWatchdog t s) := by
  simp [execTellerWatchdog]

@[simp] theorem calm_execEvclr (t rs : Nat) (s : State) : Calm s (execEvclr t rs s) := by
  simp [execEvclr]

@[simp] theorem kept_answer (s : State) (t rd status cycles : Nat) : (s.answer t rd status cycles).kept = s.kept := by
  simp [State.answer]

@[simp] theorem calm_execTsig (t rd rs b : Nat) (s : State) : Calm s (execTsig t rd rs b s) := by
  simp [execTsig]

/-! What `Machine/DataAccess` defines. -/

@[simp] theorem calm_loadG (t rd rs len : Nat) (imm : BitVec 16) (ext : Nat → Word) (s : State) :
    Calm s (loadG t rd rs len imm ext s) := by
  simp [loadG]

@[simp] theorem calm_execLw (t rd rs : Nat) (imm : BitVec 16) (s : State) : Calm s (execLw t rd rs imm s) := by
  simp [execLw]

@[simp] theorem calm_execLh (t rd rs : Nat) (imm : BitVec 16) (s : State) : Calm s (execLh t rd rs imm s) := by
  simp [execLh]

@[simp] theorem calm_execLhu (t rd rs : Nat) (imm : BitVec 16) (s : State) : Calm s (execLhu t rd rs imm s) := by
  simp [execLhu]

@[simp] theorem calm_execLb (t rd rs : Nat) (imm : BitVec 16) (s : State) : Calm s (execLb t rd rs imm s) := by
  simp [execLb]

@[simp] theorem calm_execLbu (t rd rs : Nat) (imm : BitVec 16) (s : State) : Calm s (execLbu t rd rs imm s) := by
  simp [execLbu]

@[simp] theorem calm_execPld (t pd rs : Nat) (imm : BitVec 16) (s : State) : Calm s (execPld t pd rs imm s) := by
  simp [execPld]

/-! What `Machine/Mirror` defines. -/

@[simp] theorem kept_setMirror (s : State) (m : Mirror) : (s.setMirror m).kept = s.kept := by
  simp [State.setMirror]

@[simp] theorem kept_setBody (s : State) (a : Nat) (b : List Byte) : (s.setBody a b).kept = s.kept := by
  simp [State.setBody]

@[simp] theorem kept_commitMirrored (s : State) (d : Desc) (late : Bool) : (s.commitMirrored d late).kept = s.kept := by
  simp [State.commitMirrored]

@[simp] theorem kept_postDue (s : State) (l : List SettleDue) : (s.postDue l).kept = s.kept := by
  induction l generalizing s with
  | nil => simp [State.postDue]
  | cons a l ih => simp [State.postDue, ih]

@[simp] theorem kept_mirrorClose (s : State) (c : CloseRec) : (s.mirrorClose c).kept = s.kept := by
  simp [State.mirrorClose]

@[simp] theorem kept_mirrorVoid (s : State) (v : VoidRec) : (s.mirrorVoid v).kept = s.kept := by
  simp [State.mirrorVoid]

@[simp] theorem kept_setTodo (s : State) (l : List Todo) : (s.setTodo l).kept = s.kept := by
  simp [State.setTodo]

/-! What `Machine/System` defines. -/

@[simp] theorem kept_deliverTo (s : State) (ep : Nat) (m : Msg) : (s.deliverTo ep m).2.kept = s.kept := by
  unfold State.deliverTo
  (repeat' split) <;> simp

@[simp] theorem kept_msgOut (s : State) (ep : Nat) (m : Msg) : (s.msgOut ep m).kept = s.kept := by
  simp [State.msgOut]

@[simp] theorem kept_shadowed (s : State) (t status : Nat) (data : List Byte) : (s.shadowed t status data).kept = s.kept := by
  simp [State.shadowed]

@[simp] theorem kept_report (s : State) (t rd status cycles : Nat) : (s.report t rd status cycles).kept = s.kept := by
  simp [State.report]

@[simp] theorem kept_claimLive (s : State) (t rd ep : Nat) : (s.claimLive t rd ep).kept = s.kept := by
  simp [State.claimLive]

@[simp] theorem kept_postLive (s : State) (t rd ep gt : Nat) : (s.postLive t rd ep gt).kept = s.kept := by
  simp [State.postLive]

@[simp] theorem kept_evpostLive (s : State) (t rd a gt : Nat) : (s.evpostLive t rd a gt).kept = s.kept := by
  simp [State.evpostLive]

@[simp] theorem kept_commitLive (s : State) (t rd gs : Nat) : (s.commitLive t rd gs).kept = s.kept := by
  simp [State.commitLive]

@[simp] theorem calm_execLacq (t rd rs : Nat) (s : State) : Calm s (execLacq t rd rs s) := by
  simp [execLacq]

@[simp] theorem calm_execLrel (t rd rs : Nat) (s : State) : Calm s (execLrel t rd rs s) := by
  rw [execLrel, calm_next]
  refine kept_execD s t _ _ fun u => ?_
  dsimp only
  (repeat' split) <;> simp

@[simp] theorem calm_execDmakick (t rd rs : Nat) (s : State) : Calm s (execDmakick t rd rs s) := by
  simp [execDmakick]

/-! What `Machine/Accounts` defines. -/

@[simp] theorem kept_mbxViol (s : State) (a cause : Nat) : (s.mbxViol a cause).kept = s.kept := by
  simp [State.mbxViol]

@[simp] theorem kept_evqHead (s : State) (a h : Nat) : (s.evqHead a h).kept = s.kept := by
  simp [State.evqHead]

@[simp] theorem kept_evqOn (s : State) (a : Nat) : (s.evqOn a).kept = s.kept := by
  simp [State.evqOn]

@[simp] theorem kept_evqOff (s : State) (a : Nat) : (s.evqOff a).kept = s.kept := by
  simp [State.evqOff]

@[simp] theorem calm_execEvqHeadWrite (a h : Nat) (s : State) : Calm s (execEvqHeadWrite a h s) := by
  simp [execEvqHeadWrite]

@[simp] theorem calm_execEvqEnable (a : Nat) (s : State) : Calm s (execEvqEnable a s) := by
  simp [execEvqEnable]

@[simp] theorem calm_execEvqDisable (a : Nat) (s : State) : Calm s (execEvqDisable a s) := by
  simp [execEvqDisable]

@[simp] theorem calm_execMsixModerationExpiry (a : Nat) (s : State) : Calm s (execMsixModerationExpiry a s) := by
  simp [execMsixModerationExpiry]

@[simp] theorem kept_mbAnswer (s : State) (a code : Nat) (ws reply : List Nat) : (s.mbAnswer a code ws reply).kept = s.kept := by
  simp [State.mbAnswer]

@[simp] theorem kept_mbBad (s : State) (a code : Nat) (ws : List Nat) : (s.mbBad a code ws).kept = s.kept := by
  simp [State.mbBad]

@[simp] theorem kept_mbTimeout (s : State) (a : Nat) : (s.mbTimeout a).kept = s.kept := by
  simp [State.mbTimeout]

@[simp] theorem kept_mailboxTimeout (s : State) (a : Nat) : (s.mailboxTimeout a).kept = s.kept := by
  simp [State.mailboxTimeout]

@[simp] theorem calm_execMailboxTimeout (a : Nat) (s : State) : Calm s (execMailboxTimeout a s) := by
  simp [execMailboxTimeout]

@[simp] theorem kept_mbUnknown (s : State) (a code : Nat) (ws : List Nat) : (s.mbUnknown a code ws).kept = s.kept := by
  simp [State.mbUnknown]

@[simp] theorem kept_mbTake (s : State) (a code : Nat) : (s.mbTake a code).kept = s.kept := by
  simp [State.mbTake]

@[simp] theorem kept_mbGo (s : State) (a : Nat) : (s.mbGo a).kept = s.kept := by
  simp [State.mbGo]

@[simp] theorem kept_mbTakeAll (s : State) (l : List (Nat × List Nat)) : (s.mbTakeAll l).kept = s.kept := by
  induction l generalizing s with
  | nil => simp [State.mbTakeAll]
  | cons a l ih => simp [State.mbTakeAll, ih]

theorem kept_mbRun (s : State) (a code : Nat) (role : Bool) (ok : List Nat → Bool) (run : List Nat → State)
    (hrun : ∀ ws, (run ws).kept = s.kept) : (s.mbRun a code role ok run).kept = s.kept := by
  unfold State.mbRun
  (repeat' split) <;> simp [hrun]

@[simp] theorem kept_sendMsg (s : State) (a ep : Nat) : (s.sendMsg a ep).2.kept = s.kept := by
  unfold State.sendMsg
  split <;> simp

theorem calm_mbRun {s : State} {a code : Nat} {role : Bool} {ok : List Nat → Bool} {run : List Nat → State}
    (hrun : ∀ ws, (run ws).kept = s.kept) :
    Calm s (.next (if s.isOff then s else s.mbRun a code role ok run)) := by
  rw [calm_next]
  split
  · rfl
  · exact kept_mbRun s a code role ok run hrun

@[simp] theorem calm_execMbCommit (a : Nat) (s : State) : Calm s (execMbCommit a s) :=
  calm_mbRun fun ws => by simp

@[simp] theorem calm_execReserve (a : Nat) (s : State) : Calm s (execReserve a s) := calm_mbRun fun ws => by simp

@[simp] theorem calm_execRelease (a : Nat) (s : State) : Calm s (execRelease a s) := calm_mbRun fun ws => by simp

@[simp] theorem calm_execIngest (a : Nat) (s : State) : Calm s (execIngest a s) := calm_mbRun fun ws => by simp

@[simp] theorem calm_execCancel (a : Nat) (s : State) : Calm s (execCancel a s) := calm_mbRun fun ws => by simp

@[simp] theorem kept_portTeller (s : State) (t rd : Nat) (bs : List Byte) : (s.portTeller t rd bs).kept = s.kept := by
  simp [State.portTeller]

@[simp] theorem kept_accReset (s : State) (a : Nat) : (s.accReset a).kept = s.kept := by
  simp [State.accReset]

@[simp] theorem kept_accRst (s : State) (key a : Nat) (vault : Bool) : (s.accRst key a vault).kept = s.kept := by
  simp [State.accRst]

@[simp] theorem calm_execAccRst (key a : Nat) (vault : Bool) (s : State) : Calm s (execAccRst key a vault s) := by
  simp [execAccRst]

@[simp] theorem kept_maskVectors (s : State) (a : Nat) : (s.maskVectors a).kept = s.kept := by
  simp [State.maskVectors]

@[simp] theorem kept_flr (s : State) (n : Nat) : (s.flr n).kept = s.kept := by
  induction n generalizing s with
  | zero => simp [State.flr]
  | succ n ih => simp [State.flr, ih]

@[simp] theorem calm_execFunctionLevelReset (s : State) : Calm s (execFunctionLevelReset s) := by
  simp [execFunctionLevelReset]

@[simp] theorem kept_pchReset (s : State) : s.pchReset.kept = s.kept := by
  simp [State.pchReset]

@[simp] theorem calm_execHostPerstN (s : State) : Calm s (execHostPerstN s) := by
  simp [execHostPerstN]

/-! What `Machine/Audit` defines. -/

@[simp] theorem kept_audHost (s : State) (code : Nat) : (s.audHost code).kept = s.kept := by
  simp [State.audHost]

@[simp] theorem calm_execAuditRequest (code : Nat) (s : State) : Calm s (execAuditRequest code s) := by
  simp [execAuditRequest]

@[simp] theorem kept_audTurn (s : State) (n : Nat) : (s.audTurn n).kept = s.kept := by
  induction n generalizing s with
  | zero => simp [State.audTurn]
  | succ n ih => simp [State.audTurn, ih]

@[simp] theorem calm_execAuditStart (i : Nat) (s : State) : Calm s (execAuditStart i s) := by
  simp [execAuditStart]

@[simp] theorem calm_execAuditSuspend (i : Nat) (s : State) : Calm s (execAuditSuspend i s) := by
  simp [execAuditSuspend]

@[simp] theorem kept_lanePassed (s : State) (code : Nat) : (s.lanePassed code).kept = s.kept := by
  simp [State.lanePassed]

@[simp] theorem kept_auditRecord (s : State) (code incident : Nat) (pass : Bool) :
    (s.auditRecord code incident pass).kept = s.kept := by
  simp [State.auditRecord]

@[simp] theorem kept_driveAudit (s : State) (d : Nat) (x : AudResult) : (s.driveAudit d x).2.kept = s.kept := by
  unfold State.driveAudit
  (repeat' split) <;> simp

@[simp] theorem kept_auditResult (s : State) (i code : Nat) (r : AudResult) : (s.auditResult i code r).2.kept = s.kept := by
  unfold State.auditResult
  dsimp only
  (repeat' split) <;> simp

@[simp] theorem calm_execAuditComplete (i : Nat) (r : AudResult) (s0 : State) : Calm s0 (execAuditComplete i r s0) := by
  rw [execAuditComplete, calm_next]
  split
  · rfl
  · dsimp only
    split
    · simp
    · rfl

@[simp] theorem calm_execAudit (t rd rs pn : Nat) (s : State) : Calm s (execAudit t rd rs pn s) := by
  simp [execAudit]

/-! What `Machine/Calibration` defines. -/

@[simp] theorem calm_execReq (n : Nat) (s : State) : Calm s (execReq n s) := by
  simp [execReq]

@[simp] theorem calm_execReqd (s : State) : Calm s (execReqd s) := by
  simp [execReqd]

@[simp] theorem calm_execCalibrationStart (n : Nat) (s : State) : Calm s (execCalibrationStart n s) := by
  simp [execCalibrationStart]

@[simp] theorem calm_execCalibrationEnd (n : Nat) (m : CalMeas) (s : State) : Calm s (execCalibrationEnd n m s) := by
  simp [execCalibrationEnd]

@[simp] theorem kept_calAbandon (s : State) (n : Nat) : (s.calAbandon n).kept = s.kept := by
  simp [State.calAbandon]

@[simp] theorem kept_calTurn (s : State) (n : Nat) : (s.calTurn n).kept = s.kept := by
  induction n generalizing s with
  | zero => simp [State.calTurn]
  | succ n ih => simp [State.calTurn, ih]

@[simp] theorem calm_execCalibrationAbandon (n : Nat) (s : State) : Calm s (execCalibrationAbandon n s) := by
  simp [execCalibrationAbandon]

@[simp] theorem calm_execMarkEdge (n : Nat) (s : State) : Calm s (execMarkEdge n s) := by
  unfold execMarkEdge
  (repeat' split) <;> simp

@[simp] theorem calm_execMissedMark (slot stn : Nat) (s : State) : Calm s (execMissedMark slot stn s) := by
  unfold execMissedMark
  dsimp only
  (repeat' split) <;> simp

@[simp] theorem kept_regResidual (s : State) (stn : Nat) (rp : Int) : (s.regResidual stn rp).kept = s.kept := by
  simp [State.regResidual]

@[simp] theorem kept_regStation (s : State) (ref : Int × Int) (m : Marks) (stn : Nat) :
    (s.regStation ref m stn).kept = s.kept := by
  unfold State.regStation
  split <;> simp

@[simp] theorem calm_execRegistrationCorrection (slot : Nat) (s : State) : Calm s (execRegistrationCorrection slot s) := by
  unfold execRegistrationCorrection
  dsimp only
  (repeat' split) <;> simp

/-! What `Machine/Pair` defines. -/

@[simp] theorem kept_tkSync (s : State) : s.tkSync.kept = s.kept := by
  simp [State.tkSync]

@[simp] theorem kept_mirrorAsk (s : State) (first last : Nat) : (s.mirrorAsk first last).kept = s.kept := by
  simp [State.mirrorAsk]

@[simp] theorem kept_snapshotAsk (s : State) : s.snapshotAsk.kept = s.kept := by
  simp [State.snapshotAsk]

@[simp] theorem kept_clearCounts (s : State) (l : List (Nat × Option Order)) : (s.clearCounts l).kept = s.kept := by
  induction l generalizing s with
  | nil => simp [State.clearCounts]
  | cons e l ih =>
    obtain ⟨h, o⟩ := e
    cases o <;> simp [State.clearCounts, ih]

@[simp] theorem kept_mirrorLost (s : State) : s.mirrorLost.kept = s.kept := by
  simp [State.mirrorLost]

@[simp] theorem kept_askGap (s : State) (lo hi : Nat) : (s.askGap lo hi).kept = s.kept := by
  simp [State.askGap]

@[simp] theorem calm_execWatermark (h : Hdr) (sent settled event : Nat) (s : State) :
    Calm s (execWatermark h sent settled event s) := by
  rw [execWatermark, calm_next]
  refine kept_onFrame _ _ _ _ fun u => ?_
  have ask (v : State) (p : Prop) [Decidable p] (a b : Nat) : (if p then v.askGap a b else v).kept = v.kept := by
    split
    · exact kept_askGap ..
    · rfl
  split
  · rfl
  · dsimp only
    split
    · rfl
    · exact (kept_ringUni ..).trans ((kept_setFld ..).trans (ask _ _ _ _))

@[simp] theorem kept_markPosted (s : State) (m : Nat) (x : HostItem) : (s.markPosted m x).kept = s.kept := by
  unfold State.markPosted
  (repeat' split) <;> simp

@[simp] theorem kept_hostAll (s : State) (l : List (Nat × HostItem)) : (s.hostAll l).kept = s.kept := by
  induction l generalizing s with
  | nil => simp [State.hostAll]
  | cons a l ih => simp [State.hostAll, ih]

@[simp] theorem kept_releaseHeld (s : State) (ack : Nat) : (s.releaseHeld ack).kept = s.kept := by
  simp [State.releaseHeld]

@[simp] theorem kept_releaseAll (s : State) : s.releaseAll.kept = s.kept := by
  simp [State.releaseAll]

@[simp] theorem calm_execMirack (h : Hdr) (mseq : Nat) (s : State) : Calm s (execMirack h mseq s) := by
  simp [execMirack]

@[simp] theorem kept_sendPieces (s : State) (l : List SnapPiece) : (s.sendPieces l).kept = s.kept := by
  induction l generalizing s with
  | nil => simp [State.sendPieces]
  | cons a l ih => simp [State.sendPieces, ih]

@[simp] theorem kept_sendAgain (s : State) (l : List MirRec) : (s.sendAgain l).kept = s.kept := by
  induction l generalizing s with
  | nil => simp [State.sendAgain]
  | cons a l ih => simp [State.sendAgain, ih]

@[simp] theorem calm_execMirreq (h : Hdr) (first last : Nat) (s : State) : Calm s (execMirreq h first last s) := by
  simp [execMirreq]

@[simp] theorem calm_execBeaconMissing (s : State) : Calm s (execBeaconMissing s) := by
  simp [execBeaconMissing]

@[simp] theorem calm_execProbe (h : Hdr) (seq : Nat) (s : State) : Calm s (execProbe h seq s) := by
  rw [execProbe, calm_next]
  refine kept_onFrame _ _ _ _ fun u => ?_
  dsimp only
  split
  · exact kept_ringUni ..
  · rfl

@[simp] theorem calm_execProbeans (h : Hdr) (seq : Nat) (s : State) : Calm s (execProbeans h seq s) := by
  simp [execProbeans]

@[simp] theorem kept_brakeLive (s : State) (a : Nat) : (s.brakeLive a).kept = s.kept := by
  simp [State.brakeLive]

@[simp] theorem kept_unshadowAll (s : State) (n : Nat) : (s.unshadowAll n).kept = s.kept := by
  induction n generalizing s with
  | zero => simp [State.unshadowAll]
  | succ n ih => simp [State.unshadowAll, ih]

@[simp] theorem kept_openRepliesOut (s : State) (l : List (Nat × Nat × Nat)) : (s.openRepliesOut l).kept = s.kept := by
  induction l generalizing s with
  | nil => simp [State.openRepliesOut]
  | cons a l ih => simp [State.openRepliesOut, ih]

@[simp] theorem kept_repost (s : State) (x : HostItem) : (s.repost x).kept = s.kept := by
  unfold State.repost
  split <;> simp

@[simp] theorem kept_repostAll (s : State) (l : List (Nat × HostItem)) : (s.repostAll l).kept = s.kept := by
  induction l generalizing s with
  | nil => simp [State.repostAll]
  | cons a l ih => simp [State.repostAll, ih]

@[simp] theorem kept_align (s : State) (tookOver : Bool) : (s.align tookOver).kept = s.kept := by
  simp [State.align]

@[simp] theorem calm_execEnableSwapEnd (s : State) : Calm s (execEnableSwapEnd s) := by
  simp [execEnableSwapEnd]

@[simp] theorem kept_relinqWrite (s : State) : s.relinqWrite.kept = s.kept := by
  simp [State.relinqWrite]

@[simp] theorem calm_execRelinq (s : State) : Calm s (execRelinq s) := by
  simp [execRelinq]

@[simp] theorem calm_execOwnBeaconLoss (s : State) : Calm s (execOwnBeaconLoss s) := by
  simp [execOwnBeaconLoss]

@[simp] theorem kept_swapAgreed (s : State) (seq : Nat) : (s.swapAgreed seq).kept = s.kept := by
  simp [State.swapAgreed]

@[simp] theorem kept_swapWrite (s : State) : s.swapWrite.kept = s.kept := by
  simp [State.swapWrite]

@[simp] theorem calm_execSwap (s : State) : Calm s (execSwap s) := by
  simp [execSwap]

@[simp] theorem calm_execSwapreq (h : Hdr) (seq : Nat) (s : State) : Calm s (execSwapreq h seq s) := by
  rw [execSwapreq, calm_next]
  refine kept_onFrame _ _ _ _ fun u => ?_
  split
  · rfl
  · split
    · split
      · rfl
      · rfl
    · dsimp only
      split
      · exact kept_ringUni ..
      · exact kept_ringUni ..

@[simp] theorem calm_execSwapack (h : Hdr) (seq : Nat) (agreed : Bool) (s : State) : Calm s (execSwapack h seq agreed s) := by
  rw [execSwapack, calm_next]
  refine kept_onFrame _ _ _ _ fun u => ?_
  split
  · split
    · rfl
    · split <;> rfl
  · rfl

@[simp] theorem kept_swapDown (s0 : State) : s0.swapDown.kept = s0.kept := by
  unfold State.swapDown
  dsimp only
  rw [kept_tkSync, kept_setPos, kept_setMirror, kept_setFld, kept_setFld, kept_setOff, kept_mirrorSend]
  rfl

@[simp] theorem calm_execNodelost (n : Nat) (s : State) : Calm s (execNodelost n s) := by
  simp [execNodelost]

/-! What `Machine/Calendar` defines. -/

@[simp] theorem kept_timerFire (s : State) (n : Nat) : (s.timerFire n).kept = s.kept := by
  simp [State.timerFire]

@[simp] theorem kept_fireDue (s : State) (n : Nat) : (s.fireDue n).kept = s.kept := by
  induction n generalizing s with
  | zero => rfl
  | succ n ih =>
    unfold State.fireDue
    split
    · rw [ih]; simp
    · rfl

@[simp] theorem kept_timerArm (s : State) (n : Nat) : (s.timerArm n).kept = s.kept := by
  simp [State.timerArm]

@[simp] theorem kept_timerDisarm (s : State) (n : Nat) : (s.timerDisarm n).kept = s.kept := by
  simp [State.timerDisarm]

@[simp] theorem kept_nextSecond (s : State) (ns : Nat) : (s.nextSecond ns).kept = s.kept := by
  simp [State.nextSecond]

@[simp] theorem kept_timeTick (s : State) : s.timeTick.kept = s.kept := by
  simp [State.timeTick]

@[simp] theorem calm_execSecondRollover (s : State) : Calm s (execSecondRollover s) := by
  simp [execSecondRollover]

@[simp] theorem calm_execCldTimerArm (n : Nat) (s : State) : Calm s (execCldTimerArm n s) := by
  simp [execCldTimerArm]

@[simp] theorem calm_execCldTimerDisarm (n : Nat) (s : State) : Calm s (execCldTimerDisarm n s) := by
  simp [execCldTimerDisarm]


theorem kept_withTime (s : State) (t : Time) : { s with time := t }.kept = s.kept := rfl

@[simp] theorem calm_execWallTimerFire (n : Nat) (s : State) : Calm s (execWallTimerFire n s) := by
  rw [execWallTimerFire, calm_next]
  split
  · rfl
  · split
    · refine (kept_fireDue ..).trans ?_
      split
      · exact kept_withTime ..
      · rfl
    · rfl

@[simp] theorem kept_ptpStop (s : State) : s.ptpStop.kept = s.kept := by
  simp [State.ptpStop]

@[simp] theorem kept_ptpDecide (s : State) : s.ptpDecide.kept = s.kept := by
  simp [State.ptpDecide]

@[simp] theorem kept_ptpAnnounce (s : State) (msg : List Byte) : (s.ptpAnnounce msg).kept = s.kept := by
  simp [State.ptpAnnounce]

@[simp] theorem kept_ptpSwitched (s : State) (was : Bool) : (s.ptpSwitched was).kept = s.kept := by
  simp [State.ptpSwitched]

@[simp] theorem calm_execPtpSyncLoss (s : State) : Calm s (execPtpSyncLoss s) := by
  simp [execPtpSyncLoss]

/-! What `Machine/Ptp` defines. -/

@[simp] theorem kept_ptpSend (s : State) (type flags seq : Nat) (body : List Byte) :
    (s.ptpSend type flags seq body).kept = s.kept := by
  simp [State.ptpSend]

@[simp] theorem kept_ptpNumber (s : State) : s.ptpNumber.2.kept = s.kept := by
  simp [State.ptpNumber]

@[simp] theorem kept_ptpDelayReq (s : State) : s.ptpDelayReq.kept = s.kept := by
  simp [State.ptpDelayReq]

@[simp] theorem kept_ptpMasterSecond (s : State) : s.ptpMasterSecond.kept = s.kept := by
  simp [State.ptpMasterSecond]

@[simp] theorem kept_ptpTick (s : State) : s.ptpTick.kept = s.kept := by
  simp [State.ptpTick]

@[simp] theorem kept_ptpIn (s : State) (m : List Byte) : (s.ptpIn m).kept = s.kept := by
  simp [State.ptpIn]

/-! What `Machine/Ring` defines. -/

@[simp] theorem kept_sentMsg (s : State) (x : RingMsg) : (s.sentMsg x).kept = s.kept := by
  unfold State.sentMsg
  split <;> simp

@[simp] theorem kept_sentAll (s : State) (l : List RingFrame) : (s.sentAll l).kept = s.kept := by
  induction l generalizing s with
  | nil => simp [State.sentAll]
  | cons a l ih => simp [State.sentAll, ih]

@[simp] theorem kept_turn (s : State) (d : Nat) (l : List RingFrame) : (s.turn d l).kept = s.kept := by
  induction l generalizing s with
  | nil => simp [State.turn]
  | cons a l ih => simp [State.turn, ih]

@[simp] theorem kept_linkDown (s : State) (d : Nat) : (s.linkDown d).kept = s.kept := by
  simp [State.linkDown]

@[simp] theorem kept_resend (s : State) (d : Nat) (l : List RingFrame) : (s.resend d l).kept = s.kept := by
  induction l generalizing s with
  | nil => simp [State.resend]
  | cons a l ih => simp [State.resend, ih]

@[simp] theorem kept_linkFail (s : State) (d : Nat) : (s.linkFail d).kept = s.kept := by
  simp [State.linkFail]

@[simp] theorem kept_wrapLift (s : State) (d : Nat) : (s.wrapLift d).kept = s.kept := by
  simp [State.wrapLift]

@[simp] theorem kept_linkAnswer (s : State) (d lseq : Nat) (nak : Bool) : (s.linkAnswer d lseq nak).kept = s.kept := by
  simp [State.linkAnswer]

@[simp] theorem calm_execLinkctl (h : Hdr) (lseq : Nat) (nak : Bool) (s : State) : Calm s (execLinkctl h lseq nak s) := by
  simp [execLinkctl]

@[simp] theorem calm_execLinkRetransmitTimeout (d : Nat) (long : Bool) (s : State) :
    Calm s (execLinkRetransmitTimeout d long s) := by
  simp [execLinkRetransmitTimeout]

@[simp] theorem calm_execRingLinkUp (d : Nat) (s : State) : Calm s (execRingLinkUp d s) := by
  simp [execRingLinkUp]

@[simp] theorem kept_refuseMsg (s : State) (m : Msg) (status dst : Nat) : (s.refuseMsg m status dst).kept = s.kept := by
  simp [State.refuseMsg]

@[simp] theorem calm_execMsgstat (h : Hdr) (status dst : Nat) (s : State) : Calm s (execMsgstat h status dst s) := by
  simp [execMsgstat]

@[simp] theorem calm_execMsgTimeout (ep dst : Nat) (s : State) : Calm s (execMsgTimeout ep dst s) := by
  simp [execMsgTimeout]

@[simp] theorem kept_stopForces (s : State) (n : Nat) : (s.stopForces n).kept = s.kept := by
  induction n generalizing s with
  | zero => simp [State.stopForces]
  | succ n ih => simp [State.stopForces, ih]

@[simp] theorem kept_stopAct (s : State) (incident reason : Nat) : (s.stopAct incident reason).kept = s.kept := by
  simp [State.stopAct]

@[simp] theorem kept_stopRun (s : State) (incident : Nat) : (s.stopRun incident).kept = s.kept := by
  simp [State.stopRun]

@[simp] theorem kept_stopNow (s : State) : s.stopNow.kept = s.kept := by
  simp [State.stopNow]

@[simp] theorem kept_nowWrite (s : State) : s.nowWrite.kept = s.kept := by
  simp [State.nowWrite]

@[simp] theorem calm_execNow (s : State) : Calm s (execNow s) := by
  simp [execNow]

@[simp] theorem calm_execAuxStopEdge (n : Nat) (s : State) : Calm s (execAuxStopEdge n s) := by
  simp [execAuxStopEdge]

@[simp] theorem calm_execStopnow (h : Hdr) (incident reason : Nat) (s : State) : Calm s (execStopnow h incident reason s) := by
  simp [execStopnow]

@[simp] theorem calm_execStopreq (h : Hdr) (reason : Nat) (s : State) : Calm s (execStopreq h reason s) := by
  simp [execStopreq]

@[simp] theorem calm_execDlyprobe (h : Hdr) (time : Nat) (s : State) : Calm s (execDlyprobe h time s) := by
  simp [execDlyprobe]

@[simp] theorem calm_execDlyecho (h : Hdr) (time trip : Nat) (s : State) : Calm s (execDlyecho h time trip s) := by
  simp [execDlyecho]

@[simp] theorem kept_admitNode (s : State) (p : Peer) : (s.admitNode p).kept = s.kept := by
  unfold State.admitNode
  split <;> simp

@[simp] theorem kept_setModPos (s : State) (n : Nat) : (s.setModPos n).kept = s.kept := by
  induction n generalizing s with
  | zero => simp [State.setModPos]
  | succ n ih => simp [State.setModPos, ih]

@[simp] theorem kept_configSend (s : State) (ps : List (Nat × Nat)) (n : Nat) : (s.configSend ps n).kept = s.kept := by
  induction n generalizing s ps with
  | zero => rfl
  | succ n ih =>
    unfold State.configSend
    split <;> simp [ih]

@[simp] theorem kept_distribute (s : State) : s.distribute.kept = s.kept := by
  simp [State.distribute]

@[simp] theorem kept_admitAll (s : State) (l : List Peer) : (s.admitAll l).kept = s.kept := by
  induction l generalizing s with
  | nil => simp [State.admitAll]
  | cons a l ih => simp [State.admitAll, ih]

@[simp] theorem kept_checkMaps (s : State) : s.checkMaps.kept = s.kept := by
  simp [State.checkMaps]

@[simp] theorem kept_discover (s : State) : s.discover.kept = s.kept := by
  simp [State.discover]

@[simp] theorem kept_clearRegs (s : State) (lo hi : Nat) : (s.clearRegs lo hi).kept = s.kept := by
  simp [State.clearRegs]

@[simp] theorem kept_holdBlocks (s : State) : s.holdBlocks.kept = s.kept := by
  simp [State.holdBlocks]

@[simp] theorem kept_takeRole (s : State) (role : Nat) : (s.takeRole role).kept = s.kept := by
  simp [State.takeRole]

@[simp] theorem calm_execHello (h : Hdr) (serial strap role portmap dlyA dlyB : Nat) (s : State) :
    Calm s (execHello h serial strap role portmap dlyA dlyB s) := by
  simp [execHello]

@[simp] theorem calm_execAssign (h : Hdr) (serial node role pathA pathB : Nat) (s : State) :
    Calm s (execAssign h serial node role pathA pathB s) := by
  simp [execAssign]

/-! What `Machine/Hosts` defines. -/

@[simp] theorem calm_execHostLinkDown (s : State) : Calm s (execHostLinkDown s) := by
  simp [execHostLinkDown]

@[simp] theorem kept_drainAll (s : State) (n : Nat) : (s.drainAll n).kept = s.kept := by
  induction n generalizing s with
  | zero => simp [State.drainAll]
  | succ n ih => simp [State.drainAll, ih]

@[simp] theorem kept_pchTrain (s : State) : s.pchTrain.kept = s.kept := by
  simp [State.pchTrain]

@[simp] theorem kept_unsupported (s : State) (bar a : Nat) : (s.unsupported bar a).kept = s.kept := by
  simp [State.unsupported]

@[simp] theorem kept_hostAlive (s : State) : s.hostAlive.kept = s.kept := by
  simp [State.hostAlive]

@[simp] theorem calm_execPoisonedTlp (s : State) : Calm s (execPoisonedTlp s) := by
  simp [execPoisonedTlp]

@[simp] theorem calm_execEthernetLinkDown (p : Nat) (s : State) : Calm s (execEthernetLinkDown p s) := by
  simp [execEthernetLinkDown]

@[simp] theorem calm_execUncorrectableCodeword (p : Nat) (s : State) : Calm s (execUncorrectableCodeword p s) := by
  simp [execUncorrectableCodeword]

@[simp] theorem kept_netReply (s : State) (p : Nat) (x : Option (List Byte)) : (s.netReply p x).kept = s.kept := by
  unfold State.netReply
  split <;> simp

@[simp] theorem kept_ipv4In (s : State) (p src : Nat) (bs : List Byte) : (s.ipv4In p src bs).kept = s.kept := by
  simp [State.ipv4In]

@[simp] theorem kept_streamOverflow (s : State) (p : Nat) (bs : List Byte) : (s.streamOverflow p bs).kept = s.kept := by
  unfold State.streamOverflow
  dsimp only
  (repeat' split) <;> simp

@[simp] theorem calm_execEthernetFrame (p : Nat) (bytes : List Byte) (full : Bool) (s : State) :
    Calm s (execEthernetFrame p bytes full s) := by
  simp [execEthernetFrame]

/-! What `Machine/Access` defines. -/

@[simp] theorem kept_cfgErr (s : State) (a : Nat) : (s.cfgErr a).kept = s.kept := by
  simp [State.cfgErr]

@[simp] theorem kept_putField (s : State) (v : Nat) (f : Field) : (s.putField v f).kept = s.kept := by
  unfold State.putField
  (repeat' split) <;> simp

@[simp] theorem kept_regWrite (s : State) (a v : Nat) (fs : List Field) : (s.regWrite a v fs).kept = s.kept := by
  simp [State.regWrite]

@[simp] theorem kept_rcClear (s : State) (fs : List Field) : (s.rcClear fs).kept = s.kept := by
  simp [State.rcClear]

@[simp] theorem kept_configPair (s : State) (a : Nat) (fs : List Field) : (s.configPair a fs).kept = s.kept := by
  simp [State.configPair]

/-! What `Machine/BusCtl` defines. -/

@[simp] theorem kept_lcfgWrite (s : State) (l a v : Nat) (fs : List Field) : (s.lcfgWrite l a v fs).kept = s.kept := by
  simp [State.lcfgWrite]

@[simp] theorem kept_loopWrite (s : State) (l r a v : Nat) (fs : List Field) : (s.loopWrite l r a v fs).kept = s.kept := by
  simp [State.loopWrite]

@[simp] theorem kept_rcWrite (s : State) (k r a v : Nat) (fs : List Field) : (s.rcWrite k r a v fs).kept = s.kept := by
  simp [State.rcWrite]

@[simp] theorem kept_ctlWrite (s : State) (a v : Nat) (fs : List Field) : (s.ctlWrite a v fs).kept = s.kept := by
  simp [State.ctlWrite]

@[simp] theorem kept_hvCfgWrite (s : State) (h a v : Nat) (fs : List Field) : (s.hvCfgWrite h a v fs).kept = s.kept := by
  simp [State.hvCfgWrite]

@[simp] theorem kept_hvsWrite (s : State) (a v : Nat) (fs : List Field) : (s.hvsWrite a v fs).kept = s.kept := by
  unfold State.hvsWrite
  (repeat' split) <;> simp

@[simp] theorem kept_zoneEnable (s : State) (z a : Nat) (on : Bool) : (s.zoneEnable z a on).kept = s.kept := by
  simp [State.zoneEnable]

@[simp] theorem kept_zcfgWrite (s : State) (z a v : Nat) (fs : List Field) : (s.zcfgWrite z a v fs).kept = s.kept := by
  simp [State.zcfgWrite]

@[simp] theorem kept_fusWrite (s : State) (a v : Nat) (fs : List Field) : (s.fusWrite a v fs).kept = s.kept := by
  unfold State.fusWrite
  (repeat' split) <;> simp

@[simp] theorem kept_thmWrite (s : State) (a v : Nat) (fs : List Field) : (s.thmWrite a v fs).kept = s.kept := by
  unfold State.thmWrite
  (repeat' split) <;> simp

@[simp] theorem kept_calTriggers (s : State) (mask : Nat) (n : Nat) : (s.calTriggers mask n).kept = s.kept := by
  induction n generalizing s with
  | zero => simp [State.calTriggers]
  | succ n ih => simp [State.calTriggers, ih]

@[simp] theorem kept_clbWrite (s : State) (o : Origin) (a v : Nat) (fs : List Field) : (s.clbWrite o a v fs).kept = s.kept := by
  simp [State.clbWrite]

/-! What `Machine/BusDma` defines. -/

@[simp] theorem kept_dmaCtlWrite (s : State) (n v : Nat) : (s.dmaCtlWrite n v).kept = s.kept := by
  simp [State.dmaCtlWrite]

@[simp] theorem kept_dmaChWrite (s : State) (n r a v : Nat) (fs : List Field) : (s.dmaChWrite n r a v fs).kept = s.kept := by
  simp [State.dmaChWrite]

@[simp] theorem kept_dmaWrite (s : State) (a v : Nat) (fs : List Field) : (s.dmaWrite a v fs).kept = s.kept := by
  unfold State.dmaWrite
  (repeat' split) <;> simp

@[simp] theorem kept_boundWrite (s : State) (i a v : Nat) (fs : List Field) : (s.boundWrite i a v fs).kept = s.kept := by
  simp [State.boundWrite]

@[simp] theorem kept_motCfgWrite (s : State) (i a v : Nat) (fs : List Field) : (s.motCfgWrite i a v fs).kept = s.kept := by
  simp [State.motCfgWrite]

@[simp] theorem kept_motCmdWrite (s : State) (i v : Nat) : (s.motCmdWrite i v).kept = s.kept := by
  unfold State.motCmdWrite
  split <;> simp

@[simp] theorem kept_limitWrite (s : State) (i a v : Nat) (fs : List Field) : (s.limitWrite i a v fs).kept = s.kept := by
  simp [State.limitWrite]

@[simp] theorem kept_axisWrite (s : State) (i r a v : Nat) (fs : List Field) : (s.axisWrite i r a v fs).kept = s.kept := by
  simp [State.axisWrite]

@[simp] theorem kept_motWrite (s : State) (a v : Nat) (fs : List Field) : (s.motWrite a v fs).kept = s.kept := by
  simp [State.motWrite]

@[simp] theorem kept_microWrite (s : State) (a v : Nat) : (s.microWrite a v).kept = s.kept := by
  simp [State.microWrite]

@[simp] theorem kept_chcfgWrite (s : State) (c a v : Nat) (fs : List Field) : (s.chcfgWrite c a v fs).kept = s.kept := by
  simp [State.chcfgWrite]

@[simp] theorem kept_chanWrite (s : State) (c r a v : Nat) (fs : List Field) : (s.chanWrite c r a v fs).kept = s.kept := by
  simp [State.chanWrite]

@[simp] theorem kept_lsWrite (s : State) (k r a v : Nat) (fs : List Field) : (s.lsWrite k r a v fs).kept = s.kept := by
  simp [State.lsWrite]

@[simp] theorem kept_brkWrite (s : State) (b r a v : Nat) (fs : List Field) : (s.brkWrite b r a v fs).kept = s.kept := by
  simp [State.brkWrite]

@[simp] theorem kept_gdrWrite (s : State) (a v : Nat) (fs : List Field) : (s.gdrWrite a v fs).kept = s.kept := by
  simp [State.gdrWrite]

/-! What `Machine/BusLdg` defines. -/

@[simp] theorem kept_bindWrite (s : State) (o : Origin) (a v t : Nat) (fs : List Field) :
    (s.bindWrite o a v t fs).kept = s.kept := by
  simp [State.bindWrite]

@[simp] theorem kept_quotaWrite (s : State) (o : Origin) (a v acct : Nat) (fs : List Field) :
    (s.quotaWrite o a v acct fs).kept = s.kept := by
  simp [State.quotaWrite]

@[simp] theorem kept_ldgWrite (s : State) (o : Origin) (a v : Nat) (fs : List Field) : (s.ldgWrite o a v fs).kept = s.kept := by
  unfold State.ldgWrite
  (repeat' split) <;> simp

@[simp] theorem kept_escCtlWrite (s : State) (v : Nat) : (s.escCtlWrite v).kept = s.kept := by
  simp [State.escCtlWrite]

@[simp] theorem kept_escShare (s : State) : s.escShare.kept = s.kept := by
  unfold State.escShare
  (repeat' split) <;> simp

@[simp] theorem kept_escParam (s : State) (a v : Nat) (fs : List Field) : (s.escParam a v fs).kept = s.kept := by
  simp [State.escParam]

@[simp] theorem kept_escWrite (s : State) (o : Origin) (a v : Nat) (fs : List Field) : (s.escWrite o a v fs).kept = s.kept := by
  simp [State.escWrite]

/-! What `Machine/Faults` defines. -/

@[simp] theorem calm_execFaultSourceEvent (b src : Nat) (given : Option Nat) (s : State) :
    Calm s (execFaultSourceEvent b src given s) := by
  simp [execFaultSourceEvent]

@[simp] theorem calm_execQuietPeriodEnd (b : Nat) (s : State) : Calm s (execQuietPeriodEnd b s) := by
  simp [execQuietPeriodEnd]

@[simp] theorem calm_execFltBlkrst (key b : Nat) (s : State) : Calm s (execFltBlkrst key b s) := by
  simp [execFltBlkrst]

@[simp] theorem calm_execPinReadbackError (p n : Bool) (s : State) : Calm s (execPinReadbackError p n s) := by
  simp [execPinReadbackError]

@[simp] theorem kept_lenDrop (s : State) : s.lenDrop.kept = s.kept := by
  simp [State.lenDrop]

@[simp] theorem kept_lsiCount (s : State) : s.lsiCount.kept = s.kept := by
  simp [State.lsiCount]

@[simp] theorem calm_execLsiOpen (aOpen bOpen : Bool) (s : State) : Calm s (execLsiOpen aOpen bOpen s) := by
  simp [execLsiOpen]

@[simp] theorem calm_execLsiSettled (s : State) : Calm s (execLsiSettled s) := by
  simp [execLsiSettled]

@[simp] theorem calm_execLsiDiscrepancy (aOpen : Bool) (s : State) : Calm s (execLsiDiscrepancy aOpen s) := by
  simp [execLsiDiscrepancy]

@[simp] theorem kept_lsiBring (s : State) : s.lsiBring.kept = s.kept := by
  simp [State.lsiBring]

@[simp] theorem kept_rearm (s : State) : s.rearm.kept = s.kept := by
  simp [State.rearm]

@[simp] theorem calm_execRearm (s : State) : Calm s (execRearm s) := by
  simp [execRearm]

@[simp] theorem kept_runWrite (s : State) (on : Bool) : (s.runWrite on).kept = s.kept := by
  simp [State.runWrite]

@[simp] theorem calm_execFltRun (s : State) : Calm s (execFltRun s) := by
  simp [execFltRun]

/-! What `Machine/Vault` defines. -/

@[simp] theorem kept_actByte (s : State) (o : Nat) (b : Byte) : (s.actByte o b).kept = s.kept := by
  simp [State.actByte]

@[simp] theorem kept_actBytes (s : State) (o : Nat) (l : List Byte) : (s.actBytes o l).kept = s.kept := by
  induction l generalizing s o with
  | nil => rfl
  | cons b l ih => rw [State.actBytes, ih]; simp

@[simp] theorem calm_execKeyprov (a : Nat) (s : State) :
    Calm s (execKeyprov a s) := calm_mbRun fun ws => by dsimp only; split <;> simp

@[simp] theorem calm_execKeyrevoke (a : Nat) (s : State) : Calm s (execKeyrevoke a s) := calm_mbRun fun ws => by simp

@[simp] theorem kept_commitRollback (s : State) : s.commitRollback.kept = s.kept := by
  simp [State.commitRollback]

@[simp] theorem calm_execCommitrb (s : State) : Calm s (execCommitrb s) := by
  simp [execCommitrb]

@[simp] theorem kept_membersWrite (s : State) (h v : Nat) : (s.membersWrite h v).kept = s.kept := by
  simp [State.membersWrite]

@[simp] theorem calm_execVltMembersWrite (h v : Nat) (s : State) : Calm s (execVltMembersWrite h v s) := by
  simp [execVltMembersWrite]

@[simp] theorem kept_fwStart (s : State) (stat : Nat) (bs : List Byte) : (s.fwStart stat bs).kept = s.kept := by
  simp [State.fwStart]

@[simp] theorem calm_execBootVerify (sfdp flash : List Byte) (s : State) : Calm s (execBootVerify sfdp flash s) := by
  unfold execBootVerify
  dsimp only
  (repeat' split) <;> simp

/-! What `Machine/Reset` defines. -/

@[simp] theorem kept_setPwr (s : State) (p : Pwr) : (s.setPwr p).kept = s.kept := by
  simp [State.setPwr]

@[simp] theorem kept_outputsOff (s : State) : s.outputsOff.kept = s.kept := by
  simp [State.outputsOff]

@[simp] theorem kept_reportReset (s : State) (c : Nat) : (s.reportReset c).kept = s.kept := by
  simp [State.reportReset]

@[simp] theorem kept_brakeReset (s : State) (a : Nat) : (s.brakeReset a).kept = s.kept := by
  simp [State.brakeReset]

@[simp] theorem kept_driveReset (s : State) : s.driveReset.kept = s.kept := by
  simp [State.driveReset]

@[simp] theorem kept_keyed (s : State) (key : Nat) (f : State → State) (hf : ∀ u, (f u).kept = u.kept) :
    (s.keyed key f).kept = s.kept := by
  unfold State.keyed
  (repeat' split) <;> simp_all

@[simp] theorem calm_execDriverst (key : Nat) (s : State) : Calm s (execDriverst key s) := by
  simp [execDriverst]

@[simp] theorem calm_execDriveDieSupplyChange (low : Bool) (s : State) : Calm s (execDriveDieSupplyChange low s) := by
  simp [execDriveDieSupplyChange]

@[simp] theorem calm_execDriveLinkFrame (vsw : List Nat) (s : State) : Calm s (execDriveLinkFrame vsw s) := by
  simp [execDriveLinkFrame]

@[simp] theorem calm_execHeartbeatLoss (s : State) : Calm s (execHeartbeatLoss s) := by
  simp [execHeartbeatLoss]

@[simp] theorem kept_outenWrite (s : State) (on : Bool) : (s.outenWrite on).kept = s.kept := by
  simp [State.outenWrite]

@[simp] theorem calm_execOutenWrite (on : Bool) (s : State) : Calm s (execOutenWrite on s) := by
  simp [execOutenWrite]

@[simp] theorem kept_portmapWrite (s : State) (v : Nat) : (s.portmapWrite v).kept = s.kept := by
  simp [State.portmapWrite]

@[simp] theorem calm_execPortmapWrite (v : Nat) (s : State) : Calm s (execPortmapWrite v s) := by
  simp [execPortmapWrite]

@[simp] theorem kept_keepFields (r s : State) (fs : List Field) : (r.keepFields s fs).kept = r.kept := by
  simp [State.keepFields]

@[simp] theorem kept_strapped (s : State) (x : Straps) : (s.strapped x).kept = s.kept := by
  simp [State.strapped]

@[simp] theorem kept_dieKept (r s : State) : (r.dieKept s).kept = r.kept := by
  simp [State.dieKept]

@[simp] theorem kept_edgesAtReset (s : State) (r : Nat) (edges : Bool) : (s.edgesAtReset r edges).kept = s.kept := by
  simp [State.edgesAtReset]

@[simp] theorem kept_freeStraps (s : State) : s.freeStraps.2.kept = s.kept := by
  simp [State.freeStraps]

@[simp] theorem calm_execThermalShutdownRelease (temps : List Int) (s : State) : Calm s (execThermalShutdownRelease temps s) := by
  simp [execThermalShutdownRelease]

@[simp] theorem calm_execDormantEntry (s : State) : Calm s (execDormantEntry s) := by
  simp [execDormantEntry]

@[simp] theorem kept_sleep (s : State) : s.sleep.kept = s.kept := by
  simp [State.sleep]

@[simp] theorem calm_execDormantSleep (s : State) : Calm s (execDormantSleep s) := by
  simp [execDormantSleep]

@[simp] theorem kept_drivesOff (s : State) : s.drivesOff.kept = s.kept := by
  simp [State.drivesOff]

@[simp] theorem calm_execJtagInstruction (i : Nat) (s : State) : Calm s (execJtagInstruction i s) := by
  simp [execJtagInstruction]

/-! What `Machine/BusNode` defines. -/

@[simp] theorem kept_fltCtlWrite (s : State) (v : Nat) : (s.fltCtlWrite v).kept = s.kept := by
  simp [State.fltCtlWrite]

@[simp] theorem kept_rngCtlWrite (s : State) (a v : Nat) : (s.rngCtlWrite a v).kept = s.kept := by
  simp [State.rngCtlWrite]

@[simp] theorem kept_rngWrite (s : State) (a v : Nat) (fs : List Field) : (s.rngWrite a v fs).kept = s.kept := by
  unfold State.rngWrite
  (repeat' split) <;> simp

@[simp] theorem kept_evqCfgWrite (s : State) (q a v : Nat) : (s.evqCfgWrite q a v).kept = s.kept := by
  simp [State.evqCfgWrite]

@[simp] theorem kept_evqWrite (s : State) (q r a v : Nat) (fs : List Field) : (s.evqWrite q r a v fs).kept = s.kept := by
  simp [State.evqWrite]

@[simp] theorem kept_accWrite (s : State) (o : Origin) (a v : Nat) (fs : List Field) : (s.accWrite o a v fs).kept = s.kept := by
  unfold State.accWrite
  (repeat' split) <;> simp

@[simp] theorem kept_mbwWrite (s : State) (acct k v : Nat) : (s.mbwWrite acct k v).kept = s.kept := by
  simp [State.mbwWrite]

@[simp] theorem kept_mbctlWrite (s : State) (acct v : Nat) : (s.mbctlWrite acct v).kept = s.kept := by
  simp [State.mbctlWrite]

@[simp] theorem kept_pageWrite (s : State) (acct r v : Nat) : (s.pageWrite acct r v).kept = s.kept := by
  simp [State.pageWrite]

@[simp] theorem kept_pageRead (s : State) (acct r : Nat) : (s.pageRead acct r).2.kept = s.kept := by
  unfold State.pageRead
  (repeat' split) <;> simp

@[simp] theorem kept_msixMask (s : State) (vec : Nat) (on : Bool) : (s.msixMask vec on).kept = s.kept := by
  simp [State.msixMask]

@[simp] theorem kept_msixWrite (s : State) (a v : Nat) (fs : List Field) : (s.msixWrite a v fs).kept = s.kept := by
  unfold State.msixWrite
  split <;> simp

@[simp] theorem kept_aliasAddrWrite (s : State) (a v : Nat) (fs : List Field) : (s.aliasAddrWrite a v fs).kept = s.kept := by
  simp [State.aliasAddrWrite]

@[simp] theorem kept_vltWrite (s : State) (a v : Nat) (fs : List Field) : (s.vltWrite a v fs).kept = s.kept := by
  unfold State.vltWrite
  split <;> simp

/-! What `Machine/BusTim` defines. -/

@[simp] theorem kept_offsetWrite (s : State) (a v stn : Nat) (fs : List Field) : (s.offsetWrite a v stn fs).kept = s.kept := by
  simp [State.offsetWrite]

@[simp] theorem kept_eachTimer (f : State → Nat → State) (mask : Nat) (s : State) (n : Nat)
    (hf : ∀ u k, (f u k).kept = u.kept) : (s.eachTimer f mask n).kept = s.kept := by
  induction n generalizing s with
  | zero => rfl
  | succ n ih =>
    rw [State.eachTimer, ih]
    split <;> simp [hf]

@[simp] theorem kept_tmrctlWrite (s : State) (v : Nat) : (s.tmrctlWrite v).kept = s.kept := by
  simp [State.tmrctlWrite]

@[simp] theorem kept_deadlineWrite (s : State) (a v n : Nat) (fs : List Field) : (s.deadlineWrite a v n fs).kept = s.kept := by
  simp [State.deadlineWrite]

@[simp] theorem kept_readWpos (s : State) : s.readWpos.2.kept = s.kept := by
  simp [State.readWpos]

@[simp] theorem kept_readHwm (s : State) : s.readHwm.2.kept = s.kept := by
  simp [State.readHwm]

@[simp] theorem kept_readDate (s : State) : s.readDate.2.kept = s.kept := by
  simp [State.readDate]

@[simp] theorem kept_readWall (s : State) : s.readWall.2.kept = s.kept := by
  simp [State.readWall]

@[simp] theorem kept_readGmid (s : State) : s.readGmid.2.kept = s.kept := by
  simp [State.readGmid]

@[simp] theorem kept_answerRead (s : State) (a : Nat) (r : Nat × State) : (s.answerRead a r).kept = r.2.kept := by
  simp [State.answerRead]

@[simp] theorem calm_execTimWposloRead (s : State) : Calm s (execTimWposloRead s) := by
  simp [execTimWposloRead]

@[simp] theorem calm_execTimHwmloRead (s : State) : Calm s (execTimHwmloRead s) := by
  simp [execTimHwmloRead]

@[simp] theorem calm_execCldDateRead (s : State) : Calm s (execCldDateRead s) := by
  simp [execCldDateRead]

@[simp] theorem calm_execCldWtloRead (s : State) : Calm s (execCldWtloRead s) := by
  simp [execCldWtloRead]

/-! What `Machine/Scan` defines. -/

@[simp] theorem kept_nextFacet (s : State) (n : Nat) : (s.nextFacet n).kept = s.kept := by
  simp [State.nextFacet]

@[simp] theorem kept_writeSig (s : State) (n : Nat) (sums : Tab Nat) (n' : Nat) : (s.writeSig n sums n').kept = s.kept := by
  induction n' generalizing s with
  | zero => simp [State.writeSig]
  | succ n' ih => simp [State.writeSig, ih]

@[simp] theorem kept_learnSig (s : State) (n ival : Nat) : (s.learnSig n ival).kept = s.kept := by
  simp [State.learnSig]

@[simp] theorem kept_matchSig (s : State) (n : Nat) : (s.matchSig n).kept = s.kept := by
  simp [State.matchSig]

@[simp] theorem kept_eosTally (s : State) (n : Nat) : (s.eosTally n).kept = s.kept := by
  simp [State.eosTally]

@[simp] theorem kept_sosRecord (s : State) (n time width : Nat) : (s.sosRecord n time width).kept = s.kept := by
  simp [State.sosRecord]

@[simp] theorem kept_sosStrobe (s : State) (n phase : Nat) (since : Int) : (s.sosStrobe n phase since).kept = s.kept := by
  simp [State.sosStrobe]

@[simp] theorem calm_execSosEdge (n rise width phase pp : Nat) (s : State) : Calm s (execSosEdge n rise width phase pp s) := by
  simp [execSosEdge]

@[simp] theorem calm_execEosEdge (n time pp width : Nat) (s : State) : Calm s (execEosEdge n time pp width s) := by
  unfold execEosEdge
  (repeat' split) <;> simp

@[simp] theorem kept_sosLost (s : State) (n : Nat) : (s.sosLost n).kept = s.kept := by
  simp [State.sosLost]

@[simp] theorem kept_predictNumber (s : State) (n : Nat) : (s.predictNumber n).kept = s.kept := by
  simp [State.predictNumber]

@[simp] theorem kept_predictTime (s : State) (n : Nat) : (s.predictTime n).kept = s.kept := by
  simp [State.predictTime]

@[simp] theorem calm_execSosPredict (n phase : Nat) (s : State) : Calm s (execSosPredict n phase s) := by
  simp [execSosPredict]

@[simp] theorem kept_plockWrite (s : State) (n : Nat) (on : Bool) : (s.plockWrite n on).kept = s.kept := by
  simp [State.plockWrite]

@[simp] theorem calm_execPlockEnable (n : Nat) (on : Bool) (s : State) : Calm s (execPlockEnable n on s) := by
  simp [execPlockEnable]

@[simp] theorem calm_execPllLossOfLock (n : Nat) (s : State) : Calm s (execPllLossOfLock n s) := by
  simp [execPllLossOfLock]

@[simp] theorem calm_execPllLockAcquired (n : Nat) (s : State) : Calm s (execPllLockAcquired n s) := by
  simp [execPllLockAcquired]

/-! What `Machine/BusScn` defines. -/

@[simp] theorem kept_seamWrite (s : State) (a v : Nat) (fs : List Field) : (s.seamWrite a v fs).kept = s.kept := by
  simp [State.seamWrite]

@[simp] theorem kept_scnPortWrite (s : State) (n r a v : Nat) (fs : List Field) : (s.scnPortWrite n r a v fs).kept = s.kept := by
  simp [State.scnPortWrite]

@[simp] theorem kept_lenWrite (s : State) (n : Nat) (on : Bool) : (s.lenWrite n on).kept = s.kept := by
  simp [State.lenWrite]

@[simp] theorem kept_hlkCtlWrite (s : State) (n a v : Nat) : (s.hlkCtlWrite n a v).kept = s.kept := by
  simp [State.hlkCtlWrite]

@[simp] theorem kept_hlkWrite (s : State) (a v : Nat) (fs : List Field) : (s.hlkWrite a v fs).kept = s.kept := by
  unfold State.hlkWrite
  (repeat' split) <;> simp

@[simp] theorem kept_stoCtlWrite (s : State) (a v : Nat) : (s.stoCtlWrite a v).kept = s.kept := by
  simp [State.stoCtlWrite]

@[simp] theorem kept_pcsTrain (s : State) : s.pcsTrain.kept = s.kept := by
  simp [State.pcsTrain]

@[simp] theorem kept_pcsCtlWrite (s : State) (a v : Nat) (fs : List Field) : (s.pcsCtlWrite a v fs).kept = s.kept := by
  simp [State.pcsCtlWrite]

@[simp] theorem kept_stoWrite (s : State) (a v : Nat) (fs : List Field) : (s.stoWrite a v fs).kept = s.kept := by
  simp [State.stoWrite]

@[simp] theorem kept_readInMb (s : State) : s.readInMb.2.kept = s.kept := by
  simp [State.readInMb]

/-! What `Machine/BusTlr` defines. -/

@[simp] theorem kept_pmRead (s : State) (a : Nat) : (s.pmRead a).2.kept = s.kept := by
  unfold State.pmRead
  dsimp only
  split <;> simp

@[simp] theorem kept_dmRead (s : State) (a : Nat) : (s.dmRead a).2.kept = s.kept := by
  unfold State.dmRead
  dsimp only
  split <;> simp

@[simp] theorem kept_acctWrite (s : State) (o : Origin) (t v : Nat) : (s.acctWrite o t v).kept = s.kept := by
  simp [State.acctWrite]

@[simp] theorem kept_haltedWrite (s : State) (t : Nat) (f : Teller → Teller) : (s.haltedWrite t f).kept = s.kept := by
  simp [State.haltedWrite]

@[simp] theorem kept_tellerRegWrite (s : State) (o : Origin) (a v : Nat) (fs : List Field) :
    (s.tellerRegWrite o a v fs).kept = s.kept := by
  simp [State.tellerRegWrite]

@[simp] theorem kept_entryWrite (s : State) (who : Option Nat) (n word v : Nat) : (s.entryWrite who n word v).kept = s.kept := by
  simp [State.entryWrite]

@[simp] theorem kept_p0clrWrite (s : State) (v : Nat) : (s.p0clrWrite v).kept = s.kept := by
  simp [State.p0clrWrite]

@[simp] theorem kept_tlrMemRead (s : State) (a : Nat) : (s.tlrMemRead a).2.kept = s.kept := by
  unfold State.tlrMemRead
  split <;> simp

@[simp] theorem calm_execActionEntryWrite (who : Option Nat) (n word v : Nat) (s : State) :
    Calm s (execActionEntryWrite who n word v s) := by
  unfold execActionEntryWrite
  (repeat' split) <;> simp

@[simp] theorem calm_execP0clr (v : Nat) (s : State) : Calm s (execP0clr v s) := by
  simp [execP0clr]

/-! What `Machine/Bus` defines. -/

@[simp] theorem kept_noteLaneErr (s : State) (a : Nat) : (s.noteLaneErr a).kept = s.kept := by
  unfold State.noteLaneErr
  split
  · rfl
  · refine kept_eachPort _ _ s fun n u => ?_
    (repeat' split) <;> simp

/-- Reading a register leaves the memories, the orders and the published position. -/
def ReadKept (s : State) (o : Option (Nat × State)) : Prop := ∀ r, o = some r → r.2.kept = s.kept

theorem ReadKept.getD {s : State} {o : Option (Nat × State)} {d : Nat × State} (h : ReadKept s o)
    (hd : d.2.kept = s.kept) : (o.getD d).2.kept = s.kept := by
  cases o with
  | none => exact hd
  | some r => exact h r rfl

theorem readKept_ctlRead (s : State) (a : Nat) : ReadKept s (s.ctlRead a) := by
  unfold State.ctlRead
  (repeat' split) <;> simp [ReadKept]

theorem readKept_dmaRead (s : State) (a : Nat) : ReadKept s (s.dmaRead a) := by
  unfold State.dmaRead
  dsimp only
  (repeat' split) <;> simp [ReadKept]

theorem readKept_motRead (s : State) (a : Nat) : ReadKept s (s.motRead a) := by
  unfold State.motRead
  (repeat' split) <;> simp [ReadKept]

theorem readKept_ldgRead (s : State) (o : Origin) (a : Nat) : ReadKept s (s.ldgRead o a) := by
  unfold State.ldgRead
  (repeat' split) <;> simp [ReadKept]

theorem readKept_escRead (s : State) (a : Nat) : ReadKept s (s.escRead a) := by
  unfold State.escRead
  (repeat' split) <;> simp [ReadKept]

theorem readKept_fltRead (s : State) (a : Nat) : ReadKept s (s.fltRead a) := by
  unfold State.fltRead
  (repeat' split) <;> simp [ReadKept]

theorem readKept_accRead (s : State) (o : Origin) (a : Nat) : ReadKept s (s.accRead o a) := by
  unfold State.accRead
  (repeat' split) <;> simp [ReadKept]

theorem readKept_ptpRead (s : State) (a : Nat) : ReadKept s (s.ptpRead a) := by
  unfold State.ptpRead
  (repeat' split) <;> simp [ReadKept]

theorem readKept_timRead (s : State) (a : Nat) : ReadKept s (s.timRead a) := by
  unfold State.timRead
  (repeat' split) <;> simp [ReadKept]

theorem readKept_stoRead (s : State) (o : Origin) (a : Nat) : ReadKept s (s.stoRead o a) := by
  unfold State.stoRead
  (repeat' split) <;> simp [ReadKept]

theorem readKept_scnRead (s : State) (a : Nat) : ReadKept s (s.scnRead a) := by
  unfold State.scnRead
  dsimp only
  (repeat' split) <;> simp [ReadKept]

theorem readKept_tlrRead (s : State) (o : Origin) (a : Nat) : ReadKept s (s.tlrRead o a) := by
  unfold State.tlrRead
  dsimp only
  (repeat' split) <;> simp [ReadKept]

theorem readKept_viewRead (s : State) (o : Origin) (a : Nat) : ReadKept s (s.viewRead o a) := by
  unfold State.viewRead
  split
  · exact readKept_timRead s a
  · split
    · simp [ReadKept]
    · exact readKept_tlrRead s o a
  · exact readKept_ldgRead s o a
  · exact readKept_escRead s a
  · exact readKept_scnRead s a
  · exact readKept_stoRead s o a
  · exact readKept_dmaRead s a
  · exact readKept_motRead s a
  · exact readKept_ctlRead s a
  · exact readKept_ctlRead s a
  · exact readKept_fltRead s a
  · exact readKept_accRead s o a
  · split
    · exact readKept_ptpRead s a
    · exact readKept_fltRead s a
  · simp [ReadKept]

@[simp] theorem kept_regSpaceRead (s : State) (o : Origin) (a : Nat) : (s.regSpaceRead o a).2.kept = s.kept := by
  unfold State.regSpaceRead
  split
  · split
    · rfl
    · exact (readKept_viewRead s o a).getD (by simp)
  · split
    · exact (readKept_viewRead s o a).getD rfl
    · simp

@[simp] theorem kept_bar0Read (s : State) (o : Origin) (a : Nat) : (s.bar0Read o a).2.kept = s.kept := by
  unfold State.bar0Read
  dsimp only
  (repeat' split) <;> simp

@[simp] theorem kept_noteWrite (s : State) (a : Nat) (fs : List Field) (t : State) :
    (s.noteWrite a fs t).kept = t.kept := by
  unfold State.noteWrite
  (repeat' split) <;> simp

@[simp] theorem kept_bar2Read (s : State) (a : Nat) : (s.bar2Read a).2.kept = s.kept := by
  unfold State.bar2Read
  (repeat' split) <;> simp

/-- The function is unfolded where it is not applied: there the kernel has no reason to compare the offset, a number added
to a variable, with the map's. -/
@[simp] theorem kept_bar4Write (s : State) (a v : Nat) : (s.bar4Write a v).kept = s.kept := by
  suffices h : ∀ F, F = State.bar4Write → (F s a v).kept = s.kept from h _ rfl
  intro F hF
  delta State.bar4Write at hF
  subst hF
  beta_reduce
  generalize a + 0x20000000 = b
  split
  · exact kept_msixWrite ..
  · rfl

@[simp] theorem kept_hostRead (s : State) (bar a : Nat) : (s.hostRead bar a).2.kept = s.kept := by
  unfold State.hostRead
  (repeat' split) <;> simp

@[simp] theorem calm_execI2cRead (dev a : Nat) (s : State) : Calm s (execI2cRead dev a s) := by
  simp [execI2cRead]

@[simp] theorem calm_execRdr (t rd rs : Nat) (imm : BitVec 16) (s : State) : Calm s (execRdr t rd rs imm s) := by
  simp [execRdr]

@[simp] theorem calm_execWrr (t rt rs : Nat) (imm : BitVec 16) (s : State) : Calm s (execWrr t rt rs imm s) := by
  simp [execWrr]

@[simp] theorem kept_runFollow (s : State) (was : Bool) : (s.runFollow was).kept = s.kept := by
  simp [State.runFollow]

@[simp] theorem kept_escTake (s : State) (a v : Nat) : (s.escTake a v).kept = s.kept := by
  unfold State.escTake
  split <;> simp

theorem kept_regTake {s u : State} {a v : Nat} (h : s.regTake a v = some u) : u.kept = s.kept := by
  unfold State.regTake at h
  split at h
  · cases h; simp
  · split at h
    · cases h; simp
    · cases h

@[simp] theorem kept_configTake (s : State) (p : Nat × Nat) : (s.configTake p).kept = s.kept := by
  unfold State.configTake
  split
  next h =>
    obtain ⟨u, hu⟩ := Option.isSome_iff_exists.mp h.2
    rw [hu]
    exact kept_regTake hu
  next => (repeat' split) <;> simp

@[simp] theorem calm_execConfig (h : Hdr) (pairs : List (Nat × Nat)) (s : State) : Calm s (execConfig h pairs s) := by
  simp [execConfig]

/-! What `Machine/Tau` defines. -/

@[simp] theorem kept_actFail (s : State) (a : Act) (count : Field) : (s.actFail a count).kept = s.kept := by
  simp [State.actFail]

@[simp] theorem kept_actSignal (s : State) (a : Act) : (s.actSignal a).kept = s.kept := by
  simp [State.actSignal]

@[simp] theorem kept_fire (s : State) (n : Nat) (late : Bool) : (s.fire n late).kept = s.kept := by
  unfold State.fire
  dsimp only
  (repeat' split) <;> simp

@[simp] theorem kept_cross (s : State) (n : Nat) : (s.cross n).kept = s.kept := by
  simp [State.cross]

@[simp] theorem kept_fireHeld (s : State) : s.fireHeld.kept = s.kept := by
  simp [State.fireHeld]

@[simp] theorem kept_evaluated (s : State) : s.evaluated.kept = s.kept := by
  simp [State.evaluated]

@[simp] theorem kept_uncrossed (s : State) : s.uncrossed.kept = s.kept := by
  simp [State.uncrossed]

/-! What `Machine/Clock` defines. -/

@[simp] theorem kept_waitCycles (s : State) (n : Nat) : (s.waitCycles n).kept = s.kept := by
  induction n generalizing s with
  | zero => simp [State.waitCycles]
  | succ n ih => simp [State.waitCycles, ih]

@[simp] theorem kept_milliTick (s : State) : s.milliTick.kept = s.kept := by
  simp [State.milliTick]

@[simp] theorem kept_standbyTick (s : State) : s.standbyTick.kept = s.kept := by
  simp [State.standbyTick]

@[simp] theorem kept_helloTick (s : State) : s.helloTick.kept = s.kept := by
  simp [State.helloTick]

/-! What `Machine/DmaBeats` defines. -/

@[simp] theorem kept_dmaBeatData (s : State) (sp a n : Nat) (given : List Byte) :
    (s.dmaBeatData sp a n given).2.kept = s.kept := by
  unfold State.dmaBeatData
  split <;> simp

@[simp] theorem calm_execDmaReadComplete (n : Nat) (ok : Bool) (data : List Byte) (s : State) :
    Calm s (execDmaReadComplete n ok data s) := by
  unfold execDmaReadComplete
  (repeat' split) <;> simp

@[simp] theorem kept_spaceTimeout (s : State) (sp : Nat) : (s.spaceTimeout sp).kept = s.kept := by
  simp [State.spaceTimeout]

/-! What `Machine/Integer` defines. -/

@[simp] theorem calm_alu (t rd rs rt cycles : Nat) (f : Word → Word → Word) (s : State) : Calm s (alu t rd rs rt cycles f s) := by
  simp [alu]

@[simp] theorem calm_aluDiv (t rd rs rt : Nat) (f : Word → Word → Word) (s : State) : Calm s (aluDiv t rd rs rt f s) := by
  simp [aluDiv]

@[simp] theorem calm_cmpG (t qd rs rt : Nat) (f : Word → Word → Bool) (s : State) : Calm s (cmpG t qd rs rt f s) := by
  simp [cmpG]

@[simp] theorem calm_predOp (t qd qs qt : Nat) (f : Bool → Bool → Bool) (s : State) : Calm s (predOp t qd qs qt f s) := by
  simp [predOp]

@[simp] theorem calm_cmpP (t qd ps pt : Nat) (f : Pos → Pos → Bool) (s : State) : Calm s (cmpP t qd ps pt f s) := by
  simp [cmpP]

@[simp] theorem calm_aluImm (t rd rs : Nat) (f : Word → Word) (s : State) : Calm s (aluImm t rd rs f s) := by
  simp [aluImm]

@[simp] theorem calm_cmpImm (t qd rs : Nat) (f : Word → Bool) (s : State) : Calm s (cmpImm t qd rs f s) := by
  simp [cmpImm]

@[simp] theorem calm_execAdd (t rd rs rt : Nat) (s : State) : Calm s (execAdd t rd rs rt s) := by
  simp [execAdd]

@[simp] theorem calm_execSub (t rd rs rt : Nat) (s : State) : Calm s (execSub t rd rs rt s) := by
  simp [execSub]

@[simp] theorem calm_execAnd (t rd rs rt : Nat) (s : State) : Calm s (execAnd t rd rs rt s) := by
  simp [execAnd]

@[simp] theorem calm_execOr (t rd rs rt : Nat) (s : State) : Calm s (execOr t rd rs rt s) := by
  simp [execOr]

@[simp] theorem calm_execXor (t rd rs rt : Nat) (s : State) : Calm s (execXor t rd rs rt s) := by
  simp [execXor]

@[simp] theorem calm_execSll (t rd rs rt : Nat) (s : State) : Calm s (execSll t rd rs rt s) := by
  simp [execSll]

@[simp] theorem calm_execSrl (t rd rs rt : Nat) (s : State) : Calm s (execSrl t rd rs rt s) := by
  simp [execSrl]

@[simp] theorem calm_execSra (t rd rs rt : Nat) (s : State) : Calm s (execSra t rd rs rt s) := by
  simp [execSra]

@[simp] theorem calm_execMul (t rd rs rt : Nat) (s : State) : Calm s (execMul t rd rs rt s) := by
  simp [execMul]

@[simp] theorem calm_execMulh (t rd rs rt : Nat) (s : State) : Calm s (execMulh t rd rs rt s) := by
  simp [execMulh]

@[simp] theorem calm_execMulhu (t rd rs rt : Nat) (s : State) : Calm s (execMulhu t rd rs rt s) := by
  simp [execMulhu]

@[simp] theorem calm_execMin (t rd rs rt : Nat) (s : State) : Calm s (execMin t rd rs rt s) := by
  simp [execMin]

@[simp] theorem calm_execMax (t rd rs rt : Nat) (s : State) : Calm s (execMax t rd rs rt s) := by
  simp [execMax]

@[simp] theorem calm_execMinu (t rd rs rt : Nat) (s : State) : Calm s (execMinu t rd rs rt s) := by
  simp [execMinu]

@[simp] theorem calm_execMaxu (t rd rs rt : Nat) (s : State) : Calm s (execMaxu t rd rs rt s) := by
  simp [execMaxu]

@[simp] theorem calm_execAdds (t rd rs rt : Nat) (s : State) : Calm s (execAdds t rd rs rt s) := by
  simp [execAdds]

@[simp] theorem calm_execSubs (t rd rs rt : Nat) (s : State) : Calm s (execSubs t rd rs rt s) := by
  simp [execSubs]

@[simp] theorem calm_execDivu (t rd rs rt : Nat) (s : State) : Calm s (execDivu t rd rs rt s) := by
  simp [execDivu]

@[simp] theorem calm_execRemu (t rd rs rt : Nat) (s : State) : Calm s (execRemu t rd rs rt s) := by
  simp [execRemu]

@[simp] theorem calm_execDiv (t rd rs rt : Nat) (s : State) : Calm s (execDiv t rd rs rt s) := by
  simp [execDiv]

@[simp] theorem calm_execRem (t rd rs rt : Nat) (s : State) : Calm s (execRem t rd rs rt s) := by
  simp [execRem]

@[simp] theorem calm_execSel (t n rd rs rt : Nat) (s : State) : Calm s (execSel t n rd rs rt s) := by
  simp [execSel]

@[simp] theorem calm_execClz (t rd rs : Nat) (s : State) : Calm s (execClz t rd rs s) := by
  simp [execClz]

@[simp] theorem calm_execPopc (t rd rs : Nat) (s : State) : Calm s (execPopc t rd rs s) := by
  simp [execPopc]

@[simp] theorem calm_execCmpeq (t rd rs rt : Nat) (s : State) : Calm s (execCmpeq t rd rs rt s) := by
  simp [execCmpeq]

@[simp] theorem calm_execCmpne (t rd rs rt : Nat) (s : State) : Calm s (execCmpne t rd rs rt s) := by
  simp [execCmpne]

@[simp] theorem calm_execCmplt (t rd rs rt : Nat) (s : State) : Calm s (execCmplt t rd rs rt s) := by
  simp [execCmplt]

@[simp] theorem calm_execCmpge (t rd rs rt : Nat) (s : State) : Calm s (execCmpge t rd rs rt s) := by
  simp [execCmpge]

@[simp] theorem calm_execCmpltu (t rd rs rt : Nat) (s : State) : Calm s (execCmpltu t rd rs rt s) := by
  simp [execCmpltu]

@[simp] theorem calm_execCmpgeu (t rd rs rt : Nat) (s : State) : Calm s (execCmpgeu t rd rs rt s) := by
  simp [execCmpgeu]

@[simp] theorem calm_execQand (t rd rs rt : Nat) (s : State) : Calm s (execQand t rd rs rt s) := by
  simp [execQand]

@[simp] theorem calm_execQor (t rd rs rt : Nat) (s : State) : Calm s (execQor t rd rs rt s) := by
  simp [execQor]

@[simp] theorem calm_execQxor (t rd rs rt : Nat) (s : State) : Calm s (execQxor t rd rs rt s) := by
  simp [execQxor]

@[simp] theorem calm_execQnot (t rd rs : Nat) (s : State) : Calm s (execQnot t rd rs s) := by
  simp [execQnot]

@[simp] theorem calm_execPcmpeq (t rd rs rt : Nat) (s : State) : Calm s (execPcmpeq t rd rs rt s) := by
  simp [execPcmpeq]

@[simp] theorem calm_execPcmplt (t rd rs rt : Nat) (s : State) : Calm s (execPcmplt t rd rs rt s) := by
  simp [execPcmplt]

@[simp] theorem calm_execPcmpge (t rd rs rt : Nat) (s : State) : Calm s (execPcmpge t rd rs rt s) := by
  simp [execPcmpge]

@[simp] theorem calm_execAddi (t rd rs : Nat) (imm : BitVec 16) (s : State) : Calm s (execAddi t rd rs imm s) := by
  simp [execAddi]

@[simp] theorem calm_execAndi (t rd rs : Nat) (imm : BitVec 16) (s : State) : Calm s (execAndi t rd rs imm s) := by
  simp [execAndi]

@[simp] theorem calm_execOri (t rd rs : Nat) (imm : BitVec 16) (s : State) : Calm s (execOri t rd rs imm s) := by
  simp [execOri]

@[simp] theorem calm_execXori (t rd rs : Nat) (imm : BitVec 16) (s : State) : Calm s (execXori t rd rs imm s) := by
  simp [execXori]

@[simp] theorem calm_execLdhi (t rd : Nat) (imm : BitVec 16) (s : State) : Calm s (execLdhi t rd imm s) := by
  simp [execLdhi]

@[simp] theorem calm_execSlli (t rd rs sh : Nat) (s : State) : Calm s (execSlli t rd rs sh s) := by
  simp [execSlli]

@[simp] theorem calm_execSrli (t rd rs sh : Nat) (s : State) : Calm s (execSrli t rd rs sh s) := by
  simp [execSrli]

@[simp] theorem calm_execSrai (t rd rs sh : Nat) (s : State) : Calm s (execSrai t rd rs sh s) := by
  simp [execSrai]

@[simp] theorem calm_execCmpeqi (t rd rs : Nat) (imm : BitVec 16) (s : State) : Calm s (execCmpeqi t rd rs imm s) := by
  simp [execCmpeqi]

@[simp] theorem calm_execCmplti (t rd rs : Nat) (imm : BitVec 16) (s : State) : Calm s (execCmplti t rd rs imm s) := by
  simp [execCmplti]

@[simp] theorem calm_execCmpltui (t rd rs : Nat) (imm : BitVec 16) (s : State) : Calm s (execCmpltui t rd rs imm s) := by
  simp [execCmpltui]

/-! What `Machine/Sweep` defines. -/

@[simp] theorem kept_lockEnd (s : State) (n : Nat) : (s.lockEnd n).kept = s.kept := by
  simp [State.lockEnd]

@[simp] theorem kept_sweepApply (s : State) (n : Nat) (idle : Bool) : (s.sweepApply n idle).kept = s.kept := by
  simp [State.sweepApply]

@[simp] theorem kept_sweepRate (s : State) (n : Nat) : (s.sweepRate n).kept = s.kept := by
  simp [State.sweepRate]

@[simp] theorem kept_sweepBlank (s : State) (n : Nat) : (s.sweepBlank n).kept = s.kept := by
  simp [State.sweepBlank]

@[simp] theorem kept_sweepLine (s : State) (n : Nat) : (s.sweepLine n).kept = s.kept := by
  simp [State.sweepLine]

@[simp] theorem kept_sweepDark (s : State) (n : Nat) : (s.sweepDark n).kept = s.kept := by
  simp [State.sweepDark]

@[simp] theorem kept_sweepEvent (s : State) (n : Nat) : (s.sweepEvent n).kept = s.kept := by
  simp [State.sweepEvent]

@[simp] theorem kept_sweepBoundary (s : State) (n : Nat) : (s.sweepBoundary n).kept = s.kept := by
  simp [State.sweepBoundary]

@[simp] theorem kept_putBack (s : State) (l : List (Field × Nat)) : (s.putBack l).kept = s.kept := by
  simp [State.putBack]

@[simp] theorem kept_sweepCross (s : State) (n late : Nat) : (s.sweepCross n late).kept = s.kept := by
  simp [State.sweepCross]

@[simp] theorem calm_execSweepBoundary (n late : Nat) (s : State) : Calm s (execSweepBoundary n late s) := by
  simp [execSweepBoundary]

/-! What `Machine/Step` defines. -/

@[simp] theorem kept_withFetchWord (s : State) (nbits w : Nat) : (s.withFetchWord nbits w).kept = s.kept := by
  unfold State.withFetchWord
  split <;> simp

end Sys2Proof.Machine

namespace Sys2Proof.Machine

/-! The memories and the ledger's table stay in canonical form (R62, R111): what each operation that writes them keeps. -/

/-- The memories and the orders are in canonical form. -/
def Kept.canon (k : Kept) : Bool := k.pm.wf && k.dm.wf && k.dram.wf && tabWf none k.orders

theorem memWf_eq_canon (s : State) : s.memWf = s.kept.canon := rfl

@[simp] theorem canon_mk {pm dm dram : Memory} {pmErr dmErr : Tab Nat} {orders : Tab (Option Order)} {out : Nat} :
    (Kept.mk pm dm dram pmErr dmErr orders out).canon = true ↔
      pm.wf = true ∧ dm.wf = true ∧ dram.wf = true ∧ tabWf none orders = true := by
  simp [Kept.canon, and_assoc]

section
variable {s : State} (hc : s.kept.canon = true)
include hc

@[simp] theorem pm_wf_of_canon : s.pm.wf = true := (canon_mk.mp hc).1
@[simp] theorem dm_wf_of_canon : s.dm.wf = true := (canon_mk.mp hc).2.1
@[simp] theorem dram_wf_of_canon : s.dram.wf = true := (canon_mk.mp hc).2.2.1
@[simp] theorem orders_wf_of_canon : tabWf none s.orders = true := (canon_mk.mp hc).2.2.2

@[simp] theorem canon_foldl {α : Type} {f : State → α → State} (hf : ∀ u a, u.kept.canon = true → (f u a).kept.canon = true) (l :
    List α) :
    (l.foldl f s).kept.canon = true := by
  induction l generalizing s with
  | nil => exact hc
  | cons a l ih => exact ih (hf _ _ hc)

end

@[simp] theorem canon_ite (c : Prop) [Decidable c] (k m : Kept) (hk : c → k.canon = true) (hm : ¬ c → m.canon = true) :
    (if c then k else m).canon = true := by
  split
  · exact hk ‹_›
  · exact hm ‹_›

/-! What runs a body keeps the form if the body does. -/

section
variable {s : State} (hc : s.kept.canon = true)
include hc

@[simp] theorem canon_setPos (p : Posn) : (s.setPos p).kept.canon = true := by
  simp [State.setPos, hc]

@[simp] theorem canon_keyed (key : Nat) {f : State → State} (hf : ∀ u, u.kept.canon = true → (f u).kept.canon = true) :
    (s.keyed key f).kept.canon = true := by
  unfold State.keyed
  split
  · exact hf s hc
  · simp [hc]

@[simp] theorem canon_eachTeller {f : Nat → State → State} (hf : ∀ t u, u.kept.canon = true → (f t u).kept.canon = true)
    (mask n : Nat) : (s.eachTeller f mask n).kept.canon = true := by
  induction n with
  | zero => exact hc
  | succ n ih =>
    rw [State.eachTeller]
    split
    · exact hf n _ ih
    · exact ih

@[simp] theorem canon_execI (t : Nat) {body : State → State} (hbody : ∀ u, u.kept.canon = true → (body u).kept.canon = true) :
    (s.execI t body).kept.canon = true := by
  unfold State.execI
  dsimp only
  (repeat' split) <;> simp [hc, hbody]

@[simp] theorem canon_withTrap (t : Nat) (c : Option (Nat × Nat)) {body : State → State}
    (hbody : ∀ u, u.kept.canon = true → (body u).kept.canon = true) : (s.withTrap t c body).kept.canon = true := by
  unfold State.withTrap
  split <;> simp [hc, hbody]

@[simp] theorem canon_access (t a align len : Nat) (reads : Bool) {body : State → State}
    (hbody : ∀ u, u.kept.canon = true → (body u).kept.canon = true) : (s.access t a align len reads body).kept.canon = true := by
  refine canon_withTrap hc t _ fun u hu => ?_
  dsimp only
  split
  · simp [hu]
  · refine hbody _ ?_
    split <;> simp [hu]

@[simp] theorem canon_execD (t : Nat) (c : State → Option (Nat × Nat)) {body : State → State}
    (hbody : ∀ u, u.kept.canon = true → (body u).kept.canon = true) : (s.execD t c body).kept.canon = true := by
  refine canon_execI hc t fun u hu => ?_
  dsimp only
  split
  · exact hu
  · refine canon_withTrap hu t _ fun v hv => ?_
    split <;> simp [hv, hbody]

@[simp] theorem canon_onFrame (h : Hdr) (m : RingMsg) {body : State → State}
    (hbody : ∀ u, u.kept.canon = true → (body u).kept.canon = true) : (s.onFrame h m body).kept.canon = true := by
  unfold State.onFrame
  dsimp only
  (repeat' split) <;> simp [hc, hbody]

theorem canon_mbRun (a code : Nat) (role : Bool) (ok : List Nat → Bool) {run : List Nat → State}
    (hrun : ∀ ws, (run ws).kept.canon = true) : (s.mbRun a code role ok run).kept.canon = true := by
  unfold State.mbRun
  (repeat' split) <;> simp [hc, hrun]

end

theorem canon_reset : State.reset.kept.canon = true := rfl

/-! The operations that write a memory, the ledger's table or the published position, and those built on them. -/

@[simp] theorem canon_dmFresh (s : State) (a : Nat) (n : Nat) (hc : s.kept.canon = true) : (s.dmFresh a n).kept.canon = true := by
  induction n generalizing s a with
  | zero => exact hc
  | succ n ih => exact ih _ _ (by simp [hc])

@[simp] theorem canon_dmStore (s : State) (a n v : Nat) (hc : s.kept.canon = true) :
    (s.dmStore a n v).kept.canon = true := canon_dmFresh _ _ _ (by simp [memWf_memStore, hc])

@[simp] theorem canon_dmPut (s : State) (a : Nat) (bs : List Byte) (hc : s.kept.canon = true) :
    (s.dmPut a bs).kept.canon = true := canon_dmFresh _ _ _ (by simp [memWf_memPut, hc])

@[simp] theorem canon_setOrder (s : State) (h : Nat) (o : Option Order) (hc : s.kept.canon = true) :
    (s.setOrder h o).kept.canon = true := by
  simp [State.setOrder, tabWf_tabSet, hc]

@[simp] theorem canon_submitAt (s : State) (h n a word pred : Nat) (body : List Byte) (hc : s.kept.canon = true) :
    (s.submitAt h n a word pred body).kept.canon = true := by
  simp [State.submitAt, hc]

@[simp] theorem canon_submitDo (s : State) (a word pred : Nat) (body : List Byte) (hc : s.kept.canon = true) :
    (s.submitDo a word pred body).kept.canon = true := by
  simp [State.submitDo, hc]

@[simp] theorem canon_settleDo (s : State) (h : Nat) (o : Order) (result : Nat) (hc : s.kept.canon = true) :
    (s.settleDo h o result).kept.canon = true := by
  simp [State.settleDo, hc]

@[simp] theorem canon_submitMirrored (s : State) (h n a word pred : Nat) (body : List Byte) (hc : s.kept.canon = true) :
    (s.submitMirrored h n a word pred body).kept.canon = true := by
  unfold State.submitMirrored
  split <;> simp [hc]

@[simp] theorem canon_settle (s : State) (h : Nat) (o : Order) (result incident : Nat) (hc : s.kept.canon = true) :
    (s.settle h o result incident).kept.canon = true := by
  simp [State.settle, hc]

@[simp] theorem canon_settleDamaged (s : State) (a b : Nat) (n : Nat) (hc : s.kept.canon = true) :
    (s.settleDamaged a b n).kept.canon = true := by
  induction n generalizing s with
  | zero => simp [State.settleDamaged, hc]
  | succ n ih =>
    rw [State.settleDamaged]
    split <;> simp [ih, hc]

@[simp] theorem canon_returnOrders (s : State) (t : Nat) (l : List (Nat × Option Order)) (hc : s.kept.canon = true) :
    (s.returnOrders t l).kept.canon = true := by
  induction l generalizing s with
  | nil => exact hc
  | cons e l ih =>
    obtain ⟨h, o⟩ := e
    cases o with
    | none => simp [State.returnOrders, ih, hc]
    | some o =>
      rw [State.returnOrders]
      split
      · refine ih _ (canon_settleDamaged _ _ _ _ ?_)
        split <;> simp [hc]
      · exact ih _ hc

@[simp] theorem canon_hvRamp (s : State) (h : Nat) (hc : s.kept.canon = true) : (s.hvRamp h).kept.canon = true := by
  simp [State.hvRamp, hc]

@[simp] theorem canon_basePeriod (s : State) (adc : List (Option Int)) (hc : s.kept.canon = true) :
    (s.basePeriod adc).kept.canon = true := by
  simp +contextual [State.basePeriod, hc]

@[simp] theorem canon_landPiece (s : State) (c : Nvme) (skip : Nat) (data : List Byte) (f : Fetch) (hc : s.kept.canon = true) :
    (s.landPiece c skip data f).kept.canon = true := by
  simp [State.landPiece, memWf_memPut, hc]

@[simp] theorem canon_readCame (s : State) (c : Nvme) (data : List Byte) (hc : s.kept.canon = true) :
    (s.readCame c data).kept.canon = true := by
  refine canon_foldl ?_ (fun u p hu => ?_) _
  · simp +contextual [hc]
  · split
    · split <;> simp [hu]
    · exact hu

@[simp] theorem canon_tellerResetDo (s : State) (t : Nat) (hc : s.kept.canon = true) : (s.tellerResetDo t).kept.canon = true := by
  simp [State.tellerResetDo, hc]

@[simp] theorem canon_tellerReset (s : State) (t : Nat) (hc : s.kept.canon = true) : (s.tellerReset t).kept.canon = true := by
  simp [State.tellerReset, hc]

@[simp] theorem canon_tellerResetDue (s : State) (t : Nat) (hc : s.kept.canon = true) :
    (s.tellerResetDue t).kept.canon = true := by
  simp [State.tellerResetDue, hc]

@[simp] theorem canon_managerPublish (s : State) (hc : s.kept.canon = true) : s.managerPublish.kept.canon = true := by
  simp [State.managerPublish, hc]

@[simp] theorem canon_masterMoved (s : State) (hc : s.kept.canon = true) : s.masterMoved.kept.canon = true := by
  simp [State.masterMoved, hc]

@[simp] theorem canon_publishEst (s : State) (hc : s.kept.canon = true) : s.publishEst.kept.canon = true := by
  simp [State.publishEst, hc]

@[simp] theorem canon_posTick (s : State) (hc : s.kept.canon = true) : s.posTick.kept.canon = true := by
  unfold State.posTick
  (repeat' split) <;> simp [hc]

theorem canon_escalate {s : State} (b src : Nat) (hc : s.kept.canon = true) :
    (s.escalate b src).all (fun u => u.kept.canon) = true := by
  unfold State.escalate
  (repeat' split) <;> simp [hc]

@[simp] theorem canon_escalateSet (s : State) (b x : Nat) (hc : s.kept.canon = true) : (s.escalateSet b x).kept.canon = true := by
  unfold State.escalateSet
  split
  · split
    · rename_i u hu
      have escalated := canon_escalate b x hc
      rw [hu] at escalated
      simp_all
    · exact hc
  · exact hc

@[simp] theorem canon_graceEnd (s : State) (b : Nat) (hc : s.kept.canon = true) : (s.graceEnd b).kept.canon = true := by
  unfold State.graceEnd
  dsimp only
  (repeat' split) <;> simp +contextual [hc]

@[simp] theorem canon_takeDo (s : State) (t h : Nat) (o : Order) (hc : s.kept.canon = true) :
    (s.takeDo t h o).kept.canon = true := by
  simp [State.takeDo, hc]

@[simp] theorem canon_hostEffect (s : State) (a code : Nat) (ws : List Nat) (reply : Nat) (hc : s.kept.canon = true) :
    (s.hostEffect a code ws reply).kept.canon = true := by
  unfold State.hostEffect
  dsimp only
  split <;> simp [hc]

@[simp] theorem canon_settleBefore (s : State) (o : Order) (hc : s.kept.canon = true) : (s.settleBefore o).kept.canon = true := by
  simp +contextual [State.settleBefore, hc]

@[simp] theorem canon_settleMirrored (s : State) (t h result : Nat) (hc : s.kept.canon = true) :
    (s.settleMirrored t h result).kept.canon = true := by
  unfold State.settleMirrored
  (repeat' split) <;> simp [hc]

@[simp] theorem canon_eventSettle (s : State) (e : EventRec) (hc : s.kept.canon = true) :
    (s.eventSettle e).kept.canon = true := by
  unfold State.eventSettle
  dsimp only
  (repeat' split) <;> simp [hc]

@[simp] theorem canon_shadowEffect (s : State) (t : Nat) (op : ShadowOp) (status : Nat) (data : List Byte) (hc : s.kept.canon = true) :
    (s.shadowEffect t op status data).kept.canon = true := by
  unfold State.shadowEffect
  dsimp only
  (repeat' split) <;> simp [hc]

@[simp] theorem canon_shadowData (s : State) (op : ShadowOp) (status : Nat) (data : List Byte) (hc : s.kept.canon = true) :
    (s.shadowData op status data).kept.canon = true := by
  unfold State.shadowData
  (repeat' split) <;> simp [hc]

@[simp] theorem canon_todoApply (s : State) (e : Todo) (hc : s.kept.canon = true) : (s.todoApply e).kept.canon = true := by
  unfold State.todoApply
  (repeat' split) <;> simp [hc]

@[simp] theorem canon_runTodo (s : State) (n : Nat) (hc : s.kept.canon = true) : (s.runTodo n).kept.canon = true := by
  induction n generalizing s with
  | zero => simp [State.runTodo, hc]
  | succ n ih =>
    unfold State.runTodo
    (repeat' split) <;> simp [ih, hc]

@[simp] theorem canon_todoAdd (s : State) (r : MirRec) (hc : s.kept.canon = true) : (s.todoAdd r).kept.canon = true := by
  simp [State.todoAdd, hc]

@[simp] theorem canon_flushTodo (s : State) (l : List Todo) (hc : s.kept.canon = true) : (s.flushTodo l).kept.canon = true := by
  induction l generalizing s with
  | nil => simp [State.flushTodo, hc]
  | cons a l ih =>
    unfold State.flushTodo
    (repeat' split) <;> simp [ih, hc]

@[simp] theorem canon_todoKnow (s : State) (r : MirRec) (op : ShadowOp) (hc : s.kept.canon = true) :
    (s.todoKnow r op).kept.canon = true := by
  unfold State.todoKnow
  split <;> simp [hc]

@[simp] theorem canon_submitMsg (s : State) (m : Msg) (hc : s.kept.canon = true) : (s.submitMsg m).2.kept.canon = true := by
  unfold State.submitMsg
  dsimp only
  (repeat' split) <;> simp [hc]

@[simp] theorem canon_recvLive (s : State) (t rd gt : Nat) (hc : s.kept.canon = true) :
    (s.recvLive t rd gt).kept.canon = true := by
  unfold State.recvLive
  split <;> simp [hc]

@[simp] theorem canon_takeLive (s : State) (t rd gs gt : Nat) (hc : s.kept.canon = true) :
    (s.takeLive t rd gs gt).kept.canon = true := by
  unfold State.takeLive
  dsimp only
  (repeat' split) <;> simp [hc]

@[simp] theorem canon_settleNoted (s : State) (h : Nat) (o : Order) (result : Nat) (hc : s.kept.canon = true) :
    (s.settleNoted h o result).kept.canon = true := by
  simp [State.settleNoted, hc]

@[simp] theorem canon_settleLive (s : State) (t rd h result : Nat) (hc : s.kept.canon = true) :
    (s.settleLive t rd h result).kept.canon = true := by
  unfold State.settleLive
  (repeat' split) <;> simp [hc]

@[simp] theorem canon_submitLive (s : State) (t rd gt : Nat) (hc : s.kept.canon = true) :
    (s.submitLive t rd gt).kept.canon = true := by
  unfold State.submitLive
  dsimp only
  split <;> simp [hc]

@[simp] theorem canon_mbpostLive (s : State) (t rd gs gt : Nat) (hc : s.kept.canon = true) :
    (s.mbpostLive t rd gs gt).kept.canon = true := by
  unfold State.mbpostLive
  split <;> simp [hc]

@[simp] theorem canon_shadowFinish (s : State) (t sub rd rs rt : Nat) (r : MirRec) (hc : s.kept.canon = true) :
    (s.shadowFinish t sub rd rs rt r).kept.canon = true := by
  simp [State.shadowFinish, hc]

@[simp] theorem canon_shadowOp (s : State) (t sub rd rs rt : Nat) {live : State → State}
    (hlive : ∀ u, u.kept.canon = true → (live u).kept.canon = true) (hc : s.kept.canon = true) :
    (s.shadowOp t sub rd rs rt live).kept.canon = true := by
  unfold State.shadowOp
  dsimp only
  (repeat' split) <;> simp [hc, hlive]

@[simp] theorem canon_mbDo (s : State) (a code : Nat) (ws reply : List Nat) (hc : s.kept.canon = true) :
    (s.mbDo a code ws reply).kept.canon = true := by
  simp [State.mbDo, hc]

@[simp] theorem canon_sendOut (s : State) (ep : Nat) (m : Msg) (hc : s.kept.canon = true) :
    (s.sendOut ep m).2.kept.canon = true := by
  unfold State.sendOut
  dsimp only
  (repeat' split) <;> simp [hc]

@[simp] theorem canon_portHost (s : State) (a : Nat) (bs : List Byte) (hc : s.kept.canon = true) :
    (s.portHost a bs).kept.canon = true := by
  unfold State.portHost
  split <;> simp [hc]

@[simp] theorem canon_snapshotClear (s : State) (hc : s.kept.canon = true) : s.snapshotClear.kept.canon = true := by
  simp [State.snapshotClear, hc, tabWf]

@[simp] theorem canon_snapshotOrder (s : State) (h : Nat) (o : Order) (hc : s.kept.canon = true) :
    (s.snapshotOrder h o).kept.canon = true := by
  simp [State.snapshotOrder, hc]

@[simp] theorem canon_snapshotPiece (s : State) (x : SnapPiece) (hc : s.kept.canon = true) :
    (s.snapshotPiece x).kept.canon = true := by
  unfold State.snapshotPiece
  split <;> simp [hc]

@[simp] theorem canon_mirrorTeller (s : State) (r : MirRec) (hc : s.kept.canon = true) :
    (s.mirrorTeller r).kept.canon = true := by
  unfold State.mirrorTeller
  (repeat' split) <;> simp [hc]

@[simp] theorem canon_mirrorApply (s : State) (r : MirRec) (hc : s.kept.canon = true) : (s.mirrorApply r).kept.canon = true := by
  unfold State.mirrorApply
  split <;> simp [hc]

@[simp] theorem canon_mirrorNext (s : State) (r : MirRec) (hc : s.kept.canon = true) : (s.mirrorNext r).kept.canon = true := by
  simp [State.mirrorNext, hc]

@[simp] theorem canon_mirrorAhead (s : State) (n : Nat) (hc : s.kept.canon = true) : (s.mirrorAhead n).kept.canon = true := by
  induction n generalizing s with
  | zero => simp [State.mirrorAhead, hc]
  | succ n ih =>
    rw [State.mirrorAhead]
    split <;> simp [ih, hc]

@[simp] theorem canon_mirrorOrder (s : State) (r : MirRec) (hc : s.kept.canon = true) : (s.mirrorOrder r).kept.canon = true := by
  unfold State.mirrorOrder
  dsimp only
  (repeat' split) <;> simp [hc]

@[simp] theorem canon_settleMirror (s : State) (hc : s.kept.canon = true) : s.settleMirror.kept.canon = true := by
  simp [State.settleMirror, hc]

@[simp] theorem canon_takeOver (s0 : State) (hc : s0.kept.canon = true) : s0.takeOver.kept.canon = true := by
  unfold State.takeOver
  dsimp only
  split <;> simp [hc]

@[simp] theorem canon_swapUp (s0 : State) (b : Nat) (hc : s0.kept.canon = true) : (s0.swapUp b).kept.canon = true := by
  unfold State.swapUp
  dsimp only
  split <;> simp [hc]

@[simp] theorem canon_swapArrived (s : State) (hc : s.kept.canon = true) : s.swapArrived.kept.canon = true := by
  unfold State.swapArrived
  split <;> simp [hc]

@[simp] theorem canon_stepWall (s : State) (sec ns : Nat) (hc : s.kept.canon = true) : (s.stepWall sec ns).kept.canon = true := by
  simp [State.stepWall, hc]

@[simp] theorem canon_cldAccept (s : State) (sec ns : Nat) (hc : s.kept.canon = true) :
    (s.cldAccept sec ns).kept.canon = true := by
  simp [State.cldAccept, hc]

@[simp] theorem canon_cldCommit (s : State) (hc : s.kept.canon = true) : s.cldCommit.kept.canon = true := by
  unfold State.cldCommit
  split <;> simp [hc]

@[simp] theorem canon_ringSubmit (s : State) (dst : Nat) (m : Msg) (hc : s.kept.canon = true) :
    (s.ringSubmit dst m).kept.canon = true := by
  simp [State.ringSubmit, hc]

@[simp] theorem canon_startLine0 (s : State) (hc : s.kept.canon = true) : s.startLine0.kept.canon = true := by
  simp [State.startLine0, hc]

@[simp] theorem canon_pmFresh (s : State) (a : Nat) (n : Nat) (hc : s.kept.canon = true) : (s.pmFresh a n).kept.canon = true := by
  induction n generalizing s a with
  | zero => exact hc
  | succ n ih => exact ih _ _ (by simp [hc])

@[simp] theorem canon_pmPut (s : State) (a : Nat) (bs : List Byte) (hc : s.kept.canon = true) :
    (s.pmPut a bs).kept.canon = true := canon_pmFresh _ _ _ (by simp [memWf_memPut, hc])

@[simp] theorem canon_sectWrite (s : State) (x : Sect) (hc : s.kept.canon = true) : (s.sectWrite x).kept.canon = true := by
  unfold State.sectWrite
  split
  · simp [hc]
  · exact canon_dmFresh _ _ _ (by simp [memWf_memPut, hc])
  · exact canon_dmFresh _ _ _ (by simp [memWf_memPut, hc])
  · simp [hc]
  · simp [hc]
  · exact hc

@[simp] theorem canon_sectAll (s : State) (l : List Sect) (hc : s.kept.canon = true) : (s.sectAll l).kept.canon = true := by
  induction l generalizing s with
  | nil => simp [State.sectAll, hc]
  | cons a l ih => simp [State.sectAll, ih, hc]

@[simp] theorem canon_loadImage (s : State) (bs : List Byte) (hc : s.kept.canon = true) : (s.loadImage bs).kept.canon = true := by
  simp [State.loadImage, hc]

@[simp] theorem canon_logicInit (s : State) (cause : Nat) (hc : s.kept.canon = true) : (s.logicInit cause).kept.canon = true := by
  simp [State.logicInit, hc, pm_wf_of_canon canon_reset, dm_wf_of_canon canon_reset, orders_wf_of_canon canon_reset]

@[simp] theorem canon_chipReset (s : State) (cause : Nat) (x : Straps) (hc : s.kept.canon = true) :
    (s.chipReset cause x).kept.canon = true := by
  simp [State.chipReset, hc]

@[simp] theorem canon_logicReset (s : State) (hc : s.kept.canon = true) : s.logicReset.kept.canon = true := by
  simp [State.logicReset, hc]

@[simp] theorem canon_glbReset (s : State) (v : Nat) (hc : s.kept.canon = true) : (s.glbReset v).kept.canon = true := by
  refine canon_keyed hc _ fun u hu => ?_
  dsimp only
  (repeat' split) <;> simp [hu]

@[simp] theorem canon_hardAction (s : State) (m : Nat) (hc : s.kept.canon = true) : (s.hardAction m).kept.canon = true := by
  simp [State.hardAction, hc]

@[simp] theorem canon_fltWrite (s : State) (a v : Nat) (fs : List Field) (hc : s.kept.canon = true) :
    (s.fltWrite a v fs).kept.canon = true := by
  unfold State.fltWrite
  (repeat' split) <;> simp [hc]

@[simp] theorem canon_timWrite (s : State) (a v : Nat) (fs : List Field) (hc : s.kept.canon = true) :
    (s.timWrite a v fs).kept.canon = true := by
  unfold State.timWrite
  (repeat' split) <;> simp [hc]

@[simp] theorem canon_profileCommit (s : State) (n : Nat) (hc : s.kept.canon = true) : (s.profileCommit n).kept.canon = true := by
  simp [State.profileCommit, hc]

@[simp] theorem canon_pllPortWrite (s : State) (n r a v : Nat) (fs : List Field) (hc : s.kept.canon = true) :
    (s.pllPortWrite n r a v fs).kept.canon = true := by
  unfold State.pllPortWrite
  (repeat' split) <;> simp [hc]

@[simp] theorem canon_scnWrite (s : State) (a v : Nat) (fs : List Field) (hc : s.kept.canon = true) :
    (s.scnWrite a v fs).kept.canon = true := by
  unfold State.scnWrite
  (repeat' split) <;> simp [hc]

@[simp] theorem canon_pmWrite (s : State) (a v : Nat) (hc : s.kept.canon = true) : (s.pmWrite a v).kept.canon = true := by
  simp [State.pmWrite, hc]

@[simp] theorem canon_tlrWrite (s : State) (o : Origin) (a v : Nat) (fs : List Field) (hc : s.kept.canon = true) :
    (s.tlrWrite o a v fs).kept.canon = true := by
  unfold State.tlrWrite
  (repeat' split) <;> simp +contextual [hc]

@[simp] theorem canon_tlrMemWrite (s : State) (a v : Nat) (hc : s.kept.canon = true) : (s.tlrMemWrite a v).kept.canon = true := by
  simp [State.tlrMemWrite, hc]

@[simp] theorem canon_blockWrite (s : State) (o : Origin) (a v : Nat) (fs : List Field) (hc : s.kept.canon = true) :
    (s.blockWrite o a v fs).kept.canon = true := by
  unfold State.blockWrite
  split <;> simp [hc]

@[simp] theorem canon_mapWrite (s : State) (o : Origin) (a v : Nat) (kind : RegKind) (fs : List Field) (hc : s.kept.canon = true) :
    (s.mapWrite o a v kind fs).kept.canon = true := by
  unfold State.mapWrite
  (repeat' split) <;> simp [hc]

@[simp] theorem canon_windowWrite (s : State) (o : Origin) (a v : Nat) (hc : s.kept.canon = true) :
    (s.windowWrite o a v).kept.canon = true := by
  unfold State.windowWrite
  split <;> simp [hc]

@[simp] theorem canon_regSpaceWrite (s : State) (o : Origin) (a v : Nat) (hc : s.kept.canon = true) :
    (s.regSpaceWrite o a v).kept.canon = true := by
  unfold State.regSpaceWrite
  (repeat' split) <;> simp [hc]

@[simp] theorem canon_bar0Write (s : State) (o : Origin) (a v : Nat) (hc : s.kept.canon = true) :
    (s.bar0Write o a v).kept.canon = true := by
  unfold State.bar0Write
  split <;> simp [hc]

@[simp] theorem canon_aliasWrite (s : State) (v : Nat) (hc : s.kept.canon = true) : (s.aliasWrite v).kept.canon = true := by
  simp [State.aliasWrite, hc]

@[simp] theorem canon_bar2Write (s : State) (a v : Nat) (hc : s.kept.canon = true) : (s.bar2Write a v).kept.canon = true := by
  unfold State.bar2Write
  (repeat' split) <;> simp [hc]

@[simp] theorem canon_hostWrite (s : State) (bar a v : Nat) (hc : s.kept.canon = true) :
    (s.hostWrite bar a v).kept.canon = true := by
  unfold State.hostWrite
  split <;> simp [hc]

@[simp] theorem canon_actWrite (s : State) (owner a v : Nat) (hc : s.kept.canon = true) :
    (s.actWrite owner a v).kept.canon = true := by
  unfold State.actWrite
  (repeat' split) <;> simp +contextual [hc]

@[simp] theorem canon_act (s : State) (a : Act) (hc : s.kept.canon = true) : (s.act a).kept.canon = true := by
  unfold State.act
  split <;> simp [hc]

@[simp] theorem canon_drain (s : State) (n : Nat) (hc : s.kept.canon = true) : (s.drain n).kept.canon = true := by
  induction n generalizing s with
  | zero => simp [State.drain, hc]
  | succ n ih =>
    unfold State.drain
    (repeat' split) <;> simp [ih, hc]

@[simp] theorem canon_drainStream (s : State) (hc : s.kept.canon = true) : s.drainStream.kept.canon = true := by
  simp [State.drainStream, hc]

@[simp] theorem canon_clock (s : State) (hc : s.kept.canon = true) : s.clock.kept.canon = true := by
  unfold State.clock
  split <;> simp [hc]

@[simp] theorem canon_dmaBeatWrite (s : State) (sp a : Nat) (bs : List Byte) (hc : s.kept.canon = true) :
    (s.dmaBeatWrite sp a bs).kept.canon = true := by
  unfold State.dmaBeatWrite
  split
  · simp [memWf_memPut, hc]
  · exact canon_dmFresh _ _ _ (by simp [memWf_memPut, hc])
  · simp [hc]
  · exact hc

/-! The commands. -/

/-- The command ends in a next state, canonical if the state was. -/
def Tidy (s : State) (o : Host.Outcome State Fault Refusal) : Prop :=
  ∃ u, o = .next u ∧ (s.kept.canon = true → u.kept.canon = true)

@[simp] theorem tidy_next {s u : State} : Tidy s (.next u) ↔ (s.kept.canon = true → u.kept.canon = true) := by simp [Tidy]

theorem tidy_of_calm {s : State} {o : Host.Outcome State Fault Refusal} (h : Calm s o) : Tidy s o := by
  obtain ⟨u, rfl, hu⟩ := h
  rw [tidy_next, hu]
  exact id

theorem tidy_storeG (t rt rs len cycles : Nat) (imm : BitVec 16) (s : State) : Tidy s (storeG t rt rs len cycles imm s) := by
  rw [storeG, tidy_next]
  intro hc
  refine canon_execI hc t fun u hu => canon_access hu _ _ _ _ _ fun v hv => ?_
  simp [hv]

theorem tidy_atomicOp (t rd rs rt : Nat) (f : Word → Word → Word) (s : State) : Tidy s (atomicOp t rd rs rt f s) := by
  rw [atomicOp, tidy_next]
  intro hc
  refine canon_execI hc t fun u hu => canon_access hu _ _ _ _ _ fun v hv => ?_
  simp [hv]

theorem tidy_execPowerOnReset (x : Straps) (edgesA edgesB : Bool) (s : State) : Tidy s (execPowerOnReset x edgesA edgesB s) := by
  rw [execPowerOnReset, tidy_next]
  intro hc
  simp [hc]

theorem tidy_execSupplyDrop (s : State) : Tidy s (execSupplyDrop s) := by
  rw [execSupplyDrop, tidy_next]
  intro hc
  simp [hc]

theorem tidy_execResetN (x : Straps) (s : State) : Tidy s (execResetN x s) := by
  rw [execResetN, tidy_next]
  intro hc
  simp [hc]

theorem tidy_execChiprst (key : Nat) (x : Straps) (s : State) : Tidy s (execChiprst key x s) := by
  rw [execChiprst, tidy_next]
  intro hc
  split
  · exact hc
  · exact canon_keyed hc _ fun u hu => by simp [hu]

theorem tidy_execLogicrst (key : Nat) (s : State) : Tidy s (execLogicrst key s) := by
  rw [execLogicrst, tidy_next]
  intro hc
  split
  · exact hc
  · exact canon_keyed hc _ fun u hu => by simp [hu]

theorem tidy_execRegisterWrite (bar a v be : Nat) (s : State) : Tidy s (execRegisterWrite bar a v be s) := by
  rw [execRegisterWrite, tidy_next]
  intro hc
  split <;> simp [hc]

theorem tidy_execRoleConfirm (s : State) : Tidy s (execRoleConfirm s) := by
  rw [execRoleConfirm, tidy_next]
  intro hc
  (repeat' split) <;> simp [hc]

theorem tidy_execEncoderEdge (n : Nat) (e : EncEvent) (vel : Int) (s : State) : Tidy s (execEncoderEdge n e vel s) := by
  rw [execEncoderEdge, tidy_next]
  intro hc
  dsimp only
  (repeat' split) <;> simp [hc]

theorem tidy_execCldCommit (s : State) : Tidy s (execCldCommit s) := by
  rw [execCldCommit, tidy_next]
  intro hc
  simp [hc]

theorem tidy_execPtpSync (offset : Int) (mpd : Nat) (s : State) : Tidy s (execPtpSync offset mpd s) := by
  rw [execPtpSync, tidy_next]
  intro hc
  dsimp only
  (repeat' split) <;> simp [hc]

theorem tidy_execXadd (t rd rs rt : Nat) (s : State) : Tidy s (execXadd t rd rs rt s) := tidy_atomicOp ..

theorem tidy_execXswap (t rd rs rt : Nat) (s : State) : Tidy s (execXswap t rd rs rt s) := tidy_atomicOp ..

theorem tidy_execSw (t rt rs : Nat) (imm : BitVec 16) (s : State) : Tidy s (execSw t rt rs imm s) := tidy_storeG ..

theorem tidy_execSh (t rt rs : Nat) (imm : BitVec 16) (s : State) : Tidy s (execSh t rt rs imm s) := tidy_storeG ..

theorem tidy_execSb (t rt rs : Nat) (imm : BitVec 16) (s : State) : Tidy s (execSb t rt rs imm s) := tidy_storeG ..

theorem tidy_execWrrTakesEffect (t : Nat) (s : State) : Tidy s (execWrrTakesEffect t s) := by
  rw [execWrrTakesEffect, tidy_next]
  intro hc
  (repeat' split) <;> simp [hc]

theorem tidy_execFabricTimeout (t : Nat) (rdr : Option Nat) (s : State) : Tidy s (execFabricTimeout t rdr s) := by
  unfold execFabricTimeout
  rw [tidy_next]
  intro hc
  split
  · exact hc
  · split
    · exact canon_execD hc _ _ fun u hu => by simp [hu]
    · split <;> simp [hc]

theorem tidy_execPst (t rt rs : Nat) (imm : BitVec 16) (s : State) : Tidy s (execPst t rt rs imm s) := by
  rw [execPst, tidy_next]
  intro hc
  refine canon_execI hc t fun u hu => canon_access hu _ _ _ _ _ fun v hv => ?_
  simp [hv]

theorem tidy_execClaim (t rd rs : Nat) (s : State) : Tidy s (execClaim t rd rs s) := by
  rw [execClaim, tidy_next]
  intro hc
  simp +contextual [hc]

theorem tidy_execRecv (t rd rt : Nat) (s : State) : Tidy s (execRecv t rd rt s) := by
  rw [execRecv, tidy_next]
  intro hc
  exact canon_execD hc _ _ fun u hu => canon_shadowOp _ _ _ _ _ _ (fun v hv => by simp [hv]) hu

theorem tidy_execCommit (t rd rs : Nat) (s : State) : Tidy s (execCommit t rd rs s) := by
  rw [execCommit, tidy_next]
  intro hc
  split
  · exact canon_execD hc _ _ fun u hu => canon_access hu _ _ _ _ _ fun v hv =>
      canon_shadowOp _ _ _ _ _ _ (fun w hw => by simp [hw]) hv
  · exact canon_execD hc _ _ fun u hu => by simp [hu]

theorem tidy_execTake (t rd rs rt : Nat) (s : State) : Tidy s (execTake t rd rs rt s) := by
  rw [execTake, tidy_next]
  intro hc
  exact canon_execD hc _ _ fun u hu => canon_shadowOp _ _ _ _ _ _ (fun v hv => by simp [hv]) hu

theorem tidy_execSettle (t rd rs rt : Nat) (s : State) : Tidy s (execSettle t rd rs rt s) := by
  rw [execSettle, tidy_next]
  intro hc
  exact canon_execD hc _ _ fun u hu => canon_shadowOp _ _ _ _ _ _ (fun v hv => by simp [hv]) hu

theorem tidy_execMbpost (t rd rs rt : Nat) (s : State) : Tidy s (execMbpost t rd rs rt s) := by
  rw [execMbpost, tidy_next]
  intro hc
  exact canon_execD hc _ _ fun u hu => canon_access hu _ _ _ _ _ fun v hv =>
    canon_shadowOp _ _ _ _ _ _ (fun w hw => by simp [hw]) hv

theorem tidy_execEvpost (t rd rs rt : Nat) (s : State) : Tidy s (execEvpost t rd rs rt s) := by
  rw [execEvpost, tidy_next]
  intro hc
  exact canon_execD hc _ _ fun u hu => canon_access hu _ _ _ _ _ fun v hv =>
    canon_shadowOp _ _ _ _ _ _ (fun w hw => by simp [hw]) hv

theorem tidy_execTlrRst (key mask : Nat) (s : State) : Tidy s (execTlrRst key mask s) := by
  rw [execTlrRst, tidy_next]
  intro hc
  split
  · exact hc
  · split
    · exact canon_eachTeller hc (fun t u hu => by simp [hu]) _ _
    · simp [hc]

theorem tidy_execComparatorCrossing (s : State) : Tidy s (execComparatorCrossing s) := by
  rw [execComparatorCrossing, tidy_next]
  intro hc
  split <;> simp [hc]

theorem tidy_execActionFabricAck (s : State) : Tidy s (execActionFabricAck s) := by
  rw [execActionFabricAck, tidy_next]
  intro hc
  (repeat' split) <;> simp [hc]

theorem tidy_execActionWriteTimeout (s : State) : Tidy s (execActionWriteTimeout s) := by
  rw [execActionWriteTimeout, tidy_next]
  intro hc
  split <;> simp [hc]

theorem tidy_execHeldComparatorFire (s : State) : Tidy s (execHeldComparatorFire s) := by
  rw [execHeldComparatorFire, tidy_next]
  intro hc
  simp [hc]

theorem tidy_execOrderEccError (h : Nat) (s : State) : Tidy s (execOrderEccError h s) := by
  rw [execOrderEccError, tidy_next]
  intro hc
  (repeat' split) <;> simp [hc]

theorem tidy_execCommitAccept (s : State) : Tidy s (execCommitAccept s) := by
  rw [execCommitAccept, tidy_next]
  intro hc
  (repeat' split) <;> simp [hc]

theorem tidy_execProfileCommit (n : Nat) (s : State) : Tidy s (execProfileCommit n s) := by
  rw [execProfileCommit, tidy_next]
  intro hc
  split
  · exact hc
  · split
    · unfold State.atReg
      split <;> simp [hc]
    · exact hc

theorem tidy_execNorefTimeout (s : State) : Tidy s (execNorefTimeout s) := by
  rw [execNorefTimeout, tidy_next]
  intro hc
  dsimp only
  (repeat' split) <;> simp [hc]

theorem tidy_execNvmeCompletion (drive cid status : Nat) (data : List Byte) (s : State) : Tidy s (execNvmeCompletion drive cid status data s) := by
  rw [execNvmeCompletion, tidy_next]
  intro hc
  (repeat' split) <;> simp [hc]

theorem tidy_execDmaWriteComplete (n : Nat) (s : State) : Tidy s (execDmaWriteComplete n s) := by
  rw [execDmaWriteComplete, tidy_next]
  intro hc
  (repeat' split) <;> simp [hc]

theorem tidy_execDmaTimeout (n what : Nat) (s : State) : Tidy s (execDmaTimeout n what s) := by
  rw [execDmaTimeout, tidy_next]
  intro hc
  dsimp only
  (repeat' split) <;> simp [hc]

theorem tidy_execPwmPeriod (i : Nat) (adc : List (Option Int)) (s : State) : Tidy s (execPwmPeriod i adc s) := by
  rw [execPwmPeriod, tidy_next]
  intro hc
  split
  · exact hc
  · split
    · exact hc
    · dsimp only
      rw [kept_interlock]
      split <;> simp [hc]

theorem tidy_execSwitchTransition (c : Nat) (hs : Bool) (start ns : Nat) (s : State) : Tidy s (execSwitchTransition c hs start ns s) := by
  rw [execSwitchTransition, tidy_next]
  intro hc
  simp [hc]

theorem tidy_execThermalHardAction (m : Nat) (s : State) : Tidy s (execThermalHardAction m s) := by
  rw [execThermalHardAction, tidy_next]
  intro hc
  split <;> simp [hc]

theorem tidy_execGraceExpiry (b : Nat) (s : State) : Tidy s (execGraceExpiry b s) := by
  rw [execGraceExpiry, tidy_next]
  intro hc
  split <;> simp [hc]

theorem tidy_execMirror (h : Hdr) (r : MirRec) (s : State) : Tidy s (execMirror h r s) := by
  rw [execMirror, tidy_next]
  intro hc
  refine canon_onFrame hc _ _ fun u hu => ?_
  (repeat' split) <;> simp [hu]

theorem tidy_execProbeTimeout (s : State) : Tidy s (execProbeTimeout s) := by
  rw [execProbeTimeout, tidy_next]
  intro hc
  dsimp only
  (repeat' split) <;> simp [hc]

theorem tidy_execRelinquish (h : Hdr) (s : State) : Tidy s (execRelinquish h s) := by
  rw [execRelinquish, tidy_next]
  intro hc
  refine canon_onFrame hc _ _ fun u hu => ?_
  split <;> simp [hu]

theorem tidy_execSwapBoundary (s : State) : Tidy s (execSwapBoundary s) := by
  rw [execSwapBoundary, tidy_next]
  intro hc
  (repeat' split) <;> simp [hc]

theorem tidy_execBody (a : Nat) (s : State) : Tidy s (execBody a s) := by
  rw [execBody, tidy_next]
  intro hc
  split
  · exact hc
  · exact canon_mbRun hc _ _ _ _ fun ws => by simp [hc]

theorem tidy_execSubmit (a : Nat) (s : State) : Tidy s (execSubmit a s) := by
  rw [execSubmit, tidy_next]
  intro hc
  split
  · exact hc
  · exact canon_mbRun hc _ _ _ _ fun ws => by simp [hc]

theorem tidy_execSend (a : Nat) (s : State) : Tidy s (execSend a s) := by
  rw [execSend, tidy_next]
  intro hc
  split
  · exact hc
  · refine canon_mbRun hc _ _ _ _ fun ws => ?_
    dsimp only
    split
    · simp [hc]
    · split <;> simp [hc]

theorem tidy_execMbLacq (a : Nat) (s : State) : Tidy s (execMbLacq a s) := by
  rw [execMbLacq, tidy_next]
  intro hc
  split
  · exact hc
  · exact canon_mbRun hc _ _ _ _ fun ws => by simp [hc]

theorem tidy_execMbLrel (a : Nat) (s : State) : Tidy s (execMbLrel a s) := by
  rw [execMbLrel, tidy_next]
  intro hc
  split
  · exact hc
  · exact canon_mbRun hc _ _ _ _ fun ws => by simp [hc]

theorem tidy_execLoad (a : Nat) (bytes : List Byte) (s : State) : Tidy s (execLoad a bytes s) := by
  rw [execLoad, tidy_next]
  intro hc
  split
  · exact hc
  · refine canon_mbRun hc _ _ _ _ fun ws => ?_
    dsimp only
    rw [kept_post]
    split <;> simp [hc]

theorem tidy_execMsg (h : Hdr) (m : Msg) (s : State) : Tidy s (execMsg h m s) := by
  rw [execMsg, tidy_next]
  intro hc
  dsimp only
  (repeat' split) <;> simp +contextual [hc]

theorem tidy_execVltAliasdataWrite (v : Nat) (s : State) : Tidy s (execVltAliasdataWrite v s) := by
  rw [execVltAliasdataWrite, tidy_next]
  intro hc
  simp [hc]

theorem tidy_execWake (rtc : Nat) (s : State) : Tidy s (execWake rtc s) := by
  rw [execWake, tidy_next]
  intro hc
  simp [hc]

theorem tidy_execI2cWrite (dev a v : Nat) (s : State) : Tidy s (execI2cWrite dev a v s) := by
  rw [execI2cWrite, tidy_next]
  intro hc
  split <;> simp [hc]

theorem tidy_execIllegalWordFetch (t : Nat) (s : State) : Tidy s (execIllegalWordFetch t s) := by
  rw [execIllegalWordFetch, tidy_next]
  intro hc
  simp [hc]

theorem tidy_execTellerImageLoad (s : State) : Tidy s (execTellerImageLoad s) := by
  rw [execTellerImageLoad, tidy_next]
  intro hc
  (repeat' split) <;> simp [hc]

/-- Every command ends in a next state, canonical if the state was: the commands that write a memory or the ledger by the
lemmas above, every other one because it is calm. -/
theorem tidy_exec (s : State) (c : Instr) : Tidy s (exec c s) := by
  cases c with
  | powerOnReset => exact tidy_execPowerOnReset ..
  | supplyDrop => exact tidy_execSupplyDrop ..
  | resetN => exact tidy_execResetN ..
  | chiprst => exact tidy_execChiprst ..
  | logicrst => exact tidy_execLogicrst ..
  | registerWrite => exact tidy_execRegisterWrite ..
  | roleConfirm => exact tidy_execRoleConfirm ..
  | encoderEdge => exact tidy_execEncoderEdge ..
  | cldCommit => exact tidy_execCldCommit ..
  | ptpSync => exact tidy_execPtpSync ..
  | xadd => exact tidy_execXadd ..
  | xswap => exact tidy_execXswap ..
  | sw => exact tidy_execSw ..
  | sh => exact tidy_execSh ..
  | sb => exact tidy_execSb ..
  | wrrTakesEffect => exact tidy_execWrrTakesEffect ..
  | fabricTimeout => exact tidy_execFabricTimeout ..
  | pst => exact tidy_execPst ..
  | claim => exact tidy_execClaim ..
  | recv => exact tidy_execRecv ..
  | commit => exact tidy_execCommit ..
  | take => exact tidy_execTake ..
  | settle => exact tidy_execSettle ..
  | mbpost => exact tidy_execMbpost ..
  | evpost => exact tidy_execEvpost ..
  | tlrRst => exact tidy_execTlrRst ..
  | comparatorCrossing => exact tidy_execComparatorCrossing ..
  | actionFabricAck => exact tidy_execActionFabricAck ..
  | actionWriteTimeout => exact tidy_execActionWriteTimeout ..
  | heldComparatorFire => exact tidy_execHeldComparatorFire ..
  | orderEccError => exact tidy_execOrderEccError ..
  | commitAccept => exact tidy_execCommitAccept ..
  | profileCommit => exact tidy_execProfileCommit ..
  | norefTimeout => exact tidy_execNorefTimeout ..
  | nvmeCompletion => exact tidy_execNvmeCompletion ..
  | dmaWriteComplete => exact tidy_execDmaWriteComplete ..
  | dmaTimeout => exact tidy_execDmaTimeout ..
  | pwmPeriod => exact tidy_execPwmPeriod ..
  | switchTransition => exact tidy_execSwitchTransition ..
  | thermalHardAction => exact tidy_execThermalHardAction ..
  | graceExpiry => exact tidy_execGraceExpiry ..
  | mirror => exact tidy_execMirror ..
  | probeTimeout => exact tidy_execProbeTimeout ..
  | relinquish => exact tidy_execRelinquish ..
  | swapBoundary => exact tidy_execSwapBoundary ..
  | body => exact tidy_execBody ..
  | submit => exact tidy_execSubmit ..
  | send => exact tidy_execSend ..
  | mbLacq => exact tidy_execMbLacq ..
  | mbLrel => exact tidy_execMbLrel ..
  | load => exact tidy_execLoad ..
  | msg => exact tidy_execMsg ..
  | vltAliasdataWrite => exact tidy_execVltAliasdataWrite ..
  | wake => exact tidy_execWake ..
  | i2cWrite => exact tidy_execI2cWrite ..
  | illegalWordFetch => exact tidy_execIllegalWordFetch ..
  | tellerImageLoad => exact tidy_execTellerImageLoad ..
  | _ => exact tidy_of_calm (by simp [exec])

end Sys2Proof.Machine

namespace Sys2Proof.Machine

/-! A node that is off takes no command but a named few (R28, R280, R382, R390). -/

section

variable {s : State} (h : s.isOff = true)
include h

theorem next_off (u : State) : (Host.Outcome.next (if s.isOff then s else u) : Host.Outcome State Fault Refusal) = .next s :=
  congrArg _ (if_pos h)

theorem listens_off : s.listens = false := by simp [State.listens, h]

theorem onFrame_off (x : Hdr) (m : RingMsg) (body : State → State) :
    (Host.Outcome.next (s.onFrame x m body) : Host.Outcome State Fault Refusal) = .next s :=
  congrArg _ (onFrame_deaf body (listens_off h))

theorem nearFrame_off (x : Hdr) (body : State → State) :
    (Host.Outcome.next (s.nearFrame x body) : Host.Outcome State Fault Refusal) = .next s := by
  rw [State.nearFrame, rxFrame_deaf (listens_off h)]
  rfl

theorem execI_off (t : Nat) (body : State → State) :
    (Host.Outcome.next (s.execI t body) : Host.Outcome State Fault Refusal) = .next s :=
  congrArg _ (if_neg fun hr => hr.2.2.2.2 h)

theorem commit_off (t rd rs : Nat) : execCommit t rd rs s = .next s := by
  unfold execCommit
  split
  · exact execI_off h _ _
  · exact execI_off h _ _

theorem actionFabricAck_off : execActionFabricAck s = .next s := by
  unfold execActionFabricAck
  split
  · exact congrArg _ (if_pos (.inl h))
  · rfl

theorem actionWriteTimeout_off : execActionWriteTimeout s = .next s := by
  unfold execActionWriteTimeout
  split
  · exact congrArg _ (if_pos (.inl h))
  · rfl

theorem hello_off (x : Hdr) (serial strap role portmap dlyA dlyB : Nat) :
    execHello x serial strap role portmap dlyA dlyB s = .next s := by
  rw [execHello, rxFrame_deaf (listens_off h)]
  rfl

theorem i2cAcks_off (dev : Nat) : s.i2cAcks dev = false := by simp [State.i2cAcks, h]

theorem i2cWrite_off (dev a v : Nat) : execI2cWrite dev a v s = .next s := by
  rw [execI2cWrite, i2cAcks_off h]
  rfl

theorem i2cRead_off (dev a : Nat) : execI2cRead dev a s = .next s := by
  rw [execI2cRead, i2cAcks_off h]
  rfl

/-- Every command but the named few leaves the node as it is. -/
theorem exec_off {c : Instr} (hc : actsOff c = false) : exec c s = .next s := by
  cases c with
  | powerOnReset | supplyDrop | resetN | driveDieSupplyChange | heartbeatLoss | brakeComparator | lsiOpen
    | lsiSettled | lsiDiscrepancy | thermalShutdownRelease | wake | dormantEntry | jtagInstruction => cases hc
  | driveLinkFrame | wrrTakesEffect => exact congrArg _ (if_pos (.inr h))
  | encoderEdge | actionEntryWrite | sweepBoundary | switchTransition | driverFault | fltRun | linkctl
    | tellerImageLoad => exact congrArg _ (if_pos (.inl h))
  | add | sub | and | or | xor | sll | srl | sra | mul | mulh | mulhu | divu | remu | div | rem | min | max | minu
    | maxu | adds | subs | sel | clz | popc | xadd | xswap | cmpeq | cmpne | cmplt | cmpge | cmpltu | cmpgeu | qand
    | qor | qxor | qnot | pcmpeq | pcmplt | pcmpge | padd | psub | pmov | pmax | mvgp | mvpgl | mvpgh | paddi
    | paddfi | rdpos | pstn | pwrt | waitpos | arm | disarm | rdhwm | addi | andi | ori | xori | ldhi | slli | srli
    | srai | lw | lh | lhu | lb | lbu | sw | sh | sb | rdr | wrr | pld | pst | cmpeqi | cmplti | cmpltui | jmpr | b
    | bl | fence | halt | trap | eret | brk | rdcyc | waitev | tsig | evclr | claim | recv | take | settle | lacq
    | lrel | mbpost | evpost | dmakick | audit => exact execI_off h _ _
  | close | endrun | voidrep | void | mirror | watermark | mirack | mirreq | probe | probeans | relinquish
    | swapreq | swapack | msg | msgstat | stopreq | stopnow | assign | config => exact onFrame_off h _ _ _
  | ethernetFrame => exact congrArg _ (if_pos (.inr (.inr h)))
  | dlyprobe | dlyecho => exact nearFrame_off h _ _
  | commit => exact commit_off h ..
  | actionFabricAck => exact actionFabricAck_off h ..
  | actionWriteTimeout => exact actionWriteTimeout_off h ..
  | hello => exact hello_off h ..
  | i2cWrite => exact i2cWrite_off h ..
  | i2cRead => exact i2cRead_off h ..
  | _ => exact next_off h _

end

end Sys2Proof.Machine

namespace Sys2Proof.Machine

/-! A step, and a node that cools down; every command completes. -/

theorem step_tidy (s : State) : Tidy s (step s) := by
  cases hp : s.pending with
  | nil =>
    rw [step_nil s hp, tidy_next]
    exact canon_clock s
  | cons c cs =>
    rw [step_cons s hp]
    exact tidy_exec { s with pending := cs } c

theorem execThermalShutdownRelease_on {s : State} {temps : List Int} (hshut : s.pwr.thermalShut = true)
    (hheld : s.pwr.held = false) (hasleep : s.pwr.asleep = false) (hlen : temps.length = 2)
    (hcool : ∀ m, m < 2 → temps.getD m 0 < s.thmLevel thmShut m - (s.fld (THM_MTHR_HYST m) : Int)) :
    ∃ t, execThermalShutdownRelease temps s = .next t ∧ t.isOff = false := by
  have cool0 := hcool 0 (by decide)
  have cool1 := hcool 1 (by decide)
  have hc : s.pwr.thermalShut = true ∧ temps.length = 2 ∧
      decide (temps.getD 0 0 < s.thmLevel thmShut 0 - (s.fld (THM_MTHR_HYST 0) : Int)) = true ∧
      decide (temps.getD 1 0 < s.thmLevel thmShut 1 - (s.fld (THM_MTHR_HYST 1) : Int)) = true :=
    ⟨hshut, hlen, decide_eq_true cool0, decide_eq_true cool1⟩
  unfold execThermalShutdownRelease
  dsimp only
  rw [if_pos hc]
  refine ⟨_, rfl, ?_⟩
  simp [State.isOff, State.freeStraps, State.free, State.strapped, State.setPwr, State.setFld, State.setBool, hheld, hasleep]

/-- Settles O60: no command stops, each leaves the memories and the ledger's table canonical, and a node that is off takes
only the named few. -/
theorem everyCommandCompletes : Obligations.EveryCommandCompletes := by
  unfold Obligations.EveryCommandCompletes
  refine ⟨fun c s => ?_, fun c s t hs ht => ?_, step_tidy, fun c s hoff hc => exec_off hoff hc,
    fun temps s hshut hheld hasleep hlen hcool => execThermalShutdownRelease_on hshut hheld hasleep hlen hcool⟩
  · obtain ⟨u, hu, -⟩ := tidy_exec s c
    exact ⟨u, hu⟩
  · have kept := tidy_exec s c
    rw [ht, tidy_next] at kept
    exact kept hs

end Sys2Proof.Machine
